-- ==== Sys2Proof/Word.lean ====
section
/-! DEFINITION. The 32-bit register word of the BVX9512. -/

namespace Sys2Proof

/-- A register word: every register of BAR0, of a tile and of the Cellar is 32 bits wide (R35). -/
abbrev Word := BitVec 32

end Sys2Proof
end

