-- ==== Sys2Proof/Syntax.lean ====
section
/-! DEFINITION. The commands of the BVX9512: one constructor per row of spec/opcode_table.json, in the table's order.
A command is what reaches the device from outside it (a register access, a frame, an edge, an operation of a host
packet) or a moment the spec names (a deadline, a period, a threshold). Operands are plain data. -/

namespace Sys2Proof

/-- Where a command packet came from and its entry header (R381): `src` 0-255 is SQ n, 256 and 257 are the CAN FD
ports 0 and 1 (R390 paths P, C and M); `core` is the requester the command core acts as (R39: 1 CE0, 2 CE1). -/
structure CmdHdr where
  src : Nat
  core : Fin 2
  cid : Nat
  nocpl : Bool
  daddr : Nat
  dlen : Nat
deriving DecidableEq, Repr

/-- The format of a CAN frame (R410). -/
inductive CanFmt where
  | classic
  | fd
  | remote
deriving DecidableEq, Repr

/-- How a frame arrives: whole, damaged (R239), or with a reserved TYPE in its header (R241). -/
inductive Rx where
  | good
  | damaged
  | reserved
deriving DecidableEq, Repr

/-- One pulse entry of a COMMIT frame (R243). Times are 48-bit link times (625 ps). -/
structure PulseEntry where
  start : Nat
  stop : Nat
  prf : Fin 256
  clen : Bool
  pidx : Fin 8
  out : Fin 8
deriving DecidableEq, Repr

/-- A 32-bit read at an offset, or a 64-bit one (R35). -/
structure WordRead where
  off : Nat
  wide : Bool
deriving DecidableEq, Repr

/-- 1 ms of the working lane of a hop direction: up or down, and the code violations its receiver saw (R278). -/
structure LaneSpan where
  up : Bool
  cv : Nat
deriving DecidableEq, Repr

/-- Why a boost converter stops (R298): the rail has stayed too high, or has not passed the supply voltage (50 mV units). -/
inductive BoostCause where
  | high
  | low (supply : Nat)
deriving DecidableEq, Repr

/-- A mirror HELLO frame (R335). -/
structure MirHello where
  ok : Bool
  seq : Nat
  proto : Nat
  pstate : Nat
  pref : Bool
  snapreq : Bool
  dver : Nat
  fwrel : Nat
  image : Nat
  cur : Nat
  serial : Nat
deriving DecidableEq, Repr

/-- A mirror TOOTH frame (R335). `kind` 3 is a state change without a record. -/
structure MirTooth where
  trk : Fin 16
  kind : Fin 4
  rev : Bool
  dchg : Bool
  armok : Bool
  tstate : Fin 8
  pos : Nat
  span : Nat
  cyc : Int
  ang : Nat
  stamp : Nat
deriving DecidableEq, Repr

/-- A mirror DECIDE frame (R335). -/
structure MirDecide where
  mach : Fin 16
  sp : Fin 64
  work : Bool
  rev : Bool
  reason : Fin 16
  dflt : Bool
  stroke : Nat
  cyc : Int
  ang : Nat
  acc : Int
  ci : Nat
  cw : Nat
  lfsr : Nat
  dem : Nat
deriving DecidableEq, Repr

/-- What an encoder interface sees: the levels of A, B and I at the pins from one tick on, each with the ticks for which it
holds (R434), or one sample of the sine and cosine tracks (R436). -/
inductive EncEvent where
  | quad (a b i : Bool) (hold : Nat × Nat × Nat) (stamp : Nat)
  | sincos (sine cosine : Int) (stamp : Nat)
deriving DecidableEq, Repr

/-- Who issued a bus-master request that failed (R393): a running host command, with the words its buffer gave before the
failure, the fetch of ring n, a stream write, or a Racking transfer. -/
inductive BusUser where
  | command (h : CmdHdr) (got : List Nat)
  | fetch (n : Fin 256)
  | stream (n : Fin 8)
  | racking
deriving DecidableEq, Repr

/-- The commands, one per row of spec/opcode_table.json. -/
inductive Instr where
  /-- REGISTER_WRITE (R7). A write to a register field that has no row of its own takes effect as its access code states. -/
  | registerWrite (req : Fin 10) (off : Nat) (size : Nat) (data : Nat)
  /-- OUTSPAN_ACCESS (R34). A BAR0 access outside every span reads zero or is discarded, and HIF counts it. -/
  | outspanAccess (req : Fin 10) (off : Nat) (wr : Bool)
  /-- NARROW_ACCESS (R35). A narrow register write or a misaligned register access is discarded or refused and counted in HIF_CNT0.NARROW. -/
  | narrowAccess (req : Fin 10) (off : Nat) (size : Nat) (wr : Bool)
  /-- PWROFF_ACCESS (R37). An access to a block or instance whose power domain is off completes as outside every span and is counted. -/
  | pwroffAccess (req : Fin 10) (off : Nat) (wr : Bool)
  /-- APERTURE_ACCESS (R36). An access to a memory aperture is split into naturally aligned pieces carried out in ascending address order. -/
  | apertureAccess (req : Fin 10) (off : Nat) (size : Nat) (wr : Bool) (data : Nat)
  /-- LOW_WORD_READ (R44). A low-word read of an LL register latches the high words into the requester's own shadow at one TICK edge. -/
  | lowWordRead (req : Fin 10) (rd : WordRead)
  /-- SYS_UPD_STROBE (R50). A strobe write for the named update groups is taken, allocating a new vintage and setting trackers pending, or is refused whole. -/
  | sysUpdStrobe (req : Fin 10) (grp : Nat)
  /-- RWS_SHADOW_WRITE (R55). A write to the shadow copy of an RWS field is stored, or is discarded and counted in BUSYWR while its group is pending. -/
  | rwsShadowWrite (req : Fin 10) (off : Nat) (data : Nat)
  /-- TRACKER_SWAP (R52). A pending tracker reaches its swap boundary, swaps its live configuration to the new vintage and checks the incoming definitions. -/
  | trackerSwap (k : Fin 16)
  /-- UPD_TIMEOUT (R54). A pending tracker that has not reached its swap boundary within SYS_UPD_CFG.TIMEOUT swaps at the timeout and SYS raises UPD_TIMEOUT. -/
  | updTimeout (k : Fin 16)
  /-- SYS_UPD_STAT_CLR (R7). A one written to SYS_UPD_STAT.CLR clears REFUSED, BUSYWR and TIMEOUTS. -/
  | sysUpdStatClr (req : Fin 10)
  /-- CORK_VALUE_WRITE (R59). A write to the value word of a corked register opens or restarts a cork for the requester, or is refused under reason 4. -/
  | corkValueWrite (req : Fin 10) (off : Nat) (data : Nat)
  /-- CORK_TIMEOUT (R62). The 64th FAB cycle after a value write ends without a complement write, so the cork is refused with reason 2. -/
  | corkTimeout (off : Nat)
  /-- BIT_ALIAS_WRITE (R64). A write to the bit-alias window sets or clears one bit of its target register with the target field's behaviour. -/
  | bitAliasWrite (req : Fin 10) (off : Nat) (data : Nat)
  /-- CEL_IDATA_READ (R66). A read of CEL_IDATA returns the last completed read and, while BUSY is clear, starts a read of the Cellar word at ADDR. -/
  | celIdataRead (req : Fin 10)
  /-- CEL_IDATA_WRITE (R66). A write of CEL_IDATA while BUSY is clear starts a write of the Cellar word at ADDR, or is discarded while BUSY is set. -/
  | celIdataWrite (req : Fin 10) (data : Nat)
  /-- CEL_ACCESS_DONE (R66). An indirect Cellar access completes within 2 SLOW periods, clearing BUSY, setting RDY for a read and incrementing ADDR when AINC is set. -/
  | celAccessDone
  /-- FAST_COPY_REFRESH (R68). All Cellar fast copies are refreshed together at a rising SLOW edge and CEL_FC_SEQ increments. -/
  | fastCopyRefresh
  /-- SLOW_START (R535). The 32.768 kHz oscillator starts, SLOWOK sets and every Cellar action waiting for SLOW proceeds. -/
  | slowStart
  /-- SLOW_STOP (R535). No SLOW edge arrives for 1 ms, so Cellar actions halt and CEL raises SLOW_STOP. -/
  | slowStop
  /-- FLT_CLOSE (R74). A one written to FLT_CLOSE.CLOSE closes the open fault record, clears FLT_ALSO and FLT_MERGE, and reopens a record for a present unmasked cause. -/
  | fltClose (req : Fin 10) (blk : Fin 25)
  /-- REF_LOST (R25). A reference loses its edges or leaves ±1,000 ppm, so the reference selector changes state under its table. -/
  | refLost (pcie : Bool)
  /-- REF_GOOD (R26). A reference has stayed present and within ±1,000 ppm for a continuous 20 µs and becomes good. -/
  | refGood (pcie : Bool)
  /-- RELOCK_COMPLETE (R28). The root PLL completes its relock to the new reference and the selector leaves SW_TO_ALT or SW_TO_PREF. -/
  | relockComplete
  /-- HOLDOFF_EXPIRY (R28). The preferred reference has been good without break for CLK_REF_CFG.HOLDOFF, so the selector switches back to it. -/
  | holdoffExpiry
  /-- CLK_REF_SWITCH (R30). A taken cork of CLK_REF_SWITCH sets PREF and switches the reference through holdover, or is refused and counted. -/
  | clkRefSwitch (req : Fin 10) (ref : Fin 4)
  /-- PLL_UNLOCK (R502). A PLL loses lock, CLK counts it, and two unlocks of PLLA within 1 s bring in PLLB. -/
  | pllUnlock (p : Fin 2)
  /-- CLK_CNT_CLR (R7). A one written to CLK_CNT_CLR clears SWREF, SWITCHES and every UNLOCK. -/
  | clkCntClr (req : Fin 10)
  /-- SNS_VR_CROSSING (R76). A zero crossing of a VR input ends a lobe, and an armed lobe in the selected direction delivers a stamped edge. -/
  | snsVrCrossing (n : Fin 32) (rising : Bool) (peak : Nat) (hold : Nat) (stamp : Nat)
  /-- SNS_HALL_TRANSITION (R77). A transition of a Hall input's comparator in the selected direction delivers a stamped edge. -/
  | snsHallTransition (n : Fin 32) (rising : Bool) (hold : Nat) (stamp : Nat)
  /-- SNS_OPEN_SHORT (R81). An SNS input detects an open or shorted VR sensor, or its repair, and sets or clears OPEN or SHORT within 1 ms. -/
  | snsOpenShort (n : Fin 32) (short : Bool) (present : Bool)
  /-- SNS_CFG_WRITE (R537). A write to SNSn_CFG or SNSn_FLT takes effect at once or at the next delivered edge, and setting EN restarts the input afresh. -/
  | snsCfgWrite (req : Fin 10) (n : Fin 32) (flt : Bool) (data : Nat)
  /-- SNS_CNT_CLR (R7). A one written to bit n of SNS_CNT_CLR clears SNSn_CNT.GLITCH. -/
  | snsCntClr (req : Fin 10) (mask : Nat)
  /-- SUPPLY_OC (R522). A sensor supply output starts or stops current limiting and SNS_SUPPLY.OC follows. -/
  | supplyOc (j : Fin 4) (present : Bool)
  /-- TRK_PRIMARY_EDGE (R88). A tracker judges a primary edge against its state and wheel copy, accepting, ignoring or substituting teeth or losing sync. -/
  | trkPrimaryEdge (k : Fin 16)
  /-- SYNTH_TOOTH_DEADLINE (R89). No edge arrives by the deadline at high speed, so the tracker inserts a synthetic tooth counted as bad. -/
  | synthToothDeadline (k : Fin 16)
  /-- PWIDTH_DIRECTION (R108). The pulse after a PWIDTH edge ends or reaches DIRW ticks, fixing the tooth's direction and releasing its tooth record. -/
  | pwidthDirection (k : Fin 16) (width : Nat)
  /-- PHASE_EDGE (R96). A phase-source edge is counted or checked against its window, and in FB_SW or FALLBACK sets position from the table. -/
  | phaseEdge (k : Fin 16)
  /-- PHASE_WINDOW_MISS (R114). A phase window passes without its edge, inserting a synthetic phase step in FALLBACK or clearing PH_OK in SYNC. -/
  | phaseWindowMiss (k : Fin 16)
  /-- TRK_STALL (R97). TMAX passes with no accepted edge, so the tracker enters STOPPED. -/
  | trkStall (k : Fin 16)
  /-- STOP_RECORD_WRITE (R103). The Cellar writes the stop record of a tracker that entered STOPPED, within 2 SLOW periods once SLOW runs. -/
  | stopRecordWrite (k : Fin 16)
  /-- TRK_ENABLE (R536). Setting TRKn_CTL.EN checks the live definition and moves the tracker from OFF to STOPPED, or raises WHEEL_CFG. -/
  | trkEnable (req : Fin 10) (k : Fin 16)
  /-- TRK_DISABLE (R97). Clearing TRKn_CTL.EN sends the tracker to OFF from any state. -/
  | trkDisable (req : Fin 10) (k : Fin 16)
  /-- TRK_CNT_CLR (R7). A one written to bit k of TRK_CNT_CLR clears TRKk_CNT0 and TRKk_CNT1. -/
  | trkCntClr (req : Fin 10) (mask : Nat)
  /-- TOOTH_RECORD (R93). A tooth record is delivered to prediction, the scheduler, the Press and the tooth log, which act on it. -/
  | toothRecord (k : Fin 16)
  /-- EVENT_FREEZE (R143). Device time reaches 100 ticks before an event's last delivered start and the event freezes. -/
  | eventFreeze (uid : Nat) (endOnly : Bool)
  /-- PRD_LMAP_WRITE (R125). A write to PRD_LMAPl changes the tracker served, or is discarded and counted when either tracker has ARM_OK. -/
  | prdLmapWrite (req : Fin 10) (l : Fin 32) (data : Nat)
  /-- PRD_TABLE_WRITE (R149). A software write to a ripple-map or tooth-error entry is taken, or discarded and counted while learning. -/
  | prdTableWrite (req : Fin 10) (k : Fin 16) (te : Bool) (idx : Nat) (data : Nat)
  /-- CLR_TE (R150). A one written to PRDk_LRN.CLR_TE clears the tooth-error table and NS. -/
  | clrTe (req : Fin 10) (k : Fin 16)
  /-- CLR_RIP1 (R150). A one written to PRDk_LRN.CLR_RIP1 clears ripple band 1 and RCYC1. -/
  | clrRip1 (req : Fin 10) (k : Fin 16)
  /-- CLR_RIP0 (R150). A one written to PRDk_LRN.CLR_RIP0 clears ripple band 0 and RCYC0. -/
  | clrRip0 (req : Fin 10) (k : Fin 16)
  /-- PRD_QUERY_START (R153). A one written to PRD_QRYq_CMD.START clears READY and starts a query, or is discarded while one is running. -/
  | prdQueryStart (req : Fin 10) (q : Fin 8) (k : Fin 16) (ang : Nat)
  /-- PRD_QUERY_DONE (R154). A query completes within 64 FAB cycles with its time and its NOPRED, PAST and STALE flags. -/
  | prdQueryDone (q : Fin 8)
  /-- PRD_QUERY_READ (R155). A read of PRD_QRYq_RES_LO returns the last result and latches RES_HI and RES_ST, marking the result SEEN. -/
  | prdQueryRead (req : Fin 10) (q : Fin 8)
  /-- PE_SPARE_SWAP (R157). A spare engine shadows a logical engine over two tooth records and takes its number when every result matches. -/
  | peSpareSwap (l : Fin 32) (spare : Fin 36) (agree : Bool)
  /-- PE_BACKGROUND_CHECK (R159). Every PRD_CHK.PERIOD ms a spare shadows the next logical engine for one record and compares results. -/
  | peBackgroundCheck (agree : Bool)
  /-- PRD_CNT_CLR (R7). A one written to PRD_CNT_CLR clears the named engine or tracker counters. -/
  | prdCntClr (req : Fin 10) (data : Nat)
  /-- DESC_WRITE (R163). A write to an event-table descriptor word is taken, or discarded and counted in a live or pending range. -/
  | descWrite (req : Fin 10) (bank : Bool) (idx : Nat) (word : Fin 8) (data : Nat)
  /-- RANGE_PREP_DONE (R165). Preparation of a range completes, arming valid descriptors and clearing PREP. -/
  | rangePrepDone (k : Fin 16)
  /-- SCH_TRK_ENABLE (R165). Setting SCH_TRKk_CTL.EN prepares the tracker's live range and enables scheduling. -/
  | schTrkEnable (req : Fin 10) (k : Fin 16)
  /-- SCH_TRK_DISABLE (R190). Clearing SCH_TRKk_CTL.EN cancels unfrozen commits with CANCEL_OFF and disarms the range. -/
  | schTrkDisable (req : Fin 10) (k : Fin 16)
  /-- SCH_CHEN_WRITE (R190). A write to SCH_CHEN sets or clears channel enables, and a cleared channel's unfrozen occurrences are cancelled. -/
  | schChenWrite (req : Fin 10) (w : Fin 16) (data : Nat)
  /-- REARM (R170). A one written to SCH_TRKk_CTL.REARM makes every spent ONCE head a candidate again. -/
  | rearm (req : Fin 10) (k : Fin 16)
  /-- SCH_CNT_CLR (R7). A one written to SCH_CNT_CLR clears the global or per-tracker scheduler counters. -/
  | schCntClr (req : Fin 10) (data : Nat)
  /-- PRESS_DECISION (R211). At a stroke position's decision instant the Press makes, drops or late-idles the decision and governs its occurrences. -/
  | pressDecision (k : Fin 16) (sp : Fin 64)
  /-- PRESS_POST_WRITE (R217). A write to PRSk_POST sets a pending post, replacing and counting any pending one. -/
  | pressPostWrite (req : Fin 10) (k : Fin 16) (data : Nat)
  /-- PRESS_RESET (R224). A one written to PRSk_CTL.RESET resets the decision state at the next decision. -/
  | pressReset (req : Fin 10) (k : Fin 16)
  /-- PRS_CNT_CLR (R7). A one written to PRS_CNT_CLR clears QMAX or the per-machine Press counters. -/
  | prsCntClr (req : Fin 10) (data : Nat)
  /-- COMMIT (R260). A tile receives a COMMIT and stores its pulses with copied profiles, or refuses it, and acknowledges. -/
  | commit (t : Fin 64) (side : Bool) (rx : Rx) (seq : Nat) (handle : Nat) (vint : Nat) (rev : Bool) (pulses : List PulseEntry)
  /-- AMEND (R261). A tile receives an AMEND and replaces the start and end times it still can, reporting the rest AMEND_LATE. -/
  | amend (t : Fin 64) (side : Bool) (ok : Bool) (seq : Nat) (handle : Nat) (aver : Nat) (pmask : Nat) (times : List (Nat × Nat))
  /-- CANCEL (R262). A tile receives a CANCEL and removes the unstarted pulses it still can, reporting the rest CANCEL_LATE. -/
  | cancel (t : Fin 64) (side : Bool) (ok : Bool) (seq : Nat) (handle : Nat) (pmask : Nat)
  /-- TIME (R256). A tile receives a TIME frame, measures TERR, slews or steps its time copy and reports STATUS. -/
  | time (t : Fin 64) (side : Bool) (ok : Bool) (stamp : Nat)
  /-- TIMESET (R255). A tile receives a TIMESET, updating DLY and with STEP set setting its time copy and entering TIMED. -/
  | timeset (t : Fin 64) (side : Bool) (ok : Bool) (seq : Nat) (stamp : Nat) (stepc : Bool) (dly : Nat)
  /-- ECHO_REQ (R253). A tile receives an ECHO_REQ and answers with ECHO_RSP carrying its turnaround time. -/
  | echoReq (t : Fin 64) (side : Bool) (ok : Bool) (etag : Nat) (tt : Nat)
  /-- DISCOVER (R271). An unaddressed tile takes POS and SIDE from a DISCOVER and answers with IDENT, or an addressed one repeats it downstream. -/
  | discover (t : Fin 64) (side : Bool) (ok : Bool) (proto : Nat) (dside : Bool) (pos : Fin 4)
  /-- REGWR (R284). A tile receives a REGWR and writes its register, answering with an ACK result. -/
  | regwr (t : Fin 64) (side : Bool) (ok : Bool) (seq : Nat) (addr : Nat) (data : Nat)
  /-- REGRD (R284). A tile receives a REGRD and answers with REGDATA. -/
  | regrd (t : Fin 64) (side : Bool) (ok : Bool) (addr : Nat)
  /-- PRFSET (R294). A tile receives a PRFSET and stores the profile record. -/
  | prfset (t : Fin 64) (side : Bool) (ok : Bool) (seq : Nat) (prf : Fin 256) (words : List Nat)
  /-- PWR (R268). A tile receives a PWR frame and with a valid complement moves between TIMED and ATTACHED. -/
  | pwr (t : Fin 64) (side : Bool) (ok : Bool) (seq : Nat) (w1 : Nat) (w2 : Nat)
  /-- CTL_RESET (R268). A CTL RESET returns the tile side to UNADDR, and to every tile beyond when ARG bit 0 is set. -/
  | ctlReset (t : Fin 64) (side : Bool) (ok : Bool) (seq : Nat) (beyond : Bool)
  /-- CTL_DSOPEN (R270). A CTL DSOPEN opens the tile's downstream port so the next position may be discovered. -/
  | ctlDsopen (t : Fin 64) (side : Bool) (ok : Bool) (seq : Nat)
  /-- CTL_DSCLOSE (R234). A CTL DSCLOSE closes the tile's downstream port, which then sends only IDLE ordered sets. -/
  | ctlDsclose (t : Fin 64) (side : Bool) (ok : Bool) (seq : Nat)
  /-- CTL_SWAP_DN (R278). A CTL SWAP_DN makes the tile swap its transmitted down lane on the next hop to its spare. -/
  | ctlSwapDn (t : Fin 64) (side : Bool) (ok : Bool) (seq : Nat)
  /-- CTL_SWAP_UP (R278). A CTL SWAP_UP makes the tile swap its up lane to its spare. -/
  | ctlSwapUp (t : Fin 64) (side : Bool) (ok : Bool) (seq : Nat)
  /-- CTL_MIRROR (R276). A CTL MIRROR turns mirroring of each transmitted lane onto its spare on or off. -/
  | ctlMirror (t : Fin 64) (side : Bool) (ok : Bool) (seq : Nat) (on : Bool)
  /-- ACK (R251). The device receives an ACK and handles its RESULT for the acknowledged reliable frame. -/
  | ack (n : Fin 16) (p : Fin 4) (ok : Bool) (seq : Nat) (result : Nat) (pmask : Nat) (arr : Nat)
  /-- ECHO_RSP (R253). The device receives an ECHO_RSP, computes the delay, and sends TIMESET when DLY changes. -/
  | echoRsp (n : Fin 16) (p : Fin 4) (ok : Bool) (etag : Nat) (tt : Nat) (res : Nat) (rtt : Nat)
  /-- DONE (R264). The device receives a DONE, turns its STATUS into an outcome and feeds the thermal model. -/
  | done (n : Fin 16) (p : Fin 4) (ok : Bool) (handle : Nat) (pidx : Fin 8) (out : Fin 8) (status : Nat) (start : Nat) (stop : Nat) (ipk : Nat) (i2t : Nat)
  /-- STATUS (R256). The device receives a STATUS, records TERR, lane and drive status, and makes a position TIMED when in tolerance. -/
  | status (n : Fin 16) (p : Fin 4) (ok : Bool) (w1 : Nat) (w2 : Nat) (w3 : Nat)
  /-- DIAG (R327). The device receives a DIAG frame and updates the cause it reports. -/
  | diag (n : Fin 16) (p : Fin 4) (ok : Bool) (level : Bool) (out : Fin 8) (code : Nat) (data : Nat)
  /-- IDENT (R270). The device receives an IDENT, checks it and continues bring-up, or refuses the position. -/
  | ident (n : Fin 16) (p : Fin 4) (ok : Bool) (vendor : Nat) (type : Nat) (rev : Nat) (proto : Nat) (nout : Nat) (iv : Bool) (two : Bool) (slots : Nat) (serial : Nat) (fwdlat : Nat)
  /-- REGDATA (R284). The device receives a REGDATA and completes the TIL read. -/
  | regdata (n : Fin 16) (p : Fin 4) (ok : Bool) (result : Nat) (addr : Nat) (data : Nat)
  /-- WAVE (R299). The device receives a WAVE frame of closing-window samples, and copies it to capture when selected. -/
  | wave (n : Fin 16) (p : Fin 4) (ok : Bool) (handle : Nat) (wseq : Nat) (kind : Nat) (out : Fin 8) (t0 : Nat) (samples : List Int)
  /-- ACK_TIMEOUT (R249). No ACK arrives within ACK_TO of a reliable frame, so it is sent again. -/
  | ackTimeout (n : Fin 16) (p : Fin 4) (seq : Nat)
  /-- TIME_PERIOD (R248). The TIME frame period TPER expires and the device sends a TIME frame on a 25 ns boundary. -/
  | timePeriod (n : Fin 16)
  /-- ECHO_PERIOD (R253). The echo period EPER of a position expires and the device sends an ECHO_REQ. -/
  | echoPeriod (n : Fin 16) (p : Fin 4)
  /-- IDENT_TIMEOUT (R270). No IDENT arrives within 10 µs of a DISCOVER, so the position is EMPTY. -/
  | identTimeout (n : Fin 16) (p : Fin 4)
  /-- DISCOVER_RETRY (R270). The 1 ms discovery retry period expires with AUTODISC set and a partner seen, so DISCOVER is sent again. -/
  | discoverRetry (n : Fin 16) (p : Fin 4)
  /-- LOCK_LOST (R272). The hop 0 receiver has no lock for LOCKTO, so every position of the link is lost. -/
  | lockLost (n : Fin 16)
  /-- STATUS_TIMEOUT (R272). A position sends no STATUS for three TIME periods and is declared lost. -/
  | statusTimeout (n : Fin 16) (p : Fin 4)
  /-- TLK_TPWR_EN (R275). A cork of TLK_TPWR_EN enables or disables tile power stages, sending PWR frames. -/
  | tlkTpwrEn (req : Fin 10) (m : Fin 2) (value : Nat)
  /-- REDISC (R270). A one written to TLKn_CTL.REDISC declares every position lost and rediscovers from position 0. -/
  | redisc (req : Fin 10) (n : Fin 16)
  /-- SWDN (R278). A one written to TLKn_LANE.SWDN starts a planned swap of a hop's down lane. -/
  | swdn (req : Fin 10) (n : Fin 16) (p : Fin 4)
  /-- SWUP (R278). A one written to TLKn_LANE.SWUP starts a planned swap of a hop's up lane. -/
  | swup (req : Fin 10) (n : Fin 16) (p : Fin 4)
  /-- AUTO_SWAP (R278). A working lane shows more than BERTH code violations in 1 ms and a planned swap starts. -/
  | autoSwap (n : Fin 16) (p : Fin 4) (ms : LaneSpan)
  /-- LSWAP (R277). A receiver sees LSWAP and takes its stream from the other lane offset by the measured skew. -/
  | lswap (n : Fin 16) (p : Fin 4) (up : Bool)
  /-- WORKING_LANE_LOSS (R279). A working lane loses lock with a trained spare and the receiver switches to the spare within 100 ns. -/
  | workingLaneLoss (n : Fin 16) (p : Fin 4) (up : Bool)
  /-- LANE_FAIL (R281). A spare is not trained when asked for, or fails to train within 1 ms, and LANE_FAIL is raised. -/
  | laneFail (n : Fin 16) (p : Fin 4) (up : Bool)
  /-- TLK_CNT_CLR (R7). A one written to bit n of TLK_CNT_CLR clears TLKn_CNT0, TLKn_CNT1 and TLKn_LAT. -/
  | tlkCntClr (req : Fin 10) (mask : Nat)
  /-- TIL_DATA_READ (R284). A read of TILn_DATA returns the last completed read and, while not BUSY, sends REGRD. -/
  | tilDataRead (req : Fin 10) (n : Fin 16)
  /-- TIL_DATA_WRITE (R284). A write of TILn_DATA while not BUSY sends REGWR to the tile. -/
  | tilDataWrite (req : Fin 10) (n : Fin 16) (data : Nat)
  /-- TIL_TIMEOUT (R284). A TIL access receives no answer for 20 µs and completes with RESULT 0xFF. -/
  | tilTimeout (n : Fin 16)
  /-- TILE_UPSTREAM_LOCK_LOSS (R268). A tile side loses lock on its upstream port for 2 µs, enters UNADDR and silences its downstream port. -/
  | tileUpstreamLockLoss (t : Fin 64) (side : Bool)
  /-- TILE_LINK_WDOG (R268). No valid TIME frame arrives for LINK_TO in TIMED or ATTACHED, so the tile side enters UNADDR. -/
  | tileLinkWdog (t : Fin 64) (side : Bool)
  /-- TILE_POWER_ON (R285). A tile powers on, its registers take reset values and both sides start in UNADDR. -/
  | tilePowerOn (t : Fin 64)
  /-- DS_LOST (R274). A tile loses lock on its downstream port's up lane and reports DIAG DS_LOST within 2 µs. -/
  | dsLost (t : Fin 64) (side : Bool)
  /-- DS_PRES (R274). A downstream partner has held lock for 100 µs and the tile reports DSPRES in its next STATUS. -/
  | dsPres (t : Fin 64) (side : Bool)
  /-- WAVE_DROP (R282). A tile's own WAVE frame has waited 50 µs and is dropped and counted. -/
  | waveDrop (t : Fin 64) (side : Bool)
  /-- TILE_PULSE_START (R258). A tile's time copy reaches a pulse start, which is driven, refused or matched against shadows. -/
  | tilePulseStart (t : Fin 64) (side : Bool) (handle : Nat) (pidx : Fin 8)
  /-- TILE_PHASE_ADVANCE (R289). A driven pulse leaves its current phase on its current threshold or phase time. -/
  | tilePhaseAdvance (t : Fin 64) (out : Fin 8) (cur : Nat)
  /-- TILE_CHOP_SWITCH (R290). While chopping, the current reaching a band edge switches the supply on or off. -/
  | tileChopSwitch (t : Fin 64) (out : Fin 8) (cur : Nat)
  /-- ELECTRICAL_END (R289). A pulse reaches its electrical end and starts fast decay, opening the closing window. -/
  | electricalEnd (t : Fin 64) (out : Fin 8)
  /-- CLOSING_WINDOW_END (R299). A closing window ends after CWIN µs or at the next pulse start and the tile sends DONE. -/
  | closingWindowEnd (t : Fin 64) (out : Fin 8)
  /-- OPEN_ON_CHECK (R315). 8 µs after a pulse start the tile judges the current against IOPEN. -/
  | openOnCheck (t : Fin 64) (out : Fin 8) (cur : Nat)
  /-- OVERCURRENT_TRIP (R316). Current reaches ISHORT and the tile starts fast decay, reporting TRUNC_FAULT and SHORT_ON. -/
  | overcurrentTrip (t : Fin 64) (out : Fin 8) (cur : Nat)
  /-- BOOST_SET_WRITE (R296). A write of TDRV_BOOST_SET sets V_ref to the measured rail and slews it toward the new VSET. -/
  | boostSetWrite (t : Fin 64) (data : Nat) (rail : Nat)
  /-- BOOST_CTL_WRITE (R298). A write of TDRV_BOOST_CTL with a valid complement enables or disables the boost converter. -/
  | boostCtlWrite (t : Fin 64) (data : Nat)
  /-- BOOST_FAULT (R298). The rail stays over VSET + 5 V for 10 µs or fails to rise in 5 ms, so the converter stops. -/
  | boostFault (t : Fin 64) (rail : Nat) (cause : BoostCause)
  /-- BOOST_NRDY (R297). The boost rail's readiness changes and the tile reports BOOST_NRDY. -/
  | boostNrdy (t : Fin 64) (rail : Nat)
  /-- CDT_BOOST_EN (R298). A cork of CDT_BOOST_EN sets the boost enable of tiles, mirrored to TDRV_BOOST_CTL. -/
  | cdtBoostEn (req : Fin 10) (m : Fin 2) (value : Nat)
  /-- OFFT_COMMAND (R317). The owning tracker passes OFFT_CYC boundaries, or 100 ms periods pass, and CDT writes TDRV_OFFT. -/
  | offtCommand (ch : Fin 512)
  /-- OFFT_REQ (R318). A write of TDRV_OFFT.REQ makes the off-state test of an output pending. -/
  | offtReq (t : Fin 64) (mask : Nat)
  /-- OFFSTATE_TEST_START (R318). An output free of drive for 20 µs with no pulse within 250 µs starts its 200 µs off-state test. -/
  | offstateTestStart (t : Fin 64) (out : Fin 8)
  /-- OFFSTATE_TEST_END (R318). The off-state test ends and the tile reports OPEN_OFF, SHORTG_OFF or SHORTB_OFF. -/
  | offstateTestEnd (t : Fin 64) (out : Fin 8) (von : Nat) (voff : Nat) (vsup : Nat)
  /-- INHIBIT_INPUT (R321). A tile's inhibit input becomes active, setting INHL and cutting or refusing drive. -/
  | inhibitInput (t : Fin 64)
  /-- INH_REARM (R322). A write of TDRV_INH.REARM clears INHL after 100 µs of quiet input, or is refused. -/
  | inhRearm (t : Fin 64)
  /-- CDT_REARM (R323). A one written to a bit of CDT_REARM sends the re-arm write to that tile. -/
  | cdtRearm (req : Fin 10) (m : Fin 2) (mask : Nat)
  /-- CLOSING_DETECT (R300). CDT runs the kink detector on a completed window and posts the closing result. -/
  | closingDetect (ch : Fin 512)
  /-- CRES_READY_CLEAR (R305). Device time reaches the start of a CLEN pulse and CDT clears READY of its channel. -/
  | cresReadyClear (ch : Fin 512)
  /-- CRES_LO_READ (R305). A read of CDT_CHn_CRES_LO returns the closing result and latches CRES_HI, CRES_ST and CRES_EV. -/
  | cresLoRead (req : Fin 10) (ch : Fin 512)
  /-- THERMAL_STEP (R310). Every millisecond of device time CDT steps the two-node thermal model of each enabled channel. -/
  | thermalStep
  /-- CHFORCE_OFF (R325). A cork of CDT_CHFORCE with MODE 1 cancels unfrozen pulses and blocks the channel. -/
  | chforceOff (req : Fin 10) (ch : Fin 512)
  /-- CHFORCE_ON (R325). A cork of CDT_CHFORCE with MODE 2 commits one pulse on the channel, or is refused. -/
  | chforceOn (req : Fin 10) (ch : Fin 512) (prf : Fin 256)
  /-- CHFORCE_RELEASE (R325). A cork of CDT_CHFORCE with MODE 0 clears the channel's force-off bit. -/
  | chforceRelease (req : Fin 10) (ch : Fin 512)
  /-- CDT_CNT_CLR (R7). A one written to CDT_CNT_CLR.ALL clears every CDT_CNTn. -/
  | cdtCntClr (req : Fin 10)
  /-- MIR_LANE_LOCK_LOSS (R335). Both mirror receive lanes are without lock for 1 µs and the partner is lost. -/
  | mirLaneLockLoss
  /-- MTIME_TIMEOUT (R335). No MTIME arrives for 50 µs in ALIGN or STANDBY and the partner is lost. -/
  | mtimeTimeout
  /-- HELLO_TIMEOUT (R335). No HELLO arrives for 3 ms and the partner is lost. -/
  | helloTimeout
  /-- HELLO_PERIOD (R335). Every 1 ms the device sends HELLO. -/
  | helloPeriod
  /-- MTIME_PERIOD (R335). Every 10 µs the primary sends MTIME on a 25 ns boundary. -/
  | mtimePeriod
  /-- MIR_ECHO_PERIOD (R336). Every 100 µs the device sends a mirror ECHO_REQ. -/
  | mirEchoPeriod
  /-- MIR_HELLO (R343). A received HELLO is judged for compatibility and role and moves the pair state. -/
  | mirHello (f : MirHello)
  /-- MIR_MTIME (R337). A received MTIME gives the offset to the partner's device time. -/
  | mirMtime (ok : Bool) (seq : Nat) (stamp : Nat)
  /-- MIR_ECHO_REQ (R336). A received mirror ECHO_REQ is answered with ECHO_RSP. -/
  | mirEchoReq (ok : Bool) (seq : Nat) (etag : Nat) (tt : Nat)
  /-- MIR_ECHO_RSP (R336). A received mirror ECHO_RSP updates the one-way delay D. -/
  | mirEchoRsp (ok : Bool) (seq : Nat) (etag : Nat) (tt : Nat) (rtt : Nat)
  /-- MIR_TOOTH (R347). A following device takes a TOOTH frame as a tooth record or tracker state change. -/
  | mirTooth (ok : Bool) (seq : Nat) (f : MirTooth)
  /-- MIR_DECIDE (R348). A following device records a DECIDE frame's decision and state as if made. -/
  | mirDecide (ok : Bool) (seq : Nat) (f : MirDecide)
  /-- MIR_STROBE (R349). A following device takes a strobe of the named groups at a STROBE frame. -/
  | mirStrobe (ok : Bool) (seq : Nat) (vint : Nat) (grp : Nat)
  /-- MIR_DIGEST (R354). A received digest is compared with the device's own for the same tracker and cycle. -/
  | mirDigest (ok : Bool) (seq : Nat) (k : Fin 16) (vint : Nat) (cyc : Int) (crc : Nat)
  /-- MIR_SNAP (R352). A received SNAP chunk is stored, and the last chunk replaces the tracker's state. -/
  | mirSnap (ok : Bool) (seq : Nat) (k : Fin 16) (chunk : Nat) (nchunk : Nat) (cyc : Nat) (words : List Nat)
  /-- MIR_TAKE (R370). A received TAKE request or accept proceeds with the takeover. -/
  | mirTake (ok : Bool) (seq : Nat) (mode : Nat) (tat : Nat)
  /-- TIME_DIV (R340). The standby's offset exceeds 8 ns for 100 µs and it leaves STANDBY for ALIGN. -/
  | timeDiv
  /-- SOLO_WAIT_EXPIRY (R341). SOLO_WAIT passes in SEEK with no partner HELLO and the device enters SOLO. -/
  | soloWaitExpiry
  /-- ALIGN_HOLD (R345). Alignment within 4 ns has held for 1 ms in ALIGN and the device asks for snapshots. -/
  | alignHold
  /-- MIR_ENABLE (R341). Setting MIR_CTL.EN moves the device from OFF to SEEK. -/
  | mirEnable (req : Fin 10)
  /-- MIR_DISABLE (R341). Clearing MIR_CTL.EN returns the device to OFF, simplex with ELIG = 1. -/
  | mirDisable (req : Fin 10)
  /-- RESYNC (R341). A one written to MIR_CTL.RESYNC in STANDBY sends the device to ALIGN for a new snapshot. -/
  | resync (req : Fin 10)
  /-- MIR_TAKEOVER_TAKE (R369). A cork of MIR_TAKEOVER with MODE 1 on the standby requests the primary role. -/
  | mirTakeoverTake (req : Fin 10)
  /-- MIR_TAKEOVER_GIVE (R369). A cork of MIR_TAKEOVER with MODE 2 on the primary offers the primary role. -/
  | mirTakeoverGive (req : Fin 10)
  /-- TAKEOVER_AT (R370). Device time reaches TAT and the two devices exchange roles. -/
  | takeoverAt
  /-- MIR_CNT_CLR (R7). A one written to MIR_CNT_CLR clears the mirror counters and MIR_DIGSTAT. -/
  | mirCntClr (req : Fin 10)
  /-- LEASE_GRANT (R356). With no lease held and a side eligible, the tile grants the lease at that side's next tick. -/
  | leaseGrant (t : Fin 64)
  /-- LEASE_LAPSE (R357). The holder's lease lapses on a missing heartbeat, state change or cleared ELIG, and the other side may be promoted. -/
  | leaseLapse (t : Fin 64)
  /-- DUP_AT_WRITE (R361). A write of TILE_DUP_AT by the holder arms a yield, or is answered BADREG from the other side. -/
  | dupAtWrite (t : Fin 64) (side : Bool) (data : Nat)
  /-- YIELD_DUE (R361). An armed yield falls due and the lease transfers, or YIELD_REFUSED is sent. -/
  | yieldDue (t : Fin 64)
  /-- SHADOW_UNMATCHED (R363). A shadow pulse stays unmatched 16 link units after its start and is reported NOT_EXEC. -/
  | shadowUnmatched (t : Fin 64) (side : Bool) (handle : Nat) (pidx : Fin 8)
  /-- TILE_DUPCNT_CLR (R7). A one written to TILE_DUPCNT.CLR clears the tile's duplex counts. -/
  | tileDupcntClr (t : Fin 64) (side : Bool)
  /-- TILE_CNT_CLR (R7). A one written to TILE_CNT.CLR clears the tile's DISC and CV counts. -/
  | tileCntClr (t : Fin 64) (side : Bool)
  /-- SQ_DOORBELL (R377). A write of an SQ tail doorbell is taken or discarded and counted as DB_BAD. -/
  | sqDoorbell (n : Fin 256) (value : Nat)
  /-- CQ_DOORBELL (R378). A write of a CQ head doorbell frees completion entries or is discarded as DB_BAD. -/
  | cqDoorbell (n : Fin 256) (value : Nat)
  /-- STREAM_RP_DOORBELL (R377). A write of a stream read pointer doorbell frees ring space or is discarded as DB_BAD. -/
  | streamRpDoorbell (n : Fin 8) (value : Nat)
  /-- SQ_ENTRY_FETCH (R379). A fetched submission entry arrives, goes into a cask of owner 0 and is pushed to the SQ's queue. -/
  | sqEntryFetch (n : Fin 256) (entry : List Nat)
  /-- FETCH_RETRY (R379). Every 1 µs after a failed allocation HIF retries the fetch, counting FETCH_EXH. -/
  | fetchRetry (n : Fin 256)
  /-- NOP (R390). The NOP command completes with zero results. -/
  | nop (h : CmdHdr)
  /-- IDENTIFY (R390). The IDENTIFY command returns the firmware release, DVER and current vintage. -/
  | identify (h : CmdHdr)
  /-- REG_RD (R390). The REG_RD command reads up to 256 register words. -/
  | regRd (h : CmdHdr) (off : Nat) (cnt : Nat)
  /-- REG_WR (R390). The REG_WR command writes up to 256 register words. -/
  | regWr (h : CmdHdr) (off : Nat) (cnt : Nat) (data : List Nat)
  /-- REG_CORK (R390). The REG_CORK command carries out a corked write and returns SYS_CORK_STAT. -/
  | regCork (h : CmdHdr) (off : Nat) (value : Nat)
  /-- DESC_WR (R390). The DESC_WR command writes descriptors, counting those discarded. -/
  | descWr (h : CmdHdr) (bank : Bool) (idx : Nat) (cnt : Nat) (data : List Nat)
  /-- DESC_RD (R390). The DESC_RD command reads descriptors to the host buffer. -/
  | descRd (h : CmdHdr) (bank : Bool) (idx : Nat) (cnt : Nat)
  /-- STROBE (R390). The STROBE command takes an update strobe and returns the new vintage. -/
  | strobe (h : CmdHdr) (grp : Nat)
  /-- IMAGE_LOAD (R498). The IMAGE_LOAD command verifies, stores and applies a Jenhus image and strobes all groups. -/
  | imageLoad (h : CmdHdr) (image : List Nat)
  /-- FW_STAGE (R499). The FW_STAGE command writes an image piece to the inactive bank and verifies after the last. -/
  | fwStage (h : CmdHdr) (off : Nat) (last : Bool) (piece : List Nat)
  /-- LOG_RD (R489). The LOG_RD command returns log entries from a sequence number on. -/
  | logRd (h : CmdHdr) (idx : Nat) (cnt : Nat)
  /-- DEMAND (R390). The DEMAND command sets or posts a machine's demand and returns PRSk_NSTR. -/
  | demand (h : CmdHdr) (mach : Fin 16) (dem : Nat) (post : Bool) (tag : Nat)
  /-- PRED_Q (R390). The PRED_Q command runs one prediction query and returns its time and flags. -/
  | predQ (h : CmdHdr) (k : Fin 16) (ang : Nat)
  /-- TILE_RD (R390). The TILE_RD command reads a tile register through TIL. -/
  | tileRd (h : CmdHdr) (n : Fin 16) (p : Fin 4) (addr : Nat)
  /-- TILE_WR (R390). The TILE_WR command writes a tile register through TIL. -/
  | tileWr (h : CmdHdr) (n : Fin 16) (p : Fin 4) (addr : Nat) (data : Nat)
  /-- MEM_WR (R390). The MEM_WR command writes host data into the SRAM or TCM aperture. -/
  | memWr (h : CmdHdr) (off : Nat) (data : List Nat)
  /-- MEM_RD (R390). The MEM_RD command reads the SRAM or TCM aperture into host memory. -/
  | memRd (h : CmdHdr) (off : Nat)
  /-- AC_CTL_HALT (R390). The AC_CTL command with operation 1 halts the named application cores. -/
  | acCtlHalt (h : CmdHdr) (cores : Nat)
  /-- AC_CTL_START (R390). The AC_CTL command with operation 2 starts the named cores at an address. -/
  | acCtlStart (h : CmdHdr) (cores : Nat) (addr : Nat)
  /-- AC_CTL_RESET (R390). The AC_CTL command with operation 3 resets the named cores. -/
  | acCtlReset (h : CmdHdr) (cores : Nat)
  /-- CREATE_SQ (R391). The CREATE_SQ admin command creates a submission ring. -/
  | createSq (h : CmdHdr) (sq : Nat) (base : Nat) (entries : Nat) (cq : Nat) (owner : Nat) (prio : Nat) (core : Bool) (win : Nat)
  /-- DELETE_SQ (R391). The DELETE_SQ admin command stops fetching and aborts unstarted commands of a ring. -/
  | deleteSq (h : CmdHdr) (sq : Nat)
  /-- CREATE_CQ (R391). The CREATE_CQ admin command creates a completion ring. -/
  | createCq (h : CmdHdr) (cq : Nat) (base : Nat) (entries : Nat) (vec : Nat) (cthr : Nat) (ctime : Nat)
  /-- DELETE_CQ (R391). The DELETE_CQ admin command deletes a completion ring no SQ names. -/
  | deleteCq (h : CmdHdr) (cq : Nat)
  /-- BUF_PUT (R412). The BUF_PUT command stages data bytes in the CAN FD port's staging buffer. -/
  | bufPut (h : CmdHdr) (off : Nat) (len : Nat) (data : List Nat)
  /-- COMPLETION_WRITE (R385). HIF writes a command's completion once its CQ has room, with phase tag and word order. -/
  | completionWrite (cq : Fin 256)
  /-- CQ_COALESCE_TIMEOUT (R384). CTIME passes since the first unsignalled completion and the CQ signals its vector. -/
  | cqCoalesceTimeout (cq : Fin 256)
  /-- CQ_STALL (R385). A CQ stays full for CQTO ms and CQ_STALL is raised. -/
  | cqStall (cq : Fin 256)
  /-- CPL_TIMEOUT (R393). A bus-master read gets no completion within the Completion Timeout and ends with failed data. -/
  | cplTimeout (who : BusUser)
  /-- DMA_ERR (R393). A UR, CA or poisoned completion is received, counted and DMA_ERR raised. -/
  | dmaErr (who : BusUser)
  /-- STREAM_FLUSH (R395). A stream writes a pending chunk at 256 bytes or after 2^FLUSH µs, then its WP and signals. -/
  | streamFlush (n : Fin 8)
  /-- STREAM_ENABLE (R396). A write setting STMn_CFG.EN starts a stream or is refused with CFGERR. -/
  | streamEnable (req : Fin 10) (n : Fin 8) (data : Nat)
  /-- HIF_ENABLE (R379). Setting HIF_CTL.EN starts fetching from the rings. -/
  | hifEnable (req : Fin 10)
  /-- HIF_DISABLE (R389). Clearing HIF_CTL.EN stops fetching, deletes rings 1–255 and clears replay records. -/
  | hifDisable (req : Fin 10)
  /-- FUNCTION_LEVEL_RESET (R415). A Function Level Reset or PCIe domain reset ends bus-master accesses and deletes every ring and stream. -/
  | functionLevelReset
  /-- LINK_DOWN (R373). The PCI Express link goes down and rings and streams idle. -/
  | linkDown
  /-- HIF_CNT_CLR (R7). A one written to HIF_CNT_CLR clears HIF_CNT0, HIF_CNT1 and every STMn_STAT.LOST. -/
  | hifCntClr (req : Fin 10)
  /-- CAN_COMMAND_FRAME (R411). A CAN FD frame with the command identifier and 64 bytes is pushed as a command, or discarded and counted. -/
  | canCommandFrame (port : Fin 2) (fmt : CanFmt) (xtd : Bool) (id : Nat) (entry : List Nat)
  /-- CAN_BUSOFF (R414). A CAN FD port goes bus-off and raises CAN_BUSOFF. -/
  | canBusoff (port : Fin 2)
  /-- CAN_BUSOFF_RECOVERY (R414). A bus-off port recovers and sends its waiting completions. -/
  | canBusoffRecovery (port : Fin 2)
  /-- CAN_ERRPASS (R414). A CAN FD port enters error passive and raises CAN_ERRPASS. -/
  | canErrpass (port : Fin 2) (present : Bool)
  /-- CAN_CNT_CLR (R7). A one written to CANn_CNT.CLR clears CMD and REJ. -/
  | canCntClr (req : Fin 10) (port : Fin 2)
  /-- QMG_ALLOC (R400). A read of QMG_ALLOC allocates the lowest free cask to the requester's owner, or is refused at once. -/
  | qmgAlloc (req : Fin 10)
  /-- QMG_FREE (R400). A write of QMG_FREE frees a held cask, or is refused and may be reported. -/
  | qmgFree (req : Fin 10) (cask : Nat)
  /-- QMG_PUSH (R400). A write of QMG_PUSH queues a held cask at a queue's tail, or is refused. -/
  | qmgPush (req : Fin 10) (queue : Nat) (cask : Nat)
  /-- QMG_POP (R400). A read of QMG_POP takes the head cask of the selected queue, or is refused. -/
  | qmgPop (req : Fin 10)
  /-- QMG_OWNSEL_WRITE (R399). A write of QMG_OWNSEL is taken when granted, or discarded and counted. -/
  | qmgOwnselWrite (req : Fin 10) (owner : Nat)
  /-- QMG_CWIN_ACCESS (R404). An access to the cask window reaches the selected held cask, or is refused and counted. -/
  | qmgCwinAccess (req : Fin 10) (w : Fin 16) (wr : Bool) (data : Nat)
  /-- QMG_QCFG_WRITE (R405). A write of QMG_QCFG configures the selected queue, discarded whole when it changes CONS of a non-empty queue. -/
  | qmgQcfgWrite (req : Fin 10) (data : Nat)
  /-- QMG_RECLAIM (R407). A one written to QMG_RECLAIM.GO frees every held cask of an ungranted owner, or is refused with BUSY. -/
  | qmgReclaim (req : Fin 10) (owner : Nat)
  /-- QMG_CNT_CLR (R7). A one written to QMG_CNT_CLR clears QMG_CNT. -/
  | qmgCntClr (req : Fin 10)
  /-- TRK_TLOG_CLR (R7). A one written to bit k of TRK_TLOG_CLR clears the tooth-log status and MFCNT of tracker k. -/
  | trkTlogClr (req : Fin 10) (mask : Nat)
  /-- ADC_ANGLE_TRIGGER (R426). An angle-trigger entry fires at its angle's instant and triggers its converter. -/
  | adcAngleTrigger (i : Fin 32)
  /-- SWTRIG (R425). A one written to ADCm_CTL.SWTRIG triggers a sequence. -/
  | swtrig (req : Fin 10) (m : Fin 4)
  /-- ADC_SEQUENCE_START (R428). A triggered or queued sequence starts at the next coincident TICK and ADCK edge. -/
  | adcSequenceStart (m : Fin 4)
  /-- ADC_CONVERSION_DONE (R423). A conversion completes, setting READY and limit status, and a finished sequence raises ADCm_DONE. -/
  | adcConversionDone (m : Fin 4) (value : Nat)
  /-- AIN_RES_READ (R430). A read of AINj_RES returns the sample and latches its stamp and source. -/
  | ainResRead (req : Fin 10) (j : Fin 64)
  /-- ADC_CNT_CLR (R7). A one written to bit m of ADC_CNT_CLR clears ADCm_CNT. -/
  | adcCntClr (req : Fin 10) (mask : Nat)
  /-- ENC_COUNT_CHANGE (R441). An encoder count changes from quadrature or interpolation, updating ETS and PER and feeding the tracker. -/
  | encCountChange (m : Fin 8) (ev : EncEvent)
  /-- AMP_ERR (R437). The sine/cosine amplitude leaves its window, holding the count and raising AMP_ERR. -/
  | ampErr (m : Fin 8)
  /-- ENC_INDEX_EDGE (R435). An index edge is delivered to the tracker, which syncs or checks the count. -/
  | encIndexEdge (m : Fin 8)
  /-- WIRE (R439). A differential pair is open, shorted or without swing for WTIME and WIRE is raised. -/
  | wire (m : Fin 8) (pair : Fin 3)
  /-- ENC_LATCH (R442). A latch trigger from the router or ENC_LATSW captures count, stamp, period and time. -/
  | encLatch (m : Fin 8) (sw : Bool)
  /-- ENC_POS_READ (R441). A read of ENCm_POS latches ETS and PER into the requester's shadow. -/
  | encPosRead (req : Fin 10) (m : Fin 8)
  /-- ENC_LAT_CNT_READ (R442). A read of ENCm_LAT_CNT latches the other latch registers and marks the latch SEEN. -/
  | encLatCntRead (req : Fin 10) (m : Fin 8)
  /-- ENC_CNT_CLR (R7). A one written to bit m of ENC_CNT_CLR clears ENC_ECNTm. -/
  | encCntClr (req : Fin 10) (mask : Nat)
  /-- CMP_EVENT (R444). A comparator's debounced level changes, going to the wake logic and the core-side view. -/
  | cmpEvent (m : Fin 8) (mv : Nat)
  /-- CMP_CNT_CLR (R7). A one written to bit m of CMP_CNT_CLR clears CMPm_CNT. -/
  | cmpCntClr (req : Fin 10) (mask : Nat)
  /-- ERT_SWPULSE (R446). A one written to ERT_SWPULSE raises router source 141. -/
  | ertSwpulse (req : Fin 10)
  /-- ANGLE_MARK (R447). An angle mark fires at its angle's instant and raises its router source. -/
  | angleMark (i : Fin 32)
  /-- TMR_MATCH (R455). A timer steps onto its compare, raising its sources, toggling MOUT and reloading with AUTO. -/
  | tmrMatch (n : Fin 32)
  /-- TMR_CMP_LO_WRITE (R454). A write of TMRn_CMP_LO goes to the requester's holding word. -/
  | tmrCmpLoWrite (req : Fin 10) (n : Fin 32) (data : Nat)
  /-- TMR_CMP_HI_WRITE (R454). A write of TMRn_CMP_HI sets the 48-bit compare in one step. -/
  | tmrCmpHiWrite (req : Fin 10) (n : Fin 32) (data : Nat)
  /-- TMR_CNT_HI_WRITE (R456). A write of TMRn_CNT_HI loads the counter while stopped, or is discarded and counted. -/
  | tmrCntHiWrite (req : Fin 10) (n : Fin 32) (data : Nat)
  /-- TMR_ENABLE (R457). Setting TMRn_CTL.EN starts the timer or sends it to WAIT, or keeps it STOPPED with CHAIN_BAD. -/
  | tmrEnable (req : Fin 10) (n : Fin 32) (data : Nat)
  /-- TMR_DISABLE (R457). Clearing TMRn_CTL.EN stops the timer at once. -/
  | tmrDisable (req : Fin 10) (n : Fin 32) (data : Nat)
  /-- GO (R458). A one written to TMR_GCTL.GO starts every waiting timer of TMR0–TMR15. -/
  | go (req : Fin 10)
  /-- STOP (R458). A one written to TMR_GCTL.STOP returns every running GSYNC timer to WAIT. -/
  | stop (req : Fin 10)
  /-- GPIO_EDGE (R451). A GPIO pin changes level, counting for timers and arriving at its ICU source. -/
  | gpioEdge (pin : Fin 64) (level : Bool)
  /-- TMR_CNT_CLR (R7). A one written to TMR_CNT_CLR clears TMR_CNT. -/
  | tmrCntClr (req : Fin 10)
  /-- RAK_REQ (R461). A one written to RKn_CTL.REQ or a router event requests a transfer, queued, dropped or discarded. -/
  | rakReq (n : Fin 16)
  /-- RAK_TRANSFER_START (R462). The next queued request starts its transfer after the previous one ends. -/
  | rakTransferStart
  /-- RAK_TRANSFER_END (R468). A transfer finishes its bytes or ends in error, raising its done sources or its fault. -/
  | rakTransferEnd (host : List Nat) (fail : Option Nat)
  /-- RAK_DISABLE (R470). Clearing RKn_CTL.EN drops the queued request and stops the running transfer. -/
  | rakDisable (req : Fin 10) (n : Fin 16)
  /-- RAK_CNT_CLR (R7). A one written to bit n of RAK_CNT_CLR clears RKn_STAT.OVR and DONE. -/
  | rakCntClr (req : Fin 10) (mask : Nat)
  /-- ICU_COALESCE_TIMEOUT (R475). 2^COALT µs after the first counted arrival the source becomes pending. -/
  | icuCoalesceTimeout (src : Fin 1024)
  /-- ICU_PEND_WRITE (R475). A one written to a bit of ICU_PENDw sets that source pending at once. -/
  | icuPendWrite (req : Fin 10) (w : Fin 32) (data : Nat)
  /-- ICU_SRC_WRITE (R475). A write of ICU_SRCs configures the source, clearing pending state when EN is cleared. -/
  | icuSrcWrite (req : Fin 10) (src : Fin 1024) (data : Nat)
  /-- ICU_CLAIM (R478). A read of ICU_Tt_CLAIM puts the best deliverable source in service, or returns the spurious number. -/
  | icuClaim (req : Fin 10) (tgt : Fin 5)
  /-- ICU_COMPLETE (R479). A write of ICU_Tt_COMPLETE takes a source out of service, or is discarded and counted. -/
  | icuComplete (req : Fin 10) (tgt : Fin 5) (src : Nat)
  /-- ACLR_ALL (R473). A one written to ICU_ACLR.ALL clears every arrival counter. -/
  | aclrAll (req : Fin 10)
  /-- ACLR_ONE (R473). A one written to ICU_ACLR.ONE clears the arrival counter of SRC. -/
  | aclrOne (req : Fin 10) (src : Fin 1024)
  /-- ICU_CNT_CLR (R7). A one written to ICU_CNT.CLR clears SPUR and BADCPL. -/
  | icuCntClr (req : Fin 10)
  /-- VBAT_RESET (R482). VBAT_CELLAR falls below 2.3 V, asserting VBAT reset and clearing every Cellar word. -/
  | vbatReset
  /-- VBAT_RELEASE (R485). VBAT_CELLAR rises above 2.5 V, the Cellar enters ACTIVE and drives CORE_EN high. -/
  | vbatRelease
  /-- RESET_N (R518). RESET_N low for 1 µs or longer asserts SYSTEM reset. -/
  | resetN
  /-- BROWNOUT (R483). VDD_CORE or VDD_IO stays under its threshold for 2 µs and SYSTEM reset is held. -/
  | brownout
  /-- PERST_N (R482). PERST_N low asserts the PCIE reset domain. -/
  | perstN
  /-- SYSTEM_RESET_RELEASE (R486). Supplies have been in limits for 1 ms with a good reference, so SYSTEM reset is released. -/
  | systemResetRelease (tmode : Fin 4)
  /-- BOOT (R487). After SYSTEM reset release MG verifies the bank, applies spares, releases CORE reset and loads the stored image. -/
  | boot
  /-- CORERST (R482). A one written by MG to MGS_CTL.CORERST asserts CORE reset. -/
  | corerst (req : Fin 10)
  /-- CONFIRM (R501). A one written by MG to MGS_CTL.CONFIRM clears TRIAL. -/
  | confirm (req : Fin 10)
  /-- TRIAL_TIMEOUT (R501). 10 s pass without confirmation of a trial boot and the device rolls back. -/
  | trialTimeout
  /-- MGS_BANK_SW (R500). A cork of MGS_BANK_SW naming a verified inactive bank asserts SYSTEM reset and boots it on trial. -/
  | mgsBankSw (req : Fin 10) (bank : Bool)
  /-- KICK (R491). A one written by MG to MGS_WDOG.KICK restarts the watchdog. -/
  | kick (req : Fin 10)
  /-- WDOG_EXPIRY (R491). The watchdog expires, lanes stop and SYSTEM reset is asserted. -/
  | wdogExpiry
  /-- TEMP_SAMPLE (R492). MG samples the temperature sensors every 1 ms and raises TEMP_WARN or TEMP_CRIT. -/
  | tempSample (temps : List Int)
  /-- VOLT_SAMPLE (R493). Each voltage monitor is sampled every 10 µs and sets UV or OV after three samples out of limits. -/
  | voltSample (v : Fin 24) (mv : Nat)
  /-- AGING_MEASURE (R494). Every 10 s MG measures the aging monitors and raises WORN when DEGR reaches the limit. -/
  | agingMeasure (degr : List Int)
  /-- MRAM_ECC_ERROR (R502). A corrected or uncorrectable MRAM error is counted and may trigger a sector swap. -/
  | mramEccError (sector : Fin 1024) (ue : Bool)
  /-- CASK_ECC_ERROR (R504). A corrected or uncorrectable cask error is counted and may trigger a row swap. -/
  | caskEccError (row : Fin 4096) (ue : Bool) (word : Nat)
  /-- SPARE_SWAP_PE (R502). A prediction engine is replaced by a free spare and the outvoted engine retired. -/
  | spareSwapPe (req : Fin 10) (unit : Nat)
  /-- SPARE_SWAP_CASK_ROW (R502). A cask row is copied to a spare row. -/
  | spareSwapCaskRow (req : Fin 10) (unit : Nat)
  /-- SPARE_SWAP_PLL (R502). The root moves from PLLA to PLLB through holdover. -/
  | spareSwapPll (req : Fin 10) (unit : Nat)
  /-- SPARE_SWAP_MRAM_SECTOR (R502). An MRAM sector is copied to a spare sector and remapped. -/
  | spareSwapMramSector (req : Fin 10) (unit : Nat)
  /-- PWR_DOM_UP (R505). A cork of PWR_DOM_CTL with ON = 1 powers a domain up. -/
  | pwrDomUp (req : Fin 10) (dom : Fin 8)
  /-- DOM_RAMP_DONE (R505). A powering domain comes up and its reset is released, or DOM_FAIL is raised after 100 µs. -/
  | domRampDone (dom : Fin 8) (up : Bool)
  /-- PWR_DOM_DRAIN (R506). A cork of PWR_DOM_CTL with ON = 0 starts draining a domain. -/
  | pwrDomDrain (req : Fin 10) (dom : Fin 8)
  /-- DRAIN_END (R507). A drain ends and the device stops transfers, declares positions lost, stops lanes and removes power. -/
  | drainEnd (dom : Fin 8)
  /-- PWR_SLEEP (R510). A taken write of PWR_SLEEP.GO drains all domains, makes the retention copy and puts the Cellar in SLEEP. -/
  | pwrSleep (req : Fin 10)
  /-- WAKE_PIN (R511). WAKE_N low for 2 SLOW periods is a wake source. -/
  | wakePin
  /-- WAKE_TIMER_EXPIRY (R511). CEL_WTIMER expires during sleep and is a wake source. -/
  | wakeTimerExpiry
  /-- MOVEMENT_WATCH_SAMPLE (R515). A movement watch powers and samples its sensor, setting MOVED and waking on MCNT changes. -/
  | movementWatchSample (w : Fin 2) (level : Bool)
  /-- WAKE (R512). A held wake starts once CORE_EN has been low for 1 ms, recording causes and raising CORE_EN. -/
  | wake
  /-- CEL_RSTCAUSE_CLR (R484). A one written to CEL_RSTCAUSE.CLR clears the reset cause bits. -/
  | celRstcauseClr (req : Fin 10)
  /-- CEL_MWSTAT_CLR (R515). A one written to CEL_MWSTAT.CLR clears DET and the change counts. -/
  | celMwstatClr (req : Fin 10)
  /-- PWR_CNT_CLR (R7). A one written to PWR_CNT_CLR clears PWR_STAT and every CUT and DOWNS. -/
  | pwrCntClr (req : Fin 10)
  /-- TAP_RESET (R529). TRST_N low or five TCK cycles with TMS high reset the TAP and select IDCODE. -/
  | tapReset
  /-- IDCODE (R529). The IDCODE instruction selects the identification register. -/
  | idcode
  /-- SAMPLE_PRELOAD (R529). The SAMPLE/PRELOAD instruction samples or preloads the boundary-scan register. -/
  | samplePreload
  /-- EXTEST (R529). The EXTEST instruction drives and captures pins in board test mode. -/
  | extest
  /-- CLAMP (R529). The CLAMP instruction holds the pins in board test mode. -/
  | clamp
  /-- HIGHZ (R529). The HIGHZ instruction floats the outputs in board test mode. -/
  | highz
  /-- EXTEST_PULSE (R529). The EXTEST_PULSE instruction tests AC-coupled lanes in board test mode. -/
  | extestPulse
  /-- EXTEST_TRAIN (R529). The EXTEST_TRAIN instruction tests AC-coupled lanes with pulse trains in board test mode. -/
  | extestTrain
  /-- DTMCS (R529). The DTMCS instruction reaches the RISC-V debug transport control while JLOCK is clear. -/
  | dtmcs
  /-- DMI (R529). The DMI instruction reaches the debug module of AC0–AC3, or returns status 2 under JLOCK. -/
  | dmi
  /-- BYPASS (R529). The BYPASS instruction, and any unlisted opcode, selects the bypass register. -/
  | bypass
  /-- DBGACC_READ (R530). A DBGACC update with OP 1 reads a BAR0 offset as requester 9. -/
  | dbgaccRead (off : Nat)
  /-- DBGACC_WRITE (R530). A DBGACC update with OP 2 writes a BAR0 offset as requester 9. -/
  | dbgaccWrite (off : Nat) (data : Nat)
  /-- DBGACC_CORKED_WRITE (R530). A DBGACC update with OP 3 writes a value and its complement as a corked pair. -/
  | dbgaccCorkedWrite (off : Nat) (data : Nat)
  /-- JLOCK (R529). A one written to DBG_CTL.JLOCK locks the debug instructions until SYSTEM reset. -/
  | jlock (req : Fin 10)
  /-- DBG_DIRECT_ON (R534). A cork of DBG_DIRECT with ON = 1 enters direct-debug mode, or is counted without effect. -/
  | dbgDirectOn (req : Fin 10)
  /-- DBG_DIRECT_OFF (R534). A cork of DBG_DIRECT with ON = 0 ends direct-debug mode. -/
  | dbgDirectOff (req : Fin 10)
  /-- PRBS_CTL_WRITE (R533). A write of DBG_PRBS_CTL starts the pattern on an idle powered lane pair, or is discarded and counted. -/
  | prbsCtlWrite (req : Fin 10) (data : Nat)
  /-- DBG_STAT_CLR (R7). A one written to DBG_STAT.CLR clears PREF and DREF. -/
  | dbgStatClr (req : Fin 10)
  /-- ATB_SEL_WRITE (R531). A write of ATB_SELb connects a node to the bus, or is discarded and counted. -/
  | atbSelWrite (req : Fin 10) (b : Fin 2) (data : Nat)
  /-- ATB_STAT_CLR (R7). A one written to ATB_STAT.CLR clears REF. -/
  | atbStatClr (req : Fin 10)
  /-- COMPLEMENT_WORD_WRITE (R62). A write to the complement word of a corked register with no cork open, from another requester, or with a value that is not the complement is refused with reason 3, 5 or 1. -/
  | complementWordWrite (req : Fin 10) (off : Nat) (data : Nat)
  /-- HOP0_LOCK_GAINED (R272). The BVX9512 receiver on hop 0 up of a link gains lock, setting TLKn_STAT.LOCK and letting discovery of position 0 proceed. -/
  | hop0LockGained (n : Fin 16)
  /-- TILE_UPSTREAM_LOCK_GAINED (R362). A tile side regains lock on its upstream port and its closed downstream port resumes sending IDLE ordered sets. -/
  | tileUpstreamLockGained (t : Fin 64) (side : Bool)
  /-- SPARE_TRAINED (R276). A receiver completes training on a mirrored spare lane (lock, comma alignment, skew measured) and reports SOK. -/
  | spareTrained (n : Fin 16) (p : Fin 4) (up : Bool) (skew : Int)
  /-- MIR_RX_LANE_LOCK (R333). One mirror receive lane loses or regains lock while the other stays locked, changing LOCK0 or LOCK1, counting LANEF and raising or clearing MLANE. -/
  | mirRxLaneLock (lane : Fin 2) (locked : Bool)
  /-- PCIE_LINK_UP (R373). PCI Express link training completes, LINKUP, SPEED and WIDTH are set, and rings and streams can run again. -/
  | pcieLinkUp (speed : Fin 4) (width : Nat)
  /-- PERST_N_RELEASE (R482). PERST_N returns high, releasing the PCIE reset domain and starting link training within 20 ms. -/
  | perstNRelease
  /-- INHIBIT_INPUT_RELEASE (R322). A tile's inhibit input becomes inactive, clearing INHP and starting the QUIET count that a later REARM needs. -/
  | inhibitInputRelease (t : Fin 64)
  /-- ENC_WIRE_HEALTHY (R439). A differential encoder pair that was faulty becomes healthy and its WIRE bit clears. -/
  | encWireHealthy (m : Fin 8) (pair : Fin 3)
  /-- ENC_AMP_RECOVERY (R437). The sine/cosine amplitude returns within its window, clearing ENCm_STAT.AMP and releasing the held count. -/
  | encAmpRecovery (m : Fin 8)
  /-- PLL_LOCKED (R502). A PLL that had lost lock locks again, setting LOCK and, with no spare free, releasing the held SYSTEM reset. -/
  | pllLocked (p : Fin 2)
  /-- FRESH_EXPIRY (R355). 50 µs pass with no valid TIME frame on a tile side that does not hold the lease, so FRESH clears and the side is no longer eligible. -/
  | freshExpiry (t : Fin 64) (side : Bool)
  /-- TILE_OVERTEMP (R327). A tile's temperature crosses its over-temperature limit and the tile reports DIAG OVERTEMP with LEVEL 1 or 0. -/
  | tileOvertemp (t : Fin 64) (hot : Bool) (temp : Nat)
deriving DecidableEq, Repr

end Sys2Proof
end

