-- ==== Sys2Proof/Config.lean ====
section
/-! DEFINITION. What the spec leaves open: free values, as constants without a body. Nothing in Lean can evaluate one
or prove a value of it. Each is applied to plain data: the operands it depends on, or the draw counter of the device
(notes/assumptions/8.md). -/

namespace Sys2Proof.Config

/-- A value the spec calls undefined, drawn by number (R470: REM, SPTR and DPTR of a disabled racking channel; and
the other places notes/assumptions/8.md lists). -/
opaque freeWord : Nat → Word

/-- The public key in each key slot, as a point of P-256 (R496): the keys are written at production test, and the spec gives
no value of them. -/
opaque sigKey : Nat → Nat × Nat

/-- The image kind a key slot is marked for (R496): 1 configuration, 2 firmware, 0 neither. -/
opaque keyKind : Nat → Nat

/-- The DVER of the running firmware of a bank (R496); the bank contents at the factory are not the spec's. -/
opaque fwDver : Bool → Nat

/-- The serial number of the device (R335, R344); the spec gives no value. -/
opaque devSerial : Nat

/-- The word a debug-module register returns through DMI (R529 names the RISC-V debug module of the cores, whose
registers the spec does not give). -/
opaque dmiWord : Nat → Word

/-- The vendor ID and the revision ID that configuration space reports (R374 names the holder of the first, and neither's value). -/
opaque vendorId : Nat

opaque revisionId : Nat

end Sys2Proof.Config
end

