-- ==== Sys2Proof/Machine/Hash.lean ====
section
/-! DEFINITION. Number and byte helpers, CRCs, SHA-256 and ECDSA over P-256. Multi-byte values are little-endian (R5). -/

namespace Sys2Proof.Machine

/-- Bits hi..lo of n. -/
def bits (n hi lo : Nat) : Nat := (n / 2 ^ lo) % 2 ^ (hi + 1 - lo)

/-- Bit i of n. -/
def bitOf (n i : Nat) : Bool := n / 2 ^ i % 2 == 1

def b2n (b : Bool) : Nat := if b then 1 else 0

/-- n read as a w-bit two's complement number (R14, R19). -/
def toS (w n : Nat) : Int := if n % 2 ^ w < 2 ^ (w - 1) then (n % 2 ^ w : Nat) else ((n % 2 ^ w : Nat) : Int) - (2 ^ w : Nat)

/-- i written as a w-bit two's complement number. -/
def ofS (w : Nat) (i : Int) : Nat := (i % (2 ^ w : Nat)).toNat

/-- Integer division rounded toward minus infinity. -/
def fdiv (a b : Int) : Int := Int.fdiv a b

/-- a / b rounded to nearest, half away from zero. -/
def rdivNat (a b : Nat) : Nat := (2 * a + b) / (2 * b)

/-- a limited to lo..hi. -/
def clampI (lo hi a : Int) : Int := if a < lo then lo else if a > hi then hi else a

/-- Saturating add on w bits. -/
def satAdd (w a b : Nat) : Nat := min (a + b) (2 ^ w - 1)

/-- The bytes of a little-endian value (R5). -/
def leBytes : Nat → Nat → List Nat
  | 0, _ => []
  | k + 1, v => v % 256 :: leBytes k (v / 256)

/-- A little-endian value from its bytes (R5). -/
def leNat : List Nat → Nat
  | [] => 0
  | b :: r => b % 256 + 256 * leNat r

/-- A big-endian value from its bytes. -/
def beNat (l : List Nat) : Nat := l.foldl (fun a b => a * 256 + b % 256) 0

/-- The bytes of 32-bit words. -/
def wordsBytes (l : List Nat) : List Nat := l.flatMap (leBytes 4)

/-- Little-endian 32-bit words of a byte list whose length is a multiple of 4. -/
def bytesWords : List Nat → List Nat
  | a :: b :: c :: e :: r => leNat [a, b, c, e] :: bytesWords r
  | _ => []

/-- One bit of a CRC, most significant bit first. -/
def crcBit (w poly crc : Nat) (b : Bool) : Nat :=
  let top := bitOf crc (w - 1)
  let sh := crc * 2 % 2 ^ w
  if xor top b then Nat.xor sh poly else sh

/-- One bit of a reflected CRC, least significant bit first. -/
def crcBitR (poly crc : Nat) (b : Bool) : Nat :=
  if xor (bitOf crc 0) b then Nat.xor (crc / 2) poly else crc / 2

def byteBitsMsb (v : Nat) : List Bool := [7, 6, 5, 4, 3, 2, 1, 0].map (bitOf v)
def byteBitsLsb (v : Nat) : List Bool := [0, 1, 2, 3, 4, 5, 6, 7].map (bitOf v)

/-! ### SHA-256 (R495) -/

/-- Is n a prime? -/
def isPrime (n : Nat) : Bool := decide (2 ≤ n) && (List.range n).all (fun k => k < 2 || n % k != 0)

/-- The first 64 prime numbers: 311 is the last of them. -/
def shaPrimes : List Nat := (List.range 312).filter isPrime

/-- The greatest r with r ^ e ≤ n, of b bits, found from its highest bit down. -/
def rootBits (e n : Nat) : Nat → Nat → Nat
  | 0, r => r
  | b + 1, r => rootBits e n b (if (r + 2 ^ b) ^ e ≤ n then r + 2 ^ b else r)

/-- The first 32 bits of the fraction of the e-th root of p (p below 512). -/
def rootFrac (e p : Nat) : Word := BitVec.ofNat 32 (rootBits e (p * 2 ^ (32 * e)) 37 0)

/-- The word each of the 64 rounds adds: from the cube roots of the first 64 primes. -/
def shaAdds : List Word := shaPrimes.map (rootFrac 3)

/-- The sum of rotations of x that the standard calls a capital sigma. -/
def rotSum (l : List Nat) (x : Word) : Word := l.foldl (fun y k => y ^^^ x.rotateRight k) 0

/-- What SHA-256 carries from word to word: the last four values of either half of the working words, newest first, and the
last sixteen message words, oldest first. -/
structure ShaRun where
  up : List Word
  low : List Word
  msg : List Word
deriving DecidableEq, Repr

/-- The first half of a working word's sum, from the lower half and the word this round adds. -/
def ShaRun.carry (r : ShaRun) (k : Word) : Word :=
  let pick := fun i => r.low.getD i 0
  pick 3 + rotSum [6, 11, 25] (pick 0) + (pick 2 ^^^ (pick 0 &&& (pick 1 ^^^ pick 2))) + k + r.msg.headD 0

/-- The message word that joins the sixteen. -/
def ShaRun.grow (r : ShaRun) : Word :=
  let m := fun i => r.msg.getD i 0
  m 0 + m 9 + (rotSum [7, 18] (m 1) ^^^ (m 1 >>> 3)) + (rotSum [17, 19] (m 14) ^^^ (m 14 >>> 10))

/-- One round: a value joins either half, a word joins the message, and the oldest of each leaves. -/
def ShaRun.turn (r : ShaRun) (k : Word) : ShaRun :=
  let x := r.carry k
  let v := fun i => r.up.getD i 0
  let major := (v 0 &&& (v 1 ||| v 2)) ||| (v 1 &&& v 2)
  { up := (x + rotSum [2, 13, 22] (v 0) + major) :: r.up.take 3
    low := (v 3 + x) :: r.low.take 3
    msg := r.msg.tail ++ [r.grow] }

/-- Sixteen message words taken into the eight words of the digest so far. -/
def shaTake (h m : List Word) : List Word :=
  let r := shaAdds.foldl ShaRun.turn ⟨h.take 4, h.drop 4, m⟩
  List.zipWith (fun a b => a + b) h (r.up ++ r.low)

/-- A message of n times 64 bytes taken into the digest h. -/
def shaAll : Nat → List Word → List Nat → List Word
  | 0, h, _ => h
  | n + 1, h, l =>
    let m := (List.range 16).map (fun i => BitVec.ofNat 32 (beNat ((l.drop (4 * i)).take 4)))
    shaAll n (shaTake h m) (l.drop 64)

/-- The k bytes of v, highest first. -/
def beBytes (k v : Nat) : List Nat := (leBytes k v).reverse

/-- SHA-256 of a byte list, as 32 bytes (R495); its first digest comes from the square roots of the first eight primes. -/
def sha256 (msg : List Nat) : List Nat :=
  let fill := List.replicate ((119 - msg.length % 64) % 64) 0
  let l := msg ++ 0x80 :: fill ++ beBytes 8 (8 * msg.length)
  (shaAll (l.length / 64) ((shaPrimes.take 8).map (rootFrac 2)) l).flatMap (fun w => beBytes 4 w.toNat)

/-! ### ECDSA over P-256 (R495) -/

/-- The field and the order of the group of P-256, the curve's constant term, and its base point. -/
def p256Field : Nat := 2 ^ 256 - 2 ^ 224 + 2 ^ 192 + 2 ^ 96 - 1
def p256Order : Nat := 0xFFFFFFFF00000000FFFFFFFFFFFFFFFFBCE6FAADA7179E84F3B9CAC2FC632551
def p256Const : Nat := 0x5AC635D8AA3A93E7B3EBBD55769886BC651D06B0CC53B0F63BCE3C3E27D2604B
def p256Base : Nat × Nat :=
  (0x6B17D1F2E12C4247F8BCE6E563A440F277037D812DEB33A0F4A13945D898C296, 0x4FE342E2FE1A7F9B8EE7EB4A7C0F9E162BCE33576B315ECECBB6406837BF51F5)

/-- The product of the squares of a, taken n times, that the bits of e select, modulo m. -/
def powMod (m : Nat) : Nat → Nat → Nat → Nat
  | 0, _, _ => 1
  | n + 1, a, e => (if e % 2 = 1 then a else 1) * powMod m n (a * a % m) (e / 2) % m

/-- The inverse of a modulo a prime m of 256 bits. -/
def invMod (m a : Nat) : Nat := powMod m 256 (a % m) (m - 2)

/-- A point of the curve; none is the one at infinity. -/
abbrev EcPoint := Option (Nat × Nat)

/-- The sum of two points of P-256, whose linear coefficient is -3. -/
def ecAdd : EcPoint → EcPoint → EcPoint
  | none, q => q
  | p, none => p
  | some (x, y), some (u, v) =>
    let m := p256Field
    if x = u ∧ (y + v) % m = 0 then none
    else
      let s := if x = u then (3 * (x * x) + (m - 3)) % m * invMod m (2 * y) % m else (v + m - y) % m * invMod m (u + m - x) % m
      let w := (s * s + 2 * m - x - u) % m
      some (w, (s * (x + m - w) + m - y) % m)

/-- k times a point, by the n lowest bits of k. -/
def ecMul : Nat → Nat → EcPoint → EcPoint
  | 0, _, _ => none
  | n + 1, k, p => ecAdd (if k % 2 = 1 then p else none) (ecMul n (k / 2) (ecAdd p p))

/-- Is the point a public key of P-256? -/
def ecKey (q : Nat × Nat) : Bool :=
  decide (q.1 < p256Field) && decide (q.2 < p256Field) &&
    q.2 * q.2 % p256Field == (q.1 * q.1 * q.1 + (p256Field - 3) * q.1 + p256Const) % p256Field

/-- Does the signature of 64 bytes, r then s, each big-endian, verify over a hash of 32 bytes under public key q (R495)? -/
def ecdsaVerify (q : Nat × Nat) (hash sig : List Nat) : Bool :=
  let n := p256Order
  let r := beNat (sig.take 32)
  let s := beNat ((sig.drop 32).take 32)
  let w := invMod n s
  ecKey q && decide (1 ≤ r) && decide (r < n) && decide (1 ≤ s) && decide (s < n) &&
    (ecAdd (ecMul 256 (beNat hash * w % n) (some p256Base)) (ecMul 256 (r * w % n) (some q))).elim false (fun p => p.1 % n == r)

end Sys2Proof.Machine
end

