-- ==== Sys2Proof/Machine/Regs.lean ====
section
/-! DEFINITION. The register map of spec/: every register heading of the chapters as an address (R.<REGISTER>), every
field as an address with its bits (F.<REGISTER>_<FIELD>), and the register tables with reset values and writable
masks (R7). Index arguments follow the heading of the register (n, k, m, ... as in spec/). Tile registers carry tile
addresses (R283) and Cellar words carry Cellar word addresses (R66); all other addresses are canonical BAR0 offsets. -/

namespace Sys2Proof.Machine

/-- A register field: the address of its register and its highest and lowest bit. -/
structure Fld where
  addr : Nat
  hi : Nat
  lo : Nat
deriving DecidableEq, Repr

/-- A register of a block: name, address of its first copy, strides and counts of its copies, reset value, and the
masks of the bits a plain write reaches at once (RW) and in the shadow copy (RWS). -/
structure RegDesc where
  name : String
  base : Nat
  dims : List (Nat × Nat)
  reset : Nat
  rw : Nat
  rws : Nat
deriving DecidableEq, Repr


/- spec/02_register_model.md -/
/-- SYS_UPD_STROBE. -/
abbrev R.SYS_UPD_STROBE : Nat := 0x40
abbrev F.SYS_UPD_STROBE_GRP : Fld := ⟨R.SYS_UPD_STROBE, 7, 0⟩
/-- SYS_UPD_PEND. -/
abbrev R.SYS_UPD_PEND : Nat := 0x44
abbrev F.SYS_UPD_PEND_TRK_PEND : Fld := ⟨R.SYS_UPD_PEND, 23, 8⟩
abbrev F.SYS_UPD_PEND_GRP_PEND : Fld := ⟨R.SYS_UPD_PEND, 7, 0⟩
/-- SYS_UPD_CFG. -/
abbrev R.SYS_UPD_CFG : Nat := 0x48
abbrev F.SYS_UPD_CFG_TIMEOUT : Fld := ⟨R.SYS_UPD_CFG, 15, 0⟩
/-- SYS_UPD_STAT. -/
abbrev R.SYS_UPD_STAT : Nat := 0x4c
abbrev F.SYS_UPD_STAT_CLR : Fld := ⟨R.SYS_UPD_STAT, 31, 31⟩
abbrev F.SYS_UPD_STAT_TIMEOUTS : Fld := ⟨R.SYS_UPD_STAT, 23, 16⟩
abbrev F.SYS_UPD_STAT_BUSYWR : Fld := ⟨R.SYS_UPD_STAT, 15, 8⟩
abbrev F.SYS_UPD_STAT_REFUSED : Fld := ⟨R.SYS_UPD_STAT, 7, 0⟩
/-- SYS_VINTAGE. -/
abbrev R.SYS_VINTAGE : Nat := 0x50
abbrev F.SYS_VINTAGE_IMAGE : Fld := ⟨R.SYS_VINTAGE, 31, 16⟩
abbrev F.SYS_VINTAGE_CUR : Fld := ⟨R.SYS_VINTAGE, 15, 0⟩
/-- SYS_TRK_GRP. -/
abbrev R.SYS_TRK_GRP (h : Nat) : Nat := 0x54 + 4 * h
abbrev F.SYS_TRK_GRP_GRP0 (h : Nat) : Fld := ⟨R.SYS_TRK_GRP h, 2, 0⟩
abbrev F.SYS_TRK_GRP_GRP1 (h : Nat) : Fld := ⟨R.SYS_TRK_GRP h, 6, 4⟩
abbrev F.SYS_TRK_GRP_GRP2 (h : Nat) : Fld := ⟨R.SYS_TRK_GRP h, 10, 8⟩
abbrev F.SYS_TRK_GRP_GRP3 (h : Nat) : Fld := ⟨R.SYS_TRK_GRP h, 14, 12⟩
abbrev F.SYS_TRK_GRP_GRP4 (h : Nat) : Fld := ⟨R.SYS_TRK_GRP h, 18, 16⟩
abbrev F.SYS_TRK_GRP_GRP5 (h : Nat) : Fld := ⟨R.SYS_TRK_GRP h, 22, 20⟩
abbrev F.SYS_TRK_GRP_GRP6 (h : Nat) : Fld := ⟨R.SYS_TRK_GRP h, 26, 24⟩
abbrev F.SYS_TRK_GRP_GRP7 (h : Nat) : Fld := ⟨R.SYS_TRK_GRP h, 30, 28⟩
/-- SYS_TRK_VINT. -/
abbrev R.SYS_TRK_VINT (n : Nat) : Nat := 0x60 + 4 * n
abbrev F.SYS_TRK_VINT_ODD (n : Nat) : Fld := ⟨R.SYS_TRK_VINT n, 31, 16⟩
abbrev F.SYS_TRK_VINT_EVEN (n : Nat) : Fld := ⟨R.SYS_TRK_VINT n, 15, 0⟩
/-- SYS_LIVE_VIEW. -/
abbrev R.SYS_LIVE_VIEW : Nat := 0x80
abbrev F.SYS_LIVE_VIEW_LIVE : Fld := ⟨R.SYS_LIVE_VIEW, 0, 0⟩
/-- SYS_CORK_STAT. -/
abbrev R.SYS_CORK_STAT : Nat := 0x84
abbrev F.SYS_CORK_STAT_REQ : Fld := ⟨R.SYS_CORK_STAT, 31, 28⟩
abbrev F.SYS_CORK_STAT_REASON : Fld := ⟨R.SYS_CORK_STAT, 27, 25⟩
abbrev F.SYS_CORK_STAT_ADDR : Fld := ⟨R.SYS_CORK_STAT, 24, 0⟩
/-- CEL_IADDR. -/
abbrev R.CEL_IADDR : Nat := 0x30080
abbrev F.CEL_IADDR_BUSY : Fld := ⟨R.CEL_IADDR, 31, 31⟩
abbrev F.CEL_IADDR_RDY : Fld := ⟨R.CEL_IADDR, 30, 30⟩
abbrev F.CEL_IADDR_AINC : Fld := ⟨R.CEL_IADDR, 16, 16⟩
abbrev F.CEL_IADDR_ADDR : Fld := ⟨R.CEL_IADDR, 11, 0⟩
/-- CEL_IDATA. -/
abbrev R.CEL_IDATA : Nat := 0x30084
abbrev F.CEL_IDATA_DATA : Fld := ⟨R.CEL_IDATA, 31, 0⟩
/-- CEL_FC_SEQ. -/
abbrev R.CEL_FC_SEQ : Nat := 0x30088
abbrev F.CEL_FC_SEQ_SEQ : Fld := ⟨R.CEL_FC_SEQ, 31, 0⟩
/-- CEL_FC_AGE. -/
abbrev R.CEL_FC_AGE : Nat := 0x3008c
abbrev F.CEL_FC_AGE_AGE : Fld := ⟨R.CEL_FC_AGE, 15, 0⟩

/- spec/03_angle_tracking.md -/
/-- SNSn_CFG. -/
abbrev R.SNS_CFG (n : Nat) : Nat := 0x40000 + 0x40 * n
abbrev F.SNS_CFG_TH_MIN (n : Nat) : Fld := ⟨R.SNS_CFG n, 23, 16⟩
abbrev F.SNS_CFG_TH_FRAC (n : Nat) : Fld := ⟨R.SNS_CFG n, 11, 8⟩
abbrev F.SNS_CFG_EDGE (n : Nat) : Fld := ⟨R.SNS_CFG n, 3, 2⟩
abbrev F.SNS_CFG_TYPE (n : Nat) : Fld := ⟨R.SNS_CFG n, 1, 1⟩
abbrev F.SNS_CFG_EN (n : Nat) : Fld := ⟨R.SNS_CFG n, 0, 0⟩
/-- SNSn_FLT. -/
abbrev R.SNS_FLT (n : Nat) : Nat := 0x40004 + 0x40 * n
abbrev F.SNS_FLT_BLANK (n : Nat) : Fld := ⟨R.SNS_FLT n, 20, 16⟩
abbrev F.SNS_FLT_FLT (n : Nat) : Fld := ⟨R.SNS_FLT n, 9, 0⟩
/-- SNSn_STAT. -/
abbrev R.SNS_STAT (n : Nat) : Nat := 0x40008 + 0x40 * n
abbrev F.SNS_STAT_PEAK (n : Nat) : Fld := ⟨R.SNS_STAT n, 27, 16⟩
abbrev F.SNS_STAT_LOWAMP (n : Nat) : Fld := ⟨R.SNS_STAT n, 3, 3⟩
abbrev F.SNS_STAT_SHORT (n : Nat) : Fld := ⟨R.SNS_STAT n, 2, 2⟩
abbrev F.SNS_STAT_OPEN (n : Nat) : Fld := ⟨R.SNS_STAT n, 1, 1⟩
abbrev F.SNS_STAT_LEVEL (n : Nat) : Fld := ⟨R.SNS_STAT n, 0, 0⟩
/-- SNSn_TS_LO. -/
abbrev R.SNS_TS_LO (n : Nat) : Nat := 0x4000c + 0x40 * n
abbrev F.SNS_TS_LO_TS (n : Nat) : Fld := ⟨R.SNS_TS_LO n, 31, 0⟩
/-- SNSn_TS_HI. -/
abbrev R.SNS_TS_HI (n : Nat) : Nat := 0x40010 + 0x40 * n
abbrev F.SNS_TS_HI_TS (n : Nat) : Fld := ⟨R.SNS_TS_HI n, 31, 0⟩
/-- SNSn_PW. -/
abbrev R.SNS_PW (n : Nat) : Nat := 0x40014 + 0x40 * n
abbrev F.SNS_PW_PW (n : Nat) : Fld := ⟨R.SNS_PW n, 23, 0⟩
/-- SNSn_CNT. -/
abbrev R.SNS_CNT (n : Nat) : Nat := 0x40018 + 0x40 * n
abbrev F.SNS_CNT_GLITCH (n : Nat) : Fld := ⟨R.SNS_CNT n, 31, 16⟩
abbrev F.SNS_CNT_EDGES (n : Nat) : Fld := ⟨R.SNS_CNT n, 15, 0⟩
/-- SNS_CNT_CLR. -/
abbrev R.SNS_CNT_CLR : Nat := 0x40800
abbrev F.SNS_CNT_CLR_CLR : Fld := ⟨R.SNS_CNT_CLR, 31, 0⟩
/-- SNS_SUPPLY. -/
abbrev R.SNS_SUPPLY : Nat := 0x40804
abbrev F.SNS_SUPPLY_OC : Fld := ⟨R.SNS_SUPPLY, 19, 16⟩
abbrev F.SNS_SUPPLY_EN : Fld := ⟨R.SNS_SUPPLY, 3, 0⟩
/-- TRKn_CTL. -/
abbrev R.TRK_CTL (n : Nat) : Nat := 0x60000 + 0x1000 * n
abbrev F.TRK_CTL_QS_NODIR (n : Nat) : Fld := ⟨R.TRK_CTL n, 3, 3⟩
abbrev F.TRK_CTL_FB_EN (n : Nat) : Fld := ⟨R.TRK_CTL n, 2, 2⟩
abbrev F.TRK_CTL_QS_EN (n : Nat) : Fld := ⟨R.TRK_CTL n, 1, 1⟩
abbrev F.TRK_CTL_EN (n : Nat) : Fld := ⟨R.TRK_CTL n, 0, 0⟩
/-- TRKn_CFG. -/
abbrev R.TRK_CFG (n : Nat) : Nat := 0x60004 + 0x1000 * n
abbrev F.TRK_CFG_DIR_SRC (n : Nat) : Fld := ⟨R.TRK_CFG n, 18, 17⟩
abbrev F.TRK_CFG_PH_SRC (n : Nat) : Fld := ⟨R.TRK_CFG n, 16, 12⟩
abbrev F.TRK_CFG_PH_MODE (n : Nat) : Fld := ⟨R.TRK_CFG n, 9, 8⟩
abbrev F.TRK_CFG_PRI_SRC (n : Nat) : Fld := ⟨R.TRK_CFG n, 7, 4⟩
abbrev F.TRK_CFG_PRI_HI (n : Nat) : Fld := ⟨R.TRK_CFG n, 3, 3⟩
abbrev F.TRK_CFG_KIND (n : Nat) : Fld := ⟨R.TRK_CFG n, 1, 1⟩
abbrev F.TRK_CFG_CYC720 (n : Nat) : Fld := ⟨R.TRK_CFG n, 0, 0⟩
/-- TRKn_WHEEL. -/
abbrev R.TRK_WHEEL (n : Nat) : Nat := 0x60008 + 0x1000 * n
abbrev F.TRK_WHEEL_N (n : Nat) : Fld := ⟨R.TRK_WHEEL n, 9, 0⟩
/-- TRKn_REF_ANG. -/
abbrev R.TRK_REF_ANG (n : Nat) : Nat := 0x6000c + 0x1000 * n
abbrev F.TRK_REF_ANG_ANG (n : Nat) : Fld := ⟨R.TRK_REF_ANG n, 23, 0⟩
/-- TRKn_GAP. -/
abbrev R.TRK_GAP (n : Nat) : Nat := 0x60010 + 0x1000 * n
abbrev F.TRK_GAP_POST_HI (n : Nat) : Fld := ⟨R.TRK_GAP n, 23, 16⟩
abbrev F.TRK_GAP_GAP_HI (n : Nat) : Fld := ⟨R.TRK_GAP n, 15, 8⟩
abbrev F.TRK_GAP_GAP_LO (n : Nat) : Fld := ⟨R.TRK_GAP n, 7, 0⟩
/-- TRKn_TOL. -/
abbrev R.TRK_TOL (n : Nat) : Nat := 0x60014 + 0x1000 * n
abbrev F.TRK_TOL_TOL_HI (n : Nat) : Fld := ⟨R.TRK_TOL n, 15, 8⟩
abbrev F.TRK_TOL_TOL_LO (n : Nat) : Fld := ⟨R.TRK_TOL n, 7, 0⟩
/-- TRKn_TIME. -/
abbrev R.TRK_TIME (n : Nat) : Nat := 0x60018 + 0x1000 * n
abbrev F.TRK_TIME_SYNMAX (n : Nat) : Fld := ⟨R.TRK_TIME n, 31, 16⟩
abbrev F.TRK_TIME_TMAX (n : Nat) : Fld := ⟨R.TRK_TIME n, 15, 0⟩
/-- TRKn_FB. -/
abbrev R.TRK_FB (n : Nat) : Nat := 0x6001c + 0x1000 * n
abbrev F.TRK_FB_PH_TOL (n : Nat) : Fld := ⟨R.TRK_FB n, 31, 16⟩
abbrev F.TRK_FB_HYST (n : Nat) : Fld := ⟨R.TRK_FB n, 9, 0⟩
/-- TRKn_DIR. -/
abbrev R.TRK_DIR (n : Nat) : Nat := 0x60020 + 0x1000 * n
abbrev F.TRK_DIR_DIR_SNS (n : Nat) : Fld := ⟨R.TRK_DIR n, 20, 16⟩
abbrev F.TRK_DIR_DIRW (n : Nat) : Fld := ⟨R.TRK_DIR n, 15, 0⟩
/-- TRKn_REVOFS. -/
abbrev R.TRK_REVOFS (n : Nat) : Nat := 0x60024 + 0x1000 * n
abbrev F.TRK_REVOFS_OFS (n : Nat) : Fld := ⟨R.TRK_REVOFS n, 23, 0⟩
/-- TRKn_ENC. -/
abbrev R.TRK_ENC (n : Nat) : Nat := 0x60028 + 0x1000 * n
abbrev F.TRK_ENC_CPR (n : Nat) : Fld := ⟨R.TRK_ENC n, 23, 0⟩
/-- TRKn_ENCX. -/
abbrev R.TRK_ENCX (n : Nat) : Nat := 0x6002c + 0x1000 * n
abbrev F.TRK_ENCX_IDX_TOL (n : Nat) : Fld := ⟨R.TRK_ENCX n, 23, 16⟩
abbrev F.TRK_ENCX_DECIM (n : Nat) : Fld := ⟨R.TRK_ENCX n, 9, 0⟩
/-- TRKn_CAM. -/
abbrev R.TRK_CAM (n : Nat) : Nat := 0x60030 + 0x1000 * n
abbrev F.TRK_CAM_LVL_REF (n : Nat) : Fld := ⟨R.TRK_CAM n, 0, 0⟩
/-- TRKn_WHL. -/
abbrev R.TRK_WHL (n w : Nat) : Nat := 0x60040 + 0x1000 * n + 4 * w
abbrev F.TRK_WHL_MISS (n w : Nat) : Fld := ⟨R.TRK_WHL n w, 31, 0⟩
/-- TRKn_PHW. -/
abbrev R.TRK_PHW (n i : Nat) : Nat := 0x60080 + 0x1000 * n + 4 * i
abbrev F.TRK_PHW_EXTRA (n i : Nat) : Fld := ⟨R.TRK_PHW n i, 25, 25⟩
abbrev F.TRK_PHW_VALID (n i : Nat) : Fld := ⟨R.TRK_PHW n i, 24, 24⟩
abbrev F.TRK_PHW_ANG (n i : Nat) : Fld := ⟨R.TRK_PHW n i, 23, 0⟩
/-- TRKn_STAT. -/
abbrev R.TRK_STAT (n : Nat) : Nat := 0x60100 + 0x1000 * n
abbrev F.TRK_STAT_POS_WHL (n : Nat) : Fld := ⟨R.TRK_STAT n, 24, 16⟩
abbrev F.TRK_STAT_BADCNT (n : Nat) : Fld := ⟨R.TRK_STAT n, 9, 8⟩
abbrev F.TRK_STAT_QSCHK (n : Nat) : Fld := ⟨R.TRK_STAT n, 7, 7⟩
abbrev F.TRK_STAT_PH_OK (n : Nat) : Fld := ⟨R.TRK_STAT n, 6, 6⟩
abbrev F.TRK_STAT_DIR (n : Nat) : Fld := ⟨R.TRK_STAT n, 5, 4⟩
abbrev F.TRK_STAT_ARM_OK (n : Nat) : Fld := ⟨R.TRK_STAT n, 3, 3⟩
abbrev F.TRK_STAT_STATE (n : Nat) : Fld := ⟨R.TRK_STAT n, 2, 0⟩
/-- TRKn_ABS_LO. -/
abbrev R.TRK_ABS_LO (n : Nat) : Nat := 0x60104 + 0x1000 * n
abbrev F.TRK_ABS_LO_ABS (n : Nat) : Fld := ⟨R.TRK_ABS_LO n, 31, 0⟩
/-- TRKn_ABS_HI. -/
abbrev R.TRK_ABS_HI (n : Nat) : Nat := 0x60108 + 0x1000 * n
abbrev F.TRK_ABS_HI_ABS (n : Nat) : Fld := ⟨R.TRK_ABS_HI n, 31, 0⟩
/-- TRKn_TS_LO. -/
abbrev R.TRK_TS_LO (n : Nat) : Nat := 0x6010c + 0x1000 * n
abbrev F.TRK_TS_LO_TS (n : Nat) : Fld := ⟨R.TRK_TS_LO n, 31, 0⟩
/-- TRKn_TS_HI. -/
abbrev R.TRK_TS_HI (n : Nat) : Nat := 0x60110 + 0x1000 * n
abbrev F.TRK_TS_HI_TS (n : Nat) : Fld := ⟨R.TRK_TS_HI n, 31, 0⟩
/-- TRKn_PERIOD. -/
abbrev R.TRK_PERIOD (n : Nat) : Nat := 0x60114 + 0x1000 * n
abbrev F.TRK_PERIOD_PN (n : Nat) : Fld := ⟨R.TRK_PERIOD n, 31, 0⟩
/-- TRKn_CNT0. -/
abbrev R.TRK_CNT0 (n : Nat) : Nat := 0x60118 + 0x1000 * n
abbrev F.TRK_CNT0_QSDISC (n : Nat) : Fld := ⟨R.TRK_CNT0 n, 31, 24⟩
abbrev F.TRK_CNT0_LOSS (n : Nat) : Fld := ⟨R.TRK_CNT0 n, 23, 16⟩
abbrev F.TRK_CNT0_SYNTH (n : Nat) : Fld := ⟨R.TRK_CNT0 n, 15, 8⟩
abbrev F.TRK_CNT0_BAD (n : Nat) : Fld := ⟨R.TRK_CNT0 n, 7, 0⟩
/-- TRKn_CNT1. -/
abbrev R.TRK_CNT1 (n : Nat) : Nat := 0x6011c + 0x1000 * n
abbrev F.TRK_CNT1_IDXERR (n : Nat) : Fld := ⟨R.TRK_CNT1 n, 31, 24⟩
abbrev F.TRK_CNT1_FBRET (n : Nat) : Fld := ⟨R.TRK_CNT1 n, 23, 16⟩
abbrev F.TRK_CNT1_FBSW (n : Nat) : Fld := ⟨R.TRK_CNT1 n, 15, 8⟩
abbrev F.TRK_CNT1_CAMMIS (n : Nat) : Fld := ⟨R.TRK_CNT1 n, 7, 0⟩
/-- TRKn_FBSTEP. -/
abbrev R.TRK_FBSTEP (n : Nat) : Nat := 0x60120 + 0x1000 * n
abbrev F.TRK_FBSTEP_STEP (n : Nat) : Fld := ⟨R.TRK_FBSTEP n, 23, 0⟩
/-- TRK_CNT_CLR. -/
abbrev R.TRK_CNT_CLR : Nat := 0x70000
abbrev F.TRK_CNT_CLR_CLR : Fld := ⟨R.TRK_CNT_CLR, 15, 0⟩
/-- TRK_ARM. -/
abbrev R.TRK_ARM : Nat := 0x70004
abbrev F.TRK_ARM_ARM_OK : Fld := ⟨R.TRK_ARM, 15, 0⟩

/- spec/04_angle_prediction.md -/
/-- PRD_LMAP. -/
abbrev R.PRD_LMAP (l : Nat) : Nat := 0x80000 + 4 * l
abbrev F.PRD_LMAP_EN (l : Nat) : Fld := ⟨R.PRD_LMAP l, 31, 31⟩
abbrev F.PRD_LMAP_TRK (l : Nat) : Fld := ⟨R.PRD_LMAP l, 3, 0⟩
/-- PRD_PMAP. -/
abbrev R.PRD_PMAP (l : Nat) : Nat := 0x80080 + 4 * l
abbrev F.PRD_PMAP_PE (l : Nat) : Fld := ⟨R.PRD_PMAP l, 5, 0⟩
/-- PRD_CHK. -/
abbrev R.PRD_CHK : Nat := 0x80100
abbrev F.PRD_CHK_CUR : Fld := ⟨R.PRD_CHK, 29, 24⟩
abbrev F.PRD_CHK_PERIOD : Fld := ⟨R.PRD_CHK, 15, 8⟩
abbrev F.PRD_CHK_EN : Fld := ⟨R.PRD_CHK, 0, 0⟩
/-- PRD_ALLOC_STAT. -/
abbrev R.PRD_ALLOC_STAT : Nat := 0x80104
abbrev F.PRD_ALLOC_STAT_BUSYWR : Fld := ⟨R.PRD_ALLOC_STAT, 31, 16⟩
abbrev F.PRD_ALLOC_STAT_NOENG : Fld := ⟨R.PRD_ALLOC_STAT, 15, 0⟩
/-- PRD_QRYq_CMD. -/
abbrev R.PRD_QRY_CMD (q : Nat) : Nat := 0x80200 + 0x10 * q
abbrev F.PRD_QRY_CMD_START (q : Nat) : Fld := ⟨R.PRD_QRY_CMD q, 31, 31⟩
abbrev F.PRD_QRY_CMD_TRK (q : Nat) : Fld := ⟨R.PRD_QRY_CMD q, 27, 24⟩
abbrev F.PRD_QRY_CMD_ANG (q : Nat) : Fld := ⟨R.PRD_QRY_CMD q, 23, 0⟩
/-- PRD_QRYq_RES_LO. -/
abbrev R.PRD_QRY_RES_LO (q : Nat) : Nat := 0x80204 + 0x10 * q
abbrev F.PRD_QRY_RES_LO_TIME (q : Nat) : Fld := ⟨R.PRD_QRY_RES_LO q, 31, 0⟩
/-- PRD_QRYq_RES_HI. -/
abbrev R.PRD_QRY_RES_HI (q : Nat) : Nat := 0x80208 + 0x10 * q
abbrev F.PRD_QRY_RES_HI_TIME (q : Nat) : Fld := ⟨R.PRD_QRY_RES_HI q, 31, 0⟩
/-- PRD_QRYq_RES_ST. -/
abbrev R.PRD_QRY_RES_ST (q : Nat) : Nat := 0x8020c + 0x10 * q
abbrev F.PRD_QRY_RES_ST_READY (q : Nat) : Fld := ⟨R.PRD_QRY_RES_ST q, 31, 31⟩
abbrev F.PRD_QRY_RES_ST_SEEN (q : Nat) : Fld := ⟨R.PRD_QRY_RES_ST q, 30, 30⟩
abbrev F.PRD_QRY_RES_ST_PAST (q : Nat) : Fld := ⟨R.PRD_QRY_RES_ST q, 29, 29⟩
abbrev F.PRD_QRY_RES_ST_STALE (q : Nat) : Fld := ⟨R.PRD_QRY_RES_ST q, 28, 28⟩
abbrev F.PRD_QRY_RES_ST_NOPRED (q : Nat) : Fld := ⟨R.PRD_QRY_RES_ST q, 27, 27⟩
abbrev F.PRD_QRY_RES_ST_FRAC (q : Nat) : Fld := ⟨R.PRD_QRY_RES_ST q, 2, 0⟩
/-- PRD_CNT_CLR. -/
abbrev R.PRD_CNT_CLR : Nat := 0x80300
abbrev F.PRD_CNT_CLR_PE : Fld := ⟨R.PRD_CNT_CLR, 16, 16⟩
abbrev F.PRD_CNT_CLR_TRK : Fld := ⟨R.PRD_CNT_CLR, 15, 0⟩
/-- PEm_STAT. -/
abbrev R.PE_STAT (m : Nat) : Nat := 0x81000 + 0x100 * m
abbrev F.PE_STAT_ACTIVE (m : Nat) : Fld := ⟨R.PE_STAT m, 31, 31⟩
abbrev F.PE_STAT_SPARE (m : Nat) : Fld := ⟨R.PE_STAT m, 30, 30⟩
abbrev F.PE_STAT_RETIRED (m : Nat) : Fld := ⟨R.PE_STAT m, 29, 29⟩
abbrev F.PE_STAT_CHECK (m : Nat) : Fld := ⟨R.PE_STAT m, 28, 28⟩
abbrev F.PE_STAT_LOG (m : Nat) : Fld := ⟨R.PE_STAT m, 20, 16⟩
abbrev F.PE_STAT_TRK (m : Nat) : Fld := ⟨R.PE_STAT m, 15, 12⟩
abbrev F.PE_STAT_PEND (m : Nat) : Fld := ⟨R.PE_STAT m, 9, 0⟩
/-- PEm_LOAD. -/
abbrev R.PE_LOAD (m : Nat) : Nat := 0x81004 + 0x100 * m
abbrev F.PE_LOAD_PEAK (m : Nat) : Fld := ⟨R.PE_LOAD m, 31, 16⟩
abbrev F.PE_LOAD_LAST (m : Nat) : Fld := ⟨R.PE_LOAD m, 15, 0⟩
/-- PEm_CNT. -/
abbrev R.PE_CNT (m : Nat) : Nat := 0x81008 + 0x100 * m
abbrev F.PE_CNT_CHKERR (m : Nat) : Fld := ⟨R.PE_CNT m, 31, 16⟩
abbrev F.PE_CNT_OVR (m : Nat) : Fld := ⟨R.PE_CNT m, 15, 0⟩
/-- PRDk_CFG. -/
abbrev R.PRD_CFG (k : Nat) : Nat := 0x90000 + 0x2000 * k
abbrev F.PRD_CFG_LIN (k : Nat) : Fld := ⟨R.PRD_CFG k, 31, 31⟩
abbrev F.PRD_CFG_TE_EN (k : Nat) : Fld := ⟨R.PRD_CFG k, 30, 30⟩
abbrev F.PRD_CFG_RIP_EN (k : Nat) : Fld := ⟨R.PRD_CFG k, 29, 29⟩
abbrev F.PRD_CFG_ACC_SH (k : Nat) : Fld := ⟨R.PRD_CFG k, 26, 24⟩
abbrev F.PRD_CFG_ACC_MAX (k : Nat) : Fld := ⟨R.PRD_CFG k, 23, 16⟩
abbrev F.PRD_CFG_HOR (k : Nat) : Fld := ⟨R.PRD_CFG k, 4, 0⟩
/-- PRDk_RIP. -/
abbrev R.PRD_RIP (k : Nat) : Nat := 0x90004 + 0x2000 * k
abbrev F.PRD_RIP_MINCYC (k : Nat) : Fld := ⟨R.PRD_RIP k, 31, 28⟩
abbrev F.PRD_RIP_RIP_SH (k : Nat) : Fld := ⟨R.PRD_RIP k, 27, 24⟩
abbrev F.PRD_RIP_SPLIT (k : Nat) : Fld := ⟨R.PRD_RIP k, 23, 0⟩
/-- PRDk_RLIM. -/
abbrev R.PRD_RLIM (k : Nat) : Nat := 0x90008 + 0x2000 * k
abbrev F.PRD_RLIM_RIP_OUT (k : Nat) : Fld := ⟨R.PRD_RLIM k, 31, 16⟩
abbrev F.PRD_RLIM_RIP_CLAMP (k : Nat) : Fld := ⟨R.PRD_RLIM k, 15, 0⟩
/-- PRDk_TECFG. -/
abbrev R.PRD_TECFG (k : Nat) : Nat := 0x9000c + 0x2000 * k
abbrev F.PRD_TECFG_TE_CLAMP (k : Nat) : Fld := ⟨R.PRD_TECFG k, 31, 16⟩
abbrev F.PRD_TECFG_TE_SH (k : Nat) : Fld := ⟨R.PRD_TECFG k, 11, 8⟩
/-- PRDk_LGATE. -/
abbrev R.PRD_LGATE (k : Nat) : Nat := 0x90010 + 0x2000 * k
abbrev F.PRD_LGATE_DMAX (k : Nat) : Fld := ⟨R.PRD_LGATE k, 11, 0⟩
/-- PRDk_LRN. -/
abbrev R.PRD_LRN (k : Nat) : Nat := 0x90014 + 0x2000 * k
abbrev F.PRD_LRN_CLR_TE (k : Nat) : Fld := ⟨R.PRD_LRN k, 31, 31⟩
abbrev F.PRD_LRN_CLR_RIP1 (k : Nat) : Fld := ⟨R.PRD_LRN k, 30, 30⟩
abbrev F.PRD_LRN_CLR_RIP0 (k : Nat) : Fld := ⟨R.PRD_LRN k, 29, 29⟩
abbrev F.PRD_LRN_TE_LRN (k : Nat) : Fld := ⟨R.PRD_LRN k, 1, 1⟩
abbrev F.PRD_LRN_RIP_LRN (k : Nat) : Fld := ⟨R.PRD_LRN k, 0, 0⟩
/-- PRDk_B_LO. -/
abbrev R.PRD_B_LO (k : Nat) : Nat := 0x90020 + 0x2000 * k
abbrev F.PRD_B_LO_B (k : Nat) : Fld := ⟨R.PRD_B_LO k, 31, 0⟩
/-- PRDk_B_HI. -/
abbrev R.PRD_B_HI (k : Nat) : Nat := 0x90024 + 0x2000 * k
abbrev F.PRD_B_HI_B (k : Nat) : Fld := ⟨R.PRD_B_HI k, 31, 0⟩
/-- PRDk_D_LO. -/
abbrev R.PRD_D_LO (k : Nat) : Nat := 0x90028 + 0x2000 * k
abbrev F.PRD_D_LO_D (k : Nat) : Fld := ⟨R.PRD_D_LO k, 31, 0⟩
/-- PRDk_D_HI. -/
abbrev R.PRD_D_HI (k : Nat) : Nat := 0x9002c + 0x2000 * k
abbrev F.PRD_D_HI_D (k : Nat) : Fld := ⟨R.PRD_D_HI k, 31, 0⟩
/-- PRDk_STAT. -/
abbrev R.PRD_STAT (k : Nat) : Nat := 0x90030 + 0x2000 * k
abbrev F.PRD_STAT_PV (k : Nat) : Fld := ⟨R.PRD_STAT k, 31, 31⟩
abbrev F.PRD_STAT_TE_ON (k : Nat) : Fld := ⟨R.PRD_STAT k, 30, 30⟩
abbrev F.PRD_STAT_RIP_ON (k : Nat) : Fld := ⟨R.PRD_STAT k, 29, 29⟩
abbrev F.PRD_STAT_BAND (k : Nat) : Fld := ⟨R.PRD_STAT k, 28, 28⟩
abbrev F.PRD_STAT_TE_FIT (k : Nat) : Fld := ⟨R.PRD_STAT k, 27, 27⟩
abbrev F.PRD_STAT_RIP_FIT (k : Nat) : Fld := ⟨R.PRD_STAT k, 26, 26⟩
abbrev F.PRD_STAT_RCYC1 (k : Nat) : Fld := ⟨R.PRD_STAT k, 23, 16⟩
abbrev F.PRD_STAT_RCYC0 (k : Nat) : Fld := ⟨R.PRD_STAT k, 15, 8⟩
abbrev F.PRD_STAT_NINT (k : Nat) : Fld := ⟨R.PRD_STAT k, 7, 0⟩
/-- PRDk_RBIAS. -/
abbrev R.PRD_RBIAS (k : Nat) : Nat := 0x90034 + 0x2000 * k
abbrev F.PRD_RBIAS_RBIAS1 (k : Nat) : Fld := ⟨R.PRD_RBIAS k, 31, 16⟩
abbrev F.PRD_RBIAS_RBIAS0 (k : Nat) : Fld := ⟨R.PRD_RBIAS k, 15, 0⟩
/-- PRDk_RESID. -/
abbrev R.PRD_RESID (k : Nat) : Nat := 0x90038 + 0x2000 * k
abbrev F.PRD_RESID_RES (k : Nat) : Fld := ⟨R.PRD_RESID k, 31, 0⟩
/-- PRDk_RESMAX. -/
abbrev R.PRD_RESMAX (k : Nat) : Nat := 0x9003c + 0x2000 * k
abbrev F.PRD_RESMAX_MAX (k : Nat) : Fld := ⟨R.PRD_RESMAX k, 31, 0⟩
/-- PRDk_CNT0. -/
abbrev R.PRD_CNT0 (k : Nat) : Nat := 0x90040 + 0x2000 * k
abbrev F.PRD_CNT0_RESTART (k : Nat) : Fld := ⟨R.PRD_CNT0 k, 31, 24⟩
abbrev F.PRD_CNT0_OUTLIER (k : Nat) : Fld := ⟨R.PRD_CNT0 k, 23, 16⟩
abbrev F.PRD_CNT0_TEWR (k : Nat) : Fld := ⟨R.PRD_CNT0 k, 15, 8⟩
abbrev F.PRD_CNT0_CLAMP (k : Nat) : Fld := ⟨R.PRD_CNT0 k, 7, 0⟩
/-- PRDk_TE. -/
abbrev R.PRD_TE (k p : Nat) : Nat := 0x90400 + 0x2000 * k + 4 * p
abbrev F.PRD_TE_NS (k p : Nat) : Fld := ⟨R.PRD_TE k p, 23, 16⟩
abbrev F.PRD_TE_TE (k p : Nat) : Fld := ⟨R.PRD_TE k p, 15, 0⟩
/-- PRDk_RM. -/
abbrev R.PRD_RM (k c : Nat) : Nat := 0x91000 + 0x2000 * k + 4 * c
abbrev F.PRD_RM_R1 (k c : Nat) : Fld := ⟨R.PRD_RM k c, 31, 16⟩
abbrev F.PRD_RM_R0 (k c : Nat) : Fld := ⟨R.PRD_RM k c, 15, 0⟩

/- spec/05_event_scheduling.md -/
/-- SCH_TRKk_CTL. -/
abbrev R.SCH_TRK_CTL (k : Nat) : Nat := 0xc0000 + 0x100 * k
abbrev F.SCH_TRK_CTL_REARM (k : Nat) : Fld := ⟨R.SCH_TRK_CTL k, 2, 2⟩
abbrev F.SCH_TRK_CTL_BANK (k : Nat) : Fld := ⟨R.SCH_TRK_CTL k, 1, 1⟩
abbrev F.SCH_TRK_CTL_EN (k : Nat) : Fld := ⟨R.SCH_TRK_CTL k, 0, 0⟩
/-- SCH_TRKk_RANGE. -/
abbrev R.SCH_TRK_RANGE (k : Nat) : Nat := 0xc0004 + 0x100 * k
abbrev F.SCH_TRK_RANGE_COUNT (k : Nat) : Fld := ⟨R.SCH_TRK_RANGE k, 29, 16⟩
abbrev F.SCH_TRK_RANGE_BASE (k : Nat) : Fld := ⟨R.SCH_TRK_RANGE k, 12, 0⟩
/-- SCH_TRKk_LEAD. -/
abbrev R.SCH_TRK_LEAD (k : Nat) : Nat := 0xc0008 + 0x100 * k
abbrev F.SCH_TRK_LEAD_LEAD (k : Nat) : Fld := ⟨R.SCH_TRK_LEAD k, 31, 0⟩
/-- SCH_TRKk_LOOK. -/
abbrev R.SCH_TRK_LOOK (k : Nat) : Nat := 0xc000c + 0x100 * k
abbrev F.SCH_TRK_LOOK_LOOK (k : Nat) : Fld := ⟨R.SCH_TRK_LOOK k, 10, 0⟩
/-- SCH_TRKk_STAT. -/
abbrev R.SCH_TRK_STAT (k : Nat) : Nat := 0xc0010 + 0x100 * k
abbrev F.SCH_TRK_STAT_PREP (k : Nat) : Fld := ⟨R.SCH_TRK_STAT k, 31, 31⟩
abbrev F.SCH_TRK_STAT_OWNS_ANY (k : Nat) : Fld := ⟨R.SCH_TRK_STAT k, 30, 30⟩
abbrev F.SCH_TRK_STAT_PEND (k : Nat) : Fld := ⟨R.SCH_TRK_STAT k, 29, 16⟩
abbrev F.SCH_TRK_STAT_ARMED (k : Nat) : Fld := ⟨R.SCH_TRK_STAT k, 13, 0⟩
/-- SCH_TRKk_CNT0. -/
abbrev R.SCH_TRK_CNT0 (k : Nat) : Nat := 0xc0014 + 0x100 * k
abbrev F.SCH_TRK_CNT0_LATE (k : Nat) : Fld := ⟨R.SCH_TRK_CNT0 k, 31, 16⟩
abbrev F.SCH_TRK_CNT0_GATED (k : Nat) : Fld := ⟨R.SCH_TRK_CNT0 k, 15, 0⟩
/-- SCH_TRKk_CNT1. -/
abbrev R.SCH_TRK_CNT1 (k : Nat) : Nat := 0xc0018 + 0x100 * k
abbrev F.SCH_TRK_CNT1_CANCEL (k : Nat) : Fld := ⟨R.SCH_TRK_CNT1 k, 31, 16⟩
abbrev F.SCH_TRK_CNT1_NOTILE (k : Nat) : Fld := ⟨R.SCH_TRK_CNT1 k, 15, 0⟩
/-- SCH_TRKk_CNT2. -/
abbrev R.SCH_TRK_CNT2 (k : Nat) : Nat := 0xc001c + 0x100 * k
abbrev F.SCH_TRK_CNT2_REFUSED (k : Nat) : Fld := ⟨R.SCH_TRK_CNT2 k, 31, 24⟩
abbrev F.SCH_TRK_CNT2_OVERLAP (k : Nat) : Fld := ⟨R.SCH_TRK_CNT2 k, 23, 16⟩
abbrev F.SCH_TRK_CNT2_OWNER (k : Nat) : Fld := ⟨R.SCH_TRK_CNT2 k, 15, 8⟩
abbrev F.SCH_TRK_CNT2_BAD (k : Nat) : Fld := ⟨R.SCH_TRK_CNT2 k, 7, 0⟩
/-- SCH_TRKk_EXEC. -/
abbrev R.SCH_TRK_EXEC (k : Nat) : Nat := 0xc0020 + 0x100 * k
abbrev F.SCH_TRK_EXEC_EXEC (k : Nat) : Fld := ⟨R.SCH_TRK_EXEC k, 31, 0⟩
/-- SCH_TRKk_LASTLATE. -/
abbrev R.SCH_TRK_LASTLATE (k : Nat) : Nat := 0xc0024 + 0x100 * k
abbrev F.SCH_TRK_LASTLATE_BEHIND (k : Nat) : Fld := ⟨R.SCH_TRK_LASTLATE k, 31, 31⟩
abbrev F.SCH_TRK_LASTLATE_BANK (k : Nat) : Fld := ⟨R.SCH_TRK_LASTLATE k, 30, 30⟩
abbrev F.SCH_TRK_LASTLATE_IDX (k : Nat) : Fld := ⟨R.SCH_TRK_LASTLATE k, 12, 0⟩
/-- SCH_TRKk_LATEBY. -/
abbrev R.SCH_TRK_LATEBY (k : Nat) : Nat := 0xc0028 + 0x100 * k
abbrev F.SCH_TRK_LATEBY_BY (k : Nat) : Fld := ⟨R.SCH_TRK_LATEBY k, 31, 0⟩
/-- SCH_CHEN. -/
abbrev R.SCH_CHEN (w : Nat) : Nat := 0xc1000 + 4 * w
abbrev F.SCH_CHEN_EN (w : Nat) : Fld := ⟨R.SCH_CHEN w, 31, 0⟩
/-- SCH_GCFG. -/
abbrev R.SCH_GCFG : Nat := 0xc1040
abbrev F.SCH_GCFG_AMD_MIN : Fld := ⟨R.SCH_GCFG, 23, 16⟩
abbrev F.SCH_GCFG_CHGAP : Fld := ⟨R.SCH_GCFG, 15, 4⟩
abbrev F.SCH_GCFG_HIST : Fld := ⟨R.SCH_GCFG, 0, 0⟩
/-- SCH_GSTAT. -/
abbrev R.SCH_GSTAT : Nat := 0xc1044
abbrev F.SCH_GSTAT_HISTLOST : Fld := ⟨R.SCH_GSTAT, 31, 24⟩
abbrev F.SCH_GSTAT_SCANOVR : Fld := ⟨R.SCH_GSTAT, 23, 16⟩
abbrev F.SCH_GSTAT_ARMED : Fld := ⟨R.SCH_GSTAT, 13, 0⟩
/-- SCH_GSTAT2. -/
abbrev R.SCH_GSTAT2 : Nat := 0xc1048
abbrev F.SCH_GSTAT2_LIVEWR : Fld := ⟨R.SCH_GSTAT2, 31, 16⟩
abbrev F.SCH_GSTAT2_PEND : Fld := ⟨R.SCH_GSTAT2, 13, 0⟩
/-- SCH_DESC_ERR. -/
abbrev R.SCH_DESC_ERR : Nat := 0xc104c
abbrev F.SCH_DESC_ERR_REASON : Fld := ⟨R.SCH_DESC_ERR, 31, 28⟩
abbrev F.SCH_DESC_ERR_TRK : Fld := ⟨R.SCH_DESC_ERR, 27, 24⟩
abbrev F.SCH_DESC_ERR_BANK : Fld := ⟨R.SCH_DESC_ERR, 13, 13⟩
abbrev F.SCH_DESC_ERR_IDX : Fld := ⟨R.SCH_DESC_ERR, 12, 0⟩
/-- SCH_CNT_CLR. -/
abbrev R.SCH_CNT_CLR : Nat := 0xc1050
abbrev F.SCH_CNT_CLR_GLOBAL : Fld := ⟨R.SCH_CNT_CLR, 31, 31⟩
abbrev F.SCH_CNT_CLR_TRK : Fld := ⟨R.SCH_CNT_CLR, 15, 0⟩

/- spec/06_press_stroke_decisions.md -/
/-- PRSk_CTL. -/
abbrev R.PRS_CTL (k : Nat) : Nat := 0xd0000 + 0x200 * k
abbrev F.PRS_CTL_RESET (k : Nat) : Fld := ⟨R.PRS_CTL k, 1, 1⟩
abbrev F.PRS_CTL_EN (k : Nat) : Fld := ⟨R.PRS_CTL k, 0, 0⟩
/-- PRSk_CFG. -/
abbrev R.PRS_CFG (k : Nat) : Nat := 0xd0004 + 0x200 * k
abbrev F.PRS_CFG_HSCALE (k : Nat) : Fld := ⟨R.PRS_CFG k, 10, 10⟩
abbrev F.PRS_CFG_DSRC (k : Nat) : Fld := ⟨R.PRS_CFG k, 9, 9⟩
abbrev F.PRS_CFG_KIND (k : Nat) : Fld := ⟨R.PRS_CFG k, 8, 8⟩
abbrev F.PRS_CFG_NPOS (k : Nat) : Fld := ⟨R.PRS_CFG k, 6, 0⟩
/-- PRSk_DEMAND. -/
abbrev R.PRS_DEMAND (k : Nat) : Nat := 0xd0008 + 0x200 * k
abbrev F.PRS_DEMAND_DEMAND (k : Nat) : Fld := ⟨R.PRS_DEMAND k, 16, 0⟩
/-- PRSk_POST. -/
abbrev R.PRS_POST (k : Nat) : Nat := 0xd000c + 0x200 * k
abbrev F.PRS_POST_TAG (k : Nat) : Fld := ⟨R.PRS_POST k, 31, 24⟩
abbrev F.PRS_POST_PEND (k : Nat) : Fld := ⟨R.PRS_POST k, 23, 23⟩
abbrev F.PRS_POST_DEMAND (k : Nat) : Fld := ⟨R.PRS_POST k, 16, 0⟩
/-- PRSk_RULES. -/
abbrev R.PRS_RULES (k : Nat) : Nat := 0xd0010 + 0x200 * k
abbrev F.PRS_RULES_MAXCI (k : Nat) : Fld := ⟨R.PRS_RULES k, 23, 16⟩
abbrev F.PRS_RULES_MAXCW (k : Nat) : Fld := ⟨R.PRS_RULES k, 15, 8⟩
abbrev F.PRS_RULES_MINOFF (k : Nat) : Fld := ⟨R.PRS_RULES k, 7, 4⟩
abbrev F.PRS_RULES_MINON (k : Nat) : Fld := ⟨R.PRS_RULES k, 3, 0⟩
/-- PRSk_SPRD. -/
abbrev R.PRS_SPRD (k : Nat) : Nat := 0xd0014 + 0x200 * k
abbrev F.PRS_SPRD_PER (k : Nat) : Fld := ⟨R.PRS_SPRD k, 31, 16⟩
abbrev F.PRS_SPRD_WIN (k : Nat) : Fld := ⟨R.PRS_SPRD k, 13, 8⟩
abbrev F.PRS_SPRD_DITH (k : Nat) : Fld := ⟨R.PRS_SPRD k, 7, 0⟩
/-- PRSk_ACCLIM. -/
abbrev R.PRS_ACCLIM (k : Nat) : Nat := 0xd0018 + 0x200 * k
abbrev F.PRS_ACCLIM_ACC_LIM (k : Nat) : Fld := ⟨R.PRS_ACCLIM k, 19, 0⟩
/-- PRSk_REVOFS. -/
abbrev R.PRS_REVOFS (k : Nat) : Nat := 0xd001c + 0x200 * k
abbrev F.PRS_REVOFS_OFS (k : Nat) : Fld := ⟨R.PRS_REVOFS k, 23, 0⟩
/-- PRSk_SEED. -/
abbrev R.PRS_SEED (k : Nat) : Nat := 0xd0020 + 0x200 * k
abbrev F.PRS_SEED_SEED (k : Nat) : Fld := ⟨R.PRS_SEED k, 15, 0⟩
/-- PRSk_UNH. -/
abbrev R.PRS_UNH (k h : Nat) : Nat := 0xd0024 + 0x200 * k + 4 * h
abbrev F.PRS_UNH_UNH (k h : Nat) : Fld := ⟨R.PRS_UNH k h, 31, 0⟩
/-- PRSk_ACC. -/
abbrev R.PRS_ACC (k : Nat) : Nat := 0xd002c + 0x200 * k
abbrev F.PRS_ACC_ACC (k : Nat) : Fld := ⟨R.PRS_ACC k, 20, 0⟩
/-- PRSk_LAST. -/
abbrev R.PRS_LAST (k : Nat) : Nat := 0xd0030 + 0x200 * k
abbrev F.PRS_LAST_VALID (k : Nat) : Fld := ⟨R.PRS_LAST k, 31, 31⟩
abbrev F.PRS_LAST_WORK (k : Nat) : Fld := ⟨R.PRS_LAST k, 30, 30⟩
abbrev F.PRS_LAST_DIR (k : Nat) : Fld := ⟨R.PRS_LAST k, 29, 29⟩
abbrev F.PRS_LAST_REASON (k : Nat) : Fld := ⟨R.PRS_LAST k, 28, 25⟩
abbrev F.PRS_LAST_SP (k : Nat) : Fld := ⟨R.PRS_LAST k, 23, 18⟩
abbrev F.PRS_LAST_DEM (k : Nat) : Fld := ⟨R.PRS_LAST k, 16, 0⟩
/-- PRSk_NSTR. -/
abbrev R.PRS_NSTR (k : Nat) : Nat := 0xd0034 + 0x200 * k
abbrev F.PRS_NSTR_N (k : Nat) : Fld := ⟨R.PRS_NSTR k, 31, 0⟩
/-- PRSk_HIST_LO. -/
abbrev R.PRS_HIST_LO (k : Nat) : Nat := 0xd0038 + 0x200 * k
abbrev F.PRS_HIST_LO_HIST (k : Nat) : Fld := ⟨R.PRS_HIST_LO k, 31, 0⟩
/-- PRSk_HIST_HI. -/
abbrev R.PRS_HIST_HI (k : Nat) : Nat := 0xd003c + 0x200 * k
abbrev F.PRS_HIST_HI_HIST (k : Nat) : Fld := ⟨R.PRS_HIST_HI k, 31, 0⟩
/-- PRSk_CNT0. -/
abbrev R.PRS_CNT0 (k : Nat) : Nat := 0xd0040 + 0x200 * k
abbrev F.PRS_CNT0_LATE (k : Nat) : Fld := ⟨R.PRS_CNT0 k, 31, 24⟩
abbrev F.PRS_CNT0_SPREAD (k : Nat) : Fld := ⟨R.PRS_CNT0 k, 23, 16⟩
abbrev F.PRS_CNT0_FORCED (k : Nat) : Fld := ⟨R.PRS_CNT0 k, 15, 8⟩
abbrev F.PRS_CNT0_HEALTH (k : Nat) : Fld := ⟨R.PRS_CNT0 k, 7, 0⟩
/-- PRSk_CNT1. -/
abbrev R.PRS_CNT1 (k : Nat) : Nat := 0xd0044 + 0x200 * k
abbrev F.PRS_CNT1_STALE (k : Nat) : Fld := ⟨R.PRS_CNT1 k, 31, 24⟩
abbrev F.PRS_CNT1_OVERWR (k : Nat) : Fld := ⟨R.PRS_CNT1 k, 23, 16⟩
abbrev F.PRS_CNT1_ACCSAT (k : Nat) : Fld := ⟨R.PRS_CNT1 k, 15, 8⟩
/-- PRSk_WORKS. -/
abbrev R.PRS_WORKS (k : Nat) : Nat := 0xd0048 + 0x200 * k
abbrev F.PRS_WORKS_W (k : Nat) : Fld := ⟨R.PRS_WORKS k, 31, 0⟩
/-- PRSk_POS. -/
abbrev R.PRS_POS (k sp : Nat) : Nat := 0xd0100 + 0x200 * k + 4 * sp
abbrev F.PRS_POS_VALID (k sp : Nat) : Fld := ⟨R.PRS_POS k sp, 31, 31⟩
abbrev F.PRS_POS_LAST (k sp : Nat) : Fld := ⟨R.PRS_POS k sp, 30, 30⟩
abbrev F.PRS_POS_RUN (k sp : Nat) : Fld := ⟨R.PRS_POS k sp, 29, 26⟩
abbrev F.PRS_POS_DANG (k sp : Nat) : Fld := ⟨R.PRS_POS k sp, 23, 0⟩
/-- PRS_GSTAT. -/
abbrev R.PRS_GSTAT : Nat := 0xd2000
abbrev F.PRS_GSTAT_QMAX : Fld := ⟨R.PRS_GSTAT, 31, 24⟩
abbrev F.PRS_GSTAT_ACTIVE : Fld := ⟨R.PRS_GSTAT, 15, 0⟩
/-- PRS_CNT_CLR. -/
abbrev R.PRS_CNT_CLR : Nat := 0xd2004
abbrev F.PRS_CNT_CLR_GLOBAL : Fld := ⟨R.PRS_CNT_CLR, 31, 31⟩
abbrev F.PRS_CNT_CLR_MACH : Fld := ⟨R.PRS_CNT_CLR, 15, 0⟩

/- spec/07_trellis_link_and_tiles.md -/
/-- TLKn_CTL. -/
abbrev R.TLK_CTL (n : Nat) : Nat := 0xe0000 + 0x200 * n
abbrev F.TLK_CTL_REDISC (n : Nat) : Fld := ⟨R.TLK_CTL n, 2, 2⟩
abbrev F.TLK_CTL_AUTODISC (n : Nat) : Fld := ⟨R.TLK_CTL n, 1, 1⟩
abbrev F.TLK_CTL_EN (n : Nat) : Fld := ⟨R.TLK_CTL n, 0, 0⟩
/-- TLKn_CFG. -/
abbrev R.TLK_CFG (n : Nat) : Nat := 0xe0004 + 0x200 * n
abbrev F.TLK_CFG_ECHON (n : Nat) : Fld := ⟨R.TLK_CFG n, 31, 24⟩
abbrev F.TLK_CFG_LOCKTO (n : Nat) : Fld := ⟨R.TLK_CFG n, 23, 16⟩
abbrev F.TLK_CFG_RETRY (n : Nat) : Fld := ⟨R.TLK_CFG n, 11, 8⟩
abbrev F.TLK_CFG_ACK_TO (n : Nat) : Fld := ⟨R.TLK_CFG n, 7, 0⟩
/-- TLKn_CFG2. -/
abbrev R.TLK_CFG2 (n : Nat) : Nat := 0xe0008 + 0x200 * n
abbrev F.TLK_CFG2_EPER (n : Nat) : Fld := ⟨R.TLK_CFG2 n, 31, 16⟩
abbrev F.TLK_CFG2_TPER (n : Nat) : Fld := ⟨R.TLK_CFG2 n, 15, 0⟩
/-- TLKn_STAT. -/
abbrev R.TLK_STAT (n : Nat) : Nat := 0xe000c + 0x200 * n
abbrev F.TLK_STAT_LOCK (n : Nat) : Fld := ⟨R.TLK_STAT n, 31, 31⟩
abbrev F.TLK_STAT_NATT (n : Nat) : Fld := ⟨R.TLK_STAT n, 10, 8⟩
abbrev F.TLK_STAT_NFOUND (n : Nat) : Fld := ⟨R.TLK_STAT n, 2, 0⟩
/-- TLKn_LANE. -/
abbrev R.TLK_LANE (n : Nat) : Nat := 0xe0010 + 0x200 * n
abbrev F.TLK_LANE_BERTH (n : Nat) : Fld := ⟨R.TLK_LANE n, 31, 24⟩
abbrev F.TLK_LANE_AUTO (n : Nat) : Fld := ⟨R.TLK_LANE n, 17, 17⟩
abbrev F.TLK_LANE_MIRROR (n : Nat) : Fld := ⟨R.TLK_LANE n, 16, 16⟩
abbrev F.TLK_LANE_SPUP0 (n : Nat) : Fld := ⟨R.TLK_LANE n, 3, 3⟩
abbrev F.TLK_LANE_SPUP1 (n : Nat) : Fld := ⟨R.TLK_LANE n, 7, 7⟩
abbrev F.TLK_LANE_SPUP2 (n : Nat) : Fld := ⟨R.TLK_LANE n, 11, 11⟩
abbrev F.TLK_LANE_SPUP3 (n : Nat) : Fld := ⟨R.TLK_LANE n, 15, 15⟩
abbrev F.TLK_LANE_SPDN0 (n : Nat) : Fld := ⟨R.TLK_LANE n, 2, 2⟩
abbrev F.TLK_LANE_SPDN1 (n : Nat) : Fld := ⟨R.TLK_LANE n, 6, 6⟩
abbrev F.TLK_LANE_SPDN2 (n : Nat) : Fld := ⟨R.TLK_LANE n, 10, 10⟩
abbrev F.TLK_LANE_SPDN3 (n : Nat) : Fld := ⟨R.TLK_LANE n, 14, 14⟩
abbrev F.TLK_LANE_SWUP0 (n : Nat) : Fld := ⟨R.TLK_LANE n, 1, 1⟩
abbrev F.TLK_LANE_SWUP1 (n : Nat) : Fld := ⟨R.TLK_LANE n, 5, 5⟩
abbrev F.TLK_LANE_SWUP2 (n : Nat) : Fld := ⟨R.TLK_LANE n, 9, 9⟩
abbrev F.TLK_LANE_SWUP3 (n : Nat) : Fld := ⟨R.TLK_LANE n, 13, 13⟩
abbrev F.TLK_LANE_SWDN0 (n : Nat) : Fld := ⟨R.TLK_LANE n, 0, 0⟩
abbrev F.TLK_LANE_SWDN1 (n : Nat) : Fld := ⟨R.TLK_LANE n, 4, 4⟩
abbrev F.TLK_LANE_SWDN2 (n : Nat) : Fld := ⟨R.TLK_LANE n, 8, 8⟩
abbrev F.TLK_LANE_SWDN3 (n : Nat) : Fld := ⟨R.TLK_LANE n, 12, 12⟩
/-- TLKn_POSp. -/
abbrev R.TLK_POS (n p : Nat) : Nat := 0xe0020 + 0x200 * n + 4 * p
abbrev F.TLK_POS_STATE (n p : Nat) : Fld := ⟨R.TLK_POS n p, 31, 29⟩
abbrev F.TLK_POS_DSPRES (n p : Nat) : Fld := ⟨R.TLK_POS n p, 28, 28⟩
abbrev F.TLK_POS_TYPE (n p : Nat) : Fld := ⟨R.TLK_POS n p, 15, 0⟩
/-- TLKn_DLYp. -/
abbrev R.TLK_DLY (n p : Nat) : Nat := 0xe0030 + 0x200 * n + 4 * p
abbrev F.TLK_DLY_TERR (n p : Nat) : Fld := ⟨R.TLK_DLY n p, 31, 24⟩
abbrev F.TLK_DLY_DLY (n p : Nat) : Fld := ⟨R.TLK_DLY n p, 23, 0⟩
/-- TLKn_CNT0. -/
abbrev R.TLK_CNT0 (n : Nat) : Nat := 0xe0040 + 0x200 * n
abbrev F.TLK_CNT0_DISC (n : Nat) : Fld := ⟨R.TLK_CNT0 n, 31, 16⟩
abbrev F.TLK_CNT0_RETX (n : Nat) : Fld := ⟨R.TLK_CNT0 n, 15, 0⟩
/-- TLKn_CNT1. -/
abbrev R.TLK_CNT1 (n : Nat) : Nat := 0xe0044 + 0x200 * n
abbrev F.TLK_CNT1_ABORTS (n : Nat) : Fld := ⟨R.TLK_CNT1 n, 31, 24⟩
abbrev F.TLK_CNT1_AMLATE (n : Nat) : Fld := ⟨R.TLK_CNT1 n, 23, 16⟩
abbrev F.TLK_CNT1_WDROP (n : Nat) : Fld := ⟨R.TLK_CNT1 n, 15, 8⟩
abbrev F.TLK_CNT1_SWAPS (n : Nat) : Fld := ⟨R.TLK_CNT1 n, 7, 0⟩
/-- TLKn_LAT. -/
abbrev R.TLK_LAT (n : Nat) : Nat := 0xe0048 + 0x200 * n
abbrev F.TLK_LAT_CMAX (n : Nat) : Fld := ⟨R.TLK_LAT n, 31, 16⟩
abbrev F.TLK_LAT_AMAX (n : Nat) : Fld := ⟨R.TLK_LAT n, 15, 0⟩
/-- TLK_TPWR_EN. -/
abbrev R.TLK_TPWR_EN (h : Nat) : Nat := 0xe2000 + 8 * h
abbrev F.TLK_TPWR_EN_EN (h : Nat) : Fld := ⟨R.TLK_TPWR_EN h, 31, 0⟩
/-- TLK_ATTACHED. -/
abbrev R.TLK_ATTACHED (h : Nat) : Nat := 0xe2010 + 4 * h
abbrev F.TLK_ATTACHED_ATT (h : Nat) : Fld := ⟨R.TLK_ATTACHED h, 31, 0⟩
/-- TLK_GCFG. -/
abbrev R.TLK_GCFG : Nat := 0xe2018
abbrev F.TLK_GCFG_SIDE : Fld := ⟨R.TLK_GCFG, 0, 0⟩
/-- TLK_CNT_CLR. -/
abbrev R.TLK_CNT_CLR : Nat := 0xe201c
abbrev F.TLK_CNT_CLR_LINK : Fld := ⟨R.TLK_CNT_CLR, 15, 0⟩
/-- TILn_ADDR. -/
abbrev R.TIL_ADDR (n : Nat) : Nat := 0xf0000 + 0x10 * n
abbrev F.TIL_ADDR_POS (n : Nat) : Fld := ⟨R.TIL_ADDR n, 25, 24⟩
abbrev F.TIL_ADDR_AINC (n : Nat) : Fld := ⟨R.TIL_ADDR n, 16, 16⟩
abbrev F.TIL_ADDR_ADDR (n : Nat) : Fld := ⟨R.TIL_ADDR n, 15, 0⟩
/-- TILn_DATA. -/
abbrev R.TIL_DATA (n : Nat) : Nat := 0xf0004 + 0x10 * n
abbrev F.TIL_DATA_DATA (n : Nat) : Fld := ⟨R.TIL_DATA n, 31, 0⟩
/-- TILn_STAT. -/
abbrev R.TIL_STAT (n : Nat) : Nat := 0xf0008 + 0x10 * n
abbrev F.TIL_STAT_BUSY (n : Nat) : Fld := ⟨R.TIL_STAT n, 31, 31⟩
abbrev F.TIL_STAT_RDY (n : Nat) : Fld := ⟨R.TIL_STAT n, 30, 30⟩
abbrev F.TIL_STAT_RESULT (n : Nat) : Fld := ⟨R.TIL_STAT n, 7, 0⟩
/-- TILE_ID0. -/
abbrev R.TILE_ID0 : Nat := 0x0
abbrev F.TILE_ID0_VENDOR : Fld := ⟨R.TILE_ID0, 31, 16⟩
abbrev F.TILE_ID0_TYPE : Fld := ⟨R.TILE_ID0, 15, 0⟩
/-- TILE_ID1. -/
abbrev R.TILE_ID1 : Nat := 0x1
abbrev F.TILE_ID1_REV : Fld := ⟨R.TILE_ID1, 31, 24⟩
abbrev F.TILE_ID1_PROTO : Fld := ⟨R.TILE_ID1, 23, 16⟩
abbrev F.TILE_ID1_NOUT : Fld := ⟨R.TILE_ID1, 15, 12⟩
abbrev F.TILE_ID1_SLOTS : Fld := ⟨R.TILE_ID1, 7, 0⟩
/-- TILE_SER_LO. -/
abbrev R.TILE_SER_LO : Nat := 0x2
abbrev F.TILE_SER_LO_SER : Fld := ⟨R.TILE_SER_LO, 31, 0⟩
/-- TILE_SER_HI. -/
abbrev R.TILE_SER_HI : Nat := 0x3
abbrev F.TILE_SER_HI_SER : Fld := ⟨R.TILE_SER_HI, 31, 0⟩
/-- TILE_LINK. -/
abbrev R.TILE_LINK : Nat := 0x4
abbrev F.TILE_LINK_MIRROR : Fld := ⟨R.TILE_LINK, 10, 10⟩
abbrev F.TILE_LINK_DSOPEN : Fld := ⟨R.TILE_LINK, 9, 9⟩
abbrev F.TILE_LINK_SIDE : Fld := ⟨R.TILE_LINK, 8, 8⟩
abbrev F.TILE_LINK_POS : Fld := ⟨R.TILE_LINK, 5, 4⟩
abbrev F.TILE_LINK_STATE : Fld := ⟨R.TILE_LINK, 2, 0⟩
/-- TILE_DLY. -/
abbrev R.TILE_DLY : Nat := 0x5
abbrev F.TILE_DLY_DLY : Fld := ⟨R.TILE_DLY, 23, 0⟩
/-- TILE_WDOG. -/
abbrev R.TILE_WDOG : Nat := 0x6
abbrev F.TILE_WDOG_LINK_TO : Fld := ⟨R.TILE_WDOG, 15, 0⟩
/-- TILE_CNT. -/
abbrev R.TILE_CNT : Nat := 0x7
abbrev F.TILE_CNT_CLR : Fld := ⟨R.TILE_CNT, 31, 31⟩
abbrev F.TILE_CNT_DISC : Fld := ⟨R.TILE_CNT, 30, 16⟩
abbrev F.TILE_CNT_CV : Fld := ⟨R.TILE_CNT, 15, 0⟩

/- spec/08_current_shaping_and_closing.md -/
/-- TDRV_BOOST_CTL. -/
abbrev R.TDRV_BOOST_CTL : Nat := 0x100
abbrev F.TDRV_BOOST_CTL_NCTL : Fld := ⟨R.TDRV_BOOST_CTL, 31, 16⟩
abbrev F.TDRV_BOOST_CTL_EN : Fld := ⟨R.TDRV_BOOST_CTL, 0, 0⟩
/-- TDRV_BOOST_SET. -/
abbrev R.TDRV_BOOST_SET : Nat := 0x101
abbrev F.TDRV_BOOST_SET_RDYM : Fld := ⟨R.TDRV_BOOST_SET, 23, 16⟩
abbrev F.TDRV_BOOST_SET_SLEW : Fld := ⟨R.TDRV_BOOST_SET, 15, 8⟩
abbrev F.TDRV_BOOST_SET_VSET : Fld := ⟨R.TDRV_BOOST_SET, 7, 0⟩
/-- TDRV_BOOST_STAT. -/
abbrev R.TDRV_BOOST_STAT : Nat := 0x102
abbrev F.TDRV_BOOST_STAT_BFLT : Fld := ⟨R.TDRV_BOOST_STAT, 16, 16⟩
abbrev F.TDRV_BOOST_STAT_BSLEW : Fld := ⟨R.TDRV_BOOST_STAT, 17, 17⟩
abbrev F.TDRV_BOOST_STAT_BRDY : Fld := ⟨R.TDRV_BOOST_STAT, 18, 18⟩
abbrev F.TDRV_BOOST_STAT_BEN : Fld := ⟨R.TDRV_BOOST_STAT, 19, 19⟩
abbrev F.TDRV_BOOST_STAT_VREF : Fld := ⟨R.TDRV_BOOST_STAT, 15, 8⟩
abbrev F.TDRV_BOOST_STAT_VBST : Fld := ⟨R.TDRV_BOOST_STAT, 7, 0⟩
/-- TDRV_CLAMP. -/
abbrev R.TDRV_CLAMP : Nat := 0x103
abbrev F.TDRV_CLAMP_VCLAMP : Fld := ⟨R.TDRV_CLAMP, 7, 0⟩
/-- TDRV_INH. -/
abbrev R.TDRV_INH : Nat := 0x104
abbrev F.TDRV_INH_QUIET : Fld := ⟨R.TDRV_INH, 31, 16⟩
abbrev F.TDRV_INH_REARM : Fld := ⟨R.TDRV_INH, 2, 2⟩
abbrev F.TDRV_INH_INHL : Fld := ⟨R.TDRV_INH, 1, 1⟩
abbrev F.TDRV_INH_INHP : Fld := ⟨R.TDRV_INH, 0, 0⟩
/-- TDRV_OFFT. -/
abbrev R.TDRV_OFFT : Nat := 0x105
abbrev F.TDRV_OFFT_PEND : Fld := ⟨R.TDRV_OFFT, 15, 8⟩
abbrev F.TDRV_OFFT_REQ : Fld := ⟨R.TDRV_OFFT, 7, 0⟩
/-- TDRV_OUT. -/
abbrev R.TDRV_OUT (o : Nat) : Nat := 0x110 + 1 * o
abbrev F.TDRV_OUT_HSCL (o : Nat) : Fld := ⟨R.TDRV_OUT o, 15, 8⟩
abbrev F.TDRV_OUT_BPOL (o : Nat) : Fld := ⟨R.TDRV_OUT o, 0, 0⟩
/-- CDT_CHn_CFG. -/
abbrev R.CDT_CH_CFG (n : Nat) : Nat := 0x100000 + 0x40 * n
abbrev F.CDT_CH_CFG_TEN (n : Nat) : Fld := ⟨R.CDT_CH_CFG n, 31, 31⟩
abbrev F.CDT_CH_CFG_LRN (n : Nat) : Fld := ⟨R.CDT_CH_CFG n, 30, 30⟩
abbrev F.CDT_CH_CFG_BPOL (n : Nat) : Fld := ⟨R.CDT_CH_CFG n, 29, 29⟩
abbrev F.CDT_CH_CFG_ASRC (n : Nat) : Fld := ⟨R.CDT_CH_CFG n, 28, 28⟩
abbrev F.CDT_CH_CFG_NKMAX (n : Nat) : Fld := ⟨R.CDT_CH_CFG n, 27, 24⟩
abbrev F.CDT_CH_CFG_OFFT_CYC (n : Nat) : Fld := ⟨R.CDT_CH_CFG n, 23, 16⟩
abbrev F.CDT_CH_CFG_CGAP (n : Nat) : Fld := ⟨R.CDT_CH_CFG n, 11, 8⟩
abbrev F.CDT_CH_CFG_FSH (n : Nat) : Fld := ⟨R.CDT_CH_CFG n, 5, 4⟩
abbrev F.CDT_CH_CFG_CPOL (n : Nat) : Fld := ⟨R.CDT_CH_CFG n, 0, 0⟩
/-- CDT_CHn_DET. -/
abbrev R.CDT_CH_DET (n : Nat) : Nat := 0x100004 + 0x40 * n
abbrev F.CDT_CH_DET_CSTART (n : Nat) : Fld := ⟨R.CDT_CH_DET n, 31, 20⟩
abbrev F.CDT_CH_DET_CDLY (n : Nat) : Fld := ⟨R.CDT_CH_DET n, 19, 12⟩
abbrev F.CDT_CH_DET_CMIN (n : Nat) : Fld := ⟨R.CDT_CH_DET n, 11, 0⟩
/-- CDT_CHn_CCFG. -/
abbrev R.CDT_CH_CCFG (n : Nat) : Nat := 0x100008 + 0x40 * n
abbrev F.CDT_CH_CCFG_GAIN (n : Nat) : Fld := ⟨R.CDT_CH_CCFG n, 31, 24⟩
abbrev F.CDT_CH_CCFG_CLAT (n : Nat) : Fld := ⟨R.CDT_CH_CCFG n, 23, 16⟩
abbrev F.CDT_CH_CCFG_STEPMAX (n : Nat) : Fld := ⟨R.CDT_CH_CCFG n, 15, 0⟩
/-- CDT_CHn_CAUTH. -/
abbrev R.CDT_CH_CAUTH (n : Nat) : Nat := 0x10000c + 0x40 * n
abbrev F.CDT_CH_CAUTH_AUTH (n : Nat) : Fld := ⟨R.CDT_CH_CAUTH n, 31, 16⟩
abbrev F.CDT_CH_CAUTH_EOUT (n : Nat) : Fld := ⟨R.CDT_CH_CAUTH n, 15, 0⟩
/-- CDT_CHn_COMP. -/
abbrev R.CDT_CH_COMP (n s : Nat) : Nat := 0x100010 + 0x40 * n + 4 * s
abbrev F.CDT_CH_COMP_COMP (n s : Nat) : Fld := ⟨R.CDT_CH_COMP n s, 23, 0⟩
/-- CDT_CHn_CRES_LO. -/
abbrev R.CDT_CH_CRES_LO (n : Nat) : Nat := 0x100020 + 0x40 * n
abbrev F.CDT_CH_CRES_LO_TC (n : Nat) : Fld := ⟨R.CDT_CH_CRES_LO n, 31, 0⟩
/-- CDT_CHn_CRES_HI. -/
abbrev R.CDT_CH_CRES_HI (n : Nat) : Nat := 0x100024 + 0x40 * n
abbrev F.CDT_CH_CRES_HI_TC (n : Nat) : Fld := ⟨R.CDT_CH_CRES_HI n, 31, 0⟩
/-- CDT_CHn_CRES_ST. -/
abbrev R.CDT_CH_CRES_ST (n : Nat) : Nat := 0x100028 + 0x40 * n
abbrev F.CDT_CH_CRES_ST_READY (n : Nat) : Fld := ⟨R.CDT_CH_CRES_ST n, 31, 31⟩
abbrev F.CDT_CH_CRES_ST_SEEN (n : Nat) : Fld := ⟨R.CDT_CH_CRES_ST n, 30, 30⟩
abbrev F.CDT_CH_CRES_ST_LRND (n : Nat) : Fld := ⟨R.CDT_CH_CRES_ST n, 29, 29⟩
abbrev F.CDT_CH_CRES_ST_CSAT (n : Nat) : Fld := ⟨R.CDT_CH_CRES_ST n, 28, 28⟩
abbrev F.CDT_CH_CRES_ST_RES (n : Nat) : Fld := ⟨R.CDT_CH_CRES_ST n, 27, 25⟩
abbrev F.CDT_CH_CRES_ST_CSLOT (n : Nat) : Fld := ⟨R.CDT_CH_CRES_ST n, 24, 23⟩
abbrev F.CDT_CH_CRES_ST_ERR (n : Nat) : Fld := ⟨R.CDT_CH_CRES_ST n, 22, 7⟩
abbrev F.CDT_CH_CRES_ST_FRAC (n : Nat) : Fld := ⟨R.CDT_CH_CRES_ST n, 2, 0⟩
/-- CDT_CHn_CRES_EV. -/
abbrev R.CDT_CH_CRES_EV (n : Nat) : Nat := 0x10002c + 0x40 * n
abbrev F.CDT_CH_CRES_EV_VINT (n : Nat) : Fld := ⟨R.CDT_CH_CRES_EV n, 31, 16⟩
abbrev F.CDT_CH_CRES_EV_TAG (n : Nat) : Fld := ⟨R.CDT_CH_CRES_EV n, 15, 0⟩
/-- CDT_CHn_TH0. -/
abbrev R.CDT_CH_TH0 (n : Nat) : Nat := 0x100030 + 0x40 * n
abbrev F.CDT_CH_TH0_RCOIL (n : Nat) : Fld := ⟨R.CDT_CH_TH0 n, 31, 16⟩
abbrev F.CDT_CH_TH0_TCR (n : Nat) : Fld := ⟨R.CDT_CH_TH0 n, 15, 8⟩
/-- CDT_CHn_TH1. -/
abbrev R.CDT_CH_TH1 (n : Nat) : Nat := 0x100034 + 0x40 * n
abbrev F.CDT_CH_TH1_H1 (n : Nat) : Fld := ⟨R.CDT_CH_TH1 n, 31, 16⟩
abbrev F.CDT_CH_TH1_A1 (n : Nat) : Fld := ⟨R.CDT_CH_TH1 n, 15, 12⟩
abbrev F.CDT_CH_TH1_A2 (n : Nat) : Fld := ⟨R.CDT_CH_TH1 n, 11, 8⟩
abbrev F.CDT_CH_TH1_CR (n : Nat) : Fld := ⟨R.CDT_CH_TH1 n, 7, 0⟩
/-- CDT_CHn_TH2. -/
abbrev R.CDT_CH_TH2 (n : Nat) : Nat := 0x100038 + 0x40 * n
abbrev F.CDT_CH_TH2_TDER (n : Nat) : Fld := ⟨R.CDT_CH_TH2 n, 31, 16⟩
abbrev F.CDT_CH_TH2_TBLK (n : Nat) : Fld := ⟨R.CDT_CH_TH2 n, 15, 0⟩
/-- CDT_CHn_STAT. -/
abbrev R.CDT_CH_STAT (n : Nat) : Nat := 0x10003c + 0x40 * n
abbrev F.CDT_CH_STAT_T1 (n : Nat) : Fld := ⟨R.CDT_CH_STAT n, 31, 16⟩
abbrev F.CDT_CH_STAT_HSCL (n : Nat) : Fld := ⟨R.CDT_CH_STAT n, 15, 8⟩
abbrev F.CDT_CH_STAT_BLK (n : Nat) : Fld := ⟨R.CDT_CH_STAT n, 7, 7⟩
abbrev F.CDT_CH_STAT_DER (n : Nat) : Fld := ⟨R.CDT_CH_STAT n, 6, 6⟩
abbrev F.CDT_CH_STAT_OPEN_ON (n : Nat) : Fld := ⟨R.CDT_CH_STAT n, 5, 5⟩
abbrev F.CDT_CH_STAT_SHORT_ON (n : Nat) : Fld := ⟨R.CDT_CH_STAT n, 4, 4⟩
abbrev F.CDT_CH_STAT_OPEN_OFF (n : Nat) : Fld := ⟨R.CDT_CH_STAT n, 3, 3⟩
abbrev F.CDT_CH_STAT_SHORTG (n : Nat) : Fld := ⟨R.CDT_CH_STAT n, 2, 2⟩
abbrev F.CDT_CH_STAT_SHORTB (n : Nat) : Fld := ⟨R.CDT_CH_STAT n, 1, 1⟩
abbrev F.CDT_CH_STAT_NOKINK (n : Nat) : Fld := ⟨R.CDT_CH_STAT n, 0, 0⟩
/-- CDT_PRFp_W. -/
abbrev R.CDT_PRF_W (p w : Nat) : Nat := 0x108000 + 0x40 * p + 4 * w
abbrev F.CDT_PRF_W_W (p w : Nat) : Fld := ⟨R.CDT_PRF_W p w, 31, 0⟩
/-- CDT_PRFp_STAT. -/
abbrev R.CDT_PRF_STAT (p : Nat) : Nat := 0x108020 + 0x40 * p
abbrev F.CDT_PRF_STAT_BAD (p : Nat) : Fld := ⟨R.CDT_PRF_STAT p, 31, 31⟩
abbrev F.CDT_PRF_STAT_PEND (p : Nat) : Fld := ⟨R.CDT_PRF_STAT p, 6, 0⟩
/-- CDT_BOOST_EN. -/
abbrev R.CDT_BOOST_EN (h : Nat) : Nat := 0x10c000 + 8 * h
abbrev F.CDT_BOOST_EN_EN (h : Nat) : Fld := ⟨R.CDT_BOOST_EN h, 31, 0⟩
/-- CDT_CHFORCE. -/
abbrev R.CDT_CHFORCE : Nat := 0x10c010
abbrev F.CDT_CHFORCE_MODE : Fld := ⟨R.CDT_CHFORCE, 31, 30⟩
abbrev F.CDT_CHFORCE_PRF : Fld := ⟨R.CDT_CHFORCE, 23, 16⟩
abbrev F.CDT_CHFORCE_CH : Fld := ⟨R.CDT_CHFORCE, 8, 0⟩
/-- CDT_INHMSK. -/
abbrev R.CDT_INHMSK (h : Nat) : Nat := 0x10c018 + 4 * h
abbrev F.CDT_INHMSK_MSK (h : Nat) : Fld := ⟨R.CDT_INHMSK h, 31, 0⟩
/-- CDT_INHSTAT. -/
abbrev R.CDT_INHSTAT (h : Nat) : Nat := 0x10c020 + 4 * h
abbrev F.CDT_INHSTAT_INHL (h : Nat) : Fld := ⟨R.CDT_INHSTAT h, 31, 0⟩
/-- CDT_REARM. -/
abbrev R.CDT_REARM (h : Nat) : Nat := 0x10c028 + 4 * h
abbrev F.CDT_REARM_REARM (h : Nat) : Fld := ⟨R.CDT_REARM h, 31, 0⟩
/-- CDT_GRP. -/
abbrev R.CDT_GRP : Nat := 0x10c030
abbrev F.CDT_GRP_GRP : Fld := ⟨R.CDT_GRP, 2, 0⟩
/-- CDT_TAMB. -/
abbrev R.CDT_TAMB : Nat := 0x10c034
abbrev F.CDT_TAMB_TAMB : Fld := ⟨R.CDT_TAMB, 15, 0⟩
/-- CDT_CAP. -/
abbrev R.CDT_CAP : Nat := 0x10c038
abbrev F.CDT_CAP_EN : Fld := ⟨R.CDT_CAP, 31, 31⟩
abbrev F.CDT_CAP_CH : Fld := ⟨R.CDT_CAP, 8, 0⟩
/-- CDT_FORCE_DUR. -/
abbrev R.CDT_FORCE_DUR : Nat := 0x10c03c
abbrev F.CDT_FORCE_DUR_DUR : Fld := ⟨R.CDT_FORCE_DUR, 13, 0⟩
/-- CDT_FORCE_STAT. -/
abbrev R.CDT_FORCE_STAT : Nat := 0x10c040
abbrev F.CDT_FORCE_STAT_MODE : Fld := ⟨R.CDT_FORCE_STAT, 31, 30⟩
abbrev F.CDT_FORCE_STAT_REFUSED : Fld := ⟨R.CDT_FORCE_STAT, 29, 29⟩
abbrev F.CDT_FORCE_STAT_CH : Fld := ⟨R.CDT_FORCE_STAT, 8, 0⟩
/-- CDT_CNT_CLR. -/
abbrev R.CDT_CNT_CLR : Nat := 0x10c044
abbrev F.CDT_CNT_CLR_ALL : Fld := ⟨R.CDT_CNT_CLR, 0, 0⟩
/-- CDT_FOFF. -/
abbrev R.CDT_FOFF (w : Nat) : Nat := 0x10c080 + 4 * w
abbrev F.CDT_FOFF_OFF (w : Nat) : Fld := ⟨R.CDT_FOFF w, 31, 0⟩
/-- CDT_BSETt. -/
abbrev R.CDT_BSET (t : Nat) : Nat := 0x10c100 + 4 * t
abbrev F.CDT_BSET_RDYM (t : Nat) : Fld := ⟨R.CDT_BSET t, 23, 16⟩
abbrev F.CDT_BSET_SLEW (t : Nat) : Fld := ⟨R.CDT_BSET t, 15, 8⟩
abbrev F.CDT_BSET_VSET (t : Nat) : Fld := ⟨R.CDT_BSET t, 7, 0⟩
/-- CDT_BSTATt. -/
abbrev R.CDT_BSTAT (t : Nat) : Nat := 0x10c200 + 4 * t
abbrev F.CDT_BSTAT_BFLT (t : Nat) : Fld := ⟨R.CDT_BSTAT t, 28, 28⟩
abbrev F.CDT_BSTAT_BSLEW (t : Nat) : Fld := ⟨R.CDT_BSTAT t, 29, 29⟩
abbrev F.CDT_BSTAT_BRDY (t : Nat) : Fld := ⟨R.CDT_BSTAT t, 30, 30⟩
abbrev F.CDT_BSTAT_BEN (t : Nat) : Fld := ⟨R.CDT_BSTAT t, 31, 31⟩
abbrev F.CDT_BSTAT_VBST (t : Nat) : Fld := ⟨R.CDT_BSTAT t, 7, 0⟩
/-- CDT_CNTn. -/
abbrev R.CDT_CNT (n : Nat) : Nat := 0x10d000 + 4 * n
abbrev F.CDT_CNT_NOKINK (n : Nat) : Fld := ⟨R.CDT_CNT n, 31, 16⟩
abbrev F.CDT_CNT_OUTLIER (n : Nat) : Fld := ⟨R.CDT_CNT n, 15, 8⟩
abbrev F.CDT_CNT_CSAT (n : Nat) : Fld := ⟨R.CDT_CNT n, 7, 0⟩
/-- CDT_T2n. -/
abbrev R.CDT_T2 (n : Nat) : Nat := 0x10d800 + 4 * n
abbrev F.CDT_T2_T2 (n : Nat) : Fld := ⟨R.CDT_T2 n, 31, 16⟩
abbrev F.CDT_T2_NKRUN (n : Nat) : Fld := ⟨R.CDT_T2 n, 15, 8⟩
/-- CDT_TH3n. -/
abbrev R.CDT_TH3 (n : Nat) : Nat := 0x10e000 + 4 * n
abbrev F.CDT_TH3_DSLOPE (n : Nat) : Fld := ⟨R.CDT_TH3 n, 31, 24⟩
abbrev F.CDT_TH3_HMIN (n : Nat) : Fld := ⟨R.CDT_TH3 n, 23, 16⟩
abbrev F.CDT_TH3_THYS (n : Nat) : Fld := ⟨R.CDT_TH3 n, 15, 0⟩

/- spec/09_duplex_operation.md -/
/-- TILE_DUP. -/
abbrev R.TILE_DUP : Nat := 0x10
abbrev F.TILE_DUP_YPEND : Fld := ⟨R.TILE_DUP, 5, 5⟩
abbrev F.TILE_DUP_OELIG : Fld := ⟨R.TILE_DUP, 4, 4⟩
abbrev F.TILE_DUP_OHOLD : Fld := ⟨R.TILE_DUP, 3, 3⟩
abbrev F.TILE_DUP_HOLD : Fld := ⟨R.TILE_DUP, 2, 2⟩
abbrev F.TILE_DUP_FRESH : Fld := ⟨R.TILE_DUP, 1, 1⟩
abbrev F.TILE_DUP_ELIG : Fld := ⟨R.TILE_DUP, 0, 0⟩
/-- TILE_DUP_AT. -/
abbrev R.TILE_DUP_AT : Nat := 0x11
abbrev F.TILE_DUP_AT_AT : Fld := ⟨R.TILE_DUP_AT, 31, 0⟩
/-- TILE_DUPCNT. -/
abbrev R.TILE_DUPCNT : Nat := 0x12
abbrev F.TILE_DUPCNT_CLR : Fld := ⟨R.TILE_DUPCNT, 31, 31⟩
abbrev F.TILE_DUPCNT_PROMO : Fld := ⟨R.TILE_DUPCNT, 30, 24⟩
abbrev F.TILE_DUPCNT_YIELD : Fld := ⟨R.TILE_DUPCNT, 23, 16⟩
abbrev F.TILE_DUPCNT_MIS : Fld := ⟨R.TILE_DUPCNT, 15, 0⟩
/-- MIR_CTL. -/
abbrev R.MIR_CTL : Nat := 0x1b0000
abbrev F.MIR_CTL_RESYNC : Fld := ⟨R.MIR_CTL, 2, 2⟩
abbrev F.MIR_CTL_PREF : Fld := ⟨R.MIR_CTL, 1, 1⟩
abbrev F.MIR_CTL_EN : Fld := ⟨R.MIR_CTL, 0, 0⟩
/-- MIR_CFG. -/
abbrev R.MIR_CFG : Nat := 0x1b0004
abbrev F.MIR_CFG_TKLEAD : Fld := ⟨R.MIR_CFG, 31, 24⟩
abbrev F.MIR_CFG_DMATCH : Fld := ⟨R.MIR_CFG, 23, 20⟩
abbrev F.MIR_CFG_DMISMAX : Fld := ⟨R.MIR_CFG, 19, 16⟩
abbrev F.MIR_CFG_SOLO_WAIT : Fld := ⟨R.MIR_CFG, 7, 0⟩
/-- MIR_STAT. -/
abbrev R.MIR_STAT : Nat := 0x1b0008
abbrev F.MIR_STAT_LOCK1 : Fld := ⟨R.MIR_STAT, 31, 31⟩
abbrev F.MIR_STAT_LOCK0 : Fld := ⟨R.MIR_STAT, 30, 30⟩
abbrev F.MIR_STAT_PARTNER : Fld := ⟨R.MIR_STAT, 29, 29⟩
abbrev F.MIR_STAT_ALIGNED : Fld := ⟨R.MIR_STAT, 28, 28⟩
abbrev F.MIR_STAT_PSTATE : Fld := ⟨R.MIR_STAT, 27, 25⟩
abbrev F.MIR_STAT_INCOMP : Fld := ⟨R.MIR_STAT, 19, 16⟩
abbrev F.MIR_STAT_FOLLOW : Fld := ⟨R.MIR_STAT, 3, 3⟩
abbrev F.MIR_STAT_STATE : Fld := ⟨R.MIR_STAT, 2, 0⟩
/-- MIR_OFS. -/
abbrev R.MIR_OFS : Nat := 0x1b000c
abbrev F.MIR_OFS_OFS : Fld := ⟨R.MIR_OFS, 31, 0⟩
/-- MIR_TRIM. -/
abbrev R.MIR_TRIM : Nat := 0x1b0010
abbrev F.MIR_TRIM_TRIM : Fld := ⟨R.MIR_TRIM, 15, 0⟩
/-- MIR_DLY. -/
abbrev R.MIR_DLY : Nat := 0x1b0014
abbrev F.MIR_DLY_DLY : Fld := ⟨R.MIR_DLY, 23, 0⟩
/-- MIR_PVER. -/
abbrev R.MIR_PVER : Nat := 0x1b0018
abbrev F.MIR_PVER_PROTO : Fld := ⟨R.MIR_PVER, 23, 16⟩
abbrev F.MIR_PVER_DVER : Fld := ⟨R.MIR_PVER, 15, 0⟩
/-- MIR_PREL. -/
abbrev R.MIR_PREL : Nat := 0x1b001c
abbrev F.MIR_PREL_FWREL : Fld := ⟨R.MIR_PREL, 31, 0⟩
/-- MIR_PVINT. -/
abbrev R.MIR_PVINT : Nat := 0x1b0020
abbrev F.MIR_PVINT_IMAGE : Fld := ⟨R.MIR_PVINT, 31, 16⟩
abbrev F.MIR_PVINT_CUR : Fld := ⟨R.MIR_PVINT, 15, 0⟩
/-- MIR_TAKEOVER. -/
abbrev R.MIR_TAKEOVER : Nat := 0x1b0024
abbrev F.MIR_TAKEOVER_MODE : Fld := ⟨R.MIR_TAKEOVER, 1, 0⟩
/-- MIR_TK_STAT. -/
abbrev R.MIR_TK_STAT : Nat := 0x1b002c
abbrev F.MIR_TK_STAT_RESULT : Fld := ⟨R.MIR_TK_STAT, 31, 28⟩
abbrev F.MIR_TK_STAT_NREF : Fld := ⟨R.MIR_TK_STAT, 6, 0⟩
/-- MIR_TK_AT_LO. -/
abbrev R.MIR_TK_AT_LO : Nat := 0x1b0030
abbrev F.MIR_TK_AT_LO_TAT : Fld := ⟨R.MIR_TK_AT_LO, 31, 0⟩
/-- MIR_TK_AT_HI. -/
abbrev R.MIR_TK_AT_HI : Nat := 0x1b0034
abbrev F.MIR_TK_AT_HI_TAT : Fld := ⟨R.MIR_TK_AT_HI, 31, 0⟩
/-- MIR_LEASE. -/
abbrev R.MIR_LEASE (h : Nat) : Nat := 0x1b0038 + 4 * h
abbrev F.MIR_LEASE_HOLD (h : Nat) : Fld := ⟨R.MIR_LEASE h, 31, 0⟩
/-- MIR_ELIG. -/
abbrev R.MIR_ELIG (h : Nat) : Nat := 0x1b0040 + 4 * h
abbrev F.MIR_ELIG_ELIG (h : Nat) : Fld := ⟨R.MIR_ELIG h, 31, 0⟩
/-- MIR_CNT0. -/
abbrev R.MIR_CNT0 : Nat := 0x1b0048
abbrev F.MIR_CNT0_DIGOK : Fld := ⟨R.MIR_CNT0, 31, 16⟩
abbrev F.MIR_CNT0_DIGMIS : Fld := ⟨R.MIR_CNT0, 15, 0⟩
/-- MIR_CNT1. -/
abbrev R.MIR_CNT1 : Nat := 0x1b004c
abbrev F.MIR_CNT1_PROMO : Fld := ⟨R.MIR_CNT1, 31, 24⟩
abbrev F.MIR_CNT1_YIELD : Fld := ⟨R.MIR_CNT1, 23, 16⟩
abbrev F.MIR_CNT1_TMIS : Fld := ⟨R.MIR_CNT1, 15, 0⟩
/-- MIR_CNT2. -/
abbrev R.MIR_CNT2 : Nat := 0x1b0050
abbrev F.MIR_CNT2_STRREF : Fld := ⟨R.MIR_CNT2, 31, 24⟩
abbrev F.MIR_CNT2_LANEF : Fld := ⟨R.MIR_CNT2, 23, 16⟩
abbrev F.MIR_CNT2_FRDISC : Fld := ⟨R.MIR_CNT2, 15, 0⟩
/-- MIR_DIGSTAT. -/
abbrev R.MIR_DIGSTAT : Nat := 0x1b0054
abbrev F.MIR_DIGSTAT_TRK : Fld := ⟨R.MIR_DIGSTAT, 31, 28⟩
abbrev F.MIR_DIGSTAT_CYC : Fld := ⟨R.MIR_DIGSTAT, 23, 0⟩
/-- MIR_CNT_CLR. -/
abbrev R.MIR_CNT_CLR : Nat := 0x1b0058
abbrev F.MIR_CNT_CLR_CLR : Fld := ⟨R.MIR_CNT_CLR, 0, 0⟩

/- spec/10_host_commands_and_queues.md -/
/-- HIF_ID. -/
abbrev R.HIF_ID : Nat := 0x120000
abbrev F.HIF_ID_DEV : Fld := ⟨R.HIF_ID, 31, 16⟩
abbrev F.HIF_ID_REV : Fld := ⟨R.HIF_ID, 15, 8⟩
abbrev F.HIF_ID_PROTO : Fld := ⟨R.HIF_ID, 7, 0⟩
/-- HIF_CTL. -/
abbrev R.HIF_CTL : Nat := 0x120004
abbrev F.HIF_CTL_EN : Fld := ⟨R.HIF_CTL, 0, 0⟩
/-- HIF_STAT. -/
abbrev R.HIF_STAT : Nat := 0x120008
abbrev F.HIF_STAT_RDY : Fld := ⟨R.HIF_STAT, 31, 31⟩
abbrev F.HIF_STAT_LINKUP : Fld := ⟨R.HIF_STAT, 30, 30⟩
abbrev F.HIF_STAT_SPEED : Fld := ⟨R.HIF_STAT, 29, 28⟩
abbrev F.HIF_STAT_WIDTH : Fld := ⟨R.HIF_STAT, 27, 24⟩
/-- HIF_ASQ_LO. -/
abbrev R.HIF_ASQ_LO : Nat := 0x120010
abbrev F.HIF_ASQ_LO_BASE : Fld := ⟨R.HIF_ASQ_LO, 31, 0⟩
/-- HIF_ASQ_HI. -/
abbrev R.HIF_ASQ_HI : Nat := 0x120014
abbrev F.HIF_ASQ_HI_BASE : Fld := ⟨R.HIF_ASQ_HI, 31, 0⟩
/-- HIF_ACQ_LO. -/
abbrev R.HIF_ACQ_LO : Nat := 0x120018
abbrev F.HIF_ACQ_LO_BASE : Fld := ⟨R.HIF_ACQ_LO, 31, 0⟩
/-- HIF_ACQ_HI. -/
abbrev R.HIF_ACQ_HI : Nat := 0x12001c
abbrev F.HIF_ACQ_HI_BASE : Fld := ⟨R.HIF_ACQ_HI, 31, 0⟩
/-- HIF_ASZ. -/
abbrev R.HIF_ASZ : Nat := 0x120020
abbrev F.HIF_ASZ_ACQS : Fld := ⟨R.HIF_ASZ, 23, 12⟩
abbrev F.HIF_ASZ_ASQS : Fld := ⟨R.HIF_ASZ, 11, 0⟩
/-- HIF_CFG. -/
abbrev R.HIF_CFG : Nat := 0x120024
abbrev F.HIF_CFG_CQTO : Fld := ⟨R.HIF_CFG, 31, 16⟩
abbrev F.HIF_CFG_FETCH : Fld := ⟨R.HIF_CFG, 15, 8⟩
/-- HIF_RSEL. -/
abbrev R.HIF_RSEL : Nat := 0x120028
abbrev F.HIF_RSEL_RING : Fld := ⟨R.HIF_RSEL, 7, 0⟩
/-- HIF_RSQ. -/
abbrev R.HIF_RSQ : Nat := 0x12002c
abbrev F.HIF_RSQ_EN : Fld := ⟨R.HIF_RSQ, 31, 31⟩
abbrev F.HIF_RSQ_CORE : Fld := ⟨R.HIF_RSQ, 30, 30⟩
abbrev F.HIF_RSQ_PRIO : Fld := ⟨R.HIF_RSQ, 29, 28⟩
abbrev F.HIF_RSQ_HEAD : Fld := ⟨R.HIF_RSQ, 23, 12⟩
abbrev F.HIF_RSQ_TAIL : Fld := ⟨R.HIF_RSQ, 11, 0⟩
/-- HIF_RCQ. -/
abbrev R.HIF_RCQ : Nat := 0x120030
abbrev F.HIF_RCQ_EN : Fld := ⟨R.HIF_RCQ, 31, 31⟩
abbrev F.HIF_RCQ_PH : Fld := ⟨R.HIF_RCQ, 30, 30⟩
abbrev F.HIF_RCQ_HEAD : Fld := ⟨R.HIF_RCQ, 23, 12⟩
abbrev F.HIF_RCQ_TAIL : Fld := ⟨R.HIF_RCQ, 11, 0⟩
/-- HIF_CNT0. -/
abbrev R.HIF_CNT0 : Nat := 0x120034
abbrev F.HIF_CNT0_OUTSPAN : Fld := ⟨R.HIF_CNT0, 31, 24⟩
abbrev F.HIF_CNT0_NARROW : Fld := ⟨R.HIF_CNT0, 23, 16⟩
abbrev F.HIF_CNT0_PWROFF : Fld := ⟨R.HIF_CNT0, 15, 8⟩
abbrev F.HIF_CNT0_DBBAD : Fld := ⟨R.HIF_CNT0, 7, 0⟩
/-- HIF_CNT1. -/
abbrev R.HIF_CNT1 : Nat := 0x120038
abbrev F.HIF_CNT1_CTO : Fld := ⟨R.HIF_CNT1, 31, 24⟩
abbrev F.HIF_CNT1_ERRCPL : Fld := ⟨R.HIF_CNT1, 23, 16⟩
abbrev F.HIF_CNT1_FETCHEXH : Fld := ⟨R.HIF_CNT1, 15, 8⟩
abbrev F.HIF_CNT1_CQSTALL : Fld := ⟨R.HIF_CNT1, 7, 0⟩
/-- HIF_CNT_CLR. -/
abbrev R.HIF_CNT_CLR : Nat := 0x12003c
abbrev F.HIF_CNT_CLR_CLR : Fld := ⟨R.HIF_CNT_CLR, 0, 0⟩
/-- HIF_HSRC. -/
abbrev R.HIF_HSRC (w : Nat) : Nat := 0x120080 + 4 * w
abbrev F.HIF_HSRC_EN (w : Nat) : Fld := ⟨R.HIF_HSRC w, 31, 0⟩
/-- STMn_CFG. -/
abbrev R.STM_CFG (n : Nat) : Nat := 0x120100 + 0x20 * n
abbrev F.STM_CFG_EN (n : Nat) : Fld := ⟨R.STM_CFG n, 31, 31⟩
abbrev F.STM_CFG_SRC (n : Nat) : Fld := ⟨R.STM_CFG n, 30, 28⟩
abbrev F.STM_CFG_SZ (n : Nat) : Fld := ⟨R.STM_CFG n, 27, 24⟩
abbrev F.STM_CFG_ARG (n : Nat) : Fld := ⟨R.STM_CFG n, 23, 16⟩
abbrev F.STM_CFG_FLUSH (n : Nat) : Fld := ⟨R.STM_CFG n, 15, 12⟩
abbrev F.STM_CFG_VEC (n : Nat) : Fld := ⟨R.STM_CFG n, 9, 0⟩
/-- STMn_BASE_LO. -/
abbrev R.STM_BASE_LO (n : Nat) : Nat := 0x120104 + 0x20 * n
abbrev F.STM_BASE_LO_ADDR (n : Nat) : Fld := ⟨R.STM_BASE_LO n, 31, 0⟩
/-- STMn_BASE_HI. -/
abbrev R.STM_BASE_HI (n : Nat) : Nat := 0x120108 + 0x20 * n
abbrev F.STM_BASE_HI_ADDR (n : Nat) : Fld := ⟨R.STM_BASE_HI n, 31, 0⟩
/-- STMn_WPA_LO. -/
abbrev R.STM_WPA_LO (n : Nat) : Nat := 0x12010c + 0x20 * n
abbrev F.STM_WPA_LO_ADDR (n : Nat) : Fld := ⟨R.STM_WPA_LO n, 31, 0⟩
/-- STMn_WPA_HI. -/
abbrev R.STM_WPA_HI (n : Nat) : Nat := 0x120110 + 0x20 * n
abbrev F.STM_WPA_HI_ADDR (n : Nat) : Fld := ⟨R.STM_WPA_HI n, 31, 0⟩
/-- STMn_WP. -/
abbrev R.STM_WP (n : Nat) : Nat := 0x120114 + 0x20 * n
abbrev F.STM_WP_PTR (n : Nat) : Fld := ⟨R.STM_WP n, 25, 0⟩
/-- STMn_RP. -/
abbrev R.STM_RP (n : Nat) : Nat := 0x120118 + 0x20 * n
abbrev F.STM_RP_PTR (n : Nat) : Fld := ⟨R.STM_RP n, 25, 0⟩
/-- STMn_STAT. -/
abbrev R.STM_STAT (n : Nat) : Nat := 0x12011c + 0x20 * n
abbrev F.STM_STAT_ERR (n : Nat) : Fld := ⟨R.STM_STAT n, 31, 31⟩
abbrev F.STM_STAT_CFGERR (n : Nat) : Fld := ⟨R.STM_STAT n, 30, 30⟩
abbrev F.STM_STAT_LOST (n : Nat) : Fld := ⟨R.STM_STAT n, 15, 0⟩
/-- CANn_CTL. -/
abbrev R.CAN_CTL (n : Nat) : Nat := 0x120200 + 0x40 * n
abbrev F.CAN_CTL_LISTEN (n : Nat) : Fld := ⟨R.CAN_CTL n, 3, 3⟩
abbrev F.CAN_CTL_BRS (n : Nat) : Fld := ⟨R.CAN_CTL n, 2, 2⟩
abbrev F.CAN_CTL_EN (n : Nat) : Fld := ⟨R.CAN_CTL n, 0, 0⟩
/-- CANn_NBT. -/
abbrev R.CAN_NBT (n : Nat) : Nat := 0x120204 + 0x40 * n
abbrev F.CAN_NBT_NBRP (n : Nat) : Fld := ⟨R.CAN_NBT n, 31, 24⟩
abbrev F.CAN_NBT_NTSEG1 (n : Nat) : Fld := ⟨R.CAN_NBT n, 23, 16⟩
abbrev F.CAN_NBT_NTSEG2 (n : Nat) : Fld := ⟨R.CAN_NBT n, 14, 8⟩
abbrev F.CAN_NBT_NSJW (n : Nat) : Fld := ⟨R.CAN_NBT n, 6, 0⟩
/-- CANn_DBT. -/
abbrev R.CAN_DBT (n : Nat) : Nat := 0x120208 + 0x40 * n
abbrev F.CAN_DBT_TDC (n : Nat) : Fld := ⟨R.CAN_DBT n, 31, 31⟩
abbrev F.CAN_DBT_TDCO (n : Nat) : Fld := ⟨R.CAN_DBT n, 30, 24⟩
abbrev F.CAN_DBT_DBRP (n : Nat) : Fld := ⟨R.CAN_DBT n, 20, 16⟩
abbrev F.CAN_DBT_DTSEG1 (n : Nat) : Fld := ⟨R.CAN_DBT n, 15, 8⟩
abbrev F.CAN_DBT_DTSEG2 (n : Nat) : Fld := ⟨R.CAN_DBT n, 7, 4⟩
abbrev F.CAN_DBT_DSJW (n : Nat) : Fld := ⟨R.CAN_DBT n, 3, 0⟩
/-- CANn_IDRX. -/
abbrev R.CAN_IDRX (n : Nat) : Nat := 0x12020c + 0x40 * n
abbrev F.CAN_IDRX_XTD (n : Nat) : Fld := ⟨R.CAN_IDRX n, 31, 31⟩
abbrev F.CAN_IDRX_ID (n : Nat) : Fld := ⟨R.CAN_IDRX n, 28, 0⟩
/-- CANn_IDTX. -/
abbrev R.CAN_IDTX (n : Nat) : Nat := 0x120210 + 0x40 * n
abbrev F.CAN_IDTX_XTD (n : Nat) : Fld := ⟨R.CAN_IDTX n, 31, 31⟩
abbrev F.CAN_IDTX_ID (n : Nat) : Fld := ⟨R.CAN_IDTX n, 28, 0⟩
/-- CANn_STAT. -/
abbrev R.CAN_STAT (n : Nat) : Nat := 0x120214 + 0x40 * n
abbrev F.CAN_STAT_BUSOFF (n : Nat) : Fld := ⟨R.CAN_STAT n, 31, 31⟩
abbrev F.CAN_STAT_ERRPASS (n : Nat) : Fld := ⟨R.CAN_STAT n, 30, 30⟩
abbrev F.CAN_STAT_TEC (n : Nat) : Fld := ⟨R.CAN_STAT n, 23, 16⟩
abbrev F.CAN_STAT_REC (n : Nat) : Fld := ⟨R.CAN_STAT n, 15, 8⟩
abbrev F.CAN_STAT_LEC (n : Nat) : Fld := ⟨R.CAN_STAT n, 2, 0⟩
/-- CANn_CNT. -/
abbrev R.CAN_CNT (n : Nat) : Nat := 0x120218 + 0x40 * n
abbrev F.CAN_CNT_CLR (n : Nat) : Fld := ⟨R.CAN_CNT n, 31, 31⟩
abbrev F.CAN_CNT_CMD (n : Nat) : Fld := ⟨R.CAN_CNT n, 30, 16⟩
abbrev F.CAN_CNT_REJ (n : Nat) : Fld := ⟨R.CAN_CNT n, 15, 0⟩
/-- QMG_ALLOC. -/
abbrev R.QMG_ALLOC : Nat := 0x110000
abbrev F.QMG_ALLOC_OK : Fld := ⟨R.QMG_ALLOC, 31, 31⟩
abbrev F.QMG_ALLOC_OP : Fld := ⟨R.QMG_ALLOC, 30, 28⟩
abbrev F.QMG_ALLOC_CODE : Fld := ⟨R.QMG_ALLOC, 27, 24⟩
abbrev F.QMG_ALLOC_CASK : Fld := ⟨R.QMG_ALLOC, 15, 0⟩
/-- QMG_POP. -/
abbrev R.QMG_POP : Nat := 0x11000c
abbrev F.QMG_POP_OK : Fld := ⟨R.QMG_POP, 31, 31⟩
abbrev F.QMG_POP_OP : Fld := ⟨R.QMG_POP, 30, 28⟩
abbrev F.QMG_POP_CODE : Fld := ⟨R.QMG_POP, 27, 24⟩
abbrev F.QMG_POP_CASK : Fld := ⟨R.QMG_POP, 15, 0⟩
/-- QMG_FREE. -/
abbrev R.QMG_FREE : Nat := 0x110004
abbrev F.QMG_FREE_QUEUE : Fld := ⟨R.QMG_FREE, 30, 16⟩
abbrev F.QMG_FREE_CASK : Fld := ⟨R.QMG_FREE, 15, 0⟩
/-- QMG_PUSH. -/
abbrev R.QMG_PUSH : Nat := 0x110008
abbrev F.QMG_PUSH_QUEUE : Fld := ⟨R.QMG_PUSH, 30, 16⟩
abbrev F.QMG_PUSH_CASK : Fld := ⟨R.QMG_PUSH, 15, 0⟩
/-- QMG_RES. -/
abbrev R.QMG_RES : Nat := 0x110010
abbrev F.QMG_RES_OK : Fld := ⟨R.QMG_RES, 31, 31⟩
abbrev F.QMG_RES_OP : Fld := ⟨R.QMG_RES, 30, 28⟩
abbrev F.QMG_RES_CODE : Fld := ⟨R.QMG_RES, 27, 24⟩
abbrev F.QMG_RES_CASK : Fld := ⟨R.QMG_RES, 15, 0⟩
/-- QMG_OWNSEL. -/
abbrev R.QMG_OWNSEL : Nat := 0x110014
abbrev F.QMG_OWNSEL_SEL : Fld := ⟨R.QMG_OWNSEL, 15, 0⟩
/-- QMG_QSEL. -/
abbrev R.QMG_QSEL : Nat := 0x110018
abbrev F.QMG_QSEL_SEL : Fld := ⟨R.QMG_QSEL, 15, 0⟩
/-- QMG_OSEL. -/
abbrev R.QMG_OSEL : Nat := 0x110024
abbrev F.QMG_OSEL_SEL : Fld := ⟨R.QMG_OSEL, 15, 0⟩
/-- QMG_CSEL. -/
abbrev R.QMG_CSEL : Nat := 0x110030
abbrev F.QMG_CSEL_SEL : Fld := ⟨R.QMG_CSEL, 15, 0⟩
/-- QMG_QCFG. -/
abbrev R.QMG_QCFG : Nat := 0x11001c
abbrev F.QMG_QCFG_CONS : Fld := ⟨R.QMG_QCFG, 31, 24⟩
abbrev F.QMG_QCFG_EN : Fld := ⟨R.QMG_QCFG, 23, 23⟩
abbrev F.QMG_QCFG_NEN : Fld := ⟨R.QMG_QCFG, 22, 22⟩
abbrev F.QMG_QCFG_NLINE : Fld := ⟨R.QMG_QCFG, 20, 16⟩
abbrev F.QMG_QCFG_DEPTH : Fld := ⟨R.QMG_QCFG, 15, 0⟩
/-- QMG_QSTAT. -/
abbrev R.QMG_QSTAT : Nat := 0x110020
abbrev F.QMG_QSTAT_NONEMPTY : Fld := ⟨R.QMG_QSTAT, 31, 31⟩
abbrev F.QMG_QSTAT_LEN : Fld := ⟨R.QMG_QSTAT, 16, 0⟩
/-- QMG_OCFG. -/
abbrev R.QMG_OCFG : Nat := 0x110028
abbrev F.QMG_OCFG_LIMIT : Fld := ⟨R.QMG_OCFG, 31, 20⟩
abbrev F.QMG_OCFG_GRANT : Fld := ⟨R.QMG_OCFG, 9, 0⟩
/-- QMG_OCNT. -/
abbrev R.QMG_OCNT : Nat := 0x11002c
abbrev F.QMG_OCNT_TAGGED : Fld := ⟨R.QMG_OCNT, 16, 0⟩
/-- QMG_POOL. -/
abbrev R.QMG_POOL : Nat := 0x110034
abbrev F.QMG_POOL_FREE : Fld := ⟨R.QMG_POOL, 16, 0⟩
/-- QMG_CFG. -/
abbrev R.QMG_CFG : Nat := 0x110038
abbrev F.QMG_CFG_LOWMARK : Fld := ⟨R.QMG_CFG, 16, 0⟩
/-- QMG_LASTREF. -/
abbrev R.QMG_LASTREF : Nat := 0x11003c
abbrev F.QMG_LASTREF_OWNER : Fld := ⟨R.QMG_LASTREF, 31, 24⟩
abbrev F.QMG_LASTREF_CODE : Fld := ⟨R.QMG_LASTREF, 23, 20⟩
abbrev F.QMG_LASTREF_REQ : Fld := ⟨R.QMG_LASTREF, 19, 16⟩
abbrev F.QMG_LASTREF_CASK : Fld := ⟨R.QMG_LASTREF, 15, 0⟩
/-- QMG_CNT. -/
abbrev R.QMG_CNT : Nat := 0x110040
abbrev F.QMG_CNT_FREEREF : Fld := ⟨R.QMG_CNT, 31, 16⟩
abbrev F.QMG_CNT_WINREF : Fld := ⟨R.QMG_CNT, 15, 8⟩
abbrev F.QMG_CNT_OWNREF : Fld := ⟨R.QMG_CNT, 7, 0⟩
/-- QMG_CNT_CLR. -/
abbrev R.QMG_CNT_CLR : Nat := 0x110044
abbrev F.QMG_CNT_CLR_CLR : Fld := ⟨R.QMG_CNT_CLR, 0, 0⟩
/-- QMG_RECLAIM. -/
abbrev R.QMG_RECLAIM : Nat := 0x110048
abbrev F.QMG_RECLAIM_GO : Fld := ⟨R.QMG_RECLAIM, 31, 31⟩
abbrev F.QMG_RECLAIM_OWNER : Fld := ⟨R.QMG_RECLAIM, 7, 0⟩
/-- QMG_CWIN. -/
abbrev R.QMG_CWIN (w : Nat) : Nat := 0x110400 + 4 * w
abbrev F.QMG_CWIN_DATA (w : Nat) : Fld := ⟨R.QMG_CWIN w, 31, 0⟩

/- spec/11_measurement_paths.md -/
/-- AINj_RES. -/
abbrev R.AIN_RES (j : Nat) : Nat := 0x170000 + 0x10 * j
abbrev F.AIN_RES_READY (j : Nat) : Fld := ⟨R.AIN_RES j, 31, 31⟩
abbrev F.AIN_RES_SEEN (j : Nat) : Fld := ⟨R.AIN_RES j, 30, 30⟩
abbrev F.AIN_RES_LIM (j : Nat) : Fld := ⟨R.AIN_RES j, 29, 29⟩
abbrev F.AIN_RES_VALUE (j : Nat) : Fld := ⟨R.AIN_RES j, 11, 0⟩
/-- AINj_TS_LO. -/
abbrev R.AIN_TS_LO (j : Nat) : Nat := 0x170004 + 0x10 * j
abbrev F.AIN_TS_LO_TS (j : Nat) : Fld := ⟨R.AIN_TS_LO j, 31, 0⟩
/-- AINj_TS_HI. -/
abbrev R.AIN_TS_HI (j : Nat) : Nat := 0x170008 + 0x10 * j
abbrev F.AIN_TS_HI_TS (j : Nat) : Fld := ⟨R.AIN_TS_HI j, 31, 0⟩
/-- AINj_SRC. -/
abbrev R.AIN_SRC (j : Nat) : Nat := 0x17000c + 0x10 * j
abbrev F.AIN_SRC_KIND (j : Nat) : Fld := ⟨R.AIN_SRC j, 31, 30⟩
abbrev F.AIN_SRC_ENTRY (j : Nat) : Fld := ⟨R.AIN_SRC j, 29, 24⟩
abbrev F.AIN_SRC_ANG (j : Nat) : Fld := ⟨R.AIN_SRC j, 23, 0⟩
/-- ADCm_CTL. -/
abbrev R.ADC_CTL (m : Nat) : Nat := 0x170400 + 0x400 * m
abbrev F.ADC_CTL_SWTRIG (m : Nat) : Fld := ⟨R.ADC_CTL m, 31, 31⟩
abbrev F.ADC_CTL_FIRST (m : Nat) : Fld := ⟨R.ADC_CTL m, 15, 12⟩
abbrev F.ADC_CTL_CNT (m : Nat) : Fld := ⟨R.ADC_CTL m, 11, 8⟩
abbrev F.ADC_CTL_EN (m : Nat) : Fld := ⟨R.ADC_CTL m, 0, 0⟩
/-- ADCm_STAT. -/
abbrev R.ADC_STAT (m : Nat) : Nat := 0x170404 + 0x400 * m
abbrev F.ADC_STAT_BUSY (m : Nat) : Fld := ⟨R.ADC_STAT m, 31, 31⟩
abbrev F.ADC_STAT_QUEUED (m : Nat) : Fld := ⟨R.ADC_STAT m, 30, 30⟩
abbrev F.ADC_STAT_ENTRY (m : Nat) : Fld := ⟨R.ADC_STAT m, 3, 0⟩
/-- ADCm_CNT. -/
abbrev R.ADC_CNT (m : Nat) : Nat := 0x170408 + 0x400 * m
abbrev F.ADC_CNT_OVR (m : Nat) : Fld := ⟨R.ADC_CNT m, 31, 16⟩
abbrev F.ADC_CNT_SEQ (m : Nat) : Fld := ⟨R.ADC_CNT m, 15, 0⟩
/-- ADCm_SEQ. -/
abbrev R.ADC_SEQ (m e : Nat) : Nat := 0x170440 + 0x400 * m + 4 * e
abbrev F.ADC_SEQ_SMP (m e : Nat) : Fld := ⟨R.ADC_SEQ m e, 11, 8⟩
abbrev F.ADC_SEQ_IN (m e : Nat) : Fld := ⟨R.ADC_SEQ m e, 3, 0⟩
/-- ADC_LIM. -/
abbrev R.ADC_LIM (j : Nat) : Nat := 0x171400 + 4 * j
abbrev F.ADC_LIM_HI (j : Nat) : Fld := ⟨R.ADC_LIM j, 27, 16⟩
abbrev F.ADC_LIM_LO (j : Nat) : Fld := ⟨R.ADC_LIM j, 11, 0⟩
/-- ADC_ATRGi_A. -/
abbrev R.ADC_ATRG_A (i : Nat) : Nat := 0x171500 + 8 * i
abbrev F.ADC_ATRG_A_VALID (i : Nat) : Fld := ⟨R.ADC_ATRG_A i, 31, 31⟩
abbrev F.ADC_ATRG_A_TRK (i : Nat) : Fld := ⟨R.ADC_ATRG_A i, 27, 24⟩
abbrev F.ADC_ATRG_A_ANG (i : Nat) : Fld := ⟨R.ADC_ATRG_A i, 23, 0⟩
/-- ADC_ATRGi_B. -/
abbrev R.ADC_ATRG_B (i : Nat) : Nat := 0x171504 + 8 * i
abbrev F.ADC_ATRG_B_FIRST (i : Nat) : Fld := ⟨R.ADC_ATRG_B i, 15, 12⟩
abbrev F.ADC_ATRG_B_CNT (i : Nat) : Fld := ⟨R.ADC_ATRG_B i, 11, 8⟩
abbrev F.ADC_ATRG_B_CONV (i : Nat) : Fld := ⟨R.ADC_ATRG_B i, 5, 4⟩
abbrev F.ADC_ATRG_B_DIRQ (i : Nat) : Fld := ⟨R.ADC_ATRG_B i, 1, 0⟩
/-- ADC_LIMSTAT. -/
abbrev R.ADC_LIMSTAT (h : Nat) : Nat := 0x171600 + 4 * h
abbrev F.ADC_LIMSTAT_LIM (h : Nat) : Fld := ⟨R.ADC_LIMSTAT h, 31, 0⟩
/-- ADC_CNT_CLR. -/
abbrev R.ADC_CNT_CLR : Nat := 0x171608
abbrev F.ADC_CNT_CLR_CLR : Fld := ⟨R.ADC_CNT_CLR, 3, 0⟩
/-- ENCm_CFG. -/
abbrev R.ENC_CFG (m : Nat) : Nat := 0x50000 + 0x80 * m
abbrev F.ENC_CFG_HYST (m : Nat) : Fld := ⟨R.ENC_CFG m, 31, 24⟩
abbrev F.ENC_CFG_WTIME (m : Nat) : Fld := ⟨R.ENC_CFG m, 23, 16⟩
abbrev F.ENC_CFG_FLT (m : Nat) : Fld := ⟨R.ENC_CFG m, 15, 8⟩
abbrev F.ENC_CFG_IDXEN (m : Nat) : Fld := ⟨R.ENC_CFG m, 6, 6⟩
abbrev F.ENC_CFG_IDXAB (m : Nat) : Fld := ⟨R.ENC_CFG m, 5, 4⟩
abbrev F.ENC_CFG_IPOL (m : Nat) : Fld := ⟨R.ENC_CFG m, 3, 3⟩
abbrev F.ENC_CFG_INV (m : Nat) : Fld := ⟨R.ENC_CFG m, 2, 2⟩
abbrev F.ENC_CFG_MODE (m : Nat) : Fld := ⟨R.ENC_CFG m, 1, 0⟩
/-- ENCm_SC. -/
abbrev R.ENC_SC (m : Nat) : Nat := 0x50004 + 0x80 * m
abbrev F.ENC_SC_GAINC (m : Nat) : Fld := ⟨R.ENC_SC m, 31, 24⟩
abbrev F.ENC_SC_OFSC (m : Nat) : Fld := ⟨R.ENC_SC m, 23, 12⟩
abbrev F.ENC_SC_OFSS (m : Nat) : Fld := ⟨R.ENC_SC m, 11, 0⟩
/-- ENCm_SC2. -/
abbrev R.ENC_SC2 (m : Nat) : Nat := 0x5000c + 0x80 * m
abbrev F.ENC_SC2_AMAX (m : Nat) : Fld := ⟨R.ENC_SC2 m, 27, 16⟩
abbrev F.ENC_SC2_AMIN (m : Nat) : Fld := ⟨R.ENC_SC2 m, 11, 0⟩
/-- ENCm_STAT. -/
abbrev R.ENC_STAT (m : Nat) : Nat := 0x50010 + 0x80 * m
abbrev F.ENC_STAT_AMP (m : Nat) : Fld := ⟨R.ENC_STAT m, 31, 31⟩
abbrev F.ENC_STAT_WIREI (m : Nat) : Fld := ⟨R.ENC_STAT m, 30, 30⟩
abbrev F.ENC_STAT_WIREB (m : Nat) : Fld := ⟨R.ENC_STAT m, 29, 29⟩
abbrev F.ENC_STAT_WIREA (m : Nat) : Fld := ⟨R.ENC_STAT m, 28, 28⟩
abbrev F.ENC_STAT_DIR (m : Nat) : Fld := ⟨R.ENC_STAT m, 27, 26⟩
abbrev F.ENC_STAT_LVL (m : Nat) : Fld := ⟨R.ENC_STAT m, 2, 0⟩
/-- ENCm_POS. -/
abbrev R.ENC_POS (m : Nat) : Nat := 0x50014 + 0x80 * m
abbrev F.ENC_POS_CNT (m : Nat) : Fld := ⟨R.ENC_POS m, 31, 0⟩
/-- ENCm_ETS_LO. -/
abbrev R.ENC_ETS_LO (m : Nat) : Nat := 0x50018 + 0x80 * m
abbrev F.ENC_ETS_LO_VAL (m : Nat) : Fld := ⟨R.ENC_ETS_LO m, 31, 0⟩
/-- ENCm_ETS_HI. -/
abbrev R.ENC_ETS_HI (m : Nat) : Nat := 0x5001c + 0x80 * m
abbrev F.ENC_ETS_HI_VAL (m : Nat) : Fld := ⟨R.ENC_ETS_HI m, 31, 0⟩
/-- ENCm_PER. -/
abbrev R.ENC_PER (m : Nat) : Nat := 0x50020 + 0x80 * m
abbrev F.ENC_PER_VAL (m : Nat) : Fld := ⟨R.ENC_PER m, 31, 0⟩
/-- ENCm_LAT_CNT. -/
abbrev R.ENC_LAT_CNT (m : Nat) : Nat := 0x50024 + 0x80 * m
abbrev F.ENC_LAT_CNT_CNT (m : Nat) : Fld := ⟨R.ENC_LAT_CNT m, 31, 0⟩
/-- ENCm_LAT_ETS_LO. -/
abbrev R.ENC_LAT_ETS_LO (m : Nat) : Nat := 0x50028 + 0x80 * m
abbrev F.ENC_LAT_ETS_LO_VAL (m : Nat) : Fld := ⟨R.ENC_LAT_ETS_LO m, 31, 0⟩
/-- ENCm_LAT_ETS_HI. -/
abbrev R.ENC_LAT_ETS_HI (m : Nat) : Nat := 0x5002c + 0x80 * m
abbrev F.ENC_LAT_ETS_HI_VAL (m : Nat) : Fld := ⟨R.ENC_LAT_ETS_HI m, 31, 0⟩
/-- ENCm_LAT_TS_LO. -/
abbrev R.ENC_LAT_TS_LO (m : Nat) : Nat := 0x50030 + 0x80 * m
abbrev F.ENC_LAT_TS_LO_VAL (m : Nat) : Fld := ⟨R.ENC_LAT_TS_LO m, 31, 0⟩
/-- ENCm_LAT_TS_HI. -/
abbrev R.ENC_LAT_TS_HI (m : Nat) : Nat := 0x50034 + 0x80 * m
abbrev F.ENC_LAT_TS_HI_VAL (m : Nat) : Fld := ⟨R.ENC_LAT_TS_HI m, 31, 0⟩
/-- ENCm_LAT_PER. -/
abbrev R.ENC_LAT_PER (m : Nat) : Nat := 0x50038 + 0x80 * m
abbrev F.ENC_LAT_PER_VAL (m : Nat) : Fld := ⟨R.ENC_LAT_PER m, 31, 0⟩
/-- ENCm_LAT_ST. -/
abbrev R.ENC_LAT_ST (m : Nat) : Nat := 0x50040 + 0x80 * m
abbrev F.ENC_LAT_ST_READY (m : Nat) : Fld := ⟨R.ENC_LAT_ST m, 31, 31⟩
abbrev F.ENC_LAT_ST_SEEN (m : Nat) : Fld := ⟨R.ENC_LAT_ST m, 30, 30⟩
abbrev F.ENC_LAT_ST_SW (m : Nat) : Fld := ⟨R.ENC_LAT_ST m, 29, 29⟩
/-- ENC_ECNTm. -/
abbrev R.ENC_ECNT (m : Nat) : Nat := 0x50408 + 4 * m
abbrev F.ENC_ECNT_QERR (m : Nat) : Fld := ⟨R.ENC_ECNT m, 31, 24⟩
abbrev F.ENC_ECNT_WIRE (m : Nat) : Fld := ⟨R.ENC_ECNT m, 23, 16⟩
abbrev F.ENC_ECNT_AMP (m : Nat) : Fld := ⟨R.ENC_ECNT m, 15, 8⟩
abbrev F.ENC_ECNT_LATOVR (m : Nat) : Fld := ⟨R.ENC_ECNT m, 7, 0⟩
/-- ENC_LATSW. -/
abbrev R.ENC_LATSW : Nat := 0x50400
abbrev F.ENC_LATSW_BIT : Fld := ⟨R.ENC_LATSW, 7, 0⟩
/-- ENC_CNT_CLR. -/
abbrev R.ENC_CNT_CLR : Nat := 0x50404
abbrev F.ENC_CNT_CLR_BIT : Fld := ⟨R.ENC_CNT_CLR, 7, 0⟩
/-- CMP_CFGm. -/
abbrev R.CMP_CFG (m : Nat) : Nat := 0x80 + 1 * m
abbrev F.CMP_CFG_EN (m : Nat) : Fld := ⟨R.CMP_CFG m, 31, 31⟩
abbrev F.CMP_CFG_POL (m : Nat) : Fld := ⟨R.CMP_CFG m, 30, 30⟩
abbrev F.CMP_CFG_DIV (m : Nat) : Fld := ⟨R.CMP_CFG m, 29, 27⟩
abbrev F.CMP_CFG_DEB (m : Nat) : Fld := ⟨R.CMP_CFG m, 23, 20⟩
abbrev F.CMP_CFG_THR (m : Nat) : Fld := ⟨R.CMP_CFG m, 7, 0⟩
/-- CMPm_STAT. -/
abbrev R.CMP_STAT (m : Nat) : Nat := 0x180000 + 0x20 * m
abbrev F.CMP_STAT_EN (m : Nat) : Fld := ⟨R.CMP_STAT m, 31, 31⟩
abbrev F.CMP_STAT_RAW (m : Nat) : Fld := ⟨R.CMP_STAT m, 1, 1⟩
abbrev F.CMP_STAT_LEVEL (m : Nat) : Fld := ⟨R.CMP_STAT m, 0, 0⟩
/-- CMPm_CNT. -/
abbrev R.CMP_CNT (m : Nat) : Nat := 0x180004 + 0x20 * m
abbrev F.CMP_CNT_RISE (m : Nat) : Fld := ⟨R.CMP_CNT m, 31, 16⟩
abbrev F.CMP_CNT_FALL (m : Nat) : Fld := ⟨R.CMP_CNT m, 15, 0⟩
/-- CMPm_TS_LO. -/
abbrev R.CMP_TS_LO (m : Nat) : Nat := 0x180008 + 0x20 * m
abbrev F.CMP_TS_LO_TS (m : Nat) : Fld := ⟨R.CMP_TS_LO m, 31, 0⟩
/-- CMPm_TS_HI. -/
abbrev R.CMP_TS_HI (m : Nat) : Nat := 0x18000c + 0x20 * m
abbrev F.CMP_TS_HI_TS (m : Nat) : Fld := ⟨R.CMP_TS_HI m, 31, 0⟩
/-- CMP_CNT_CLR. -/
abbrev R.CMP_CNT_CLR : Nat := 0x180100
abbrev F.CMP_CNT_CLR_CLR : Fld := ⟨R.CMP_CNT_CLR, 7, 0⟩
/-- ERT_DST. -/
abbrev R.ERT_DST (d : Nat) : Nat := 0x190000 + 4 * d
abbrev F.ERT_DST_EN (d : Nat) : Fld := ⟨R.ERT_DST d, 31, 31⟩
abbrev F.ERT_DST_DIV (d : Nat) : Fld := ⟨R.ERT_DST d, 15, 8⟩
abbrev F.ERT_DST_SRC (d : Nat) : Fld := ⟨R.ERT_DST d, 7, 0⟩
/-- ERT_AMi_A. -/
abbrev R.ERT_AM_A (i : Nat) : Nat := 0x190200 + 8 * i
abbrev F.ERT_AM_A_EN (i : Nat) : Fld := ⟨R.ERT_AM_A i, 31, 31⟩
abbrev F.ERT_AM_A_TRK (i : Nat) : Fld := ⟨R.ERT_AM_A i, 27, 24⟩
abbrev F.ERT_AM_A_ANG (i : Nat) : Fld := ⟨R.ERT_AM_A i, 23, 0⟩
/-- ERT_AMi_B. -/
abbrev R.ERT_AM_B (i : Nat) : Nat := 0x190204 + 8 * i
abbrev F.ERT_AM_B_DIRQ (i : Nat) : Fld := ⟨R.ERT_AM_B i, 1, 0⟩
/-- ERT_SWPULSE. -/
abbrev R.ERT_SWPULSE : Nat := 0x190300
abbrev F.ERT_SWPULSE_GO : Fld := ⟨R.ERT_SWPULSE, 0, 0⟩
/-- TRK_TLOG_CLR. -/
abbrev R.TRK_TLOG_CLR : Nat := 0x70008
abbrev F.TRK_TLOG_CLR_CLR : Fld := ⟨R.TRK_TLOG_CLR, 15, 0⟩
/-- TRK_TLOGk_CFG. -/
abbrev R.TRK_TLOG_CFG (k : Nat) : Nat := 0x71000 + 0x100 * k
abbrev F.TRK_TLOG_CFG_EN (k : Nat) : Fld := ⟨R.TRK_TLOG_CFG k, 31, 31⟩
abbrev F.TRK_TLOG_CFG_SYNTH (k : Nat) : Fld := ⟨R.TRK_TLOG_CFG k, 30, 30⟩
abbrev F.TRK_TLOG_CFG_DEC (k : Nat) : Fld := ⟨R.TRK_TLOG_CFG k, 9, 0⟩
/-- TRK_TLOGk_STAT. -/
abbrev R.TRK_TLOG_STAT (k : Nat) : Nat := 0x71004 + 0x100 * k
abbrev F.TRK_TLOG_STAT_LOST (k : Nat) : Fld := ⟨R.TRK_TLOG_STAT k, 31, 16⟩
abbrev F.TRK_TLOG_STAT_LOGGED (k : Nat) : Fld := ⟨R.TRK_TLOG_STAT k, 15, 0⟩
/-- TRK_CIk_CFG. -/
abbrev R.TRK_CI_CFG (k : Nat) : Nat := 0x71008 + 0x100 * k
abbrev F.TRK_CI_CFG_EN (k : Nat) : Fld := ⟨R.TRK_CI_CFG k, 31, 31⟩
abbrev F.TRK_CI_CFG_MFTHR (k : Nat) : Fld := ⟨R.TRK_CI_CFG k, 14, 0⟩
/-- TRK_CIk_MEAN. -/
abbrev R.TRK_CI_MEAN (k : Nat) : Nat := 0x7100c + 0x100 * k
abbrev F.TRK_CI_MEAN_MEAN (k : Nat) : Fld := ⟨R.TRK_CI_MEAN k, 31, 16⟩
abbrev F.TRK_CI_MEAN_NVALID (k : Nat) : Fld := ⟨R.TRK_CI_MEAN k, 12, 8⟩
abbrev F.TRK_CI_MEAN_CYC (k : Nat) : Fld := ⟨R.TRK_CI_MEAN k, 7, 0⟩
/-- TRK_CWk_. -/
abbrev R.TRK_CW (k j : Nat) : Nat := 0x71040 + 0x100 * k + 4 * j
abbrev F.TRK_CW_EN (k j : Nat) : Fld := ⟨R.TRK_CW k j, 31, 31⟩
abbrev F.TRK_CW_NS (k j : Nat) : Fld := ⟨R.TRK_CW k j, 19, 16⟩
abbrev F.TRK_CW_CSLOT (k j : Nat) : Fld := ⟨R.TRK_CW k j, 9, 0⟩
/-- TRK_CRk_. -/
abbrev R.TRK_CR (k j : Nat) : Nat := 0x71080 + 0x100 * k + 4 * j
abbrev F.TRK_CR_CI (k j : Nat) : Fld := ⟨R.TRK_CR k j, 31, 16⟩
abbrev F.TRK_CR_MFCNT (k j : Nat) : Fld := ⟨R.TRK_CR k j, 15, 8⟩
abbrev F.TRK_CR_MF (k j : Nat) : Fld := ⟨R.TRK_CR k j, 7, 7⟩
abbrev F.TRK_CR_INV (k j : Nat) : Fld := ⟨R.TRK_CR k j, 6, 6⟩

/- spec/12_timers_racking_interrupts.md -/
/-- TMRn_CTL. -/
abbrev R.TMR_CTL (n : Nat) : Nat := 0x160000 + 0x20 * n
abbrev F.TMR_CTL_EN (n : Nat) : Fld := ⟨R.TMR_CTL n, 31, 31⟩
abbrev F.TMR_CTL_GSYNC (n : Nat) : Fld := ⟨R.TMR_CTL n, 30, 30⟩
abbrev F.TMR_CTL_AUTO (n : Nat) : Fld := ⟨R.TMR_CTL n, 29, 29⟩
abbrev F.TMR_CTL_SLV (n : Nat) : Fld := ⟨R.TMR_CTL n, 26, 24⟩
abbrev F.TMR_CTL_MST (n : Nat) : Fld := ⟨R.TMR_CTL n, 20, 16⟩
abbrev F.TMR_CTL_TRK (n : Nat) : Fld := ⟨R.TMR_CTL n, 15, 12⟩
abbrev F.TMR_CTL_ADIR (n : Nat) : Fld := ⟨R.TMR_CTL n, 11, 10⟩
abbrev F.TMR_CTL_EDGE (n : Nat) : Fld := ⟨R.TMR_CTL n, 9, 8⟩
abbrev F.TMR_CTL_EXTSEL (n : Nat) : Fld := ⟨R.TMR_CTL n, 7, 7⟩
abbrev F.TMR_CTL_PIN (n : Nat) : Fld := ⟨R.TMR_CTL n, 5, 0⟩
/-- TMRn_CFG. -/
abbrev R.TMR_CFG (n : Nat) : Nat := 0x160004 + 0x20 * n
abbrev F.TMR_CFG_PS (n : Nat) : Fld := ⟨R.TMR_CFG n, 31, 8⟩
abbrev F.TMR_CFG_SRC (n : Nat) : Fld := ⟨R.TMR_CFG n, 6, 4⟩
/-- TMRn_CNT_LO. -/
abbrev R.TMR_CNT_LO (n : Nat) : Nat := 0x160008 + 0x20 * n
abbrev F.TMR_CNT_LO_CNT (n : Nat) : Fld := ⟨R.TMR_CNT_LO n, 31, 0⟩
/-- TMRn_CNT_HI. -/
abbrev R.TMR_CNT_HI (n : Nat) : Nat := 0x16000c + 0x20 * n
abbrev F.TMR_CNT_HI_CNT (n : Nat) : Fld := ⟨R.TMR_CNT_HI n, 31, 0⟩
/-- TMRn_CMP_LO. -/
abbrev R.TMR_CMP_LO (n : Nat) : Nat := 0x160010 + 0x20 * n
abbrev F.TMR_CMP_LO_CMP (n : Nat) : Fld := ⟨R.TMR_CMP_LO n, 31, 0⟩
/-- TMRn_CMP_HI. -/
abbrev R.TMR_CMP_HI (n : Nat) : Nat := 0x160014 + 0x20 * n
abbrev F.TMR_CMP_HI_CMP (n : Nat) : Fld := ⟨R.TMR_CMP_HI n, 31, 0⟩
/-- TMRn_PER. -/
abbrev R.TMR_PER (n : Nat) : Nat := 0x160018 + 0x20 * n
abbrev F.TMR_PER_PER (n : Nat) : Fld := ⟨R.TMR_PER n, 31, 0⟩
/-- TMRn_STAT. -/
abbrev R.TMR_STAT (n : Nat) : Nat := 0x16001c + 0x20 * n
abbrev F.TMR_STAT_RUN (n : Nat) : Fld := ⟨R.TMR_STAT n, 31, 31⟩
abbrev F.TMR_STAT_WAIT (n : Nat) : Fld := ⟨R.TMR_STAT n, 30, 30⟩
abbrev F.TMR_STAT_FAR (n : Nat) : Fld := ⟨R.TMR_STAT n, 29, 29⟩
abbrev F.TMR_STAT_MOUT (n : Nat) : Fld := ⟨R.TMR_STAT n, 28, 28⟩
/-- TMR_GCTL. -/
abbrev R.TMR_GCTL : Nat := 0x160400
abbrev F.TMR_GCTL_STOP : Fld := ⟨R.TMR_GCTL, 1, 1⟩
abbrev F.TMR_GCTL_GO : Fld := ⟨R.TMR_GCTL, 0, 0⟩
/-- TMR_RUN. -/
abbrev R.TMR_RUN : Nat := 0x160404
abbrev F.TMR_RUN_RUN : Fld := ⟨R.TMR_RUN, 31, 0⟩
/-- TMR_CNT. -/
abbrev R.TMR_CNT : Nat := 0x160408
abbrev F.TMR_CNT_WRREF : Fld := ⟨R.TMR_CNT, 7, 0⟩
/-- TMR_CNT_CLR. -/
abbrev R.TMR_CNT_CLR : Nat := 0x16040c
abbrev F.TMR_CNT_CLR_CLR : Fld := ⟨R.TMR_CNT_CLR, 0, 0⟩
/-- RKn_CTL. -/
abbrev R.RK_CTL (n : Nat) : Nat := 0x140000 + 0x40 * n
abbrev F.RK_CTL_EN (n : Nat) : Fld := ⟨R.RK_CTL n, 31, 31⟩
abbrev F.RK_CTL_REQ (n : Nat) : Fld := ⟨R.RK_CTL n, 30, 30⟩
abbrev F.RK_CTL_RELOAD (n : Nat) : Fld := ⟨R.RK_CTL n, 29, 29⟩
/-- RKn_CFG. -/
abbrev R.RK_CFG (n : Nat) : Nat := 0x140004 + 0x40 * n
abbrev F.RK_CFG_SMODE (n : Nat) : Fld := ⟨R.RK_CFG n, 31, 30⟩
abbrev F.RK_CFG_SCSZ (n : Nat) : Fld := ⟨R.RK_CFG n, 29, 25⟩
abbrev F.RK_CFG_DMODE (n : Nat) : Fld := ⟨R.RK_CFG n, 23, 22⟩
abbrev F.RK_CFG_DCSZ (n : Nat) : Fld := ⟨R.RK_CFG n, 21, 17⟩
abbrev F.RK_CFG_ESZ (n : Nat) : Fld := ⟨R.RK_CFG n, 15, 14⟩
abbrev F.RK_CFG_SWAP (n : Nat) : Fld := ⟨R.RK_CFG n, 13, 12⟩
abbrev F.RK_CFG_OWNER (n : Nat) : Fld := ⟨R.RK_CFG n, 7, 0⟩
/-- RKn_SRC_LO. -/
abbrev R.RK_SRC_LO (n : Nat) : Nat := 0x140008 + 0x40 * n
abbrev F.RK_SRC_LO_ADDR (n : Nat) : Fld := ⟨R.RK_SRC_LO n, 31, 0⟩
/-- RKn_SRC_HI. -/
abbrev R.RK_SRC_HI (n : Nat) : Nat := 0x14000c + 0x40 * n
abbrev F.RK_SRC_HI_ADDR (n : Nat) : Fld := ⟨R.RK_SRC_HI n, 31, 0⟩
/-- RKn_DST_LO. -/
abbrev R.RK_DST_LO (n : Nat) : Nat := 0x140010 + 0x40 * n
abbrev F.RK_DST_LO_ADDR (n : Nat) : Fld := ⟨R.RK_DST_LO n, 31, 0⟩
/-- RKn_DST_HI. -/
abbrev R.RK_DST_HI (n : Nat) : Nat := 0x140014 + 0x40 * n
abbrev F.RK_DST_HI_ADDR (n : Nat) : Fld := ⟨R.RK_DST_HI n, 31, 0⟩
/-- RKn_COUNT. -/
abbrev R.RK_COUNT (n : Nat) : Nat := 0x140018 + 0x40 * n
abbrev F.RK_COUNT_COUNT (n : Nat) : Fld := ⟨R.RK_COUNT n, 24, 0⟩
/-- RKn_SPTR_LO. -/
abbrev R.RK_SPTR_LO (n : Nat) : Nat := 0x14001c + 0x40 * n
abbrev F.RK_SPTR_LO_PTR (n : Nat) : Fld := ⟨R.RK_SPTR_LO n, 31, 0⟩
/-- RKn_SPTR_HI. -/
abbrev R.RK_SPTR_HI (n : Nat) : Nat := 0x140020 + 0x40 * n
abbrev F.RK_SPTR_HI_PTR (n : Nat) : Fld := ⟨R.RK_SPTR_HI n, 31, 0⟩
/-- RKn_DPTR_LO. -/
abbrev R.RK_DPTR_LO (n : Nat) : Nat := 0x140024 + 0x40 * n
abbrev F.RK_DPTR_LO_PTR (n : Nat) : Fld := ⟨R.RK_DPTR_LO n, 31, 0⟩
/-- RKn_DPTR_HI. -/
abbrev R.RK_DPTR_HI (n : Nat) : Nat := 0x140028 + 0x40 * n
abbrev F.RK_DPTR_HI_PTR (n : Nat) : Fld := ⟨R.RK_DPTR_HI n, 31, 0⟩
/-- RKn_REM. -/
abbrev R.RK_REM (n : Nat) : Nat := 0x14002c + 0x40 * n
abbrev F.RK_REM_REM (n : Nat) : Fld := ⟨R.RK_REM n, 24, 0⟩
/-- RKn_STAT. -/
abbrev R.RK_STAT (n : Nat) : Nat := 0x140030 + 0x40 * n
abbrev F.RK_STAT_STATE (n : Nat) : Fld := ⟨R.RK_STAT n, 31, 30⟩
abbrev F.RK_STAT_ERR (n : Nat) : Fld := ⟨R.RK_STAT n, 29, 29⟩
abbrev F.RK_STAT_ECODE (n : Nat) : Fld := ⟨R.RK_STAT n, 28, 26⟩
abbrev F.RK_STAT_OVR (n : Nat) : Fld := ⟨R.RK_STAT n, 23, 16⟩
abbrev F.RK_STAT_DONE (n : Nat) : Fld := ⟨R.RK_STAT n, 15, 0⟩
/-- RAK_GSTAT. -/
abbrev R.RAK_GSTAT : Nat := 0x140400
abbrev F.RAK_GSTAT_BUSY : Fld := ⟨R.RAK_GSTAT, 31, 31⟩
abbrev F.RAK_GSTAT_CUR : Fld := ⟨R.RAK_GSTAT, 27, 24⟩
abbrev F.RAK_GSTAT_NQ : Fld := ⟨R.RAK_GSTAT, 20, 16⟩
/-- RAK_CNT_CLR. -/
abbrev R.RAK_CNT_CLR : Nat := 0x140404
abbrev F.RAK_CNT_CLR_CLR : Fld := ⟨R.RAK_CNT_CLR, 15, 0⟩
/-- ICU_SRCs. -/
abbrev R.ICU_SRC (s : Nat) : Nat := 0x150000 + 4 * s
abbrev F.ICU_SRC_EN (s : Nat) : Fld := ⟨R.ICU_SRC s, 31, 31⟩
abbrev F.ICU_SRC_TRIG (s : Nat) : Fld := ⟨R.ICU_SRC s, 30, 30⟩
abbrev F.ICU_SRC_FLT (s : Nat) : Fld := ⟨R.ICU_SRC s, 27, 24⟩
abbrev F.ICU_SRC_COALN (s : Nat) : Fld := ⟨R.ICU_SRC s, 23, 20⟩
abbrev F.ICU_SRC_COALT (s : Nat) : Fld := ⟨R.ICU_SRC s, 19, 16⟩
abbrev F.ICU_SRC_PRIO (s : Nat) : Fld := ⟨R.ICU_SRC s, 11, 8⟩
abbrev F.ICU_SRC_TGT (s : Nat) : Fld := ⟨R.ICU_SRC s, 4, 0⟩
/-- ICU_ARRw. -/
abbrev R.ICU_ARR (w : Nat) : Nat := 0x151000 + 4 * w
abbrev F.ICU_ARR_ARR0 (w : Nat) : Fld := ⟨R.ICU_ARR w, 7, 0⟩
abbrev F.ICU_ARR_ARR1 (w : Nat) : Fld := ⟨R.ICU_ARR w, 15, 8⟩
abbrev F.ICU_ARR_ARR2 (w : Nat) : Fld := ⟨R.ICU_ARR w, 23, 16⟩
abbrev F.ICU_ARR_ARR3 (w : Nat) : Fld := ⟨R.ICU_ARR w, 31, 24⟩
/-- ICU_PENDw. -/
abbrev R.ICU_PEND (w : Nat) : Nat := 0x151400 + 4 * w
abbrev F.ICU_PEND_PEND (w : Nat) : Fld := ⟨R.ICU_PEND w, 31, 0⟩
/-- ICU_ACLR. -/
abbrev R.ICU_ACLR : Nat := 0x151480
abbrev F.ICU_ACLR_ALL : Fld := ⟨R.ICU_ACLR, 31, 31⟩
abbrev F.ICU_ACLR_ONE : Fld := ⟨R.ICU_ACLR, 30, 30⟩
abbrev F.ICU_ACLR_SRC : Fld := ⟨R.ICU_ACLR, 9, 0⟩
/-- ICU_STAT. -/
abbrev R.ICU_STAT : Nat := 0x151484
abbrev F.ICU_STAT_RESTORED : Fld := ⟨R.ICU_STAT, 31, 31⟩
abbrev F.ICU_STAT_LINE : Fld := ⟨R.ICU_STAT, 4, 0⟩
/-- ICU_CNT. -/
abbrev R.ICU_CNT : Nat := 0x151488
abbrev F.ICU_CNT_CLR : Fld := ⟨R.ICU_CNT, 31, 31⟩
abbrev F.ICU_CNT_SPUR : Fld := ⟨R.ICU_CNT, 30, 16⟩
abbrev F.ICU_CNT_BADCPL : Fld := ⟨R.ICU_CNT, 15, 0⟩
/-- ICU_Tt_THR. -/
abbrev R.ICU_T_THR (t : Nat) : Nat := 0x152000 + 0x100 * t
abbrev F.ICU_T_THR_THR (t : Nat) : Fld := ⟨R.ICU_T_THR t, 3, 0⟩
/-- ICU_Tt_CLAIM. -/
abbrev R.ICU_T_CLAIM (t : Nat) : Nat := 0x152004 + 0x100 * t
abbrev F.ICU_T_CLAIM_SRC (t : Nat) : Fld := ⟨R.ICU_T_CLAIM t, 10, 0⟩
/-- ICU_Tt_COMPLETE. -/
abbrev R.ICU_T_COMPLETE (t : Nat) : Nat := 0x152008 + 0x100 * t
abbrev F.ICU_T_COMPLETE_SRC (t : Nat) : Fld := ⟨R.ICU_T_COMPLETE t, 9, 0⟩
/-- ICU_Tt_ACT. -/
abbrev R.ICU_T_ACT (t : Nat) : Nat := 0x15200c + 0x100 * t
abbrev F.ICU_T_ACT_LINE (t : Nat) : Fld := ⟨R.ICU_T_ACT t, 31, 31⟩
abbrev F.ICU_T_ACT_NSRV (t : Nat) : Fld := ⟨R.ICU_T_ACT t, 19, 16⟩
abbrev F.ICU_T_ACT_TOP (t : Nat) : Fld := ⟨R.ICU_T_ACT t, 14, 4⟩
abbrev F.ICU_T_ACT_ETHR (t : Nat) : Fld := ⟨R.ICU_T_ACT t, 3, 0⟩

/- spec/13_cellarmaster_cellar_power.md -/
/-- CLK_REF_CFG. -/
abbrev R.CLK_REF_CFG : Nat := 0x10000
abbrev F.CLK_REF_CFG_HOLDOFF : Fld := ⟨R.CLK_REF_CFG, 15, 8⟩
abbrev F.CLK_REF_CFG_PREF : Fld := ⟨R.CLK_REF_CFG, 0, 0⟩
/-- CLK_REF_SWITCH. -/
abbrev R.CLK_REF_SWITCH : Nat := 0x10008
abbrev F.CLK_REF_SWITCH_REF : Fld := ⟨R.CLK_REF_SWITCH, 1, 0⟩
/-- CLK_STAT. -/
abbrev R.CLK_STAT : Nat := 0x10010
abbrev F.CLK_STAT_STATE : Fld := ⟨R.CLK_STAT, 31, 29⟩
abbrev F.CLK_STAT_XGOOD : Fld := ⟨R.CLK_STAT, 28, 28⟩
abbrev F.CLK_STAT_PGOOD : Fld := ⟨R.CLK_STAT, 27, 27⟩
abbrev F.CLK_STAT_PLLB : Fld := ⟨R.CLK_STAT, 26, 26⟩
abbrev F.CLK_STAT_SWREF : Fld := ⟨R.CLK_STAT, 15, 8⟩
abbrev F.CLK_STAT_SWITCHES : Fld := ⟨R.CLK_STAT, 7, 0⟩
/-- CLK_CNT_CLR. -/
abbrev R.CLK_CNT_CLR : Nat := 0x10014
abbrev F.CLK_CNT_CLR_CLR : Fld := ⟨R.CLK_CNT_CLR, 0, 0⟩
/-- CLK_PLLp_STAT. -/
abbrev R.CLK_PLL_STAT (p : Nat) : Nat := 0x10200 + 0x80 * p
abbrev F.CLK_PLL_STAT_LOCK (p : Nat) : Fld := ⟨R.CLK_PLL_STAT p, 31, 31⟩
abbrev F.CLK_PLL_STAT_ACTIVE (p : Nat) : Fld := ⟨R.CLK_PLL_STAT p, 30, 30⟩
abbrev F.CLK_PLL_STAT_RETIRED (p : Nat) : Fld := ⟨R.CLK_PLL_STAT p, 29, 29⟩
abbrev F.CLK_PLL_STAT_UNLOCK (p : Nat) : Fld := ⟨R.CLK_PLL_STAT p, 15, 8⟩
abbrev F.CLK_PLL_STAT_MARGIN (p : Nat) : Fld := ⟨R.CLK_PLL_STAT p, 7, 0⟩
/-- PWR_DOM_CTL. -/
abbrev R.PWR_DOM_CTL : Nat := 0x20000
abbrev F.PWR_DOM_CTL_ON : Fld := ⟨R.PWR_DOM_CTL, 8, 8⟩
abbrev F.PWR_DOM_CTL_DOM : Fld := ⟨R.PWR_DOM_CTL, 2, 0⟩
/-- PWR_SLEEP. -/
abbrev R.PWR_SLEEP : Nat := 0x20008
abbrev F.PWR_SLEEP_GO : Fld := ⟨R.PWR_SLEEP, 0, 0⟩
/-- PWR_STAT. -/
abbrev R.PWR_STAT : Nat := 0x2000c
abbrev F.PWR_STAT_SLPREF : Fld := ⟨R.PWR_STAT, 31, 24⟩
abbrev F.PWR_STAT_DOMREF : Fld := ⟨R.PWR_STAT, 23, 16⟩
/-- PWR_CNT_CLR. -/
abbrev R.PWR_CNT_CLR : Nat := 0x20010
abbrev F.PWR_CNT_CLR_CLR : Fld := ⟨R.PWR_CNT_CLR, 0, 0⟩
/-- PWR_DOMd_STAT. -/
abbrev R.PWR_DOM_STAT (d : Nat) : Nat := 0x20200 + 0x20 * d
abbrev F.PWR_DOM_STAT_STATE (d : Nat) : Fld := ⟨R.PWR_DOM_STAT d, 31, 30⟩
abbrev F.PWR_DOM_STAT_DRAIN (d : Nat) : Fld := ⟨R.PWR_DOM_STAT d, 23, 16⟩
abbrev F.PWR_DOM_STAT_CUT (d : Nat) : Fld := ⟨R.PWR_DOM_STAT d, 15, 8⟩
abbrev F.PWR_DOM_STAT_DOWNS (d : Nat) : Fld := ⟨R.PWR_DOM_STAT d, 7, 0⟩
/-- MGS_STAT. -/
abbrev R.MGS_STAT : Nat := 0x1a0000
abbrev F.MGS_STAT_BANK : Fld := ⟨R.MGS_STAT, 31, 31⟩
abbrev F.MGS_STAT_TRIAL : Fld := ⟨R.MGS_STAT, 30, 30⟩
abbrev F.MGS_STAT_IMGOK : Fld := ⟨R.MGS_STAT, 29, 29⟩
abbrev F.MGS_STAT_VINT : Fld := ⟨R.MGS_STAT, 15, 0⟩
/-- MGS_CTL. -/
abbrev R.MGS_CTL : Nat := 0x1a0004
abbrev F.MGS_CTL_CORERST : Fld := ⟨R.MGS_CTL, 1, 1⟩
abbrev F.MGS_CTL_CONFIRM : Fld := ⟨R.MGS_CTL, 0, 0⟩
/-- MGS_BANK_SW. -/
abbrev R.MGS_BANK_SW : Nat := 0x1a0008
abbrev F.MGS_BANK_SW_BANK : Fld := ⟨R.MGS_BANK_SW, 0, 0⟩
/-- MGS_FW_STAT. -/
abbrev R.MGS_FW_STAT : Nat := 0x1a0010
abbrev F.MGS_FW_STAT_VERIFIED : Fld := ⟨R.MGS_FW_STAT, 31, 31⟩
abbrev F.MGS_FW_STAT_VRES : Fld := ⟨R.MGS_FW_STAT, 30, 28⟩
abbrev F.MGS_FW_STAT_STAGED : Fld := ⟨R.MGS_FW_STAT, 23, 0⟩
/-- MGS_FWREL_A. -/
abbrev R.MGS_FWREL_A : Nat := 0x1a0014
abbrev F.MGS_FWREL_A_REL : Fld := ⟨R.MGS_FWREL_A, 31, 0⟩
/-- MGS_FWREL_B. -/
abbrev R.MGS_FWREL_B : Nat := 0x1a0018
abbrev F.MGS_FWREL_B_REL : Fld := ⟨R.MGS_FWREL_B, 31, 0⟩
/-- MGS_SPARE_SWAP. -/
abbrev R.MGS_SPARE_SWAP : Nat := 0x1a0020
abbrev F.MGS_SPARE_SWAP_KIND : Fld := ⟨R.MGS_SPARE_SWAP, 31, 28⟩
abbrev F.MGS_SPARE_SWAP_UNIT : Fld := ⟨R.MGS_SPARE_SWAP, 23, 0⟩
/-- MGS_SPARE_CFG. -/
abbrev R.MGS_SPARE_CFG : Nat := 0x1a0028
abbrev F.MGS_SPARE_CFG_CEMAX : Fld := ⟨R.MGS_SPARE_CFG, 31, 24⟩
abbrev F.MGS_SPARE_CFG_AUTO : Fld := ⟨R.MGS_SPARE_CFG, 3, 0⟩
/-- MGS_SPARE_STAT. -/
abbrev R.MGS_SPARE_STAT : Nat := 0x1a002c
abbrev F.MGS_SPARE_STAT_PE : Fld := ⟨R.MGS_SPARE_STAT, 31, 29⟩
abbrev F.MGS_SPARE_STAT_PLL : Fld := ⟨R.MGS_SPARE_STAT, 28, 28⟩
abbrev F.MGS_SPARE_STAT_ROW : Fld := ⟨R.MGS_SPARE_STAT, 26, 20⟩
abbrev F.MGS_SPARE_STAT_SEC : Fld := ⟨R.MGS_SPARE_STAT, 18, 12⟩
abbrev F.MGS_SPARE_STAT_SWAPS : Fld := ⟨R.MGS_SPARE_STAT, 11, 0⟩
/-- MGS_WDOG. -/
abbrev R.MGS_WDOG : Nat := 0x1a0030
abbrev F.MGS_WDOG_KICK : Fld := ⟨R.MGS_WDOG, 31, 31⟩
abbrev F.MGS_WDOG_TO : Fld := ⟨R.MGS_WDOG, 15, 0⟩
/-- MGS_LOG. -/
abbrev R.MGS_LOG : Nat := 0x1a0034
abbrev F.MGS_LOG_SEQ : Fld := ⟨R.MGS_LOG, 31, 0⟩
/-- MGS_LOGLOST. -/
abbrev R.MGS_LOGLOST : Nat := 0x1a0038
abbrev F.MGS_LOGLOST_LOST : Fld := ⟨R.MGS_LOGLOST, 15, 0⟩
/-- MGS_ACSTART. -/
abbrev R.MGS_ACSTART : Nat := 0x1a003c
abbrev F.MGS_ACSTART_CORES : Fld := ⟨R.MGS_ACSTART, 3, 0⟩
/-- MGS_ECC. -/
abbrev R.MGS_ECC : Nat := 0x1a0040
abbrev F.MGS_ECC_MCE : Fld := ⟨R.MGS_ECC, 31, 16⟩
abbrev F.MGS_ECC_MUE : Fld := ⟨R.MGS_ECC, 15, 8⟩
abbrev F.MGS_ECC_CUE : Fld := ⟨R.MGS_ECC, 7, 0⟩
/-- MGS_TLIM. -/
abbrev R.MGS_TLIM : Nat := 0x1a0044
abbrev F.MGS_TLIM_TCRIT : Fld := ⟨R.MGS_TLIM, 31, 16⟩
abbrev F.MGS_TLIM_TWARN : Fld := ⟨R.MGS_TLIM, 15, 0⟩
/-- MGS_AGLIM. -/
abbrev R.MGS_AGLIM : Nat := 0x1a0048
abbrev F.MGS_AGLIM_LIMIT : Fld := ⟨R.MGS_AGLIM, 15, 0⟩
/-- MGS_TSk. -/
abbrev R.MGS_TS (k : Nat) : Nat := 0x1a0100 + 4 * k
abbrev F.MGS_TS_VALID (k : Nat) : Fld := ⟨R.MGS_TS k, 31, 31⟩
abbrev F.MGS_TS_T (k : Nat) : Fld := ⟨R.MGS_TS k, 15, 0⟩
/-- MGS_VMv. -/
abbrev R.MGS_VM (v : Nat) : Nat := 0x1a0200 + 4 * v
abbrev F.MGS_VM_UV (v : Nat) : Fld := ⟨R.MGS_VM v, 31, 31⟩
abbrev F.MGS_VM_OV (v : Nat) : Fld := ⟨R.MGS_VM v, 30, 30⟩
abbrev F.MGS_VM_V (v : Nat) : Fld := ⟨R.MGS_VM v, 15, 0⟩
/-- MGS_AGa. -/
abbrev R.MGS_AG (a : Nat) : Nat := 0x1a0300 + 4 * a
abbrev F.MGS_AG_WORN (a : Nat) : Fld := ⟨R.MGS_AG a, 31, 31⟩
abbrev F.MGS_AG_DEGR (a : Nat) : Fld := ⟨R.MGS_AG a, 15, 0⟩
/-- MGS_VLIMv. -/
abbrev R.MGS_VLIM (v : Nat) : Nat := 0x1a0280 + 4 * v
abbrev F.MGS_VLIM_OVL (v : Nat) : Fld := ⟨R.MGS_VLIM v, 31, 16⟩
abbrev F.MGS_VLIM_UVL (v : Nat) : Fld := ⟨R.MGS_VLIM v, 15, 0⟩
/-- CEL_FC_STAT. -/
abbrev R.CEL_FC_STAT : Nat := 0x30000
abbrev F.CEL_FC_STAT_COPY : Fld := ⟨R.CEL_FC_STAT, 31, 0⟩
/-- CEL_FC_RST. -/
abbrev R.CEL_FC_RST : Nat := 0x30004
abbrev F.CEL_FC_RST_COPY : Fld := ⟨R.CEL_FC_RST, 31, 0⟩
/-- CEL_FC_WAKE. -/
abbrev R.CEL_FC_WAKE : Nat := 0x30008
abbrev F.CEL_FC_WAKE_COPY : Fld := ⟨R.CEL_FC_WAKE, 31, 0⟩
/-- CEL_FC_MW. -/
abbrev R.CEL_FC_MW : Nat := 0x3000c
abbrev F.CEL_FC_MW_COPY : Fld := ⟨R.CEL_FC_MW, 31, 0⟩
/-- CEL_STAT. -/
abbrev R.CEL_STAT : Nat := 0x0
abbrev F.CEL_STAT_SLOWOK : Fld := ⟨R.CEL_STAT, 31, 31⟩
abbrev F.CEL_STAT_VBATLOW : Fld := ⟨R.CEL_STAT, 30, 30⟩
abbrev F.CEL_STAT_COREEN : Fld := ⟨R.CEL_STAT, 29, 29⟩
abbrev F.CEL_STAT_RETV : Fld := ⟨R.CEL_STAT, 28, 28⟩
abbrev F.CEL_STAT_PSTATE : Fld := ⟨R.CEL_STAT, 1, 0⟩
/-- CEL_RSTCAUSE. -/
abbrev R.CEL_RSTCAUSE : Nat := 0x1
abbrev F.CEL_RSTCAUSE_CLR : Fld := ⟨R.CEL_RSTCAUSE, 31, 31⟩
abbrev F.CEL_RSTCAUSE_LAST : Fld := ⟨R.CEL_RSTCAUSE, 15, 12⟩
abbrev F.CEL_RSTCAUSE_CAUSE : Fld := ⟨R.CEL_RSTCAUSE, 9, 0⟩
/-- CEL_WAKE_CFG. -/
abbrev R.CEL_WAKE_CFG : Nat := 0x2
abbrev F.CEL_WAKE_CFG_MW : Fld := ⟨R.CEL_WAKE_CFG, 19, 18⟩
abbrev F.CEL_WAKE_CFG_TIMER : Fld := ⟨R.CEL_WAKE_CFG, 17, 17⟩
abbrev F.CEL_WAKE_CFG_PIN : Fld := ⟨R.CEL_WAKE_CFG, 16, 16⟩
abbrev F.CEL_WAKE_CFG_FALL : Fld := ⟨R.CEL_WAKE_CFG, 15, 8⟩
abbrev F.CEL_WAKE_CFG_RISE : Fld := ⟨R.CEL_WAKE_CFG, 7, 0⟩
/-- CEL_WAKE_CAUSE. -/
abbrev R.CEL_WAKE_CAUSE : Nat := 0x3
abbrev F.CEL_WAKE_CAUSE_MW : Fld := ⟨R.CEL_WAKE_CAUSE, 19, 18⟩
abbrev F.CEL_WAKE_CAUSE_TIMER : Fld := ⟨R.CEL_WAKE_CAUSE, 17, 17⟩
abbrev F.CEL_WAKE_CAUSE_PIN : Fld := ⟨R.CEL_WAKE_CAUSE, 16, 16⟩
abbrev F.CEL_WAKE_CAUSE_FALL : Fld := ⟨R.CEL_WAKE_CAUSE, 15, 8⟩
abbrev F.CEL_WAKE_CAUSE_RISE : Fld := ⟨R.CEL_WAKE_CAUSE, 7, 0⟩
/-- CEL_WTIMER. -/
abbrev R.CEL_WTIMER : Nat := 0x4
abbrev F.CEL_WTIMER_N : Fld := ⟨R.CEL_WTIMER, 31, 0⟩
/-- CEL_MWCFG. -/
abbrev R.CEL_MWCFG (h : Nat) : Nat := 0x8 + 1 * h
abbrev F.CEL_MWCFG_EN (h : Nat) : Fld := ⟨R.CEL_MWCFG h, 31, 31⟩
abbrev F.CEL_MWCFG_WDIV (h : Nat) : Fld := ⟨R.CEL_MWCFG h, 29, 26⟩
abbrev F.CEL_MWCFG_WON (h : Nat) : Fld := ⟨R.CEL_MWCFG h, 25, 22⟩
abbrev F.CEL_MWCFG_MCNT (h : Nat) : Fld := ⟨R.CEL_MWCFG h, 21, 18⟩
abbrev F.CEL_MWCFG_TRKMASK (h : Nat) : Fld := ⟨R.CEL_MWCFG h, 15, 0⟩
/-- CEL_MWSTAT. -/
abbrev R.CEL_MWSTAT : Nat := 0xa
abbrev F.CEL_MWSTAT_CLR : Fld := ⟨R.CEL_MWSTAT, 31, 31⟩
abbrev F.CEL_MWSTAT_LVL : Fld := ⟨R.CEL_MWSTAT, 19, 18⟩
abbrev F.CEL_MWSTAT_DET : Fld := ⟨R.CEL_MWSTAT, 17, 16⟩
abbrev F.CEL_MWSTAT_CHG1 : Fld := ⟨R.CEL_MWSTAT, 15, 8⟩
abbrev F.CEL_MWSTAT_CHG0 : Fld := ⟨R.CEL_MWSTAT, 7, 0⟩

/- spec/14_pins_electrical_test.md -/
/-- ATB_SEL. -/
abbrev R.ATB_SEL (h : Nat) : Nat := 0x1c0000 + 4 * h
abbrev F.ATB_SEL_EN (h : Nat) : Fld := ⟨R.ATB_SEL h, 31, 31⟩
abbrev F.ATB_SEL_FORCE (h : Nat) : Fld := ⟨R.ATB_SEL h, 30, 30⟩
abbrev F.ATB_SEL_NODE (h : Nat) : Fld := ⟨R.ATB_SEL h, 9, 0⟩
/-- ATB_STAT. -/
abbrev R.ATB_STAT : Nat := 0x1c0008
abbrev F.ATB_STAT_CLR : Fld := ⟨R.ATB_STAT, 31, 31⟩
abbrev F.ATB_STAT_REF : Fld := ⟨R.ATB_STAT, 7, 0⟩
/-- DBG_CTL. -/
abbrev R.DBG_CTL : Nat := 0x1d0000
abbrev F.DBG_CTL_JLOCK : Fld := ⟨R.DBG_CTL, 0, 0⟩
/-- DBG_DIRECT. -/
abbrev R.DBG_DIRECT : Nat := 0x1d0008
abbrev F.DBG_DIRECT_ON : Fld := ⟨R.DBG_DIRECT, 0, 0⟩
/-- DBG_STAT. -/
abbrev R.DBG_STAT : Nat := 0x1d0010
abbrev F.DBG_STAT_DIRECT : Fld := ⟨R.DBG_STAT, 31, 31⟩
abbrev F.DBG_STAT_JLOCK : Fld := ⟨R.DBG_STAT, 30, 30⟩
abbrev F.DBG_STAT_TMODE : Fld := ⟨R.DBG_STAT, 29, 28⟩
abbrev F.DBG_STAT_FUSE : Fld := ⟨R.DBG_STAT, 27, 27⟩
abbrev F.DBG_STAT_PREF : Fld := ⟨R.DBG_STAT, 23, 16⟩
abbrev F.DBG_STAT_DREF : Fld := ⟨R.DBG_STAT, 15, 8⟩
abbrev F.DBG_STAT_CLR : Fld := ⟨R.DBG_STAT, 0, 0⟩
/-- DBG_PRBS_CTL. -/
abbrev R.DBG_PRBS_CTL : Nat := 0x1d0020
abbrev F.DBG_PRBS_CTL_EN : Fld := ⟨R.DBG_PRBS_CTL, 31, 31⟩
abbrev F.DBG_PRBS_CTL_NEAR : Fld := ⟨R.DBG_PRBS_CTL, 30, 30⟩
abbrev F.DBG_PRBS_CTL_PAT : Fld := ⟨R.DBG_PRBS_CTL, 29, 28⟩
abbrev F.DBG_PRBS_CTL_PAIR : Fld := ⟨R.DBG_PRBS_CTL, 5, 0⟩
/-- DBG_PRBS_STAT. -/
abbrev R.DBG_PRBS_STAT : Nat := 0x1d0024
abbrev F.DBG_PRBS_STAT_LOCK : Fld := ⟨R.DBG_PRBS_STAT, 31, 31⟩
abbrev F.DBG_PRBS_STAT_ERR : Fld := ⟨R.DBG_PRBS_STAT, 30, 0⟩
/-- SYS_GPIO_OUT. -/
abbrev R.SYS_GPIO_OUT (h : Nat) : Nat := 0x100 + 4 * h
abbrev F.SYS_GPIO_OUT_OUT (h : Nat) : Fld := ⟨R.SYS_GPIO_OUT h, 31, 0⟩
/-- SYS_GPIO_OE. -/
abbrev R.SYS_GPIO_OE (h : Nat) : Nat := 0x108 + 4 * h
abbrev F.SYS_GPIO_OE_OE (h : Nat) : Fld := ⟨R.SYS_GPIO_OE h, 31, 0⟩
/-- SYS_GPIO_IN. -/
abbrev R.SYS_GPIO_IN (h : Nat) : Nat := 0x110 + 4 * h
abbrev F.SYS_GPIO_IN_IN (h : Nat) : Fld := ⟨R.SYS_GPIO_IN h, 31, 0⟩

/-- The registers of SYS. -/
def regsSYS : List RegDesc := [
  ⟨"SYS_UPD_STROBE", 0x40, [], 0x0, 0x0, 0x0⟩,
  ⟨"SYS_UPD_PEND", 0x44, [], 0x0, 0x0, 0x0⟩,
  ⟨"SYS_UPD_CFG", 0x48, [], 0x7d0, 0xffff, 0x0⟩,
  ⟨"SYS_UPD_STAT", 0x4c, [], 0x0, 0x0, 0x0⟩,
  ⟨"SYS_VINTAGE", 0x50, [], 0x0, 0x0, 0x0⟩,
  ⟨"SYS_TRK_GRP", 0x54, [(0x4, 2)], 0x0, 0x77777777, 0x0⟩,
  ⟨"SYS_TRK_VINT", 0x60, [(0x4, 8)], 0x0, 0x0, 0x0⟩,
  ⟨"SYS_LIVE_VIEW", 0x80, [], 0x0, 0x1, 0x0⟩,
  ⟨"SYS_CORK_STAT", 0x84, [], 0x0, 0x0, 0x0⟩,
  ⟨"SYS_GPIO_OUT", 0x100, [(0x4, 2)], 0x0, 0xffffffff, 0x0⟩,
  ⟨"SYS_GPIO_OE", 0x108, [(0x4, 2)], 0x0, 0xffffffff, 0x0⟩,
  ⟨"SYS_GPIO_IN", 0x110, [(0x4, 2)], 0x0, 0x0, 0x0⟩]

/-- The registers of CEL. -/
def regsCEL : List RegDesc := [
  ⟨"CEL_IADDR", 0x30080, [], 0x0, 0x10fff, 0x0⟩,
  ⟨"CEL_IDATA", 0x30084, [], 0x0, 0x0, 0x0⟩,
  ⟨"CEL_FC_SEQ", 0x30088, [], 0x0, 0x0, 0x0⟩,
  ⟨"CEL_FC_AGE", 0x3008c, [], 0xffff, 0x0, 0x0⟩,
  ⟨"CEL_FC_STAT", 0x30000, [], 0x0, 0x0, 0x0⟩,
  ⟨"CEL_FC_RST", 0x30004, [], 0x0, 0x0, 0x0⟩,
  ⟨"CEL_FC_WAKE", 0x30008, [], 0x0, 0x0, 0x0⟩,
  ⟨"CEL_FC_MW", 0x3000c, [], 0x0, 0x0, 0x0⟩]

/-- The registers of SNS. -/
def regsSNS : List RegDesc := [
  ⟨"SNSn_CFG", 0x40000, [(0x40, 32)], 0xa0400, 0xff0f0f, 0x0⟩,
  ⟨"SNSn_FLT", 0x40004, [(0x40, 32)], 0x64, 0x1f03ff, 0x0⟩,
  ⟨"SNSn_STAT", 0x40008, [(0x40, 32)], 0x0, 0x0, 0x0⟩,
  ⟨"SNSn_TS_LO", 0x4000c, [(0x40, 32)], 0x0, 0x0, 0x0⟩,
  ⟨"SNSn_TS_HI", 0x40010, [(0x40, 32)], 0x0, 0x0, 0x0⟩,
  ⟨"SNSn_PW", 0x40014, [(0x40, 32)], 0x0, 0x0, 0x0⟩,
  ⟨"SNSn_CNT", 0x40018, [(0x40, 32)], 0x0, 0x0, 0x0⟩,
  ⟨"SNS_CNT_CLR", 0x40800, [], 0x0, 0x0, 0x0⟩,
  ⟨"SNS_SUPPLY", 0x40804, [], 0x0, 0xf, 0x0⟩]

/-- The registers of TRK. -/
def regsTRK : List RegDesc := [
  ⟨"TRKn_CTL", 0x60000, [(0x1000, 16)], 0x0, 0xf, 0x0⟩,
  ⟨"TRKn_CFG", 0x60004, [(0x1000, 16)], 0x0, 0x0, 0x7f3fb⟩,
  ⟨"TRKn_WHEEL", 0x60008, [(0x1000, 16)], 0x0, 0x0, 0x3ff⟩,
  ⟨"TRKn_REF_ANG", 0x6000c, [(0x1000, 16)], 0x0, 0x0, 0xffffff⟩,
  ⟨"TRKn_GAP", 0x60010, [(0x1000, 16)], 0x108046, 0x0, 0xffffff⟩,
  ⟨"TRKn_TOL", 0x60014, [(0x1000, 16)], 0x3310, 0x0, 0xffff⟩,
  ⟨"TRKn_TIME", 0x60018, [(0x1000, 16)], 0xfa00fa, 0x0, 0xffffffff⟩,
  ⟨"TRKn_FB", 0x6001c, [(0x1000, 16)], 0xc000080, 0x0, 0xffff03ff⟩,
  ⟨"TRKn_DIR", 0x60020, [(0x1000, 16)], 0x3a98, 0x0, 0x1fffff⟩,
  ⟨"TRKn_REVOFS", 0x60024, [(0x1000, 16)], 0x0, 0x0, 0xffffff⟩,
  ⟨"TRKn_ENC", 0x60028, [(0x1000, 16)], 0x0, 0x0, 0xffffff⟩,
  ⟨"TRKn_ENCX", 0x6002c, [(0x1000, 16)], 0x20001, 0x0, 0xff03ff⟩,
  ⟨"TRKn_CAM", 0x60030, [(0x1000, 16)], 0x0, 0x0, 0x1⟩,
  ⟨"TRKn_WHL", 0x60040, [(0x1000, 16), (0x4, 16)], 0x0, 0x0, 0xffffffff⟩,
  ⟨"TRKn_PHW", 0x60080, [(0x1000, 16), (0x4, 16)], 0x0, 0x0, 0x3ffffff⟩,
  ⟨"TRKn_STAT", 0x60100, [(0x1000, 16)], 0x0, 0x0, 0x0⟩,
  ⟨"TRKn_ABS_LO", 0x60104, [(0x1000, 16)], 0x0, 0x0, 0x0⟩,
  ⟨"TRKn_ABS_HI", 0x60108, [(0x1000, 16)], 0x0, 0x0, 0x0⟩,
  ⟨"TRKn_TS_LO", 0x6010c, [(0x1000, 16)], 0x0, 0x0, 0x0⟩,
  ⟨"TRKn_TS_HI", 0x60110, [(0x1000, 16)], 0x0, 0x0, 0x0⟩,
  ⟨"TRKn_PERIOD", 0x60114, [(0x1000, 16)], 0x0, 0x0, 0x0⟩,
  ⟨"TRKn_CNT0", 0x60118, [(0x1000, 16)], 0x0, 0x0, 0x0⟩,
  ⟨"TRKn_CNT1", 0x6011c, [(0x1000, 16)], 0x0, 0x0, 0x0⟩,
  ⟨"TRKn_FBSTEP", 0x60120, [(0x1000, 16)], 0x0, 0x0, 0x0⟩,
  ⟨"TRK_CNT_CLR", 0x70000, [], 0x0, 0x0, 0x0⟩,
  ⟨"TRK_ARM", 0x70004, [], 0x0, 0x0, 0x0⟩,
  ⟨"TRK_TLOG_CLR", 0x70008, [], 0x0, 0x0, 0x0⟩,
  ⟨"TRK_TLOGk_CFG", 0x71000, [(0x100, 16)], 0x0, 0xc00003ff, 0x0⟩,
  ⟨"TRK_TLOGk_STAT", 0x71004, [(0x100, 16)], 0x0, 0x0, 0x0⟩,
  ⟨"TRK_CIk_CFG", 0x71008, [(0x100, 16)], 0xc8, 0x80007fff, 0x0⟩,
  ⟨"TRK_CIk_MEAN", 0x7100c, [(0x100, 16)], 0x0, 0x0, 0x0⟩,
  ⟨"TRK_CWk_", 0x71040, [(0x100, 16), (0x4, 16)], 0x0, 0x800f03ff, 0x0⟩,
  ⟨"TRK_CRk_", 0x71080, [(0x100, 16), (0x4, 16)], 0x0, 0x0, 0x0⟩]

/-- The registers of PRD. -/
def regsPRD : List RegDesc := [
  ⟨"PRD_LMAP", 0x80000, [(0x4, 32)], 0x0, 0x8000000f, 0x0⟩,
  ⟨"PRD_PMAP", 0x80080, [(0x4, 32)], 0x0, 0x0, 0x0⟩,
  ⟨"PRD_CHK", 0x80100, [], 0x3f000a01, 0xff01, 0x0⟩,
  ⟨"PRD_ALLOC_STAT", 0x80104, [], 0x0, 0x0, 0x0⟩,
  ⟨"PRD_QRYq_CMD", 0x80200, [(0x10, 8)], 0x0, 0xfffffff, 0x0⟩,
  ⟨"PRD_QRYq_RES_LO", 0x80204, [(0x10, 8)], 0x0, 0x0, 0x0⟩,
  ⟨"PRD_QRYq_RES_HI", 0x80208, [(0x10, 8)], 0x0, 0x0, 0x0⟩,
  ⟨"PRD_QRYq_RES_ST", 0x8020c, [(0x10, 8)], 0x0, 0x0, 0x0⟩,
  ⟨"PRD_CNT_CLR", 0x80300, [], 0x0, 0x0, 0x0⟩,
  ⟨"PEm_STAT", 0x81000, [(0x100, 36)], 0x0, 0x0, 0x0⟩,
  ⟨"PEm_LOAD", 0x81004, [(0x100, 36)], 0x0, 0x0, 0x0⟩,
  ⟨"PEm_CNT", 0x81008, [(0x100, 36)], 0x0, 0x0, 0x0⟩,
  ⟨"PRDk_CFG", 0x90000, [(0x2000, 16)], 0x2200008, 0x0, 0xe7ff001f⟩,
  ⟨"PRDk_RIP", 0x90004, [(0x2000, 16)], 0x43000000, 0x0, 0xffffffff⟩,
  ⟨"PRDk_RLIM", 0x90008, [(0x2000, 16)], 0x20004000, 0x0, 0xffffffff⟩,
  ⟨"PRDk_TECFG", 0x9000c, [(0x2000, 16)], 0xccd0400, 0x0, 0xffff0f00⟩,
  ⟨"PRDk_LGATE", 0x90010, [(0x2000, 16)], 0x10, 0x0, 0xfff⟩,
  ⟨"PRDk_LRN", 0x90014, [(0x2000, 16)], 0x0, 0x3, 0x0⟩,
  ⟨"PRDk_B_LO", 0x90020, [(0x2000, 16)], 0x0, 0x0, 0x0⟩,
  ⟨"PRDk_B_HI", 0x90024, [(0x2000, 16)], 0x0, 0x0, 0x0⟩,
  ⟨"PRDk_D_LO", 0x90028, [(0x2000, 16)], 0x0, 0x0, 0x0⟩,
  ⟨"PRDk_D_HI", 0x9002c, [(0x2000, 16)], 0x0, 0x0, 0x0⟩,
  ⟨"PRDk_STAT", 0x90030, [(0x2000, 16)], 0x0, 0x0, 0x0⟩,
  ⟨"PRDk_RBIAS", 0x90034, [(0x2000, 16)], 0x0, 0x0, 0x0⟩,
  ⟨"PRDk_RESID", 0x90038, [(0x2000, 16)], 0x0, 0x0, 0x0⟩,
  ⟨"PRDk_RESMAX", 0x9003c, [(0x2000, 16)], 0x0, 0x0, 0x0⟩,
  ⟨"PRDk_CNT0", 0x90040, [(0x2000, 16)], 0x0, 0x0, 0x0⟩,
  ⟨"PRDk_TE", 0x90400, [(0x2000, 16), (0x4, 512)], 0x0, 0xffff, 0x0⟩,
  ⟨"PRDk_RM", 0x91000, [(0x2000, 16), (0x4, 1024)], 0x0, 0xffffffff, 0x0⟩]

/-- The registers of SCH. -/
def regsSCH : List RegDesc := [
  ⟨"SCH_TRKk_CTL", 0xc0000, [(0x100, 16)], 0x0, 0x1, 0x2⟩,
  ⟨"SCH_TRKk_RANGE", 0xc0004, [(0x100, 16)], 0x0, 0x0, 0x3fff1fff⟩,
  ⟨"SCH_TRKk_LEAD", 0xc0008, [(0x100, 16)], 0xf4240, 0x0, 0xffffffff⟩,
  ⟨"SCH_TRKk_LOOK", 0xc000c, [(0x100, 16)], 0x40, 0x0, 0x7ff⟩,
  ⟨"SCH_TRKk_STAT", 0xc0010, [(0x100, 16)], 0x0, 0x0, 0x0⟩,
  ⟨"SCH_TRKk_CNT0", 0xc0014, [(0x100, 16)], 0x0, 0x0, 0x0⟩,
  ⟨"SCH_TRKk_CNT1", 0xc0018, [(0x100, 16)], 0x0, 0x0, 0x0⟩,
  ⟨"SCH_TRKk_CNT2", 0xc001c, [(0x100, 16)], 0x0, 0x0, 0x0⟩,
  ⟨"SCH_TRKk_EXEC", 0xc0020, [(0x100, 16)], 0x0, 0x0, 0x0⟩,
  ⟨"SCH_TRKk_LASTLATE", 0xc0024, [(0x100, 16)], 0x0, 0x0, 0x0⟩,
  ⟨"SCH_TRKk_LATEBY", 0xc0028, [(0x100, 16)], 0x0, 0x0, 0x0⟩,
  ⟨"SCH_CHEN", 0xc1000, [(0x4, 16)], 0x0, 0xffffffff, 0x0⟩,
  ⟨"SCH_GCFG", 0xc1040, [], 0x280, 0xfffff1, 0x0⟩,
  ⟨"SCH_GSTAT", 0xc1044, [], 0x0, 0x0, 0x0⟩,
  ⟨"SCH_GSTAT2", 0xc1048, [], 0x0, 0x0, 0x0⟩,
  ⟨"SCH_DESC_ERR", 0xc104c, [], 0x0, 0x0, 0x0⟩,
  ⟨"SCH_CNT_CLR", 0xc1050, [], 0x0, 0x0, 0x0⟩]

/-- The registers of PRS. -/
def regsPRS : List RegDesc := [
  ⟨"PRSk_CTL", 0xd0000, [(0x200, 16)], 0x0, 0x1, 0x0⟩,
  ⟨"PRSk_CFG", 0xd0004, [(0x200, 16)], 0x0, 0x0, 0x77f⟩,
  ⟨"PRSk_DEMAND", 0xd0008, [(0x200, 16)], 0x0, 0x1ffff, 0x0⟩,
  ⟨"PRSk_POST", 0xd000c, [(0x200, 16)], 0x0, 0xff01ffff, 0x0⟩,
  ⟨"PRSk_RULES", 0xd0010, [(0x200, 16)], 0x0, 0x0, 0xffffff⟩,
  ⟨"PRSk_SPRD", 0xd0014, [(0x200, 16)], 0x0, 0x0, 0xffff3fff⟩,
  ⟨"PRSk_ACCLIM", 0xd0018, [(0x200, 16)], 0x18000, 0x0, 0xfffff⟩,
  ⟨"PRSk_REVOFS", 0xd001c, [(0x200, 16)], 0x0, 0x0, 0xffffff⟩,
  ⟨"PRSk_SEED", 0xd0020, [(0x200, 16)], 0xace1, 0x0, 0xffff⟩,
  ⟨"PRSk_UNH", 0xd0024, [(0x200, 16), (0x4, 2)], 0x0, 0xffffffff, 0x0⟩,
  ⟨"PRSk_ACC", 0xd002c, [(0x200, 16)], 0x0, 0x0, 0x0⟩,
  ⟨"PRSk_LAST", 0xd0030, [(0x200, 16)], 0x0, 0x0, 0x0⟩,
  ⟨"PRSk_NSTR", 0xd0034, [(0x200, 16)], 0x0, 0x0, 0x0⟩,
  ⟨"PRSk_HIST_LO", 0xd0038, [(0x200, 16)], 0x0, 0x0, 0x0⟩,
  ⟨"PRSk_HIST_HI", 0xd003c, [(0x200, 16)], 0x0, 0x0, 0x0⟩,
  ⟨"PRSk_CNT0", 0xd0040, [(0x200, 16)], 0x0, 0x0, 0x0⟩,
  ⟨"PRSk_CNT1", 0xd0044, [(0x200, 16)], 0x0, 0x0, 0x0⟩,
  ⟨"PRSk_WORKS", 0xd0048, [(0x200, 16)], 0x0, 0x0, 0x0⟩,
  ⟨"PRSk_POS", 0xd0100, [(0x200, 16), (0x4, 64)], 0x3c000000, 0x0, 0x80ffffff⟩,
  ⟨"PRS_GSTAT", 0xd2000, [], 0x0, 0x0, 0x0⟩,
  ⟨"PRS_CNT_CLR", 0xd2004, [], 0x0, 0x0, 0x0⟩]

/-- The registers of TLK. -/
def regsTLK : List RegDesc := [
  ⟨"TLKn_CTL", 0xe0000, [(0x200, 16)], 0x2, 0x3, 0x0⟩,
  ⟨"TLKn_CFG", 0xe0004, [(0x200, 16)], 0x80a0228, 0xffff0fff, 0x0⟩,
  ⟨"TLKn_CFG2", 0xe0008, [(0x200, 16)], 0x3e8000a, 0xffffffff, 0x0⟩,
  ⟨"TLKn_STAT", 0xe000c, [(0x200, 16)], 0x0, 0x0, 0x0⟩,
  ⟨"TLKn_LANE", 0xe0010, [(0x200, 16)], 0x10030000, 0xff030000, 0x0⟩,
  ⟨"TLKn_POSp", 0xe0020, [(0x200, 16), (0x4, 4)], 0x0, 0x0, 0x0⟩,
  ⟨"TLKn_DLYp", 0xe0030, [(0x200, 16), (0x4, 4)], 0x0, 0x0, 0x0⟩,
  ⟨"TLKn_CNT0", 0xe0040, [(0x200, 16)], 0x0, 0x0, 0x0⟩,
  ⟨"TLKn_CNT1", 0xe0044, [(0x200, 16)], 0x0, 0x0, 0x0⟩,
  ⟨"TLKn_LAT", 0xe0048, [(0x200, 16)], 0x0, 0x0, 0x0⟩,
  ⟨"TLK_TPWR_EN", 0xe2000, [(0x8, 2)], 0x0, 0x0, 0x0⟩,
  ⟨"TLK_ATTACHED", 0xe2010, [(0x4, 2)], 0x0, 0x0, 0x0⟩,
  ⟨"TLK_GCFG", 0xe2018, [], 0x0, 0x1, 0x0⟩,
  ⟨"TLK_CNT_CLR", 0xe201c, [], 0x0, 0x0, 0x0⟩]

/-- The registers of TIL. -/
def regsTIL : List RegDesc := [
  ⟨"TILn_ADDR", 0xf0000, [(0x10, 16)], 0x0, 0x301ffff, 0x0⟩,
  ⟨"TILn_DATA", 0xf0004, [(0x10, 16)], 0x0, 0x0, 0x0⟩,
  ⟨"TILn_STAT", 0xf0008, [(0x10, 16)], 0x0, 0x0, 0x0⟩]

/-- The registers of TILE. -/
def regsTILE : List RegDesc := [
  ⟨"TILE_ID0", 0x0, [], 0x0, 0x0, 0x0⟩,
  ⟨"TILE_ID1", 0x1, [], 0x18000, 0x0, 0x0⟩,
  ⟨"TILE_SER_LO", 0x2, [], 0x0, 0x0, 0x0⟩,
  ⟨"TILE_SER_HI", 0x3, [], 0x0, 0x0, 0x0⟩,
  ⟨"TILE_LINK", 0x4, [], 0x0, 0x0, 0x0⟩,
  ⟨"TILE_DLY", 0x5, [], 0x0, 0x0, 0x0⟩,
  ⟨"TILE_WDOG", 0x6, [], 0x32, 0xffff, 0x0⟩,
  ⟨"TILE_CNT", 0x7, [], 0x0, 0x0, 0x0⟩,
  ⟨"TDRV_BOOST_CTL", 0x100, [], 0xffff0000, 0xffff0001, 0x0⟩,
  ⟨"TDRV_BOOST_SET", 0x101, [], 0x41460, 0xffffff, 0x0⟩,
  ⟨"TDRV_BOOST_STAT", 0x102, [], 0x0, 0x0, 0x0⟩,
  ⟨"TDRV_CLAMP", 0x103, [], 0x0, 0x0, 0x0⟩,
  ⟨"TDRV_INH", 0x104, [], 0x0, 0x0, 0x0⟩,
  ⟨"TDRV_OFFT", 0x105, [], 0x0, 0x0, 0x0⟩,
  ⟨"TDRV_OUT", 0x110, [(0x1, 8)], 0xff00, 0xff01, 0x0⟩,
  ⟨"TILE_DUP", 0x10, [], 0x0, 0x1, 0x0⟩,
  ⟨"TILE_DUP_AT", 0x11, [], 0x0, 0xffffffff, 0x0⟩,
  ⟨"TILE_DUPCNT", 0x12, [], 0x0, 0x0, 0x0⟩]

/-- The registers of CDT. -/
def regsCDT : List RegDesc := [
  ⟨"CDT_CHn_CFG", 0x100000, [(0x40, 512)], 0x4000320, 0xffff0f31, 0x0⟩,
  ⟨"CDT_CHn_DET", 0x100004, [(0x40, 512)], 0xfd814014, 0xffffffff, 0x0⟩,
  ⟨"CDT_CHn_CCFG", 0x100008, [(0x40, 512)], 0x80001388, 0xffffffff, 0x0⟩,
  ⟨"CDT_CHn_CAUTH", 0x10000c, [(0x40, 512)], 0x27101388, 0xffffffff, 0x0⟩,
  ⟨"CDT_CHn_COMP", 0x100010, [(0x40, 512), (0x4, 4)], 0x0, 0xffffff, 0x0⟩,
  ⟨"CDT_CHn_CRES_LO", 0x100020, [(0x40, 512)], 0x0, 0x0, 0x0⟩,
  ⟨"CDT_CHn_CRES_HI", 0x100024, [(0x40, 512)], 0x0, 0x0, 0x0⟩,
  ⟨"CDT_CHn_CRES_ST", 0x100028, [(0x40, 512)], 0x0, 0x0, 0x0⟩,
  ⟨"CDT_CHn_CRES_EV", 0x10002c, [(0x40, 512)], 0x0, 0x0, 0x0⟩,
  ⟨"CDT_CHn_TH0", 0x100030, [(0x40, 512)], 0x5dc4000, 0xffffff00, 0x0⟩,
  ⟨"CDT_CHn_TH1", 0x100034, [(0x40, 512)], 0x8639e10, 0xffffffff, 0x0⟩,
  ⟨"CDT_CHn_TH2", 0x100038, [(0x40, 512)], 0x25802bc0, 0xffffffff, 0x0⟩,
  ⟨"CDT_CHn_STAT", 0x10003c, [(0x40, 512)], 0xff00, 0x0, 0x0⟩,
  ⟨"CDT_PRFp_W0", 0x108000, [(0x40, 256)], 0x0, 0x0, 0xfffffff⟩,
  ⟨"CDT_PRFp_W1", 0x108004, [(0x40, 256)], 0x0, 0x0, 0xffff3fff⟩,
  ⟨"CDT_PRFp_W2", 0x108008, [(0x40, 256)], 0x0, 0x0, 0xffff3fff⟩,
  ⟨"CDT_PRFp_W3", 0x10800c, [(0x40, 256)], 0x0, 0x0, 0xffff0fff⟩,
  ⟨"CDT_PRFp_W4", 0x108010, [(0x40, 256)], 0x0, 0x0, 0xffffc000⟩,
  ⟨"CDT_PRFp_W5", 0x108014, [(0x40, 256)], 0x0, 0x0, 0xfff0fff⟩,
  ⟨"CDT_PRFp_W6", 0x108018, [(0x40, 256)], 0x0, 0x0, 0x0⟩,
  ⟨"CDT_PRFp_W7", 0x10801c, [(0x40, 256)], 0x0, 0x0, 0x0⟩,
  ⟨"CDT_PRFp_STAT", 0x108020, [(0x40, 256)], 0x0, 0x0, 0x0⟩,
  ⟨"CDT_BOOST_EN", 0x10c000, [(0x8, 2)], 0x0, 0x0, 0x0⟩,
  ⟨"CDT_CHFORCE", 0x10c010, [], 0x0, 0x0, 0x0⟩,
  ⟨"CDT_INHMSK", 0x10c018, [(0x4, 2)], 0xffffffff, 0xffffffff, 0x0⟩,
  ⟨"CDT_INHSTAT", 0x10c020, [(0x4, 2)], 0x0, 0x0, 0x0⟩,
  ⟨"CDT_REARM", 0x10c028, [(0x4, 2)], 0x0, 0x0, 0x0⟩,
  ⟨"CDT_GRP", 0x10c030, [], 0x0, 0x7, 0x0⟩,
  ⟨"CDT_TAMB", 0x10c034, [], 0x640, 0xffff, 0x0⟩,
  ⟨"CDT_CAP", 0x10c038, [], 0x0, 0x800001ff, 0x0⟩,
  ⟨"CDT_FORCE_DUR", 0x10c03c, [], 0x3e8, 0x3fff, 0x0⟩,
  ⟨"CDT_FORCE_STAT", 0x10c040, [], 0x0, 0x0, 0x0⟩,
  ⟨"CDT_CNT_CLR", 0x10c044, [], 0x0, 0x0, 0x0⟩,
  ⟨"CDT_FOFF", 0x10c080, [(0x4, 16)], 0x0, 0x0, 0x0⟩,
  ⟨"CDT_BSETt", 0x10c100, [(0x4, 64)], 0x41460, 0xffffff, 0x0⟩,
  ⟨"CDT_BSTATt", 0x10c200, [(0x4, 64)], 0x0, 0x0, 0x0⟩,
  ⟨"CDT_CNTn", 0x10d000, [(0x4, 512)], 0x0, 0x0, 0x0⟩,
  ⟨"CDT_T2n", 0x10d800, [(0x4, 512)], 0x0, 0x0, 0x0⟩,
  ⟨"CDT_TH3n", 0x10e000, [(0x4, 512)], 0x8800280, 0xffffffff, 0x0⟩]

/-- The registers of MIR. -/
def regsMIR : List RegDesc := [
  ⟨"MIR_CTL", 0x1b0000, [], 0x0, 0x3, 0x0⟩,
  ⟨"MIR_CFG", 0x1b0004, [], 0x14220064, 0xffff00ff, 0x0⟩,
  ⟨"MIR_STAT", 0x1b0008, [], 0x0, 0x0, 0x0⟩,
  ⟨"MIR_OFS", 0x1b000c, [], 0x0, 0x0, 0x0⟩,
  ⟨"MIR_TRIM", 0x1b0010, [], 0x0, 0x0, 0x0⟩,
  ⟨"MIR_DLY", 0x1b0014, [], 0x0, 0x0, 0x0⟩,
  ⟨"MIR_PVER", 0x1b0018, [], 0x0, 0x0, 0x0⟩,
  ⟨"MIR_PREL", 0x1b001c, [], 0x0, 0x0, 0x0⟩,
  ⟨"MIR_PVINT", 0x1b0020, [], 0x0, 0x0, 0x0⟩,
  ⟨"MIR_TAKEOVER", 0x1b0024, [], 0x0, 0x0, 0x0⟩,
  ⟨"MIR_TK_STAT", 0x1b002c, [], 0x0, 0x0, 0x0⟩,
  ⟨"MIR_TK_AT_LO", 0x1b0030, [], 0x0, 0x0, 0x0⟩,
  ⟨"MIR_TK_AT_HI", 0x1b0034, [], 0x0, 0x0, 0x0⟩,
  ⟨"MIR_LEASE", 0x1b0038, [(0x4, 2)], 0x0, 0x0, 0x0⟩,
  ⟨"MIR_ELIG", 0x1b0040, [(0x4, 2)], 0x0, 0x0, 0x0⟩,
  ⟨"MIR_CNT0", 0x1b0048, [], 0x0, 0x0, 0x0⟩,
  ⟨"MIR_CNT1", 0x1b004c, [], 0x0, 0x0, 0x0⟩,
  ⟨"MIR_CNT2", 0x1b0050, [], 0x0, 0x0, 0x0⟩,
  ⟨"MIR_DIGSTAT", 0x1b0054, [], 0x0, 0x0, 0x0⟩,
  ⟨"MIR_CNT_CLR", 0x1b0058, [], 0x0, 0x0, 0x0⟩]

/-- The registers of HIF. -/
def regsHIF : List RegDesc := [
  ⟨"HIF_ID", 0x120000, [], 0x95120001, 0x0, 0x0⟩,
  ⟨"HIF_CTL", 0x120004, [], 0x0, 0x1, 0x0⟩,
  ⟨"HIF_STAT", 0x120008, [], 0x0, 0x0, 0x0⟩,
  ⟨"HIF_ASQ_LO", 0x120010, [], 0x0, 0xffffffff, 0x0⟩,
  ⟨"HIF_ASQ_HI", 0x120014, [], 0x0, 0xffffffff, 0x0⟩,
  ⟨"HIF_ACQ_LO", 0x120018, [], 0x0, 0xffffffff, 0x0⟩,
  ⟨"HIF_ACQ_HI", 0x12001c, [], 0x0, 0xffffffff, 0x0⟩,
  ⟨"HIF_ASZ", 0x120020, [], 0xf00f, 0xffffff, 0x0⟩,
  ⟨"HIF_CFG", 0x120024, [], 0x640400, 0xffffff00, 0x0⟩,
  ⟨"HIF_RSEL", 0x120028, [], 0x0, 0xff, 0x0⟩,
  ⟨"HIF_RSQ", 0x12002c, [], 0x0, 0x0, 0x0⟩,
  ⟨"HIF_RCQ", 0x120030, [], 0x40000000, 0x0, 0x0⟩,
  ⟨"HIF_CNT0", 0x120034, [], 0x0, 0x0, 0x0⟩,
  ⟨"HIF_CNT1", 0x120038, [], 0x0, 0x0, 0x0⟩,
  ⟨"HIF_CNT_CLR", 0x12003c, [], 0x0, 0x0, 0x0⟩,
  ⟨"HIF_HSRC", 0x120080, [(0x4, 32)], 0x0, 0xffffffff, 0x0⟩,
  ⟨"STMn_CFG", 0x120100, [(0x20, 8)], 0x6000, 0xfffff3ff, 0x0⟩,
  ⟨"STMn_BASE_LO", 0x120104, [(0x20, 8)], 0x0, 0xffffffff, 0x0⟩,
  ⟨"STMn_BASE_HI", 0x120108, [(0x20, 8)], 0x0, 0xffffffff, 0x0⟩,
  ⟨"STMn_WPA_LO", 0x12010c, [(0x20, 8)], 0x0, 0xffffffff, 0x0⟩,
  ⟨"STMn_WPA_HI", 0x120110, [(0x20, 8)], 0x0, 0xffffffff, 0x0⟩,
  ⟨"STMn_WP", 0x120114, [(0x20, 8)], 0x0, 0x0, 0x0⟩,
  ⟨"STMn_RP", 0x120118, [(0x20, 8)], 0x0, 0x0, 0x0⟩,
  ⟨"STMn_STAT", 0x12011c, [(0x20, 8)], 0x0, 0x0, 0x0⟩,
  ⟨"CANn_CTL", 0x120200, [(0x40, 2)], 0x4, 0xd, 0x0⟩,
  ⟨"CANn_NBT", 0x120204, [(0x40, 2)], 0x91d0808, 0xffff7f7f, 0x0⟩,
  ⟨"CANn_DBT", 0x120208, [(0x40, 2)], 0x8c040a33, 0xff1fffff, 0x0⟩,
  ⟨"CANn_IDRX", 0x12020c, [(0x40, 2)], 0x0, 0x9fffffff, 0x0⟩,
  ⟨"CANn_IDTX", 0x120210, [(0x40, 2)], 0x0, 0x9fffffff, 0x0⟩,
  ⟨"CANn_STAT", 0x120214, [(0x40, 2)], 0x0, 0x0, 0x0⟩,
  ⟨"CANn_CNT", 0x120218, [(0x40, 2)], 0x0, 0x0, 0x0⟩]

/-- The registers of QMG. -/
def regsQMG : List RegDesc := [
  ⟨"QMG_ALLOC", 0x110000, [], 0x0, 0x0, 0x0⟩,
  ⟨"QMG_POP", 0x11000c, [], 0x0, 0x0, 0x0⟩,
  ⟨"QMG_FREE", 0x110004, [], 0x0, 0x7fffffff, 0x0⟩,
  ⟨"QMG_PUSH", 0x110008, [], 0x0, 0x7fffffff, 0x0⟩,
  ⟨"QMG_RES", 0x110010, [], 0x0, 0x0, 0x0⟩,
  ⟨"QMG_OWNSEL", 0x110014, [], 0x0, 0xffff, 0x0⟩,
  ⟨"QMG_QSEL", 0x110018, [], 0x0, 0xffff, 0x0⟩,
  ⟨"QMG_OSEL", 0x110024, [], 0x0, 0xffff, 0x0⟩,
  ⟨"QMG_CSEL", 0x110030, [], 0x0, 0xffff, 0x0⟩,
  ⟨"QMG_QCFG", 0x11001c, [], 0x0, 0xffdfffff, 0x0⟩,
  ⟨"QMG_QSTAT", 0x110020, [], 0x0, 0x0, 0x0⟩,
  ⟨"QMG_OCFG", 0x110028, [], 0x0, 0xfff003ff, 0x0⟩,
  ⟨"QMG_OCNT", 0x11002c, [], 0x0, 0x0, 0x0⟩,
  ⟨"QMG_POOL", 0x110034, [], 0x10000, 0x0, 0x0⟩,
  ⟨"QMG_CFG", 0x110038, [], 0x1000, 0x1ffff, 0x0⟩,
  ⟨"QMG_LASTREF", 0x11003c, [], 0x0, 0x0, 0x0⟩,
  ⟨"QMG_CNT", 0x110040, [], 0x0, 0x0, 0x0⟩,
  ⟨"QMG_CNT_CLR", 0x110044, [], 0x0, 0x0, 0x0⟩,
  ⟨"QMG_RECLAIM", 0x110048, [], 0x0, 0xff, 0x0⟩,
  ⟨"QMG_CWIN", 0x110400, [(0x4, 16)], 0x0, 0xffffffff, 0x0⟩]

/-- The registers of ADC. -/
def regsADC : List RegDesc := [
  ⟨"AINj_RES", 0x170000, [(0x10, 64)], 0x0, 0x0, 0x0⟩,
  ⟨"AINj_TS_LO", 0x170004, [(0x10, 64)], 0x0, 0x0, 0x0⟩,
  ⟨"AINj_TS_HI", 0x170008, [(0x10, 64)], 0x0, 0x0, 0x0⟩,
  ⟨"AINj_SRC", 0x17000c, [(0x10, 64)], 0x0, 0x0, 0x0⟩,
  ⟨"ADCm_CTL", 0x170400, [(0x400, 4)], 0x0, 0xff01, 0x0⟩,
  ⟨"ADCm_STAT", 0x170404, [(0x400, 4)], 0x0, 0x0, 0x0⟩,
  ⟨"ADCm_CNT", 0x170408, [(0x400, 4)], 0x0, 0x0, 0x0⟩,
  ⟨"ADCm_SEQ", 0x170440, [(0x400, 4), (0x4, 16)], 0x0, 0xf0f, 0x0⟩,
  ⟨"ADC_LIM", 0x171400, [(0x4, 64)], 0xfff0000, 0xfff0fff, 0x0⟩,
  ⟨"ADC_ATRGi_A", 0x171500, [(0x8, 32)], 0x0, 0x0, 0x8fffffff⟩,
  ⟨"ADC_ATRGi_B", 0x171504, [(0x8, 32)], 0x0, 0x0, 0xff33⟩,
  ⟨"ADC_LIMSTAT", 0x171600, [(0x4, 2)], 0x0, 0x0, 0x0⟩,
  ⟨"ADC_CNT_CLR", 0x171608, [], 0x0, 0x0, 0x0⟩]

/-- The registers of ENC. -/
def regsENC : List RegDesc := [
  ⟨"ENCm_CFG", 0x50000, [(0x80, 8)], 0x40a0200, 0xffffff7f, 0x0⟩,
  ⟨"ENCm_SC", 0x50004, [(0x80, 8)], 0x80000000, 0xffffffff, 0x0⟩,
  ⟨"ENCm_SC2", 0x5000c, [(0x80, 8)], 0x7ff0100, 0xfff0fff, 0x0⟩,
  ⟨"ENCm_STAT", 0x50010, [(0x80, 8)], 0x0, 0x0, 0x0⟩,
  ⟨"ENCm_POS", 0x50014, [(0x80, 8)], 0x0, 0x0, 0x0⟩,
  ⟨"ENCm_ETS_LO", 0x50018, [(0x80, 8)], 0x0, 0x0, 0x0⟩,
  ⟨"ENCm_ETS_HI", 0x5001c, [(0x80, 8)], 0x0, 0x0, 0x0⟩,
  ⟨"ENCm_PER", 0x50020, [(0x80, 8)], 0x0, 0x0, 0x0⟩,
  ⟨"ENCm_LAT_CNT", 0x50024, [(0x80, 8)], 0x0, 0x0, 0x0⟩,
  ⟨"ENCm_LAT_ETS_LO", 0x50028, [(0x80, 8)], 0x0, 0x0, 0x0⟩,
  ⟨"ENCm_LAT_ETS_HI", 0x5002c, [(0x80, 8)], 0x0, 0x0, 0x0⟩,
  ⟨"ENCm_LAT_TS_LO", 0x50030, [(0x80, 8)], 0x0, 0x0, 0x0⟩,
  ⟨"ENCm_LAT_TS_HI", 0x50034, [(0x80, 8)], 0x0, 0x0, 0x0⟩,
  ⟨"ENCm_LAT_PER", 0x50038, [(0x80, 8)], 0x0, 0x0, 0x0⟩,
  ⟨"ENCm_LAT_ST", 0x50040, [(0x80, 8)], 0x0, 0x0, 0x0⟩,
  ⟨"ENC_ECNTm", 0x50408, [(0x4, 8)], 0x0, 0x0, 0x0⟩,
  ⟨"ENC_LATSW", 0x50400, [], 0x0, 0x0, 0x0⟩,
  ⟨"ENC_CNT_CLR", 0x50404, [], 0x0, 0x0, 0x0⟩]

/-- The registers of CELW. -/
def regsCELW : List RegDesc := [
  ⟨"CMP_CFGm", 0x80, [(0x1, 8)], 0x0, 0xf8f000ff, 0x0⟩,
  ⟨"CEL_STAT", 0x0, [], 0x20000000, 0x0, 0x0⟩,
  ⟨"CEL_RSTCAUSE", 0x1, [], 0x1, 0x0, 0x0⟩,
  ⟨"CEL_WAKE_CFG", 0x2, [], 0x0, 0xfffff, 0x0⟩,
  ⟨"CEL_WAKE_CAUSE", 0x3, [], 0x0, 0x0, 0x0⟩,
  ⟨"CEL_WTIMER", 0x4, [], 0x0, 0xffffffff, 0x0⟩,
  ⟨"CEL_MWCFG", 0x8, [(0x1, 2)], 0x28080000, 0xbffcffff, 0x0⟩,
  ⟨"CEL_MWSTAT", 0xa, [], 0x0, 0x0, 0x0⟩]

/-- The registers of CMP. -/
def regsCMP : List RegDesc := [
  ⟨"CMPm_STAT", 0x180000, [(0x20, 8)], 0x0, 0x0, 0x0⟩,
  ⟨"CMPm_CNT", 0x180004, [(0x20, 8)], 0x0, 0x0, 0x0⟩,
  ⟨"CMPm_TS_LO", 0x180008, [(0x20, 8)], 0x0, 0x0, 0x0⟩,
  ⟨"CMPm_TS_HI", 0x18000c, [(0x20, 8)], 0x0, 0x0, 0x0⟩,
  ⟨"CMP_CNT_CLR", 0x180100, [], 0x0, 0x0, 0x0⟩]

/-- The registers of ERT. -/
def regsERT : List RegDesc := [
  ⟨"ERT_DST", 0x190000, [(0x4, 76)], 0x0, 0x8000ffff, 0x0⟩,
  ⟨"ERT_AMi_A", 0x190200, [(0x8, 32)], 0x0, 0x8fffffff, 0x0⟩,
  ⟨"ERT_AMi_B", 0x190204, [(0x8, 32)], 0x0, 0x3, 0x0⟩,
  ⟨"ERT_SWPULSE", 0x190300, [], 0x0, 0x0, 0x0⟩]

/-- The registers of TMR. -/
def regsTMR : List RegDesc := [
  ⟨"TMRn_CTL", 0x160000, [(0x20, 32)], 0x0, 0xe71fffbf, 0x0⟩,
  ⟨"TMRn_CFG", 0x160004, [(0x20, 32)], 0x10000, 0xffffff70, 0x0⟩,
  ⟨"TMRn_CNT_LO", 0x160008, [(0x20, 32)], 0x0, 0xffffffff, 0x0⟩,
  ⟨"TMRn_CNT_HI", 0x16000c, [(0x20, 32)], 0x0, 0xffffffff, 0x0⟩,
  ⟨"TMRn_CMP_LO", 0x160010, [(0x20, 32)], 0x0, 0xffffffff, 0x0⟩,
  ⟨"TMRn_CMP_HI", 0x160014, [(0x20, 32)], 0x0, 0xffffffff, 0x0⟩,
  ⟨"TMRn_PER", 0x160018, [(0x20, 32)], 0x0, 0xffffffff, 0x0⟩,
  ⟨"TMRn_STAT", 0x16001c, [(0x20, 32)], 0x20000000, 0x0, 0x0⟩,
  ⟨"TMR_GCTL", 0x160400, [], 0x0, 0x0, 0x0⟩,
  ⟨"TMR_RUN", 0x160404, [], 0x0, 0x0, 0x0⟩,
  ⟨"TMR_CNT", 0x160408, [], 0x0, 0x0, 0x0⟩,
  ⟨"TMR_CNT_CLR", 0x16040c, [], 0x0, 0x0, 0x0⟩]

/-- The registers of RAK. -/
def regsRAK : List RegDesc := [
  ⟨"RKn_CTL", 0x140000, [(0x40, 16)], 0x0, 0xa0000000, 0x0⟩,
  ⟨"RKn_CFG", 0x140004, [(0x40, 16)], 0x8000, 0xfefef0ff, 0x0⟩,
  ⟨"RKn_SRC_LO", 0x140008, [(0x40, 16)], 0x0, 0xffffffff, 0x0⟩,
  ⟨"RKn_SRC_HI", 0x14000c, [(0x40, 16)], 0x0, 0xffffffff, 0x0⟩,
  ⟨"RKn_DST_LO", 0x140010, [(0x40, 16)], 0x0, 0xffffffff, 0x0⟩,
  ⟨"RKn_DST_HI", 0x140014, [(0x40, 16)], 0x0, 0xffffffff, 0x0⟩,
  ⟨"RKn_COUNT", 0x140018, [(0x40, 16)], 0x0, 0x1ffffff, 0x0⟩,
  ⟨"RKn_SPTR_LO", 0x14001c, [(0x40, 16)], 0x0, 0x0, 0x0⟩,
  ⟨"RKn_SPTR_HI", 0x140020, [(0x40, 16)], 0x0, 0x0, 0x0⟩,
  ⟨"RKn_DPTR_LO", 0x140024, [(0x40, 16)], 0x0, 0x0, 0x0⟩,
  ⟨"RKn_DPTR_HI", 0x140028, [(0x40, 16)], 0x0, 0x0, 0x0⟩,
  ⟨"RKn_REM", 0x14002c, [(0x40, 16)], 0x0, 0x0, 0x0⟩,
  ⟨"RKn_STAT", 0x140030, [(0x40, 16)], 0x0, 0x0, 0x0⟩,
  ⟨"RAK_GSTAT", 0x140400, [], 0x0, 0x0, 0x0⟩,
  ⟨"RAK_CNT_CLR", 0x140404, [], 0x0, 0x0, 0x0⟩]

/-- The registers of ICU. -/
def regsICU : List RegDesc := [
  ⟨"ICU_SRCs", 0x150000, [(0x4, 1024)], 0x0, 0xcfff0f1f, 0x0⟩,
  ⟨"ICU_ARRw", 0x151000, [(0x4, 256)], 0x0, 0x0, 0x0⟩,
  ⟨"ICU_PENDw", 0x151400, [(0x4, 32)], 0x0, 0xffffffff, 0x0⟩,
  ⟨"ICU_ACLR", 0x151480, [], 0x0, 0x3ff, 0x0⟩,
  ⟨"ICU_STAT", 0x151484, [], 0x0, 0x0, 0x0⟩,
  ⟨"ICU_CNT", 0x151488, [], 0x0, 0x0, 0x0⟩,
  ⟨"ICU_Tt_THR", 0x152000, [(0x100, 5)], 0x0, 0xf, 0x0⟩,
  ⟨"ICU_Tt_CLAIM", 0x152004, [(0x100, 5)], 0x400, 0x0, 0x0⟩,
  ⟨"ICU_Tt_COMPLETE", 0x152008, [(0x100, 5)], 0x0, 0x3ff, 0x0⟩,
  ⟨"ICU_Tt_ACT", 0x15200c, [(0x100, 5)], 0x4000, 0x0, 0x0⟩]

/-- The registers of CLK. -/
def regsCLK : List RegDesc := [
  ⟨"CLK_REF_CFG", 0x10000, [], 0x1400, 0xff01, 0x0⟩,
  ⟨"CLK_REF_SWITCH", 0x10008, [], 0x0, 0x0, 0x0⟩,
  ⟨"CLK_STAT", 0x10010, [], 0x0, 0x0, 0x0⟩,
  ⟨"CLK_CNT_CLR", 0x10014, [], 0x0, 0x0, 0x0⟩,
  ⟨"CLK_PLLp_STAT", 0x10200, [(0x80, 2)], 0x0, 0x0, 0x0⟩]

/-- The registers of PWR. -/
def regsPWR : List RegDesc := [
  ⟨"PWR_DOM_CTL", 0x20000, [], 0x0, 0x0, 0x0⟩,
  ⟨"PWR_SLEEP", 0x20008, [], 0x0, 0x0, 0x0⟩,
  ⟨"PWR_STAT", 0x2000c, [], 0x0, 0x0, 0x0⟩,
  ⟨"PWR_CNT_CLR", 0x20010, [], 0x0, 0x0, 0x0⟩,
  ⟨"PWR_DOMd_STAT", 0x20200, [(0x20, 8)], 0x0, 0x0, 0x0⟩]

/-- The registers of MGS. -/
def regsMGS : List RegDesc := [
  ⟨"MGS_STAT", 0x1a0000, [], 0x0, 0x0, 0x0⟩,
  ⟨"MGS_CTL", 0x1a0004, [], 0x0, 0x0, 0x0⟩,
  ⟨"MGS_BANK_SW", 0x1a0008, [], 0x0, 0x0, 0x0⟩,
  ⟨"MGS_FW_STAT", 0x1a0010, [], 0x0, 0x0, 0x0⟩,
  ⟨"MGS_FWREL_A", 0x1a0014, [], 0x0, 0x0, 0x0⟩,
  ⟨"MGS_FWREL_B", 0x1a0018, [], 0x0, 0x0, 0x0⟩,
  ⟨"MGS_SPARE_SWAP", 0x1a0020, [], 0x0, 0x0, 0x0⟩,
  ⟨"MGS_SPARE_CFG", 0x1a0028, [], 0x1000000f, 0xff00000f, 0x0⟩,
  ⟨"MGS_SPARE_STAT", 0x1a002c, [], 0x0, 0x0, 0x0⟩,
  ⟨"MGS_WDOG", 0x1a0030, [], 0x3e8, 0xffff, 0x0⟩,
  ⟨"MGS_LOG", 0x1a0034, [], 0x0, 0x0, 0x0⟩,
  ⟨"MGS_LOGLOST", 0x1a0038, [], 0x0, 0x0, 0x0⟩,
  ⟨"MGS_ACSTART", 0x1a003c, [], 0x0, 0x0, 0x0⟩,
  ⟨"MGS_ECC", 0x1a0040, [], 0x0, 0x0, 0x0⟩,
  ⟨"MGS_TLIM", 0x1a0044, [], 0x23001f40, 0xffffffff, 0x0⟩,
  ⟨"MGS_AGLIM", 0x1a0048, [], 0x1f4, 0xffff, 0x0⟩,
  ⟨"MGS_TSk", 0x1a0100, [(0x4, 8)], 0x0, 0x0, 0x0⟩,
  ⟨"MGS_VMv", 0x1a0200, [(0x4, 24)], 0x0, 0x0, 0x0⟩,
  ⟨"MGS_AGa", 0x1a0300, [(0x4, 36)], 0x0, 0x0, 0x0⟩,
  ⟨"MGS_VLIMv", 0x1a0280, [(0x4, 24)], 0x0, 0xffffffff, 0x0⟩]

/-- The registers of ATB. -/
def regsATB : List RegDesc := [
  ⟨"ATB_SEL", 0x1c0000, [(0x4, 2)], 0x0, 0xc00003ff, 0x0⟩,
  ⟨"ATB_STAT", 0x1c0008, [], 0x0, 0x0, 0x0⟩]

/-- The registers of DBG. -/
def regsDBG : List RegDesc := [
  ⟨"DBG_CTL", 0x1d0000, [], 0x0, 0x1, 0x0⟩,
  ⟨"DBG_DIRECT", 0x1d0008, [], 0x0, 0x0, 0x0⟩,
  ⟨"DBG_STAT", 0x1d0010, [], 0x0, 0x0, 0x0⟩,
  ⟨"DBG_PRBS_CTL", 0x1d0020, [], 0x40000000, 0xf000003f, 0x0⟩,
  ⟨"DBG_PRBS_STAT", 0x1d0024, [], 0x0, 0x0, 0x0⟩]

end Sys2Proof.Machine
end

