-- ==== Sys2Proof/Machine/State.lean ====
section
/-! DEFINITION. The state of the BVX9512 as plain data: the queue of waiting commands, and the device. Registers live in
one sparse store keyed by canonical BAR0 offset (R33, R40); state the spec gives the device beside its registers
stands in one structure per block. State.reset is the device right after all resets are released. -/

namespace Sys2Proof.Machine

/-- A finite map with a default: strictly rising keys, no entry equal to the default of its key. -/
abbrev SMap (α : Type) := List (Nat × α)

/-! ### Register model (R59, R69) -/

/-- An open cork (R59): value word written, complement awaited. -/
structure Cork where
  addr : Nat
  req : Nat
  value : Nat
  opened : Nat
deriving DecidableEq, Repr

/-- A fault cause that is present: block (numbered as ICU sources 0-24), code, number of the unit, severity (R71, R538). -/
structure Cause where
  blk : Nat
  code : Nat
  inst : Nat
  sev : Nat
deriving DecidableEq, Repr

/-- A fault cause that has arisen and has no level of its own (R69): present until its record is closed, or, where its
fault table calls it momentary, in FAB cycle `only` alone. -/
structure Kept where
  blk : Nat
  code : Nat
  only : Option Nat
deriving DecidableEq, Repr

/-- What the device sends to the host as bus master, and over CAN FD (R375, R383, R395, R412, R463). -/
inductive HostOut where
  | write (addr : Nat) (words : List Nat)
  | bytes (addr : Nat) (data : List Nat)
  | msix (vector : Nat) (addr : Nat) (data : Nat)
  | can (port : Nat) (xtd : Bool) (id : Nat) (brs : Bool) (words : List Nat)
deriving DecidableEq, Repr

/-- A debug or bus read result returned to the requester of the last access. -/
structure BusRes where
  req : Nat
  data : Nat
deriving DecidableEq, Repr

/-! ### ICU, timers, racking engine -/

/-- ICU state beside its registers: arrivals counted toward coalescing, with the
FAB cycle of the first (R475), asserted level sources (R476), sources
in service as (target, source, priority) (R478), arrivals while in service (R479), GPIO pins whose level is taken as
one, and those that hold another level, with the FAB cycle since which: pin p at the ICU is p (R474), at the timers
64 + p (R451). -/
structure Icu where
  coal : SMap (Nat × Nat)
  level : List Nat
  srv : List (Nat × Nat × Nat)
  again : SMap Nat
  pins : List Nat
  hold : List (Nat × Nat)
deriving DecidableEq, Repr

/-- One timer (R448-R459). `inq` holds inputs that wait to be fed one per FAB cycle (R452), `since` is
the FAB cycle in which EN was set, and `load` a load of the counter refused while the timer ran: its FAB cycle, its value, and
whether TMR_CNT.WRREF counted it (R460). -/
structure Tmr where
  cnt : Nat
  cmp : Nat
  acc : Nat
  run : Bool
  wait : Bool
  mout : Bool
  inq : Nat
  since : Nat
  load : Option (Nat × Nat × Bool)
deriving DecidableEq, Repr

/-- Racking engine (R461-R471): running channel, request queue, channels that have begun a transfer since EN was set, the FAB
cycle in which each queued request came, and the one up to which the running transfer has moved its elements. -/
structure Rak where
  running : Option Nat
  queue : List Nat
  begun : List Nat
  came : SMap Nat
  movedAt : Nat
deriving DecidableEq, Repr

/-! ### Host interface -/

/-- A completion entry (R382), with the output buffer of its command and its host address. -/
structure Cpl where
  res0 : Nat
  res1 : Nat
  sqhd : Nat
  sq : Nat
  cid : Nat
  dup : Bool
  status : Nat
  daddr : Nat
  data : List Nat
deriving DecidableEq, Repr

/-- A replay record (R387), under a number of its own. -/
structure Rec where
  no : Nat
  seq : Nat
  op : Nat
  cid : Nat
  cpl : Option (Nat × Nat × Nat)
deriving DecidableEq, Repr

/-- How the command core classified a fetched entry (R387), and what it will do with it. -/
inductive EntCls where
  | run
  | dup
  | status (code : Nat)
deriving DecidableEq, Repr

/-- A fetched entry that waits for its command core: its words (R381), and the number of the record it made or, a duplicate,
of the record it repeats (R387). -/
structure Ent where
  seq : Nat
  op : Nat
  cid : Nat
  nocpl : Bool
  cask : Option Nat
  idx : Nat
  cls : EntCls
  words : List Nat
  rec_ : Option Nat
deriving DecidableEq, Repr

/-- A source of commands: an SQ, or a CAN FD port (R376, R413): ring, replay window (R387), entries fetched and not yet
started, and an entry whose allocation failed (R379). `made` counts the records made, `flight` the fetches that are outstanding
while the PCIe domain drains (R508). -/
structure Sq where
  base : Nat
  size : Nat
  cq : Nat
  owner : Nat
  prio : Nat
  core : Bool
  win : Nat
  head : Nat
  tail : Nat
  last : Option Nat
  recs : List Rec
  ents : List Ent
  stuck : Option (List Nat)
  stuckAt : Nat
  made : Nat
  flight : Nat
deriving DecidableEq, Repr

/-- A completion ring (R376, R384, R385). `wait` holds completions not yet written; a ring that is deleted while some wait is
`closing` until they are written. -/
structure Cq where
  base : Nat
  size : Nat
  vec : Nat
  cthr : Nat
  ctime : Nat
  head : Nat
  tail : Nat
  phase : Bool
  unsig : Nat
  wait : List Cpl
  since : Nat
  fullAt : Nat
  closing : Bool
deriving DecidableEq, Repr

/-- A stream (R394-R397): words of records not yet flushed, and where they start. -/
structure Stm where
  wp : Nat
  rp : Nat
  flushed : Nat
  chunk : List Nat
  since : Nat
deriving DecidableEq, Repr

/-- A CAN FD port (R410-R414): frames that wait to be sent, the bytes staged and the casks of the staging
buffer. -/
structure Can where
  cmd : Sq
  tx : List (List Nat)
  stage : Nat
  stageCasks : List Nat
deriving DecidableEq, Repr

/-- What the host sets in PCI Express configuration space (R373, R374): D3hot, ASPM L1 enabled, codes of Max_Payload_Size,
Max_Read_Request_Size and the Completion Timeout value, the uncorrectable error status of Advanced Error Reporting, and the
two BARs. -/
structure Pcie where
  d3hot : Bool
  aspm : Bool
  mps : Nat
  mrrs : Nat
  cto : Nat
  aer : Nat
  bar0 : Nat
  bar2 : Nat
deriving DecidableEq, Repr

structure Hif where
  sqs : SMap Sq
  cqs : SMap Cq
  stm : SMap Stm
  can : SMap Can
  turn : SMap Nat
  pcie : Pcie
deriving DecidableEq, Repr

/-! ### Queue manager -/

/-- A cask that is not FREE: HELD or QUEUED with an owner tag (R399). -/
structure Cask where
  queued : Bool
  tag : Nat
deriving DecidableEq, Repr

/-- Queue manager (R399-R409). -/
structure Qmg where
  casks : SMap Cask
  queues : SMap (List Nat)
  qcfg : SMap Word
  ocfg : SMap Word
deriving DecidableEq, Repr

/-! ### Management, Cellar, resets -/

/-- What management holds beside its registers. Boot: the bank before a trial boot (R500), whether steps 4 and 5 of the
boot are done (R487), whether a rollback waits to be reported (R501). Spare map (R502, R503): retired engines, engine of
each logical number moved, replaced cask rows and MRAM sectors with their spares, spare rows used or retired, PLLA replaced,
PLLB retired by its self-test. SYSTEM reset held for a PLL. Corrected errors of each row and sector; times (FAB cycles) of the last unlock of PLLA; temperature samples in a row
above TCRIT, thermal shutdown (R492); voltage samples in a row out of limits (R493); a logical engine under a second
check with the spare of the first (R502). Bytes of the stored image (R498); running application cores and their start
addresses; start (FAB cycles) of each domain's drain (R506),
the FAB cycles of the last kick of the watchdog (R491) and of the last boot (R501), worn engines that wait to be moved (R502),
and whether a sleep waits for its drains (R510). -/
structure Mgs where
  prevBank : Bool
  running : Bool
  rolled : Bool
  retPe : List Nat
  peMap : SMap Nat
  rowMap : List (Nat × Nat)
  secMap : List (Nat × Nat)
  rowGone : List Nat
  usedPll : Bool
  pllBad : Bool
  pllHold : Bool
  rowCe : SMap Nat
  secCe : SMap Nat
  unlock : Option Nat
  hot : SMap Nat
  shutdown : Bool
  vRun : SMap Nat
  suspect : Option (Nat × Nat)
  imgLen : Nat
  acRun : Nat
  acStart : SMap Nat
  drain : SMap Nat
  kickAt : Nat
  bootAt : Nat
  moves : List Nat
  sleeping : Bool
deriving DecidableEq, Repr

/-- An indirect Cellar access in progress (R66). -/
inductive IndAcc where
  | read
  | write (data : Word)
deriving DecidableEq, Repr

/-- One comparator (R443, R444): SLOW edges since its last sample, that sample, the debounced level, and the consecutive samples
of the other level. -/
structure CmpS where
  edges : Nat
  raw : Bool
  level : Bool
  run : Nat
deriving DecidableEq, Repr

/-- Cellar state beside its words: the indirect access, the last completed read (R66); per movement watch the level
changes counted plus 1, 0 before its first sample (R515); wake sources held, SLOW edges since CORE_EN fell, whether
the present SLOW period is the one in which the wake began (R512), the FAB cycle of the last refresh (R68), the voltages of the
inputs CIN0-CIN7 in mV and the comparators (R443). -/
structure Clr where
  ind : Option IndAcc
  lastRead : Word
  mwRun : SMap Nat
  held : Word
  low : Nat
  same : Bool
  refAt : Option Nat
  cin : SMap Nat
  cmp : SMap CmpS
deriving DecidableEq, Repr

/-- Test access (R529, R530): the instruction in force, status, offset and data of the last DBGACC access, and what the update
stage of the boundary-scan register holds. -/
structure Dbg where
  ir : Nat
  status : Nat
  off : Nat
  data : Nat
  bsr : Nat
deriving DecidableEq, Repr

/-- Which resets are asserted. -/
structure Rst where
  vbat : Bool
  sys : Bool
  core : Bool
  perst : Bool
deriving DecidableEq, Repr

/-- Clock selector (R28) beside CLK_STAT: no reference is in lock, so that the lanes are silent (R29, R368), and the FAB
cycle at which the present hold-off began. -/
structure Clk where
  hold : Bool
  waitAt : Nat
deriving DecidableEq, Repr


/-! ### Sensor inputs and trackers -/

/-- One SNS input (R76-R81, R537): PEAK_prev in mV, peaks of the last armed lobes (newest first), stamp of the last
delivered edge and the period before it, the stamp of the last filtered rise, and the register values still in force
when a write waits for the next delivered edge. -/
structure Sns where
  peak : Nat
  hist : List Nat
  last : Option Nat
  period : Option Nat
  rise : Option Nat
  eff : Option (Word × Word)
deriving DecidableEq, Repr

/-- An edge a sensor input delivered (R80, R82), with the levels of the QUAD and phase inputs at that edge. -/
structure Edge where
  stamp : Nat
  quad : Bool
  phase : Bool
deriving DecidableEq, Repr

/-- Kind of a tooth record (R93). -/
inductive RecKind where
  | real
  | synth
  | phase
deriving DecidableEq, Repr

/-- A tooth record (R93): stamp, absolute angle (cycle count and position), span in 2^-16 slot, direction, kind; `bnd` is
the absolute slot boundary of the record (the last one at or before its angle for a phase step), `first` marks the
first record after entry into a position-known state, `fbret` the first tooth after a return from FALLBACK (R152). -/
structure ToothRec where
  stamp : Nat
  lin : Int
  bnd : Int
  span : Nat
  rev : Bool
  kind : RecKind
  dchg : Bool
  first : Bool
  fbret : Bool
deriving DecidableEq, Repr

/-- A swap that waits for its boundary (R52): vintage, boundary as an absolute angle, direction and FAB cycle of the
strobe. -/
structure PendSwap where
  vint : Nat
  bound : Int
  rev : Bool
  at_ : Nat
deriving DecidableEq, Repr

/-- One tracker beside its registers (R84-R123). Edges that wait: primary, phase, and primary edges whose pulse is still
measured (R108). The latched wheel copy; stamp of the last accepted tooth and of the last edge that defers a stall; Pn;
boundary, absolute angle and direction of the last record; absolute angle of the last real tooth. Gap detector (R92):
last edge, interval before it, candidate interval, its boundary and the phase edges counted by then. Phase count (R94);
quick start: angle of the first edge, and whether the second is awaited (R106). Phase window awaited (R96, R113, R114),
whether the cycle so far is clean and whole, misses in FALLBACK. Background check (R116). Cycle count memory (R99), stop
record that waits (R103), table write that waits for a relatch (R122), records that wait, swap that waits. Encoder:
count since the index, no error since the last count (R120). `fresh`: the next record is the first in a position-known state (R152). -/
structure Trk where
  priQ : List Edge
  phQ : List Edge
  pwQ : List Edge
  wheel : List Word
  lastT : Nat
  act : Nat
  pn : Nat
  bnd : Int
  lin : Int
  real : Int
  rev : Bool
  known : Bool
  skip : Bool
  wLast : Option Nat
  wPrev : Option Nat
  cand : Option Nat
  candBnd : Int
  candCnt : Nat
  phCnt : Nat
  undecided : Nat
  qsFrom : Int
  qsFirst : Bool
  phRun : Nat
  phNext : Option Int
  clean : Bool
  whole : Bool
  miss : Nat
  missCyc : Int
  bgOn : Bool
  bgBnd : Int
  bgT : Nat
  bgPn : Nat
  bgClean : Nat
  everSync : Bool
  lastCyc : Int
  stop : Option (Word × Word)
  relatch : Bool
  recs : List ToothRec
  pend : Option PendSwap
  encC : Option Int
  encRun : Bool
  fresh : Bool
deriving DecidableEq, Repr

/-- Prediction state of one tracker (R131): B, B0 and D in 1/256 tick per slot, `bref` the absolute slot boundary of
the reference record (p_ref and c_ref are its residues), `lref` its absolute angle; `upd` counts the intervals of
cycle `updCyc` that updated the map (R147), `skip` the interval after a DIR_CHANGE (R152), `ok` that a reference is set, `live` that an engine took the last record
(R126). -/
structure Prd where
  ok : Bool
  tref : Nat
  bref : Int
  lref : Int
  fref : Int
  ssPrev : Nat
  b : Nat
  b0 : Int
  dd : Int
  nint : Nat
  upd : Nat
  updCyc : Int
  skip : Bool
  rev : Bool
  nrec : Nat
  live : Bool
deriving DecidableEq, Repr

/-- What a prediction answers (R138-R140): a time in eighths of a tick, NOPRED, or BEHIND. -/
inductive PredRes where
  | time (t8 : Int)
  | nopred
  | behind
deriving DecidableEq, Repr

/-- A running query (R153): tracker, result from the state at START, records seen by then. -/
structure Qry where
  trk : Nat
  res : PredRes
  bad : Bool
  nrec : Nat
deriving DecidableEq, Repr


/-! ### Scheduler and Press -/

/-- An armed head (R165-R167): bank, index, chain of descriptor indices (head first), anchor angle at preparation. -/
structure Head where
  bank : Bool
  idx : Nat
  chain : List Nat
  anchor : Nat
deriving DecidableEq, Repr

/-- One pulse of a committed occurrence. Times in eighths of a tick (R15); `ofs` and `dur` place a chained pulse and a
timed end; `prev` is the pulse committed before it on its channel, and its end at that moment (R196); `cwin` is the closing
window length of its profile as committed, µs (R288, R299). -/
structure OPulse where
  pidx : Nat
  idx : Nat
  ch : Nat
  prf : Nat
  ofs : Int
  dur : Option Nat
  comp : Int
  clen : Bool
  cslot : Nat
  ctgt : Nat
  tag : Nat
  start : Int
  stop : Int
  sentS : Int
  sentE : Int
  prev : Option (Nat × Nat × Int)
  status : Option Nat
  cwin : Nat
deriving DecidableEq, Repr

/-- A committed occurrence (R180): its number, tracker, descriptor, vintage, direction, absolute anchor and end anchor,
engine, handle on each link, amend number, freeze flags. `force` marks a force-on pulse (R325), `once` a head that was
ONCE when the occurrence was built (R169); `cyc` is the cycle count of its anchor (R203), and `stays` says that its
descriptor has kept its index at every swap since it was built (R201). -/
structure Occ where
  uid : Nat
  trk : Nat
  bank : Bool
  idx : Nat
  vint : Nat
  rev : Bool
  anchor : Int
  endA : Option Int
  eng : Nat
  handles : List (Nat × Nat)
  aver : Nat
  frozen : Bool
  endFrozen : Bool
  clamped : Bool
  force : Bool
  once : Bool
  cyc : Int
  stays : Bool
  pulses : List OPulse
deriving DecidableEq, Repr

/-- What the scheduler remembers of the ONCE heads of one preparation (R169, R170): spent ones, the cycle each is admitted
in, and the number of the first occurrence that can have been built from it. -/
structure Ones where
  spent : List Nat
  cyc : List (Nat × Int)
  since : Nat
deriving DecidableEq, Repr

/-- Scheduler state of one tracker: live and incoming armed heads, preparation running, last handled anchor of each
descriptor index (R168, R201), ONCE heads of the live and the incoming preparation, first start obtained of occurrences
not committed, by index and anchor (R203), least and greatest anchor committed (R52), the boundary of a swap in reverse,
whose own anchors belong to the vintage that went out (R200), and whether an evaluation waits for the end of a
preparation (R165). -/
structure SchT where
  armed : List Head
  armedIn : List Head
  prep : Bool
  prepIn : Bool
  handled : List (Nat × Int)
  ones : Ones
  onesIn : Ones
  firsts : List (Nat × Int × Int)
  reach : Option (Int × Int)
  edge : Option Int
  want : Bool
deriving DecidableEq, Repr

/-- Work that follows a tooth record (R128, R197): the refresh of a committed occurrence by an engine, or the evaluation of
a candidate. -/
inductive Job where
  | refresh (eng uid : Nat)
  | scan (head : Head) (anchor : Int)
deriving DecidableEq, Repr

/-- A job of a tracker: FAB cycles of its end and of its record, and the FAB cycle in which it may come at the earliest
(R176). -/
structure Work where
  due : Nat
  at_ : Nat
  from_ : Nat
  trk : Nat
  job : Job
deriving DecidableEq, Repr

/-- What a spare engine shadows a logical engine for (R157, R159, R502): a swap, a background check, the second check after a
mismatch that the spare named found. -/
inductive ShadowUse where
  | swap
  | check
  | second (first : Nat)
deriving DecidableEq, Repr

/-- A spare shadows a logical engine (R157): tooth records seen since it began (0-2), and whether a result differs. -/
structure Shadow where
  log : Nat
  spare : Nat
  use : ShadowUse
  seen : Nat
  bad : Bool
deriving DecidableEq, Repr

/-- The scheduler: per tracker, committed occurrences oldest first, owner of each channel (tracker + 1), the last
committed pulse of each channel with its end, next occurrence number, work in order of its end, the FAB cycle at which
the evaluation stage is free (R197), shadowings of prediction engines, the logical engine whose background check comes
next, and the FAB cycle in which the last one began (R159). -/
structure Sch where
  trk : SMap SchT
  occs : List Occ
  owner : SMap Nat
  lastEnd : SMap (Option (Nat × Nat × Int))
  uid : Nat
  work : List Work
  scanAt : Nat
  shadows : List Shadow
  chk : Nat
  chkAt : Nat
deriving DecidableEq, Repr

/-- A decision held for a stroke position (R226). -/
structure Dec where
  abs : Int
  rev : Bool
  work : Bool
  reason : Nat
deriving DecidableEq, Repr

/-- Press state of one machine (R218, R226): LFSR, history, counters; held decisions (current, previous) by stroke
position; stroke positions whose decision angle has been passed and waits for its decision, in order of passing, each
with absolute angle, direction and instant (FAB cycles); a pending RESET; whether the configuration is refused; the
absolute angle up to which angles have been passed; whether a swap has dropped the time compares until the next
record (R210); and the FAB cycle in which inputs of its decisions were last written, with what they held before (R212). -/
structure Prs where
  lfsr : Nat
  hist : Nat
  hcnt : Nat
  cw : Nat
  ci : Nat
  cur : SMap (Option Dec)
  prev : SMap (Option Dec)
  queue : List (Nat × Int × Bool × Nat)
  reset : Bool
  bad : Bool
  upTo : Option Int
  stale : Bool
  wrote : Option (Nat × List Word)
deriving DecidableEq, Repr

/-! ### Trellis links and tiles -/

/-- A character of a lane (R237, R238): data, or special. -/
inductive Chr where
  | d (byte : Nat)
  | k (byte : Nat)
deriving DecidableEq, Repr

/-- A frame sent down a link (R240, R243): position, type, SEQ, payload words; `key` is the earliest time it carries in
link units (R246), `uid` and `pm` name the occurrence and pulses, `issued` the device time of issue, `retr` the
retransmissions made. -/
structure DFrame where
  pos : Nat
  typ : Nat
  seq : Nat
  words : List Nat
  key : Int
  uid : Nat
  pm : Nat
  issued : Nat
  retr : Nat
deriving DecidableEq, Repr

/-- What TLK keeps of one position beside its registers: SEQ, unacknowledged frames (16 at most, R249), frames that
wait, profiles whose PRFSET is not acknowledged (R295), the last echoes (RTT - TT - RES), echoes left of a burst, the
step of R270, spare training reported, the COMMITs already repeated after BADPRF (R251), the temperature last
reported in STATUS, the directions of the hop that run without a spare (R281), and the code violations reported on the
hop down and up in the present span of 1 ms (R278). -/
structure LPos where
  nextSeq : Nat
  unack : List DFrame
  wait : List DFrame
  prfs : List Nat
  echo : List Int
  left : Nat
  etag : Nat
  stage : Nat
  rst : Bool
  sokD : Bool
  sokU : Bool
  again : List Nat
  temp : Option Nat
  failD : Bool
  failU : Bool
  cvD : Nat
  cvU : Nat
deriving DecidableEq, Repr

/-- Characters in a row on a lane, and the time of the first (R232), in thirds of a FAB cycle. -/
structure Sent where
  at_ : Nat
  chars : List Chr
deriving DecidableEq, Repr

/-- What a transmitter has put on a lane (R232, R237, R238): the end of the last characters, characters since the last IDLE
ordered set, running disparity there, and all characters other than the IDLE ordered sets between them. Of the two lanes of a hop direction one record is kept as the
working lane's, one as the spare's, whichever of the two is which. -/
structure Lane where
  free : Nat
  run : Nat
  disp : Bool
  line : List Sent
deriving DecidableEq, Repr

/-- One link: frames on their way down and the start of the first, in thirds of a FAB cycle; the working and the spare lane
of hop 0 down (R276), and swaps that wait for the end of a frame (R277); positions, handle counter; the TIL access: whether
a write, its position, number and ADDR (R284); spare training and skew of hop 0 up in 1/16 UI (R276), and the swaps of hop 0
down the device has planned (R277). -/
structure Link where
  tx : List DFrame
  since : Nat
  wk : Lane
  sp : Lane
  due : Nat
  pos : SMap LPos
  handle : Nat
  tilWr : Bool
  tilPos : Nat
  tilId : Nat
  tilAddr : Nat
  sok0U : Bool
  skew0U : Int
  swaps : Nat
deriving DecidableEq, Repr

/-- A frame a tile sends up (R244), with the position of the tile it comes from (R240). -/
structure UFrame where
  typ : Nat
  words : List Nat
  pos : Nat
deriving DecidableEq, Repr

/-- A frame that waits for an up lane (R282): the tile's own or forwarded, and the time (thirds of a FAB cycle) at which it
became ready or its SOF arrived. -/
structure UItem where
  frame : UFrame
  own : Bool
  at_ : Nat
deriving DecidableEq, Repr

/-- The up lane of a tile side (R282): frames that wait, the working lane and the spare, for each class whether its last
frame was the tile's own, and at position 0 the frames that have left for the device. -/
structure UpLane where
  wait : List UItem
  wk : Lane
  sp : Lane
  own : SMap Bool
  out : List UFrame
deriving DecidableEq, Repr

/-- A stored pulse of a tile side (R260): times in link units, the profile record copied at the COMMIT. -/
structure TPulse where
  handle : Nat
  pidx : Nat
  out : Nat
  prf : Nat
  clen : Bool
  start : Int
  stop : Int
  rcd : List Nat
deriving DecidableEq, Repr

/-- One side of a tile (R235): state (R268), position, side bit, downstream port, mirroring; a partner on the downstream
port (R274), upstream lock, which gates what leaves downstream (R362), freshness (R355); stored acknowledgement results as (SEQ, RESULT, PMASK) (R250);
stored pulses; amend numbers; frames up; the offset of the time copy from device time in 1/16 UI; TSTEP and WDROP of
R244; the profile copies; a yield armed (R361), in link time; lanes on their spare and spares trained (R244), with the
skew measured in 1/16 UI (R276, R277); code violations since the last STATUS (R244); the up lane; swaps commanded of the down lane of the next hop and of the
up lane (R277), those of the former that wait for the end of a frame, and the working and spare lane of the
downstream port (R234, R276). -/
structure TSide where
  st : Nat
  pos : Nat
  sd : Bool
  dsopen : Bool
  mirror : Bool
  dsPres : Bool
  locked : Bool
  fresh : Bool
  seqs : List (Nat × Nat × Nat)
  pulses : List TPulse
  avers : SMap Nat
  up : List UFrame
  off : Int
  tstep : Bool
  wdrop : Nat
  profs : SMap (List Nat)
  yieldAt : Option Int
  spD : Bool
  spU : Bool
  sokD : Bool
  sokU : Bool
  skewD : Int
  skewU : Int
  cv0 : Nat
  cv1 : Nat
  lane : UpLane
  swDn : Nat
  swUp : Nat
  dueDn : Nat
  dn : Lane
  dsp : Lane
deriving DecidableEq, Repr

/-- Phases of a drive (R289). -/
inductive Phase where
  | boost
  | peak
  | dec1
  | hold1
  | dec2
  | hold2
  | off
deriving DecidableEq, Repr

/-- What an output's switch connects the coil to (R289, R290): the boost rail, the tile supply, slow freewheel, or the
clamp for fast decay. -/
inductive Source where
  | boost
  | supply
  | free
  | clamp
deriving DecidableEq, Repr

/-- A pulse an output drives (R289): side and pulse, the shadow matched on the other side (R363), phase and the time it
was entered, actual start and end (link units), hold scale, what the switch connects and when it was switched off (R290),
the greatest current seen (16 mA), DONE status, whether the open-load check has been made (R315), and whether the current
has come down to 0 in phase F while the closing window goes on (R299). -/
structure Drive where
  side : Bool
  p : TPulse
  shadow : Option TPulse
  phase : Phase
  since : Int
  start : Int
  stop : Option Int
  hscl : Nat
  src : Source
  swOff : Int
  ipk : Nat
  status : Nat
  judged : Bool
  zero : Bool
deriving DecidableEq, Repr

/-- A closing window in progress (R299): the side whose pulse it follows, the handles on side A and side B (0 where none),
electrical end and end of the window in link units, kind of the samples. -/
structure CWin where
  side : Bool
  hA : Nat
  hB : Nat
  start : Int
  stop : Int
  kind : Nat
deriving DecidableEq, Repr

/-- One output: drive, window, the time (ticks) since which it is free of both, load causes reported (DIAG codes),
off-state test pending and the time it began (R318), frame count. -/
structure TOut where
  drv : Option Drive
  win : Option CWin
  quiet : Int
  causes : List Nat
  offPend : Bool
  offRun : Option Int
  wseq : Nat
deriving DecidableEq, Repr

/-- One tile: its sides, outputs, registers (tile word address; link registers of side B at + 0x10000), boost rail and
V_ref with the time it was set (50 mV units, ticks), readiness last reported, BOOST_FAULT present and the converter stopped
by it (R298), inhibit input and latch, the time since which the input is inactive (ticks), execution lease (R355; false side A), temperature (°C + 64),
over-temperature reported, and when DUP_MISMATCH was last sent (R365). -/
structure Tile where
  a : TSide
  b : TSide
  outs : SMap TOut
  regs : SMap Word
  rail : Nat
  vref : Nat
  vrefAt : Int
  ready : Bool
  bflt : Bool
  stopped : Bool
  inhp : Bool
  inhl : Bool
  quiet : Int
  lease : Option Bool
  temp : Nat
  hot : Bool
  misAt : Option Int
deriving DecidableEq, Repr

/-! ### Current shaping and closing -/

/-- A closing window as CDT collects it (R299-R302): handle, pulse with its position in the chain and its start, electrical
end in eighths of a tick, samples oldest first, whether a frame has come, loss seen, and the DONE status once it has
arrived. -/
structure CdtWin where
  handle : Nat
  uid : Nat
  pidx : Nat
  start : Int
  trk : Nat
  anchor : Int
  rev : Bool
  cslot : Nat
  ctgt : Nat
  vint : Nat
  tag : Nat
  t0 : Int
  samples : List Int
  begun : Bool
  gap : Bool
  done : Option Nat
deriving DecidableEq, Repr

/-- CDT state of one channel: windows not yet posted, oldest first, pulses (occurrence and position) whose start has been
reached (R305), the WSEQ of the output's last frame (R244, R301), hold scale last sent and when (R313), cycles since the last
off-state test (R317). -/
structure CdtCh where
  wins : List CdtWin
  begun : List (Nat × Nat)
  wseq : Option Nat
  sentH : Nat
  sentT : Option Nat
  cyc : Nat
deriving DecidableEq, Repr

/-! ### Duplex -/

/-- What a tracker holds until its snapshot is complete (R352): the snapshot begun, its cycle count and chunks; the last TOOTH
frames, oldest first, not taken yet; and the cycle count of the last record before them. -/
structure Snap where
  part : Option (Nat × List (Nat × List Nat))
  held : List MirTooth
  prev : Option Int
deriving DecidableEq, Repr

/-- MIR state beside its registers: frames sent, what either send lane carries (R333), SEQ sent and received, the last 128 SEQs
taken, by which copies are known (R333), echoes, own digests awaiting the partner's and the partner's awaiting ours (tracker,
cycle, CRC), runs of matches and mismatches, snapshots, last HELLO; the takeover that is pending: whether this device gives,
none while its own request is unanswered, and TAT (R370, R371); whether time has been within 4 ns for 1 ms, the tracker state
last mirrored (state code + 8 where ARM_OK), the device time at which the pair state was entered, trackers whose next
mirrored record is the first in a position-known state (R152), and trackers whose next own record is the first after
following (R350). -/
structure Mir where
  out : List (List Nat)
  lane : Lane
  tx : Nat
  rx : Option Nat
  seen : List Nat
  echo : List Int
  etag : Nat
  own : List (Nat × Int × Nat)
  theirs : List (Nat × Int × Nat)
  okRun : SMap Nat
  misRun : SMap Nat
  snaps : SMap Snap
  applied : List Nat
  hello : Option MirHello
  tk : Option (Option Bool × Nat)
  held : Bool
  tst : SMap Nat
  since : Nat
  first : List Nat
  back : List Nat
deriving DecidableEq, Repr



/-! ### Measurement (R416-R447) -/

/-- A conversion trigger (R424, R425): kind (0 angle entry, 1 router, 2 software), entry and its angle, first sequence
entry and the number of entries left. -/
structure AdcTrig where
  kind : Nat
  entry : Nat
  ang : Nat
  first : Nat
  left : Nat
deriving DecidableEq, Repr

/-- One converter (R424, R428): the sequence that runs, the triggers that wait for it, oldest first, the input that
is being converted, the FAB cycle in which its conversion began, and its added sampling. -/
structure Adc where
  run : Option AdcTrig
  wait : List AdcTrig
  cur : Nat
  at_ : Nat
  smp : Nat
deriving DecidableEq, Repr

/-- One encoder interface (R434-R441): interpolated position, whether a sample has been taken, the stamp of the last
change in the present direction. -/
structure Enc where
  pos : Int
  seen : Bool
  last : Option Nat
deriving DecidableEq, Repr

/-- A contribution window of one cycle (R420): window, centre boundary, slots each side, whether its size or place makes it
invalid, and its result as validity, index, TPRE and TPOST once it is evaluated. -/
structure CiWin where
  j : Nat
  b0 : Int
  ns : Nat
  bad : Bool
  res : Option (Bool × Int × Nat × Nat)
deriving DecidableEq, Repr

/-- The windows of one cycle with the threshold in force when it began (R421, R422). -/
structure CiCyc where
  cyc : Int
  thr : Nat
  wins : List CiWin
deriving DecidableEq, Repr

/-- The tooth log of one tracker: number of the next record in its cycle, stamp of the last record, recent records as
(boundary, stamp, usable, a real tooth), cycles whose windows are not all evaluated, and the last cycle whose windows were
opened (R416-R421). -/
structure TLog where
  num : Nat
  last : Option Nat
  hist : List (Int × Nat × Bool × Bool)
  cycs : List CiCyc
  opened : Option Int
deriving DecidableEq, Repr

/-- What an angle entry of the converters or the router has been compared up to, the absolute angles at which it has fired
(R426), and the fields in force (R427, R447). -/
structure AMark where
  upTo : Option Int
  a : Word
  b : Word
  fired : List Int
deriving DecidableEq, Repr


/-! ### The device -/

/-- Everything of the device but the queue of waiting commands. -/
structure Dev where
  now : Nat
  fab : Nat
  draw : Nat
  reg : SMap Word
  shd : SMap Word
  preq : SMap Word
  cel : SMap Word
  corks : List Cork
  causes : List Cause
  fltNew : List (Nat × Nat)
  kept : List Kept
  mem : List Host.Cell
  cmem : List Host.Cell
  mram : List Host.Cell
  out : List HostOut
  bus : BusRes
  rst : Rst
  clk : Clk
  icu : Icu
  tmr : SMap Tmr
  tmrEv : List Nat
  rak : Rak
  hif : Hif
  qmg : Qmg
  mgs : Mgs
  logq : List (List Nat)
  clr : Clr
  dbg : Dbg
  sns : SMap Sns
  trk : SMap Trk
  prd : SMap Prd
  qry : SMap Qry
  sch : Sch
  prs : SMap Prs
  lnk : SMap Link
  tile : SMap Tile
  cdt : SMap CdtCh
  mir : Mir
  adc : SMap Adc
  enc : SMap Enc
  tlog : SMap TLog
  amark : SMap AMark
  ertDiv : SMap Nat
deriving DecidableEq, Repr

/-- The machine: the commands that wait, first in first out, and the device. -/
structure State where
  pending : List Instr
  dev : Dev
deriving DecidableEq, Repr

/-- No command faults: the block has no exception entry, and every command of the table has an effect (NOTES.md, Stops). -/
inductive Fault where
  /-- Raised by no command. Safe: it never occurs. -/
  | none_raised
deriving DecidableEq, Repr

/-- Why a command has no meaning in the model. -/
inductive Refusal where
  /-- Raised by an arm of exec whose command is not modelled yet, with the mnemonic of its row. Safe: the machine stops. -/
  | notModelled (mnemonic : String)
deriving DecidableEq, Repr


/-! ### Reset -/

/-- Configuration space after a reset: PRESUMED, the values of the PCI Express Base Specification (notes/assumptions/113.md). -/
def pcie0 : Pcie := ⟨false, false, 0, 2, 0, 0, 0, 0⟩

def hif0 : Hif := ⟨[], [], [], [], [], pcie0⟩
def qmg0 : Qmg := ⟨[], [], [], []⟩
def icu0 : Icu := ⟨[], [], [], [], [], []⟩
def rak0 : Rak := ⟨none, [], [], [], 0⟩
def mgs0 : Mgs :=
  ⟨false, false, false, [], [], [], [], [], false, false, false, [], [], none, [], false, [], none, 0, 0, [], [], 0, 0, [], false⟩
def sch0 : Sch := ⟨[], [], [], [], 1, [], 0, [], 0, 0⟩
def clr0 : Clr := ⟨none, 0, [], 0, 0, false, none, [], []⟩
def mir0 : Mir := ⟨[], ⟨0, 0, false, []⟩, 0, none, [], [], 0, [], [], [], [], [], [], none, none, false, [], 0, [], []⟩
def dbg0 : Dbg := ⟨1, 0, 0, 0, 0⟩

/-- The device right after reset: every reset domain has been asserted and released, MG has booted without a stored
image, device time is 0 (R13, R482, R487; notes/assumptions/1.md). Every register holds its reset value. -/
def dev0 : Dev where
  now := 0
  fab := 0
  draw := 0
  reg := []
  shd := []
  preq := []
  cel := []
  corks := []
  causes := []
  fltNew := []
  kept := []
  mem := []
  cmem := []
  mram := []
  out := []
  bus := ⟨0, 0⟩
  rst := ⟨false, false, false, false⟩
  clk := ⟨false, 0⟩
  icu := icu0
  tmr := []
  tmrEv := []
  rak := rak0
  hif := hif0
  qmg := qmg0
  mgs := mgs0
  logq := []
  clr := clr0
  dbg := dbg0
  sns := []
  trk := []
  prd := []
  qry := []
  sch := sch0
  prs := []
  lnk := []
  tile := []
  cdt := []
  mir := mir0
  adc := []
  enc := []
  tlog := []
  amark := []
  ertDiv := []

/-- The machine right after reset: no command waits. -/
def State.reset : State := ⟨[], dev0⟩

end Sys2Proof.Machine
end

