-- ==== Sys2Proof/Machine/Ops.lean ====
section
/-! DEFINITION. The named operations over the device: sparse maps, registers and their fields, memory, fault records
(R69-R75, R538), interrupt arrivals (R472-R477), the management log (R489) and the host streams (R394-R397). -/

namespace Sys2Proof.Machine

/-! ### Sparse maps -/

section
variable {α : Type}

/-- The value at k, or the default. -/
def smGet : SMap α → α → Nat → α
  | [], z, _ => z
  | (j, v) :: r, z, k => if j = k then v else smGet r z k

/-- The map without key k. -/
def smDel : SMap α → Nat → SMap α
  | [], _ => []
  | (j, v) :: r, k => if j = k then smDel r k else (j, v) :: smDel r k

/-- The map with v at k, k listed. -/
def smIns : SMap α → Nat → α → SMap α
  | [], k, v => [(k, v)]
  | (j, u) :: r, k, v => if j = k then (k, v) :: r else if k < j then (k, v) :: (j, u) :: r else (j, u) :: smIns r k v

/-- The map with v at k, in canonical form: a value equal to the default is not listed. -/
def smSet [DecidableEq α] (m : SMap α) (z : α) (k : Nat) (v : α) : SMap α :=
  if v = z then smDel m k else smIns m k v

/-- Keys strictly rising, all above lo where lo is given. -/
def smSorted : Option Nat → SMap α → Bool
  | _, [] => true
  | none, (j, _) :: r => smSorted (some j) r
  | some l, (j, _) :: r => decide (l < j) && smSorted (some j) r

def smKeys (m : SMap α) : List Nat := m.map (fun p => p.1)

end

/-- What a byte of memory that nothing has written reads as (notes/assumptions/3.md, DESIGN CHOICE). -/
def memDefault : BitVec 8 := 0

/-- The canonical form of a memory: addresses strictly rising, no entry equal to what an unlisted address reads as. -/
def Memory.wf (m : List Host.Cell) : Bool := smSorted none m && m.all (fun c => decide (c.2 ≠ memDefault))

/-- Reading one byte. -/
def memGet (m : List Host.Cell) (a : Nat) : BitVec 8 := smGet m memDefault a

/-- Writing one byte. -/
def memSet (m : List Host.Cell) (a : Nat) (b : BitVec 8) : List Host.Cell := smSet m memDefault a b

/-- k bytes from a, little-endian (R5). -/
def memRead (m : List Host.Cell) : Nat → Nat → Nat
  | _, 0 => 0
  | a, k + 1 => (memGet m a).toNat + 256 * memRead m (a + 1) k

/-- k bytes of v to a, little-endian (R5). -/
def memWrite (m : List Host.Cell) : Nat → Nat → Nat → List Host.Cell
  | _, 0, _ => m
  | a, k + 1, v => memWrite (memSet m a (BitVec.ofNat 8 v)) (a + 1) k (v / 256)

/-- A list of bytes from a on. -/
def memWriteBytes (m : List Host.Cell) : Nat → List Nat → List Host.Cell
  | _, [] => m
  | a, b :: r => memWriteBytes (memSet m a (BitVec.ofNat 8 b)) (a + 1) r

def memReadBytes (m : List Host.Cell) : Nat → Nat → List Nat
  | _, 0 => []
  | a, k + 1 => (memGet m a).toNat :: memReadBytes m (a + 1) k

/-! ### The register store -/

/-- Does o, an offset from the first copy, fall on a copy of the register? -/
def onCopy : List (Nat × Nat) → Nat → Bool
  | [], o => o == 0
  | (s, c) :: r, o => Nat.blt (o / s) c && onCopy r (o % s)

/-- The descriptor of the register at canonical offset a among ds. -/
def descIn (ds : List RegDesc) (a : Nat) : Option RegDesc :=
  ds.find? (fun e => Nat.ble e.base a && onCopy e.dims (a - e.base))

/-- The registers of the block whose 64 KiB window holds canonical offset a (R33). -/
def regsAt (a : Nat) : List RegDesc :=
  match a / 0x10000 with
  | 0 => regsSYS | 1 => regsCLK | 2 => regsPWR | 3 => regsCEL | 4 => regsSNS | 5 => regsENC
  | 6 => regsTRK | 7 => regsTRK | 8 => regsPRD | 9 => regsPRD | 10 => regsPRD | 11 => regsPRD
  | 12 => regsSCH | 13 => regsPRS | 14 => regsTLK | 15 => regsTIL | 16 => regsCDT | 17 => regsQMG
  | 18 => regsHIF | 20 => regsRAK | 21 => regsICU | 22 => regsTMR | 23 => regsADC | 24 => regsCMP
  | 25 => regsERT | 26 => regsMGS | 27 => regsMIR | 28 => regsATB | 29 => regsDBG
  | _ => []

def descOf (a : Nat) : Option RegDesc := descIn (regsAt a) a

/-- Nominal supply of voltage monitor v in mV, for the reset of MGS_VLIMv (notes/assumptions/5.md). -/
def vmNominal (v : Nat) : Nat :=
  if v < 8 then 800 else if v < 12 then 1800 else if v < 14 then 3300 else if v < 18 then 5000
  else if v = 18 then 3300 else if v < 21 then 800 else if v = 21 then 1800 else 800

/-- Reset values that differ from copy to copy, or that the spec takes from a record (notes/assumptions/4.md). -/
def resetSpecial (a : Nat) : Option Nat :=
  if Nat.ble 0x80080 a && Nat.blt a 0x80100 then some ((a - 0x80080) / 4)
  else if Nat.ble 0x81000 a && Nat.blt a 0x83400 && a % 0x100 == 0 then
    let m := (a - 0x81000) / 0x100
    some (if Nat.blt m 32 then 2 ^ 31 + m * 2 ^ 16 else 2 ^ 30)
  else if Nat.ble 0x170400 a && Nat.blt a 0x171400 then
    let o := (a - 0x170400) % 0x400
    if Nat.ble 0x40 o && Nat.blt o 0x80 && o % 4 == 0 then some ((descOf a).elim 0 (fun e => e.reset) + (o - 0x40) / 4) else none
  else if Nat.ble 0x12020C a && Nat.blt a 0x120254 then
    let n := (a - 0x120200) / 0x40
    let o := (a - 0x120200) % 0x40
    if o == 0xC then some (0x600 + 2 * n) else if o == 0x10 then some (0x601 + 2 * n) else none
  else if Nat.ble 0x100000 a && Nat.blt a 0x108000 && a % 0x40 == 0x3C then some (0x0640 * 2 ^ 16 + 0xFF00)
  else if Nat.ble 0x10D800 a && Nat.blt a 0x10E000 && a % 4 == 0 then some (0x0640 * 2 ^ 16)
  else if a == 0x10200 then some (2 ^ 30)
  else if a == 0x20200 || a == 0x202C0 then some (2 * 2 ^ 30)
  else if a == 0x1A002C then some (4 * 2 ^ 29 + 2 ^ 28 + 64 * 2 ^ 20 + 64 * 2 ^ 12)
  else if Nat.ble 0x1A0280 a && Nat.blt a 0x1A02E0 then
    let v := vmNominal ((a - 0x1A0280) / 4)
    some (if (a - 0x1A0280) / 4 == 18 then 5775 * 2 ^ 16 + 2565 else v * 105 / 100 * 2 ^ 16 + v * 95 / 100)
  else if a == 0x30000 then some (2 ^ 29)
  else if a == 0x30004 then some 1
  else if a == 0x1D0010 then some (2 ^ 27)
  else if Nat.ble 0x130000 a && Nat.blt a 0x138000 && a % 16 == 12 then some 1
  else none

/-- The reset value of the register at canonical offset a (R482). -/
def regReset (a : Nat) : Word :=
  match resetSpecial a with
  | some v => BitVec.ofNat 32 v
  | none => match descOf a with
    | some e => BitVec.ofNat 32 e.reset
    | none => 0

/-- The live copy of the register at a. -/
def Dev.rd (d : Dev) (a : Nat) : Word := smGet d.reg (regReset a) a

/-- Writing the live copy. -/
def Dev.wr (d : Dev) (a : Nat) (w : Word) : Dev := { d with reg := smSet d.reg (regReset a) a w }

/-- The shadow copy of the RWS fields of the register at a (R48). -/
def Dev.rdS (d : Dev) (a : Nat) : Word := smGet d.shd (regReset a) a

def Dev.wrS (d : Dev) (a : Nat) (w : Word) : Dev := { d with shd := smSet d.shd (regReset a) a w }

/-- Bits of a word. -/
def fldGet (f : Fld) (w : Word) : Nat := (w.toNat / 2 ^ f.lo) % 2 ^ (f.hi + 1 - f.lo)

/-- w with bits hi..lo replaced by v (taken modulo the field's width). -/
def fldPut (f : Fld) (w : Word) (v : Nat) : Word :=
  let n := w.toNat
  let k := f.hi + 1 - f.lo
  BitVec.ofNat 32 (n % 2 ^ f.lo + (v % 2 ^ k) * 2 ^ f.lo + (n / 2 ^ (f.hi + 1)) * 2 ^ (f.hi + 1))

/-- The live value of a field. -/
def Dev.get (d : Dev) (f : Fld) : Nat := fldGet f (d.rd f.addr)

/-- A field as a flag. -/
def Dev.flag (d : Dev) (f : Fld) : Bool := d.get f == 1

/-- A signed field. -/
def Dev.geti (d : Dev) (f : Fld) : Int := toS (f.hi + 1 - f.lo) (d.get f)

/-- Setting a field of the live copy. -/
def Dev.put (d : Dev) (f : Fld) (v : Nat) : Dev := d.wr f.addr (fldPut f (d.rd f.addr) v)

def Dev.putB (d : Dev) (f : Fld) (b : Bool) : Dev := d.put f (b2n b)

def Dev.puti (d : Dev) (f : Fld) (i : Int) : Dev := d.put f (ofS (f.hi + 1 - f.lo) i)

/-- Adding to a saturating counter. -/
def Dev.addSat (d : Dev) (f : Fld) (n : Nat) : Dev := d.put f (min (d.get f + n) (2 ^ (f.hi + 1 - f.lo) - 1))

def Dev.incSat (d : Dev) (f : Fld) : Dev := d.addSat f 1

/-- A counter that passes from its greatest value to 0. -/
def Dev.incWrap (d : Dev) (f : Fld) : Dev := d.put f (d.get f + 1)

/-- Raising a maximum. -/
def Dev.putMax (d : Dev) (f : Fld) (v : Nat) : Dev := d.put f (max (d.get f) (min v (2 ^ (f.hi + 1 - f.lo) - 1)))

/-- Bit i of the register at a. -/
def Dev.bit (d : Dev) (a i : Nat) : Bool := (d.rd a).getLsbD i

def Dev.setBit (d : Dev) (a i : Nat) (b : Bool) : Dev := d.put ⟨a, i, i⟩ (b2n b)

/-- Bit n of an array of 32-bit words that starts at a. -/
def Dev.abit (d : Dev) (a n : Nat) : Bool := d.bit (a + 4 * (n / 32)) (n % 32)

def Dev.setAbit (d : Dev) (a n : Nat) (b : Bool) : Dev := d.setBit (a + 4 * (n / 32)) (n % 32) b

/-- A 64-bit value in a low and a high word. -/
def Dev.get64 (d : Dev) (lo hi : Nat) : Nat := (d.rd lo).toNat + 2 ^ 32 * (d.rd hi).toNat

def Dev.put64 (d : Dev) (lo hi : Nat) (v : Nat) : Dev :=
  (d.wr lo (BitVec.ofNat 32 v)).wr hi (BitVec.ofNat 32 (v / 2 ^ 32))

/-- The copy of a word that one requester has for itself (R44, R58, R454). -/
def preqKey (req a : Nat) : Nat := req * 2 ^ 26 + a

def Dev.own (d : Dev) (req a : Nat) : Word := smGet d.preq 0 (preqKey req a)

def Dev.setOwn (d : Dev) (req a : Nat) (w : Word) : Dev := { d with preq := smSet d.preq 0 (preqKey req a) w }

/-! ### Cellar words -/

/-- Reset of a Cellar word (R513). -/
def celReset (a : Nat) : Word :=
  match descIn regsCELW a with
  | some e => BitVec.ofNat 32 e.reset
  | none => 0

def Dev.crd (d : Dev) (a : Nat) : Word := smGet d.cel (celReset a) a

def Dev.cwr (d : Dev) (a : Nat) (w : Word) : Dev := { d with cel := smSet d.cel (celReset a) a w }

def Dev.cget (d : Dev) (f : Fld) : Nat := fldGet f (d.crd f.addr)

def Dev.cflag (d : Dev) (f : Fld) : Bool := d.cget f == 1

def Dev.cput (d : Dev) (f : Fld) (v : Nat) : Dev := d.cwr f.addr (fldPut f (d.crd f.addr) v)

/-! ### Host output: MSI-X (R375), streams (R394-R397) -/

def Dev.emit (d : Dev) (o : HostOut) : Dev := { d with out := d.out ++ [o] }

/-- The PCIe domain is on (R37). -/
def Dev.pcieOn (d : Dev) : Bool := d.get (F.PWR_DOM_STAT_STATE 6) == 2 || d.get (F.PWR_DOM_STAT_STATE 6) == 3

/-- The link carries requests: PERST_N is high, the link is up, and the function is in D0 (R373). -/
def Dev.pcieLink (d : Dev) : Bool := !d.rst.perst && !d.rst.core && d.flag F.HIF_STAT_LINKUP && !d.hif.pcie.d3hot

/-- New bus-master requests are issued: the domain is ON and out of reset, and the link carries them (R373, R508). -/
def Dev.pcieGo (d : Dev) : Bool := d.get (F.PWR_DOM_STAT_STATE 6) == 2 && d.pcieLink

/-- MSI-X vector v is signalled: sent, or left pending while masked or while the link is down (R375). -/
def Dev.msix (d : Dev) (v : Nat) : Dev :=
  let e := 0x130000 + 16 * v
  if !d.pcieOn then d
  else if d.bit (e + 12) 0 || !d.pcieGo then d.setAbit 0x138000 v true
  else d.emit (.msix v (d.get64 e (e + 4)) (d.rd (e + 8)).toNat)

def stm0 : Stm := ⟨0, 0, 0, [], 0⟩

def Dev.stmOf (d : Dev) (n : Nat) : Stm := smGet d.hif.stm stm0 n

def Dev.setStm (d : Dev) (n : Nat) (s : Stm) : Dev := { d with hif := { d.hif with stm := smSet d.hif.stm stm0 n s } }

/-- Ring size of stream n (R394). -/
def Dev.stmSize (d : Dev) (n : Nat) : Nat := 2 ^ (12 + min (d.get (F.STM_CFG_SZ n)) 14)

/-- Stream n writes its pending chunk, then WP, then signals (R395). -/
def Dev.stmFlush (d : Dev) (n : Nat) : Dev :=
  let s := d.stmOf n
  if s.chunk.isEmpty || !d.pcieGo then d
  else
    let base := d.get64 (R.STM_BASE_LO n) (R.STM_BASE_HI n)
    let room := (d.stmSize n - s.flushed) / 4
    let d1 := d.emit (.write (base + s.flushed) (s.chunk.take room))
    let d2 := if s.chunk.length > room then d1.emit (.write base (s.chunk.drop room)) else d1
    let d3 := d2.emit (.write (d.get64 (R.STM_WPA_LO n) (R.STM_WPA_HI n)) [s.wp, 0])
    (d3.setStm n { s with flushed := s.wp, chunk := [] }).msix (d.get (F.STM_CFG_VEC n))

/-- The enabled stream that source src with argument arg feeds (R396). -/
def Dev.stmFor (d : Dev) (src arg : Nat) : Option Nat :=
  (List.range 8).find? (fun n => d.flag (F.STM_CFG_EN n) && d.get (F.STM_CFG_SRC n) == src && d.get (F.STM_CFG_ARG n) == arg)

/-- A record of source src goes to stream n: written when it fits, else lost and counted (R394, R397). The flag says
whether it was lost. -/
def Dev.stmPut (d : Dev) (n : Nat) (ws : List Nat) : Dev × Bool :=
  let s := d.stmOf n
  let size := d.stmSize n
  let rs := 4 * ws.length
  if d.flag (F.STM_STAT_ERR n) || decide (size - 16 < (s.wp + size - s.rp) % size + rs) then
    (d.incSat (F.STM_STAT_LOST n), true)
  else
    let wp := (s.wp + rs) % size
    let d1 := (d.setStm n { s with wp := wp, chunk := s.chunk ++ ws, since := if s.chunk.isEmpty then d.fab else s.since }).put (F.STM_WP_PTR n) wp
    (if decide (64 ≤ (s.chunk ++ ws).length) then d1.stmFlush n else d1, false)

/-- A record of a source, wherever it is fed; a source that feeds no stream sends nothing and loses nothing. -/
def Dev.stream (d : Dev) (src arg : Nat) (ws : List Nat) : Dev × Bool :=
  match d.stmFor src arg with
  | some n => d.stmPut n ws
  | none => (d, false)

/-! ### The management log (R489, R490) -/

/-- The Cellarmaster writes its oldest waiting entry into ring slot SEQ mod 16,384, and to the log stream. -/
def Dev.logWrite (d : Dev) : Dev :=
  match d.logq with
  | [] => d
  | e :: r =>
    let seq := d.get F.MGS_LOG_SEQ
    let ws := seq :: e
    let d1 := { d with logq := r, mram := memWriteBytes d.mram (0x200000 + 32 * (seq % 16384)) (wordsBytes ws) }
    ((d1.incWrap F.MGS_LOG_SEQ).stream 4 0 ws).1

def Dev.logDrainN (d : Dev) : Nat → Dev
  | 0 => d
  | k + 1 => d.logWrite.logDrainN k

/-- All waiting entries are written. -/
def Dev.logDrain (d : Dev) : Dev := d.logDrainN d.logq.length

/-- An event of the KIND table: words 1 to 7 of its entry join the queue of 64, or are lost (R489, R490). -/
def Dev.log (d : Dev) (blk kind code sev : Nat) (data : List Nat) : Dev :=
  if d.logq.length < 64 then
    let t := if d.rst.core then 0 else d.now
    let w3 := blk * 2 ^ 24 + kind * 2 ^ 16 + code * 2 ^ 8 + sev * 2 ^ 6
    { d with logq := d.logq ++ [[t % 2 ^ 32, t / 2 ^ 32 % 2 ^ 32, w3] ++ (data ++ [0, 0, 0, 0]).take 4] }
  else d.incSat F.MGS_LOGLOST_LOST

/-! ### Interrupt arrivals (R472-R476) -/

/-- Kind of source s: level (R472, ICU_SRCs.TRIG on GPIO sources). -/
def Dev.icuLevel (d : Dev) (s : Nat) : Bool :=
  (decide (64 ≤ s) && decide (s < 96)) || (decide (176 ≤ s) && decide (s < 240) && d.flag (F.ICU_SRC_TRIG s))

/-- Reserved sources (R472). -/
def icuReserved (s : Nat) : Bool :=
  (decide (25 ≤ s) && decide (s < 32)) || (decide (304 ≤ s) && decide (s < 512)) || decide (1024 ≤ s)

def Dev.icuPend (d : Dev) (s : Nat) (b : Bool) : Dev := d.setAbit (R.ICU_PEND 0) s b

def Dev.icuInSrv (d : Dev) (s : Nat) : Bool := d.icu.srv.any (fun p => p.2.1 == s)

/-- One counted arrival of an enabled event source that is not in service (R475). -/
def Dev.icuCount (d : Dev) (s : Nat) : Dev :=
  let was := smGet d.icu.coal (0, 0) s
  let c := was.1 + 1
  if d.get (F.ICU_SRC_COALN s) < c then { d with icu := { d.icu with coal := smDel d.icu.coal s } }.icuPend s true
  else { d with icu := { d.icu with coal := smSet d.icu.coal (0, 0) s (c, if was.1 = 0 then d.fab else was.2) } }

/-- Source s arrives (R473): counted, perhaps pending, and its MSI-X vector sent. -/
def Dev.icuArrive (d : Dev) (s : Nat) : Dev :=
  if icuReserved s || d.rst.core then d
  else
    let d1 := d.incSat ⟨R.ICU_ARR (s / 4), 8 * (s % 4) + 7, 8 * (s % 4)⟩
    let d2 :=
      if !d.flag (F.ICU_SRC_EN s) then d1
      else if d.icuLevel s then (if d.icuInSrv s then d1 else d1.icuPend s true)
      else if d.icuInSrv s then { d1 with icu := { d1.icu with again := smSet d1.icu.again 0 s (smGet d1.icu.again 0 s + 1) } }
      else d1.icuCount s
    if d.abit (R.HIF_HSRC 0) s then d2.msix (1024 + s) else d2

/-- The level of a level source changes; each rise is an arrival (R472, R476). -/
def Dev.icuSetLevel (d : Dev) (s : Nat) (b : Bool) : Dev :=
  let was := d.icu.level.contains s
  if b && !was then { d with icu := { d.icu with level := d.icu.level ++ [s] } }.icuArrive s
  else if !b && was then { d with icu := { d.icu with level := d.icu.level.filter (· != s) } }.icuPend s false
  else d

/-! ### Fault records (R69-R75, R538) -/

/-- Base and mask of block b, numbered as ICU sources 0-24 (R33, R472). -/
def blkBase (b : Nat) : Nat × Nat :=
  match b with
  | 0 => (0x0, 0xFFF) | 1 => (0x10000, 0x3FF) | 2 => (0x20000, 0x3FF) | 3 => (0x30000, 0xFF) | 4 => (0x40000, 0xFFF)
  | 5 => (0x50000, 0x7FF) | 6 => (0x60000, 0x1FFFF) | 7 => (0x80000, 0x3FFFF) | 8 => (0xC0000, 0x1FFF)
  | 9 => (0xD0000, 0x3FFF) | 10 => (0xE0000, 0x3FFF) | 11 => (0xF0000, 0x1FF) | 12 => (0x100000, 0xFFFF)
  | 13 => (0x110000, 0xFFF) | 14 => (0x120000, 0xFFF) | 15 => (0x140000, 0x7FF) | 16 => (0x150000, 0x3FFF)
  | 17 => (0x160000, 0x7FF) | 18 => (0x170000, 0x1FFF) | 19 => (0x180000, 0x1FF) | 20 => (0x190000, 0xFFF)
  | 21 => (0x1A0000, 0xFFF) | 22 => (0x1B0000, 0x3FF) | 23 => (0x1C0000, 0xFF) | _ => (0x1D0000, 0x3FFF)

/-- Address of the fault register set of block b (R42, R70). -/
def fltBase (b : Nat) : Nat := (blkBase b).1 + (blkBase b).2 + 1 - 0x40

abbrev F.FLT_INST (b : Nat) : Fld := ⟨fltBase b + 4, 24, 16⟩
abbrev F.FLT_MAXSEV (b : Nat) : Fld := ⟨fltBase b + 4, 9, 8⟩
abbrev F.FLT_OPEN (b : Nat) : Fld := ⟨fltBase b + 4, 7, 7⟩
abbrev F.FLT_SEV (b : Nat) : Fld := ⟨fltBase b + 4, 6, 5⟩
abbrev F.FLT_CODE (b : Nat) : Fld := ⟨fltBase b + 4, 4, 0⟩
abbrev R.FLT_ALSO (b : Nat) : Nat := fltBase b + 8
abbrev F.FLT_COUNT (b : Nat) : Fld := ⟨fltBase b + 0xC, 15, 0⟩
abbrev R.FLT_MASK (b : Nat) : Nat := fltBase b + 0x1C

/-- The first fault of a record (R72, R538). -/
def Dev.fltFirst (d : Dev) (b code inst sev : Nat) : Dev :=
  ((((((d.put (F.FLT_INST b) inst).put (F.FLT_SEV b) sev).put (F.FLT_CODE b) code).put (F.FLT_OPEN b) 1)).put64 (fltBase b + 0x10)
    (fltBase b + 0x14) d.now)

/-- The block's fault interrupt (R72, R73). -/
def Dev.fltIrq (d : Dev) (b : Nat) : Dev := d.icuArrive b

/-- Is block b able to keep a fault record: its reset domain is released and, for HIF, its power domain is on (R413). -/
def Dev.fltLive (d : Dev) (b : Nat) : Bool :=
  if b == 14 then d.pcieOn && !d.rst.core && !d.rst.perst
  else if b == 1 || b == 2 || b == 21 || b == 23 || b == 24 then !d.rst.sys
  else if b == 3 then !d.rst.vbat
  else if b == 18 then !d.rst.core && (d.get (F.PWR_DOM_STAT_STATE 5) == 2 || d.get (F.PWR_DOM_STAT_STATE 5) == 3)
  else !d.rst.core

/-- The marks of fltNew, each valid in its FAB cycle alone: b where the record of block b opened in it, and this one where a
masked cause of that code arose with no record open. -/
def maskedMark (b code : Nat) : Nat := b + 100 + 100 * code

def Dev.isNew (d : Dev) (m : Nat) : Bool := d.fltNew.contains (d.fab, m)

/-- Mark m joins the present FAB cycle; marks of other cycles are forgotten. -/
def Dev.markNew (d : Dev) (m : Nat) : Dev :=
  { d with fltNew := (d.fab, m) :: d.fltNew.filter (fun p => p.1 == d.fab && p.2 != m) }

/-- A cause arises in block b (R72, R73, R538). Causes that arise in the FAB cycle in which the record opened, by whatever
command, are not merges: the record then names the unmasked cause of highest severity, lowest code, lowest unit. -/
def Dev.arise (d : Dev) (b code inst sev : Nat) : Dev :=
  let masked := d.bit (R.FLT_MASK b) code
  if !d.fltLive b then d
  else if !d.flag (F.FLT_OPEN b) then
    if masked then d.markNew (maskedMark b code)
    else
      let d1 := ((d.fltFirst b code inst sev).put (F.FLT_MAXSEV b) sev)
      let early := (List.range 32).filter (fun c => d.isNew (maskedMark b c))
      let d2 := early.foldl (fun x c => x.setBit (R.FLT_ALSO b) c true) (d1.markNew b)
      (d2.fltIrq b).log b 1 code sev [(d2.rd (fltBase b + 4)).toNat, (d2.rd (R.FLT_ALSO b)).toNat]
  else if d.isNew b then
    let c0 := d.get (F.FLT_CODE b)
    let s0 := d.get (F.FLT_SEV b)
    if !masked && (decide (s0 < sev) || (s0 == sev && (decide (code < c0) || (code == c0 && decide (inst < d.get (F.FLT_INST b)))))) then
      let d1 := (d.fltFirst b code inst sev).putMax (F.FLT_MAXSEV b) sev
      if c0 == code then d1 else (d1.setBit (R.FLT_ALSO b) c0 true).setBit (R.FLT_ALSO b) code false
    else if code == c0 then d else d.setBit (R.FLT_ALSO b) code true
  else
    let d1 := (d.setBit (R.FLT_ALSO b) code true).incSat (F.FLT_COUNT b)
    if !masked && decide (d.get (F.FLT_MAXSEV b) < sev) then
      let d2 := d1.put (F.FLT_MAXSEV b) sev
      (d2.fltIrq b).log b 2 code sev [(d2.rd (fltBase b + 4)).toNat, d2.get (F.FLT_COUNT b)]
    else d1

/-- Causes that the fault tables call momentary (R69). -/
def momentary (b code : Nat) : Bool :=
  code == 31 || (code == 0 && (b == 6 || b == 7 || b == 8 || b == 9 || b == 18)) || (code == 1 && (b == 9 || b == 5))

/-- A cause without a level of its own arises (R69, R72, R73): unless momentary it stays present until its record is
closed. -/
def Dev.raise (d : Dev) (b code inst sev : Nat) : Dev :=
  let k : Kept := ⟨b, code, if momentary b code then some d.fab else none⟩
  let old := d.kept.filter (fun c => c != k && (c.only == none || c.only == some d.fab))
  (if d.fltLive b then { d with kept := k :: old } else d).arise b code inst sev

def Dev.hasCause (d : Dev) (b code inst : Nat) : Bool := d.causes.any (fun c => c.blk == b && c.code == code && c.inst == inst)

/-- A lasting cause rises on a unit: present from now on, and an arising (R69, R538). -/
def Dev.causeOn (d : Dev) (b code inst sev : Nat) : Dev :=
  if d.hasCause b code inst then d
  else ({ d with causes := d.causes ++ [Cause.mk b code inst sev] } : Dev).arise b code inst sev

/-- A lasting cause goes away. -/
def Dev.causeOff (d : Dev) (b code inst : Nat) : Dev :=
  { d with causes := d.causes.filter (fun c => !(c.blk == b && c.code == code && c.inst == inst)) }

def Dev.cause (d : Dev) (b code inst sev : Nat) (on : Bool) : Dev :=
  if on then d.causeOn b code inst sev else d.causeOff b code inst

/-- FLT_STAT of block b: one LV bit per code, set while the cause is present on any unit (R69, R538). -/
def Dev.fltStat (d : Dev) (b : Nat) : Word :=
  let w0 := d.causes.foldl (fun w c => if c.blk == b then w ||| (1#32 <<< c.code) else w) (0 : Word)
  d.kept.foldl (fun w c => if c.blk == b && (c.only == none || c.only == some d.fab) then w ||| (1#32 <<< c.code) else w) w0

/-- A one written to FLT_CLOSE.CLOSE (R74): the record closes, ALSO and MERGE clear, and a present unmasked cause opens
a new record at once, naming the lowest unit of the cause chosen by R72 (R538). DESIGN CHOICE (notes/assumptions/97.md): a
masked cause that is present then arises with it, and a momentary cause of this FAB cycle is not present any more. -/
def Dev.fltClose (d : Dev) (b : Nat) : Dev :=
  let d1 := (((d.put (F.FLT_OPEN b) 0).wr (R.FLT_ALSO b) 0).put (F.FLT_COUNT b) 0)
  let present := d1.causes.filter (fun c => c.blk == b)
  present.foldl (fun x c => x.arise b c.code c.inst c.sev) { d1 with fltNew := d1.fltNew.filter (fun p => p.2 % 100 != b), kept := d1.kept.filter (fun c => c.blk != b) }

/-- The reserved fault code 31 of a block that refuses a cork (R62), and the record of the refusal. -/
def Dev.corkRefuse (d : Dev) (b addr req reason : Nat) : Dev :=
  (((d.put F.SYS_CORK_STAT_REQ req).put F.SYS_CORK_STAT_REASON reason).put F.SYS_CORK_STAT_ADDR addr).raise b 31 0 1

/-- Blocks of the corked registers, by the offset of the value word. -/
def corkBlk (a : Nat) : Option Nat :=
  if a = 0xE2000 ∨ a = 0xE2008 then some 10
  else if a = 0x10C000 ∨ a = 0x10C008 ∨ a = 0x10C010 then some 12
  else if a = 0x1B0024 then some 22
  else if a = 0x10008 then some 1
  else if a = 0x20000 then some 2
  else if a = 0x1A0008 ∨ a = 0x1A0020 then some 21
  else if a = 0x1D0008 then some 24
  else none

/-- The cork open on a register (R59). -/
def Dev.corkAt (d : Dev) (a : Nat) : Option Cork := d.corks.find? (fun c => c.addr == a)

def Dev.corkEnd (d : Dev) (a : Nat) : Dev := { d with corks := d.corks.filter (fun c => c.addr != a) }

/-- FAB cycles in which the complement may come (R59). -/
def corkCycles : Nat := 64

/-- Corks whose 64 FAB cycles are over are refused (R62, reason 2). -/
def Dev.corkTick (d : Dev) : Dev :=
  d.corks.foldl (fun (x : Dev) c =>
    if c.opened + corkCycles < x.fab then (x.corkEnd c.addr).corkRefuse ((corkBlk c.addr).getD 0) c.addr c.req 2 else x) d

/-! ### Time, free values -/

/-- The next free value (Config.freeWord), and the device with the draw counted. -/
def Dev.drawFree (d : Dev) : Word × Dev := (Config.freeWord d.draw, { d with draw := d.draw + 1 })

/-- Fold over the numbers below n. -/
def forN (n : Nat) (f : Dev → Nat → Dev) (d : Dev) : Dev := (List.range n).foldl f d

/-- The first k for which p holds, below n. -/
def findN (n : Nat) (p : Nat → Bool) : Option Nat := (List.range n).find? p

/-- A command's effect on the device, the core under reset or not; a cork whose time is over by its end is refused (R62);
the queue of waiting commands is left as it is. -/
def State.runAny (s : State) (f : Dev → Dev) : Host.Outcome State Fault Refusal :=
  .next { s with dev := (f s.dev).corkTick }

/-- The effect of a command of the core domain: none while CORE reset holds the core (R482). -/
def State.run (s : State) (f : Dev → Dev) : Host.Outcome State Fault Refusal :=
  s.runAny fun d => if d.rst.core then d else f d

end Sys2Proof.Machine
end

