-- ==== Sys2Proof/Machine/Wheel.lean ====
section
/-! DEFINITION. Wheel and encoder geometry (R83-R87, R94, R101, R102, R117, R536): angles of slots, absolute slot
boundaries, the checks of a definition, and the signature of a definition. Absolute angles are Int: cycle × L +
position (R19). An absolute boundary is revolution × M + s, counted from the reference tooth of cycle 0 (R84, R138). -/

namespace Sys2Proof.Machine

/-- AU of one revolution (R17). -/
def revAU : Nat := 5898240

/-- The geometry of a definition: raw positions or counts per revolution, counts per slot, REF_ANG, revolutions per
cycle, signed REVOFS (R83, R109, R117). -/
structure Geo where
  enc : Bool
  raw : Nat
  decim : Nat
  ref : Nat
  revs : Nat
  ofs : Int
deriving DecidableEq, Repr

/-- The live definition of tracker k. -/
def Dev.geo (d : Dev) (k : Nat) : Geo :=
  let enc := d.flag (F.TRK_CFG_KIND k)
  { enc := enc
    raw := if enc then d.get (F.TRK_ENC_CPR k) else d.get (F.TRK_WHEEL_N k)
    decim := if enc then max 1 (d.get (F.TRK_ENCX_DECIM k)) else 1
    ref := d.get (F.TRK_REF_ANG_ANG k)
    revs := if d.flag (F.TRK_CFG_CYC720 k) then 2 else 1
    ofs := d.geti (F.TRK_REVOFS_OFS k) }

/-- Slots per revolution M (R132). -/
def Geo.m (g : Geo) : Nat := g.raw / g.decim

/-- Cycle slots Ms (R132). -/
def Geo.ms (g : Geo) : Nat := g.revs * g.m

/-- Cycle length L (R17). -/
def Geo.len (g : Geo) : Nat := g.revs * revAU

/-- Offset of slot s from the reference tooth (R83). -/
def Geo.sOfs (g : Geo) (s : Nat) : Nat := (s * g.decim * revAU + g.raw / 2) / g.raw

/-- A(s, r) of R83, with REVOFS in reverse (R109). -/
def Geo.ang (g : Geo) (s r : Nat) (rev : Bool) : Nat :=
  ((((g.ref + r * revAU + g.sOfs s : Nat) : Int) + (if rev then g.ofs else 0)) % (g.len : Int)).toNat

/-- The absolute angle of absolute boundary b (R83, R109). -/
def Geo.blin (g : Geo) (b : Int) (rev : Bool) : Int :=
  (g.ref : Int) + Int.fdiv b g.m * revAU + (g.sOfs (Int.fmod b g.m).toNat : Nat) + (if rev then g.ofs else 0)

/-- Wheel position (or tooth-record index) of absolute boundary b (R84). -/
def Geo.pos (g : Geo) (b : Int) : Nat := (Int.fmod b g.m).toNat

/-- Revolution of the cycle of absolute boundary b. -/
def Geo.rv (g : Geo) (b : Int) : Nat := (Int.fmod (Int.fdiv b g.m) g.revs).toNat

/-- Cycle slot of absolute boundary b (R132). -/
def Geo.cslot (g : Geo) (b : Int) : Nat := (Int.fmod b g.ms).toNat

/-- The largest slot s whose offset from the reference tooth is at most x (x below one revolution). -/
def Geo.slotAt (g : Geo) (x : Nat) : Nat := ((x + 1) * g.raw - 1 - g.raw / 2) / revAU / g.decim

/-- The last boundary at or before absolute angle x in the direction of travel (R138). -/
def Geo.lastBnd (g : Geo) (x : Int) (rev : Bool) : Int :=
  let y := x - (g.ref : Int) - (if rev then g.ofs else 0)
  let fl := fun (z : Int) => Int.fdiv z revAU * g.m + (g.slotAt (Int.fmod z revAU).toNat : Nat)
  if rev then
    let b := fl y
    if g.blin b true = x then b else b + 1
  else fl y

/-- The cycle count and position of an absolute angle (R19). -/
def Geo.cyc (g : Geo) (x : Int) : Int := Int.fdiv x g.len
def Geo.posOf (g : Geo) (x : Int) : Nat := (Int.fmod x g.len).toNat

/-- Number of cycle boundaries at or before x in the direction of travel, counted in that direction. -/
def Geo.cycIdx (g : Geo) (x : Int) (rev : Bool) : Int := if rev then Int.fdiv (-x) g.len else Int.fdiv x g.len

/-- The absolute boundary nearest to absolute angle x whose slot is s and revolution r (in the given direction). -/
def Geo.bndNear (g : Geo) (x : Int) (s r : Nat) (rev : Bool) : Int :=
  let b0 : Int := (r * g.m + s : Nat)
  let a0 := g.blin b0 rev
  b0 + Int.fdiv (2 * (x - a0) + g.len) (2 * g.len) * g.ms

/-! ### The wheel bitmap -/

/-- The words of a definition the checker latches: TRK_WHEEL, TRK_WHL0-15, TRK_PHW0-15 (R122). -/
def Dev.wheelWords (d : Dev) (k : Nat) : List Word :=
  d.rd (R.TRK_WHEEL k) :: (List.range 16).map (fun w => d.rd (R.TRK_WHL k w)) ++ (List.range 16).map (fun i => d.rd (R.TRK_PHW k i))

/-- Positions of a latched copy. -/
def whN (ws : List Word) : Nat := (ws.getD 0 0).toNat % 1024

/-- MISS bit at bit number b (R84). -/
def whMiss (ws : List Word) (b : Nat) : Bool := (ws.getD (1 + b / 32) 0).getLsbD (b % 32)

/-- Bit number of the reference tooth: the first present slot after the gap (R84). -/
def whRefBit (ws : List Word) : Nat :=
  let n := whN ws
  ((List.range n).find? (fun b => !whMiss ws b && whMiss ws ((b + n - 1) % n))).getD 0

/-- Does wheel position p carry no tooth (R84). -/
def whGap (ws : List Word) (p : Nat) : Bool := whMiss ws ((whRefBit ws + p) % whN ws)

/-- Length of the gap. -/
def whGapLen (ws : List Word) : Nat := ((List.range (whN ws)).filter (whMiss ws)).length

/-- Bit number of wheel position p (R84). -/
def whBit (ws : List Word) (p : Nat) : Nat := (whRefBit ws + p) % whN ws

/-- Span from the slot at bit number b to the next present tooth in the direction of travel (R88, R111), whatever the
number of missing ones (R121). -/
def whSpanAt (ws : List Word) (b : Nat) (rev : Bool) : Nat :=
  let n := whN ws
  let miss := fun j => whMiss ws (if rev then (b + n - j % n) % n else (b + j) % n)
  (((List.range n).map (· + 1)).find? (fun j => !miss j)).getD n

/-- Span from position p to the next present tooth in the direction of travel. -/
def whSpan (ws : List Word) (p : Nat) (rev : Bool) : Nat := whSpanAt ws (whBit ws p) rev

/-- Slots by which positions move when copy `ws` takes the place of copy `old`: the reference bit moved (R84, R123). -/
def whShift (old ws : List Word) : Int :=
  let n : Int := whN ws
  let o := ((whRefBit old : Nat) : Int) - (whRefBit ws : Nat)
  if n = 0 then 0 else Int.emod (o + n / 2) n - n / 2

/-- The valid phase edges of a latched copy, in table order (R86). -/
def whPhases (ws : List Word) : List Nat :=
  ((ws.drop 17).filter (fun w => w.getLsbD 24)).map (fun w => w.toNat % 2 ^ 24)

/-- Number of phase edges in the half-open stretch from lo (not included) over len AU forward, each angle once a cycle. -/
def phIn (ps : List Nat) (lo : Int) (len cyc : Nat) : Nat :=
  (ps.map (fun p => (Int.fdiv (lo + len - p) cyc - Int.fdiv (lo - p) cyc).toNat)).foldl (· + ·) 0

/-- C_ref and C_oth (R94). -/
def Dev.camCounts (d : Dev) (k : Nat) : Nat × Nat :=
  let g := d.geo k
  let ps := whPhases (d.wheelWords k)
  let c := phIn ps ((g.ref : Int) - revAU) revAU g.len
  (c, ps.length - c)

/-! ### Checks of a definition (R85, R86, R87, R94, R117, R536) -/

/-- The MISS bits form one run of 1 or 2 adjacent positions, all below N (R85). -/
def whRunOk (ws : List Word) : Bool :=
  let n := whN ws
  let miss := (List.range 512).filter (whMiss ws)
  match miss with
  | [a] => decide (a < n)
  | [a, b] => decide (b < n) && (decide (b = a + 1) || (decide (a = 0) && decide (b = n - 1)))
  | _ => false

/-- Valid entries contiguous from PHW0 and strictly ascending (R86). -/
def phTableOk : List Word → Option Nat → Bool → Bool
  | [], _, _ => true
  | w :: r, lastA, ended =>
    if w.getLsbD 24 then
      let a := w.toNat % 2 ^ 24
      !ended && (match lastA with | none => true | some l => decide (l < a)) && phTableOk r (some a) false
    else phTableOk r lastA true

/-- Distance of two cycle angles, the short way round. -/
def angDist (a b len : Nat) : Nat := let o := (a + len - b % len) % len; min o (len - o)

/-- Every check made at a swap and when EN is set (R85, R86, R87, R94, R117, R536). -/
def Dev.defOk (d : Dev) (k : Nat) : Bool :=
  let g := d.geo k
  let ws := d.wheelWords k
  let ps := whPhases ws
  let mode := d.get (F.TRK_CFG_PH_MODE k)
  let tol := 16 * d.get (F.TRK_FB_PH_TOL k)
  let cc := d.camCounts k
  let kindOk :=
    if g.enc then decide (4 ≤ g.raw) && g.raw % g.decim == 0 && decide (g.raw / g.decim ≤ 65536)
    else decide (3 ≤ g.raw) && decide (g.raw ≤ 512) && whRunOk ws
  kindOk && decide (g.ref < g.len) && phTableOk (ws.drop 17) none false
    && ps.all (fun p => decide (tol ≤ angDist p g.ref g.len) && (g.revs == 1 || decide (tol ≤ angDist p (g.ref + revAU) g.len)))
    && !((mode == 1 || d.flag (F.TRK_CTL_FB_EN k)) && decide (ps.length < 2))
    && !(mode == 1 && g.revs == 2 && cc.1 == cc.2)
    && !(mode == 3 && (g.revs == 2 || !g.enc))
    && !(g.revs == 2 && mode == 0)

/-! ### Signature and stop record (R101, R102) -/

/-- CRC-16, polynomial 0x1021, initial value 0xFFFF, not reflected (R102). -/
def crc16 (bytes : List Nat) : Nat := (bytes.flatMap byteBitsMsb).foldl (crcBit 16 0x1021) 0xFFFF

/-- WHL_SIG of the live definition: 84 bytes (R102). -/
def Dev.whlSig (d : Dev) (k : Nat) : Nat :=
  crc16 (wordsBytes (([R.TRK_CFG k, R.TRK_WHEEL k, R.TRK_REF_ANG k, R.TRK_REVOFS k, R.TRK_ENC k] ++ (List.range 16).map (R.TRK_WHL k)).map (fun a => (d.rd a).toNat)))

/-- Wheel slot and revolution whose tooth stands at cycle angle a in direction rev (R105). -/
def Dev.toothAt (d : Dev) (k a : Nat) (rev : Bool) : Option (Nat × Nat) :=
  let g := d.geo k
  let ws := d.wheelWords k
  let x : Int := a
  let b := g.lastBnd x rev
  if g.posOf (g.blin b rev) == a && (g.enc || !whGap ws (g.pos b)) then some (g.pos b, g.rv b) else none

/-! ### Tracker state -/

def trk0 : Trk :=
  ⟨[], [], [], [], 0, 0, 0, 0, 0, 0, false, false, false, none, none, none, 0, 0, 0, 0, 0, false, 0, none, false, false, 0,
    0, false, 0, 0, 0, 0, false, 0, none, false, [], none, none, false, false⟩

def Dev.tk (d : Dev) (k : Nat) : Trk := smGet d.trk trk0 k

def Dev.setTk (d : Dev) (k : Nat) (t : Trk) : Dev := { d with trk := smSet d.trk trk0 k t }

def Dev.tstate (d : Dev) (k : Nat) : Nat := d.get (F.TRK_STAT_STATE k)

def Dev.armOk (d : Dev) (k : Nat) : Bool := d.flag (F.TRK_STAT_ARM_OK k)

/-! ### The source of records (R341, R347) -/

/-- Pair state (R341). -/
def Dev.mirState (d : Dev) : Nat := d.get F.MIR_STAT_STATE

/-- Tracker k takes its records from the mirror (R341, R347). -/
def Dev.follows (d : Dev) (k : Nat) : Bool := d.mirState == 6 || (d.mirState == 4 && d.mir.applied.contains k)

/-- Tracker state as prediction, scheduler and Press take it: their own tracker's, or the mirrored one. -/
def Dev.srcState (d : Dev) (k : Nat) : Nat := if d.follows k then smGet d.mir.tst 0 k % 8 else d.tstate k

def Dev.srcArm (d : Dev) (k : Nat) : Bool := if d.follows k then decide (8 ≤ smGet d.mir.tst 0 k) else d.armOk k

/-- Is the position of tracker k known (QSTART, GAP_FOUND, SYNC, FB_SW, FALLBACK; R154). -/
def Dev.posKnown (d : Dev) (k : Nat) : Bool := decide (3 ≤ d.srcState k)

end Sys2Proof.Machine
end

