-- ==== Sys2Proof/Machine/Predict.lean ====
section
/-! DEFINITION. The angle clock (R131-R156, R540): state update at a tooth record, prediction of an angle, learning,
queries. Times are ticks, predictions eighths of a tick, B, B0 and D 1/256 tick per slot. -/

namespace Sys2Proof.Machine

/-- a / b rounded as floor(x + 1/2) (R132). -/
def rnd (a b : Int) : Int := Int.fdiv (2 * a + b) (2 * b)

def prd0 : Prd := ⟨false, 0, 0, 0, 0, 0, 0, 0, 0, 0, 0, 0, false, false, 0, false⟩

def Dev.pr (d : Dev) (k : Nat) : Prd := smGet d.prd prd0 k

def Dev.setPr (d : Dev) (k : Nat) (p : Prd) : Dev := { d with prd := smSet d.prd prd0 k p }

/-- Logical engines that serve tracker k (R125). -/
def Dev.serving (d : Dev) (k : Nat) : List Nat :=
  (List.range 32).filter (fun l => d.flag (F.PRD_LMAP_EN l) && d.get (F.PRD_LMAP_TRK l) == k)

/-- PRDk_STAT.TE_FIT and RIP_FIT (M ≤ 512, Ms ≤ 1,024). -/
def Dev.teFit (d : Dev) (k : Nat) : Bool := decide ((d.geo k).m ≤ 512)
def Dev.ripFit (d : Dev) (k : Nat) : Bool := decide ((d.geo k).ms ≤ 1024)

/-- TE_ON (R133). DESIGN CHOICE (notes/assumptions/101.md): a direction still unknown counts as forward, here, in RIP_ON and in
learning. -/
def Dev.teOn (d : Dev) (k : Nat) : Bool := d.flag (F.PRD_CFG_TE_EN k) && d.teFit k && !(d.pr k).rev

/-- RIP_ON (R134). -/
def Dev.ripOn (d : Dev) (k : Nat) : Bool :=
  d.flag (F.PRD_CFG_RIP_EN k) && d.ripFit k && !(d.pr k).rev && d.srcState k == 5 && !d.flag (F.PRD_LRN_TE_LRN k)
    && decide (d.get (F.PRD_RIP_MINCYC k) ≤ (if d.flag (F.PRD_STAT_BAND k) then d.get (F.PRD_STAT_RCYC1 k) else d.get (F.PRD_STAT_RCYC0 k)))

/-- PV (R137). -/
def Dev.pv (d : Dev) (k : Nat) : Bool := decide (2 ≤ (d.pr k).nint)

/-- PRDk_STAT as read: stored counts with the level bits computed. DESIGN CHOICE (notes/assumptions/101.md): TE_FIT and RIP_FIT
follow their formula with no wheel defined too, and read 1 then. -/
def Dev.prdStat (d : Dev) (k : Nat) : Word :=
  let d1 := ((((d.putB (F.PRD_STAT_PV k) (d.pv k)).putB (F.PRD_STAT_TE_ON k) (d.teOn k)).putB (F.PRD_STAT_RIP_ON k) (d.ripOn k)).putB
    (F.PRD_STAT_TE_FIT k) (d.teFit k)).putB (F.PRD_STAT_RIP_FIT k) (d.ripFit k)
  d1.rd (R.PRD_STAT k)

/-- E(p) (R133). -/
def Dev.errE (d : Dev) (k p : Nat) : Int := if d.teOn k then d.geti (F.PRD_TE_TE k p) else 0

/-- R_b(c) (R131). -/
def Dev.rip (d : Dev) (k : Nat) (band : Bool) (c : Nat) : Int := if band then d.geti (F.PRD_RM_R1 k c) else d.geti (F.PRD_RM_R0 k c)

def Dev.rbias (d : Dev) (k : Nat) (band : Bool) : Int := if band then d.geti (F.PRD_RBIAS_RBIAS1 k) else d.geti (F.PRD_RBIAS_RBIAS0 k)

/-- W(c) (R134). -/
def Dev.weight (d : Dev) (k c : Nat) : Int :=
  if d.ripOn k then
    let band := d.flag (F.PRD_STAT_BAND k)
    2 ^ 15 + d.rip k band c - d.rbias k band
  else 2 ^ 15

/-- U(m) and Q(m) (R139). -/
def Dev.qTerm (d : Dev) (k : Nat) (m : Nat) : Int :=
  let p := d.pr k
  let g := d.geo k
  let u := clampI (rnd p.b0 4) (4 * p.b0) (p.b0 + m * p.dd)
  if m ≤ min (d.get (F.PRD_CFG_HOR k)) 16 then
    rnd (u * d.weight k ((g.cslot p.bref + m) % g.ms)) (2 ^ 15)
  else u

/-- Q(1) + ... + Q(n) (R139). -/
def Dev.qSum (d : Dev) (k : Nat) : Nat → Int
  | 0 => 0
  | n + 1 => d.qSum k n + d.qTerm k (n + 1)

/-- Offset of absolute angle x beyond boundary b in direction rev, in 2^-16 slot (R138, R540). -/
def Geo.frac (g : Geo) (b x : Int) (rev : Bool) : Int :=
  let ae := g.blin b rev
  if rev then rnd ((ae - x) * 2 ^ 16) (ae - g.blin (b - 1) rev) else rnd ((x - ae) * 2 ^ 16) (g.blin (b + 1) rev - ae)

/-- The distance d of R138 from the reference record to absolute angle x. -/
def Dev.dist (d : Dev) (k : Nat) (x : Int) : Int :=
  let p := d.pr k
  let g := d.geo k
  let be := g.lastBnd x p.rev
  let kn := if p.rev then p.bref - be else be - p.bref
  kn * 2 ^ 16 + g.frac be x p.rev - p.fref - d.errE k (g.pos p.bref)

/-- The time of absolute angle x from the present state, PV apart (R138-R140). -/
def Dev.timeOf (d : Dev) (k : Nat) (x : Int) : PredRes :=
  let p := d.pr k
  let q := d.dist k x
  if 2048 * 2 ^ 16 ≤ q then .nopred
  else if q < -(2 ^ 16) then .behind
  else
    let s := if q < 0 then rnd (q * d.qTerm k 1) (2 ^ 16)
      else
        let kk := (Int.fdiv q (2 ^ 16)).toNat
        d.qSum k kk + rnd ((q - kk * 2 ^ 16) * d.qTerm k (kk + 1)) (2 ^ 16)
    .time (8 * p.tref + rnd s 32)

/-- The predicted time of absolute angle x: NOPRED while PV is clear or no engine serves (R130, R137). -/
def Dev.predict (d : Dev) (k : Nat) (x : Int) : PredRes := if d.pv k then d.timeOf k x else .nopred

/-- The time at which the tracker reaches absolute angle x, in eighths of a tick: the prediction of R138-R140, or a
straight line through the last record at its normalised period where there is no prediction (notes/assumptions/12.md). -/
def Dev.reach (d : Dev) (k : Nat) (x : Int) : Int :=
  match d.predict k x with
  | .time t => t
  | _ =>
    let t := d.tk k
    let g := d.geo k
    let dx := if t.rev then t.lin - x else x - t.lin
    8 * ((d.get64 (R.TRK_TS_LO k) (R.TRK_TS_HI k) : Nat) : Int) + rnd (dx * 8 * t.pn * g.m) revAU

/-- BAND chosen from B (R135). -/
def Dev.chooseBand (d : Dev) (k : Nat) : Dev :=
  d.putB (F.PRD_STAT_BAND k) (decide ((d.pr k).b < 256 * d.get (F.PRD_RIP_SPLIT k)))

/-- PRDk_B and PRDk_D show the state (R131). -/
def Dev.prdShow (d : Dev) (k : Nat) : Dev :=
  let p := d.pr k
  let d1 := ((d.wr (R.PRD_B_LO k) (BitVec.ofNat 32 p.b)).wr (R.PRD_B_HI k) (BitVec.ofNat 32 (p.b / 2 ^ 32 % 256)))
  ((d1.wr (R.PRD_D_LO k) (BitVec.ofNat 32 (ofS 64 p.dd))).wr (R.PRD_D_HI k) (BitVec.ofNat 32 (ofS 64 p.dd / 2 ^ 32))).put (F.PRD_STAT_NINT k) p.nint

/-- A restart (R152): NINT 0, counted, BAND chosen (R135). -/
def Dev.prdRestart (d : Dev) (k : Nat) : Dev :=
  let d1 := d.setPr k { d.pr k with nint := 0, skip := false }
  if (d.serving k).isEmpty then d1.prdShow k else ((d1.incSat (F.PRD_CNT0_RESTART k)).chooseBand k).prdShow k

/-- Boundaries an interval ends on: its covered set, oldest first (R132). -/
def coverSet (b0 b1 : Int) (rev : Bool) : List Int :=
  let n := (if rev then b0 - b1 else b1 - b0).toNat
  (List.range n).map (fun i => if rev then b0 - 1 - i else b0 + 1 + i)

/-- The boundary that prediction takes an interval of tracker k from boundary b0 to b1 to end on: the one its live wheel
copy gives while that differs from the copy the checker holds (R121), else b1. -/
def Dev.prdEnd (d : Dev) (k : Nat) (b0 b1 : Int) (rev : Bool) : Int :=
  let g := d.geo k
  let old := (d.tk k).wheel
  let ws := d.wheelWords k
  if g.enc || old == ws || whN ws = 0 || d.follows k then b1
  else
    let s := whSpanAt ws (whBit old (g.pos b0)) rev
    if rev then b0 - s else b0 + s

/-- Learning the ripple map over the cycle slots cs (R146). -/
def Dev.learnRip (d : Dev) (k : Nat) (eps : Int) (cs : List Nat) : Dev :=
  let band := d.flag (F.PRD_STAT_BAND k)
  let bias := d.rbias k band
  let out : Int := (d.get (F.PRD_RLIM_RIP_OUT k) : Nat)
  if cs.any (fun c => decide (out < |eps - (d.rip k band c - bias)|)) then d.incSat (F.PRD_CNT0_OUTLIER k)
  else
    let cl : Int := (min (d.get (F.PRD_RLIM_RIP_CLAMP k)) 0x7FFF : Nat)
    let sh := 2 ^ d.get (F.PRD_RIP_RIP_SH k)
    let d1 := cs.foldl (fun (x : Dev) c =>
      let r := x.rip k band c
      let v := clampI (-cl) cl (r + Int.fdiv (eps - r + bias) (sh : Nat))
      if band then x.puti (F.PRD_RM_R1 k c) v else x.puti (F.PRD_RM_R0 k c) v) d
    let p := d1.pr k
    let n := (d1.geo k).cyc p.lref
    d1.setPr k { p with upd := if p.updCyc = n then p.upd + 1 else 1, updCyc := n }

/-- Learning the tooth-error entry of position p (R148). -/
def Dev.learnTe (d : Dev) (k p : Nat) (per bhat : Int) (pref : Nat) : Dev :=
  let sigma := rnd (per * 2 ^ 24) bhat
  let target := sigma - 2 ^ 16 + d.errE k pref
  let cl : Int := (min (d.get (F.PRD_TECFG_TE_CLAMP k)) 0x7FFF : Nat)
  let te := d.geti (F.PRD_TE_TE k p)
  (d.puti (F.PRD_TE_TE k p) (clampI (-cl) cl (te + Int.fdiv (target - te) ((2 ^ d.get (F.PRD_TECFG_TE_SH k) : Nat) : Int)))).incSat (F.PRD_TE_NS k p)

/-- The function learn of R136 (R146, R148): per the measured interval, qc its slot period, bhat the trend. -/
def Dev.learn (d : Dev) (k : Nat) (per qc bhat : Int) (cov : List Int) (pref : Nat) : Dev :=
  let p := d.pr k
  let g := d.geo k
  let gate := d.srcState k == 5 && !p.rev && decide (2 ≤ p.nint) && decide (|p.dd| * 4096 ≤ (d.get (F.PRD_LGATE_DMAX k) * p.b : Nat)) && decide (0 < bhat)
  if d.flag (F.PRD_LRN_TE_LRN k) then
    match cov with
    | [b] => if gate && d.teFit k && g.pos b != 0 then d.learnTe k (g.pos b) per bhat pref else d
    | _ => d
  else if gate && d.flag (F.PRD_LRN_RIP_LRN k) && d.ripFit k then d.learnRip k (rnd (qc * 2 ^ 15) bhat - 2 ^ 15) (cov.map g.cslot)
  else d

/-- The update of R136 for an interval of span ss (2^-16 slot) that ends at the record; `plain` takes E = 0 and W = 2^15
(phase steps, R152). DESIGN CHOICE (notes/assumptions/101.md): numbers are unbounded signed integers, where a weight sum of 0
or less, a Bnew beyond 32.8 bits or a B0 below 0 would leave the widths of R131. -/
def Dev.prdUpdate (d : Dev) (k : Nat) (r : ToothRec) (ss : Int) (cov : List Int) (plain : Bool) : Dev :=
  let p := d.pr k
  let g := d.geo k
  let per : Int := (r.stamp : Int) - p.tref
  let pref := g.pos p.bref
  let ssc := if plain then ss else ss + d.errE k (g.pos r.bnd) - d.errE k pref
  let qc := rnd (per * 2 ^ 24) ssc
  let wbar := if plain || cov.isEmpty then 2 ^ 15 else rnd ((cov.map (fun b => d.weight k (g.cslot b))).foldl (· + ·) 0) cov.length
  let bnew := rnd (qc * 2 ^ 15) wbar
  let bhat := p.b0 + rnd (p.dd * (ss + 2 ^ 16)) (2 ^ 17)
  let d1 := if decide (1 ≤ p.nint) && !plain then d.learn k per qc bhat cov pref else d
  let dd :=
    if p.nint = 0 || d.flag (F.PRD_CFG_LIN k) then 0
    else
      let delta := rnd ((bnew - p.b) * 2 ^ 17) (ss + p.ssPrev)
      let d2 := p.dd + Int.fdiv (delta - p.dd) ((2 ^ d.get (F.PRD_CFG_ACC_SH k) : Nat) : Int)
      let lim := rnd (bnew * (d.get (F.PRD_CFG_ACC_MAX k) : Nat)) 256
      clampI (-lim) lim d2
  let p1 := d1.pr k
  (d1.setPr k { p1 with b := bnew.toNat, dd := dd, b0 := bnew + rnd (dd * (ss - 2 ^ 16)) (2 ^ 17), nint := min (p.nint + 1) 255, ssPrev := ss.toNat })

/-- Setting the reference to a record (R152, R540). -/
def Dev.prdSetRef (d : Dev) (k : Nat) (r : ToothRec) : Dev :=
  let p := d.pr k
  let f := if r.kind = .phase then (d.geo k).frac r.bnd r.lin r.rev else 0
  d.setPr k { p with ok := true, tref := r.stamp, bref := r.bnd, lref := r.lin, fref := f, rev := r.rev, nrec := p.nrec + 1, live := !(d.serving k).isEmpty }

/-- Residual of a real tooth (R156). -/
def Dev.prdResid (d : Dev) (k : Nat) (r : ToothRec) : Dev :=
  if d.pv k then
    match d.timeOf k r.lin with
    | .time t =>
      let e := clampI (-(2 ^ 31)) (2 ^ 31 - 1) (8 * r.stamp - t)
      (d.puti (F.PRD_RESID_RES k) e).putMax (F.PRD_RESMAX_MAX k) e.natAbs
    | _ => d
  else d

/-- The cycle that a shaft travelling in direction rev is in at absolute angle x: a boundary reached belongs to the cycle
that begins there in that direction. -/
def Geo.cycFrom (g : Geo) (x : Int) (rev : Bool) : Int := if rev then -(g.cycIdx x true) - 1 else g.cyc x

/-- Cycle-boundary actions (R135, R147) at the end of cycle `ended`. DESIGN CHOICE (notes/assumptions/101.md): where the map
has no entry for every slot (Ms above 1,024), RBIAS stays as it is. -/
def Dev.prdCycle (d : Dev) (k : Nat) (ended : Int) : Dev :=
  let p := d.pr k
  let g := d.geo k
  let band := d.flag (F.PRD_STAT_BAND k)
  let d1 := if p.updCyc = ended && decide (g.ms ≤ 2 * p.upd) && decide (0 < p.upd) then d.incSat (if band then F.PRD_STAT_RCYC1 k else F.PRD_STAT_RCYC0 k) else d
  let mean := fun (b : Bool) => Int.tdiv (((List.range g.ms).map (d.rip k b)).foldl (· + ·) 0) g.ms
  let d2 := if d.ripFit k then (d1.puti (F.PRD_RBIAS_RBIAS0 k) (mean false)).puti (F.PRD_RBIAS_RBIAS1 k) (mean true) else d1
  d2.chooseBand k

/-- The lead engine's work on a tooth record (R126, R135, R136, R152, R156): state update, learning, reference, cycle
boundary. `cross` says that the record is the first at or beyond a cycle boundary. With no engine serving, only the place
of the record is kept, and the first record that an engine takes is a restart. DESIGN CHOICE (notes/assumptions/101.md): an
interval of 2^32 ticks or more raises INT_SAT only where no row above its own in R152 takes the record: not at a synthetic
tooth, a DIR_CHANGE tooth or the interval after it, nor at the return from FALLBACK. -/
def Dev.prdRecord (d : Dev) (k : Nat) (r : ToothRec) (cross : Bool) : Dev :=
  let p := d.pr k
  let per := r.stamp - p.tref
  let cov := coverSet p.bref (if r.kind = .real then d.prdEnd k p.bref r.bnd r.rev else r.bnd) r.rev
  if (d.serving k).isEmpty then ((d.setPr k { p with nint := 0, skip := false }).prdSetRef k r).prdShow k else
  let d0 := if r.kind = .real then d.prdResid k r else d
  let d1 :=
    if r.first || !p.ok || !p.live then (d0.prdRestart k).prdSetRef k r
    else if r.dchg then ((d0.setPr k { p with dd := 0, nint := 0, skip := true }).prdSetRef k r)
    else if p.skip then (d0.setPr k { p with dd := 0, nint := 0, skip := false }).prdSetRef k r
    else if r.fbret then d0.prdSetRef k r
    else match r.kind with
      | .synth => d0.prdSetRef k r
      | .real =>
        if 2 ^ 32 ≤ per then ((d0.raise 7 4 k 1).prdRestart k).prdSetRef k r
        else if cov.isEmpty then d0.prdSetRef k r
        else (d0.prdUpdate k r (cov.length * 2 ^ 16) cov false).prdSetRef k r
      | .phase =>
        if 2 ^ 32 ≤ per then ((d0.raise 7 4 k 1).prdRestart k).prdSetRef k r
        else
          let g := d0.geo k
          let ss := rnd (|r.lin - p.lref| * g.m * 2 ^ 16) revAU
          if ss ≤ 0 then d0.prdSetRef k r else (d0.prdUpdate k r ss cov true).prdSetRef k r
  let d2 := if cross then d1.prdCycle k ((d.geo k).cycFrom p.lref r.rev) else d1
  d2.prdShow k

/-- Clearing learned tables (R150). -/
def Dev.clrTe (d : Dev) (k : Nat) : Dev := { d with reg := d.reg.filter (fun p => !(decide (R.PRD_TE k 0 ≤ p.1) && decide (p.1 < R.PRD_TE k 512))) }

def Dev.clrRip (d : Dev) (k : Nat) (band : Bool) : Dev :=
  let d1 := (List.range 1024).foldl (fun (x : Dev) c =>
    if x.rd (R.PRD_RM k c) = 0 then x else x.put (if band then F.PRD_RM_R1 k c else F.PRD_RM_R0 k c) 0) d
  d1.put (if band then F.PRD_STAT_RCYC1 k else F.PRD_STAT_RCYC0 k) 0

/-! ### Queries (R153-R155) -/

/-- The next occurrence of cycle angle a at or after absolute angle x in direction rev. -/
def Geo.nextOcc (g : Geo) (x : Int) (a : Nat) (rev : Bool) : Int :=
  if rev then x - Int.fmod (x - a) g.len else x + Int.fmod ((a : Int) - x) g.len

/-- The result of a query on tracker k for cycle angle a, from the state in force (R153, R154). -/
def Dev.queryRes (d : Dev) (k a : Nat) : PredRes :=
  let g := d.geo k
  let p := d.pr k
  if !d.pv k || !d.posKnown k || decide (g.len ≤ a) then .nopred
  else d.timeOf k (g.nextOcc p.lref a p.rev)

end Sys2Proof.Machine
end

