-- ==== Sys2Proof/Machine/Wire.lean ====
section
/-! DEFINITION. What a Trellis lane carries (R232, R237, R238, R240): characters, their 8b/10b code groups with running
disparity, the header word, and the characters of a frame. The code tables are those of IEEE 802.3 clause 36, which the
spec names and does not print: PRESUMED (notes/assumptions/105.md). -/

namespace Sys2Proof.Machine

/-- The special characters of R237. -/
def chIdle : Chr := .k 0xBC
def chSof : Chr := .k 0xFB
def chEof : Chr := .k 0xFD
def chAbort : Chr := .k 0xFE
def chSwap : Chr := .k 0xF7

/-- Any other K character is a code violation (R237). -/
def Chr.legal : Chr → Bool
  | .d _ => true
  | c => [chIdle, chSof, chEof, chAbort, chSwap].contains c

/-- Number of ones among the low n bits. -/
def onesOf (n v : Nat) : Nat := ((List.range n).filter (bitOf v)).length

/-- Six-bit groups abcdei of the values 0-31 at negative running disparity, a most significant. -/
def six : List Nat :=
  [0b100111, 0b011101, 0b101101, 0b110001, 0b110101, 0b101001, 0b011001, 0b111000,
   0b111001, 0b100101, 0b010101, 0b110100, 0b001101, 0b101100, 0b011100, 0b010111,
   0b011011, 0b100011, 0b010011, 0b110010, 0b001011, 0b101010, 0b011010, 0b111010,
   0b110011, 0b100110, 0b010110, 0b110110, 0b001110, 0b101110, 0b011110, 0b101011]

/-- Four-bit groups fghj of the values 0-7 at negative running disparity: of data, and of special characters. -/
def fourD : List Nat := [0b1011, 0b1001, 0b0101, 0b1100, 0b1101, 0b1010, 0b0110, 0b1110]
def fourK : List Nat := [0b1011, 0b0110, 0b1010, 0b1100, 0b1101, 0b0101, 0b1001, 0b0111]

/-- A sub-block of n bits at a running disparity, positive when pos is set: the complement of its negative form where it is
unbalanced, or one of those that alternate all the same; and the disparity after it. -/
def subBlock (n g : Nat) (alt pos : Bool) : Nat × Bool :=
  let flip := decide (2 * onesOf n g ≠ n)
  (if pos && (flip || alt) then 2 ^ n - 1 - g else g, xor pos flip)

/-- The code group of a character, a most significant, and the running disparity after it (R232). -/
def Chr.code (c : Chr) (pos : Bool) : Nat × Bool :=
  let v := match c with | .k b => b % 256 | .d b => b % 256
  let x := v % 32
  let y := v / 32
  match c with
  | .k _ =>
    let s := if x = 28 then subBlock 6 0b001111 false pos else subBlock 6 (six.getD x 0) false pos
    let f := subBlock 4 (fourK.getD y 0) true s.2
    (s.1 * 16 + f.1, f.2)
  | .d _ =>
    let s := subBlock 6 (six.getD x 0) (x == 7) pos
    let a7 := y == 7 && (if s.2 then [11, 13, 14].contains x else [17, 18, 20].contains x)
    let f := subBlock 4 (if a7 then 0b0111 else fourD.getD y 0) (y == 3) s.2
    (s.1 * 16 + f.1, f.2)

/-- Code groups of a row of characters. -/
def codeGroups : List Chr → Bool → List Nat × Bool
  | [], pos => ([], pos)
  | c :: r, pos =>
    let g := c.code pos
    let q := codeGroups r g.2
    (g.1 :: q.1, q.2)

/-- An IDLE ordered set (R237). -/
def idleSet : List Chr := [chIdle, .d 0x4A]

/-- CRC-32 of IEEE 802.3 (R238, R353). -/
def crc32 (bytes : List Nat) : Nat := Nat.xor ((bytes.flatMap byteBitsLsb).foldl (crcBitR 0xEDB88320) 0xFFFFFFFF) 0xFFFFFFFF

/-- A header word (R240): TYPE, POS, BC, SEQ, NW. -/
def headerWord (typ pos bc seq nw : Nat) : Nat := typ % 32 * 2 ^ 27 + pos % 4 * 2 ^ 25 + bc % 2 * 2 ^ 24 + seq % 256 * 2 ^ 16 + nw % 256

/-- The characters of a frame (R238): SOF, header and payload words least significant byte first, CRC, EOF. -/
def frameChars (header : Nat) (words : List Nat) : List Chr :=
  let b := wordsBytes (header :: words)
  chSof :: (b ++ leBytes 4 (crc32 b)).map Chr.d ++ [chEof]

/-- The header of a down frame: TIME addresses every tile (R240, R241). -/
def DFrame.header (f : DFrame) : Nat := headerWord f.typ f.pos (if f.typ = 4 then 1 else 0) f.seq f.words.length

/-- The header of an up frame: POS is the position it comes from, in every tile that forwards it too. -/
def UFrame.header (f : UFrame) : Nat := headerWord f.typ f.pos 0 0 f.words.length

def DFrame.chars (f : DFrame) : List Chr := frameChars f.header f.words
def UFrame.chars (f : UFrame) : List Chr := frameChars f.header f.words

/-- Characters of a frame of w payload words. -/
def frameLen (w : Nat) : Nat := 10 + 4 * w

/-- The frame types of R241. -/
def frameType (typ : Nat) : Bool := (decide (1 ≤ typ) && decide (typ ≤ 12)) || (decide (0x11 ≤ typ) && decide (typ ≤ 0x18))

/-- Class of an up frame (R241): U0 to U3. -/
def upClass (typ : Nat) : Nat :=
  if typ = 0x11 || typ = 0x12 then 0 else if typ = 0x13 || typ = 0x14 || typ = 0x15 then 1 else if typ = 0x18 then 3 else 2

/-- Time of one character, in thirds of a FAB cycle (R232). -/
def charTime : Nat := 5

/-- The first character boundary, or the first 25 ns boundary, at or after a time in thirds of a FAB cycle (R232). -/
def onChar (c : Nat) : Nat := (c + 4) / 5 * 5
def on25 (c : Nat) : Nat := (c + 29) / 30 * 30

/-! ### A lane (R232, R237, R238). Between two frames stand IDLE ordered sets of two characters; where an odd number of
characters is left (after an ABORT, for a frame that starts every 25 ns) a comma alone comes first (DESIGN CHOICE,
notes/assumptions/116.md). -/

def lane0 : Lane := ⟨0, 0, false, []⟩

/-- n characters between two frames. -/
def idleFill (n : Nat) : List Chr := (if n % 2 = 1 then [chIdle] else []) ++ (List.replicate (n / 2) idleSet).flatten

/-- Where the next frame can begin at or after time c: after whole IDLE ordered sets, one at least where 512 characters have
gone without one (R238); a TIME or TIMESET on a 25 ns boundary (R248). -/
def Lane.start (l : Lane) (c : Nat) (grid : Bool) : Nat :=
  let m := if 512 ≤ l.run then l.free + 2 * charTime else l.free
  if grid then on25 (max c m) else l.free + (max c m - l.free + 2 * charTime - 1) / (2 * charTime) * (2 * charTime)

/-- Characters are put on a lane from time s on; each comma between flips the running disparity. -/
def Lane.put (l : Lane) (cs : List Chr) (s : Nat) : Lane :=
  let gap := (s - l.free) / charTime
  { free := s + charTime * cs.length, run := (if gap < 2 then l.run + gap else 0) + cs.length
    disp := (codeGroups cs (xor l.disp ((gap + 1) / 2 % 2 == 1))).2, line := l.line ++ [⟨s, cs⟩] }

/-- A lane that repeats another carries its characters from the time on at which it began to. -/
def Lane.copy (l : Lane) (cs : List Chr) (s : Nat) : Lane :=
  let k := (l.free - s) / charTime
  if cs.length ≤ k then l else l.put (cs.drop k) (s + charTime * k)

/-- A lane begins to carry characters at time c. -/
def Lane.fresh (l : Lane) (c : Nat) : Lane := { lane0 with free := onChar c, line := l.line }

/-- A lane carries IDLE ordered sets up to time c. -/
def Lane.idleTo (l : Lane) (c : Nat) : Lane :=
  let s := onChar c
  if s ≤ l.free then l else { l with free := s, run := 0, disp := xor l.disp (((s - l.free) / charTime + 1) / 2 % 2 == 1) }

/-- A lane that repeats another from time c on, the last characters of which may still be on their way. -/
def Lane.joins (l wk : Lane) (c : Nat) : Lane :=
  match wk.line.getLast? with
  | some x => (l.fresh c).copy x.chars x.at_
  | none => l.fresh c

/-- A lane repeats no other from time c on. -/
def Lane.leaves (l : Lane) (c : Nat) : Lane :=
  match l.line.getLast? with
  | some x => { l with free := min l.free (onChar c), line := l.line.dropLast ++ [⟨x.at_, x.chars.take ((onChar c - x.at_) / charTime)⟩] }
  | none => l

/-- The LSWAP marker (R237). -/
def swapMark : List Chr := [chSwap, chSwap]

end Sys2Proof.Machine
end

