-- ==== Sys2Proof/Machine/Link.lean ====
section
/-! DEFINITION. The sending side of the Trellis links (R237-R252): frames, classes, order, SEQ and the window of 16
unacknowledged frames, and the lanes of hop 0 and of the tiles' downstream ports (R234, R276, R277). A frame stays in `tx`
for the time its characters take. Link times are device time in ticks × 8
plus eighths (R243). -/

namespace Sys2Proof.Machine

def lp0 : LPos := ⟨1, [], [], [], [], 0, 0, 0, false, false, false, [], none, false, false, 0, 0⟩
def lnk0 : Link := ⟨[], 0, lane0, lane0, 0, [], 0, false, 0, 0, 0, false, 0, 0⟩

def Dev.lk (d : Dev) (n : Nat) : Link := smGet d.lnk lnk0 n
def Dev.setLk (d : Dev) (n : Nat) (l : Link) : Dev := { d with lnk := smSet d.lnk lnk0 n l }
def Dev.lp (d : Dev) (n p : Nat) : LPos := smGet (d.lk n).pos lp0 p
def Dev.setLp (d : Dev) (n p : Nat) (x : LPos) : Dev :=
  let l := d.lk n
  d.setLk n { l with pos := smSet l.pos lp0 p x }

/-! ### Tiles: their state, and what they repeat downstream -/

/-- A side of a tile at power-on; its upstream port is locked until a loss of lock is told (DESIGN CHOICE,
notes/assumptions/110.md). -/
def side0 : TSide :=
  ⟨0, 0, false, false, false, false, true, false, [], [], [], [], 0, false, 0, [], none, false, false, false, false, 0, 0, 0, 0,
   ⟨[], lane0, lane0, [], []⟩, 0, 0, 0, lane0, lane0⟩
def tout0 : TOut := ⟨none, none, 0, [], false, none, 0⟩
/-- Temperature of a tile at power-on, °C + 64 (notes/assumptions/6.md). -/
def tile0 : Tile := ⟨side0, side0, [], [], 0, 0, 0, false, false, false, false, false, 0, none, 89, false, none⟩

def Dev.tle (d : Dev) (t : Nat) : Tile := smGet d.tile tile0 t
def Dev.setTle (d : Dev) (t : Nat) (x : Tile) : Dev := { d with tile := smSet d.tile tile0 t x }
def Dev.upTle (d : Dev) (t : Nat) (f : Tile → Tile) : Dev := d.setTle t (f (d.tle t))

/-- A side of a tile: false A, true B. -/
def Tile.side (x : Tile) (sd : Bool) : TSide := if sd then x.b else x.a
def Tile.setSide (x : Tile) (sd : Bool) (y : TSide) : Tile := if sd then { x with b := y } else { x with a := y }
def Dev.ts (d : Dev) (t : Nat) (sd : Bool) : TSide := (d.tle t).side sd
def Dev.upTs (d : Dev) (t : Nat) (sd : Bool) (f : TSide → TSide) : Dev := d.upTle t (fun x => x.setSide sd (f (x.side sd)))

/-- The side this device drives (R235). -/
def Dev.mySide (d : Dev) : Bool := d.flag F.TLK_GCFG_SIDE

/-- The side repeats downstream what it receives: its port is open and its upstream port locked (R234, R362). -/
def TSide.repeats (s : TSide) : Bool := s.dsopen && s.locked

/-- Every tile of link n up to position p repeats on this device's side. -/
def Dev.chainTo (d : Dev) (n p : Nat) : Bool := (List.range (p + 1)).all (fun q => (d.ts (4 * n + q) d.mySide).repeats)

/-- LSWAP goes on the working and the spare lane at time s, and the two exchange their parts; each record goes on as that of
its part. -/
def swapLanes (wk sp : Lane) (s : Nat) : Lane × Lane :=
  let a := wk.put swapMark s
  let b := (sp.idleTo s).put swapMark s
  ({ b with line := a.line }, { a with line := b.line })

/-- A swap of the downstream port's lanes that waits is carried out at the end of the last characters (R277). -/
def TSide.swapDue (s : TSide) (c : Nat) : TSide :=
  if s.dueDn = 0 then s
  else let x := swapLanes s.dn s.dsp (s.dn.start c false); { s with dn := x.1, dsp := x.2, dueDn := s.dueDn - 1 }

/-- Characters go out on a side's downstream port: a mirrored spare carries the same (R276). -/
def TSide.putDn (s : TSide) (cs : List Chr) (at_ : Nat) : TSide :=
  { s with dn := s.dn.copy cs at_, dsp := if s.mirror then s.dsp.copy cs at_ else s.dsp }

/-- The tiles of link n repeat characters of hop 0 (R234), `whole` saying that a frame ends with them; an LSWAP marker is
of its hop alone (R277). The time on a hop is not counted (notes/assumptions/110.md). -/
def Dev.repeatDn (d : Dev) (n : Nat) (whole : Bool) (x : Sent) : Dev :=
  if x.chars == swapMark then d
  else (List.range 3).foldl (fun (y : Dev) p =>
    if d.chainTo n p then y.upTs (4 * n + p) d.mySide (fun s => if whole then (s.putDn x.chars x.at_).swapDue (x.at_ + charTime * x.chars.length) else s.putDn x.chars x.at_)
    else y) d

/-- Power domain k is up: ON or DRAIN (R37). -/
def Dev.domUp (d : Dev) (k : Nat) : Bool := decide (2 ≤ d.get (F.PWR_DOM_STAT_STATE k))

/-- The link group of link n is powered. -/
def Dev.lgOn (d : Dev) (n : Nat) : Bool := d.domUp (1 + n / 4)

/-- State of position p (R270): 0 EMPTY, 1 FOUND, 2 TIMED, 3 ATTACHED, 4 LOST, 5 REFUSED. -/
def Dev.pstate (d : Dev) (n p : Nat) : Nat := d.get (F.TLK_POS_STATE n p)

/-- The tile at position p is addressed: FOUND, TIMED or ATTACHED. -/
def Dev.reached (d : Dev) (n p : Nat) : Bool := decide (1 ≤ d.pstate n p) && decide (d.pstate n p ≤ 3)

/-- The link group of link n drains (R506). -/
def Dev.lgDrain (d : Dev) (n : Nat) : Bool := d.get (F.PWR_DOM_STAT_STATE (1 + n / 4)) == 3

/-- Tile t is present (R192): attached, its link group powered and not draining (R506). -/
def Dev.tilePresent (d : Dev) (t : Nat) : Bool := d.abit (R.TLK_ATTACHED 0) t && d.lgOn (t / 4) && !d.lgDrain (t / 4)

/-- Bit of tile t in TLK_TPWR_EN0 or 1. -/
def Dev.tpwr (d : Dev) (t : Nat) : Bool := d.bit (R.TLK_TPWR_EN (t / 32)) (t % 32)

/-- Class of a down frame (R241). -/
def frameClass (typ : Nat) : Nat :=
  if typ = 2 || typ = 3 then 0 else if typ = 4 || typ = 5 || typ = 6 then 1 else if typ = 1 then 2 else 3

/-- f is sent before g (R246). -/
def DFrame.before (f g : DFrame) : Bool :=
  let cf := frameClass f.typ
  let cg := frameClass g.typ
  decide (cf < cg) || (cf == cg && (cf == 0 || cf == 2) && decide (f.key < g.key))

/-- Insertion in sending order, behind equals. -/
def insFrame (f : DFrame) : List DFrame → List DFrame
  | [] => [f]
  | g :: r => if f.before g then f :: g :: r else g :: insFrame f r

/-- Insertion of a frame that was cut short, ahead of its equals, which were issued later (R246, R247). -/
def insAborted (f : DFrame) : List DFrame → List DFrame
  | [] => [f]
  | g :: r => if g.before f then g :: insAborted f r else f :: g :: r

/-- Time a frame takes on the lane, in thirds of a FAB cycle (R232, R238). -/
def DFrame.span (f : DFrame) : Nat := charTime * frameLen f.words.length

/-- A frame whose transmission starts at time c: TIME and TIMESET carry the stamp of their start (R243, R247, R248); `off`
ticks lie between the start of the FAB count and of device time. -/
def DFrame.stamped (f : DFrame) (off : Int) (c : Nat) : DFrame :=
  if f.typ = 4 || f.typ = 5 then
    let t := (((c / 6 : Nat) : Int) - off).toNat
    { f with words := (t % 2 ^ 32) :: (t / 2 ^ 32 % 2 ^ 32) :: f.words.drop 2 }
  else f

/-- TIME and TIMESET start on a 25 ns boundary (R248). -/
def DFrame.grid (f : DFrame) : Bool := f.typ == 4 || f.typ == 5

/-- Characters go on the working lane of hop 0, and on the spare while it is mirrored (R276). -/
def Link.put (l : Link) (m : Bool) (cs : List Chr) (s : Nat) : Link :=
  { l with wk := l.wk.put cs s, sp := if m then l.sp.copy cs s else l.sp }

/-- Swaps that wait are carried out, at or after time c (R277). -/
def Link.swapDue (l : Link) (c : Nat) : Link :=
  (List.range l.due).foldl (fun x _ => let y := swapLanes x.wk x.sp (x.wk.start c false); { x with wk := y.1, sp := y.2, due := x.due - 1 }) l

/-- The first of `tx` is the next to be sent, at or after time c. -/
def Link.begin (l : Link) (off : Int) (c : Nat) : Link :=
  match l.tx with
  | [] => l
  | f :: r => let s := l.wk.start c f.grid; { l with tx := f.stamped off s :: r, since := s }

/-- Frames whose transmission has ended leave `tx` (R232, R246), and a swap that waits comes between two (R277); c is the
present. -/
def txRun (off : Int) (m : Bool) (c : Nat) : Nat → Link → Link
  | 0, l => l
  | k + 1, l =>
    match l.tx with
    | [] => l
    | f :: r =>
      let e := l.since + f.span
      if e ≤ c then txRun off m c k (((({ l with tx := r } : Link).put m f.chars l.since).swapDue e).begin off e) else l

/-- Characters of the frame in transmission that have gone out by time c. -/
def Link.partOf (l : Link) (c : Nat) : Sent :=
  match l.tx with
  | f :: _ => ⟨l.since, f.chars.take ((onChar c - l.since) / charTime)⟩
  | [] => ⟨c, []⟩

/-- Ticks between the FAB count and device time. -/
def Dev.fabOff (d : Dev) : Int := (d.fab / 2 : Nat) - (d.now : Int)

/-- The spare of hop 0 down is mirrored. -/
def Dev.laneMirror (d : Dev) (n : Nat) : Bool := d.flag (F.TLK_LANE_MIRROR n)

/-- Link n after its lane has gone on to l: the tiles repeat what is new. -/
def Dev.setLane (d : Dev) (n : Nat) (l : Link) : Dev :=
  (l.wk.line.drop (d.lk n).wk.line.length).foldl (fun (x : Dev) e => x.repeatDn n true e) (d.setLk n l)

/-- The lane of link n up to the present. -/
def Dev.txNow (d : Dev) (n : Nat) : Dev := d.setLane n (txRun d.fabOff (d.laneMirror n) (3 * d.fab) (d.lk n).tx.length (d.lk n))

/-- The lane of link n up to the present, the characters sent of the frame in transmission too: before a port opens or
closes, or a spare begins or ends to mirror. -/
def Dev.lanesNow (d : Dev) (n : Nat) : Dev :=
  let d1 := d.txNow n
  let l := d1.lk n
  let x := l.partOf (3 * d1.fab)
  if x.chars.isEmpty then d1
  else (d1.setLk n { l with sp := if d1.laneMirror n then l.sp.copy x.chars x.at_ else l.sp }).repeatDn n false x

/-- The device keeps its link and mirror lanes silent (R368): in HOLDOVER, in a reset of the core domain. -/
def Dev.silent (d : Dev) : Bool := d.clk.hold || d.rst.core

/-- Frame f cuts short the first of `tx` at time c (R247): the character in flight is completed, ABORT follows, and f is
next. -/
def Link.abort (l : Link) (off : Int) (m : Bool) (c : Nat) (f : DFrame) : Link :=
  match l.tx with
  | [] => l
  | h :: r =>
    let e := onChar c
    ((({ l with tx := f :: insAborted h r } : Link).put m (h.chars.take ((e - l.since) / charTime) ++ [chAbort]) l.since).begin off (e + charTime))

/-- A frame becomes ready (R246, R247): one that goes before the first of `tx` takes its place while that has not started, and
a D0 frame cuts it short. A draining link takes only TIME frames and retransmissions (R506). -/
def Dev.txAdd (d : Dev) (n : Nat) (f : DFrame) : Dev :=
  if d.silent || (d.lgDrain n && f.typ != 4 && f.retr == 0) then d else
  let d1 := d.txNow n
  let l := d1.lk n
  let c := 3 * d1.fab
  match l.tx with
  | [] => d1.setLk n ({ l with tx := [f] }.begin d1.fabOff c)
  | h :: r =>
    if f.before h && decide (c ≤ l.since) then d1.setLk n ({ l with tx := f :: h :: r }.begin d1.fabOff c)
    else if frameClass f.typ = 0 && f.before h then (d1.setLane n (l.abort d1.fabOff (d1.laneMirror n) c f)).incSat (F.TLK_CNT1_ABORTS n)
    else d1.setLk n { l with tx := h :: insFrame f r }

/-- A frame that needs no acknowledgement. -/
def Dev.sendUn (d : Dev) (n p typ : Nat) (words : List Nat) : Dev := d.txAdd n ⟨p, typ, 0, words, 0, 0, 0, d.now, 0⟩

/-- Profiles a COMMIT names. -/
def commitPrfs : List Nat → List Nat
  | _ :: m :: _ :: _ :: r => m / 2 ^ 24 :: commitPrfs r
  | _ => []

/-- May the frame leave (R295). -/
def LPos.free (x : LPos) (f : DFrame) : Bool := !(f.typ == 1 && (commitPrfs (f.words.drop 2)).any (fun p => x.prfs.contains p))

/-- SEQ after s (R249). -/
def nextSeq (s : Nat) : Nat := if s = 255 then 1 else s + 1

/-- Waiting frames move into the window of 16 (R249). -/
def Dev.pump (d : Dev) (n p : Nat) : Nat → Dev
  | 0 => d
  | k + 1 =>
    let x := d.lp n p
    match x.wait.find? x.free with
    | some f =>
      if x.unack.length < 16 && !d.lgDrain n then
        let f1 := { f with seq := x.nextSeq }
        ((d.setLp n p { x with nextSeq := nextSeq x.nextSeq, unack := x.unack ++ [f1], wait := x.wait.erase f }).txAdd n f1).pump n p k
      else d
    | none => d

/-- A reliable frame is issued. -/
def Dev.sendRel (d : Dev) (n p typ : Nat) (words : List Nat) (key : Int) (uid pm : Nat) : Dev :=
  let x := d.lp n p
  let x1 := { x with wait := insFrame ⟨p, typ, 0, words, key, uid, pm, d.now, 0⟩ x.wait
                     prfs := if typ = 10 then x.prfs ++ [words.getD 0 0 % 256] else x.prfs }
  (d.setLp n p x1).pump n p x1.wait.length

/-- Frames of sel are no longer to be sent; the one in transmission is completed. -/
def Dev.txDrop (d : Dev) (n : Nat) (sel : DFrame → Bool) : Dev :=
  let d1 := d.txNow n
  let l := d1.lk n
  d1.setLk n { l with tx := match l.tx with | [] => [] | h :: r => h :: r.filter (fun f => !sel f) }

/-- A draining link (R506): of the frames that have not begun, only TIME frames and retransmissions stay to be sent, and the
others await no acknowledgement. -/
def Dev.txDrain (d : Dev) (n : Nat) : Dev :=
  let d1 := d.txNow n
  let l := d1.lk n
  let c := 3 * d1.fab
  let stays := fun (f : DFrame) => f.typ == 4 || f.retr != 0
  let begun := if l.since < c then l.tx.take 1 else []
  let rest := l.tx.drop begun.length
  let tx := begun ++ rest.filter stays
  let d2 := d1.setLk n (if begun.isEmpty then { l with tx := tx }.begin d1.fabOff c else { l with tx := tx })
  (rest.filter (fun f => !stays f)).foldl (fun (x : Dev) f =>
    let p := x.lp n f.pos
    x.setLp n f.pos { p with unack := p.unack.filter (fun g => g.seq != f.seq) }) d2

/-- Everything in hand for position p is dropped (a loss, R273). -/
def Dev.linkForget (d : Dev) (n p : Nat) : Dev :=
  let d1 := d.txDrop n (fun f => f.pos == p)
  let x := d1.lp n p
  d1.setLp n p { lp0 with rst := true, temp := x.temp, failD := x.failD, failU := x.failU }

/-- Low and high word of a 48-bit link time. -/
def lt48 (t : Int) : Nat × Nat := (ofS 48 t % 2 ^ 32, ofS 48 t / 2 ^ 32)

/-- The value nearest to `near` that agrees with v in its low w bits (R242). -/
def nearest (w : Nat) (near : Int) (v : Nat) : Int :=
  let m : Int := (2 ^ w : Nat)
  let r := (v : Int) % m
  let c := near - Int.emod near m + r
  if c - near > m / 2 then c - m else if near - c > m / 2 then c + m else c

/-- Device time in link units (R243), and in 1/16 UI (192 to a tick). -/
def Dev.tLink (d : Dev) : Int := 8 * d.now
def Dev.tSub (d : Dev) : Int := 192 * d.now

/-- REGWR of a tile register (R243, R286). -/
def Dev.sendRegwr (d : Dev) (t addr data : Nat) : Dev :=
  if d.reached (t / 4) (t % 4) then d.sendRel (t / 4) (t % 4) 8 [addr, data] 0 0 0 else d

/-! ### What the mirror link sends (R334, R335) -/

/-- A mirror frame leaves: header word with TYPE, SEQ and NW, then the payload, on both lanes (R333, R334). MTIME starts on a
25 ns boundary and carries the time of its SOF (R335). -/
def Dev.mirSend (d : Dev) (typ : Nat) (words : List Nat) : Dev :=
  let m := d.mir
  if d.silent then d
  else
    let s := m.lane.start (3 * d.fab) (typ == 2)
    let t := (((s / 6 : Nat) : Int) - d.fabOff).toNat
    let ws := if typ = 2 then [t % 2 ^ 32, t / 2 ^ 32 % 2 ^ 32] else words
    let h := headerWord typ 0 0 m.tx ws.length
    { d with mir := { m with out := m.out ++ [h :: ws], lane := m.lane.put (frameChars h ws) s, tx := (m.tx + 1) % 256 } }

/-- ELIG of a pair state (R341). -/
def eligOf (st : Nat) : Nat := if st = 1 || st = 3 || st = 4 then 0 else 1

/-- TILE_DUP.ELIG of tile t is written (R341). -/
def Dev.sendElig (d : Dev) (t : Nat) : Dev := d.sendRegwr t 0x10 (eligOf d.mirState)

end Sys2Proof.Machine
end

