-- ==== Sys2Proof/Machine/Sched.lean ====
section
/-! DEFINITION. The scheduler (R160-R203): preparation of ranges, candidates, commits, amends, cancels and outcomes.
Starts and ends are eighths of a tick, which is link units (R243). -/

namespace Sys2Proof.Machine

def ones0 : Ones := ⟨[], [], 0⟩
def schT0 : SchT := ⟨[], [], false, false, [], ones0, ones0, [], none, none, false⟩
def Dev.scht (d : Dev) (k : Nat) : SchT := smGet d.sch.trk schT0 k
def Dev.setScht (d : Dev) (k : Nat) (s : SchT) : Dev := { d with sch := { d.sch with trk := smSet d.sch.trk schT0 k s } }

/-! ### Descriptors (R164) -/

/-- The words of descriptor idx of a bank. -/
structure Desc where
  w0 : Nat
  w1 : Nat
  w2 : Nat
  w3 : Nat
  w4 : Nat
  w5 : Nat
  w6 : Nat
deriving DecidableEq, Repr

/-- BAR0 offset of a descriptor. -/
def descAddr (bank : Bool) (idx : Nat) : Nat := 0x200000 + (if bank then 0x40000 else 0) + 32 * idx

def Dev.desc (d : Dev) (bank : Bool) (idx : Nat) : Desc :=
  let a := descAddr bank idx
  let w := fun i => memRead d.mem (a + 4 * i) 4
  ⟨w 0, w 1, w 2, w 3, w 4, w 5, w 6⟩

def Desc.valid (e : Desc) : Bool := bitOf e.w0 31
def Desc.kind (e : Desc) : Nat := bits e.w0 30 29
def Desc.dirq (e : Desc) : Nat := bits e.w0 28 27
def Desc.cycq (e : Desc) : Nat := bits e.w0 26 25
def Desc.trk (e : Desc) : Nat := bits e.w0 24 21
def Desc.ch (e : Desc) : Nat := bits e.w0 20 12
def Desc.prf (e : Desc) : Nat := bits e.w0 7 0
def Desc.cycn (e : Desc) : Nat := bits e.w1 31 28
def Desc.cycph (e : Desc) : Nat := bits e.w1 27 24
def Desc.anchor (e : Desc) : Nat := bits e.w1 23 0
def Desc.offset (e : Desc) : Int := toS 32 e.w2
def Desc.dur (e : Desc) : Nat := e.w3
def Desc.endA (e : Desc) : Nat := bits e.w3 23 0
def Desc.pgate (e : Desc) : Bool := bitOf e.w4 31
def Desc.psense (e : Desc) : Bool := bitOf e.w4 30
def Desc.sp (e : Desc) : Nat := bits e.w4 29 24
def Desc.nextEn (e : Desc) : Bool := bitOf e.w4 15
def Desc.next (e : Desc) : Nat := bits e.w4 12 0
def Desc.clen (e : Desc) : Bool := bitOf e.w5 31
def Desc.cslot (e : Desc) : Nat := bits e.w5 25 24
def Desc.ctgt (e : Desc) : Nat := bits e.w5 23 0
def Desc.tag (e : Desc) : Nat := bits e.w6 31 16
def Desc.fine (e : Desc) : Nat := bits e.w6 2 0

/-- The check of R166 that the descriptor fails by itself (1-5), or 0. DESIGN CHOICE (notes/assumptions/98.md): of several
checks failed, the one with the lowest number is recorded. -/
def Desc.reason (e : Desc) (k len : Nat) : Nat :=
  let chain := e.kind == 2
  if e.kind = 3 then 1
  else if !chain && (e.dirq == 3 || e.cycq == 3 || (e.cycq == 1 && decide (e.cycn < e.cycph))) then 2
  else if e.trk ≠ k then 3
  else if !chain && (decide (len ≤ e.anchor) || (e.kind == 1 && (decide (len ≤ e.endA) || e.endA == e.anchor))) then 4
  else if (e.kind != 1 && (e.dur == 0 || decide (2 ^ 31 ≤ e.dur))) || (chain && decide (e.offset < 0)) then 5
  else 0

/-- The chain from a head, or none where it leaves the range, meets a descriptor that is no valid CHAIN, loops, or
exceeds 8 pulses (R166 reason 6). -/
def Dev.chainOf (d : Dev) (bank : Bool) (base count : Nat) : Nat → List Nat → Nat → Option (List Nat)
  | 0, _, _ => none
  | fuel + 1, acc, idx =>
    let e := d.desc bank idx
    let acc1 := acc ++ [idx]
    if !e.nextEn then some acc1
    else
      let nx := e.next
      let f := d.desc bank nx
      if decide (base ≤ nx) && decide (nx < base + count) && f.valid && f.kind == 2 && !acc1.contains nx then d.chainOf bank base count fuel acc1 nx
      else none

/-- The CHAIN descriptors that following NEXT from idx meets, whatever their number: until the chain ends, leaves the range,
meets a descriptor that is no valid CHAIN, or comes back (R166 reason 6, sharing). -/
def Dev.chainWalk (d : Dev) (bank : Bool) (base count : Nat) : Nat → List Nat → Nat → List Nat
  | 0, acc, _ => acc
  | fuel + 1, acc, idx =>
    let e := d.desc bank idx
    let nx := e.next
    let f := d.desc bank nx
    if e.nextEn && decide (base ≤ nx) && decide (nx < base + count) && f.valid && f.kind == 2 && !acc.contains nx then
      d.chainWalk bank base count fuel (acc ++ [nx]) nx
    else acc

/-! ### Preparation (R162, R165-R167) -/

def Dev.rangeOf (d : Dev) (k : Nat) (sh : Bool) : Bool × Nat × Nat :=
  let r := fun a => if sh then d.rdS a else d.rd a
  (fldGet (F.SCH_TRK_CTL_BANK k) (r (R.SCH_TRK_CTL k)) == 1, fldGet (F.SCH_TRK_RANGE_BASE k) (r (R.SCH_TRK_RANGE k)),
    fldGet (F.SCH_TRK_RANGE_COUNT k) (r (R.SCH_TRK_RANGE k)))

/-- The shadow range of tracker k: its live range in the other bank (R160). -/
def Dev.shadowRange (d : Dev) (k : Nat) : Bool × Nat × Nat :=
  let r := d.rangeOf k false
  (!r.1, r.2.1, r.2.2)

def inRange (r : Bool × Nat × Nat) (bank : Bool) (idx : Nat) : Bool :=
  r.1 == bank && decide (r.2.1 ≤ idx) && decide (idx < r.2.1 + r.2.2)

def rangesMeet (x y : Bool × Nat × Nat) : Bool :=
  x.1 == y.1 && decide (0 < x.2.2) && decide (0 < y.2.2) && decide (x.2.1 < y.2.1 + y.2.2) && decide (y.2.1 < x.2.1 + x.2.2)

/-- The geometry of tracker k with the cycle length in force, or the one that a waiting swap brings (R53). -/
def Dev.geoOf (d : Dev) (k : Nat) (sh : Bool) : Geo :=
  if sh then { d.geo k with revs := if fldGet (F.TRK_CFG_CYC720 k) (d.rdS (R.TRK_CFG k)) == 1 then 2 else 1 } else d.geo k

/-- Does the range break R162? -/
def Dev.rangeBad (d : Dev) (k : Nat) (r : Bool × Nat × Nat) : Bool :=
  decide (8192 < r.2.1 + r.2.2) || (List.range 16).any (fun j => j != k &&
    (rangesMeet r (d.rangeOf j false) || ((d.tk j).pend.isSome && rangesMeet r (d.rangeOf j true))))

/-- A descriptor refused at preparation: recorded and counted (R166). -/
def Dev.descBad (d : Dev) (k : Nat) (bank : Bool) (idx reason : Nat) : Dev :=
  let d1 := (((d.put F.SCH_DESC_ERR_REASON reason).put F.SCH_DESC_ERR_TRK k).putB F.SCH_DESC_ERR_BANK bank).put F.SCH_DESC_ERR_IDX idx
  if reason = 8 then d1 else (d1.incSat (F.SCH_TRK_CNT2_BAD k)).raise 8 1 k 1

def cntOf (m : SMap Nat) (k : Nat) : Nat := smGet m 0 k

/-- Insertion of a head in order of anchor, behind equals. -/
def insHead (h : Head) : List Head → List Head
  | [] => [h]
  | g :: r => if h.anchor < g.anchor then h :: g :: r else g :: insHead h r

/-- The heads of a range as its descriptors now stand. -/
def Dev.rangeHeads (d : Dev) (bank : Bool) (base count : Nat) : List Nat :=
  ((List.range count).map (base + ·)).filter (fun i => (d.desc bank i).valid && decide ((d.desc bank i).kind < 2))

/-- Preparing a range of tracker k under cycle length len: the armed heads sorted by anchor. DESIGN CHOICE
(notes/assumptions/98.md): a chained descriptor that fails a check of its own is reported for itself alone; its head is not
armed and has no DESC_BAD of its own, reason 6 being for a descriptor that is no CHAIN or not VALID. -/
def Dev.prepare (d : Dev) (k len : Nat) (r : Bool × Nat × Nat) : Dev × List Head :=
  let bank := r.1
  let base := r.2.1
  let count := r.2.2
  if d.rangeBad k r then ((d.descBad k bank base 8).causeOn 8 2 k 2, [])
  else
    let ids := (List.range count).map (base + ·)
    let own := ids.filter (fun i => (d.desc bank i).valid)
    let uses : SMap Nat := (d.rangeHeads bank base count).foldl (fun m i => (d.chainWalk bank base count count [] i).foldl (fun m2 j => smSet m2 0 j (cntOf m2 j + 1)) m) []
    own.foldl (fun (acc : Dev × List Head) i =>
      let e := d.desc bank i
      let rs := e.reason k len
      if rs ≠ 0 then (acc.1.descBad k bank i rs, acc.2)
      else if decide (2 ≤ e.kind) then acc
      else match d.chainOf bank base count 8 [] i with
        | none => (acc.1.descBad k bank i 6, acc.2)
        | some l =>
          if (l.drop 1).any (fun j => decide (1 < cntOf uses j)) then (acc.1.descBad k bank i 6, acc.2)
          else if l.any (fun j => (d.desc bank j).reason k len ≠ 0) then acc
          else (acc.1, insHead ⟨bank, i, l, e.anchor⟩ acc.2)) (d.causeOff 8 2 k, [])

/-- A head with its chain as its descriptors now stand, where they pass every check of R166 (R202). -/
def Dev.headNow (d : Dev) (k : Nat) (h : Head) (incoming : Bool) : Option Head :=
  let r := d.rangeOf k incoming
  match d.chainOf h.bank r.2.1 r.2.2 8 [] h.idx with
  | none => none
  | some l =>
    let shared := l.length != 1 && (d.rangeHeads h.bank r.2.1 r.2.2).any (fun g =>
      g != h.idx && (d.chainWalk h.bank r.2.1 r.2.2 r.2.2 [] g).any (fun j => l.contains j))
    if !shared && l.all (fun i => let e := d.desc h.bank i; e.valid && e.reason k (d.geoOf k incoming).len == 0) then some { h with chain := l } else none

/-- Channels a list of heads names. -/
def Dev.headChans (d : Dev) (hs : List Head) : List Nat := hs.flatMap (fun h => h.chain.map (fun i => (d.desc h.bank i).ch))

/-- Channels that the armed descriptors of tracker k name, chains as they now stand (R195, R202). -/
def Dev.namedChans (d : Dev) (k : Nat) : List Nat :=
  let s := d.scht k
  let now := fun (inc : Bool) (h : Head) => (d.headNow k h inc).getD h
  d.headChans (s.armed.map (now false) ++ (if d.flag (F.SCH_TRK_CTL_EN k) then s.armedIn.map (now true) else []))

/-- Ownership after a change of what is armed (R195): a channel stays with its tracker while that tracker names it. DESIGN
CHOICE (notes/assumptions/98.md): of several trackers that name a released channel, the lowest-numbered one takes it. -/
def Dev.reown (d : Dev) : Dev :=
  let names := (List.range 16).map (fun k => (k, d.namedChans k))
  let kept : SMap Nat := d.sch.owner.filter (fun p => (names.find? (fun q => q.1 + 1 == p.2)).elim false (fun q => q.2.contains p.1))
  let own := names.foldl (fun m q => q.2.foldl (fun m2 c => if cntOf m2 c = 0 then smSet m2 0 c (q.1 + 1) else m2) m) kept
  let d1 : Dev := { d with sch := { d.sch with owner := own } }
  let d2 := (List.range 16).foldl (fun (x : Dev) k =>
    x.put (F.SCH_TRK_STAT_ARMED k) (((x.scht k).armed.map (fun h => h.chain.length)).foldl (· + ·) 0)) d1
  let d3 := d2.put F.SCH_GSTAT_ARMED (((List.range 16).map (fun k => d2.get (F.SCH_TRK_STAT_ARMED k))).foldl (· + ·) 0)
  (List.range 16).foldl (fun (x : Dev) k =>
    if x.hasCause 8 6 k && !((d.namedChans k).any (fun c => cntOf own c ≠ k + 1)) then x.causeOff 8 6 k else x) d3

/-- Vintage of tracker k (R53). -/
def Dev.trkVint (d : Dev) (k : Nat) : Nat := d.get (if k % 2 = 0 then F.SYS_TRK_VINT_EVEN (k / 2) else F.SYS_TRK_VINT_ODD (k / 2))

/-! ### Outcomes (R203) -/

/-- Counting an outcome on tracker k (SCH_TRKk_CNT0-2, EXEC). -/
def Dev.countOutcome (d : Dev) (k oc : Nat) : Dev :=
  match oc with
  | 3 => d.incSat (F.SCH_TRK_CNT0_GATED k)
  | 4 | 5 | 6 | 12 => d.incSat (F.SCH_TRK_CNT1_CANCEL k)
  | 7 | 8 => d.incSat (F.SCH_TRK_CNT1_NOTILE k)
  | 9 => d.incSat (F.SCH_TRK_CNT2_REFUSED k)
  | 10 => d.incSat (F.SCH_TRK_CNT2_OVERLAP k)
  | 11 => d.incSat (F.SCH_TRK_CNT2_OWNER k)
  | 0 | 1 => d.incWrap (F.SCH_TRK_EXEC_EXEC k)
  | _ => d

/-- One outcome record (R203). -/
def Dev.outcomeRec (d : Dev) (o : Occ) (p : OPulse) (oc : Nat) (start : Int) : Dev :=
  if o.force || !d.flag F.SCH_GCFG_HIST then d
  else
    let w0 := oc * 2 ^ 28 + p.pidx * 2 ^ 25 + b2n o.bank * 2 ^ 24 + o.trk * 2 ^ 20 + p.idx
    let w2 := p.ch * 2 ^ 23 + b2n o.rev * 2 ^ 22 + ofS 22 o.cyc
    let r := d.stream 1 0 [w0, o.vint * 2 ^ 16 + p.tag, w2, ofS 32 start]
    if r.2 then r.1.incSat F.SCH_GSTAT_HISTLOST else r.1

/-- The vintage that a pending swap of tracker k brings, if one pends. -/
def Dev.vintIn (d : Dev) (k : Nat) : Option Nat := (d.tk k).pend.map (fun p => p.vint)

def Ones.spend (x : Ones) (i : Nat) : Ones := { x with spent := i :: x.spent.filter (· != i) }

/-- The last handled occurrence of a descriptor that the live or the incoming range holds (R168), or that has kept its index
since the occurrence was built (R201), and a spent ONCE head of the preparation the occurrence was built from (R169). -/
def Dev.markHandled (d : Dev) (o : Occ) : Dev :=
  if o.force then d
  else
    let k := o.trk
    let s := d.scht k
    let inc := d.vintIn k == some o.vint
    let r := d.rangeOf k inc
    let known := o.stays && inRange r r.1 o.idx
    let built := fun (x : Ones) => o.once && decide (x.since ≤ o.uid)
    d.setScht k { s with
      handled := if known then (o.idx, o.anchor) :: s.handled.filter (fun p => p.1 != o.idx) else s.handled
      firsts := s.firsts.filter (fun p => p.1 != o.idx || p.2.1 != o.anchor)
      ones := if built s.ones && !inc && o.vint == d.trkVint k then s.ones.spend o.idx else s.ones
      onesIn := if built s.onesIn && inc then s.onesIn.spend o.idx else s.onesIn }

/-- The first start that the scheduler obtained for an occurrence of descriptor idx at anchor a (R203). -/
def SchT.firstOf (s : SchT) (idx : Nat) (a : Int) : Option Int :=
  (s.firsts.find? (fun p => p.1 == idx && p.2.1 == a)).map (fun p => p.2.2)

/-- A start is obtained for an occurrence not yet committed: the first one is kept. -/
def Dev.noteStart (d : Dev) (k idx : Nat) (a t : Int) : Dev :=
  let s := d.scht k
  if (s.firstOf idx a).isSome then d
  else d.setScht k { s with firsts := (idx, a, t) :: s.firsts }

def Dev.occ? (d : Dev) (uid : Nat) : Option Occ := d.sch.occs.find? (fun o => o.uid == uid)

def Dev.setOcc (d : Dev) (o : Occ) : Dev :=
  { d with sch := { d.sch with occs := d.sch.occs.map (fun x => if x.uid == o.uid then o else x) } }

/-- The end of a pulse that o ends with, in a record of the pulse before on a channel (R196). -/
def Occ.lastKnown (o : Occ) (q : Nat × Nat × Int) : Nat × Nat × Int :=
  if q.1 = o.uid then (q.1, q.2.1, (o.pulses.find? (fun x => x.pidx == q.2.1)).elim q.2.2 (fun x => x.stop)) else q

/-- Occurrence uid is no more; the ends of its pulses, as last amended, stay known to the pulses after them (R196). -/
def Dev.delOcc (d : Dev) (uid : Nat) : Dev :=
  let rest := d.sch.occs.filter (fun x => x.uid != uid)
  match d.occ? uid with
  | none => { d with sch := { d.sch with occs := rest } }
  | some o =>
    let upd := fun (x : Occ) => { x with pulses := x.pulses.map (fun p => { p with prev := p.prev.map o.lastKnown }) }
    { d with sch := { d.sch with occs := rest.map upd, lastEnd := d.sch.lastEnd.map (fun p => (p.1, p.2.map o.lastKnown)) } }

/-- Starts of a chain whose head starts at t (R171, R174), by position. -/
def chainStarts : List OPulse → Int → Bool → List Int
  | [], _, _ => []
  | p :: r, t, isHead =>
    let s := if isHead then t else t + p.ofs
    s :: chainStarts r s false

/-- Occurrence o is dropped before any commit: every pulse is reported with outcome oc, and with the first start obtained
for it, 0 where none was (R203). -/
def Dev.dropUncommitted (d : Dev) (o : Occ) (oc : Nat) : Dev :=
  let starts := match (d.scht o.trk).firstOf o.idx o.anchor with
    | some t => chainStarts o.pulses t true
    | none => []
  let d1 := (o.pulses.zipIdx).foldl (fun (x : Dev) p => x.outcomeRec o p.1 oc (starts.getD p.2 0)) d
  (d1.countOutcome o.trk oc).markHandled o

/-- Every pulse has its outcome; 100 + outcome marks a pulse whose CANCEL is not acknowledged yet (R251). -/
def Occ.settled (o : Occ) : Bool := o.pulses.all (fun p => p.status.elim false (fun c => decide (c < 100)))

/-- The pulses of sel of a committed occurrence end with outcome oc; an occurrence with no pulse left is handled. -/
def Dev.finish (d : Dev) (uid oc : Nat) (sel : OPulse → Bool) : Dev :=
  match d.occ? uid with
  | none => d
  | some o =>
    let hit := o.pulses.filter (fun p => sel p && p.status.isNone)
    let d1 := hit.foldl (fun (x : Dev) p => x.outcomeRec o p oc p.sentS) d
    let d2 := if hit.isEmpty || o.force then d1 else if decide (oc < 2) then hit.foldl (fun (x : Dev) _ => x.countOutcome o.trk oc) d1 else d1.countOutcome o.trk oc
    let o1 := { o with pulses := o.pulses.map (fun p => if sel p && p.status.isNone then { p with status := some oc } else p) }
    if o1.settled then (d2.delOcc uid).markHandled o else d2.setOcc o1

/-! ### Frozen, pending (R127, R143-R145) -/

def Occ.head (o : Occ) : Option OPulse := o.pulses.head?

/-- The start is frozen: device time has reached floor(T_start) - 100 (R143, R145). -/
def Dev.occFrozen (d : Dev) (o : Occ) : Bool :=
  o.frozen || (match o.head with | some p => decide (fdiv p.start 8 ≤ d.now + 100) | none => true)

/-- The end anchor is frozen, or there is none. -/
def Dev.endFrozen (d : Dev) (o : Occ) : Bool :=
  o.endA.isNone || o.endFrozen || (match o.head with | some p => decide (fdiv p.stop 8 ≤ d.now + 100) | none => true)

/-- The event counts as pending in its engine (R127). -/
def Dev.occPending (d : Dev) (o : Occ) : Bool := !o.force && !(d.occFrozen o && d.endFrozen o)

def Dev.engPend (d : Dev) (l : Nat) : Nat := (d.sch.occs.filter (fun o => o.eng == l && d.occPending o)).length

/-- Prediction as the scheduler sees it: NOPRED while no engine serves (R130). -/
def Dev.schPredict (d : Dev) (k : Nat) (x : Int) : PredRes := if (d.serving k).isEmpty then .nopred else d.predict k x

/-! ### Frames of an occurrence (R180, R182, R243) -/

/-- The tile of a channel (R10): eight channels to a tile. -/
def tileOfCh (ch : Nat) : Nat := ch / 8

def Occ.handleOn (o : Occ) (n : Nat) : Nat := (o.handles.find? (fun p => p.1 == n)).elim 0 (fun p => p.2)

/-- Tiles of the pulses of a list, each once. -/
def tilesOf (ps : List OPulse) : List Nat := (ps.map (fun p => tileOfCh p.ch)).eraseDups

def minKey (ps : List OPulse) : Int := match ps with | [] => 0 | p :: r => r.foldl (fun m q => min m (min q.start q.stop)) (min p.start p.stop)

def pmask (ps : List OPulse) : Nat := ps.foldl (fun m p => m ||| 2 ^ p.pidx) 0

def pulseWords (p : OPulse) : List Nat :=
  let s := lt48 p.start
  let e := lt48 p.stop
  [s.1, p.prf * 2 ^ 24 + b2n p.clen * 2 ^ 22 + p.pidx * 2 ^ 19 + (p.ch % 8) * 2 ^ 16 + s.2, e.1, e.2]

/-- One COMMIT to each tile of the occurrence (R180). -/
def Dev.sendCommits (d : Dev) (o : Occ) (ps : List OPulse) : Dev :=
  (tilesOf ps).foldl (fun (x : Dev) t =>
    let mine := ps.filter (fun p => tileOfCh p.ch == t)
    let words := [o.handleOn (t / 4) * 2 ^ 16 + o.vint, b2n o.rev * 2 ^ 31 + mine.length * 2 ^ 27] ++ mine.flatMap pulseWords
    x.sendRel (t / 4) (t % 4) 1 words (minKey mine) o.uid (pmask mine)) d

/-- CANCEL to the tiles of some pulses; oc is the outcome they have once it is acknowledged, 0 for none. -/
def Dev.sendCancels (d : Dev) (o : Occ) (ps : List OPulse) (oc : Nat) : Dev :=
  (tilesOf ps).foldl (fun (x : Dev) t =>
    let mine := ps.filter (fun p => tileOfCh p.ch == t)
    if x.reached (t / 4) (t % 4) then
      x.sendRel (t / 4) (t % 4) 3 [o.handleOn (t / 4) * 2 ^ 16 + pmask mine] (minKey mine) o.uid (pmask mine + 256 * oc)
    else x) d

def Dev.sendAmends (d : Dev) (o : Occ) (ps : List OPulse) : Dev :=
  (tilesOf ps).foldl (fun (x : Dev) t =>
    let mine := ps.filter (fun p => tileOfCh p.ch == t)
    let body := mine.flatMap (fun p => [ofS 32 p.start, ofS 32 p.stop])
    x.sendRel (t / 4) (t % 4) 2 ((o.handleOn (t / 4) * 2 ^ 16 + o.aver * 2 ^ 8 + pmask mine) :: body) (minKey mine) o.uid (pmask mine)) d

/-- Pulses of sel that are open are cancelled with outcome oc: recorded when the CANCEL is acknowledged, or at once
where their tile is not addressed (R185, R188-R190, R251). -/
def Dev.cancelPulses (d : Dev) (o : Occ) (oc : Nat) (sel : OPulse → Bool) : Dev :=
  let hit := fun (p : OPulse) => sel p && p.status.isNone
  let far := fun (p : OPulse) => d.reached (tileOfCh p.ch / 4) (tileOfCh p.ch % 4)
  let d1 := (o.pulses.filter (fun p => hit p && !far p)).foldl (fun (x : Dev) p => x.outcomeRec o p oc p.sentS) d
  let all := o.pulses.all (fun p => sel p || p.status.isSome)
  let o1 := { o with frozen := o.frozen || all, endFrozen := o.endFrozen || all
                     pulses := o.pulses.map (fun p => if hit p then { p with status := some (if far p then 100 + oc else oc) } else p) }
  let d2 := (d1.setOcc o1).sendCancels o (o.pulses.filter hit) oc
  if o1.settled then d2.delOcc o.uid else d2

/-- Cancelling a committed occurrence at its tiles; it is handled from now on (R168, R185, R188-R190). -/
def Dev.cancelOcc (d : Dev) (o : Occ) (oc : Nat) : Dev :=
  let d1 := if o.force then d else (d.countOutcome o.trk oc).markHandled o
  d1.cancelPulses o oc (fun _ => true)

/-- A CANCEL is acknowledged: the pulses of pm have their outcome, those of `late` wait for their DONE (R251). -/
def Dev.cancelDone (d : Dev) (uid pm late : Nat) : Dev :=
  match d.occ? uid with
  | none => d
  | some o =>
    let hit := fun (p : OPulse) => bitOf pm p.pidx && p.status.elim false (fun c => decide (100 ≤ c))
    let d1 := (o.pulses.filter (fun p => hit p && !bitOf late p.pidx)).foldl (fun (x : Dev) p => x.outcomeRec o p (p.status.getD 100 - 100) p.sentS) d
    let o1 := { o with pulses := o.pulses.map (fun p => if hit p then { p with status := if bitOf late p.pidx then none else p.status.map (· - 100) } else p) }
    if o1.settled then d1.delOcc uid else d1.setOcc o1

/-- Every committed, unfrozen occurrence of sel is cancelled with outcome oc; the freeze is taken first (R191). -/
def Dev.cancelAll (d : Dev) (oc : Nat) (sel : Occ → Bool) : Dev :=
  d.sch.occs.foldl (fun (x : Dev) o => if sel o && !x.occFrozen o then x.cancelOcc o oc else x) d

/-- FAB cycles from a record's delivery to the end of the lead engine's update, and to the first evaluation (R126, R176;
DESIGN CHOICE notes/assumptions/100.md, within the bounds of 40 and 48). -/
def updateCycles : Nat := 36
def scanCycles : Nat := 48

def Work.isScan (w : Work) : Bool := match w.job with | .scan .. => true | .refresh .. => false

/-- Insertion of a job in order of its end, behind equals. -/
def insWork (w : Work) : List Work → List Work
  | [] => [w]
  | v :: r => if w.due < v.due then w :: v :: r else v :: insWork w r

def Dev.addWork (d : Dev) (w : Work) : Dev := { d with sch := { d.sch with work := insWork w d.sch.work } }

/-- The first FAB cycle from t0 on in which the scheduler, with one evaluation every 2 cycles, is free for one more (R197). -/
def Dev.scanSlot (d : Dev) (t0 : Nat) : Nat :=
  (d.sch.work.filter Work.isScan).foldl (fun t w => if t + 2 ≤ w.due then t else max t (w.due + 2)) (max t0 d.sch.scanAt)

/-- Work of sel is not done any more; evaluations that stay move up into the FAB cycles that those dropped leave, one every
2 cycles in their order, none before its record lets it start (R176, R197). -/
def Dev.dropWork (d : Dev) (sel : Work → Bool) : Dev :=
  let stay := d.sch.work.filter (fun w => !sel w)
  let d1 : Dev := { d with sch := { d.sch with work := stay.filter (fun w => !w.isScan) } }
  (stay.filter Work.isScan).foldl (fun (x : Dev) w => x.addWork { w with due := x.scanSlot (max w.from_ d.fab) }) d1

/-- SYNC_LOST (R189), and the engines empty their lists (R151). -/
def Dev.schSyncLost (d : Dev) (k : Nat) : Dev :=
  let d1 := (d.cancelAll 4 (fun o => o.trk == k && !o.force)).dropWork (fun w => w.trk == k)
  { d1 with sch := { d1.sch with occs := d1.sch.occs.map (fun o => if o.trk == k && !o.force then { o with frozen := true, endFrozen := true } else o) } }

/-- DIR_CHANGE (R188). -/
def Dev.schDirChange (d : Dev) (k : Nat) : Dev := d.cancelAll 5 (fun o => o.trk == k && !o.force)

/-- A tile detaches, is powered down or is lost (R193). -/
def Dev.schTileLost (d : Dev) (t : Nat) : Dev :=
  d.sch.occs.foldl (fun (x : Dev) o =>
    let here := fun (p : OPulse) => tileOfCh p.ch == t
    let x0 := x.cancelDone o.uid (pmask (o.pulses.filter here)) 0
    match x0.occ? o.uid with
    | none => x0
    | some q =>
      if q.pulses.any (fun p => here p && p.status.isNone) then
        let x1 := x0.finish q.uid 8 here
        let x2 := match x1.occ? q.uid with
          | some r => if x0.occFrozen q then x1 else (x1.cancelPulses r 8 (fun _ => true)).markHandled q
          | none => x1
        if q.force then x2 else x2.raise 8 4 q.trk 1
      else x0) d

/-! ### Candidates (R168-R170, R176, R199, R200) -/

/-- Does anchor a of tracker k take the incoming vintage of a pending swap (R199, R200). -/
def PendSwap.takes (p : PendSwap) (a : Int) : Bool := if p.rev then decide (a < p.bound) else decide (p.bound ≤ a)

/-- Cycles in which the next occurrence can lie: 32 for a MODN head whose nearest one is handled, and those up to the
boundary of a pending swap. -/
def Dev.searchCycles (d : Dev) (k : Nat) : Nat :=
  34 + ((d.tk k).pend.elim 0 (fun q => (q.bound - (d.pr k).lref).natAbs / revAU))

/-- The next occurrence of a head (R168), in the live or the incoming vintage, each with its own cycle length (R53). -/
def Dev.nextAnchor (d : Dev) (k : Nat) (h : Head) (incoming : Bool) : Option Int :=
  let e := d.desc h.bank h.idx
  let g := d.geoOf k incoming
  let p := d.pr k
  let s := d.scht k
  let x := p.lref
  let len : Int := g.len
  let a0 := g.nextOcc x e.anchor p.rev
  let seen := (s.handled.find? (fun q => q.1 == h.idx)).map (fun q => q.2)
  let ones := if incoming then s.onesIn else s.ones
  let vok := fun (a : Int) => match (d.tk k).pend with
    | some q => q.takes a == incoming
    | none => !incoming && !(p.rev && s.edge == some a)
  let ok := fun (a : Int) =>
    let n := g.cyc a
    decide (seen ≠ some a) && (e.dirq == 2 || (e.dirq == 1) == p.rev) && vok a &&
      (e.cycq == 0 || (e.cycq == 1 && decide (Int.emod n (e.cycn + 1) = e.cycph)) || (e.cycq == 2 && !ones.spent.contains h.idx && (ones.cyc.find? (fun q => q.1 == h.idx)).all (fun q => q.2 == n)))
  if !e.valid || e.kind ≥ 2 || e.reason k g.len ≠ 0 then none
  else ((List.range (d.searchCycles k)).map (fun (i : Nat) => if p.rev then a0 - i * len else a0 + i * len)).find? ok

/-- Pulses of the occurrence of head h at absolute anchor a, before any time is known. -/
def Dev.rawPulses (d : Dev) (h : Head) : List OPulse :=
  h.chain.zipIdx.map (fun q =>
    let e := d.desc h.bank q.1
    { pidx := q.2, idx := q.1, ch := e.ch, prf := e.prf, ofs := 8 * e.offset + e.fine
      dur := if e.kind = 1 then none else some e.dur
      comp := if e.clen then d.geti (F.CDT_CH_COMP_COMP e.ch e.cslot) else 0
      clen := e.clen, cslot := e.cslot, ctgt := e.ctgt, tag := e.tag
      start := 0, stop := 0, sentS := 0, sentE := 0, prev := none, status := none
      cwin := bits (d.rd (R.CDT_PRF_W e.prf 4)).toNat 31 16 })

/-- Absolute end anchor of an ENDANG head (R172). -/
def Dev.endAnchor (d : Dev) (k : Nat) (h : Head) (incoming : Bool) (a : Int) : Option Int :=
  let e := d.desc h.bank h.idx
  let g := d.geoOf k incoming
  if e.kind = 1 then
    some (if (d.pr k).rev then a - Int.fmod (a - e.endA) g.len else a + Int.fmod ((e.endA : Int) - a) g.len)
  else none

/-- Placing the pulses from the head's start and, for an ENDANG head, its end time (R171-R175). -/
def placePulses (start : Int) (endT : Option Int) : List OPulse → Int → Bool → List OPulse
  | [], _, _ => []
  | p :: r, prevS, isHead =>
    let s := if isHead then start else prevS + p.ofs
    let e := match p.dur with
      | some n => s + 8 * n + 8 * p.comp
      | none => match endT with
        | some t => t + 8 * p.comp
        | none => s
    { p with start := s, stop := max s e } :: placePulses start endT r s false

/-- The end now of the pulse committed before p on its channel (R196). -/
def Dev.prevEnd (d : Dev) (prev : Option (Nat × Nat × Int)) : Option Int :=
  prev.map (fun q => match d.occ? q.1 with
    | some o => (o.pulses.find? (fun x => x.pidx == q.2.1)).elim q.2.2 (fun x => x.stop)
    | none => q.2.2)

/-- Is a pulse of the new occurrence too close after the pulse before it on its channel (R196)? -/
def Dev.overlaps (d : Dev) : List OPulse → List OPulse → Bool
  | _, [] => false
  | before, p :: r =>
    let gap : Int := 8 * d.get F.SCH_GCFG_CHGAP
    let mine := (before.filter (fun q => q.ch == p.ch)).map (fun q => q.stop)
    let last := mine ++ (if mine.isEmpty then (d.prevEnd (smGet d.sch.lastEnd none p.ch)).toList else [])
    last.any (fun e => decide (p.start < e + gap)) || d.overlaps (before ++ [p]) r

/-- A channel refused by CDT (R314, R324, R325): blocked, forced off, or its tile's latch set and masked. -/
def Dev.chBlocked (d : Dev) (ch : Nat) : Bool :=
  let t := tileOfCh ch
  d.flag (F.CDT_CH_STAT_BLK ch) || d.abit (R.CDT_FOFF 0) ch || (d.abit (R.CDT_INHSTAT 0) t && d.abit (R.CDT_INHMSK 0) t)

/-- The serving engine with the fewest pending events (R127), none when all hold 512. -/
def Dev.pickEngine (d : Dev) (k : Nat) : Option Nat :=
  let l := (d.serving k).map (fun l => (l, d.engPend l))
  match l with
  | [] => none
  | q :: r =>
    let b := r.foldl (fun (m x : Nat × Nat) => if x.2 < m.2 then x else m) q
    if b.2 < 512 then some b.1 else none

/-- A free handle of link n (R259). -/
def Dev.freeHandle (d : Dev) (n : Nat) : Option Nat :=
  let used := d.sch.occs.filterMap (fun o => (o.handles.find? (fun p => p.1 == n)).map (fun p => p.2))
  let h0 := (d.lk n).handle
  ((List.range (used.length + 1)).map (fun i => (h0 + i) % 65535 + 1)).find? (fun h => !used.contains h)

/-- Handles on the links of some tiles, each link's counter moved on. -/
def Dev.takeHandles (d : Dev) : List Nat → List (Nat × Nat) → Dev × List (Nat × Nat)
  | [], acc => (d, acc)
  | n :: r, acc =>
    match d.freeHandle n with
    | some h => (d.setLk n { d.lk n with handle := h }).takeHandles r (acc ++ [(n, h)])
    | none => d.takeHandles r acc

/-- A new occurrence is committed: kept, and sent (R180). -/
def Dev.commitOcc (d : Dev) (o : Occ) : Dev :=
  let links := ((tilesOf o.pulses).map (· / 4)).eraseDups
  let hs := d.takeHandles links []
  let d1 := hs.1
  let add := o.pulses.foldl (fun (acc : Dev × List OPulse) p =>
    let pv := smGet acc.1.sch.lastEnd none p.ch
    let x : Dev := { acc.1 with sch := { acc.1.sch with lastEnd := smSet acc.1.sch.lastEnd none p.ch (some (o.uid, p.pidx, p.stop)) } }
    (x, acc.2 ++ [{ p with prev := pv, sentS := p.start, sentE := p.stop }])) (d1, [])
  let o1 := { o with handles := hs.2, pulses := add.2 }
  let d2 : Dev := { add.1 with sch := { add.1.sch with occs := add.1.sch.occs ++ [o1], uid := add.1.sch.uid + 1 } }
  let s := d2.scht o.trk
  let d3 := if o.force then d2 else d2.setScht o.trk { s with
    reach := some (match s.reach with | some q => (min q.1 o.anchor, max q.2 o.anchor) | none => (o.anchor, o.anchor))
    firsts := s.firsts.filter (fun p => p.1 != o.idx || p.2.1 != o.anchor) }
  d3.sendCommits o1 o1.pulses

/-- What the Press says of a gated occurrence (R226-R228): none while undecided. -/
def Dev.governs (d : Dev) (k sp : Nat) (a : Int) (rev : Bool) : Option Bool :=
  if !d.flag (F.PRS_CTL_EN k) || decide (d.get (F.PRS_CFG_NPOS k) ≤ sp) then some false
  else match d.prs.find? (fun q => q.1 == k) with
    | none => none
    | some q =>
      if q.2.bad then some false
      else
        let len : Int := (d.geo k).len
        let hit := fun (c : Option Dec) => match c with
          | some c => c.rev == rev && (if rev then decide (c.abs - len < a) && decide (a ≤ c.abs) else decide (c.abs ≤ a) && decide (a < c.abs + len))
          | none => false
        let c := smGet q.2.cur none sp
        let p := smGet q.2.prev none sp
        if hit c then c.map (fun x => x.work) else if hit p then p.map (fun x => x.work) else none

/-- What a late occurrence leaves in its tracker's registers (R186): LATE, LASTLATE, LATEBY. -/
def Dev.lateMark (d : Dev) (o : Occ) (behind : Bool) (by8 : Int) : Dev :=
  let k := o.trk
  let d1 := ((d.incSat (F.SCH_TRK_CNT0_LATE k)).putB (F.SCH_TRK_LASTLATE_BEHIND k) behind).putB (F.SCH_TRK_LASTLATE_BANK k) o.bank
  (d1.put (F.SCH_TRK_LASTLATE_IDX k) o.idx).put (F.SCH_TRK_LATEBY_BY k) (if behind then 0xFFFFFFFF else min (fdiv by8 8).toNat 0xFFFFFFFF)

/-- A late occurrence (R186). -/
def Dev.lateDrop (d : Dev) (o : Occ) (behind : Bool) (by8 : Int) : Dev :=
  ((d.lateMark o behind by8).dropUncommitted o 2).raise 8 0 o.trk 1

/-- The commit stage (R192, R195, R196, R198, R314): the occurrence is committed or dropped. -/
def Dev.commitStage (d : Dev) (o : Occ) : Dev :=
  let k := o.trk
  if o.pulses.any (fun p => cntOf d.sch.owner p.ch ≠ k + 1) then (d.dropUncommitted o 11).causeOn 8 6 k 1
  else if o.pulses.any (fun p => d.chBlocked p.ch) then d.dropUncommitted o 14
  else if o.pulses.any (fun p => !d.tilePresent (tileOfCh p.ch)) then (d.dropUncommitted o 7).raise 8 4 k 1
  else if d.overlaps [] o.pulses then (d.dropUncommitted o 10).raise 8 7 k 1
  else match d.pickEngine k with
    | none => (d.dropUncommitted o 9).raise 8 3 k 2
    | some l =>
      if ((tilesOf o.pulses).map (· / 4)).all (fun n => (d.freeHandle n).isSome) then d.commitOcc { o with eng := l } else d

/-- One candidate (R177, R178, R186), with the vintage of its range (R199). -/
def Dev.evalCand (d : Dev) (k : Nat) (h : Head) (incoming : Bool) (a : Int) : Dev :=
  let e := d.desc h.bank h.idx
  let vint := if incoming then (d.vintIn k).getD (d.trkVint k) else d.trkVint k
  let endA := d.endAnchor k h incoming a
  let rev := (d.pr k).rev
  let raw := d.rawPulses h
  let mk := fun (ps : List OPulse) => Occ.mk d.sch.uid k h.bank h.idx vint rev a endA 0 [] 0 false false false false (e.cycq == 2)
    ((d.geoOf k incoming).cyc a) true ps
  let gate := if e.pgate then d.governs k e.sp a rev else some (!e.psense)
  match gate with
  | none => d
  | some w =>
    if e.pgate && w == e.psense then d.dropUncommitted (mk raw) 3
    else match d.schPredict k a with
      | .nopred => d
      | .behind => d.lateDrop (mk raw) true 0
      | .time t =>
        let ts := t + 8 * e.offset + e.fine
        let x := d.noteStart k h.idx a ts
        let endT := match endA with
          | some y => (match d.schPredict k y with | .time z => some (some z) | _ => none)
          | none => some none
        let due : Int := 8 * (d.now + 100)
        let tn : Int := 8 * (d.pr k).tref + rnd (d.qTerm k 1) 32
        if ts < due then x.lateDrop (mk (placePulses ts none raw 0 true)) false (due - ts)
        else if !(decide (ts ≤ 8 * (d.now + max 1 (d.get (F.SCH_TRK_LEAD_LEAD k)) : Nat)) || decide (ts < tn)) then x
        else match endT with
          | none => x
          | some et => x.commitStage (mk (placePulses ts et raw 0 true))

/-- The channels of the chain are enabled (R190). -/
def Dev.chainOn (d : Dev) (h : Head) : Bool := (d.headChans [h]).all (fun c => d.abit (R.SCH_CHEN 0) c)

/-- Insertion of a candidate in anchor order in the direction of travel, by the anchor it was prepared with (R202). -/
def insCand (rev : Bool) (c : Int × Head × Bool × Int) : List (Int × Head × Bool × Int) → List (Int × Head × Bool × Int)
  | [] => [c]
  | e :: r => if (if rev then e.1 < c.1 else c.1 < e.1) then c :: e :: r else e :: insCand rev c r

/-- Heads of tracker k that may yield an occurrence, with their vintage: live ones, and incoming ones while a swap pends. -/
def Dev.headsOf (d : Dev) (k : Nat) : List (Head × Bool) :=
  let s := d.scht k
  s.armed.map (fun h => (h, false)) ++ (if (d.tk k).pend.isSome then s.armedIn.map (fun h => (h, true)) else [])

/-- The candidates of tracker k (R176), in anchor order; `sel` limits them to some heads. -/
def Dev.candidates (d : Dev) (k : Nat) (sel : Head → Bool) : List (Head × Bool × Int) :=
  let look : Int := 65536 * max 1 (d.get (F.SCH_TRK_LOOK_LOOK k) : Nat)
  let p := d.pr k
  ((d.headsOf k).foldl (fun acc q =>
    if !sel q.1 then acc
    else match d.headNow k q.1 q.2 with
    | none => acc
    | some h =>
      if !d.chainOn h then acc
      else match d.nextAnchor k h q.2 with
      | some a =>
        if decide (d.dist k a < look) && !d.sch.occs.any (fun o => o.trk == k && !o.force && o.idx == h.idx && o.anchor == a) then
          let old := if (d.desc h.bank h.idx).anchor = h.anchor then a else (d.geoOf k q.2).nextOcc p.lref h.anchor p.rev
          insCand p.rev (old, h, q.2, a) acc
        else acc
      | none => acc) []).map (fun c => c.2)

/-- The first cycle considered of every ONCE head that has none yet (R169): the cycle of its next occurrence at the first
evaluation after arming. -/
def Dev.noteOnce (d : Dev) (k : Nat) : Dev :=
  (d.headsOf k).foldl (fun (x : Dev) q =>
    let s := x.scht k
    let o := if q.2 then s.onesIn else s.ones
    if (x.desc q.1.bank q.1.idx).cycq != 2 || o.cyc.any (fun p => p.1 == q.1.idx) then x
    else match x.nextAnchor k q.1 q.2 with
    | some a =>
      let o1 := { o with cyc := (q.1.idx, (x.geoOf k q.2).cyc a) :: o.cyc }
      x.setScht k (if q.2 then { s with onesIn := o1 } else { s with ones := o1 })
    | none => x) d

/-- May the scheduler evaluate on tracker k: enabled, a reference set, ARM_OK (R176)? -/
def Dev.schAble (d : Dev) (k : Nat) : Bool := d.flag (F.SCH_TRK_CTL_EN k) && (d.pr k).ok && d.srcArm k

/-- Is an evaluation on tracker k held back by a preparation (R165)? -/
def Dev.schHeld (d : Dev) (k : Nat) : Bool := (d.scht k).prep || (d.scht k).prepIn

/-- An evaluation that a preparation holds back waits for its end. -/
def Dev.schWant (d : Dev) (k : Nat) : Dev := d.setScht k { d.scht k with want := true }

/-- The candidates of tracker k among sel are evaluated in this FAB cycle. -/
def Dev.evalNow (d : Dev) (k : Nat) (sel : Head → Bool) : Dev :=
  if !d.schAble k then d
  else if d.schHeld k then d.schWant k
  else
    let d1 := d.noteOnce k
    (d1.candidates k sel).foldl (fun (x : Dev) c => x.evalCand k c.1 c.2.1 c.2.2) d1

/-! ### Refresh and amends (R128, R144, R145, R182-R185, R196) -/

/-- At an amend a pulse that would come too close is moved, and the later ones of its chain with it (R196); `done` holds the
pulses of occurrence uid placed before, whose ends of this refresh count. -/
def Dev.spread (d : Dev) (uid : Nat) (done : List OPulse) : List OPulse → Int → Bool → List OPulse × Bool
  | [], _, hit => ([], hit)
  | p :: r, shift, hit =>
    let s0 := p.start + shift
    let e0 := if p.dur.isSome then p.stop + shift else max s0 p.stop
    let mine := if p.prev.elim false (fun q => q.1 == uid) then (done.reverse.find? (fun q => q.ch == p.ch)).map (fun q => q.stop) else none
    let lim := match (if mine.isSome then mine else d.prevEnd p.prev) with | some e => e + 8 * d.get F.SCH_GCFG_CHGAP | none => s0
    let mv := if s0 < lim then lim - s0 else 0
    let p1 := { p with start := s0 + mv, stop := if p.dur.isSome then e0 + mv else max (s0 + mv) e0 }
    let q := d.spread uid (done ++ [p1]) r (shift + mv) (hit || decide (0 < mv))
    (p1 :: q.1, q.2)

/-- Sending the pulses that moved (R182, R263). -/
def Dev.sendMoved (d : Dev) (o : Occ) (final : Bool) : Dev :=
  let amin : Int := max 1 (d.get F.SCH_GCFG_AMD_MIN : Nat)
  let far := fun (a b : Int) (lim : Int) => decide (lim ≤ a - b) || decide (lim ≤ b - a)
  let lim := if final then 1 else amin
  let moved := o.pulses.filter (fun p => p.status.isNone && (far p.start p.sentS lim || far p.stop p.sentE lim))
  if moved.isEmpty then d.setOcc o
  else
    let o1 := { o with aver := nextSeq o.aver
                       pulses := o.pulses.map (fun p => if moved.any (fun q => q.pidx == p.pidx) then { p with sentS := p.start, sentE := p.stop } else p) }
    let d1 := d.setOcc o1
    let big := moved.any (fun p => far p.start p.sentS (2 ^ 30 + 1) || far p.stop p.sentE (2 ^ 30 + 1))
    if big then (d1.sendCancels o1 moved 0).sendCommits o1 (o1.pulses.filter (fun p => moved.any (fun q => q.pidx == p.pidx)))
    else d1.sendAmends o1 moved

/-- The refresh of one committed event (R144, R182-R185). DESIGN CHOICE (notes/assumptions/99.md): an end anchor is clamped
and frozen by the electrical end, its compensation included. -/
def Dev.refreshOcc (d : Dev) (o : Occ) : Dev :=
  let k := o.trk
  let fr := d.occFrozen o
  let efr := d.endFrozen o
  let lim : Int := 8 * (d.now + 100)
  match o.head with
  | none => d
  | some hp =>
    if fr && efr then d
    else
      let ra := if fr then PredRes.time (hp.start - hp.ofs) else d.predict k o.anchor
      let re := match o.endA with
        | some x => if efr then PredRes.time (hp.stop - 8 * hp.comp) else d.predict k x
        | none => PredRes.time 0
      match ra, re with
      | .time ta, .time te =>
        let ts := ta + hp.ofs
        let cs := !fr && decide (ts < lim)
        let s1 := if fr then hp.start else if cs then lim else ts
        let e0 := te + 8 * hp.comp
        let ce := o.endA.isSome && !efr && decide (e0 < lim)
        let e1 := if ce then lim else e0
        let placed := if fr then o.pulses.map (fun p => if p.pidx == 0 then { p with stop := max p.start e1 } else p)
          else placePulses s1 (if o.endA.isSome then some (e1 - 8 * hp.comp) else none) o.pulses 0 true
        let sp := if fr then (placed, false) else d.spread o.uid [] placed 0 false
        let o1 := { o with pulses := sp.1, frozen := fr || cs, clamped := o.clamped || cs, endFrozen := efr || ce }
        let d1 := if cs || ce then d.incSat (F.PRD_CNT0_CLAMP k) else d
        let d2 := if sp.2 then (d1.incSat (F.SCH_TRK_CNT2_OVERLAP k)).raise 8 7 k 1 else d1
        d2.sendMoved o1 (cs || ce)
      | .behind, _ => if fr then d else d.cancelOcc o 2
      | .nopred, _ => if fr then d else d.cancelOcc o 12
      | _, .behind => if fr then d else d.cancelOcc o 2
      | _, .nopred => if fr then d else d.cancelOcc o 12

/-- Insertion in order of the start last delivered (R128). -/
def insOcc (o : Occ) : List Occ → List Occ
  | [] => [o]
  | q :: r => if minKey o.pulses < minKey q.pulses then o :: q :: r else q :: insOcc o r

/-! ### The work after a tooth record (R126, R128, R129, R176, R197) -/

/-- FAB cycles of one refresh (R128). -/
def Dev.refreshCost (d : Dev) (k : Nat) : Nat := if d.get (F.PRD_CFG_HOR k) ≤ 8 then 4 else 6

/-- Engine l has spent n FAB cycles on a record (PEm_LOAD). -/
def Dev.peLoad (d : Dev) (l n : Nat) : Dev :=
  let m := d.get (F.PRD_PMAP_PE l)
  (d.put (F.PE_LOAD_LAST m) (min n 0xFFFF)).putMax (F.PE_LOAD_PEAK m) n

/-- The pending events of engine l in ascending order of the start last delivered (R128). -/
def Dev.engOccs (d : Dev) (k l : Nat) : List Occ :=
  (d.sch.occs.filter (fun o => o.trk == k && o.eng == l && d.occPending o)).foldl (fun acc o => insOcc o acc) []

/-- The refreshes after a record of tracker k: each serving engine takes its pending events one after the other. The
update itself is counted to the lead engine, the lowest-numbered one. -/
def Dev.refreshAll (d : Dev) (k : Nat) : Dev :=
  let cost := d.refreshCost k
  (d.serving k).zipIdx.foldl (fun (x : Dev) q =>
    let os := x.engOccs k q.1
    let x1 := if os.isEmpty then x.peLoad q.1 (if q.2 = 0 then updateCycles else 0) else x
    os.zipIdx.foldl (fun (y : Dev) o => y.addWork ⟨x.fab + updateCycles + cost * (o.2 + 1), x.fab, x.fab, k, .refresh q.1 o.1.uid⟩) x1) d

/-- The evaluation of the candidates of tracker k among sel from FAB cycle t0 on, each in the next cycles that the scheduler
has free (R197). -/
def Dev.scanFrom (d : Dev) (k : Nat) (sel : Head → Bool) (t0 : Nat) : Dev :=
  if !d.schAble k then d
  else if d.schHeld k then d.schWant k
  else
    let d1 := d.noteOnce k
    (d1.candidates k sel).foldl (fun (x : Dev) c => x.addWork ⟨x.scanSlot t0, d.fab, t0, k, .scan c.1 c.2.2⟩) d1

/-- The evaluations after a record of tracker k (R176). -/
def Dev.scanAll (d : Dev) (k : Nat) : Dev := d.scanFrom k (fun _ => true) (d.fab + scanCycles)

/-- Refreshes of tracker k that a new record finds not done: its engines count an overrun, and the events keep their
times (R129). Evaluations not done are made at the new record (R197). -/
def Dev.overrun (d : Dev) (k : Nat) : Dev :=
  let left := d.sch.work.filter (fun w => w.trk == k)
  let engs := (left.filterMap (fun w => match w.job with | .refresh l _ => some (l, w.at_) | .scan .. => none)).eraseDups
  let scans := left.any Work.isScan
  let d1 := d.dropWork (fun w => w.trk == k)
  let d2 := engs.foldl (fun (x : Dev) q => ((x.incSat (F.PE_CNT_OVR (x.get (F.PRD_PMAP_PE q.1)))).peLoad q.1 (x.fab - q.2)).raise 7 0 k 1) d1
  if scans then (d2.incSat F.SCH_GSTAT_SCANOVR).raise 8 5 k 1 else d2

/-- A job comes to its end. A candidate that is one no longer is not evaluated. -/
def Dev.runJob (d : Dev) (w : Work) : Dev :=
  match w.job with
  | .refresh l uid =>
    let d1 := match d.occ? uid with
      | some o => d.refreshOcc o
      | none => d
    if d1.sch.work.any (fun v => match v.job with | .refresh m _ => m == l | .scan .. => false) then d1
    else d1.peLoad l (w.due - w.at_ - (if (d1.serving w.trk).head? = some l then 0 else updateCycles))
  | .scan h a =>
    let x : Dev := { d with sch := { d.sch with scanAt := w.due + 2 } }
    if !x.schAble w.trk then x
    else if x.schHeld w.trk then x.schWant w.trk
    else match (x.candidates w.trk (fun g => g.idx == h.idx && g.bank == h.bank)).find? (fun c => c.2.2 == a) with
      | some c => x.evalCand w.trk c.1 c.2.1 c.2.2
      | none => x

/-- The jobs that are due by now are done, in order. -/
def Dev.runWork (d : Dev) : Nat → Dev
  | 0 => d
  | n + 1 =>
    match d.sch.work with
    | [] => d
    | w :: r => if w.due ≤ d.fab then (({ d with sch := { d.sch with work := r } } : Dev).runJob w).runWork n else d

/-- Evaluation of the candidates of tracker k among sel as soon as the scheduler is free (R165, R179). -/
def Dev.schEval (d : Dev) (k : Nat) (sel : Head → Bool) : Dev :=
  let x := d.scanFrom k sel d.fab
  x.runWork x.sch.work.length

/-- FAB cycles to the end of the next job. -/
def Dev.workDue (d : Dev) : Option Nat := d.sch.work.head?.map (fun w => w.due - d.fab)

/-! ### Enables, arming -/

/-- The cycle length in force or incoming. -/
def Dev.lenOf (d : Dev) (k : Nat) (sh : Bool) : Nat :=
  (if fldGet (F.TRK_CFG_CYC720 k) (if sh then d.rdS (R.TRK_CFG k) else d.rd (R.TRK_CFG k)) == 1 then 2 else 1) * revAU

/-- Handled anchors kept for the indices of a range (R201). -/
def keepHandled (base count : Nat) (l : List (Nat × Int)) : List (Nat × Int) := l.filter (fun p => decide (base ≤ p.1) && decide (p.1 < base + count))

/-- Nothing spent, for what is built from now on (R170). -/
def Dev.onesNew (d : Dev) : Ones := ⟨[], [], d.sch.uid⟩

/-- Preparation completes (R165, R166): the live range, then an incoming one; a new preparation re-arms spent heads. DESIGN
CHOICE (notes/assumptions/98.md): it re-arms the heads of the range prepared (R170), and a preparation of the incoming range
no head of the live one. -/
def Dev.prepDone (d : Dev) (k : Nat) : Dev :=
  let s := d.scht k
  let d1 := if s.prep then
      let r := d.prepare k (d.lenOf k false) (d.rangeOf k false)
      let rg := d.rangeOf k false
      r.1.setScht k { s with armed := if d.flag (F.SCH_TRK_CTL_EN k) then r.2 else [], prep := false, ones := d.onesNew, handled := keepHandled rg.2.1 rg.2.2 s.handled }
    else d
  let s1 := d1.scht k
  let d2 := if s1.prepIn then
      let r := d1.prepare k (d1.lenOf k true) (d1.rangeOf k true)
      r.1.setScht k { s1 with armedIn := r.2, prepIn := false, onesIn := d1.onesNew }
    else d1
  let d3 := d2.reown
  if s.want then (d3.setScht k { d3.scht k with want := false }).schEval k (fun _ => true) else d3

/-- SCH_TRKk_CTL.EN goes from 0 to 1 (R165), and from 1 to 0 (R190): the live range is disarmed, while a range that a strobe
named stays prepared for its swap. -/
def Dev.schEnable (d : Dev) (k : Nat) : Dev := (d.setScht k { d.scht k with prep := true }).reown

def Dev.schDisable (d : Dev) (k : Nat) : Dev :=
  let d1 := (d.cancelAll 6 (fun o => o.trk == k && !o.force)).dropWork (fun w => w.trk == k && w.isScan)
  (d1.setScht k { d1.scht k with armed := [], prep := false, want := false }).reown

/-- A channel enable is cleared (R190). -/
def Dev.chanOff (d : Dev) (ch : Nat) : Dev := d.cancelAll 6 (fun o => !o.force && o.pulses.any (fun p => p.ch == ch))

/-- A strobe that names the tracker's group starts the preparation of the incoming range (R165). -/
def Dev.schStrobe (d : Dev) (k : Nat) : Dev := d.setScht k { d.scht k with prepIn := true, armedIn := [] }

/-- The swap at boundary b: the incoming range is the live one, with its own ONCE heads (R161, R170, R199, R201); a tracker
whose EN is clear arms nothing (R190). -/
def Dev.schSwap (d : Dev) (k : Nat) (b : Int) (rev : Bool) : Dev :=
  let s := d.scht k
  let rg := d.rangeOf k false
  let en := d.flag (F.SCH_TRK_CTL_EN k)
  let mark := fun (o : Occ) => if o.trk == k && !o.force && !inRange rg rg.1 o.idx then { o with stays := false } else o
  (({ d with sch := { d.sch with occs := d.sch.occs.map mark } } : Dev).setScht k { s with
    armed := if s.prepIn || !en then [] else s.armedIn
    armedIn := []
    prep := s.prepIn
    prepIn := false
    handled := keepHandled rg.2.1 rg.2.2 s.handled
    firsts := s.firsts.filter (fun p => if rev then decide (p.2.1 < b) else decide (b ≤ p.2.1))
    ones := s.onesIn
    onesIn := ones0
    edge := if rev then some b else none }).reown

/-- SCH_TRKk_STAT as read. -/
def Dev.schStat (d : Dev) (k : Nat) : Word :=
  let s := d.scht k
  (((d.putB (F.SCH_TRK_STAT_PREP k) (s.prep || s.prepIn)).putB (F.SCH_TRK_STAT_OWNS_ANY k) (d.sch.owner.any (fun p => p.2 == k + 1))).put
    (F.SCH_TRK_STAT_PEND k) (d.sch.occs.filter (fun o => o.trk == k && !o.force)).length).rd (R.SCH_TRK_STAT k)

end Sys2Proof.Machine
end

