-- ==== Sys2Proof/Machine/Spare.lean ====
section
/-! DEFINITION. Spare prediction engines (R157-R159, R502-R504): swaps and checks, in which a spare shadows a logical engine
over tooth records of its tracker. -/

namespace Sys2Proof.Machine

/-- Are spares of a kind brought in automatically? -/
def Dev.spareAuto (d : Dev) (kind : Nat) : Bool := bitOf (d.get F.MGS_SPARE_CFG_AUTO) (kind - 1)

/-- A swap is made: spare map, log entry KIND 4 with a reason the spec does not encode, SPARE_USED (R503). -/
def Dev.spareUsed (d : Dev) (kind unit spare : Nat) : Dev :=
  let (w, d1) := d.drawFree
  (((d1.incSat F.MGS_SPARE_STAT_SWAPS).log 21 4 0 0 [kind * 2 ^ 28 + unit % 2 ^ 24, spare, w.toNat]).raise 21 5 unit 1)

/-- No spare of the kind is free (R504): lasting until one is. -/
def Dev.spareNone (d : Dev) (unit : Nat) : Dev := d.causeOn 21 6 unit 2

/-- A free spare engine other than x (R157): PEm_STAT.SPARE. -/
def Dev.freePe (d : Dev) (x : Option Nat) : Option Nat := findN 36 (fun m => d.flag (F.PE_STAT_SPARE m) && some m != x)

/-- A spare engine leaves the pool of spares. -/
def Dev.takePe (d : Dev) : Dev := d.put F.MGS_SPARE_STAT_PE (d.get F.MGS_SPARE_STAT_PE - 1)

/-- Physical engine m is retired (R503). -/
def Dev.retirePe (d : Dev) (m : Nat) : Dev :=
  { d.wr (R.PE_STAT m) 0x20000000#32 with mgs := { d.mgs with retPe := d.mgs.retPe ++ [m] } }

/-- Spare m takes logical number l, and the former engine reads RETIRED (R157, R503). -/
def Dev.peMove (d : Dev) (l m : Nat) : Dev :=
  let old := d.get (F.PRD_PMAP_PE l)
  let d1 := (d.takePe.retirePe old).put (F.PRD_PMAP_PE l) m
  let d2 := d1.wr (R.PE_STAT m) (BitVec.ofNat 32 (2 ^ 31 + l * 2 ^ 16))
  ({ d2 with mgs := { d2.mgs with peMap := smSet d2.mgs.peMap l l m } } : Dev).spareUsed 1 old m

/-- Is logical engine l shadowed by a spare? -/
def Dev.shadowed (d : Dev) (l : Nat) : Bool := d.sch.shadows.any (fun x => x.log == l)

/-- Does logical engine l serve a tracker with tooth records and hold pending events (R157)? -/
def Dev.peWorks (d : Dev) (l : Nat) : Bool :=
  d.flag (F.PRD_LMAP_EN l) && d.posKnown (d.get (F.PRD_LMAP_TRK l)) && decide (0 < d.engPend l)

/-- A difference is found on logical engine l by spare m: PE_MISMATCH, counted (R159); a second check against another
spare follows where one is free (R502). -/
def Dev.peMismatch (d : Dev) (l m : Nat) : Dev :=
  let w := d.get (F.PRD_PMAP_PE l)
  let d1 := (d.incSat (F.PE_CNT_CHKERR w)).raise 7 2 w 2
  if d1.spareAuto 1 && (d1.freePe (some m)).isSome then { d1 with mgs := { d1.mgs with suspect := some (l, m) } } else d1

/-- The shadowing of a spare ends, and it is a spare again. -/
def Dev.shadowEnd (d : Dev) (x : Shadow) : Dev :=
  { d.wr (R.PE_STAT x.spare) 0x40000000#32 with sch := { d.sch with shadows := d.sch.shadows.filter (fun y => y != x) } }

/-- A shadowing starts. -/
def Dev.shadowNew (d : Dev) (x : Shadow) : Dev :=
  { d.wr (R.PE_STAT x.spare) 0x10000000#32 with sch := { d.sch with shadows := d.sch.shadows ++ [x] } }

/-- The swap of logical engine l onto a free spare (R157, R502, R504): it starts, or is made at once where l does not work. -/
def Dev.swapStart (d : Dev) (l : Nat) : Dev :=
  match d.freePe none with
  | some m => if d.peWorks l then d.shadowNew ⟨l, m, .swap, 0, false⟩ else d.peMove l m
  | none => d.spareNone (d.get (F.PRD_PMAP_PE l))

/-- The worn engines that wait are moved one after the other, each once no swap is under way and the core runs; one that moves
stays first until its swap has ended (R502). -/
def Dev.movesNext : Nat → Dev → Dev
  | 0, d => d
  | n + 1, d =>
    match d.mgs.moves with
    | [] => d
    | w :: r =>
      if d.rst.core || d.sch.shadows.any (fun x => x.use == .swap) then d
      else
        let d0 : Dev := { d with mgs := { d.mgs with moves := r } }
        match findN 32 (fun l => d.get (F.PRD_PMAP_PE l) == w), d.freePe none with
        | some l, some m => if d.peWorks l then d.shadowNew ⟨l, m, .swap, 0, false⟩ else (d0.peMove l m).movesNext n
        | some _, none => (d0.spareNone w).movesNext n
        | none, _ => d0.movesNext n

/-- The results of a shadowing have been compared (R157-R159): a swap that agrees takes the number, at the next record or at
once; one that differs is abandoned; a check that differs is a mismatch. DESIGN CHOICE (notes/assumptions/104.md): the INST of
SWAP_ABORT names the working engine, and not the spare. -/
def Dev.shadowTake (d : Dev) (x : Shadow) : Dev :=
  let d1 := d.shadowEnd x
  let w := d.get (F.PRD_PMAP_PE x.log)
  match x.use with
  | .swap =>
    let d2 : Dev := { d1 with mgs := { d1.mgs with moves := d1.mgs.moves.filter (· != w) } }
    (if x.bad then d2.raise 7 3 w 2 else d2.peMove x.log x.spare).movesNext 36
  | .check =>
    let d2 := { d1.put F.PRD_CHK_CUR w with sch := { d1.sch with chk := (x.log + 1) % 32 } }
    if x.bad then d2.peMismatch x.log x.spare else d2
  | .second first => if x.bad then ((d1.incSat (F.PE_CNT_CHKERR w)).raise 7 2 w 2).swapStart x.log else (d1.retirePe first).takePe

/-- The shadowing x of an engine that does not work (any more) comes to its end at once (R157). -/
def Dev.shadowNow (d : Dev) (x : Shadow) : Dev := if d.peWorks x.log then d else d.shadowTake x

/-- A tooth record of tracker k (R157): at record n the spare loads its copy, at n + 1 the results are compared, and from
n + 2 on the spare carries the number. A swap that differs is abandoned at n + 1 (R158), and a check has its result there. -/
def Dev.shadowStep (d : Dev) (k : Nat) : Dev :=
  (d.sch.shadows.filter (fun x => d.flag (F.PRD_LMAP_EN x.log) && d.get (F.PRD_LMAP_TRK x.log) == k)).foldl (fun (y : Dev) x =>
    if x.seen = 0 || (x.seen = 1 && x.use == .swap && !x.bad) then
      { y with sch := { y.sch with shadows := y.sch.shadows.map (fun z => if z = x then { z with seen := z.seen + 1 } else z) } }
    else y.shadowTake x) d

/-- A shadowing of logical engine l by spare m starts, and ends at once where l does not work. -/
def Dev.shadowStart (d : Dev) (l m : Nat) (use : ShadowUse) (bad : Bool) : Dev :=
  let x := Shadow.mk l m use 0 bad
  (d.shadowNew x).shadowNow x

/-- The swap of logical engine l onto a free spare, unless one is under way. -/
def Dev.peSwap (d : Dev) (l : Nat) : Dev :=
  if d.sch.shadows.any (fun x => x.log == l && x.use == .swap) then d else d.swapStart l

/-- The shadowings of engines that do not work (any more) end (R157). -/
def Dev.shadowIdle (d : Dev) : Dev :=
  d.sch.shadows.foldl (fun (y : Dev) x => y.shadowNow x) d

/-- What a comparison of logical engine l with spare m shows. -/
def Dev.peVerdict (d : Dev) (l m : Nat) (agree : Bool) : Dev :=
  if d.sch.shadows.any (fun x => x.log == l && x.spare == m && x.use == .swap) then
    { d with sch := { d.sch with shadows := d.sch.shadows.map (fun x => if x.log == l && x.spare == m && x.use == .swap then { x with bad := !agree } else x) } }
  else if d.flag (F.PE_STAT_SPARE m) && !d.shadowed l then d.shadowStart l m .swap (!agree)
  else d

/-- A background check of the next logical engine in rotation (R159), or the second check against another spare that a
mismatch asks for (R502). A check under way goes on. -/
def Dev.peCheck (d : Dev) (agree : Bool) : Dev :=
  if d.sch.shadows.any (fun x => x.use != .swap) then d
  else match d.mgs.suspect with
    | some (l, m) =>
      let d0 : Dev := { d with mgs := { d.mgs with suspect := none } }
      match d.freePe (some m) with
      | some n => if d.shadowed l then d else d0.shadowStart l n (.second m) (!agree)
      | none => d0
    | none =>
      match d.freePe none with
      | some m => if d.flag F.PRD_CHK_EN && !d.shadowed d.sch.chk then
          ({ d with sch := { d.sch with chkAt := d.fab } } : Dev).shadowStart d.sch.chk m .check (!agree)
        else d
      | none => d

end Sys2Proof.Machine
end

