-- ==== Sys2Proof/Machine/Press.lean ====
section
/-! DEFINITION. The Press (R204-R230, R539): stroke positions, decision instants, the decision, defaults. -/

namespace Sys2Proof.Machine

def prs0 : Prs := ⟨0xACE1, 0, 0, 0, 0, [], [], [], false, false, none, false, none⟩
def Dev.ps (d : Dev) (k : Nat) : Prs := smGet d.prs prs0 k
def Dev.setPs (d : Dev) (k : Nat) (p : Prs) : Dev := { d with prs := smSet d.prs prs0 k p }

/-- Device time in FAB cycles (R12, R13). -/
def Dev.fabNow (d : Dev) : Nat := 2 * d.now + d.fab % 2

/-- The registers that a decision of machine k takes its inputs from (R212): DEMAND, POST, UNH0, UNH1. -/
def prsInputs (k : Nat) : List Nat := [R.PRS_DEMAND k, R.PRS_POST k, R.PRS_UNH k 0, R.PRS_UNH k 1]

/-- An input of the decisions of machine k is about to be written in this FAB cycle (R212): the words as they stood at its
start are kept. -/
def Dev.prsWrote (d : Dev) (k : Nat) : Dev :=
  let p := d.ps k
  if p.wrote.any (fun w => w.1 == d.fab) then d else d.setPs k { p with wrote := some (d.fab, (prsInputs k).map d.rd) }

/-- The inputs of machine k as they stood at the start of this FAB cycle are in place (R212). -/
def Dev.prsFreeze (d : Dev) (k : Nat) : Dev :=
  match (d.ps k).wrote with
  | some w => if w.1 = d.fab then ((prsInputs k).zip w.2).foldl (fun (x : Dev) p => x.wr p.1 p.2) d else d
  | none => d

/-- What this FAB cycle wrote into the inputs of machine k counts from now on, `new` being the device that holds it: a word
not written keeps what the decision made of it. -/
def Dev.prsThaw (d : Dev) (k : Nat) (new : Dev) : Dev :=
  match (new.ps k).wrote with
  | some w => if w.1 = new.fab then ((prsInputs k).zip w.2).foldl (fun (x : Dev) p => if new.rd p.1 = p.2 then x else x.wr p.1 (new.rd p.1)) d else d
  | none => d

/-- The word of register a, shadow or live. -/
def Dev.word (d : Dev) (sh : Bool) (a : Nat) : Word := if sh then d.rdS a else d.rd a
def Dev.fld (d : Dev) (sh : Bool) (f : Fld) : Nat := fldGet f (d.word sh f.addr)

def Dev.npos (d : Dev) (k : Nat) : Nat := d.get (F.PRS_CFG_NPOS k)

/-- Decision angle of position sp in direction rev (R206). -/
def Dev.decAng (d : Dev) (k sp : Nat) (rev : Bool) : Int :=
  let a : Int := d.get (F.PRS_POS_DANG k sp)
  if rev then Int.fmod (a + d.geti (F.PRS_REVOFS_OFS k)) (d.geo k).len else a

/-- R206 and R207 hold of the live configuration. -/
def Dev.prsOk (d : Dev) (k : Nat) : Bool :=
  let n := d.npos k
  let len := (d.geo k).len
  let ang := fun sp => d.get (F.PRS_POS_DANG k sp)
  let dist := (List.range (n - 1)).map (fun sp => (ang (sp + 1) + len - ang sp % len) % len)
  decide (1 ≤ n) && decide (n ≤ 64) && (List.range n).all (fun sp => d.flag (F.PRS_POS_VALID k sp) && decide (ang sp < len))
    && dist.all (fun x => decide (0 < x)) && decide (dist.foldl (· + ·) 0 < len)

/-- PRS_GSTAT.ACTIVE (R204, R208). -/
def Dev.prsActive (d : Dev) (k : Nat) : Bool := d.flag (F.PRS_CTL_EN k) && d.srcArm k && !(d.ps k).bad

def Dev.nhealthy (d : Dev) (k : Nat) : Nat :=
  ((List.range (min (d.npos k) 64)).filter (fun sp => !d.bit (R.PRS_UNH k (sp / 32)) (sp % 32))).length

/-- HEALTH_NONE is present while EN is set and no position below NPOS is healthy. -/
def Dev.prsHealth (d : Dev) (k : Nat) : Dev := d.cause 9 3 k 2 (d.flag (F.PRS_CTL_EN k) && d.nhealthy k == 0)

/-- Reset of the decision state (R224), with or without the LFSR (R225), which leaves a RESET that waits. -/
def Dev.prsReset (d : Dev) (k : Nat) (seed : Bool) : Dev :=
  let p := d.ps k
  let sd := d.get (F.PRS_SEED_SEED k)
  let d1 := d.setPs k { p with lfsr := if seed then (if sd = 0 then 0xACE1 else sd) else p.lfsr
                               hist := 0, hcnt := 0, cw := 0, ci := 0, reset := p.reset && !seed }
  let d2 := (d1.wr (R.PRS_ACC k) 0).put64 (R.PRS_HIST_LO k) (R.PRS_HIST_HI k) 0
  forN 64 (fun x sp => (x.put (F.PRS_POS_LAST k sp) 0).put (F.PRS_POS_RUN k sp) 15) d2

/-- A decision is held (R226). -/
def Dev.prsHold (d : Dev) (k sp : Nat) (c : Dec) : Dev :=
  let p := d.ps k
  d.setPs k { p with prev := smSet p.prev none sp (smGet p.cur none sp), cur := smSet p.cur none sp (some c) }

/-- PRSk_LAST (and the DECIDE arrival, R472). -/
def Dev.prsReport (d : Dev) (k sp : Nat) (c : Dec) (dem : Nat) : Dev :=
  let w := 2 ^ 31 + b2n c.work * 2 ^ 30 + b2n c.rev * 2 ^ 29 + c.reason * 2 ^ 25 + sp * 2 ^ 18 + dem
  (d.wr (R.PRS_LAST k) (BitVec.ofNat 32 w)).icuArrive (288 + k)

/-- The DECIDE frame of the primary (R335), with the absolute angle as R19 gives it. -/
def Dev.mirDecide (d : Dev) (k sp : Nat) (c : Dec) (dem : Nat) (dflt : Bool) : Dev :=
  if d.mirState = 5 then
    let p := d.ps k
    let w1 := k * 2 ^ 28 + sp * 2 ^ 22 + b2n c.work * 2 ^ 21 + b2n c.rev * 2 ^ 20 + c.reason * 2 ^ 16 + b2n dflt * 2 ^ 15
    let abs := ofS 40 ((d.geo k).cyc c.abs) * 2 ^ 24 + (d.geo k).posOf c.abs
    d.mirSend 6 [w1, d.get (F.PRS_NSTR_N k), abs % 2 ^ 32, abs / 2 ^ 32, (d.rd (R.PRS_ACC k)).toNat % 2 ^ 21,
      p.ci * 2 ^ 24 + p.cw * 2 ^ 16 + p.lfsr, dem]
  else d

/-- The absolute decision angle of sp last passed at or before x in direction rev. -/
def Dev.lastDec (d : Dev) (k sp : Nat) (x : Int) (rev : Bool) : Int :=
  let len : Int := (d.geo k).len
  let a := d.decAng k sp rev
  if rev then x + Int.fmod (a - x) len else x - Int.fmod (x - a) len

/-- Default decisions at an entry into SYNC or a DIR_CHANGE (R214), at absolute angle x. DESIGN CHOICE
(notes/assumptions/117.md): a machine whose PRSk_CTL.EN is clear enters none. -/
def Dev.prsDefaults (d : Dev) (k : Nat) (x : Int) (rev : Bool) : Dev :=
  if !d.flag (F.PRS_CTL_EN k) || (d.ps k).bad || d.follows k then d
  else
    let rs := if rev && !d.flag (F.PRS_CFG_KIND k) then 10 else 9
    let d1 := forN (min (d.npos k) 64) (fun y sp =>
      let c := Dec.mk (y.lastDec k sp x rev) rev false rs
      ((y.prsHold k sp c).prsReport k sp c 0).mirDecide k sp c 0 true) d
    d1.setPs k { d1.ps k with queue := [], upTo := some x }

/-- Entry into SYNC from a state without ARM_OK (R214, R224). -/
def Dev.prsSyncEntry (d : Dev) (k : Nat) (x : Int) (rev : Bool) : Dev :=
  let d1 := d.prsReset k true
  (d1.setPs k { d1.ps k with upTo := some x, queue := [] }).prsDefaults k x rev

def histBit (h i : Nat) : Bool := bitOf h i

/-- periodic(x) of R221. -/
def periodic (x : Bool) (hist per win : Nat) : Bool :=
  let s := fun i => if i = 0 then x else histBit hist (i - 1)
  (List.range 16).any (fun j => bitOf per j && decide (j + 2 < win) && (List.range (win - (j + 2))).all (fun i => s i == s (i + (j + 2))))

/-- What the arithmetic of R219 answers: decision, reason, demand used, new ACC, inverted, clamp bound. -/
structure Dcn where
  work : Bool
  reason : Nat
  dem : Nat
  acc : Int
  inv : Bool
  sat : Bool
deriving DecidableEq, Repr

/-- The decision of R219 for a demand; none: POSTMISS. The LFSR has already been stepped. -/
def Dev.decide219 (d : Dev) (k sp : Nat) (late : Bool) (demand : Option Nat) : Dcn :=
  let p := d.ps k
  let acc := toS 32 (d.rd (R.PRS_ACC k)).toNat
  let none' := fun (r dem : Nat) => Dcn.mk false r dem acc false false
  if late then none' 7 0
  else match demand with
    | none => none' 8 0
    | some q =>
      let dem0 := min q 65536
      if d.bit (R.PRS_UNH k (sp / 32)) (sp % 32) then none' 6 dem0
      else
        let dem := if d.flag (F.PRS_CFG_HSCALE k) then min 65536 (rnd (dem0 * d.npos k) (d.nhealthy k)).toNat else dem0
        let v := acc + dem
        if dem = 0 then none' 1 0
        else if dem = 65536 then ⟨true, 2, dem, acc, false, false⟩
        else
          let thr : Int := 2 ^ 15 + Int.fdiv (((p.lfsr : Int) - 2 ^ 15) * d.get (F.PRS_SPRD_DITH k)) 256
          let x0 := decide (thr ≤ v)
          let win := d.get (F.PRS_SPRD_WIN k)
          let inv := decide (win ≠ 0) && decide (win - 1 ≤ p.hcnt) && periodic x0 p.hist (d.get (F.PRS_SPRD_PER k)) win
          let x1 := xor x0 inv
          let r1 := if inv then 3 else 0
          let mcw := d.get (F.PRS_RULES_MAXCW k)
          let mci := d.get (F.PRS_RULES_MAXCI k)
          let c2 := decide (mcw ≠ 0) && x1 && decide (mcw ≤ p.cw)
          let x2 := x1 && !c2
          let c3 := decide (mci ≠ 0) && !x2 && decide (mci ≤ p.ci)
          let x3 := x2 || c3
          let r3 := if c2 || c3 then 4 else r1
          let lst := d.flag (F.PRS_POS_LAST k sp)
          let run := d.get (F.PRS_POS_RUN k sp)
          let c4 := lst && decide (run < d.get (F.PRS_RULES_MINON k))
          let c5 := !lst && decide (run < d.get (F.PRS_RULES_MINOFF k))
          let x5 := (x3 || c4) && !c5
          let w := if x5 then v - 65536 else v
          let lim : Int := d.get (F.PRS_ACCLIM_ACC_LIM k)
          ⟨x5, if c4 || c5 then 5 else r3, dem, clampI (-lim) lim w, inv, decide (w < -lim) || decide (lim < w)⟩

/-- `finish` of R219. -/
def Dev.prsFinish (d : Dev) (k sp : Nat) (x : Bool) : Dev :=
  let p := d.ps k
  let h := (p.hist * 2 + b2n x) % 2 ^ 64
  let d1 := d.setPs k { p with cw := if x then min (p.cw + 1) 255 else 0, ci := if x then 0 else min (p.ci + 1) 255
                               hist := h, hcnt := min (p.hcnt + 1) 64 }
  let d2 := d1.put64 (R.PRS_HIST_LO k) (R.PRS_HIST_HI k) h
  if d2.flag (F.PRS_POS_LAST k sp) == x then d2.put (F.PRS_POS_RUN k sp) (min (d2.get (F.PRS_POS_RUN k sp) + 1) 15)
  else (d2.putB (F.PRS_POS_LAST k sp) x).put (F.PRS_POS_RUN k sp) 1

/-- LFSR step (R219). -/
def lfsrNext (l : Nat) : Nat :=
  (l * 2 % 2 ^ 16) ||| b2n (xor (xor (bitOf l 15) (bitOf l 13)) (xor (bitOf l 12) (bitOf l 10)))

/-- The demand of the decision with stroke number n, and what becomes of a post (R215-R217). -/
def Dev.takeDemand (d : Dev) (k n : Nat) : Dev × Option Nat :=
  if !d.flag (F.PRS_CFG_DSRC k) then (d, some (d.get (F.PRS_DEMAND_DEMAND k)))
  else if !d.flag (F.PRS_POST_PEND k) then (d, none)
  else
    let diff := (d.get (F.PRS_POST_TAG k) + 256 - n % 256) % 256
    if diff = 0 then (d.put (F.PRS_POST_PEND k) 0, some (d.get (F.PRS_POST_DEMAND k)))
    else if diff ≤ 127 then (d, none)
    else ((d.put (F.PRS_POST_PEND k) 0).incSat (F.PRS_CNT1_STALE k), none)

/-- Counting a decision (PRSk_CNT0, CNT1, WORKS) and its faults. -/
def Dev.prsCount (d : Dev) (k : Nat) (c : Dcn) : Dev :=
  let d1 := if c.reason = 7 || c.reason = 8 then d.incSat (F.PRS_CNT0_LATE k) else d
  let d2 := if c.inv then d1.incSat (F.PRS_CNT0_SPREAD k) else d1
  let d3 := if c.reason = 4 || c.reason = 5 then d2.incSat (F.PRS_CNT0_FORCED k) else d2
  let d4 := if c.reason = 6 then d3.incSat (F.PRS_CNT0_HEALTH k) else d3
  let d5 := if c.work then d4.incWrap (F.PRS_WORKS_W k) else d4
  let d6 := if c.sat then (d5.incSat (F.PRS_CNT1_ACCSAT k)).raise 9 4 k 1 else d5
  if c.reason = 7 then d6.raise 9 0 k 1 else if c.reason = 8 then d6.raise 9 1 k 1 else d6

/-- The Press begins the decision of sp at absolute angle a, instant in FAB cycles (R211-R213, R219), from the inputs as they
stood at the start of the FAB cycle. A device that follows the mirror makes none (R348). -/
def Dev.prsDecide (d : Dev) (k sp : Nat) (a : Int) (rev : Bool) (inst : Nat) : Dev :=
  if !d.prsActive k || (d.pr k).rev != rev || d.follows k then d
  else
    let d0 := if (d.ps k).reset then (d.prsFreeze k).prsReset k true else d.prsFreeze k
    let d1 := d0.incWrap (F.PRS_NSTR_N k)
    let late := decide (inst + 240 < d.fabNow)
    let d2 := d1.setPs k { d1.ps k with lfsr := lfsrNext (d1.ps k).lfsr }
    let td := if late then (d2, none) else d2.takeDemand k (d2.get (F.PRS_NSTR_N k))
    let c := td.1.decide219 k sp late td.2
    let d3 := (((td.1.wr (R.PRS_ACC k) (BitVec.ofNat 32 (ofS 32 c.acc))).prsFinish k sp c.work).prsCount k c).prsThaw k d
    let dc := Dec.mk a rev c.work c.reason
    let d4 := ((d3.prsHold k sp dc).prsReport k sp dc c.dem).mirDecide k sp dc c.dem false
    d4.schEval k (fun h => (d4.desc h.bank h.idx).pgate && (d4.desc h.bank h.idx).sp == sp)

/-! ### Decision instants (R209, R210) -/

/-- Insertion in the order in which the angles are passed. -/
def insDue (e : Nat × Int × Bool × Nat) : List (Nat × Int × Bool × Nat) → List (Nat × Int × Bool × Nat)
  | [] => [e]
  | f :: r => if (if e.2.2.1 then f.2.1 < e.2.1 else e.2.1 < f.2.1) then e :: f :: r else f :: insDue e r

/-- Decision angles passed beyond `upTo` up to absolute angle x join the queue with the instant given; where none has been
passed yet, those beyond x are the first. -/
def Dev.prsPass (d : Dev) (k : Nat) (x : Int) (rev : Bool) (inst : Nat) : Dev :=
  let p := d.ps k
  match p.upTo with
  | none => d.setPs k { p with upTo := some x }
  | some u =>
    if (if rev then u ≤ x else x ≤ u) then d
    else if d.follows k || !d.prsActive k || (rev && !d.flag (F.PRS_CFG_KIND k)) then d.setPs k { p with upTo := some x }
    else
      let hits := (List.range (min (d.npos k) 64)).filterMap (fun sp =>
        let a := d.lastDec k sp x rev
        if (if rev then a < u else u < a) then some (sp, a, rev, inst) else none)
      let q := p.queue ++ hits.foldl (fun l e => insDue e l) []
      let d1 := d.setPs k { p with queue := q, upTo := some x }
      d1.putMax F.PRS_GSTAT_QMAX (((List.range 16).map (fun j => (d1.ps j).queue.length)).foldl (· + ·) 0)

/-- Does a swap that waits change the Press configuration of machine k, so that it divides the decisions (R539)? -/
def Dev.prsDivides (d : Dev) (k : Nat) : Bool :=
  (smKeys d.shd ++ smKeys d.reg).any (fun a => decide (0xD0000 + 0x200 * k ≤ a) && decide (a < 0xD0200 + 0x200 * k) &&
    (descOf a).elim false (fun e => (d.rdS a &&& BitVec.ofNat 32 e.rws) != (d.rd a &&& BitVec.ofNat 32 e.rws)))

/-- Is absolute angle a left to the configuration that a waiting swap brings (R539)? -/
def Dev.prsHeld (d : Dev) (k : Nat) (a : Int) : Bool :=
  (d.tk k).pend.elim false (fun p => if p.rev then decide (a ≤ p.bound) else decide (p.bound ≤ a)) && d.prsDivides k

/-- A record sets the time compares of its tracker's machine (R210). -/
def Dev.prsRenew (d : Dev) (k : Nat) : Dev := if (d.ps k).stale then d.setPs k { d.ps k with stale := false } else d

/-- Decision angles whose predicted time TICK has reached join the queue (R209, R210). -/
def Dev.prsTimed (d : Dev) (k : Nat) : Dev :=
  let p := d.ps k
  let rev := (d.pr k).rev
  match p.upTo with
  | none => d
  | some u =>
    if p.stale || !d.pv k || !d.prsActive k then d
    else
      let g := d.geo k
      let due := (List.range (min (d.npos k) 64)).filterMap (fun sp =>
        let a := g.nextOcc (if rev then u - 1 else u + 1) (d.decAng k sp rev).toNat rev
        if d.prsHeld k a then none
        else if d.dist k a < 2 * 65536 then
          match d.timeOf k a with
          | .time t => if t ≤ 8 * (d.now : Int) then some (sp, a, rev, (Int.fdiv t 4).toNat) else none
          | _ => none
        else none)
      (due.foldl (fun l e => insDue e l) []).foldl (fun (y : Dev) e => y.prsPass k e.2.1 rev e.2.2.2) d

/-- The queued decision that the Press begins next (R211): earliest instant, lower machine first. -/
def Dev.prsNext (d : Dev) : Option (Nat × Nat × Int × Bool × Nat) :=
  (List.range 16).foldl (fun (b : Option (Nat × Nat × Int × Bool × Nat)) k =>
    match (d.ps k).queue with
    | [] => b
    | e :: _ => match b with
      | none => some (k, e)
      | some c => if e.2.2.2 < c.2.2.2.2 then some (k, e) else b) none

/-- The decision that comes next is made, n times at most, until machine k has none queued: those of other machines with an
earlier instant come before its own (R211). -/
def Dev.prsRun (d : Dev) (k : Nat) : Nat → Dev
  | 0 => d
  | n + 1 =>
    match d.prsNext with
    | some (j, e) => if (d.ps k).queue.isEmpty then d
      else ((d.setPs j { d.ps j with queue := (d.ps j).queue.drop 1 }).prsDecide j e.1 e.2.1 e.2.2.1 e.2.2.2).prsRun k n
    | none => d

/-- All queued decisions of machine k are made (R539: a swap divides the decisions). -/
def Dev.prsFlush (d : Dev) (k : Nat) : Dev := d.prsRun k (((List.range 16).map (fun j => (d.ps j).queue.length)).foldl (· + ·) 0)

/-! ### Swaps (R208, R225, R539) -/

/-- Does the swap change NPOS, KIND or a VALID bit? Asked before it. -/
def Dev.prsChanges (d : Dev) (k : Nat) : Bool :=
  d.fld false (F.PRS_CFG_NPOS k) != d.fld true (F.PRS_CFG_NPOS k) || d.fld false (F.PRS_CFG_KIND k) != d.fld true (F.PRS_CFG_KIND k)
    || (List.range 64).any (fun sp => d.fld false (F.PRS_POS_VALID k sp) != d.fld true (F.PRS_POS_VALID k sp))

/-- Before the swap at boundary b: the outgoing angles before b are decided (R539), every instant that has come on any
machine being in its queue (R209, R211). -/
def Dev.prsBeforeSwap (d : Dev) (k : Nat) (b : Int) (rev : Bool) : Dev :=
  ((forN 16 (fun x j => x.prsTimed j) d).prsPass k (if rev then b + 1 else b - 1) rev d.fabNow).prsFlush k

/-- After the swap: checks and reset (R208, R225); `changes` and `divides` were found before it. The compares of the
outgoing configuration end, and the next record sets those of the incoming one (R210). -/
def Dev.prsAfterSwap (d : Dev) (k : Nat) (changes divides : Bool) : Dev :=
  let ok := d.prsOk k
  let d1 := d.setPs k { d.ps k with bad := !ok, stale := (d.ps k).stale || divides }
  let d2 := d1.cause 9 2 k 2 (!ok)
  (if changes then d2.prsReset k false else d2).prsHealth k

/-- A DECIDE frame of the primary (R348): of a default decision, which changes no decision state (R214), the frame still
gives ACC, LFSR, CW, CI and NSTR. -/
def Dev.prsMirror (d : Dev) (f : MirDecide) : Dev :=
  let k := f.mach.val
  let abs : Int := f.cyc * (d.geo k).len + f.ang
  let c := Dec.mk abs f.rev f.work f.reason.val
  let d1 := (d.prsHold k f.sp.val c).prsReport k f.sp.val c (if f.dflt then 0 else f.dem)
  let d2 := if f.dflt then d1 else d1.prsFinish k f.sp.val f.work
  let d3 := d2.setPs k { d2.ps k with lfsr := f.lfsr % 2 ^ 16, cw := f.cw % 256, ci := f.ci % 256 }
  let d4 := (d3.wr (R.PRS_ACC k) (BitVec.ofNat 32 (ofS 32 f.acc))).put (F.PRS_NSTR_N k) f.stroke
  if f.dflt then d4
  else
    d4.schEval k (fun h => (d4.desc h.bank h.idx).pgate && (d4.desc h.bank h.idx).sp == f.sp.val)

/-! ### Commands -/

/-- A write of PRSk_POST (R217). -/
def Dev.prsPost (d : Dev) (k data : Nat) : Dev :=
  let d0 := d.prsWrote k
  let d1 := if d0.flag (F.PRS_POST_PEND k) then d0.incSat (F.PRS_CNT1_OVERWR k) else d0
  ((d1.put (F.PRS_POST_TAG k) (data / 2 ^ 24)).put (F.PRS_POST_DEMAND k) data).put (F.PRS_POST_PEND k) 1

/-- PRESS_POST_WRITE (R217). -/
def execPressPostWrite (_req : Fin 10) (k : Fin 16) (data : Nat) (s : State) : Host.Outcome State Fault Refusal :=
  s.run (fun d => d.prsPost k data)

/-- PRESS_RESET (R224): a one written to PRSk_CTL.RESET. -/
def execPressReset (_req : Fin 10) (k : Fin 16) (s : State) : Host.Outcome State Fault Refusal :=
  s.run (fun d => d.setPs k { d.ps k with reset := true })

/-- The counters that PRS_CNT_CLR clears. -/
def Dev.prsCntClr (d : Dev) (data : Nat) : Dev :=
  let d1 := forN 16 (fun x k => if bitOf data k then (x.wr (R.PRS_CNT0 k) 0).wr (R.PRS_CNT1 k) 0 else x) d
  if bitOf data 31 then d1.put F.PRS_GSTAT_QMAX 0 else d1

/-- PRS_CNT_CLR (R7). -/
def execPrsCntClr (_req : Fin 10) (data : Nat) (s : State) : Host.Outcome State Fault Refusal := s.run (fun d => d.prsCntClr data)

end Sys2Proof.Machine
end

