-- ==== Sys2Proof/Machine/Swap.lean ====
section
/-! DEFINITION. Update strobes, vintages and swaps (R48-R57, R294), and what every block does at a swap. -/

namespace Sys2Proof.Machine

/-- The tracker a tracker-bound address belongs to (R48, R427): TRK, PRD, SCH, PRS per tracker; ADC triggers by their
incoming TRK field. -/
def Dev.boundTrk (d : Dev) (a : Nat) : Option Nat :=
  if 0x60000 ≤ a && a < 0x70000 then some ((a - 0x60000) / 0x1000)
  else if 0x90000 ≤ a && a < 0xB0000 then some ((a - 0x90000) / 0x2000)
  else if 0xC0000 ≤ a && a < 0xC1000 then some ((a - 0xC0000) / 0x100)
  else if 0xD0000 ≤ a && a < 0xD2000 then some ((a - 0xD0000) / 0x200)
  else if 0x171500 ≤ a && a < 0x171600 then some (d.fld true (F.ADC_ATRG_A_TRK ((a - 0x171500) / 8)))
  else none

/-- Mask of the RWS bits of a register. -/
def rwsMask (a : Nat) : Nat := (descOf a).elim 0 (fun e => e.rws)

/-- A word with the bits of mask m taken from s. -/
def mix (w s : Word) (m : Nat) : Word := (w &&& ~~~(BitVec.ofNat 32 m)) ||| (s &&& BitVec.ofNat 32 m)

/-- The live copies of the selected RWS registers take the shadow copies. -/
def Dev.copyRws (d : Dev) (sel : Nat → Bool) : Dev :=
  let keys := ((smKeys d.shd ++ smKeys d.reg).filter sel).eraseDups
  keys.foldl (fun (x : Dev) a => let m := rwsMask a; if m = 0 then x else x.wr a (mix (x.rd a) (d.rdS a) m)) d

def Dev.grpOf (d : Dev) (k : Nat) : Nat := d.get ⟨R.SYS_TRK_GRP (k / 8), 4 * (k % 8) + 2, 4 * (k % 8)⟩

def Dev.trkPend (d : Dev) (k : Nat) : Bool := d.bit R.SYS_UPD_PEND (8 + k)

/-- The absolute angle now, in a straight line from the last record (R539, a swap at the timeout). -/
def Dev.angNow (d : Dev) (k : Nat) : Int :=
  let t := d.tk k
  let g := d.geo k
  let dt := d.now - d.get64 (R.TRK_TS_LO k) (R.TRK_TS_HI k)
  let dx := if t.pn * g.m = 0 then 0 else dt * revAU / (t.pn * g.m)
  if t.rev then t.lin - dx else t.lin + dx

/-- Does the swap change what R150 names? -/
def Dev.tableChange (d : Dev) (k : Nat) : Bool :=
  [F.TRK_WHEEL_N k, F.TRK_CFG_CYC720 k, F.TRK_CFG_KIND k, F.TRK_ENC_CPR k, F.TRK_ENCX_DECIM k].any (fun f => d.fld false f != d.fld true f)

/-- Group g stops pending when no tracker of it is pending (R56). -/
def Dev.grpDone (d : Dev) (g : Nat) : Dev :=
  if d.bit R.SYS_UPD_PEND g && !(List.range 16).any (fun k => d.trkPend k && d.grpOf k == g) then (d.setBit R.SYS_UPD_PEND g false).icuArrive (32 + g)
  else d

/-- Tracker k swaps at absolute angle b (R52-R54): every block takes its new configuration, and the checker and
prediction the new wheel. -/
def Dev.swapApply (d : Dev) (k : Nat) (vint : Nat) (b : Int) (rev : Bool) : Dev :=
  let ch := d.prsChanges k
  let dv := d.prsDivides k
  let tb := d.tableChange k
  let d1 := d.prsBeforeSwap k b rev
  let d2 := d1.copyRws (fun a => d1.boundTrk a == some k)
  let d3 := d2.put (if k % 2 = 0 then F.SYS_TRK_VINT_EVEN (k / 2) else F.SYS_TRK_VINT_ODD (k / 2)) vint
  let d4 := (d3.setBit R.SYS_UPD_PEND (8 + k) false).setTk k { d3.tk k with pend := none, wheel := d3.wheelWords k, relatch := false }
  let d5 := (d4.schSwap k b rev).prsAfterSwap k ch dv
  let d6 := if tb then
      let t := d5.tk k
      let x := d5.setTk k { t with bnd := (d5.geo k).lastBnd t.lin t.rev }
      let x1 := ((x.clrTe k).clrRip k false).clrRip k true
      x1.setPr k { x1.pr k with bref := (x1.geo k).lastBnd (x1.pr k).lref (x1.pr k).rev, upd := 0, updCyc := 0 }
    else d5
  (d6.prdShow k).grpDone (d6.grpOf k)

/-! ### Drive profiles at a strobe (R293-R295) -/

/-- Is a profile record valid (R293)? -/
def prfValid (w : List Nat) : Bool :=
  let x := fun i => w.getD i 0
  let ipeak := bits (x 0) 27 16
  let tpk := bits (x 1) 31 16
  let ih1 := bits (x 1) 11 0
  let th1 := bits (x 2) 31 16
  let ih2 := bits (x 2) 11 0
  let ihys := bits (x 3) 11 0
  let ish := bits (x 5) 11 0
  decide (ipeak < ish) && decide (ih1 < ish) && decide (ih2 < ish)
    && (tpk == 0 || ipeak == 0 || decide (ihys < ipeak)) && (ih1 == 0 || decide (ihys < ih1)) && (th1 == 0 || ih2 == 0 || decide (ihys < ih2))

def Dev.prfWords (d : Dev) (sh : Bool) (p : Nat) : List Nat := (List.range 8).map (fun w => (d.word sh (R.CDT_PRF_W p w)).toNat)

/-- PRFSET of profile p to position q of link n (R243). -/
def Dev.sendPrf (d : Dev) (n q p : Nat) : Dev := d.sendRel n q 10 (p :: d.prfWords false p) 0 0 0

/-- The profile records take the strobe of group CDT_GRP.GRP (R294). -/
def Dev.prfStrobe (d : Dev) : Dev :=
  forN 256 (fun x p =>
    let s := x.prfWords true p
    if s = x.prfWords false p then (if x.flag (F.CDT_PRF_STAT_BAD p) then x.put (F.CDT_PRF_STAT_BAD p) 0 else x)
    else if !prfValid s then (x.put (F.CDT_PRF_STAT_BAD p) 1).raise 12 11 p 1
    else
      let x1 := (x.copyRws (fun a => R.CDT_PRF_W p 0 ≤ a && a < R.CDT_PRF_W p 8)).put (F.CDT_PRF_STAT_BAD p) 0
      forN 64 (fun y t => if 2 ≤ y.pstate (t / 4) (t % 4) && y.reached (t / 4) (t % 4) then y.sendPrf (t / 4) (t % 4) p else y) x1) d

/-! ### The strobe (R50-R56) -/

/-- Absolute angle and direction of the tracker: its own, or the mirrored ones while the device follows. -/
def Dev.trkWhere (d : Dev) (k : Nat) : Int × Bool :=
  if d.follows k then ((d.pr k).lref, (d.pr k).rev) else ((d.tk k).lin, (d.tk k).rev)

/-- The swap boundary of R52, as a pending swap: the next cycle boundary from the tracker's place in its direction that has
no anchor after it of all those committed. -/
def Dev.swapBound (d : Dev) (k vint : Nat) : PendSwap :=
  let len : Int := (d.geo k).len
  let q := d.trkWhere k
  let b :=
    if q.2 then
      let b0 := -Int.fdiv (-q.1) len * len - len
      match (d.scht k).reach with
      | some r => min b0 (Int.fdiv r.1 len * len)
      | none => b0
    else
      let b0 := Int.fdiv q.1 len * len + len
      match (d.scht k).reach with
      | some r => max b0 (Int.fdiv r.2 len * len + len)
      | none => b0
  ⟨vint, b, q.2, d.fab⟩

/-- Tracker k becomes pending (R52). -/
def Dev.trkStrobe (d : Dev) (k vint : Nat) : Dev :=
  let d1 := (d.schStrobe k).setBit R.SYS_UPD_PEND (8 + k) true
  d1.setTk k { d1.tk k with pend := some (d1.swapBound k vint) }

/-- A strobe of groups mask is refused while a named group is pending (R50). -/
def Dev.strobeBusy (d : Dev) (mask : Nat) : Bool := decide (Nat.land (d.get F.SYS_UPD_PEND_GRP_PEND) mask ≠ 0)

/-- The vintage a strobe allocates (R51). -/
def Dev.newVint (d : Dev) : Nat := if d.get F.SYS_VINTAGE_CUR = 0xFFFF then 1 else d.get F.SYS_VINTAGE_CUR + 1

/-- A strobe of vintage v is taken up to the point where each tracker is pending: vintage, groups, profiles, mirror
(R50, R294). -/
def Dev.strobeTake (d : Dev) (mask v : Nat) : Dev :=
  let d1 := (d.put F.SYS_VINTAGE_CUR v).put F.SYS_UPD_PEND_GRP_PEND (Nat.lor (d.get F.SYS_UPD_PEND_GRP_PEND) mask)
  let d2 := if bitOf mask (d1.get F.CDT_GRP_GRP) then d1.prfStrobe else d1
  let d3 := forN 16 (fun x k => if bitOf mask (x.grpOf k) then x.trkStrobe k v else x) d2
  if d3.mirState = 5 then d3.mirSend 7 [v * 2 ^ 16 + mask] else d3

end Sys2Proof.Machine
end

