-- ==== Sys2Proof/Machine/Timer.lean ====
section
/-! DEFINITION. General timers (R448-R460), the event router (R446), and what the router feeds: converter triggers
(R425, R428), encoder latches (R442), transfer requests (R461). One FAB cycle passes in Dev.fabCycle. -/

namespace Sys2Proof.Machine

/-! ### Destinations of the router -/

def adc0 : Adc := ⟨none, [], 0, 0, 0⟩
def Dev.ad (d : Dev) (m : Nat) : Adc := smGet d.adc adc0 m
def Dev.setAd (d : Dev) (m : Nat) (x : Adc) : Dev := { d with adc := smSet d.adc adc0 m x }

/-- A trigger reaches converter m (R425, R428, R432): taken, queued, or dropped; one sequence runs or starts and one
waits. -/
def Dev.adcTrigger (d : Dev) (m : Nat) (t : AdcTrig) : Dev :=
  if d.get (F.PWR_DOM_STAT_STATE 5) != 2 || !d.flag (F.ADC_CTL_EN m) then d
  else
    let x := d.ad m
    if x.wait.length + (if x.run.isSome then 1 else 0) < 2 then d.setAd m { x with wait := x.wait ++ [t] }
    else (d.incSat (F.ADC_CNT_OVR m)).raise 18 0 m 1

/-- A router or software trigger (R425). -/
def Dev.adcPlain (d : Dev) (m kind : Nat) : Dev := d.adcTrigger m ⟨kind, 0, 0, d.get (F.ADC_CTL_FIRST m), d.get (F.ADC_CTL_CNT m) + 1⟩

/-- A latch trigger of encoder interface m (R442). -/
def Dev.encLatch (d : Dev) (m : Nat) (sw : Bool) : Dev :=
  let d1 := if d.flag (F.ENC_LAT_ST_READY m) && !d.flag (F.ENC_LAT_ST_SEEN m) then d.incSat (F.ENC_ECNT_LATOVR m) else d
  let d2 := (((d1.wr (R.ENC_LAT_CNT m) (d1.rd (R.ENC_POS m))).wr (R.ENC_LAT_ETS_LO m) (d1.rd (R.ENC_ETS_LO m))).wr (R.ENC_LAT_ETS_HI m)
    (d1.rd (R.ENC_ETS_HI m))).wr (R.ENC_LAT_PER m) (d1.rd (R.ENC_PER m))
  ((((d2.put64 (R.ENC_LAT_TS_LO m) (R.ENC_LAT_TS_HI m) d2.now).put (F.ENC_LAT_ST_READY m) 1).put (F.ENC_LAT_ST_SEEN m) 0).putB (F.ENC_LAT_ST_SW m) sw)

/-- Channel n joins the queue: behind what came before, and among the requests of one FAB cycle the lower channel first (R461). -/
def rakIns (came : SMap Nat) (fab n : Nat) : List Nat → List Nat
  | [] => [n]
  | m :: r => if smGet came 0 m == fab && decide (n < m) then n :: m :: r else m :: rakIns came fab n r

/-- A transfer request for racking channel n (R461). -/
def Dev.rakRequest (d : Dev) (n : Nat) : Dev :=
  if !d.flag (F.RK_CTL_EN n) then d
  else if d.rak.queue.contains n then d.incSat (F.RK_STAT_OVR n)
  else { d with rak := { d.rak with queue := rakIns d.rak.came d.fab n d.rak.queue, came := smSet d.rak.came 0 n d.fab } }

/-! ### Timers: state and inputs -/

def tmr0 : Tmr := ⟨0, 0, 0, false, false, false, 0, 0, none⟩
def Dev.tm (d : Dev) (n : Nat) : Tmr := smGet d.tmr tmr0 n
def Dev.setTm (d : Dev) (n : Nat) (t : Tmr) : Dev := { d with tmr := smSet d.tmr tmr0 n t }

/-- The input of timer n (R449): reserved codes, and MASTER below timer 16, act as TICK. -/
def Dev.tmrSrc (d : Dev) (n : Nat) : Nat :=
  let s := d.get (F.TMR_CFG_SRC n)
  if 6 ≤ s || (s == 5 && decide (n < 16)) then 0 else s

/-- Inputs that wait to be fed one per FAB cycle (R452) reach a running timer. -/
def Dev.tmrFeed (d : Dev) (n k : Nat) : Dev :=
  let t := d.tm n
  if t.run then d.setTm n { t with inq := t.inq + k } else d

/-- The mode of a slave; none on timers 0-15 (R459). -/
def Dev.tmrSlv (d : Dev) (n : Nat) : Nat :=
  let s := d.get (F.TMR_CTL_SLV n)
  if n < 16 || 4 < s then 0 else s

/-! ### The event router (R446) -/

/-- Effect of an event at destination q. -/
def Dev.routeTo (d : Dev) (q : Nat) : Dev :=
  if q < 4 then d.adcPlain q 1
  else if q < 12 then d.encLatch (q - 4) false
  else if q < 44 then
    (if d.tmrSrc (q - 12) = 3 && !d.flag (F.TMR_CTL_EXTSEL (q - 12)) then d.tmrFeed (q - 12) 1 else d)
  else if q < 60 then d.rakRequest (q - 44)
  else d.icuArrive (96 + (q - 60))

/-- An event of router source src: every enabled destination that selects it takes each (DIV + 1)-th event, from the
first after the write. -/
def Dev.route (d : Dev) (src : Nat) : Dev :=
  forN 76 (fun x q =>
    if x.flag (F.ERT_DST_EN q) && x.get (F.ERT_DST_SRC q) == src then
      let c := smGet x.ertDiv 0 q
      if c = 0 then { x with ertDiv := smSet x.ertDiv 0 q (x.get (F.ERT_DST_DIV q)) }.routeTo q
      else { x with ertDiv := smSet x.ertDiv 0 q (c - 1) }
    else x) d

/-! ### Matches and steps (R450, R453, R455, R459, R460) -/

/-- Effects of a match of timer n; the AUTO reload is made on the compare in force. -/
def Dev.tmrMatch (d : Dev) (n : Nat) : Dev :=
  let t := d.tm n
  let per := d.get (F.TMR_PER_PER n)
  let cmp := if d.flag (F.TMR_CTL_AUTO n) then (t.cmp + (if per = 0 then 2 ^ 32 else per)) % 2 ^ 48 else t.cmp
  let d1 := d.setTm n { t with mout := !t.mout, cmp := cmp }
  (({ d1 with tmrEv := d1.tmrEv ++ [n] } : Dev).icuArrive (112 + n)).route (n + 1)

/-- A timer starts (R450, R455, R457). -/
def Tmr.start (t : Tmr) : Tmr := { t with run := true, wait := false, mout := false, acc := 0, inq := 0 }

/-- Timer n in one FAB cycle: `o` is the device at the start of the cycle, `ev` the masters that matched in the cycle
before, `tick` whether a TICK edge falls in it. -/
def Dev.tmrStep (o : Dev) (ev : List Nat) (tick : Bool) (d : Dev) (n : Nat) : Dev :=
  let t := o.tm n
  let slv := o.tmrSlv n
  let mst := o.get (F.TMR_CTL_MST n)
  let hit := ev.contains mst
  if t.wait && slv == 4 && hit then d.setTm n (d.tm n).start
  else if !t.run then d
  else
    let s := o.tmrSrc n
    let own := decide (0 < t.inq)
    let inp := b2n (if s = 0 then tick else if s = 1 then true else if s = 5 then hit else own)
    let dn := d.tm n
    let t1 := { dn with inq := if own then dn.inq - 1 else dn.inq }
    if slv == 3 && hit then d.setTm n { t1 with cnt := 0, acc := 0 }
    else
      let gated := (slv == 1 && !(o.tm mst).mout) || (slv == 2 && (o.tm mst).mout)
      let acc := t.acc + (if gated then 0 else 256 * inp)
      let ps := max 0x100 (o.get (F.TMR_CFG_PS n))
      if acc < ps then d.setTm n { t1 with acc := acc }
      else
        let cnt := (t.cnt + 1) % 2 ^ 48
        let d1 := d.setTm n { t1 with acc := acc - ps, cnt := cnt }
        if cnt = t.cmp then d1.tmrMatch n else d1

/-- Does any timer run or wait, so that a FAB cycle can change it? -/
def Dev.tmrBusy (d : Dev) : Bool := d.tmr.any (fun p => p.2.run || p.2.wait)

/-! ### GPIO pins at the ICU (R472, R474) and at the timers (R451) -/

/-- A pin edge reaches the timers that count it (R451). -/
def Dev.tmrPin (d : Dev) (pin : Nat) (level : Bool) : Dev :=
  forN 32 (fun x n =>
    let e := x.get (F.TMR_CTL_EDGE n)
    let take := if e = 1 then !level else if e = 2 then true else level
    if x.tmrSrc n == 3 && x.flag (F.TMR_CTL_EXTSEL n) && x.get (F.TMR_CTL_PIN n) == pin && take then x.tmrFeed n 1 else x) d

/-- A level of pin p is taken: pin p at the ICU, pin p - 64 at the timers. -/
def Dev.icuTake (d : Dev) (p : Nat) (level : Bool) : Dev :=
  let i := d.icu
  let others := i.pins.filter (· != p)
  let d1 : Dev := { d with icu := { i with pins := if level then others ++ [p] else others, hold := i.hold.filter (fun q => q.1 != p) } }
  if 64 ≤ p then d1.tmrPin (p - 64) level
  else if d1.flag (F.ICU_SRC_TRIG (176 + p)) then d1.icuSetLevel (176 + p) level
  else if level then d1.icuArrive (176 + p) else d1

/-- FAB cycles that pin p must hold a new level: at the ICU 2^FLT, none for FLT = 0 (R474); at the timers 2 TICK periods
(R451). -/
def Dev.pinWait (d : Dev) (p : Nat) : Nat := if 64 ≤ p then 4 else let n := d.get (F.ICU_SRC_FLT (176 + p)); if n = 0 then 0 else 2 ^ n

/-- The level at pin p has become `level`: taken at once without a filter, else awaited; a pin that is back at the level
taken has made no change. -/
def Dev.icuPin (d : Dev) (p : Nat) (level : Bool) : Dev :=
  let i := d.icu
  if i.pins.contains p == level then { d with icu := { i with hold := i.hold.filter (fun q => q.1 != p) } }
  else if d.pinWait p = 0 then d.icuTake p level
  else if i.hold.any (fun q => q.1 == p) then d
  else { d with icu := { i with hold := i.hold ++ [(p, d.fab)] } }

/-- Pins that have held their level long enough are taken. -/
def Dev.icuHeld (d : Dev) : Dev :=
  d.icu.hold.foldl (fun (x : Dev) q => if q.2 + x.pinWait q.1 ≤ x.fab then x.icuTake q.1 (!x.icu.pins.contains q.1) else x) d

/-- FAB cycles to the next level so taken, one at least. -/
def Dev.heldDue (d : Dev) : Option Nat :=
  d.icu.hold.foldl (fun m q => let n := max 1 (q.2 + d.pinWait q.1 - d.fab); some (m.elim n (min n))) none

/-- FAB cycles to the next moment at which work ends or a held level is taken. -/
def Dev.nextDue (d : Dev) : Option Nat :=
  match d.workDue, d.heldDue with
  | some a, some b => some (min a b)
  | some a, none => some a
  | none, b => b

/-- One FAB cycle passes (R12, R13, R448): device time steps on every second one, work that comes to its end is done (R128,
R197), held pin levels are taken (R474), and waiting log entries are written. -/
def Dev.fabCycle (d : Dev) : Dev :=
  if d.rst.core then ({ d with fab := d.fab + 1 } : Dev).corkTick.logDrain
  else
    let tick := d.fab % 2 == 1
    let d1 : Dev := { d with fab := d.fab + 1, now := d.now + b2n tick, tmrEv := [] }
    let d2 := if d.tmrBusy then forN 32 (d1.tmrStep d.tmrEv tick) d1 else d1
    (d2.runWork d2.sch.work.length).icuHeld.shadowIdle.corkTick.logDrain

/-- Time passes for n FAB cycles. -/
def Dev.fabCycles (d : Dev) : Nat → Dev
  | 0 => d
  | n + 1 => d.fabCycle.fabCycles n

/-- Time passes for n FAB cycles in which no timer runs, no cork is open, no work ends and no held level is taken. -/
def Dev.skip (d : Dev) (n : Nat) : Dev :=
  if n = 0 then d else { d with now := d.now + (if d.rst.core then 0 else (d.fab % 2 + n) / 2), fab := d.fab + n, tmrEv := [] }

/-- Time passes for n FAB cycles, work after work, with no timer running and no cork open: cycles in which nothing ends
change only the counts of time. -/
def Dev.passWork (d : Dev) : Nat → Nat → Dev
  | 0, n => d.skip n
  | k + 1, n =>
    match d.nextDue with
    | some w => if w ≤ n then (if w = 0 then (d.runWork 1).passWork k n else ((d.skip (w - 1)).fabCycle).passWork k (n - w)) else d.skip n
    | none => d.skip n

/-- Time passes for n FAB cycles: with a timer running each of them counts, with a cork open the next 65. -/
def Dev.pass (d : Dev) (n : Nat) : Dev :=
  if d.tmrBusy then d.fabCycles n
  else
    let m := if d.corks.isEmpty then 0 else min n (corkCycles + 1)
    let d1 := d.fabCycles m
    d1.passWork (d1.sch.work.length + d1.icu.hold.length) (n - m)

/-- Device time reaches t: nothing happens where it has already. -/
def Dev.advance (d : Dev) (t : Nat) : Dev :=
  if t ≤ d.now || d.rst.core then d else d.pass (2 * (t - d.now) - d.fab % 2)

/-- FAB cycle t comes, where it has not come yet. -/
def Dev.until (d : Dev) (t : Nat) : Dev := if t ≤ d.fab then d else d.pass (t - d.fab)

/-! ### Registers of the timers -/

/-- TMRn_STAT.FAR (R454). -/
def Tmr.far (t : Tmr) : Bool :=
  let x := (t.cmp + 2 ^ 48 - t.cnt) % 2 ^ 48
  x == 0 || decide (2 ^ 47 ≤ x)

/-- TMRn_STAT as read. -/
def Dev.tmrStat (d : Dev) (n : Nat) : Word :=
  let t := d.tm n
  BitVec.ofNat 32 (b2n t.run * 2 ^ 31 + b2n t.wait * 2 ^ 30 + b2n t.far * 2 ^ 29 + b2n t.mout * 2 ^ 28)

/-- TMR_RUN as read. -/
def Dev.tmrRun (d : Dev) : Word := BitVec.ofNat 32 ((List.range 32).foldl (fun a n => a + b2n (d.tm n).run * 2 ^ n) 0)

/-- Setting TMRn_CTL.EN, the register already written (R457, R459). -/
def Dev.tmrEnable (d : Dev) (n : Nat) : Dev :=
  let t := d.tm n
  let slv := d.tmrSlv n
  let mst := d.get (F.TMR_CTL_MST n)
  let chain := decide (16 ≤ n) && (slv != 0 || d.tmrSrc n == 5)
  if chain && !(decide (16 ≤ mst) && decide (mst < n)) then d.causeOn 17 0 n 1
  else
    let d1 := d.causeOff 17 0 n
    if decide (n < 16) && d.flag (F.TMR_CTL_GSYNC n) then d1.setTm n { t with wait := true, since := d.fab }
    else if slv = 4 then d1.setTm n { t with wait := true, since := d.fab }
    else d1.setTm n t.start

/-- A discarded write (TMR_CNT.WRREF). -/
def Dev.tmrRefuse (d : Dev) : Dev := d.incSat F.TMR_CNT_WRREF

/-- EN of timer n is cleared: it stops, and a load of its counter refused in the same FAB cycle is taken after all (R457,
R460). -/
def Dev.tmrStop (d : Dev) (n : Nat) : Dev :=
  let t := d.tm n
  let t1 : Tmr := { t with run := false, wait := false, inq := 0, load := none }
  match t.load with
  | some (f, v, counted) =>
    if f ≠ d.fab then d.setTm n t1
    else (d.setTm n { t1 with cnt := v }).put F.TMR_CNT_WRREF (d.get F.TMR_CNT_WRREF - b2n counted)
  | none => d.setTm n t1

/-- A write of TMRn_CTL (R457; while EN is kept set only AUTO changes). -/
def Dev.tmrCtlWrite (d : Dev) (n data : Nat) : Dev :=
  let a := R.TMR_CTL n
  let en := d.flag (F.TMR_CTL_EN n)
  let w := mix (d.rd a) (BitVec.ofNat 32 data) (if n < 16 then 0xE000FFBF else 0xA71FFFBF)
  if en && bitOf data 31 then
    let d1 := d.putB (F.TMR_CTL_AUTO n) (bitOf data 29)
    if w = d1.rd a then d1 else d1.tmrRefuse
  else
    let d1 := d.wr a w
    if en then d1.tmrStop n
    else if bitOf data 31 then d1.tmrEnable n
    else d1

/-- A write of TMRn_CFG (discarded while EN is set). -/
def Dev.tmrCfgWrite (d : Dev) (n data : Nat) : Dev :=
  if d.flag (F.TMR_CTL_EN n) then d.tmrRefuse else d.wr (R.TMR_CFG n) (BitVec.ofNat 32 data &&& 0xFFFFFF70#32)

/-- A write of TMRn_CMP_HI by requester req (R454). -/
def Dev.tmrCmpHi (d : Dev) (req n data : Nat) : Dev :=
  d.setTm n { d.tm n with cmp := (data % 2 ^ 16) * 2 ^ 32 + (d.own req (R.TMR_CMP_LO n)).toNat }

/-- A write of TMRn_CNT_HI by requester req (R456): refused while the timer runs, but for a clear of EN in the same FAB
cycle (R460). -/
def Dev.tmrCntHi (d : Dev) (req n data : Nat) : Dev :=
  let v := (data % 2 ^ 16) * 2 ^ 32 + (d.own req (R.TMR_CNT_LO n)).toNat
  if (d.tm n).run then
    let d1 := d.tmrRefuse
    d1.setTm n { d1.tm n with load := some (d.fab, v, d1.get F.TMR_CNT_WRREF != d.get F.TMR_CNT_WRREF) }
  else d.setTm n { d.tm n with cnt := v }

/-- A write of TMR_GCTL (R458): STOP excludes GO; a timer enabled in this FAB cycle was still STOPPED at its start, so GO
does not start it (R460). -/
def Dev.tmrGctl (d : Dev) (data : Nat) : Dev :=
  if bitOf data 1 then
    forN 16 (fun x n => if (x.tm n).run && x.flag (F.TMR_CTL_GSYNC n) then x.setTm n { x.tm n with run := false, wait := true, inq := 0 } else x) d
  else if bitOf data 0 then forN 16 (fun x n => if (x.tm n).wait && (x.tm n).since != x.fab then x.setTm n (x.tm n).start else x) d
  else d

/-- Slots of a tooth record reach the timers that count angle (R452). -/
def Dev.tmrAngle (d : Dev) (k slots : Nat) (rev : Bool) : Dev :=
  forN 32 (fun x n =>
    let dq := x.get (F.TMR_CTL_ADIR n)
    if x.tmrSrc n == 4 && x.get (F.TMR_CTL_TRK n) == k && (decide (2 ≤ dq) || (dq == 1) == rev) then x.tmrFeed n slots else x) d

/-- A rising SLOW edge reaches the timers with SRC = 2 (R449). -/
def Dev.tmrSlow (d : Dev) : Dev := forN 32 (fun x n => if x.tmrSrc n == 2 then x.tmrFeed n 1 else x) d

/-! ### Commands -/

/-- Timer n runs and inputs come to it with no further command: of TICK and FAB always, else those that wait to be fed, or
the matches of a master of which the same holds (R449, R452, R459). -/
def Dev.tmrFed (d : Dev) : Nat → Nat → Bool
  | 0, _ => false
  | k + 1, n =>
    let s := d.tmrSrc n
    let own := if s = 0 || s = 1 then true
      else if s = 5 then d.tmrEv.contains (d.get (F.TMR_CTL_MST n)) || d.tmrFed k (d.get (F.TMR_CTL_MST n))
      else decide (0 < (d.tm n).inq)
    (d.tm n).run && own

/-- FAB cycles pass, k at most, to the end of the one in which timer n matches; none where it does not. -/
def Dev.tmrSeek (d : Dev) (n : Nat) : Nat → Option Dev
  | 0 => none
  | k + 1 =>
    if !d.tmrFed 32 n then none
    else
      let x := d.fabCycle
      if x.tmrEv.contains n then some x else x.tmrSeek n k

/-- TMR_MATCH (R448, R453, R455): FAB cycles pass until timer n steps onto its compare, within 2^64 of them; without effect
where its inputs do not bring it there (notes/assumptions/35.md). -/
def execTmrMatch (n : Fin 32) (s : State) : Host.Outcome State Fault Refusal :=
  s.run (fun d => (d.tmrSeek n (2 ^ 64)).getD d)

/-- TMR_CMP_LO_WRITE (R454). -/
def execTmrCmpLoWrite (req : Fin 10) (n : Fin 32) (data : Nat) (s : State) : Host.Outcome State Fault Refusal :=
  s.run (fun d => d.setOwn req (R.TMR_CMP_LO n) (BitVec.ofNat 32 data))

/-- TMR_CMP_HI_WRITE (R454). -/
def execTmrCmpHiWrite (req : Fin 10) (n : Fin 32) (data : Nat) (s : State) : Host.Outcome State Fault Refusal :=
  s.run (fun d => d.tmrCmpHi req n data)

/-- TMR_CNT_HI_WRITE (R456). -/
def execTmrCntHiWrite (req : Fin 10) (n : Fin 32) (data : Nat) (s : State) : Host.Outcome State Fault Refusal :=
  s.run (fun d => d.tmrCntHi req n data)

/-- TMR_ENABLE (R457, R459): a write of TMRn_CTL with EN set. -/
def execTmrEnable (_req : Fin 10) (n : Fin 32) (data : Nat) (s : State) : Host.Outcome State Fault Refusal :=
  s.run (fun d => d.tmrCtlWrite n (Nat.lor data (2 ^ 31)))

/-- TMR_DISABLE (R457): a write of TMRn_CTL with EN clear. -/
def execTmrDisable (_req : Fin 10) (n : Fin 32) (data : Nat) (s : State) : Host.Outcome State Fault Refusal :=
  s.run (fun d => d.tmrCtlWrite n (data % 2 ^ 31))

/-- GO (R458). -/
def execGo (_req : Fin 10) (s : State) : Host.Outcome State Fault Refusal := s.run (fun d => d.tmrGctl 1)

/-- STOP (R458). -/
def execStop (_req : Fin 10) (s : State) : Host.Outcome State Fault Refusal := s.run (fun d => d.tmrGctl 2)

/-- TMR_CNT_CLR (R7). -/
def execTmrCntClr (_req : Fin 10) (s : State) : Host.Outcome State Fault Refusal := s.run (fun d => d.put F.TMR_CNT_WRREF 0)

/-- The device at which a decision of machine k begins: a FAB cycle in which an input of the machine was written is over, and
every instant that has come is in its queue (R209, R212). -/
def Dev.prsReady (d : Dev) (k : Nat) : Dev :=
  forN 16 (fun x j => x.prsTimed j) (if (d.ps k).wrote.any (fun w => w.1 == d.fab) then d.fabCycle else d)

/-- PRESS_DECISION (R209, R211, R212): the Press begins the decision of position sp of machine k, when it is the next one. -/
def execPressDecision (k : Fin 16) (sp : Fin 64) (s : State) : Host.Outcome State Fault Refusal :=
  s.run (fun d =>
    let x := d.prsReady k
    match x.prsNext with
    | some (j, e) =>
      if j = k.val && e.1 = sp.val then
        (x.setPs j { x.ps j with queue := (x.ps j).queue.drop 1 }).prsDecide j e.1 e.2.1 e.2.2.1 e.2.2.2
      else x
    | none => x)

/-- ERT_SWPULSE (R446): router source 141. -/
def execErtSwpulse (_req : Fin 10) (s : State) : Host.Outcome State Fault Refusal := s.run (fun d => d.route 141)

end Sys2Proof.Machine
end

