-- ==== Sys2Proof/Machine/Sensor.lean ====
section
/-! DEFINITION. Sensor inputs (R76-R82, R537) and sensor supplies. A crossing comes with the peak magnitude of the lobe it
ends in mV, the ticks for which the new level holds, and its time stamp. -/

namespace Sys2Proof.Machine

def sns0 : Sns := ⟨0, [], none, none, none, none⟩
def Dev.sn (d : Dev) (n : Nat) : Sns := smGet d.sns sns0 n
def Dev.setSn (d : Dev) (n : Nat) (x : Sns) : Dev := { d with sns := smSet d.sns sns0 n x }

/-- The configuration and filter words in force (R537). -/
def Dev.snsEff (d : Dev) (n : Nat) : Word × Word := (d.sn n).eff.getD (d.rd (R.SNS_CFG n), d.rd (R.SNS_FLT n))

/-- The primary sensor input of a tracker of kind wheel (TRKn_CFG.PRI_SRC, PRI_HI). -/
def Dev.priSns (d : Dev) (k : Nat) : Nat := 16 * d.get (F.TRK_CFG_PRI_HI k) + d.get (F.TRK_CFG_PRI_SRC k)

/-- Fixed front-end delay of 180 ns, in ticks (R80). -/
def snsDelay : Nat := 36

/-- Does input n work as a Hall input? -/
def Dev.snsHall (d : Dev) (n : Nat) : Bool := fldGet (F.SNS_CFG_TYPE n) (d.snsEff n).1 == 1

/-- The configuration and filter words of input n come into force: a Hall input reports neither OPEN nor LOWAMP (R81, R537). -/
def Dev.snsTake (d : Dev) (n : Nat) (x : Sns) : Dev :=
  let d1 := d.setSn n { x with eff := none }
  if d1.snsHall n then (((d1.putB (F.SNS_STAT_OPEN n) false).putB (F.SNS_STAT_LOWAMP n) false).causeOff 4 0 n).causeOff 4 2 n else d1

/-- An edge is delivered to every tracker that uses the input (R80, R82), with the level it enters. -/
def Dev.snsDeliver (d : Dev) (n : Nat) (stamp : Nat) : Dev :=
  let x := d.sn n
  let per := match x.last with | some l => some (stamp - l) | none => none
  let d1 := d.snsTake n { x with last := some stamp, period := per }
  let d2 := (d1.put64 (R.SNS_TS_LO n) (R.SNS_TS_HI n) stamp).incWrap (F.SNS_CNT_EDGES n)
  forN 16 (fun y k =>
    if y.tstate k == 0 then y
    else
      let e := Edge.mk stamp (y.flag (F.SNS_STAT_LEVEL (y.get (F.TRK_DIR_DIR_SNS k)))) (y.flag (F.SNS_STAT_LEVEL (y.get (F.TRK_CFG_PH_SRC k))))
      let t := y.tk k
      let t1 := if !y.flag (F.TRK_CFG_KIND k) && y.priSns k == n then { t with priQ := t.priQ ++ [e] } else t
      let mode := y.get (F.TRK_CFG_PH_MODE k)
      let t2 := if (mode == 1 || mode == 2) && y.get (F.TRK_CFG_PH_SRC k) == n then { t1 with phQ := t1.phQ ++ [e] } else t1
      y.setTk k t2) d2

/-- An edge in the selected direction is blanked or delivered (R79). -/
def Dev.snsSelect (d : Dev) (n : Nat) (flt : Word) (stamp : Nat) : Dev :=
  let x := d.sn n
  let blank := fldGet (F.SNS_FLT_BLANK n) flt
  match x.last, x.period with
  | some l, some p => if blank ≠ 0 && decide (32 * (stamp - l) < blank * p) then d.incSat (F.SNS_CNT_GLITCH n) else d.snsDeliver n stamp
  | _, _ => d.snsDeliver n stamp

/-- The filtered level changes; the pulse width is measured whatever EDGE (SNSn_PW). -/
def Dev.snsLevel (d : Dev) (n : Nat) (rising : Bool) (stamp : Nat) : Dev :=
  let d1 := d.putB (F.SNS_STAT_LEVEL n) rising
  let x := d1.sn n
  if rising then d1.setSn n { x with rise := some stamp }
  else match x.rise with
    | some r => d1.put (F.SNS_PW_PW n) (min (stamp - r) 0xFFFFFF)
    | none => d1

/-- SNSn_CFG.EDGE selects the direction (3 acts as 0). -/
def snsSel (edge : Nat) (rising : Bool) : Bool := edge == 2 || (if edge = 1 then !rising else rising)

/-- An armed lobe: PEAK_prev, PEAK, LOWAMP (R76, R81). -/
def Dev.snsArmed (d : Dev) (n thMin peak : Nat) : Dev :=
  let x := d.sn n
  let h := (peak :: x.hist).take 8
  let low := h.length == 8 && h.all (fun p => decide (p < 20 * thMin))
  ((((d.setSn n { x with peak := peak, hist := h }).put (F.SNS_STAT_PEAK n) (min (peak / 20) 0xFFF)).putB (F.SNS_STAT_LOWAMP n) low)).cause 4 2 n 1 low

/-- A filtered transition of an input that is not open or shorted (R76, R77). -/
def Dev.snsEdge (d : Dev) (n : Nat) (cfg flt : Word) (rising : Bool) (peak : Option Nat) (stamp : Nat) : Dev :=
  let d1 := d.snsLevel n rising stamp
  if !snsSel (fldGet (F.SNS_CFG_EDGE n) cfg) rising || d1.flag (F.SNS_STAT_OPEN n) || d1.flag (F.SNS_STAT_SHORT n) then d1
  else match peak with
    | none => d1.snsSelect n flt stamp
    | some p =>
      let thMin := fldGet (F.SNS_CFG_TH_MIN n) cfg
      if 16 * p ≤ max (160 * thMin) ((d1.sn n).peak * fldGet (F.SNS_CFG_TH_FRAC n) cfg) then d1
      else (d1.snsArmed n thMin p).snsSelect n flt stamp

/-- A transition at the pin of an input of the given type: the filter of R78, and the time of delivery (R80). A transition
to the level that the filter already shows, after one that did not hold, changes nothing; while EN is clear only the level
is followed (R78, R537). -/
def Dev.snsTransition (d : Dev) (n : Nat) (hall rising : Bool) (peak : Option Nat) (hold stamp : Nat) : Dev :=
  let c := d.snsEff n
  if (fldGet (F.SNS_CFG_TYPE n) c.1 == 1) != hall then d
  else
    let en := fldGet (F.SNS_CFG_EN n) c.1 == 1
    let flt := fldGet (F.SNS_FLT_FLT n) c.2
    let d1 := d.advance (stamp + flt + snsDelay)
    if hold < flt then (if en then d1.incSat (F.SNS_CNT_GLITCH n) else d1)
    else if d1.flag (F.SNS_STAT_LEVEL n) == rising then d1
    else if en then d1.snsEdge n c.1 c.2 rising peak stamp
    else d1.snsLevel n rising stamp

/-- A write of SNSn_CFG or SNSn_FLT (R537). -/
def Dev.snsCfgWrite (d : Dev) (n : Nat) (flt : Bool) (data : Nat) : Dev :=
  let a := if flt then R.SNS_FLT n else R.SNS_CFG n
  let en := d.flag (F.SNS_CFG_EN n)
  let w := BitVec.ofNat 32 data &&& (if flt then 0x001F03FF#32 else 0x00FF0F0F#32)
  let stays := flt || w.getLsbD 0
  let x := d.sn n
  if en && stays then (d.setSn n { x with eff := some (d.snsEff n) }).wr a w
  else
    let d1 := (d.wr a w).snsTake n x
    if !en && !flt && w.getLsbD 0 then ((d1.setSn n sns0).putB (F.SNS_STAT_LOWAMP n) false).causeOff 4 2 n else d1

/-- SNS_VR_CROSSING (R76, R78-R82). -/
def execSnsVrCrossing (n : Fin 32) (rising : Bool) (peak hold stamp : Nat) (s : State) : Host.Outcome State Fault Refusal :=
  s.run (fun d => d.snsTransition n false rising (some peak) hold stamp)

/-- SNS_HALL_TRANSITION (R77-R80, R82). -/
def execSnsHallTransition (n : Fin 32) (rising : Bool) (hold stamp : Nat) (s : State) : Host.Outcome State Fault Refusal :=
  s.run (fun d => d.snsTransition n true rising none hold stamp)

/-- SNS_OPEN_SHORT (R81): Hall inputs do not report OPEN. -/
def execSnsOpenShort (n : Fin 32) (short present : Bool) (s : State) : Host.Outcome State Fault Refusal :=
  s.run (fun d =>
    let on := present && (short || !d.snsHall n)
    (d.putB (if short then F.SNS_STAT_SHORT n else F.SNS_STAT_OPEN n) on).cause 4 (if short then 1 else 0) n 2 on)

/-- SNS_CFG_WRITE (R537). -/
def execSnsCfgWrite (_req : Fin 10) (n : Fin 32) (flt : Bool) (data : Nat) (s : State) : Host.Outcome State Fault Refusal :=
  s.run (fun d => d.snsCfgWrite n flt data)

/-- Bits of a mask that clear a counter. -/
def Dev.clrMask (d : Dev) (n mask : Nat) (f : Dev → Nat → Dev) : Dev := forN n (fun x i => if bitOf mask i then f x i else x) d

def Dev.snsCntClr (d : Dev) (mask : Nat) : Dev := d.clrMask 32 mask (fun x n => x.put (F.SNS_CNT_GLITCH n) 0)

/-- SNS_CNT_CLR (R7). -/
def execSnsCntClr (_req : Fin 10) (mask : Nat) (s : State) : Host.Outcome State Fault Refusal := s.run (fun d => d.snsCntClr mask)

/-- SUPPLY_OC (R522): SNSVj starts or stops current limiting. -/
def execSupplyOc (j : Fin 4) (present : Bool) (s : State) : Host.Outcome State Fault Refusal :=
  s.run (fun d => (d.setBit R.SNS_SUPPLY (16 + j.val) present).cause 4 3 j 2 present)

end Sys2Proof.Machine
end

