-- ==== Sys2Proof/Machine/Track.lean ====
section
/-! DEFINITION. Trackers (R83-R123): entry into and loss of sync, swaps of a tracker, the gap detector, phase windows,
tooth records. The judging of edges stands in Edge.lean. -/

namespace Sys2Proof.Machine

def Dev.upTk (d : Dev) (k : Nat) (f : Trk → Trk) : Dev := d.setTk k (f (d.tk k))

/-! ### Phase geometry -/

/-- C_ref and C_oth of the latched copy (R94). -/
def Dev.latchedCounts (d : Dev) (k : Nat) : Nat × Nat :=
  let g := d.geo k
  let ps := whPhases (d.tk k).wheel
  let c := phIn ps ((g.ref : Int) - revAU) revAU g.len
  (c, ps.length - c)

/-- Half-width of a phase window, AU. -/
def Dev.phTol (d : Dev) (k : Nat) : Int := 16 * d.get (F.TRK_FB_PH_TOL k)

/-- The next phase angle strictly beyond absolute angle x in direction rev. -/
def Dev.phAim (d : Dev) (k : Nat) (x : Int) (rev : Bool) : Option Int :=
  let g := d.geo k
  (whPhases (d.tk k).wheel).foldl (fun (b : Option Int) p =>
    let a := g.nextOcc (if rev then x - 1 else x + 1) p rev
    match b with
    | none => some a
    | some c => if (if rev then decide (c < a) else decide (a < c)) then some a else b) none

/-- Halving search for the offset o in [lo, lo + 2^n) with f o at most t, f rising. -/
def bisect (f : Nat → Int) (t : Int) : Nat → Nat → Nat
  | 0, lo => lo
  | n + 1, lo => if f (lo + 2 ^ n) ≤ t then bisect f t n (lo + 2 ^ n) else bisect f t n lo

/-- The absolute angle of tracker k at time stamp, extrapolated from its last record (R113). -/
def Dev.angAt (d : Dev) (k stamp : Nat) : Int :=
  let t := d.tk k
  let len : Int := (d.geo k).len
  if t.pn = 0 then t.lin
  else
    let pos := fun (o : Nat) => if t.rev then t.lin + len - o else t.lin - len + o
    pos (bisect (fun o => d.reach k (pos o)) (8 * stamp) 26 0)

/-- The phase angle whose window holds absolute angle x; of overlapping windows, the awaited one first. -/
def Dev.phHit (d : Dev) (k : Nat) (x : Int) : Option Int :=
  let len : Int := (d.geo k).len
  let tol := d.phTol k
  ((d.tk k).phNext.toList ++ (whPhases (d.tk k).wheel).map (fun p => (p : Int) + len * Int.fdiv (2 * (x - p) + len) (2 * len))).find? (fun a =>
    decide (x - a ≤ tol) && decide (a - x ≤ tol))

/-- Has absolute angle x passed the window around a? -/
def Dev.phPast (d : Dev) (k : Nat) (x a : Int) (rev : Bool) : Bool := if rev then decide (x < a - d.phTol k) else decide (a + d.phTol k < x)

/-! ### Mirror frames of a tracker (R335, R346) -/

/-- A TOOTH frame: kind, direction change, span in 2^-16 slot, angle, stamp. -/
def Dev.mirTooth (d : Dev) (k kind : Nat) (rev dchg : Bool) (span pos : Nat) (lin : Int) (stamp : Nat) : Dev :=
  if d.mirState = 5 then
    let g := d.geo k
    let abs := ofS 40 (g.cyc lin) * 2 ^ 24 + g.posOf lin
    let w1 := k * 2 ^ 28 + kind * 2 ^ 26 + b2n rev * 2 ^ 25 + b2n dchg * 2 ^ 24 + b2n (d.armOk k) * 2 ^ 23 + d.tstate k * 2 ^ 20 + pos % 512
    d.mirSend 5 [w1, span, abs % 2 ^ 32, abs / 2 ^ 32, stamp % 2 ^ 32, stamp / 2 ^ 32]
  else d

/-- A change of state without a record. -/
def Dev.mirChange (d : Dev) (k : Nat) : Dev :=
  let t := d.tk k
  d.mirTooth k 3 t.rev false 0 (d.get (F.TRK_STAT_POS_WHL k)) t.lin d.now

/-! ### State, sync lost, swaps -/

/-- R130: a tracker with ARM_OK that no engine serves. -/
def Dev.allocCheck (d : Dev) (k : Nat) : Dev :=
  let b := d.armOk k && (d.serving k).isEmpty
  (d.setBit R.PRD_ALLOC_STAT k b).cause 7 1 k 2 b

def Dev.setTst (d : Dev) (k st : Nat) (arm : Bool) : Dev := ((d.put (F.TRK_STAT_STATE k) st).putB (F.TRK_STAT_ARM_OK k) arm).setBit 0x70004 k arm

/-- SYNC_LOST is signalled to the ICU and the router (R100). -/
def Dev.lostSignal (d : Dev) (k : Nat) : Dev := (d.icuArrive (256 + k)).route (73 + k)

/-- ARM_OK falls: SYNC_LOST to prediction, scheduler and Press, the router and the ICU (R100, R151, R189, R350). -/
def Dev.syncLost (d : Dev) (k : Nat) : Dev :=
  let t := d.tk k
  let d1 := d.upTk k (fun x => { x with lastCyc := (d.geo k).cyc t.lin })
  let d2 := ((d1.putB (F.TRK_STAT_ARM_OK k) false).setBit 0x70004 k false).causeOff 7 1 k
  let d3 := (d2.setBit R.PRD_ALLOC_STAT k false).lostSignal k
  if d3.follows k then d3 else (d3.prdRestart k).schSyncLost k

/-- A tracker that leaves its running states: detector, phase and quick-start state start afresh. -/
def Trk.fresh0 (t : Trk) : Trk :=
  { t with phCnt := 0, undecided := 0, qsFirst := false, skip := false, phRun := 0, phNext := none, clean := false, whole := false
           miss := 0, bgOn := false, bgClean := 0 }

/-- No interval is open in the gap detector. -/
def Trk.noGap (t : Trk) : Trk := { t with wLast := none, wPrev := none, cand := none }

/-- Primary edges that wait are forgotten. -/
def Trk.noEdges (t : Trk) : Trk := { t with priQ := [], pwQ := [] }

/-! ### Angle entries (R426, R427, R447) -/

def am0 : AMark := ⟨none, 0, 0, []⟩
def Dev.am (d : Dev) (i : Nat) : AMark := smGet d.amark am0 i
def Dev.setAm (d : Dev) (i : Nat) (x : AMark) : Dev := { d with amark := smSet d.amark am0 i x }

/-- The two words of entry i: conversion triggers 0-31, angle marks 32-63. -/
def Dev.amRegs (d : Dev) (i : Nat) : Word × Word :=
  if i < 32 then (d.rd (R.ADC_ATRG_A i), d.rd (R.ADC_ATRG_B i)) else (d.rd (R.ERT_AM_A (i - 32)), d.rd (R.ERT_AM_B (i - 32)))

def AMark.trk (m : AMark) : Nat := bits m.a.toNat 27 24
def AMark.ang (m : AMark) : Nat := m.a.toNat % 2 ^ 24

/-- May the entry fire in direction rev: in use, ARM_OK, DIRQ (R426). -/
def Dev.amAble (d : Dev) (m : AMark) (rev : Bool) : Bool :=
  let q := m.b.toNat % 4
  m.a.getLsbD 31 && d.srcArm m.trk && q != 3 && (q == 2 || (q == 1) == rev) && decide (m.ang < (d.geo m.trk).len)

/-- Entry i fires: a conversion trigger (R425), or a router event (R447). -/
def Dev.amFire (d : Dev) (i : Nat) (m : AMark) : Dev :=
  if i < 32 then
    let b := m.b.toNat
    d.adcTrigger (bits b 5 4) ⟨0, i, m.ang, bits b 15 12, bits b 11 8 + 1⟩
  else d.route (93 + (i - 32))

/-- Entry i has reached absolute angle a: it fires there once (R426). -/
def Dev.amReach (d : Dev) (i : Nat) (a : Int) : Dev :=
  let m := d.am i
  if m.fired.contains a then d else (d.setAm i { m with fired := a :: m.fired }).amFire i m

/-- The tracker of entry i has come to absolute angle x in direction rev: the angle fires where it has been passed since the
last comparison and the entry may fire. -/
def Dev.amPassOne (d : Dev) (i : Nat) (x : Int) (rev fresh : Bool) : Dev :=
  let m := d.am i
  let y := d.setAm i { m with upTo := some x }
  match m.upTo with
  | some u =>
    let len : Int := (d.geo m.trk).len
    let a := if rev then x + Int.fmod ((m.ang : Int) - x) len else x - Int.fmod (x - m.ang) len
    if !fresh && d.amAble m rev && (if rev then decide (a < u) else decide (u < a)) then y.amReach i a else y
  | none => y

/-- Entry i takes its words, to be compared from absolute angle x on; what it has fired at counts while it keeps its tracker
and angle. -/
def Dev.amTake (d : Dev) (i : Nat) (x : Int) : Dev :=
  let w := d.amRegs i
  let m := d.am i
  d.setAm i ⟨some x, w.1, w.2, if bits w.1.toNat 27 0 = bits m.a.toNat 27 0 then m.fired else []⟩

/-- A tooth record of tracker k at absolute angle x in direction rev: entries take their new words, and those whose
angle has been passed fire. -/
def Dev.amPass (d : Dev) (k : Nat) (x : Int) (rev fresh : Bool) : Dev :=
  forN 64 (fun (y : Dev) i =>
    let w := y.amRegs i
    let m := y.am i
    if bits w.1.toNat 27 24 = k && (m.a, m.b) ≠ w then y.amTake i x
    else if m.a = 0 || m.trk ≠ k then y
    else y.amPassOne i x rev fresh) d

/-- Entry i at its predicted time (R209, R210, R426). -/
def Dev.amTimed (d : Dev) (i : Nat) : Dev :=
  let m := d.am i
  let k := m.trk
  let rev := (d.pr k).rev
  match m.upTo with
  | some u =>
    let a := (d.geo k).nextOcc (if rev then u - 1 else u + 1) m.ang rev
    if d.amAble m rev && d.pv k && decide (d.dist k a < 2 * 65536) then
      match d.timeOf k a with
      | .time t => if t ≤ 8 * (d.now : Int) then (d.setAm i { m with upTo := some a }).amReach i a else d
      | _ => d
    else d
  | none => d

/-- Does conversion trigger i swap with tracker k (R427)? -/
def Dev.amBound (d : Dev) (k i : Nat) : Bool :=
  d.fld true (F.ADC_ATRG_A_TRK i) == k && (d.rdS (R.ADC_ATRG_A i) != d.rd (R.ADC_ATRG_A i) || d.rdS (R.ADC_ATRG_B i) != d.rd (R.ADC_ATRG_B i))

/-- Tracker k swaps at absolute angle b (R52-R54, R427): a trigger that swaps with it fires on its live tracker up to then,
on tracker k itself at the angles before b, and takes its new words for the angles from b on. -/
def Dev.swapWhole (d : Dev) (k vint : Nat) (b : Int) (rev : Bool) : Dev :=
  let x := if rev then b + 1 else b - 1
  let mine := (List.range 32).filter (fun i => d.amBound k i)
  let d1 := mine.foldl (fun (y : Dev) i =>
    let z := y.amTimed i
    if (z.am i).trk = k && (z.am i).a ≠ 0 && rev == (z.pr k).rev then z.amPassOne i x rev false else z) d
  mine.foldl (fun (y : Dev) i => y.amTake i x) (d1.swapApply k vint b rev)

/-! ### Falling and waking -/

/-- Level bits of TRKn_STAT at a state without sync. -/
def Dev.trkClr (d : Dev) (k : Nat) : Dev :=
  ((d.put (F.TRK_STAT_QSCHK k) 0).put (F.TRK_STAT_PH_OK k) 0).put (F.TRK_STAT_BADCNT k) 0

/-- The tracker leaves for a state without ARM_OK (R97, R100). -/
def Dev.trkFall (d : Dev) (k st : Nat) : Dev :=
  let d1 := if d.armOk k then d.syncLost k else d
  ((d1.setTst k st false).trkClr k).upTk k Trk.fresh0

/-- From OFF to STOPPED with a valid live definition (R97, R536). DESIGN CHOICE (notes/assumptions/103.md): the checker latches
it then too, though R122 does not list this moment; any entry into SYNC latches anew. -/
def Dev.trkArm (d : Dev) (k : Nat) : Dev :=
  let d1 := (d.causeOff 6 8 k).setTst k 1 false
  (d1.upTk k (fun t => { t.noEdges.noGap with wheel := d1.wheelWords k, phQ := [] })).mirChange k

/-- Does the shadow copy hold another definition of tracker k than the live copy? -/
def Dev.newDef (d : Dev) (k : Nat) : Bool :=
  (smKeys d.shd ++ smKeys d.reg).any (fun a => decide (R.TRK_CTL k ≤ a) && decide (a < R.TRK_CTL k + 0x1000) && mix (d.rd a) (d.rdS a) (rwsMask a) != d.rd a)

/-- The pending swap of a tracker that has no ARM_OK any more is made now (R54): device, and whether it took another
definition. -/
def Dev.swapDown (d : Dev) (k : Nat) : Dev × Bool :=
  match (d.tk k).pend with
  | some p => (d.swapWhole k p.vint (d.angNow k) p.rev, d.newDef k)
  | none => (d, false)

/-- A definition in force that fails raises WHEEL_CFG where EN is set or the definition is new (R85, R536). -/
def Dev.defRaise (d : Dev) (k : Nat) (fresh : Bool) : Dev :=
  if (fresh || d.flag (F.TRK_CTL_EN k)) && !d.defOk k then d.causeOn 6 8 k 2 else d

/-- The way out of OFF with EN set and a valid live definition (R97). -/
def Dev.trkWake (d : Dev) (k : Nat) : Dev := if d.flag (F.TRK_CTL_EN k) && d.tstate k == 0 && d.defOk k then d.trkArm k else d

/-- OFF (R97), where a pending swap is made at once too. -/
def Dev.trkOff (d : Dev) (k : Nat) : Dev :=
  let d1 := (d.trkFall k 0).upTk k (fun t => { t.noEdges.noGap with phQ := [], encRun := false })
  let r := d1.swapDown k
  ((if r.2 then r.1.defRaise k true else r.1).mirChange k).trkWake k

/-- The check of the definition that a swap brought, or of the one live when EN is set (R85, R86, R87, R94, R117, R536):
WHEEL_CFG and OFF, or the way out of OFF. -/
def Dev.trkCheck (d : Dev) (k : Nat) (fresh : Bool) : Dev :=
  let d1 := d.defRaise k fresh
  if d1.flag (F.TRK_CTL_EN k) && !d1.defOk k then d1.trkOff k else d1.trkWake k

/-- The tracker leaves for a state without ARM_OK; a pending swap is made at once and its definition checked (R54, R100,
R536). -/
def Dev.trkDown (d : Dev) (k st : Nat) : Dev :=
  let d1 := d.trkFall k st
  if (d1.tk k).pend.isSome then
    let r := d1.swapDown k
    (r.1.mirChange k).trkCheck k r.2
  else d1.mirChange k

/-- Tracker k swaps and its incoming definition is checked (R52, R85, R536). -/
def Dev.trkSwap (d : Dev) (k vint : Nat) (b : Int) (rev : Bool) : Dev :=
  let d1 := (d.swapWhole k vint b rev).trkCheck k (d.newDef k)
  d1.upTk k (fun t => { t with bnd := (d1.geo k).lastBnd t.lin t.rev })

/-- A whole strobe of vintage v (R50-R56): trackers without ARM_OK swap at once, groups without a pending tracker are
done. -/
def Dev.strobeAs (d : Dev) (mask v : Nat) : Dev :=
  let d1 := d.strobeTake mask v
  let d2 := forN 16 (fun x k => match (x.tk k).pend with
    | some p => if bitOf mask (x.grpOf k) && !x.armOk k then x.trkSwap k p.vint (x.angNow k) p.rev else x
    | none => x) d1
  forN 8 (fun x g => if bitOf mask g then x.grpDone g else x) d2

/-- A strobe of the next vintage (R51). -/
def Dev.strobeAll (d : Dev) (mask : Nat) : Dev := d.strobeAs mask d.newVint

/-! ### Records and entries -/

/-- A tooth record is made at the tracker's position (R93): it waits for its delivery, and the registers show it. -/
def Dev.trkEmit (d : Dev) (k stamp : Nat) (kind : RecKind) (span : Nat) (dchg fbret : Bool) : Dev :=
  let t := d.tk k
  let g := d.geo k
  let r := ToothRec.mk stamp t.lin t.bnd span t.rev kind dchg t.fresh fbret
  let abs := ofS 40 (g.cyc t.lin) * 2 ^ 24 + g.posOf t.lin
  let d1 := d.setTk k { t with recs := t.recs ++ [r], fresh := false }
  let d2 := ((d1.put64 (R.TRK_ABS_LO k) (R.TRK_ABS_HI k) abs).put64 (R.TRK_TS_LO k) (R.TRK_TS_HI k) stamp)
  ((d2.put (F.TRK_STAT_POS_WHL k) (g.pos t.bnd % 512)).put (F.TRK_STAT_DIR k) (if t.rev then 2 else 1)).put (F.TRK_PERIOD_PN k) (min t.pn (2 ^ 32 - 1))

/-- The cycle count of an entry into SYNC (R99). -/
def Dev.cyc0 (d : Dev) (k : Nat) (rev : Bool) : Int :=
  let t := d.tk k
  if !t.everSync then 0 else if rev then t.lastCyc - 1 else t.lastCyc + 1

/-- Boundary of cycle slot c moved so that its angle lies in cycle n. -/
def Geo.inCycle (g : Geo) (c n : Int) (rev : Bool) : Int := c + (n - g.cyc (g.blin c rev)) * g.ms

/-- The tracker stands at boundary b. -/
def Dev.trkPlace (d : Dev) (k : Nat) (b : Int) (rev : Bool) (stamp : Nat) : Dev :=
  d.upTk k (fun t => { t with bnd := b, lin := (d.geo k).blin b rev, real := (d.geo k).blin b rev, rev := rev, lastT := stamp, act := stamp })

/-- R122, R123: the checker latches the live copy, checked. DESIGN CHOICE (notes/assumptions/103.md): the check is that of a
swap, so a copy that fails R86, R94, R117 or R536 raises WHEEL_CFG and leads to OFF too, where R123 names R85 and R87. -/
def Dev.trkLatch (d : Dev) (k : Nat) : Dev × Bool :=
  if d.defOk k then (d.upTk k (fun t => { t with wheel := d.wheelWords k, relatch := false }), true)
  else ((d.causeOn 6 8 k 2).trkOff k, false)

/-- The relatch at a cycle boundary of direct-debug mode (R122, R123): positions count from the new reference tooth, and
the windows are those of the new table. -/
def Dev.trkRelatch (d : Dev) (k : Nat) : Dev :=
  let l := d.trkLatch k
  if l.2 then
    l.1.upTk k (fun t => { t with bnd := t.bnd + (if d.flag (F.TRK_CFG_KIND k) then 0 else whShift (d.tk k).wheel t.wheel)
                                  phNext := t.phNext.bind (fun _ => l.1.phAim k t.lin t.rev) })
  else l.1

/-- Entry into SYNC at the tracker's position from a state without ARM_OK (R96, R97, R99, R122, R214, R224). -/
def Dev.enterSync (d : Dev) (k : Nat) (qschk : Bool) : Dev :=
  let l := d.trkLatch k
  if !l.2 then l.1
  else
    let d1 := (((l.1.trkClr k).causeOff 6 10 k).setTst k 5 true).putB (F.TRK_STAT_QSCHK k) qschk
    let t := d1.tk k
    let d2 := d1.setTk k { t with everSync := true, lastCyc := (d1.geo k).cyc t.lin, undecided := 0, qsFirst := false, phRun := 0
                                  phNext := d1.phAim k t.lin t.rev, clean := false, whole := false, miss := 0, bgOn := false }
    let d3 := d2.allocCheck k
    if d3.follows k then d3 else d3.prsSyncEntry k t.lin t.rev

/-! ### Bad teeth, loss of sync -/

/-- The stop record of a tracker that enters STOPPED from state st (R101, R103). -/
def Dev.stopRecord (d : Dev) (k st : Nat) : Word × Word :=
  let t := d.tk k
  let src := d.get (F.TRK_CFG_DIR_SRC k)
  let dirk := t.known && src != 0
  if st = 2 || st = 4 then
    let old := t.stop.getD (d.crd (0x100 + 2 * k), d.crd (0x101 + 2 * k))
    (old.1 &&& 0x7FFFFFFF#32, old.2)
  else
    let valid := (dirk || d.flag (F.TRK_CTL_QS_NODIR k)) && !(st == 3 && src == 0)
    let pos := (d.geo k).posOf (if st = 3 then t.lin else t.real)
    (BitVec.ofNat 32 (b2n valid * 2 ^ 31 + b2n dirk * 2 ^ 30 + b2n (t.rev && dirk) * 2 ^ 29 + pos), BitVec.ofNat 32 (d.whlSig k))

/-- WAIT_GAP after a loss. -/
def Dev.toWaitGap (d : Dev) (k : Nat) : Dev := d.trkDown k 2

/-- FB_SW (R97, R113). -/
def Dev.toFbSw (d : Dev) (k : Nat) : Dev :=
  let t := d.tk k
  let d1 := (d.setTst k 6 true).incSat (F.TRK_CNT1_FBSW k)
  (d1.setTk k { t.noEdges.noGap with bgOn := false, bgClean := 0, phRun := 0, miss := 0, skip := false }).mirChange k

/-- Loss of sync on the primary (R88-R91, R97, R98, R106, R107): `code` is the fault that shows it, `nofb` that it never
leads to FB_SW. -/
def Dev.trkLoss (d : Dev) (k : Nat) (code : Option Nat) (nofb : Bool) : Dev :=
  let d1 := match code with | some c => d.raise 6 c k 2 | none => d
  match d1.tstate k with
  | 3 => ((d1.incSat (F.TRK_CNT0_QSDISC k)).raise 6 5 k 1).toWaitGap k
  | 4 => (d1.incSat (F.TRK_CNT0_LOSS k)).toWaitGap k
  | 5 =>
    let d2 := d1.incSat (F.TRK_CNT0_LOSS k)
    let d3 := if code = some 6 then d2 else d2.raise 6 3 k 2
    if !nofb && d3.flag (F.TRK_CTL_FB_EN k) && d3.flag (F.TRK_STAT_PH_OK k) then d3.toFbSw k
    else (d3.raise 6 1 k 2).toWaitGap k
  | _ => d1

/-- FB_LOSS (R97, R113, R114). -/
def Dev.fbLoss (d : Dev) (k : Nat) : Dev := ((d.incSat (F.TRK_CNT0_LOSS k)).raise 6 11 k 3).toWaitGap k

/-- A bad tooth (R90): the second in a revolution is loss of sync, which the flag says. -/
def Dev.trkBad (d : Dev) (k : Nat) : Dev × Bool :=
  let n := d.get (F.TRK_STAT_BADCNT k)
  let d1 := ((d.incSat (F.TRK_CNT0_BAD k)).raise 6 0 k 1).put (F.TRK_STAT_BADCNT k) (n + 1)
  if 1 ≤ n then (d1.trkLoss k none false, true) else (d1, false)

/-! ### Phase windows in SYNC (R96) -/

/-- An edge outside every window, or a window without its edge, in SYNC. -/
def Dev.phFail (d : Dev) (k : Nat) : Dev :=
  (((d.put (F.TRK_STAT_PH_OK k) 0).incSat (F.TRK_CNT1_CAMMIS k)).upTk k (fun t => { t with clean := false })).causeOn 6 4 k 1

/-- Windows that absolute angle x has passed without their edge. -/
def Dev.phMissed (d : Dev) (k : Nat) (x : Int) : Nat → Dev
  | 0 => d
  | n + 1 =>
    let t := d.tk k
    match t.phNext with
    | some a => if d.phPast k x a t.rev then ((d.phFail k).upTk k (fun u => { u with phNext := d.phAim k a u.rev })).phMissed k x n else d
    | none => d

/-- A record in SYNC moved the tracker from absolute angle x0 to its position: passed windows, and a whole clean cycle
(R96). -/
def Dev.phAdvance (d : Dev) (k : Nat) (x0 : Int) : Dev :=
  let t := d.tk k
  if d.tstate k ≠ 5 || d.get (F.TRK_CFG_PH_MODE k) = 0 then d
  else
    let d1 := d.phMissed k t.lin 40
    let g := d1.geo k
    if g.cycIdx x0 t.rev < g.cycIdx t.lin t.rev then
      let u := d1.tk k
      let d2 := if u.whole && u.clean then (d1.put (F.TRK_STAT_PH_OK k) 1).causeOff 6 4 k else d1
      d2.setTk k { u with whole := true, clean := true }
    else d1

/-! ### The gap detector (R92) -/

/-- What one primary edge tells the detector: the new state, a confirmed candidate (stamp of the edge that ended it,
confirming interval, boundary noted at it, phase edges counted by then), and whether the edge was ignored. -/
structure Feed where
  t : Trk
  found : Option (Nat × Nat × Int × Nat)
  ignored : Bool
deriving DecidableEq, Repr

/-- R92, with the confirmation tested before an edge is ignored as extra. -/
def Dev.feed (d : Dev) (k stamp : Nat) : Feed :=
  let t := d.tk k
  match t.wLast with
  | none => ⟨{ t with wLast := some stamp, wPrev := none, cand := none }, none, false⟩
  | some l =>
    let p := stamp - l
    let hit := match t.cand with | some c => decide (32 * p ≤ d.get (F.TRK_GAP_POST_HI k) * c) | none => false
    if hit then ⟨{ t with wLast := some stamp, wPrev := some p, cand := none }, some (l, p, t.candBnd, t.candCnt), false⟩
    else match t.wPrev with
      | some q =>
        if 32 * p < d.get (F.TRK_TOL_TOL_LO k) * q then ⟨t, none, true⟩
        else if decide (d.get (F.TRK_GAP_GAP_LO k) * q ≤ 32 * p) && decide (32 * p ≤ d.get (F.TRK_GAP_GAP_HI k) * q) then
          ⟨{ t with wLast := some stamp, wPrev := some p, cand := some p, candBnd := t.bnd, candCnt := t.phCnt }, none, false⟩
        else ⟨{ t with wLast := some stamp, wPrev := some p, cand := none }, none, false⟩
      | none => ⟨{ t with wLast := some stamp, wPrev := some p, cand := none }, none, false⟩

/-- The detector starts again at an edge (R110). -/
def Trk.gapReset (t : Trk) (stamp : Nat) : Trk := { t with wLast := some stamp, wPrev := none, cand := none }

/-- Position of the tooth that ends a gap (R92, R111). -/
def Dev.gapEnd (d : Dev) (k : Nat) (rev : Bool) : Nat :=
  let ws := (d.tk k).wheel
  if rev then whN ws - 1 - whGapLen ws else 0

/-- The revolution that a phase count decides at the tooth that ends a gap, or at an index (R94, R111, R118). -/
def Dev.camDecide (d : Dev) (k cnt : Nat) (rev : Bool) : Option Nat :=
  let cc := d.latchedCounts k
  let flip := rev && d.flag (F.TRK_CFG_KIND k)
  if cnt = cc.1 then some (if flip then 1 else 0) else if cnt = cc.2 then some (if flip then 0 else 1) else none

/-- The revolution that the phase level names (R95). -/
def Dev.lvlDecide (d : Dev) (k : Nat) (level : Bool) : Nat := if level == d.flag (F.TRK_CAM_LVL_REF k) then 0 else 1

/-- A gap that no guess places is confirmed (R92, R97): SYNC, or GAP_FOUND on a 720 degree cycle with CAMCNT. DESIGN CHOICE
(notes/assumptions/103.md): the tooth that ends a gap is position 0 of the copy latched (R84, R92), so that a gap that an edit
moved in the copy fits the wheel after the resynchronisation, where the table of R123 has the wheel contradict it again. -/
def Dev.gapFound (d : Dev) (k stamp post : Nat) (level rev : Bool) (carry : Nat) : Dev :=
  let g := d.geo k
  let pe := d.gapEnd k rev
  let s := whSpan (d.tk k).wheel pe rev
  let two := g.revs == 2
  let cnt := two && d.get (F.TRK_CFG_PH_MODE k) == 1
  let r := if two && !cnt then d.lvlDecide k level else 0
  let b0 : Int := (r * g.m + pe : Nat)
  let b := g.inCycle (if rev then b0 - s else b0 + s) (d.cyc0 k rev) rev
  let d1 := (d.trkPlace k b rev stamp).upTk k (fun t => { t.fresh0 with pn := (2 * post + s) / (2 * s), phCnt := carry, fresh := true })
  let d2 := if cnt then (d1.trkClr k).setTst k 4 false else d1.enterSync k false
  if d2.tstate k = 0 then d2 else d2.trkEmit k stamp .real (s * 2 ^ 16) false false

/-! ### Commands -/

/-- In reverse, at absolute angle x on the boundary of a pending swap, the anchors there still take the vintage that goes out
(R200): they are evaluated before the swap. -/
def Dev.outgoing (d : Dev) (k : Nat) (x : Int) (rev : Bool) : Dev :=
  match (d.tk k).pend with
  | some p => if p.rev && rev && x == p.bound then d.evalNow k (fun h => d.nextAnchor k h false == some p.bound) else d
  | none => d

/-- TRACKER_SWAP (R52): a pending tracker whose last tooth record lies at or beyond its boundary swaps. -/
def execTrackerSwap (k : Fin 16) (s : State) : Host.Outcome State Fault Refusal :=
  s.run (fun d =>
    let t := d.tk k
    match t.pend with
    | some p => if (if p.rev then t.lin ≤ p.bound else p.bound ≤ t.lin) then (d.outgoing k t.lin t.rev).trkSwap k p.vint p.bound p.rev else d
    | none => d)

/-- The FAB cycle SYS_UPD_CFG.TIMEOUT ms after the strobe of a pending swap, 0 acting as 1 (R54). -/
def Dev.updEnd (d : Dev) (p : PendSwap) : Nat := p.at_ + 400000 * max 1 (d.get F.SYS_UPD_CFG_TIMEOUT)

/-- UPD_TIMEOUT (R54): the time left passes, and the tracker swaps where it still pends. -/
def execUpdTimeout (k : Fin 16) (s : State) : Host.Outcome State Fault Refusal :=
  s.run (fun d => match (d.tk k).pend with
    | some q =>
      let d1 := d.until (d.updEnd q)
      match (d1.tk k).pend with
      | some p => ((d1.incSat F.SYS_UPD_STAT_TIMEOUTS).raise 0 0 k 1).trkSwap k p.vint (d1.angNow k) p.rev
      | none => d1
    | none => d)

/-- TRKn_CTL.EN goes from 0 to 1 (R97, R536). -/
def Dev.trkEnable (d : Dev) (k : Nat) : Dev := if d.flag (F.TRK_CTL_EN k) then d else (d.put (F.TRK_CTL_EN k) 1).trkCheck k false

/-- TRKn_CTL.EN goes from 1 to 0 (R97). -/
def Dev.trkDisable (d : Dev) (k : Nat) : Dev := if d.flag (F.TRK_CTL_EN k) then (d.put (F.TRK_CTL_EN k) 0).trkOff k else d

/-- TRK_ENABLE (R97, R536). -/
def execTrkEnable (_req : Fin 10) (k : Fin 16) (s : State) : Host.Outcome State Fault Refusal := s.run (fun d => d.trkEnable k)

/-- TRK_DISABLE (R97). -/
def execTrkDisable (_req : Fin 10) (k : Fin 16) (s : State) : Host.Outcome State Fault Refusal := s.run (fun d => d.trkDisable k)

/-- TRK_STALL (R97, R103, R120): TMAX has passed since the last edge that defers a stall; an encoder tracker keeps its
position, in FALLBACK that of the phase source, for as long as its encoder reports no error. DESIGN CHOICE
(notes/assumptions/103.md): in FB_SW and FALLBACK, TMAX runs from the last phase edge, or from the last primary edge accepted
before FB_SW where that is later. -/
def execTrkStall (k : Fin 16) (s : State) : Host.Outcome State Fault Refusal :=
  s.run (fun d =>
    let st := d.tstate k
    if st < 2 then d
    else
      let d0 := d.advance ((d.tk k).act + 200000 * max 1 (d.get (F.TRK_TIME_TMAX k)))
      let rec' := d0.stopRecord k st
      let raw : Geo := { d0.geo k with decim := 1 }
      (d0.upTk k (fun t => { t.noEdges.noGap with
        stop := some rec', phQ := [], encRun := t.encRun && (st == 5 || st == 7) && raw.enc
        encC := if st = 7 then some (raw.lastBnd t.lin t.rev) else t.encC })).trkDown k 1)

def Dev.trkCntClr (d : Dev) (mask : Nat) : Dev := d.clrMask 16 mask (fun x k => (x.wr (R.TRK_CNT0 k) 0).wr (R.TRK_CNT1 k) 0)

/-- TRK_CNT_CLR (R7). -/
def execTrkCntClr (_req : Fin 10) (mask : Nat) (s : State) : Host.Outcome State Fault Refusal := s.run (fun d => d.trkCntClr mask)

end Sys2Proof.Machine
end

