-- ==== Sys2Proof/Machine/Edge.lean ====
section
/-! DEFINITION. The judging of primary edges (R88-R92), quick start (R104-R107), direction (R108-R111), phase edges and
fallback (R96, R98, R113-R116), encoder-fed trackers (R117-R120). -/

namespace Sys2Proof.Machine

/-! ### Acceptance (R88, R90, R91, R94, R106) -/

/-- The gap that ends at the tooth now placed is verified (R88): the revolution of bad teeth begins anew, the phase count
is judged as the state requires. The flag says that the tracker stays in sync with its guess. -/
def Dev.gapVerified (d : Dev) (k stamp : Nat) (level : Bool) : Dev :=
  let t := d.tk k
  let g := d.geo k
  let d0 := (d.put (F.TRK_STAT_BADCNT k) 0).upTk k (fun x => { x with phCnt := 0 })
  match d.tstate k with
  | 3 => d.put (F.TRK_STAT_BADCNT k) 0
  | 4 =>
    match d.camDecide k t.phCnt t.rev with
    | some r =>
      let b := g.inCycle ((r * g.m : Nat) + (g.pos t.bnd : Nat)) (d.cyc0 k t.rev) t.rev
      let d1 := (d0.causeOff 6 10 k).trkPlace k b t.rev stamp
      (d1.upTk k (fun x => { x with undecided := 0, fresh := true })).enterSync k false
    | none =>
      let d1 := d0.upTk k (fun x => { x with undecided := x.undecided + 1 })
      if 2 ≤ t.undecided then d1.causeOn 6 10 k 2 else d1
  | 5 =>
    if !d.flag (F.TRK_STAT_QSCHK k) then d0
    else
      let mode := d.get (F.TRK_CFG_PH_MODE k)
      let d1 := d0.put (F.TRK_STAT_QSCHK k) 0
      let ok := g.revs == 1 || (if mode = 1 then d.camDecide k t.phCnt t.rev == some (g.rv t.bnd)
        else if mode = 2 then d.lvlDecide k level == g.rv t.bnd else true)
      if ok then d1 else d1.trkLoss k (some 6) true
  | _ => d0

/-- A primary edge is accepted as the tooth at boundary b, s slots on, with normalised period pn (R88, R91). -/
def Dev.trkAcceptAt (d : Dev) (k : Nat) (e : Edge) (b : Int) (s pn : Nat) (verified : Bool) : Dev :=
  let t := d.tk k
  if !t.skip && e.stamp - t.lastT < 1000 then d.trkLoss k (some 7) true
  else
    let st := d.tstate k
    let d1 := (d.trkPlace k b t.rev e.stamp).upTk k (fun x => { x with pn := pn, skip := false, qsFirst := false, phRun := 0 })
    let d2 := if verified then d1.gapVerified k e.stamp e.phase else d1
    let ts := d2.tstate k
    if ts ≠ st && ts ≠ 5 then d2
    else (if st = 5 then d2.phAdvance k t.lin else d2).trkEmit k e.stamp .real (s * 2 ^ 16) false false

/-- A primary edge is accepted as the tooth s slots on. -/
def Dev.trkAccept (d : Dev) (k : Nat) (e : Edge) (s pn : Nat) (verified : Bool) : Dev :=
  let t := d.tk k
  d.trkAcceptAt k e (if t.rev then t.bnd - s else t.bnd + s) s pn verified

/-- A synthetic tooth s slots on at time ts (R89, R90); the flag says that its bad tooth was loss of sync. -/
def Dev.trkSynth (d : Dev) (k ts s : Nat) : Dev × Bool :=
  let b := d.trkBad k
  if b.2 then b
  else
    let t := b.1.tk k
    let nb := if t.rev then t.bnd - s else t.bnd + s
    let d1 := (b.1.incSat (F.TRK_CNT0_SYNTH k)).upTk k (fun x => { x with bnd := nb, lin := (b.1.geo k).blin nb t.rev, lastT := ts })
    ((d1.phAdvance k t.lin).trkEmit k ts .synth (s * 2 ^ 16) false false, false)

/-- Fast enough for deadline synthetic teeth (R89). -/
def Dev.synFast (d : Dev) (k : Nat) : Bool := decide ((d.tk k).pn ≤ 2000 * d.get (F.TRK_TIME_SYNMAX k))

/-- An edge in a position-known state judged by the latched copy (R88, R89); synthetic teeth that are due come first. -/
def Dev.trkJudge (d : Dev) (k : Nat) (e : Edge) : Nat → Dev
  | 0 => d
  | fuel + 1 =>
    let t := d.tk k
    let s := whSpan t.wheel ((d.geo k).pos t.bnd) t.rev
    let p := e.stamp - t.lastT
    let norm := (2 * p + s) / (2 * s)
    let lo := d.get (F.TRK_TOL_TOL_LO k)
    let hi := d.get (F.TRK_TOL_TOL_HI k)
    if t.skip || t.qsFirst then d.trkAccept k e s norm false
    else if d.synFast k && decide (hi * (s * t.pn) < 32 * p) then
      let r := d.trkSynth k (t.lastT + s * t.pn) s
      if r.2 then r.1 else r.1.trkJudge k e fuel
    else if s ≠ 1 then
      if 32 * p < d.get (F.TRK_GAP_GAP_LO k) * t.pn || d.get (F.TRK_GAP_GAP_HI k) * t.pn < 32 * p then d.trkLoss k (some 2) false
      else d.trkAccept k e s norm true
    else if 32 * p < lo * t.pn then (d.trkBad k).1
    else if 32 * p ≤ hi * t.pn then d.trkAccept k e s norm false
    else if hi * (2 * t.pn) < 32 * p then d.trkLoss k none false
    else if 32 * p < lo * (2 * t.pn) then
      let r := d.trkBad k
      if r.2 then r.1 else r.1.trkAccept k e 1 norm false
    else
      let r := d.trkSynth k (t.lastT + p / 2) 1
      if r.2 then r.1
      else r.1.trkAccept k e (whSpan t.wheel ((r.1.geo k).pos (r.1.tk k).bnd) t.rev) ((p + 1) / 2) false

/-- A tooth whose direction differs from the previous one's (R110): the last tooth seen from the other side. -/
def Dev.trkTurn (d : Dev) (k : Nat) (e : Edge) (rev : Bool) : Dev :=
  let t := d.tk k
  let g := d.geo k
  let d1 := d.setTk k { (t.gapReset e.stamp) with rev := rev, lin := g.blin t.bnd rev, real := g.blin t.bnd rev, lastT := e.stamp, act := e.stamp
                                                  skip := true, phRun := 0, phNext := d.phAim k (g.blin t.bnd rev) rev }
  let d2 := if d.follows k || !d.armOk k then d1 else (d1.schDirChange k).prsDefaults k (g.blin t.bnd rev) rev
  d2.trkEmit k e.stamp .real 0 true false

/-! ### First edge after STOPPED (R97, R104, R105) -/

/-- The tracker reads its stop record, a waiting one first, and clears VALID in it (R104). -/
def Dev.readStop (d : Dev) (k : Nat) : Dev × Word × Word :=
  let w := (d.tk k).stop.getD (d.crd (0x100 + 2 * k), d.crd (0x101 + 2 * k))
  let d1 := d.upTk k (fun t => { t with stop := t.stop.map (fun x => (x.1 &&& 0x7FFFFFFF#32, x.2)) })
  (d1.cwr (0x100 + 2 * k) (d1.crd (0x100 + 2 * k) &&& 0x7FFFFFFF#32), w)

/-- Quick start from the tooth at boundary b0 in the direction of the record (R105): the cycle count is such that the
tooth or index that can confirm the guess first lies in the cycle R99 gives at the entry into SYNC. A gap that is the first
interval is no candidate (R92); an encoder's teeth are its slots, and its index stands at slot 0. -/
def Dev.quickStart (d : Dev) (k : Nat) (e : Edge) (b0 : Int) (dir rev : Bool) : Dev :=
  let g := d.geo k
  let ws := d.wheelWords k
  let s := if g.enc then 1 else whSpan ws (g.pos b0) dir
  let b1 := if rev != dir then b0 else if dir then b0 - s else b0 + s
  let n : Int := g.m
  let pe := if g.enc then 0 else d.gapEnd k rev
  let near := if rev then Int.emod ((g.pos b1 : Nat) - (pe : Int) - 1) n + 1 else Int.emod ((pe : Int) - (g.pos b1 : Nat) - 1) n + 1
  let ahead := if g.enc then near - 1 else if near ≤ whGapLen (d.tk k).wheel + 1 then near + n else near
  let bc := if rev then b1 - ahead - 1 else b1 + ahead + 1
  let b := b1 + (g.inCycle bc (d.cyc0 k rev) rev - bc)
  let d1 := ((d.trkClr k).setTst k 3 false).trkPlace k b rev e.stamp
  let d2 := d1.upTk k (fun t => { (t.fresh0.gapReset e.stamp) with pn := 0, qsFrom := t.lin, qsFirst := true, fresh := true, encC := if g.enc then some (b * g.decim) else none })
  d2.trkEmit k e.stamp .real 0 false false

/-- The first primary edge after STOPPED. -/
def Dev.trkStart (d : Dev) (k : Nat) (e : Edge) (rev : Bool) : Dev :=
  let r := d.readStop k
  let w0 := r.2.1.toNat
  let dir := bitOf w0 29
  let pos := w0 % 2 ^ 24
  let d1 := r.1.upTk k (fun t => { (t.gapReset e.stamp) with act := e.stamp, rev := rev, known := true })
  let ok := d.flag (F.TRK_CTL_QS_EN k) && bitOf w0 31 && !bitOf w0 28 && r.2.2.toNat % 2 ^ 16 == d.whlSig k
  match (if ok then d1.toothAt k pos dir else none) with
  | some sr => d1.quickStart k e ((sr.2 * (d1.geo k).m + sr.1 : Nat) : Int) dir rev
  | none => ((d1.setTst k 2 false).upTk k (fun t => t.fresh0)).mirChange k

/-! ### FALLBACK: the background check (R115, R116) -/

/-- Return from FALLBACK at the tooth now counted (R116, R99, R122). -/
def Dev.fbReturn (d : Dev) (k : Nat) (e : Edge) : Dev :=
  let t := d.tk k
  let g := d.geo k
  let lin := g.blin t.bgBnd t.rev
  let step := lin - d.angAt k e.stamp
  let l := d.trkLatch k
  if !l.2 then l.1
  else
    let d1 := (((l.1.setTst k 5 true).incSat (F.TRK_CNT1_FBRET k)).puti (F.TRK_FBSTEP_STEP k) step).put (F.TRK_STAT_BADCNT k) 0
    let d2 := (d1.trkPlace k t.bgBnd t.rev e.stamp).upTk k (fun x =>
      { x with pn := t.bgPn, bgOn := false, bgClean := 0, phRun := 0, phCnt := 0, skip := false, whole := false, clean := false, miss := 0
               phNext := d1.phAim k lin t.rev })
    d2.trkEmit k e.stamp .real (rnd (|lin - t.lin| * g.m * 2 ^ 16) revAU).toNat false true

/-- A clean primary tooth in the background, n slots on at normalised period pn. -/
def Dev.bgClean (d : Dev) (k : Nat) (e : Edge) (b : Int) (pn : Nat) : Dev :=
  let t := d.tk k
  let d1 := d.setTk k { t with bgBnd := b, bgT := e.stamp, bgPn := pn, bgClean := t.bgClean + 1 }
  if max 1 (d.get (F.TRK_FB_HYST k)) ≤ t.bgClean + 1 then d1.fbReturn k e else d1

/-- The revolution in which boundary position pe lies within PH_TOL of absolute angle x (R116). -/
def Dev.bgFits (d : Dev) (k pe : Nat) (x : Int) (rev : Bool) : Option Int :=
  let g := d.geo k
  ((List.range g.revs).map (fun r => g.bndNear x pe r rev)).find? (fun b =>
    decide (g.blin b rev - x ≤ d.phTol k) && decide (x - g.blin b rev ≤ d.phTol k))

/-- A primary edge in FALLBACK (R116). -/
def Dev.trkBack (d : Dev) (k : Nat) (e : Edge) (rev : Bool) : Dev :=
  let t := d.tk k
  if rev != t.rev then d.setTk k { (t.gapReset e.stamp) with bgOn := false, bgClean := 0 }
  else
    let fd := d.feed k e.stamp
    let d1 := d.setTk k fd.t
    if t.bgOn then
      let g := d.geo k
      let s := whSpan t.wheel (g.pos t.bgBnd) t.rev
      let p := e.stamp - t.bgT
      let ok := if s = 1 then decide (d.get (F.TRK_TOL_TOL_LO k) * t.bgPn ≤ 32 * p) && decide (32 * p ≤ d.get (F.TRK_TOL_TOL_HI k) * t.bgPn)
        else decide (d.get (F.TRK_GAP_GAP_LO k) * t.bgPn ≤ 32 * p) && decide (32 * p ≤ d.get (F.TRK_GAP_GAP_HI k) * t.bgPn)
      if ok && decide (1000 ≤ p) then d1.bgClean k e (if t.rev then t.bgBnd - s else t.bgBnd + s) ((2 * p + s) / (2 * s))
      else d1.upTk k (fun x => { x with bgOn := false, bgClean := 0 })
    else match fd.found with
      | some (tc, post, _, _) =>
        let pe := d.gapEnd k t.rev
        match d.bgFits k pe (d.angAt k tc) t.rev with
        | some b =>
          let s := whSpan t.wheel pe t.rev
          d1.upTk k (fun x => { x with bgOn := true, bgClean := 0, bgBnd := if t.rev then b - s else b + s, bgT := e.stamp, bgPn := (2 * post + s) / (2 * s) })
        | none => d1
      | none => d1

/-! ### A primary edge (R88-R92, R97, R104-R107) -/

/-- Phase edges that the guess of QSTART places between the first edge and boundary b (R106). -/
def Dev.qsWant (d : Dev) (k : Nat) (b : Int) : Nat :=
  let t := d.tk k
  let g := d.geo k
  let x1 := g.blin b t.rev
  phIn (whPhases t.wheel) (if t.rev then x1 - 1 else t.qsFrom) (if t.rev then t.qsFrom - x1 else x1 - t.qsFrom).toNat g.len

/-- Are phase edges counted against the guess: CAMCNT and CAMLVL (R106)? -/
def Dev.qsCounts (d : Dev) (k : Nat) : Bool := d.get (F.TRK_CFG_PH_MODE k) == 1 || d.get (F.TRK_CFG_PH_MODE k) == 2

/-- A guess is discarded (R107). -/
def Dev.qsDiscard (d : Dev) (k : Nat) : Dev := (d.incSat (F.TRK_CNT0_QSDISC k)).raise 6 5 k 1

/-- Records that wait and the reference of prediction move by db slots, whole cycles, with the cycle count (R99, R152). -/
def Dev.cycShift (d : Dev) (k : Nat) (db : Int) : Dev :=
  let g := d.geo k
  let dl := Int.fdiv db g.ms * g.len
  let d1 := d.upTk k (fun x => { x with recs := x.recs.map (fun r => { r with lin := r.lin + dl, bnd := r.bnd + db }) })
  let p := d1.pr k
  if d.follows k then d1 else d1.setPr k { p with bref := p.bref + db, lref := p.lref + dl }

/-- The cycle count at the entry into SYNC from the guess (R99): a position in another cycle moves there with all that has
been derived from it, and the record of the edge, where it `made` one, is made anew. Prediction goes on (R152). -/
def Dev.qsCycle (d : Dev) (k : Nat) (e : Edge) (made : Bool) : Dev :=
  let t := d.tk k
  let b := (d.geo k).inCycle t.bnd (d.cyc0 k t.rev) t.rev
  if b = t.bnd then d
  else
    let d2 := (d.trkPlace k b t.rev t.lastT).cycShift k (b - t.bnd)
    match made, t.recs.getLast? with
    | true, some r => (d2.upTk k (fun x => { x with recs := x.recs.dropLast, fresh := r.first })).trkEmit k e.stamp .real r.span false false
    | _, _ => d2

/-- QSTART: a gap confirmed at the guessed tooth makes the guess SYNC, one elsewhere discards it (R97, R106, R107). The
revolution of bad teeth began at the gap (R90). An edge that was judged extra `made` no record, and the change of state is
mirrored by itself (R346). -/
def Dev.qsConfirm (d : Dev) (k : Nat) (e : Edge) (post : Nat) (tag : Int) (cnt : Nat) (made : Bool) : Dev :=
  let t := d.tk k
  let g := d.geo k
  if g.pos tag == d.gapEnd k t.rev && (!d.qsCounts k || cnt == d.qsWant k tag) then
    let d1 := ((d.upTk k (fun x => { x with phCnt := x.phCnt - cnt })).qsCycle k e made).enterSync k true
    let d2 := if d1.tstate k = 5 then d1.put (F.TRK_STAT_BADCNT k) (d.get (F.TRK_STAT_BADCNT k)) else d1
    if made || d1.tstate k ≠ 5 then d2 else d2.mirChange k
  else
    let d1 := (if made then d.upTk k (fun x => { x with recs := x.recs.dropLast }) else d).qsDiscard k
    d1.gapFound k e.stamp post e.phase t.rev (t.phCnt - cnt)

/-- One primary edge with its direction. -/
def Dev.trkEdge (d : Dev) (k : Nat) (e : Edge) (rev : Bool) : Dev :=
  let t := d.tk k
  match d.tstate k with
  | 0 => d
  | 1 => d.trkStart k e rev
  | 6 => d
  | 7 => d.trkBack k e rev
  | 2 =>
    if t.known && rev != t.rev then (d.setTk k { (t.gapReset e.stamp) with rev := rev, act := e.stamp }).mirChange k
    else
      let fd := d.feed k e.stamp
      if fd.ignored then d
      else
        let d0 := d.setTk k { fd.t with rev := rev, known := true, act := e.stamp }
        let d1 := if rev != t.rev then d0.mirChange k else d0
        match fd.found with
        | some (_, post, _, cnt) => d1.gapFound k e.stamp post e.phase rev (t.phCnt - cnt)
        | none => d1
  | st =>
    if t.known && rev != t.rev then d.trkTurn k e rev
    else
      let d1 := (d.upTk k (fun x => { x with rev := rev, known := true })).trkJudge k e 4
      let d2 := (d1.setTk k (d1.feed k e.stamp).t).upTk k (fun x => if d1.tstate k = 2 then { x with cand := none } else x)
      if st = 3 && d2.tstate k = 3 then
        match (d1.feed k e.stamp).found with
        | some (_, post, tag, cnt) => d2.qsConfirm k e post tag cnt (decide (t.recs.length < (d2.tk k).recs.length))
        | none => d2
      else d2

/-- TRK_PRIMARY_EDGE (R88): the tracker takes the next primary edge that its input delivered; with PWIDTH its pulse is
measured first (R108). DESIGN CHOICE (notes/assumptions/103.md): a wheel tracker with DIR_SRC = ENC always runs forward (R109,
R112). -/
def execTrkPrimaryEdge (k : Fin 16) (s : State) : Host.Outcome State Fault Refusal :=
  s.run (fun d =>
    let t := d.tk k
    match t.priQ with
    | [] => d
    | e :: r =>
      let d1 := d.setTk k { t with priQ := r }
      match d.get (F.TRK_CFG_DIR_SRC k) with
      | 1 => d1.setTk k { d1.tk k with pwQ := (d1.tk k).pwQ ++ [e] }
      | 2 => d1.trkEdge k e e.quad
      | _ => d1.trkEdge k e false)

/-- PWIDTH_DIRECTION (R108): the pulse of the oldest edge ends, or DIRW ticks have passed. -/
def execPwidthDirection (k : Fin 16) (width : Nat) (s : State) : Host.Outcome State Fault Refusal :=
  s.run (fun d =>
    let t := d.tk k
    match t.pwQ with
    | [] => d
    | e :: r =>
      let w := d.get (F.TRK_DIR_DIRW k)
      ((d.setTk k { t with pwQ := r }).advance (e.stamp + min width w)).trkEdge k e (decide (w ≤ width)))

/-- SYNTH_TOOTH_DEADLINE (R89): no edge has arrived by the deadline at high speed, over one slot or over a gap; an edge that
waits for its turn, or for the end of its pulse (R108), has arrived. -/
def execSynthToothDeadline (k : Fin 16) (s : State) : Host.Outcome State Fault Refusal :=
  s.run (fun d =>
    let t := d.tk k
    let st := d.tstate k
    if 3 ≤ st && st ≤ 5 && !d.flag (F.TRK_CFG_KIND k) && !t.skip && !t.qsFirst && d.synFast k
        then
      let n := whSpan t.wheel ((d.geo k).pos t.bnd) t.rev
      let due := t.lastT + (d.get (F.TRK_TOL_TOL_HI k) * (n * t.pn) + 31) / 32
      if (t.pwQ ++ t.priQ).any (fun e => decide (e.stamp ≤ due)) then d else ((d.advance due).trkSynth k (t.lastT + n * t.pn) n).1
    else d)

/-! ### Phase edges (R94, R96, R98, R113, R114) -/

/-- Phase misses of FALLBACK in the cycle of absolute angle x (R114). -/
def Dev.missIn (d : Dev) (k : Nat) (x : Int) : Nat :=
  let t := d.tk k
  if t.missCyc = (d.geo k).cycIdx x t.rev then t.miss else 0

/-- One more miss in the cycle of absolute angle x (R114): the second is FB_LOSS, which the flag says. -/
def Dev.phMiss (d : Dev) (k : Nat) (x : Int) : Dev × Bool :=
  let n := d.missIn k x + 1
  if 2 ≤ n then (d.fbLoss k, true) else (d.upTk k (fun t => { t with miss := n, missCyc := (d.geo k).cycIdx x t.rev }), false)

/-- A phase step to absolute angle a; a missed edge defers no stall (R97, R113, R114). -/
def Dev.phStep (d : Dev) (k : Nat) (a : Int) (stamp : Nat) (missed : Bool) : Dev :=
  let t := d.tk k
  let g := d.geo k
  let dx := if t.rev then t.lin - a else a - t.lin
  let ss := (rnd (dx * g.m * 2 ^ 16) revAU).toNat
  let d1 := d.setTk k { t with lin := a, bnd := g.lastBnd a t.rev, act := if missed then t.act else stamp, phNext := d.phAim k a t.rev }
  d1.trkEmit k stamp .phase ss false false

/-- The awaited window passes without its edge (R96, R113, R114). -/
def Dev.phWindow (d : Dev) (k : Nat) : Dev :=
  let t := d.tk k
  match t.phNext with
  | none => d
  | some a =>
    match d.tstate k with
    | 5 => if d.get (F.TRK_CFG_PH_MODE k) = 0 then d else (d.phFail k).upTk k (fun x => { x with phNext := d.phAim k a x.rev })
    | 6 => d.fbLoss k
    | 7 =>
      let r := d.phMiss k a
      if r.2 then r.1 else r.1.phStep k a (fdiv (d.reach k a) 8).toNat true
    | _ => d

/-- Windows that the angle of a new phase edge has passed. -/
def Dev.phCatch (d : Dev) (k : Nat) (x : Int) : Nat → Dev
  | 0 => d
  | n + 1 =>
    match (d.tk k).phNext with
    | some a => if d.phPast k x a (d.tk k).rev && decide (5 ≤ d.tstate k) then (d.phWindow k).phCatch k x n else d
    | none => d

/-- One phase edge (R94, R96, R98, R113, R114). -/
def Dev.phEdge (d : Dev) (k : Nat) (e : Edge) : Dev :=
  let st0 := d.tstate k
  if st0 < 2 then d
  else if st0 < 5 then d.upTk k (fun t => { t with phCnt := t.phCnt + 1, act := e.stamp })
  else
    let x := d.angAt k e.stamp
    let d1 := (d.phCatch k x 40).upTk k (fun t => { t with phCnt := t.phCnt + 1, act := e.stamp })
    let t := d1.tk k
    let hit := d1.phHit k x
    match d1.tstate k with
    | 5 =>
      let d2 := match hit with
        | some a => if (match t.phNext with | some b => if t.rev then decide (a ≤ b) else decide (b ≤ a) | none => true)
            then d1.upTk k (fun u => { u with phNext := d1.phAim k a u.rev }) else d1
        | none => d1
      let d3 := if hit.isNone then d2.phFail k else d2
      if 1 ≤ t.phRun then d3.trkLoss k none false
      else d3.upTk k (fun u => { u with phRun := u.phRun + 1 })
    | 6 =>
      match hit with
      | some a =>
        let d2 := (d1.setTst k 7 true).upTk k (fun u => { u.noEdges.noGap with bgOn := false, bgClean := 0, miss := 0 })
        d2.phStep k a e.stamp false
      | none => d1.fbLoss k
    | 7 =>
      if hit = t.phNext && hit.isSome then d1.phStep k (hit.getD 0) e.stamp false
      else (d1.phMiss k x).1
    | _ => d1

/-- PHASE_EDGE (R96): the tracker takes the next phase edge. -/
def execPhaseEdge (k : Fin 16) (s : State) : Host.Outcome State Fault Refusal :=
  s.run (fun d =>
    let t := d.tk k
    match t.phQ with
    | [] => d
    | e :: r => (d.setTk k { t with phQ := r }).phEdge k e)

/-- PHASE_WINDOW_MISS (R114): the awaited phase window has passed. -/
def execPhaseWindowMiss (k : Fin 16) (s : State) : Host.Outcome State Fault Refusal :=
  s.run (fun d =>
    let t := d.tk k
    match t.phNext with
    | some a =>
      if d.tstate k < 5 then d
      else (d.advance (fdiv (d.reach k (if t.rev then a - d.phTol k else a + d.phTol k)) 8 + 1).toNat).phWindow k
    | none => d)

/-! ### Encoder-fed trackers (R117-R120) -/

/-- The encoder interface of tracker k. -/
def Dev.encOf (d : Dev) (k : Nat) : Nat := d.get (F.TRK_CFG_PRI_SRC k) % 8

/-- A multiple of DECIM is crossed: boundary b in direction rev (R117), which may lie behind the last record's after a
correction at the index (R119). -/
def Dev.encTooth (d : Dev) (k : Nat) (b : Int) (rev : Bool) (stamp : Nat) : Dev :=
  let t := d.tk k
  let e := Edge.mk stamp false false
  match d.tstate k with
  | 7 =>
    if t.bgOn && rev == t.rev then d.bgClean k e b (stamp - t.bgT)
    else d.upTk k (fun x => { x with bgOn := false, bgClean := 0 })
  | 6 => d
  | st =>
    if st < 3 then d
    else if rev != t.rev then
      let d1 := (d.upTk k (fun x => { x with bnd := b }))
      d1.trkTurn k e rev
    else
      let n := (if rev then t.bnd - b else b - t.bnd).toNat
      d.trkAcceptAt k e b n (if n = 0 then t.pn else (2 * (stamp - t.lastT) + n) / (2 * n)) false

/-- The first count after STOPPED of a tracker whose encoder ran on without an error: SYNC at its kept position, with a
record where the count crosses a multiple of DECIM (R104, R117, R120). -/
def Dev.encReturn (d : Dev) (k : Nat) (c : Int) (up : Bool) (stamp : Nat) : Dev :=
  let g := d.geo k
  let last := Int.fdiv c g.decim + (if up then 0 else 1)
  let b := g.inCycle (Int.fmod last g.ms) (d.cyc0 k (!up)) (!up)
  let d1 := (d.readStop k).1.trkPlace k b (!up) stamp
  let d2 := (d1.upTk k (fun x => { x with encC := some (c + (b - last) * g.decim), fresh := true, encRun := false })).enterSync k false
  if d2.tstate k = 5 && (if up then Int.fmod c g.decim == 0 else Int.fmod (c + 1) g.decim == 0) then d2.trkEmit k stamp .real (2 ^ 16) false false
  else d2.mirChange k

/-- The count of an encoder tracker's interface changes by one (R104, R105, R117, R120). Only in a state that has no
fallback does a count defer a stall (R97). DESIGN CHOICE (notes/assumptions/103.md): an encoder tracker takes the count
direction whatever DIR_SRC says (R109, R112). -/
def Dev.encStep (d : Dev) (k : Nat) (up : Bool) (stamp : Nat) : Dev :=
  let t := d.tk k
  let g := d.geo k
  let st := d.tstate k
  if st = 0 then d
  else
    let c1 := t.encC.map (fun c => if up then c + 1 else c - 1)
    let run := if st = 1 then t.encRun else true
    let d1 := d.setTk k { t with encC := c1, act := if st = 6 || st = 7 then t.act else stamp, known := true, encRun := run }
    if st = 1 then
      match t.encRun, c1 with
      | true, some c => d1.encReturn k c up stamp
      | _, _ => (d1.upTk k (fun x => { x with encC := none })).trkStart k (Edge.mk stamp false false) (!up)
    else if st = 2 then
      let d2 := d1.upTk k (fun x => { x with rev := !up })
      if t.rev == up then d2.mirChange k else d2
    else match c1 with
      | none => d1
      | some c =>
        let crossed := if up then Int.fmod c g.decim == 0 else Int.fmod (c + 1) g.decim == 0
        if crossed then d1.encTooth k (Int.fdiv (if up then c else c + 1) g.decim) (!up) stamp else d1

/-- The index stands in revolution r: position and count there, in the cycle of R99 (R118). -/
def Dev.encPlace (d : Dev) (k r stamp : Nat) : Dev :=
  let t := d.tk k
  let g := d.geo k
  let b := g.inCycle ((r * g.m : Nat) : Int) (d.cyc0 k t.rev) t.rev
  (d.trkPlace k b t.rev stamp).upTk k (fun u => { u with encC := some (b * g.decim), encRun := true, fresh := true })

/-- The first index edge of a tracker without a position (R118). -/
def Dev.encFirst (d : Dev) (k : Nat) (level : Bool) (stamp : Nat) : Dev :=
  let two := (d.geo k).revs == 2
  let d1 := if two && d.get (F.TRK_CFG_PH_MODE k) == 1 then
      (((d.encPlace k 0 stamp).upTk k (fun x => { x.fresh0 with fresh := true })).trkClr k).setTst k 4 false
    else ((d.encPlace k (if two then d.lvlDecide k level else 0) stamp).upTk k (fun x => { x with phCnt := 0 })).enterSync k false
  if d1.tstate k = 0 then d1 else d1.mirChange k

/-- The count c is corrected to n at an index edge (R119). -/
def Dev.encCorrect (d : Dev) (k : Nat) (c n : Int) : Dev :=
  let d1 := d.upTk k (fun x => { x with encC := some n })
  if c = n then d1 else (d1.incSat (F.TRK_CNT1_IDXERR k)).raise 6 9 k 1

/-- The count at a later index edge against 0 modulo CPR, c nearest to count n (R119): corrected within IDX_TOL, else the
flag says loss of sync. -/
def Dev.encFix (d : Dev) (k : Nat) (c n : Int) : Dev × Bool :=
  if (c - n).natAbs ≤ d.get (F.TRK_ENCX_IDX_TOL k) then (d.encCorrect k c n, false)
  else ((d.upTk k (fun x => { x with encC := none })).trkLoss k none false, true)

/-- The multiple of CPR nearest to count c. -/
def Geo.idxNear (g : Geo) (c : Int) : Int := Int.fdiv (2 * c + g.raw) (2 * g.raw) * g.raw

/-- An index edge in QSTART (R105, R106): the guess holds where the count agrees within IDX_TOL and the phase edges are as
guessed, and prediction goes on (R152); else it is discarded, and this is a first index edge. -/
def Dev.encConfirm (d : Dev) (k : Nat) (c : Int) (level : Bool) (stamp : Nat) : Dev :=
  let g := d.geo k
  let t := d.tk k
  let n := g.idxNear c
  let b := Int.fdiv n g.decim
  if (c - n).natAbs ≤ d.get (F.TRK_ENCX_IDX_TOL k) && (!d.qsCounts k || t.phCnt == d.qsWant k b) then
    let d0 := d.encPlace k (g.rv b) stamp
    let d1 := ((d0.cycShift k ((d0.tk k).bnd - b)).upTk k (fun x => { x with phCnt := 0, fresh := t.fresh })).enterSync k true
    if d1.tstate k = 5 then d1.mirChange k else d1
  else (d.qsDiscard k).encFirst k level stamp

/-- Whether the phase count or level at an index of revolution r is the one the guess requires (R106). -/
def Dev.encCheck (d : Dev) (k r : Nat) (level : Bool) : Dev :=
  let t := d.tk k
  let mode := d.get (F.TRK_CFG_PH_MODE k)
  let d1 := d.upTk k (fun x => { x with phCnt := 0 })
  if !d.flag (F.TRK_STAT_QSCHK k) then d1
  else
    let d2 := d1.put (F.TRK_STAT_QSCHK k) 0
    let ok := (d.geo k).revs == 1 || (if mode = 1 then d.camDecide k t.phCnt t.rev == some r else if mode = 2 then d.lvlDecide k level == r else true)
    if ok then d2 else d2.trkLoss k (some 6) true

/-- An index edge reaches an encoder tracker (R106, R116, R118, R119). -/
def Dev.encIndex (d : Dev) (k : Nat) (stamp : Nat) : Dev :=
  let t := d.tk k
  let g := d.geo k
  let level := d.flag (F.SNS_STAT_LEVEL (d.get (F.TRK_CFG_PH_SRC k)))
  let d0 := if d.get (F.TRK_CFG_PH_MODE k) = 3 then d.upTk k (fun x => { x with phQ := x.phQ ++ [Edge.mk stamp false false] }) else d
  match d.tstate k, t.encC with
  | 2, _ => d0.encFirst k level stamp
  | 3, some c => d0.encConfirm k c level stamp
  | 4, some c =>
    let r := d0.encFix k c (g.idxNear c)
    if r.2 then r.1
    else match d.camDecide k t.phCnt t.rev with
      | some v =>
        let d1 := (((r.1.causeOff 6 10 k).encPlace k v stamp).upTk k (fun x => { x with phCnt := 0 })).enterSync k false
        if d1.tstate k = 5 then d1.mirChange k else d1
      | none =>
        let d1 := r.1.upTk k (fun x => { x with undecided := x.undecided + 1, phCnt := 0 })
        if 2 ≤ t.undecided then d1.causeOn 6 10 k 2 else d1
  | 5, some c =>
    let r := d0.encFix k c (g.idxNear c)
    if r.2 then r.1 else r.1.encCheck k (g.rv (Int.fdiv (g.idxNear c) g.decim)) level
  | 7, c0 =>
    match d.bgFits k 0 (d.angAt k stamp) t.rev with
    | some b =>
      let n := b * g.decim
      let same := match t.bgOn, c0 with | true, some c => decide ((c - n).natAbs ≤ d.get (F.TRK_ENCX_IDX_TOL k)) | _, _ => false
      if same then d0.encCorrect k (c0.getD n) n
      else d0.upTk k (fun x => { x with bgOn := true, bgClean := 0, bgBnd := b, bgT := stamp, encC := some n })
    | none => d0
  | _, _ => d0

/-- An error of the encoder interface (R120, R440): a stall does not keep the position until the next count. -/
def Dev.encError (d : Dev) (m : Nat) : Dev :=
  forN 16 (fun x k => if x.flag (F.TRK_CFG_KIND k) && x.encOf k == m then x.upTk k (fun t => { t with encRun := false, bgOn := false, bgClean := 0 }) else x) d

end Sys2Proof.Machine
end

