-- ==== Sys2Proof/Machine/Pair.lean ====
section
/-! DEFINITION. The pair as the tooth records see it (R341, R345, R350, R353, R354): following, the entry into a pair state,
alignment, and the comparison of digests. -/

namespace Sys2Proof.Machine

def Dev.upMir (d : Dev) (f : Mir → Mir) : Dev := { d with mir := f d.mir }

/-- Trackers a pair checks: SCH_TRKk_CTL.EN set (R345, R353). -/
def Dev.checked (d : Dev) (k : Nat) : Bool := d.flag (F.SCH_TRK_CTL_EN k)

/-- Some tracker takes its records from the mirror. -/
def Dev.following (d : Dev) : Bool := (List.range 16).any d.follows

/-- MIR_STAT.FOLLOW. -/
def Dev.mirShow (d : Dev) : Dev := d.putB F.MIR_STAT_FOLLOW d.following

/-! ### Pair states (R341) -/

/-- A tracker whose records came from the mirror takes them from its own block again; out of SYNC it signals SYNC_LOST (R100,
R350). -/
def Dev.unfollow (was d : Dev) (k : Nat) : Dev :=
  if was.follows k && !d.follows k then
    let d1 := d.upMir (fun m => { m with back := k :: m.back.filter (· != k) })
    if d.tstate k != 5 then ((d1.lostSignal k).prdRestart k).schSyncLost k else d1
  else d

/-- The device enters pair state st: ELIG is written to every tile side in reach, alignment starts afresh. -/
def Dev.setPair (d : Dev) (st : Nat) : Dev :=
  let d1 := (d.put F.MIR_STAT_STATE st).upMir (fun m => { m with held := false, applied := [], snaps := [], first := [], okRun := [], misRun := [], since := d.now })
  let d2 := forN 16 (fun x k => d.unfollow x k) d1
  (forN 64 (fun x t => x.sendElig t) d2).mirShow

/-- A check of the pair fails: the standby realigns (R334, R340, R354). -/
def Dev.realign (d : Dev) : Dev := if d.mirState = 6 || d.mirState = 4 then d.setPair 4 else d

/-- Are all checked trackers on their snapshot (R345)? -/
def Dev.allApplied (d : Dev) : Bool := (List.range 16).all (fun k => !d.checked k || d.mir.applied.contains k)

/-- ALIGN is left for STANDBY (R341, R345). -/
def Dev.alignDone (d : Dev) : Dev :=
  let need := max 1 (d.get F.MIR_CFG_DMATCH)
  if d.mirState = 4 && d.mir.held && d.flag F.MIR_STAT_ALIGNED &&
      (List.range 16).all (fun k => !d.checked k || (d.mir.applied.contains k && decide (need ≤ smGet d.mir.okRun 0 k))) then
    let runs := d.mir.applied
    (d.setPair 6).upMir (fun m => { m with applied := runs })
  else d

/-! ### Digests (R353, R354) -/

/-- The digests of tracker k for one cycle are compared when both are at hand; a standby whose run of mismatches is long enough
aligns anew. -/
def Dev.digCheck (d : Dev) (k : Nat) (cyc : Int) : Dev :=
  let hit := fun (e : Nat × Int × Nat) => e.1 == k && e.2.1 == cyc
  match d.mir.own.find? hit, d.mir.theirs.find? hit with
  | some a, some b =>
    let d1 := d.upMir (fun m => { m with own := m.own.filter (fun e => !hit e), theirs := m.theirs.filter (fun e => !hit e) })
    if a.2.2 = b.2.2 then
      ((d1.incWrap F.MIR_CNT0_DIGOK).upMir (fun m => { m with okRun := smSet m.okRun 0 k (smGet m.okRun 0 k + 1), misRun := smDel m.misRun k })).alignDone
    else
      let n := smGet d1.mir.misRun 0 k + 1
      let d2 := (((d1.incSat F.MIR_CNT0_DIGMIS).put F.MIR_DIGSTAT_TRK k).put F.MIR_DIGSTAT_CYC (ofS 24 cyc)).upMir
        (fun m => { m with okRun := smDel m.okRun k, misRun := smSet m.misRun 0 k n })
      if max 1 (d2.get F.MIR_CFG_DMISMAX) ≤ n then
        let d3 := (d2.upMir (fun m => { m with misRun := smDel m.misRun k })).raise 22 2 k 2
        if d3.mirState = 6 then d3.setPair 4 else d3
      else d2
  | _, _ => d

end Sys2Proof.Machine
end

