-- ==== Sys2Proof/Machine/Record.lean ====
section
/-! DEFINITION. A tooth record and all that acts on it (R93): snapshots and digests of a pair (R351, R353), prediction,
swaps, the Press, the scheduler, the tooth log and contribution figures (R416-R422), angle entries of the converters and
the router (R426, R447), timers that count angle (R452). -/

namespace Sys2Proof.Machine

/-! ### Snapshot and digest (R351-R353) -/

/-- The channels tracker k owns, in order. -/
def Dev.ownedChans (d : Dev) (k : Nat) : List Nat := (d.sch.owner.filter (fun p => p.2 == k + 1)).map (fun p => p.1)

/-- Bytes of the digest of tracker k at the start of cycle n (R353). -/
def Dev.digestBytes (d : Dev) (k : Nat) (n : Int) : List Nat :=
  let p := d.pr k
  let q := d.ps k
  let g := d.geo k
  let le := fun (w : Nat) (x : Int) => leBytes w (ofS (8 * w) x)
  let h16 := fun (l : List Int) => l.flatMap (le 2)
  le 8 n ++ leBytes 2 (d.trkVint k) ++ leBytes 5 p.b ++ le 5 p.dd ++ le 5 p.b0 ++ [p.nint % 256, b2n (d.flag (F.PRD_STAT_BAND k))]
    ++ le 2 (d.rbias k false) ++ le 2 (d.rbias k true)
    ++ (if d.ripFit k then h16 ((List.range g.ms).map (d.rip k false)) ++ h16 ((List.range g.ms).map (d.rip k true)) else [])
    ++ (if d.teFit k then h16 ((List.range g.m).map (fun i => d.geti (F.PRD_TE_TE k i))) else [])
    ++ le 3 (toS 32 (d.rd (R.PRS_ACC k)).toNat) ++ leBytes 2 q.lfsr ++ leBytes 8 q.hist ++ [q.cw % 256, q.ci % 256]

def Dev.digest (d : Dev) (k : Nat) (n : Int) : Nat := crc32 (d.digestBytes k n)

def w64 (x : Int) : List Nat := [ofS 64 x % 2 ^ 32, ofS 64 x / 2 ^ 32]

/-- Words of a snapshot of tracker k (R351); their order is the model's (notes/assumptions/31.md). -/
def Dev.snapWords (d : Dev) (k : Nat) : List Nat :=
  let p := d.pr k
  let q := d.ps k
  let g := d.geo k
  let rg := fun (a : Nat) => (d.rd a).toNat
  w64 p.tref ++ w64 p.bref ++ w64 p.lref ++ w64 p.fref ++ w64 p.b ++ w64 p.b0 ++ w64 p.dd
    ++ [p.ssPrev, p.nint + 256 * b2n p.skip + 512 * b2n p.rev + 1024 * b2n p.ok, p.upd, p.nrec % 2 ^ 32, rg (R.PRD_STAT k), rg (R.PRD_RBIAS k)]
    ++ (if d.ripFit k then (List.range g.ms).map (fun c => rg (R.PRD_RM k c)) else [])
    ++ (if d.teFit k then (List.range g.m).map (fun i => rg (R.PRD_TE k i)) else [])
    ++ [rg (R.PRS_ACC k), q.lfsr + 2 ^ 16 * (q.cw % 256) + 2 ^ 24 * (q.ci % 256), q.hist % 2 ^ 32, q.hist / 2 ^ 32, q.hcnt, rg (R.PRS_NSTR k)]
    ++ (List.range 64).map (fun sp => b2n (d.flag (F.PRS_POS_LAST k sp)) * 16 + d.get (F.PRS_POS_RUN k sp))
    ++ (d.ownedChans k).flatMap (fun c => (List.range 4).map (fun s => rg (R.CDT_CH_COMP c s)) ++ [d.get (F.CDT_CH_STAT_T1 c), d.get (F.CDT_T2_T2 c)])

/-- SNAP frames of a word list, 62 words each, from chunk i on (R335). -/
def Dev.sendSnap (d : Dev) (k nch : Nat) (cyc : Int) : Nat → Nat → List Nat → Dev
  | 0, _, _ => d
  | fuel + 1, i, ws =>
    if ws.isEmpty then d
    else (d.mirSend 9 ([k * 2 ^ 28 + i * 2 ^ 16 + nch, ofS 32 cyc] ++ ws.take 62)).sendSnap k nch cyc fuel (i + 1) (ws.drop 62)

/-- The first record of cycle n is about to act (R351, R353): the primary's snapshot when the partner asks for one, and
the digest of a checked tracker. -/
def Dev.capture (d : Dev) (k : Nat) (n : Int) : Dev :=
  let st := d.mirState
  let asked := match d.mir.hello with | some h => h.snapreq | none => false
  let d1 := if st == 5 && asked then
      let ws := d.snapWords k
      let nch := (ws.length + 61) / 62
      d.sendSnap k nch n nch 0 ws
    else d
  if (st == 4 || st == 5 || st == 6) && d.flag (F.SCH_TRK_CTL_EN k) then
    let c := d1.digest k n
    let d2 := d1.mirSend 8 [k * 2 ^ 28 + d1.trkVint k, ofS 32 n, ofS 40 n / 2 ^ 32, c]
    ({ d2 with mir := { d2.mir with own := (k, n, c) :: d2.mir.own.take 63 } } : Dev).digCheck k n
  else d1

/-! ### The tooth log (R416-R419) -/

def tlog0 : TLog := ⟨0, none, [], [], none⟩
def Dev.tl (d : Dev) (k : Nat) : TLog := smGet d.tlog tlog0 k
def Dev.setTl (d : Dev) (k : Nat) (x : TLog) : Dev := { d with tlog := smSet d.tlog tlog0 k x }

/-- The stream that carries the log of tracker k (R418): one of its own, or the one of all others. -/
def Dev.tlogStream (d : Dev) (k : Nat) : Option Nat :=
  match d.stmFor 2 k with
  | some n => some n
  | none => (List.range 8).find? (fun n => d.flag (F.STM_CFG_EN n) && d.get (F.STM_CFG_SRC n) == 2 && decide (16 ≤ d.get (F.STM_CFG_ARG n)))

/-- Tooth-log records that have not left the device: the internal buffer holds 512 (R418). -/
def Dev.tlogHeld (d : Dev) : Nat :=
  ((List.range 8).map (fun n => if d.get (F.STM_CFG_SRC n) = 2 then (d.stmOf n).chunk.length / 4 else 0)).sum

/-- A 16-byte record of the log of tracker k (R394, R418). -/
def Dev.tlogPut (d : Dev) (k : Nat) (ws : List Nat) : Dev :=
  match d.tlogStream k with
  | some n =>
    if 512 ≤ d.tlogHeld then d.incSat (F.TRK_TLOG_STAT_LOST k)
    else
      let r := d.stmPut n ws
      if r.2 then r.1.incSat (F.TRK_TLOG_STAT_LOST k) else r.1.incWrap (F.TRK_TLOG_STAT_LOGGED k)
  | none => d.incSat (F.TRK_TLOG_STAT_LOST k)

/-- Whole slots of a span, rounded half up. -/
def spanSlots (ss : Nat) : Nat := (ss + 2 ^ 15) / 2 ^ 16

/-- A tooth record reaches the log (R416, R417). -/
def Dev.tlogRecord (d : Dev) (k : Nat) (r : ToothRec) (cross : Bool) : Dev :=
  let t := d.tl k
  let num := if cross || r.first then 0 else t.num
  let kind := match r.kind with | .real => 0 | .synth => 1 | .phase => 2
  let p := if r.first then 0 else match t.last with | some l => min (r.stamp - l) (2 ^ 32 - 1) | none => 0
  let d1 := d.setTl k { t with num := num + 1, last := some r.stamp }
  if d.flag (F.TRK_TLOG_CFG_EN k) && num % (d.get (F.TRK_TLOG_CFG_DEC k) + 1) == 0 && (kind == 0 || d.flag (F.TRK_TLOG_CFG_SYNTH k)) then
    let g := d.geo k
    let w0 := k * 2 ^ 28 + kind * 2 ^ 26 + b2n r.rev * 2 ^ 25 + b2n r.dchg * 2 ^ 24 + min (spanSlots r.span) 255 * 2 ^ 16 + g.pos r.bnd % 512
    d1.tlogPut k [w0, p, r.stamp % 2 ^ 32, ofS 8 (g.cyc r.lin) * 2 ^ 24 + g.posOf r.lin]
  else d1

/-! ### Contribution figures (R420-R422) -/

/-- The windows of cycle n of tracker k, with the values in force when it begins. -/
def Dev.ciCycle (d : Dev) (k : Nat) (n : Int) : CiCyc :=
  let g := d.geo k
  let wins := ((List.range 16).filter (fun j => d.flag (F.TRK_CW_EN k j))).map (fun j =>
    let c : Int := d.get (F.TRK_CW_CSLOT k j)
    let ns := max 1 (d.get (F.TRK_CW_NS k j))
    let off := g.blin c false
    let b0 := c - Int.fdiv (off - n * g.len) g.len * g.ms
    CiWin.mk j b0 ns (decide (g.ms < 2 * ns) || decide ((g.ms : Int) ≤ c)) none)
  ⟨n, d.get (F.TRK_CI_CFG_MFTHR k), wins⟩

/-- The stamp of the usable real tooth at boundary b. -/
def ciStamp (h : List (Int × Nat × Bool × Bool)) (b : Int) : Option Nat :=
  (h.find? (fun e => e.1 == b && e.2.2.1 && e.2.2.2)).map (fun e => e.2.1)

/-- A window at boundary b in forward travel (R420). -/
def ciEval (h : List (Int × Nat × Bool × Bool)) (b : Int) (w : CiWin) : CiWin :=
  if w.res.isSome || b < w.b0 + w.ns then w
  else
    let bad := w.bad || h.any (fun e => decide (w.b0 - w.ns ≤ e.1) && decide (e.1 ≤ w.b0 + w.ns) && !e.2.2.1)
    match bad, ciStamp h (w.b0 - w.ns), ciStamp h w.b0, ciStamp h (w.b0 + w.ns) with
    | false, some x, some y, some z =>
      let pre := y - x
      let post := z - y
      { w with res := some (true, if pre + post = 0 then 0 else rnd (2 ^ 15 * ((pre : Int) - post)) (pre + post : Nat), pre, post) }
    | _, _, _, _ => { w with res := some (false, 0, 0, 0) }

/-- The figures of a cycle whose windows are all evaluated (R421). -/
def Dev.ciPost (d : Dev) (k : Nat) (c : CiCyc) : Dev :=
  let val := fun (w : CiWin) => match w.res with | some r => r.1 | none => false
  let ci := fun (w : CiWin) => match w.res with | some r => r.2.1 | none => 0
  let vs := c.wins.filter val
  let nv := vs.length
  let mean : Int := if nv = 0 then 0 else Int.tdiv ((vs.map ci).foldl (· + ·) 0) nv
  let mf := fun (w : CiWin) => val w && decide (2 ≤ nv) && decide (ci w - mean < -(c.thr : Int))
  let d1 := c.wins.foldl (fun (x : Dev) w =>
    let y := (((x.puti (F.TRK_CR_CI k w.j) (ci w)).putB (F.TRK_CR_MF k w.j) (mf w)).putB (F.TRK_CR_INV k w.j) (!val w))
    if mf w then y.incSat (F.TRK_CR_MFCNT k w.j) else y) d
  let d2 := if c.wins.any mf then d1.icuArrive (40 + k) else d1
  let d3 := ((d2.puti (F.TRK_CI_MEAN_MEAN k) mean).put (F.TRK_CI_MEAN_NVALID k) nv).put (F.TRK_CI_MEAN_CYC k) (ofS 8 c.cyc)
  if d3.flag (F.TRK_TLOG_CFG_EN k) then
    c.wins.foldl (fun (x : Dev) w =>
      let w0 := k * 2 ^ 28 + 3 * 2 ^ 26 + w.j * 2 ^ 20 + b2n (mf w) * 2 ^ 19 + b2n (!val w) * 2 ^ 18 + ofS 8 c.cyc * 2 ^ 8 + x.get (F.TRK_CR_MFCNT k w.j)
      let pp := match w.res with | some r => (r.2.2.1, r.2.2.2) | none => (0, 0)
      x.tlogPut k [w0, ofS 16 mean * 2 ^ 16 + ofS 16 (ci w), min pp.1 (2 ^ 32 - 1), min pp.2 (2 ^ 32 - 1)]) d3
  else d3

/-- A tooth record reaches the contribution windows: a cycle that begins forward opens its windows once, where EN is set at
that boundary, and those in progress go on (R420-R422). -/
def Dev.ciRecord (d : Dev) (k : Nat) (r : ToothRec) (cross : Bool) : Dev :=
  let t := if r.first then { d.tl k with hist := [], cycs := [], opened := none } else d.tl k
  let n := (d.geo k).cyc r.lin
  let usable := !r.rev && !r.dchg && d.srcState k == 5
  let h := ((r.bnd, r.stamp, usable, decide (r.kind = .real)) :: t.hist).take 64
  let opens := cross && !r.rev && d.flag (F.TRK_CI_CFG_EN k) && t.opened.elim true (fun m => decide (m < n))
  let c1 := if opens then t.cycs ++ [d.ciCycle k n] else t.cycs
  let c2 := if r.rev then c1 else c1.map (fun c => { c with wins := c.wins.map (ciEval h r.bnd) })
  let done := fun (c : CiCyc) => c.wins.all (fun w => w.res.isSome)
  let d1 := d.setTl k { t with hist := h, cycs := c2.filter (fun c => !done c), opened := if opens then some n else t.opened }
  (c2.filter (fun c => done c && !c.wins.isEmpty)).foldl (fun (x : Dev) c => x.ciPost k c) d1

/-! ### A tooth record acts (R93) -/

/-- Cycles of the off-state test are counted at each cycle boundary of the owning tracker (R317). -/
def cdtCh0 : CdtCh := ⟨[], [], none, 255, none, 0⟩
def Dev.cc (d : Dev) (n : Nat) : CdtCh := smGet d.cdt cdtCh0 n
def Dev.setCc (d : Dev) (n : Nat) (x : CdtCh) : Dev := { d with cdt := smSet d.cdt cdtCh0 n x }

def Dev.offtCount (d : Dev) (k : Nat) : Dev :=
  (d.ownedChans k).foldl (fun (x : Dev) c => if x.get (F.CDT_CH_CFG_OFFT_CYC c) = 0 then x else x.setCc c { x.cc c with cyc := (x.cc c).cyc + 1 }) d

/-- The swap that a record brings about (R52), or else the relatch of direct-debug mode (R122). -/
def Dev.recordSwap (d : Dev) (k : Nat) (r : ToothRec) (cross : Bool) : Dev :=
  let stay := if cross && (d.tk k).relatch then d.trkRelatch k else d
  match (d.tk k).pend with
  | some p => if (if p.rev then r.lin ≤ p.bound else p.bound ≤ r.lin) then d.trkSwap k p.vint p.bound p.rev else stay
  | none => stay

/-- Everything a tooth record of tracker k does, from the tracker or from the mirror. DESIGN CHOICE (notes/assumptions/101.md):
the first record after entry into SYNC makes no cycle-boundary action, though it may lie in a later cycle (R135). -/
def Dev.record (d : Dev) (k : Nat) (r : ToothRec) : Dev :=
  let g := d.geo k
  let p := d.pr k
  let cross := p.ok && !r.first && decide (g.cycIdx p.lref r.rev < g.cycIdx r.lin r.rev)
  let d0 := ((d.overrun k).shadowStep k).prsTimed k
  let d1 := if cross then d0.capture k (g.cyc r.lin) else d0
  let d2 := d1.prdRecord k r cross
  let d3 := (d2.outgoing k r.lin r.rev).recordSwap k r cross
  let d4 := (d3.prsPass k r.lin r.rev d3.fabNow).prsRenew k
  let d5 := (d4.refreshAll k).scanAll k
  let d6 := (d5.tlogRecord k r cross).ciRecord k r cross
  let d7 := (d6.amPass k r.lin r.rev r.first).tmrAngle k (spanSlots r.span) r.rev
  if cross then ((d7.icuArrive (272 + k)).route (57 + k)).offtCount k else d7

/-- The first own record after following counts as that of a real tooth (R350). -/
def Dev.ownFirst (d : Dev) (k : Nat) (r : ToothRec) : Dev × ToothRec :=
  if d.mir.back.contains k then ({ d with mir := { d.mir with back := d.mir.back.filter (· != k) } }, { r with kind := .real }) else (d, r)

/-- TOOTH_RECORD (R93, R346, R347): the oldest record of tracker k is delivered, and mirrored by a primary. While the
device follows the mirror the record acts on nothing. -/
def execToothRecord (k : Fin 16) (s : State) : Host.Outcome State Fault Refusal :=
  s.run (fun d =>
    let t := d.tk k
    match t.recs with
    | [] => d
    | r :: q =>
      let d1 := d.setTk k { t with recs := q }
      let kind := match r.kind with | .real => 0 | .synth => 1 | .phase => 2
      let d2 := d1.mirTooth k kind r.rev r.dchg r.span ((d1.geo k).pos r.bnd) r.lin r.stamp
      if d2.follows k then d2
      else let x := d2.ownFirst k r; x.1.record k x.2)

/-- ADC_ANGLE_TRIGGER (R426): entry i reaches its instant. -/
def execAdcAngleTrigger (i : Fin 32) (s : State) : Host.Outcome State Fault Refusal := s.run (fun d => d.amTimed i)

/-- ANGLE_MARK (R447). -/
def execAngleMark (i : Fin 32) (s : State) : Host.Outcome State Fault Refusal := s.run (fun d => d.amTimed (32 + i.val))

def Dev.tlogClr (d : Dev) (mask : Nat) : Dev :=
  d.clrMask 16 mask (fun x k => forN 16 (fun y j => y.put (F.TRK_CR_MFCNT k j) 0) (x.wr (R.TRK_TLOG_STAT k) 0))

/-- TRK_TLOG_CLR (R7). -/
def execTrkTlogClr (_req : Fin 10) (mask : Nat) (s : State) : Host.Outcome State Fault Refusal := s.run (fun d => d.tlogClr mask)

end Sys2Proof.Machine
end

