-- ==== Sys2Proof/Machine/Measure.lean ====
section
/-! DEFINITION. Converters (R423-R432), encoder interfaces (R433-R442), the core-side view of the comparators (R445) and
the GPIO pins (R451, R472). -/

namespace Sys2Proof.Machine

/-! ### Reads that latch other words for their requester (R44, R430, R441, R442) -/

/-- The data of a read goes back to its requester. -/
def Dev.ret (d : Dev) (req data : Nat) : Dev := { d with bus := ⟨req, data % 2 ^ 32⟩ }

/-- Words latched into the shadow of requester req. -/
def Dev.latch (d : Dev) (req : Nat) (his : List Nat) : Dev := his.foldl (fun x h => x.setOwn req h (d.rd h)) d

/-- A read of a word that latches others. -/
def Dev.latchRead (d : Dev) (req lo : Nat) (his : List Nat) : Dev := (d.latch req his).ret req (d.rd lo).toNat

/-- A counter of HIF_CNT0 or HIF_CNT1, which the PCIe domain holds. -/
def Dev.hifInc (d : Dev) (f : Fld) : Dev := if d.pcieOn && !d.rst.core && !d.rst.perst then d.incSat f else d

/-- An access to a block or a unit whose power domain is off (R37, R34). -/
def Dev.pwrOffAccess (d : Dev) (req : Nat) (wr : Bool) : Dev :=
  let d1 := d.hifInc F.HIF_CNT0_PWROFF
  if wr then d1 else d1.ret req 0

/-! ### Converters -/

/-- A conversion of converter m begins in FAB cycle f: its entry is read, and READY of its input clears (R424, R430). -/
def Dev.adcBegin (d : Dev) (m : Nat) (t : AdcTrig) (f : Nat) : Dev :=
  let j := 16 * m + d.get (F.ADC_SEQ_IN m t.first)
  (d.setAd m { d.ad m with run := some t, cur := j, at_ := f, smp := d.get (F.ADC_SEQ_SMP m t.first) }).put (F.AIN_RES_READY j) 0

/-- A sample is compared with its window (R431). -/
def Dev.adcLimit (d : Dev) (m j v : Nat) : Dev :=
  let out := decide (v < d.get (F.ADC_LIM_LO j)) || decide (d.get (F.ADC_LIM_HI j) < v)
  let d1 := (d.putB (F.AIN_RES_LIM j) out).setAbit (R.ADC_LIMSTAT 0) j out
  if out then d1.icuArrive (60 + m) else d1

/-- FAB cycles of one ADCK cycle of 12.5 ns (R23). -/
def adckFab : Nat := 5

/-- The FAB cycle that ends the running conversion of x: SMP + 4 ADCK cycles of sampling, then 12 (R423). -/
def Adc.ends (x : Adc) : Nat := x.at_ + adckFab * (x.smp + 16)

/-- The device time, to one tick, at which the sampling of x ended (R423). -/
def Dev.adcStamp (d : Dev) (x : Adc) : Nat := d.now - (d.fab + 12 * adckFab - x.ends + 1) / 2

/-- The running conversion of converter m completes with a 12-bit value (R423, R424, R428-R431). -/
def Dev.adcDone (d : Dev) (m value : Nat) : Dev :=
  let x := d.ad m
  match x.run with
  | none => d
  | some t =>
    let j := x.cur
    let v := value % 2 ^ 12
    let d1 := ((d.put (F.AIN_RES_VALUE j) v).put (F.AIN_RES_READY j) 1).put (F.AIN_RES_SEEN j) 0
    let d2 := d1.put64 (R.AIN_TS_LO j) (R.AIN_TS_HI j) (d.adcStamp x)
    let d3 := ((d2.put (F.AIN_SRC_KIND j) t.kind).put (F.AIN_SRC_ENTRY j) t.entry).put (F.AIN_SRC_ANG j) t.ang
    let d4 := d3.adcLimit m j v
    if 1 < t.left then d4.adcBegin m { t with first := (t.first + 1) % 16, left := t.left - 1 } x.ends
    else
      let d5 := (d4.setAd m { d4.ad m with run := none }).incWrap (F.ADC_CNT_SEQ m)
      (d5.route (89 + m)).icuArrive (56 + m)

/-- ADCm_STAT as read. -/
def Dev.adcStat (d : Dev) (m : Nat) : Word :=
  let x := d.ad m
  match x.run with
  | some t => BitVec.ofNat 32 (2 ^ 31 + b2n (!x.wait.isEmpty) * 2 ^ 30 + t.first)
  | none => BitVec.ofNat 32 (b2n (!x.wait.isEmpty) * 2 ^ 30)

/-- The next trigger of an idle converter starts, at the next FAB cycle that begins with an edge of TICK and of ADCK, at a
device time that is a multiple of 5 ticks (R23, R428). -/
def Dev.adcStart (d : Dev) (m : Nat) : Dev :=
  let x := d.ad m
  match x.run, x.wait with
  | none, t :: r =>
    let d1 := d.until (d.fab + (10 - (2 * d.now + d.fab % 2) % 10) % 10)
    (d1.setAd m { d1.ad m with wait := r }).adcBegin m t d1.fab
  | _, _ => d

/-- A write of ADCm_CTL (R425): the settings first, then a trigger where SWTRIG is written one. -/
def Dev.adcCtlWrite (d : Dev) (m data : Nat) : Dev :=
  let d1 := d.wr (R.ADC_CTL m) (BitVec.ofNat 32 data &&& 0x0000FF01#32)
  if bitOf data 31 then d1.adcPlain m 2 else d1

/-- SWTRIG (R425). -/
def execSwtrig (req : Fin 10) (m : Fin 4) (s : State) : Host.Outcome State Fault Refusal :=
  s.run (fun d => if d.domUp 5 then d.adcPlain m 2 else d.pwrOffAccess req true)

/-- ADC_SEQUENCE_START (R428). -/
def execAdcSequenceStart (m : Fin 4) (s : State) : Host.Outcome State Fault Refusal := s.run (fun d => if d.domUp 5 then d.adcStart m else d)

/-- ADC_CONVERSION_DONE (R423, R429-R431). -/
def execAdcConversionDone (m : Fin 4) (value : Nat) (s : State) : Host.Outcome State Fault Refusal :=
  s.run (fun d => if d.domUp 5 ∧ (d.ad m).run.isSome then (d.until (d.ad m).ends).adcDone m value else d)

/-- A read of AINj_RES (R430): SEEN is returned as it stood. -/
def Dev.ainRead (d : Dev) (req j : Nat) : Dev :=
  if !d.domUp 5 then d.pwrOffAccess req false
  else (d.latchRead req (R.AIN_RES j) [R.AIN_TS_LO j, R.AIN_TS_HI j, R.AIN_SRC j]).put (F.AIN_RES_SEEN j) 1

/-- AIN_RES_READ (R430). -/
def execAinResRead (req : Fin 10) (j : Fin 64) (s : State) : Host.Outcome State Fault Refusal := s.run (fun d => d.ainRead req j)

def Dev.adcCntClr (d : Dev) (mask : Nat) : Dev := d.clrMask 4 mask (fun x m => x.wr (R.ADC_CNT m) 0)

/-- ADC_CNT_CLR (R7). -/
def execAdcCntClr (req : Fin 10) (mask : Nat) (s : State) : Host.Outcome State Fault Refusal :=
  s.run (fun d => if d.domUp 5 then d.adcCntClr mask else d.pwrOffAccess req true)

/-! ### Encoder interfaces -/

def enc0 : Enc := ⟨0, false, none⟩
def Dev.en (d : Dev) (m : Nat) : Enc := smGet d.enc enc0 m
def Dev.setEn (d : Dev) (m : Nat) (x : Enc) : Dev := { d with enc := smSet d.enc enc0 m x }

/-- The decoding of interface m: 0 off, 1 quadrature, 2 sine/cosine (R433). -/
def Dev.encMode (d : Dev) (m : Nat) : Nat :=
  let c := d.get (F.ENC_CFG_MODE m)
  if c = 3 || (c == 2 && decide (4 ≤ m)) then 0 else c

/-- The trackers that an interface feeds. -/
def Dev.encFeed (d : Dev) (m : Nat) (f : Dev → Nat → Dev) : Dev :=
  forN 16 (fun x k => if x.flag (F.TRK_CFG_KIND k) && x.encOf k == m then f x k else x) d

def repeatN (n : Nat) (f : Dev → Dev) (d : Dev) : Dev := (List.range n).foldl (fun x _ => f x) d

/-- The reported count moves by n counts at one instant (R441): stamp, PER, direction, and the trackers (R117). -/
def Dev.encMove (d : Dev) (m : Nat) (up : Bool) (n stamp : Nat) : Dev :=
  let x := d.en m
  let code := if up then 1 else 2
  let per := match x.last with
    | some l => if d.get (F.ENC_STAT_DIR m) == code then min (stamp - l) (2 ^ 32 - 1) else 0
    | none => 0
  let cnt := toS 32 (d.rd (R.ENC_POS m)).toNat + (if up then (n : Int) else -(n : Int))
  let d1 := (d.setEn m { x with last := some stamp }).wr (R.ENC_POS m) (BitVec.ofNat 32 (ofS 32 cnt))
  let d2 := (d1.put64 (R.ENC_ETS_LO m) (R.ENC_ETS_HI m) stamp).wr (R.ENC_PER m) (BitVec.ofNat 32 per)
  (d2.put (F.ENC_STAT_DIR m) code).encFeed m (fun y k => repeatN n (fun z => z.encStep k up stamp) y)

/-- An index edge is delivered (R435, R446). -/
def Dev.encIdx (d : Dev) (m stamp : Nat) : Dev := (d.route (49 + m)).encFeed m (fun x k => x.encIndex k stamp)

/-- Place of A and B in the sequence of a rising count: 00, 10, 11, 01 as (A, B) (R434). -/
def quadPhase (a b : Bool) : Nat := match a, b with | false, false => 0 | true, false => 1 | true, true => 2 | false, true => 3

/-- The level of line i of interface m once the glitch filter is passed: a new level that holds for ENCm_CFG.FLT ticks (R434). -/
def Dev.encLine (d : Dev) (m i : Nat) (level : Bool) (hold : Nat) : Bool :=
  if d.get (F.ENC_CFG_FLT m) ≤ hold then level else bitOf (d.get (F.ENC_STAT_LVL m)) i

/-- New filtered levels of A, B and I at one tick (R434, R435). -/
def Dev.encQuad (d : Dev) (m : Nat) (a b i : Bool) (stamp : Nat) : Dev :=
  let lvl := d.get (F.ENC_STAT_LVL m)
  let oa := bitOf lvl 0
  let ob := bitOf lvl 1
  let d1 := d.put (F.ENC_STAT_LVL m) (b2n a + 2 * b2n b + 4 * b2n i)
  let step := (quadPhase a b + 4 - quadPhase oa ob) % 4
  let d2 :=
    if step = 0 then d1
    else if step = 2 then ((d1.incSat (F.ENC_ECNT_QERR m)).raise 5 1 m 1).encError m
    else d1.encMove m ((step == 1) != d1.flag (F.ENC_CFG_INV m)) 1 stamp
  if i != bitOf lvl 2 && i == d2.flag (F.ENC_CFG_IPOL m) && d2.flag (F.ENC_CFG_IDXEN m) &&
      d2.get (F.ENC_CFG_IDXAB m) == b2n a + 2 * b2n b then d2.encIdx m stamp
  else d2

/-- tan(j pi / 128) for j = 1 to 31, times 2^64, rounded up. -/
def tanTable : List Nat :=
  [452842149405555711, 906230424844939522, 1360713590037295458, 1816845711190106722, 2275188876517173470,
   2736315999040864332, 3200813732739050393, 3669285534148243472, 4142354904202732710, 4620668848450484398,
   5104901597937247462, 5595758638113189653, 6093981099244674495, 6600350569198068925, 7115694398339319623,
   7640891576956012809, 8176879278422415424, 8724660176746572098, 9285310665728703000, 9859990129432026166,
   10449951440913901676, 11056552899315230175, 11681271855891535025, 12325720329217147638, 12991662970947612996,
   13681037819207120044, 14395980370798925448, 15138851621137710682, 15912270868803719536, 16719154268827382158,
   17562760357107741475]

/-- Is y / x at least tan(j pi / 128), for j from 1 to 63, x and y not negative? -/
def atLeastTan (y x : Nat) (j : Nat) : Bool :=
  if j < 32 then decide (x * tanTable.getD (j - 1) 0 ≤ y * 2 ^ 64)
  else if j = 32 then decide (x ≤ y)
  else decide (x * 2 ^ 64 ≤ y * tanTable.getD (63 - j) 0)

/-- floor(256 atan2(s, c) / 2 pi) modulo 256 (R436), not both zero. -/
def fineAngle (s c : Int) : Nat :=
  let q := if 0 ≤ s && 0 < c then (0, s, c) else if 0 < s && c ≤ 0 then (64, -c, s) else if s ≤ 0 && c < 0 then (128, -s, -c) else (192, c, -s)
  q.1 + ((List.range 63).filter (fun i => atLeastTan q.2.1.toNat q.2.2.toNat (i + 1))).length

/-- The amplitude leaves its window (R437, R440). -/
def Dev.encAmp (d : Dev) (m : Nat) : Dev :=
  if d.flag (F.ENC_STAT_AMP m) then d
  else (((d.put (F.ENC_STAT_AMP m) 1).incSat (F.ENC_ECNT_AMP m)).causeOn 5 2 m 2).encError m

/-- The amplitude is back inside its window (R437). -/
def Dev.encAmpOk (d : Dev) (m : Nat) : Dev := (d.put (F.ENC_STAT_AMP m) 0).causeOff 5 2 m

/-- The position nearest to p with fine part f. -/
def unwrap (p : Int) (f : Nat) : Int :=
  let e := Int.fmod ((f : Int) - p) 256
  if e ≤ 128 then p + e else p + e - 256

/-- The interpolated position is p (R438): the reported count follows in its direction; after a reversal only once p
lies more than HYST counts beyond it. -/
def Dev.encFollow (d : Dev) (m : Nat) (p : Int) (stamp : Nat) : Dev :=
  let x := d.en m
  let d1 := d.setEn m { x with pos := p, seen := true }
  let cnt := toS 32 (d.rd (R.ENC_POS m)).toNat
  let off := toS 32 (ofS 32 (p - cnt))
  let hyst : Int := d.get (F.ENC_CFG_HYST m)
  let dir := d.get (F.ENC_STAT_DIR m)
  if off = 0 then d1
  else
    let up := decide (0 < off)
    let with_ := dir == 0 || (dir == 1) == up
    if with_ || decide (hyst < (off.natAbs : Int)) then d1.encMove m up off.natAbs stamp else d1

/-- A sample of the sine and cosine tracks (R436, R437). Offsets and gain leave s and c as fractions of 128. -/
def Dev.encSample (d : Dev) (m : Nat) (sine cosine : Int) (stamp : Nat) : Dev :=
  let gain := d.get (F.ENC_SC_GAINC m)
  let s := 128 * (sine - toS 12 (d.get (F.ENC_SC_OFSS m)))
  let c := (cosine - toS 12 (d.get (F.ENC_SC_OFSC m))) * (if gain = 0 then 128 else gain : Nat)
  let a := s * s + c * c
  let lo : Int := (128 * d.get (F.ENC_SC2_AMIN m) : Nat)
  let hi : Int := (128 * d.get (F.ENC_SC2_AMAX m) : Nat)
  if a < lo * lo || hi * hi < a then d.encAmp m
  else
    let d1 := d.encAmpOk m
    let r := if s = 0 ∧ c = 0 then d1.drawFree else (0, d1)
    let f := if s = 0 ∧ c = 0 then r.1.toNat % 256 else fineAngle s c
    let x := r.2.en m
    let p := if x.seen then unwrap x.pos f else unwrap (toS 32 (r.2.rd (R.ENC_POS m)).toNat) f
    r.2.encFollow m p stamp

/-- ENC_COUNT_CHANGE (R434-R438, R441). -/
def execEncCountChange (m : Fin 8) (ev : EncEvent) (s : State) : Host.Outcome State Fault Refusal :=
  s.run (fun d =>
    match ev with
    | .quad a b i hold stamp =>
      if d.encMode m = 1 then
        let x := d.advance (stamp + d.get (F.ENC_CFG_FLT m))
        x.encQuad m (x.encLine m 0 a hold.1) (x.encLine m 1 b hold.2.1) (x.encLine m 2 i hold.2.2) stamp
      else d
    | .sincos sine cosine stamp => if d.encMode m = 2 then (d.advance stamp).encSample m sine cosine stamp else d)

/-- AMP_ERR (R437). -/
def execAmpErr (m : Fin 8) (s : State) : Host.Outcome State Fault Refusal := s.run (fun d => if d.encMode m = 2 then d.encAmp m else d)

/-- ENC_AMP_RECOVERY (R437). -/
def execEncAmpRecovery (m : Fin 8) (s : State) : Host.Outcome State Fault Refusal := s.run (fun d => d.encAmpOk m)

/-- ENC_INDEX_EDGE (R435): an index edge now, with A and B as they stand. -/
def execEncIndexEdge (m : Fin 8) (s : State) : Host.Outcome State Fault Refusal :=
  s.run (fun d =>
    let ab := d.get (F.ENC_STAT_LVL m) % 4
    if d.encMode m = 0 || !d.flag (F.ENC_CFG_IDXEN m) || (d.encMode m == 1 && ab != d.get (F.ENC_CFG_IDXAB m)) then d
    else (d.put (F.ENC_STAT_LVL m) (ab + 4 * b2n (d.flag (F.ENC_CFG_IPOL m)))).encIdx m d.now)

/-- WIREA, WIREB or WIREI. -/
def wireFld (m : Nat) (pair : Nat) : Fld := ⟨R.ENC_STAT m, 28 + pair, 28 + pair⟩

/-- Ticks of one microsecond. -/
def tickMicro : Nat := 200

/-- WIRE (R439, R440): the pair is faulty from now on, and the fault is known after WTIME µs, 0 acting as 1. -/
def execWire (m : Fin 8) (pair : Fin 3) (s : State) : Host.Outcome State Fault Refusal :=
  s.run (fun d0 =>
    let d := d0.advance (d0.now + tickMicro * max 1 (d0.get (F.ENC_CFG_WTIME m)))
    if d.encMode m = 0 || d.flag (wireFld m pair) then d
    else (((d.put (wireFld m pair) 1).incSat (F.ENC_ECNT_WIRE m)).causeOn 5 0 m 2).encError m)

/-- ENC_WIRE_HEALTHY (R439): the cause lasts while a pair of the interface is faulty. -/
def execEncWireHealthy (m : Fin 8) (pair : Fin 3) (s : State) : Host.Outcome State Fault Refusal :=
  s.run (fun d =>
    let d1 := d.put (wireFld m pair) 0
    if d1.get ⟨R.ENC_STAT m, 30, 28⟩ = 0 then d1.causeOff 5 0 m else d1)

/-- A write of ENCm_CFG: a new decoding starts afresh (R433). -/
def Dev.encCfgWrite (d : Dev) (m data : Nat) : Dev :=
  let old := d.encMode m
  let d1 := d.wr (R.ENC_CFG m) (BitVec.ofNat 32 data &&& 0xFFFFFF7F#32)
  if d1.encMode m = old then d1 else d1.setEn m enc0

/-- ENC_LATCH (R442). -/
def execEncLatch (m : Fin 8) (sw : Bool) (s : State) : Host.Outcome State Fault Refusal := s.run (fun d => d.encLatch m sw)

def Dev.encLatSw (d : Dev) (mask : Nat) : Dev := d.clrMask 8 mask (fun x m => x.encLatch m true)

/-- A read of ENCm_POS (R441). -/
def Dev.encPosRead (d : Dev) (req m : Nat) : Dev := d.latchRead req (R.ENC_POS m) [R.ENC_ETS_LO m, R.ENC_ETS_HI m, R.ENC_PER m]

/-- ENC_POS_READ (R441). -/
def execEncPosRead (req : Fin 10) (m : Fin 8) (s : State) : Host.Outcome State Fault Refusal := s.run (fun d => d.encPosRead req m)

/-- A read of ENCm_LAT_CNT (R442): LAT_ST is latched as it stood, and SEEN is set. -/
def Dev.encLatRead (d : Dev) (req m : Nat) : Dev :=
  (d.latchRead req (R.ENC_LAT_CNT m) [R.ENC_LAT_ETS_LO m, R.ENC_LAT_ETS_HI m, R.ENC_LAT_TS_LO m, R.ENC_LAT_TS_HI m, R.ENC_LAT_PER m,
    R.ENC_LAT_ST m]).put (F.ENC_LAT_ST_SEEN m) 1

/-- ENC_LAT_CNT_READ (R442). -/
def execEncLatCntRead (req : Fin 10) (m : Fin 8) (s : State) : Host.Outcome State Fault Refusal := s.run (fun d => d.encLatRead req m)

def Dev.encCntClr (d : Dev) (mask : Nat) : Dev := d.clrMask 8 mask (fun x m => x.wr (R.ENC_ECNT m) 0)

/-- ENC_CNT_CLR (R7). -/
def execEncCntClr (_req : Fin 10) (mask : Nat) (s : State) : Host.Outcome State Fault Refusal := s.run (fun d => d.encCntClr mask)

/-! ### Comparators, seen from the core (R445) -/

/-- A rise or fall of comparator m reaches the core: level, count, stamp, router, ICU (R445, R446, R472). -/
def Dev.cmpCore (d : Dev) (m : Nat) (level : Bool) : Dev :=
  let d1 := ((d.putB (F.CMP_STAT_LEVEL m) level).putB (F.CMP_STAT_RAW m) level).incSat (if level then F.CMP_CNT_RISE m else F.CMP_CNT_FALL m)
  let d2 := d1.put64 (R.CMP_TS_LO m) (R.CMP_TS_HI m) d1.now
  (d2.route ((if level then 33 else 41) + m)).icuArrive ((if level then 160 else 168) + m)

def Dev.cmpCntClr (d : Dev) (mask : Nat) : Dev := d.clrMask 8 mask (fun x m => x.wr (R.CMP_CNT m) 0)

/-- CMP_CNT_CLR (R7). -/
def execCmpCntClr (_req : Fin 10) (mask : Nat) (s : State) : Host.Outcome State Fault Refusal := s.run (fun d => d.cmpCntClr mask)

/-! ### GPIO pins -/

/-- The level at ball p becomes `level` (R451, R472, R474): timers and the ICU read the ball. -/
def Dev.gpioBall (d : Dev) (p : Nat) (level : Bool) : Dev :=
  if d.abit (R.SYS_GPIO_IN 0) p == level then d
  else
    ((d.setAbit (R.SYS_GPIO_IN 0) p level).icuPin (64 + p) level).icuPin p level

/-- A write of OUT or OE moves the balls of the outputs; a ball that stops being an output falls to its pull-down
(notes/assumptions/33.md). -/
def Dev.gpioDrive (d : Dev) (was : Dev) : Dev :=
  forN 64 (fun x p =>
    if x.abit (R.SYS_GPIO_OE 0) p then x.gpioBall p (x.abit (R.SYS_GPIO_OUT 0) p)
    else if was.abit (R.SYS_GPIO_OE 0) p then x.gpioBall p false else x) d

/-- GPIO_EDGE (R451, R472): a ball that the device drives follows its OUT bit. -/
def execGpioEdge (pin : Fin 64) (level : Bool) (s : State) : Host.Outcome State Fault Refusal :=
  s.run (fun d => if d.abit (R.SYS_GPIO_OE 0) pin then d else d.gpioBall pin level)

end Sys2Proof.Machine
end

