-- ==== Sys2Proof/Machine/SchCmd.lean ====
section
/-! DEFINITION. Commands of the scheduler (R143, R161-R170, R190, R202) and of prediction (R125, R149, R150, R153-R155). -/

namespace Sys2Proof.Machine

/-- Direct-debug mode (R534). -/
def Dev.direct (d : Dev) : Bool := d.flag F.DBG_STAT_DIRECT

/-! ### Scheduler -/

/-- EVENT_FREEZE (R143): device time reaches floor(T) - 100, T the start, or the end of an event that ends at an angle. -/
def execEventFreeze (uid : Nat) (endOnly : Bool) (s : State) : Host.Outcome State Fault Refusal :=
  s.run (fun d =>
    match d.occ? uid with
    | none => d
    | some o =>
      match o.head with
      | none => d
      | some p =>
        let t := fdiv (if endOnly then p.stop else p.start) 8 - 100
        (d.advance t.toNat).setOcc (if endOnly then { o with endFrozen := true } else { o with frozen := true }))

/-- A write of descriptor idx is discarded because it is live (R163). -/
def Dev.descLive (d : Dev) (bank : Bool) (idx : Nat) : Bool :=
  (List.range 16).any (fun k => d.flag (F.SCH_TRK_CTL_EN k) && inRange (d.rangeOf k false) bank idx) && !d.direct

/-- A write of descriptor idx is discarded because it lies in the shadow range of a tracker with a swap pending (R163, R55). -/
def Dev.descBusy (d : Dev) (bank : Bool) (idx : Nat) : Bool :=
  (List.range 16).any (fun k => (d.tk k).pend.isSome && inRange (d.shadowRange k) bank idx)

/-- The bits of word i of a descriptor that are not reserved (R6, R164); word 3 of an ENDANG head holds 24. -/
def descMask (i kind : Nat) : Nat :=
  match i with
  | 0 => 0xFFFFF0FF
  | 3 => if kind = 1 then 0xFFFFFF else 0xFFFFFFFF
  | 4 => 0xFF00_9FFF
  | 5 => 0x83FFFFFF
  | 6 => 0xFFFF0007
  | 7 => 0
  | _ => 0xFFFFFFFF

/-- Word i of a descriptor takes data; what a word of KIND ENDANG reserves reads 0 (R6, R164). In direct-debug mode an edit of
a live range may name another channel, which its tracker then owns where it is free (R195, R202). -/
def Dev.descPut (d : Dev) (bank : Bool) (idx word data : Nat) : Dev :=
  let a := descAddr bank idx
  let put := fun (x : Dev) (i v : Nat) => { x with mem := memWrite x.mem (a + 4 * i) 4 (Nat.land (v % 2 ^ 32) (descMask i (x.desc bank idx).kind)) }
  let d1 := put d word data
  let d2 := if word = 0 then put d1 3 (d1.desc bank idx).w3 else d1
  if d2.direct then d2.reown else d2

/-- An access that writes descriptor idx: done by f, or discarded and counted once (R163, R55). -/
def Dev.descGate (d : Dev) (bank : Bool) (idx : Nat) (f : Dev → Dev) : Dev :=
  if d.descLive bank idx then d.incSat F.SCH_GSTAT2_LIVEWR
  else if d.descBusy bank idx then d.incSat F.SYS_UPD_STAT_BUSYWR
  else f d

/-- A write of a word of a descriptor (R163, R55). -/
def Dev.descWrite (d : Dev) (bank : Bool) (idx word data : Nat) : Dev := d.descGate bank idx (fun x => x.descPut bank idx word data)

/-- DESC_WRITE (R163). -/
def execDescWrite (_req : Fin 10) (bank : Bool) (idx : Nat) (word : Fin 8) (data : Nat) (s : State) : Host.Outcome State Fault Refusal :=
  s.run (fun d => d.descWrite bank (idx % 8192) word data)

/-- RANGE_PREP_DONE (R165, R166). -/
def execRangePrepDone (k : Fin 16) (s : State) : Host.Outcome State Fault Refusal :=
  s.run (fun d => if (d.scht k).prep || (d.scht k).prepIn then d.prepDone k else d)

/-- SCH_TRKk_CTL.EN is written (R165, R190). -/
def Dev.schEnWrite (d : Dev) (k : Nat) (en : Bool) : Dev :=
  let was := d.flag (F.SCH_TRK_CTL_EN k)
  if en == was then d
  else if en then (d.put (F.SCH_TRK_CTL_EN k) 1).schEnable k
  else (d.put (F.SCH_TRK_CTL_EN k) 0).schDisable k

/-- SCH_TRK_ENABLE (R165). -/
def execSchTrkEnable (_req : Fin 10) (k : Fin 16) (s : State) : Host.Outcome State Fault Refusal := s.run (fun d => d.schEnWrite k true)

/-- SCH_TRK_DISABLE (R190). -/
def execSchTrkDisable (_req : Fin 10) (k : Fin 16) (s : State) : Host.Outcome State Fault Refusal := s.run (fun d => d.schEnWrite k false)

/-- A channel enable is written (R190). -/
def Dev.chenBit (d : Dev) (ch : Nat) (en : Bool) : Dev :=
  if d.abit (R.SCH_CHEN 0) ch && !en then (d.chanOff ch).setAbit (R.SCH_CHEN 0) ch false else d.setAbit (R.SCH_CHEN 0) ch en

def Dev.chenWrite (d : Dev) (w data : Nat) : Dev := forN 32 (fun x b => x.chenBit (32 * w + b) (bitOf data b)) d

/-- SCH_CHEN_WRITE (R190). -/
def execSchChenWrite (_req : Fin 10) (w : Fin 16) (data : Nat) (s : State) : Host.Outcome State Fault Refusal := s.run (fun d => d.chenWrite w data)

/-- Spent ONCE heads are candidates again: nothing spent, and the first cycle considered still to come (R170). -/
def Ones.rearm (x : Ones) : Ones := ⟨[], x.cyc.filter (fun p => !x.spent.contains p.1), x.since⟩

def Dev.schRearm (d : Dev) (k : Nat) : Dev :=
  let s := d.scht k
  d.setScht k { s with ones := s.ones.rearm, onesIn := s.onesIn.rearm }

/-- REARM (R170). -/
def execRearm (_req : Fin 10) (k : Fin 16) (s : State) : Host.Outcome State Fault Refusal := s.run (fun d => d.schRearm k)

/-- The counters that SCH_CNT_CLR clears. -/
def Dev.schCntClr (d : Dev) (data : Nat) : Dev :=
  let d1 := if bitOf data 31 then ((d.put F.SCH_GSTAT_HISTLOST 0).put F.SCH_GSTAT_SCANOVR 0).put F.SCH_GSTAT2_LIVEWR 0 else d
  d1.clrMask 16 data (fun x k => (((((x.wr (R.SCH_TRK_CNT0 k) 0).wr (R.SCH_TRK_CNT1 k) 0).wr (R.SCH_TRK_CNT2 k) 0).wr (R.SCH_TRK_EXEC k) 0).wr
    (R.SCH_TRK_LASTLATE k) 0).wr (R.SCH_TRK_LATEBY k) 0)

/-- SCH_CNT_CLR (R7). -/
def execSchCntClr (_req : Fin 10) (data : Nat) (s : State) : Host.Outcome State Fault Refusal := s.run (fun d => d.schCntClr data)

/-- SCH_GSTAT and SCH_GSTAT2 as read: descriptors armed, heads and chained pulses, and occurrences committed and not done. -/
def Dev.schGstat (d : Dev) : Word :=
  (d.put F.SCH_GSTAT_ARMED ((List.range 16).foldl (fun a k => a + d.get (F.SCH_TRK_STAT_ARMED k)) 0)).rd R.SCH_GSTAT

def Dev.schGstat2 (d : Dev) : Word := (d.put F.SCH_GSTAT2_PEND (d.sch.occs.filter (fun o => !o.force)).length).rd R.SCH_GSTAT2

/-! ### Prediction -/

/-- A write of PRD_LMAPl (R125, R130). -/
def Dev.lmapWrite (d : Dev) (l data : Nat) : Dev :=
  let k0 := d.get (F.PRD_LMAP_TRK l)
  let k1 := data % 16
  if d.flag (F.TRK_STAT_ARM_OK k0) || d.flag (F.TRK_STAT_ARM_OK k1) then d.incSat F.PRD_ALLOC_STAT_BUSYWR
  else ((d.wr (R.PRD_LMAP l) (BitVec.ofNat 32 data &&& 0x8000000F#32)).allocCheck k0).allocCheck k1

/-- PRD_LMAP_WRITE (R125). -/
def execPrdLmapWrite (_req : Fin 10) (l : Fin 32) (data : Nat) (s : State) : Host.Outcome State Fault Refusal := s.run (fun d => d.lmapWrite l data)

/-- A software write of a tooth-error or ripple-map entry (R149); position 0 of the tooth errors reads 0. -/
def Dev.tableWrite (d : Dev) (k : Nat) (te : Bool) (idx data : Nat) : Dev :=
  if d.flag (if te then F.PRD_LRN_TE_LRN k else F.PRD_LRN_RIP_LRN k) then d.incSat (F.PRD_CNT0_TEWR k)
  else if te then (if idx = 0 then d else d.put (F.PRD_TE_TE k idx) data)
  else d.wr (R.PRD_RM k idx) (BitVec.ofNat 32 data)

/-- PRD_TABLE_WRITE (R149). -/
def execPrdTableWrite (_req : Fin 10) (k : Fin 16) (te : Bool) (idx : Nat) (data : Nat) (s : State) : Host.Outcome State Fault Refusal :=
  s.run (fun d => d.tableWrite k te (idx % (if te then 512 else 1024)) data)

/-- CLR_TE (R150). -/
def execClrTe (_req : Fin 10) (k : Fin 16) (s : State) : Host.Outcome State Fault Refusal := s.run (fun d => d.clrTe k)

/-- CLR_RIP1 (R150). -/
def execClrRip1 (_req : Fin 10) (k : Fin 16) (s : State) : Host.Outcome State Fault Refusal := s.run (fun d => d.clrRip k true)

/-- CLR_RIP0 (R150). -/
def execClrRip0 (_req : Fin 10) (k : Fin 16) (s : State) : Host.Outcome State Fault Refusal := s.run (fun d => d.clrRip k false)

/-- A write of PRDk_LRN. -/
def Dev.lrnWrite (d : Dev) (k data : Nat) : Dev :=
  let d1 := if bitOf data 31 then d.clrTe k else d
  let d2 := if bitOf data 30 then d1.clrRip k true else d1
  let d3 := if bitOf data 29 then d2.clrRip k false else d2
  d3.wr (R.PRD_LRN k) (BitVec.ofNat 32 data &&& 3#32)

def Dev.qry? (d : Dev) (q : Nat) : Option Qry := (d.qry.find? (fun p => p.1 == q)).map (fun p => p.2)

/-- A START on query slot q, whose CMD fields are written (R153). -/
def Dev.qryStart (d : Dev) (q : Nat) : Dev :=
  if (d.qry? q).isSome then d
  else
    let k := d.get (F.PRD_QRY_CMD_TRK q)
    let r := d.queryRes k (d.get (F.PRD_QRY_CMD_ANG q))
    ({ d with qry := smIns d.qry q ⟨k, r, r == .nopred, (d.pr k).nrec⟩ } : Dev).put (F.PRD_QRY_RES_ST_READY q) 0

/-- A write of PRD_QRYq_CMD. -/
def Dev.qryCmdWrite (d : Dev) (q data : Nat) : Dev :=
  let d1 := d.wr (R.PRD_QRY_CMD q) (BitVec.ofNat 32 data &&& 0x0FFFFFFF#32)
  if bitOf data 31 then d1.qryStart q else d1

/-- PRD_QUERY_START (R153). -/
def execPrdQueryStart (_req : Fin 10) (q : Fin 8) (k : Fin 16) (ang : Nat) (s : State) : Host.Outcome State Fault Refusal :=
  s.run (fun d => d.qryCmdWrite q (2 ^ 31 + k * 2 ^ 24 + ang % 2 ^ 24))

/-- A query completes (R154); without a prediction the time is a free value. -/
def Dev.qryDone (d : Dev) (q : Nat) : Dev :=
  match d.qry? q with
  | none => d
  | some x =>
    let d1 : Dev := { d with qry := smDel d.qry q }
    let st := (((((d1.put (F.PRD_QRY_RES_ST_READY q) 1).put (F.PRD_QRY_RES_ST_SEEN q) 0).putB (F.PRD_QRY_RES_ST_STALE q) ((d1.pr x.trk).nrec != x.nrec)).putB
      (F.PRD_QRY_RES_ST_NOPRED q) x.bad))
    match x.res with
    | .time t =>
      ((st.put64 (R.PRD_QRY_RES_LO q) (R.PRD_QRY_RES_HI q) (ofS 64 (fdiv t 8))).put (F.PRD_QRY_RES_ST_FRAC q) (Int.fmod t 8).toNat).putB
        (F.PRD_QRY_RES_ST_PAST q) (decide (t < 8 * (d.now : Int)))
    | _ =>
      let a := st.drawFree
      let b := a.2.drawFree
      let c := b.2.drawFree
      (((c.2.wr (R.PRD_QRY_RES_LO q) a.1).wr (R.PRD_QRY_RES_HI q) b.1).put (F.PRD_QRY_RES_ST_FRAC q) c.1.toNat).put (F.PRD_QRY_RES_ST_PAST q) 0

/-- PRD_QUERY_DONE (R153, R154). -/
def execPrdQueryDone (q : Fin 8) (s : State) : Host.Outcome State Fault Refusal := s.run (fun d => d.qryDone q)

/-- A read of PRD_QRYq_RES_LO (R155). -/
def Dev.qryRead (d : Dev) (req q : Nat) : Dev :=
  (d.latchRead req (R.PRD_QRY_RES_LO q) [R.PRD_QRY_RES_HI q, R.PRD_QRY_RES_ST q]).put (F.PRD_QRY_RES_ST_SEEN q) 1

/-- PRD_QUERY_READ (R155). -/
def execPrdQueryRead (req : Fin 10) (q : Fin 8) (s : State) : Host.Outcome State Fault Refusal := s.run (fun d => d.qryRead req q)

/-- The counters that PRD_CNT_CLR clears. -/
def Dev.prdCntClr (d : Dev) (data : Nat) : Dev :=
  let d1 := if bitOf data 16 then forN 36 (fun x m => (x.wr (R.PE_CNT m) 0).put (F.PE_LOAD_PEAK m) 0) d else d
  d1.clrMask 16 data (fun x k => (x.wr (R.PRD_CNT0 k) 0).wr (R.PRD_RESMAX k) 0)

/-- PRD_CNT_CLR (R7). -/
def execPrdCntClr (_req : Fin 10) (data : Nat) (s : State) : Host.Outcome State Fault Refusal := s.run (fun d => d.prdCntClr data)

/-- The logical engine that physical engine m carries, if any. -/
def Dev.peLog (d : Dev) (m : Nat) : Option Nat := findN 32 (fun l => d.get (F.PRD_PMAP_PE l) == m)

/-- PEm_STAT as read: tracker and pending events of the logical engine carried. -/
def Dev.peStat (d : Dev) (m : Nat) : Word :=
  match d.peLog m with
  | some l => (((d.put (F.PE_STAT_TRK m) (if d.flag (F.PRD_LMAP_EN l) then d.get (F.PRD_LMAP_TRK l) else 0)).put (F.PE_STAT_PEND m) (d.engPend l)).put
      (F.PE_STAT_LOG m) l).rd (R.PE_STAT m)
  | none => match d.sch.shadows.find? (fun x => x.spare == m) with
    | some x => (d.put (F.PE_STAT_PEND m) (d.engPend x.log)).rd (R.PE_STAT m)
    | none => d.rd (R.PE_STAT m)

end Sys2Proof.Machine
end

