-- ==== Sys2Proof/Machine/Tlk.lean ====
section
/-! DEFINITION. The Trellis links seen from the device (R249-R253, R267, R270-R281, R284): discovery, acknowledgements,
delays, losses, lanes and tile register accesses. A tile is numbered 4n + p (R10). -/

namespace Sys2Proof.Machine

/-- The tile at position p of link n. -/
def tileNo (n p : Nat) : Nat := 4 * n + p

/-- Link n runs: its group powered and EN set. -/
def Dev.linkUp (d : Dev) (n : Nat) : Bool := d.lgOn n && d.flag (F.TLK_CTL_EN n)

def Dev.upLp (d : Dev) (n p : Nat) (f : LPos → LPos) : Dev := d.setLp n p (f (d.lp n p))

def Dev.upLk (d : Dev) (n : Nat) (f : Link → Link) : Dev := d.setLk n (f (d.lk n))

/-! ### Losing positions (R272, R273) -/

/-- Position q of link n is lost, whatever its state. -/
def Dev.posGone (d : Dev) (n q : Nat) : Dev :=
  let t := tileNo n q
  let d1 := ((d.put (F.TLK_POS_STATE n q) 4).setAbit (R.TLK_ATTACHED 0) t false).setBit (R.TLK_TPWR_EN (t / 32)) (t % 32) false
  let d2 := (d1.setAbit (R.MIR_LEASE 0) t false).setAbit (R.MIR_ELIG 0) t false
  (((d2.linkForget n q).schTileLost t).causeOff 10 6 t).raise 10 1 t 2

/-- Position p and every position beyond it are lost. -/
def Dev.posLost (d : Dev) (n p : Nat) : Dev := forN 4 (fun x q => if p ≤ q then x.posGone n q else x) d

/-! ### Delays (R253) -/

def Dev.echon (d : Dev) (n : Nat) : Nat := max 1 (d.get (F.TLK_CFG_ECHON n))

/-- One ECHO_REQ to position p. -/
def Dev.echoReq (d : Dev) (n p : Nat) : Dev :=
  let x := d.lp n p
  (d.setLp n p { x with etag := (x.etag + 1) % 65536 }).sendUn n p 6 [x.etag]

/-- ECHON echoes in a row. -/
def Dev.echoBurst (d : Dev) (n p : Nat) : Dev := repeatN (d.echon n) (fun x => x.echoReq n p) (d.upLp n p (fun x => { x with left := d.echon n }))

/-- After a swap on hop p: the echoes of the positions p and beyond (R280). -/
def Dev.echoBeyond (d : Dev) (n p : Nat) : Dev := forN 4 (fun x q => if decide (p ≤ q) && x.reached n q then x.echoBurst n q else x) d

/-- TIMESET to position p. -/
def Dev.sendTimeset (d : Dev) (n p : Nat) (stepc : Bool) (dly : Nat) : Dev :=
  (d.put (F.TLK_DLY_DLY n p) dly).sendRel n p 5 [0, 0, b2n stepc * 2 ^ 31 + dly % 2 ^ 24] 0 0 0

/-- The mean of D = (RTT - TT - RES) / 2 over some echoes, rounded half up. -/
def meanDelay (l : List Int) : Nat :=
  let n : Int := l.length
  (Int.fdiv (l.foldl (· + ·) 0 + n) (2 * n)).toNat

/-! ### Discovery (R270) -/

/-- DISCOVER to position p, after CTL RESET where the position had been lost (R273); WSEQ begins anew. -/
def Dev.discover (d : Dev) (n p : Nat) : Dev :=
  let d0 := forN 8 (fun x j => let ch := 8 * tileNo n p + j; x.setCc ch { x.cc ch with wseq := none }) d
  let d1 := if (d0.lp n p).rst then d0.sendUn n p 12 [1 + 2 ^ 8] else d0
  (d1.upLp n p (fun x => { x with stage := 1, rst := false })).sendUn n p 7 [2 ^ 16 + d1.get F.TLK_GCFG_SIDE * 2 ^ 8 + p]

/-- A partner is seen for position p: lock on hop 0 up, or DSPRES of the tile before it. -/
def Dev.partner (d : Dev) (n p : Nat) : Bool :=
  if p = 0 then d.flag (F.TLK_STAT_LOCK n) else d.reached n (p - 1) && d.flag (F.TLK_POS_DSPRES n (p - 1)) && decide (5 ≤ (d.lp n (p - 1)).stage)

/-- Discovery of position p, EMPTY or LOST, starts where a partner is seen. -/
def Dev.tryDiscover (d : Dev) (n p : Nat) : Dev :=
  let st := d.pstate n p
  if p < 4 && d.linkUp n && (st == 0 || st == 4) && (d.lp n p).stage == 0 && d.partner n p then d.discover n p else d

/-- Discovery by itself (TLKn_CTL.AUTODISC). -/
def Dev.autoDiscover (d : Dev) (n p : Nat) : Dev := if d.flag (F.TLK_CTL_AUTODISC n) then d.tryDiscover n p else d

/-- PWR to position p. -/
def Dev.sendPwr (d : Dev) (n p : Nat) (on : Bool) : Dev := d.sendRel n p 11 [b2n on, 2 ^ 32 - 1 - b2n on] 0 0 0

/-- The mirrored drive registers of tile t (R286): BOOST_CTL, BOOST_SET and the outputs, with HSCL and BPOL. -/
def boostCtlWord (en : Bool) : Nat := (0xFFFF - b2n en) * 2 ^ 16 + b2n en

def Dev.boostCtl (d : Dev) (t : Nat) : Nat := boostCtlWord (d.bit (R.CDT_BOOST_EN (t / 32)) (t % 32))

def Dev.outWord (d : Dev) (ch : Nat) : Nat := d.get (F.CDT_CH_STAT_HSCL ch) * 2 ^ 8 + d.get (F.CDT_CH_CFG_BPOL ch)

/-- TDRV_OUTn of a channel is sent, and the hold scale with it (R286, R313). -/
def Dev.sendOut (d : Dev) (ch : Nat) : Dev :=
  let t := ch / 8
  if d.reached (t / 4) (t % 4) then
    (d.sendRegwr t (0x110 + ch % 8) (d.outWord ch)).setCc ch { d.cc ch with sentH := d.get (F.CDT_CH_STAT_HSCL ch), sentT := some d.now }
  else d

/-- Every mirrored register of tile t is written (R286). The copy of TDRV_INH.REARM is 0, what a W1P field reads; its write
clears no latch (DESIGN CHOICE, notes/assumptions/110.md). -/
def Dev.sendMirrored (d : Dev) (t : Nat) : Dev :=
  let d1 := ((d.sendRegwr t 0x100 (d.boostCtl t)).sendRegwr t 0x101 (d.rd (R.CDT_BSET t)).toNat).sendRegwr t 0x104 0
  forN 8 (fun x j => x.sendOut (8 * t + j)) d1

/-- Step 4 and 5 of R270: the profiles, CTL DSOPEN, and PWR where TPWR_EN asks for it. -/
def Dev.bringUp (d : Dev) (n p : Nat) : Dev :=
  let d1 := forN 256 (fun x f => x.sendPrf n p f) ((d.put (F.TLK_POS_STATE n p) 2).upLp n p (fun x => { x with stage := 4 }))
  let d2 := ((d1.sendMirrored (tileNo n p)).sendElig (tileNo n p)).sendRel n p 12 [2] 0 0 0
  if d2.tpwr (tileNo n p) then d2.sendPwr n p true else d2

/-- IDENT_TIMEOUT (R270): no IDENT within 10 µs. -/
def execIdentTimeout (n : Fin 16) (p : Fin 4) (s : State) : Host.Outcome State Fault Refusal :=
  s.run (fun d => if (d.lp n p).stage = 1 then (d.put (F.TLK_POS_STATE n p) 0).upLp n p (fun x => { x with stage := 0 }) else d)

/-- DISCOVER_RETRY (R270): the 1 ms period. -/
def execDiscoverRetry (n : Fin 16) (p : Fin 4) (s : State) : Host.Outcome State Fault Refusal := s.run (fun d => d.autoDiscover n p)

/-- HOP0_LOCK_GAINED (R270, R272). -/
def execHop0LockGained (n : Fin 16) (s : State) : Host.Outcome State Fault Refusal :=
  s.run (fun d => if d.lgOn n then (d.put (F.TLK_STAT_LOCK n) 1).autoDiscover n 0 else d)

/-- IDENT (R270): TYPE, the check, and the echoes of step 3. -/
def execIdent (n : Fin 16) (p : Fin 4) (ok : Bool) (_vendor type _rev proto nout : Nat) (_iv _two : Bool) (slots _serial _fwdlat : Nat)
    (s : State) : Host.Outcome State Fault Refusal :=
  s.run (fun d =>
    if !ok then d.incSat (F.TLK_CNT0_DISC n)
    else if (d.lp n p).stage ≠ 1 || !d.linkUp n then d
    else
      let d1 := d.put (F.TLK_POS_TYPE n p) type
      if proto = 1 && nout == 8 && decide (16 ≤ slots) then
        let d2 := (d1.put (F.TLK_POS_STATE n p) 1).upLp n p (fun x => { x with stage := 2, echo := [] })
        let d3 := if d2.flag (F.TLK_LANE_MIRROR n) then d2.sendRel n p 12 [6 + 2 ^ 8] 0 0 0 else d2
        d3.echoBurst n p
      else ((d1.put (F.TLK_POS_STATE n p) 5).upLp n p (fun x => { x with stage := 0 })).raise 10 3 (tileNo n p) 2)

/-- ECHO_RSP (R253): the delay, and TIMESET when it changes or when step 3 is complete. -/
def execEchoRsp (n : Fin 16) (p : Fin 4) (ok : Bool) (_etag tt res rtt : Nat) (s : State) : Host.Outcome State Fault Refusal :=
  s.run (fun d =>
    if !ok then d.incSat (F.TLK_CNT0_DISC n)
    else if !d.reached n p || !d.linkUp n then d
    else
      let e := d.echon n
      let x := d.lp n p
      let all := x.echo ++ [(rtt : Int) - tt - res]
      let l := all.drop (all.length - e)
      let d1 := d.setLp n p { x with echo := l, left := x.left - 1 }
      if l.length < e then d1
      else
        let m := meanDelay l % 2 ^ 24
        if x.stage = 2 then (d1.upLp n p (fun y => { y with stage := 3 })).sendTimeset n p true m
        else if m = d1.get (F.TLK_DLY_DLY n p) then d1 else d1.sendTimeset n p false m)

/-- TLKn_LANE.SPDN and SPUP of hop p. -/
def spdn (n p : Nat) : Fld := ⟨R.TLK_LANE n, 4 * p + 2, 4 * p + 2⟩
def spup (n p : Nat) : Fld := ⟨R.TLK_LANE n, 4 * p + 3, 4 * p + 3⟩

/-- What a STATUS frame says of the link and of discovery (R244, R253, R257, R270, R278). -/
def Dev.linkStatus (d : Dev) (n p w1 w2 : Nat) : Dev :=
  let t := tileNo n p
  let terr := toS 16 w1
  let inTol := decide (terr.natAbs ≤ 76)
  let was := d.flag (F.TLK_POS_DSPRES n p)
  let d1 := ((d.puti (F.TLK_DLY_TERR n p) (clampI (-128) 127 terr)).putB (F.TLK_POS_DSPRES n p) (bitOf w1 16)).addSat (F.TLK_CNT1_WDROP n) (bits w2 23 16)
  let d2 := (d1.putB (spdn n p) (bitOf w1 18)).upLp n p (fun x => { x with sokD := bitOf w1 20, cvD := x.cvD + bits w2 7 0 })
  let d3 := if p < 3 then (d2.putB (spup n (p + 1)) (bitOf w1 19)).upLp n (p + 1) (fun x => { x with sokU := bitOf w1 21, cvU := x.cvU + bits w2 15 8 })
    else d2
  let d4 := if 2 ≤ d3.pstate n p then d3.cause 10 6 t 2 (!inTol) else d3
  let d5 := if d4.pstate n p = 1 && (d4.lp n p).stage == 3 && inTol then d4.bringUp n p else d4
  if bitOf w1 16 && !was then d5.autoDiscover n (p + 1) else d5

/-! ### Acknowledgements (R249-R252) -/

/-- A position that answers NOTREADY is examined again (R251): brought up anew. -/
def Dev.reexamine (d : Dev) (n p : Nat) : Dev :=
  let t := tileNo n p
  let d1 := ((d.put (F.TLK_POS_STATE n p) 0).setAbit (R.TLK_ATTACHED 0) t false).linkForget n p
  (d1.schTileLost t).tryDiscover n p

/-- A TIL access of link n completes (R284). -/
def Dev.tilDone (d : Dev) (n result : Nat) : Dev :=
  let d1 := (d.put (F.TIL_STAT_BUSY n) 0).put (F.TIL_STAT_RESULT n) result
  if d1.flag (F.TIL_ADDR_AINC n) then d1.put (F.TIL_ADDR_ADDR n) ((d1.get (F.TIL_ADDR_ADDR n) + 1) % 65536) else d1

/-- The occurrence of a COMMIT or of its handle is handled with outcome oc: the pulses of tile t have it now, and the others
of its chain are cancelled at their tiles unless frozen, as R193 states it (R251). -/
def Dev.handledAs (d : Dev) (t uid oc : Nat) : Dev :=
  let d1 := d.finish uid oc (fun q => tileOfCh q.ch == t)
  match d1.occ? uid with
  | some r => if d.occFrozen r then d1 else (d1.cancelPulses r oc (fun _ => true)).markHandled r
  | none => d1

/-- The profile words a COMMIT lacks are sent, and the COMMIT again, once (R251). -/
def Dev.badPrf (d : Dev) (n p : Nat) (f : DFrame) : Dev :=
  if (d.lp n p).again.contains f.uid then d.handledAs (tileNo n p) f.uid 7
  else
    let d1 := d.upLp n p (fun x => { x with again := x.again ++ [f.uid] })
    ((commitPrfs (f.words.drop 2)).eraseDups.foldl (fun (x : Dev) q => x.sendPrf n p q) d1).sendRel n p 1 f.words f.key f.uid f.pm

/-- A COMMIT came too late at its tile: the occurrence is late under R186, by its start as sent. -/
def Dev.commitLate (d : Dev) (t uid : Nat) : Dev :=
  match d.occ? uid with
  | none => d
  | some o => if o.force then d.handledAs t uid 2
    else ((d.lateMark o false (8 * (d.now + 100 : Nat) - o.head.elim 0 (fun h => h.sentS))).handledAs t uid 2).raise 8 0 o.trk 1

/-- The result of a COMMIT (R251, R259, R267). -/
def Dev.ackCommit (d : Dev) (n p : Nat) (f : DFrame) (result : Nat) : Dev :=
  let t := tileNo n p
  match result with
  | 1 => (d.handledAs t f.uid 7).raise 10 9 t 2
  | 2 => (d.handledAs t f.uid 9).raise 10 8 t 1
  | 3 => d.handledAs t f.uid 7
  | 4 => d.badPrf n p f
  | 5 => d.commitLate t f.uid
  | _ => d

/-- The result of a REGWR that TIL sent. -/
def Dev.ackTil (d : Dev) (n p : Nat) (f : DFrame) (result : Nat) : Dev :=
  let l := d.lk n
  if f.pm = 1 && d.flag (F.TIL_STAT_BUSY n) && l.tilWr && l.tilPos == p && decide (f.key = l.tilId) then d.tilDone n result else d

/-- The position is ATTACHED (R270). -/
def Dev.attach (d : Dev) (n p : Nat) : Dev :=
  ((d.put (F.TLK_POS_STATE n p) 3).setAbit (R.TLK_ATTACHED 0) (tileNo n p) true).upLp n p (fun x => { x with stage := 6 })

/-- The effect of an acknowledged frame with result 0. -/
def Dev.ackOk (d : Dev) (n p : Nat) (f : DFrame) : Dev :=
  if f.typ = 3 then d.cancelDone f.uid f.pm 0
  else if f.typ = 10 then
    let d1 := d.upLp n p (fun x => { x with prfs := x.prfs.erase (f.words.getD 0 0 % 256) })
    d1.pump n p (d1.lp n p).wait.length
  else if f.typ = 11 then (if f.words.getD 0 0 % 2 = 1 && d.tpwr (tileNo n p) && decide (2 ≤ d.pstate n p) then d.attach n p else d)
  else if f.typ = 12 && f.words.getD 0 0 % 256 == 2 then (d.upLp n p (fun x => { x with stage := max x.stage 5 })).tryDiscover n (p + 1)
  else if f.typ = 8 then
    let d1 := if f.words.getD 0 0 = 0x10 then d.setAbit (R.MIR_ELIG 0) (tileNo n p) (bitOf (f.words.getD 1 0) 0) else d
    d1.ackTil n p f 0
  else d

/-- An ACK of frame f (R251, R267): latencies in eighths of a tick. The frame that follows BADCORK counts in TLKn_CNT0.RETX and
not towards RETRY (DESIGN CHOICE, notes/assumptions/116.md). -/
def Dev.ackFrame (d : Dev) (n p : Nat) (f : DFrame) (result pmask arr : Nat) : Dev :=
  let t := tileNo n p
  let lat := (nearest 32 d.tLink arr - 8 * f.issued).toNat
  let d0 := if f.typ = 1 then d.putMax (F.TLK_LAT_CMAX n) (lat / 16)
    else if f.typ = 2 || f.typ = 3 then d.putMax (F.TLK_LAT_AMAX n) (lat * 5 / 8) else d
  let d1 := if f.typ = 1 && decide (3200 < lat) then d0.raise 10 4 t 1 else d0
  if result = 0 then d1.ackOk n p f
  else if f.typ = 1 && result != 7 then d1.ackCommit n p f result
  else if result = 3 then (d1.ackTil n p f 3).reexamine n p
  else if result = 6 then (if f.typ = 3 then d1.cancelDone f.uid f.pm f.pm else d1).handledAs t f.uid 8
  else if result = 7 then (d1.incSat (F.TLK_CNT1_AMLATE n)).raise 10 5 t 1
  else if result = 8 then (d1.incSat (F.TLK_CNT1_AMLATE n)).cancelDone f.uid f.pm pmask
  else if result = 10 then (d1.incSat (F.TLK_CNT0_RETX n)).sendRel n p f.typ f.words f.key f.uid f.pm
  else if result = 11 then d1.ackTil n p f 11
  else d1

/-- ACK (R249, R251): the frame is no longer outstanding, and waiting frames take its place. -/
def execAck (n : Fin 16) (p : Fin 4) (ok : Bool) (seq result pmask arr : Nat) (s : State) : Host.Outcome State Fault Refusal :=
  s.run (fun d =>
    if !ok then d.incSat (F.TLK_CNT0_DISC n)
    else
      let x := d.lp n p
      match x.unack.find? (fun f => f.seq == seq) with
      | none => d
      | some f =>
        let d1 := (d.setLp n p { x with unack := x.unack.filter (fun g => g.seq != seq) }).txDrop n (fun g => g.pos == p.val && g.seq == seq)
        let d2 := d1.ackFrame n p f result pmask arr
        d2.pump n p (d2.lp n p).wait.length)

/-- ACK_TIMEOUT (R249, R252). -/
def execAckTimeout (n : Fin 16) (p : Fin 4) (seq : Nat) (s : State) : Host.Outcome State Fault Refusal :=
  s.run (fun d =>
    let x := d.lp n p
    match x.unack.find? (fun f => f.seq == seq) with
    | none => d
    | some f =>
      if d.get (F.TLK_CFG_RETRY n) ≤ f.retr then (d.raise 10 2 (tileNo n p) 2).posLost n p
      else
        let g := { f with retr := f.retr + 1 }
        ((d.setLp n p { x with unack := x.unack.map (fun h => if h.seq == seq then g else h) }).incSat (F.TLK_CNT0_RETX n)).txAdd n g)

/-! ### Periods and losses -/

/-- TIME_PERIOD (R243, R248): a TIME frame to every tile; with BC set, POS is 0 (DESIGN CHOICE, notes/assumptions/116.md). -/
def execTimePeriod (n : Fin 16) (s : State) : Host.Outcome State Fault Refusal :=
  s.run (fun d => if d.linkUp n then d.sendUn n 0 4 [0, 0] else d)

/-- ECHO_PERIOD (R253). -/
def execEchoPeriod (n : Fin 16) (p : Fin 4) (s : State) : Host.Outcome State Fault Refusal :=
  s.run (fun d => if d.linkUp n && d.reached n p then d.echoReq n p else d)

/-- LOCK_LOST (R272): no lock on hop 0 for LOCKTO. -/
def execLockLost (n : Fin 16) (s : State) : Host.Outcome State Fault Refusal :=
  s.run (fun d => if d.flag (F.TLK_STAT_LOCK n) then ((d.put (F.TLK_STAT_LOCK n) 0).raise 10 0 (tileNo n 0) 2).posLost n 0 else d)

/-- STATUS_TIMEOUT (R272): no STATUS for three TIME periods. -/
def execStatusTimeout (n : Fin 16) (p : Fin 4) (s : State) : Host.Outcome State Fault Refusal :=
  s.run (fun d => if d.reached n p then d.posLost n p else d)

/-- TLKn_CTL.REDISC (R270). -/
def Dev.redisc (d : Dev) (n : Nat) : Dev :=
  let d1 := d.posLost n 0
  if d1.linkUp n then d1.discover n 0 else d1

/-- REDISC (R270). -/
def execRedisc (req : Fin 10) (n : Fin 16) (s : State) : Host.Outcome State Fault Refusal :=
  s.run (fun d => if d.lgOn n then d.redisc n else d.pwrOffAccess req true)

/-- A write of TLKn_CTL: discovery of position 0 starts when EN or AUTODISC allows it. -/
def Dev.tlkCtlWrite (d : Dev) (n data : Nat) : Dev :=
  let d1 := d.wr (R.TLK_CTL n) (BitVec.ofNat 32 data &&& 3#32)
  if bitOf data 2 then d1.redisc n else d1.autoDiscover n 0

/-- A taken cork of TLK_TPWR_ENm (R270, R275). -/
def Dev.tpwrWrite (d : Dev) (m value : Nat) : Dev :=
  forN 32 (fun x b =>
    let t := 32 * m + b
    let was := x.tpwr t
    let on := bitOf value b
    let y := x.setBit (R.TLK_TPWR_EN m) b on
    let n := t / 4
    let p := t % 4
    if on == was || !y.linkUp n || decide (y.pstate n p < 2) || decide (3 < y.pstate n p) then y
    else if on then y.sendPwr n p true
    else (((y.sendPwr n p false).put (F.TLK_POS_STATE n p) 2).setAbit (R.TLK_ATTACHED 0) t false).schTileLost t) d

/-- TLK_TPWR_EN (R63, R275): the value word and its complement have come. -/
def execTlkTpwrEn (_req : Fin 10) (m : Fin 2) (value : Nat) (s : State) : Host.Outcome State Fault Refusal := s.run (fun d => d.tpwrWrite m value)

/-! ### Lanes (R276-R281) -/

/-- The spare of a hop direction is trained, as its receiver reports. -/
def Dev.sok (d : Dev) (n p : Nat) (up : Bool) : Bool := if up then (if p = 0 then (d.lk n).sok0U else (d.lp n p).sokU) else (d.lp n p).sokD

def Dev.setSok (d : Dev) (n p : Nat) (up b : Bool) : Dev :=
  if up && p == 0 then d.upLk n (fun l => { l with sok0U := b }) else d.upLp n p (fun x => if up then { x with sokU := b } else { x with sokD := b })

/-- A hop direction runs without a spare (R281): LANE_FAIL arises for each direction, and the hop's tile names it. -/
def Dev.laneFail (d : Dev) (n p : Nat) (up : Bool) : Dev :=
  let t := tileNo n p
  let x := d.lp n p
  if (if up then x.failU else x.failD) then d
  else
    let d1 := d.setLp n p (if up then { x with failU := true } else { x with failD := true })
    if d1.hasCause 10 7 t then d1.arise 10 7 t 1 else d1.causeOn 10 7 t 1

/-- A hop direction has its spare back; the cause lasts while the other direction has none. -/
def Dev.laneOk (d : Dev) (n p : Nat) (up : Bool) : Dev :=
  let d1 := d.upLp n p (fun x => if up then { x with failU := false } else { x with failD := false })
  if (d1.lp n p).failD || (d1.lp n p).failU then d1 else d1.causeOff 10 7 (tileNo n p)

/-- A lane swap is logged by the Cellarmaster (R490, R503, R504): KIND 4 of TLK. The KIND table gives lanes no unit number, so
the data words are free values (notes/assumptions/116.md). -/
def Dev.laneLog (d : Dev) : Dev :=
  let a := d.drawFree
  let b := a.2.drawFree
  let c := b.2.drawFree
  c.2.log 10 4 0 0 [a.1.toNat, b.1.toNat, c.1.toNat]

/-- The device swaps hop 0 down: LSWAP goes between two frames (R277). -/
def Dev.swapOwn (d : Dev) (n : Nat) : Dev :=
  let d1 := (d.put (spdn n 0) (1 - d.get (spdn n 0))).lanesNow n
  let l := d1.lk n
  let y := { l with swaps := l.swaps + 1, due := l.due + 1 }
  let c := 3 * d1.fab
  d1.setLk n (if (l.partOf c).chars.isEmpty then (y.swapDue c).begin d1.fabOff c else y)

/-- A planned swap of a hop direction (R277, R278, R281): the device sends LSWAP itself on hop 0 down, and commands a tile
elsewhere. Its echoes follow the swap at the receiver (LSWAP). -/
def Dev.planSwap (d : Dev) (n p : Nat) (up : Bool) : Dev :=
  if !d.linkUp n then d
  else if !d.sok n p up then d.laneFail n p up
  else
    let d1 := (d.incSat (F.TLK_CNT1_SWAPS n)).laneLog
    if up then d1.sendRel n p 12 [5] 0 0 0
    else if p = 0 then d1.swapOwn n
    else d1.sendRel n (p - 1) 12 [4] 0 0 0

/-- SWDN (R278). -/
def execSwdn (req : Fin 10) (n : Fin 16) (p : Fin 4) (s : State) : Host.Outcome State Fault Refusal :=
  s.run (fun d => if d.lgOn n then d.planSwap n p false else d.pwrOffAccess req true)

/-- SWUP (R278). -/
def execSwup (req : Fin 10) (n : Fin 16) (p : Fin 4) (s : State) : Host.Outcome State Fault Refusal :=
  s.run (fun d => if d.lgOn n then d.planSwap n p true else d.pwrOffAccess req true)

/-- LANE_FAIL (R281): a former working lane does not train within 1 ms. -/
def execLaneFail (n : Fin 16) (p : Fin 4) (up : Bool) (s : State) : Host.Outcome State Fault Refusal :=
  s.run (fun d => (d.setSok n p up false).laneFail n p up)

def Dev.tlkCntClr (d : Dev) (mask : Nat) : Dev :=
  d.clrMask 16 mask (fun x n => if x.lgOn n then ((x.wr (R.TLK_CNT0 n) 0).wr (R.TLK_CNT1 n) 0).wr (R.TLK_LAT n) 0 else x)

/-- TLK_CNT_CLR (R7). -/
def execTlkCntClr (_req : Fin 10) (mask : Nat) (s : State) : Host.Outcome State Fault Refusal := s.run (fun d => d.tlkCntClr mask)

/-! ### Tile registers through TIL (R284) -/

/-- An access starts: RDY clears; it completes at once where the position is not addressed. -/
def Dev.tilStart (d : Dev) (n : Nat) (wr : Bool) (go : Dev → Nat → Dev) : Dev :=
  let p := d.get (F.TIL_ADDR_POS n)
  let d1 := d.put (F.TIL_STAT_RDY n) 0
  if !d1.reached n p || !d1.linkUp n then d1.tilDone n 0xFE
  else go ((d1.put (F.TIL_STAT_BUSY n) 1).upLk n
    (fun l => { l with tilWr := wr, tilPos := p, tilId := l.tilId + 1, tilAddr := d1.get (F.TIL_ADDR_ADDR n) })) p

/-- A write of TILn_DATA. -/
def Dev.tilWrite (d : Dev) (n data : Nat) : Dev :=
  if d.flag (F.TIL_STAT_BUSY n) then d
  else d.tilStart n true (fun x p => x.sendRel n p 8 [x.get (F.TIL_ADDR_ADDR n), data % 2 ^ 32] (x.lk n).tilId 0 1)

/-- A read of TILn_DATA. -/
def Dev.tilRead (d : Dev) (req n : Nat) : Dev :=
  let d1 := d.ret req (d.rd (R.TIL_DATA n)).toNat
  if d.flag (F.TIL_STAT_BUSY n) then d1 else d1.tilStart n false (fun x p => x.sendUn n p 9 [x.get (F.TIL_ADDR_ADDR n)])

/-- A write of TILn_ADDR. -/
def Dev.tilAddrWrite (d : Dev) (n data : Nat) : Dev :=
  if d.flag (F.TIL_STAT_BUSY n) then d else (d.wr (R.TIL_ADDR n) (BitVec.ofNat 32 data &&& 0x0301FFFF#32)).put (F.TIL_STAT_RDY n) 0

/-- TIL_DATA_READ (R284). -/
def execTilDataRead (req : Fin 10) (n : Fin 16) (s : State) : Host.Outcome State Fault Refusal :=
  s.run (fun d => if d.lgOn n then d.tilRead req n else d.pwrOffAccess req false)

/-- TIL_DATA_WRITE (R284). -/
def execTilDataWrite (req : Fin 10) (n : Fin 16) (data : Nat) (s : State) : Host.Outcome State Fault Refusal :=
  s.run (fun d => if d.lgOn n then d.tilWrite n data else d.pwrOffAccess req true)

/-- TIL_TIMEOUT (R284): no answer for 20 µs. -/
def execTilTimeout (n : Fin 16) (s : State) : Host.Outcome State Fault Refusal :=
  s.run (fun d => if d.flag (F.TIL_STAT_BUSY n) then d.tilDone n 0xFF else d)

/-- REGDATA (R284): completes the read in progress, which names its ADDR. -/
def execRegdata (n : Fin 16) (p : Fin 4) (ok : Bool) (result addr data : Nat) (s : State) : Host.Outcome State Fault Refusal :=
  s.run (fun d =>
    let l := d.lk n
    if !ok then d.incSat (F.TLK_CNT0_DISC n)
    else if d.flag (F.TIL_STAT_BUSY n) && !l.tilWr && l.tilPos == p.val && l.tilAddr == addr % 65536 then
      let d1 := d.tilDone n result
      if result = 0 then (d1.wr (R.TIL_DATA n) (BitVec.ofNat 32 data)).put (F.TIL_STAT_RDY n) 1 else d1
    else d)

end Sys2Proof.Machine
end

