-- ==== Sys2Proof/Machine/Cdt.lean ====
section
/-! DEFINITION. CDT (R286, R300-R314, R317, R323-R326): closing detection and compensation, the coil thermal model, load
causes, boost enables, re-arm, forcing, and what DONE and STATUS frames tell the device (R264, R328). -/

namespace Sys2Proof.Machine

/-! ### The thermal model (R309-R313) -/

def sat16 (x : Int) : Int := clampI (-32768) 32767 x

/-- Ambient temperature of a channel, 1/64 °C; CDT_TAMB while no STATUS of the tile has come (notes/assumptions/34.md). -/
def Dev.ambient (d : Dev) (ch : Nat) : Int :=
  let t := ch / 8
  let amb := toS 16 (d.get F.CDT_TAMB_TAMB)
  if d.flag (F.CDT_CH_CFG_ASRC ch) then ((d.lp (t / 4) (t % 4)).temp.elim amb (fun x => 64 * ((x : Int) - 64))) else amb

/-- HSCL and BLK from T1 (R312), their faults, and the write of HSCL to the tile (R313). -/
def Dev.thermJudge (d : Dev) (ch : Nat) : Dev :=
  let t1 := toS 16 (d.get (F.CDT_CH_STAT_T1 ch))
  let tder := toS 16 (d.get (F.CDT_CH_TH2_TDER ch))
  let tblk := toS 16 (d.get (F.CDT_CH_TH2_TBLK ch))
  let hmin := d.get (F.CDT_TH3_HMIN ch)
  let h : Nat := if t1 ≤ tder then 255 else (max (hmin : Int) (255 - Int.fdiv ((t1 - tder) * d.get (F.CDT_TH3_DSLOPE ch)) 64)).toNat
  let blk := if tblk ≤ t1 then true else if t1 < tblk - d.get (F.CDT_TH3_THYS ch) then false else d.flag (F.CDT_CH_STAT_BLK ch)
  let d1 := ((d.put (F.CDT_CH_STAT_HSCL ch) h).putB (F.CDT_CH_STAT_DER ch) (decide (h < 255))).putB (F.CDT_CH_STAT_BLK ch) blk
  let d2 := (d1.cause 12 2 ch 1 (decide (h < 255))).cause 12 3 ch 2 blk
  let c := d2.cc ch
  let due := h != c.sentH && (decide (4 ≤ max h c.sentH - min h c.sentH) || h == 255 || h == hmin)
  if due && c.sentT.elim true (fun s => decide (s + 200000 ≤ d2.now)) then d2.sendOut ch else d2

/-- Heat of a pulse (R309). -/
def Dev.thermHeat (d : Dev) (ch i2t : Nat) : Dev :=
  if !d.flag (F.CDT_CH_CFG_TEN ch) then d
  else
    let t1 := toS 16 (d.get (F.CDT_CH_STAT_T1 ch))
    let rc : Int := d.get (F.CDT_CH_TH0_RCOIL ch)
    let reff := rc + Int.fdiv (rc * d.get (F.CDT_CH_TH0_TCR ch) * (t1 - 1600)) (2 ^ 20)
    let n := sat16 (t1 + rnd ((i2t : Int) * reff * d.get (F.CDT_CH_TH1_H1 ch)) (2 ^ 32))
    (d.puti (F.CDT_CH_STAT_T1 ch) n).thermJudge ch

/-- One millisecond of the model of a channel (R310). -/
def Dev.thermStep (d : Dev) (ch : Nat) : Dev :=
  if !d.flag (F.CDT_CH_CFG_TEN ch) then d
  else
    let t1 := toS 16 (d.get (F.CDT_CH_STAT_T1 ch))
    let t2 := toS 16 (d.get (F.CDT_T2_T2 ch))
    let q := Int.fdiv (t1 - t2) (2 ^ d.get (F.CDT_CH_TH1_A1 ch))
    let n2 := t2 + (Int.fdiv (q * d.get (F.CDT_CH_TH1_CR ch)) 256 - Int.fdiv (t2 - d.ambient ch) (2 ^ d.get (F.CDT_CH_TH1_A2 ch)))
    ((d.puti (F.CDT_CH_STAT_T1 ch) (sat16 (t1 - q))).puti (F.CDT_T2_T2 ch) (sat16 n2)).thermJudge ch

/-- THERMAL_STEP (R310). -/
def execThermalStep (s : State) : Host.Outcome State Fault Refusal := s.run (fun d => forN 512 (fun x ch => x.thermStep ch) d)

/-- NOKINK while NKRUN has reached NKMAX (R306). -/
def Dev.nkJudge (d : Dev) (ch : Nat) : Dev :=
  let on := decide (max 1 (d.get (F.CDT_CH_CFG_NKMAX ch)) ≤ d.get (F.CDT_T2_NKRUN ch))
  (d.putB (F.CDT_CH_STAT_NOKINK ch) on).cause 12 0 ch 1 on

/-- A write of CDT_CHn_CFG (R286, R306, R311). -/
def Dev.chCfgWrite (d : Dev) (ch data : Nat) : Dev :=
  let ten := d.flag (F.CDT_CH_CFG_TEN ch)
  let bpol := d.flag (F.CDT_CH_CFG_BPOL ch)
  let d1 := (d.wr (R.CDT_CH_CFG ch) (BitVec.ofNat 32 data &&& 0xFFFF0F31#32)).nkJudge ch
  let d2 := if bitOf data 31 && !ten then ((d1.puti (F.CDT_CH_STAT_T1 ch) (d1.ambient ch)).puti (F.CDT_T2_T2 ch) (d1.ambient ch)).thermJudge ch else d1
  if bitOf data 29 != bpol then d2.sendOut ch else d2

/-! ### Closing windows (R299-R306) -/

/-- The occurrence and pulse that hold a handle on link n and an output of tile t. -/
def Dev.byHandle (d : Dev) (t handle : Nat) (sel : OPulse → Bool) : Option (Occ × OPulse) :=
  match d.sch.occs.find? (fun o => o.handles.contains (t / 4, handle) && o.pulses.any (fun p => tileOfCh p.ch == t && sel p)) with
  | some o => (o.pulses.find? (fun p => tileOfCh p.ch == t && sel p)).map (fun p => (o, p))
  | none => none

/-- A pulse with CLEN has begun: once, and where its profile has a window (R299) that joins those of its channel. -/
def Dev.winOpen (d : Dev) (o : Occ) (p : OPulse) : Dev :=
  let c := d.cc p.ch
  if !p.clen || c.begun.contains (o.uid, p.pidx) then d
  else
    let w : CdtWin := ⟨o.handleOn (tileOfCh p.ch / 4), o.uid, p.pidx, p.start, o.trk, o.anchor, o.rev, p.cslot, p.ctgt, o.vint, p.tag, p.stop, [],
      false, false, none⟩
    d.setCc p.ch { c with wins := if p.cwin = 0 then c.wins else c.wins ++ [w]
                          begun := (o.uid, p.pidx) :: c.begun.filter (fun q => (d.occ? q.1).isSome) }

def Dev.upWins (d : Dev) (ch : Nat) (sel : CdtWin → Bool) (f : CdtWin → CdtWin) : Dev :=
  let c := d.cc ch
  d.setCc ch { c with wins := c.wins.map (fun w => if sel w then f w else w) }

/-- The pulses of a handle on channel ch that have started by link time ft have begun. -/
def Dev.winsUpTo (d : Dev) (handle ch : Nat) (ft : Int) : Dev :=
  match d.sch.occs.find? (fun o => o.handles.contains (tileOfCh ch / 4, handle)) with
  | some o => (o.pulses.filter (fun p => p.ch == ch && decide (p.start ≤ ft))).foldl (fun (x : Dev) p => x.winOpen o p) d
  | none => d

/-- A WAVE frame that starts at ft belongs to the last window of its handle that began by then (R299); a break in WSEQ, which
runs on over the windows of an output, marks every window of the channel that is not posted yet (R301; DESIGN CHOICE,
notes/assumptions/106.md). -/
def Dev.waveJoin (d : Dev) (ch handle wseq : Nat) (ft : Int) (v : List Int) : Dev :=
  let c := d.cc ch
  let gap := c.wseq.elim false (fun q => (q + 1) % 256 != wseq)
  let mine := (c.wins.reverse.find? (fun w => w.handle == handle && decide (w.start ≤ ft))).map (fun w => (w.uid, w.pidx))
  let d1 := d.setCc ch { c with wseq := some wseq, wins := if gap then c.wins.map (fun w => { w with gap := true }) else c.wins }
  d1.upWins ch (fun w => mine == some (w.uid, w.pidx)) (fun w =>
    { w with samples := w.samples ++ v, t0 := if w.begun then w.t0 else ft, begun := true })

/-- CRES_READY_CLEAR (R305): device time reaches the start of the next pulse with CLEN on the channel. -/
def execCresReadyClear (ch : Fin 512) (s : State) : Host.Outcome State Fault Refusal :=
  s.run (fun d =>
    let own := fun (p : OPulse) => p.ch == ch.val && p.clen && p.status.isNone
    let cand := d.sch.occs.flatMap (fun o => (o.pulses.filter (fun p => own p && !(d.cc ch).begun.contains (o.uid, p.pidx))).map (fun p => (o, p)))
    match cand with
    | [] => d
    | x :: r =>
      let e := r.foldl (fun a b => if b.2.start < a.2.start then b else a) x
      ((d.advance (fdiv e.2.start 8).toNat).put (F.CDT_CH_CRES_ST_READY ch) 0).winOpen e.1 e.2)

/-- The 12-bit samples of a WAVE frame, packed as in its payload (R244). -/
def packSamples (l : List Int) : List Nat :=
  let n := l.foldr (fun x a => ofS 12 x + 2 ^ 12 * a) 0
  (List.range 12).map (fun i => n / 2 ^ (32 * i) % 2 ^ 32)

/-- Voltage samples of a frame: every sample of KIND 0, every second of KIND 2 (current first). -/
def voltages (kind : Nat) (l : List Int) : List Int :=
  if kind = 0 then l else if kind = 2 then (l.zipIdx.filter (fun p => p.2 % 2 == 1)).map (fun p => p.1) else []

/-- WAVE (R299, R301, R398): samples join their window, and the capture stream of the selected channel. -/
def execWave (n : Fin 16) (p : Fin 4) (ok : Bool) (handle wseq kind : Nat) (out : Fin 8) (t0 : Nat) (samples : List Int) (s : State) :
    Host.Outcome State Fault Refusal :=
  s.run (fun d =>
    if !ok then d.incSat (F.TLK_CNT0_DISC n)
    else
      let t := tileNo n p
      let ch := 8 * t + out.val
      let ft := nearest 32 d.tLink t0
      let d1 := (d.winsUpTo handle ch ft).waveJoin ch handle (wseq % 256) ft (voltages kind samples)
      if d1.flag F.CDT_CAP_EN && d1.get F.CDT_CAP_CH == ch then
        let w := lt48 ft
        let n16 := if kind = 2 then 32 else 16
        (d1.stream 3 0 ([handle * 2 ^ 16 + wseq % 256 * 2 ^ 8 + kind % 4 * 2 ^ 3 + out.val, w.1, w.2, n16 * 2 ^ 16 + ch] ++ packSamples samples)).1
      else d1)

/-- Outcome of the detector on a list of samples (R300). -/
inductive Kink where
  | noKink
  | edge
  | found (k : Nat) (fr : Int)
deriving DecidableEq, Repr

/-- Fields of the detector. -/
structure DetCfg where
  l : Nat
  g : Nat
  cstart : Int
  cdly : Nat
  cmin : Int
  neg : Bool

/-- s[k] of R300: the sum of the l samples that end at k. -/
def movSum (v : List Int) (l k : Nat) : Int := ((v.drop (k + 1 - l)).take l).foldl (· + ·) 0

/-- The kink detector (R300). -/
def kink (c : DetCfg) (v : List Int) : Kink :=
  let n := v.length
  let s := fun k => movSum v c.l k
  match findN n (fun k => decide (c.l - 1 + c.g ≤ k) && decide (c.l * c.cstart ≤ s k)) with
  | none => .noKink
  | some k0 =>
    let ks := k0 + c.cdly
    let ke : Int := (n : Int) - 1 - c.g
    if ke - 2 < ks then .noKink
    else
      let dd := fun (k : Nat) => (s (k + c.g) - 2 * s k + s (k - c.g)) * (if c.neg then -1 else 1)
      let best := (List.range (ke.toNat - ks)).foldl (fun b i => if dd b < dd (ks + 1 + i) then ks + 1 + i else b) ks
      if dd best < c.l * c.cmin then .noKink
      else if best = ks || (best : Int) == ke then .edge
      else
        let a := dd (best - 1)
        let b := dd best
        let e := dd (best + 1)
        let q := a - 2 * b + e
        .found best (if 0 ≤ q then 0 else clampI (-400) 400 (rnd (800 * (a - e)) (2 * q)))

def Dev.detCfg (d : Dev) (ch : Nat) : DetCfg :=
  { l := 2 ^ d.get (F.CDT_CH_CFG_FSH ch), g := max 1 (d.get (F.CDT_CH_CFG_CGAP ch)), cstart := d.geti (F.CDT_CH_DET_CSTART ch)
    cdly := d.get (F.CDT_CH_DET_CDLY ch), cmin := d.get (F.CDT_CH_DET_CMIN ch), neg := d.flag (F.CDT_CH_CFG_CPOL ch) }

/-- Error of a found kink against the target (R302): ticks and angle, none without a prediction. -/
def Dev.closeErr (d : Dev) (w : CdtWin) (tc8 : Int) : Option (Int × Int) :=
  let g := d.geo w.trk
  let nxt := w.anchor + (if w.rev then -(Int.fmod (Int.fmod w.anchor g.len - w.ctgt) g.len) else Int.fmod ((w.ctgt : Int) - Int.fmod w.anchor g.len) g.len)
  match d.predict w.trk nxt with
  | .time t =>
    let e := rnd (tc8 - t) 8
    some (e, rnd (e * revAU * 256) (g.m * (d.pr w.trk).b))
  | _ => none

/-- Slot s of channel ch takes the term c; the register shows its sign in [31:24] (R7, R307). -/
def Dev.compPut (d : Dev) (ch s : Nat) (c : Int) : Dev := d.wr (R.CDT_CH_COMP ch s) (BitVec.ofNat 32 (ofS 32 c))

/-- COMP of slot s after error e, and whether the authority clamp binds (R307). -/
def Dev.compUpdate (d : Dev) (ch s : Nat) (e : Int) : Dev :=
  let step : Int := d.get (F.CDT_CH_CCFG_STEPMAX ch)
  let auth : Int := 4 * d.get (F.CDT_CH_CAUTH_AUTH ch)
  let dc := clampI (-step) step (rnd (e * d.get (F.CDT_CH_CCFG_GAIN ch)) 256)
  let raw := d.geti (F.CDT_CH_COMP_COMP ch s) - dc
  let c := clampI (-auth) auth raw
  let d1 := (d.compPut ch s c).put (F.CDT_CH_CRES_ST_LRND ch) 1
  if c = raw then d1 else ((d1.put (F.CDT_CH_CRES_ST_CSAT ch) 1).incSat (F.CDT_CNT_CSAT ch)).raise 12 1 ch 1

/-- The run of results without a kink (R306). -/
def Dev.nkRun (d : Dev) (ch res : Nat) : Dev :=
  (if res = 1 || res = 2 then d.incSat (F.CDT_T2_NKRUN ch) else d.put (F.CDT_T2_NKRUN ch) 0).nkJudge ch

/-- A result is posted (R304, R305, R472); a result without an error figure leaves ERR a free value. -/
def Dev.postResult (d : Dev) (ch : Nat) (w : CdtWin) (res : Nat) (tc8 : Option Int) (err : Option Int) : Dev :=
  let t := tc8.getD 0
  let d1 := (d.put64 (R.CDT_CH_CRES_LO ch) (R.CDT_CH_CRES_HI ch) (ofS 64 (fdiv t 8))).wr (R.CDT_CH_CRES_ST ch) 0
  let d2 := (((d1.put (F.CDT_CH_CRES_ST_READY ch) 1).put (F.CDT_CH_CRES_ST_RES ch) res).put (F.CDT_CH_CRES_ST_CSLOT ch) w.cslot).put (F.CDT_CH_CRES_ST_FRAC ch)
    (Int.fmod t 8).toNat
  let d3 := match err with
    | some e => d2.puti (F.CDT_CH_CRES_ST_ERR ch) (clampI (-32768) 32767 e)
    | none => let r := d2.drawFree; r.2.put (F.CDT_CH_CRES_ST_ERR ch) r.1.toNat
  let d4 := (d3.put (F.CDT_CH_CRES_EV_VINT ch) w.vint).put (F.CDT_CH_CRES_EV_TAG ch) w.tag
  let d5 := if res = 1 || res = 2 then d4.incSat (F.CDT_CNT_NOKINK ch) else if res = 6 then d4.incSat (F.CDT_CNT_OUTLIER ch) else d4
  (d5.nkRun ch res).icuArrive (512 + ch)

/-- The detector runs on a completed window (R300-R308). -/
def Dev.detect (d : Dev) (ch : Nat) (w : CdtWin) : Dev :=
  let cut := w.done.elim false (fun s => decide (1 < s))
  if w.gap then d.postResult ch w 3 none none
  else match kink (d.detCfg ch) w.samples with
    | .noKink => d.postResult ch w (if cut then 4 else 1) none none
    | .edge => d.postResult ch w (if cut then 4 else 2) none none
    | .found k fr =>
      let tc8 := w.t0 + 800 * k - 400 * (2 ^ d.get (F.CDT_CH_CFG_FSH ch) - 1 : Nat) + fr - 8 * d.get (F.CDT_CH_CCFG_CLAT ch)
      match d.closeErr w tc8 with
      | none => d.postResult ch w (if cut then 4 else 5) (some tc8) none
      | some (e, ae) =>
        let outl := decide (4 * d.get (F.CDT_CH_CAUTH_EOUT ch) < e.natAbs)
        let res := if cut then 4 else if outl then 6 else 0
        let d1 := d.postResult ch w res (some tc8) (some ae)
        if res = 0 && w.done == some 0 && d1.flag (F.CDT_CH_CFG_LRN ch) then d1.compUpdate ch w.cslot e else d1

/-- CLOSING_DETECT (R300): on the oldest window of the channel. -/
def execClosingDetect (ch : Fin 512) (s : State) : Host.Outcome State Fault Refusal :=
  s.run (fun d =>
    let c := d.cc ch
    match c.wins with
    | [] => d
    | w :: r => (d.setCc ch { c with wins := r }).detect ch w)

/-- A read of CDT_CHn_CRES_LO (R305). -/
def Dev.cresRead (d : Dev) (req ch : Nat) : Dev :=
  (d.latchRead req (R.CDT_CH_CRES_LO ch) [R.CDT_CH_CRES_HI ch, R.CDT_CH_CRES_ST ch, R.CDT_CH_CRES_EV ch]).put (F.CDT_CH_CRES_ST_SEEN ch) 1

/-- CRES_LO_READ (R305). -/
def execCresLoRead (req : Fin 10) (ch : Fin 512) (s : State) : Host.Outcome State Fault Refusal := s.run (fun d => d.cresRead req ch)

/-! ### What the tiles report -/

/-- Outcome of a DONE status (R264). -/
def doneOutcome (clamped : Bool) (status : Nat) : Nat :=
  match status with
  | 0 => if clamped then 1 else 0
  | 1 => 0
  | 2 | 3 | 4 | 5 => 14
  | 6 => 13
  | _ => 8

/-- DONE (R264, R301, R309). DESIGN CHOICE (notes/assumptions/98.md): every pulse of the chain of a clamped head that is
driven reports EXEC_CLAMPED. -/
def execDone (n : Fin 16) (p : Fin 4) (ok : Bool) (handle : Nat) (pidx out : Fin 8) (status _start _stop _ipk i2t : Nat) (s : State) :
    Host.Outcome State Fault Refusal :=
  s.run (fun d =>
    if !ok then d.incSat (F.TLK_CNT0_DISC n)
    else
      let t := tileNo n p
      let ch := 8 * t + out.val
      let d1 := match d.byHandle t handle (fun q => q.pidx == pidx.val) with
        | none => d
        | some x =>
          let y := (d.winOpen x.1 x.2).upWins x.2.ch (fun w => w.uid == x.1.uid && w.pidx == pidx.val) (fun w => { w with done := some status })
          let z := y.setOcc { x.1 with pulses := x.1.pulses.map (fun (q : OPulse) => if q.pidx == pidx.val && q.status.elim false (fun c => decide (100 ≤ c)) then { q with status := none } else q) }
          z.finish x.1.uid (doneOutcome x.1.clamped status) (fun q => q.pidx == pidx.val)
      d1.thermHeat ch i2t)

/-- The inhibit latch of tile t as the device knows it (R323, R324). -/
def Dev.inhStat (d : Dev) (t : Nat) (b : Bool) : Dev := (d.setAbit (R.CDT_INHSTAT 0) t b).cause 12 10 t 2 b

/-- Drive status of tile t (R328), temperature and lost WAVE frames (R301). -/
def Dev.driveStatus (d : Dev) (t w2 w3 : Nat) : Dev :=
  let d1 := (d.put ⟨R.CDT_BSTAT t, 31, 28⟩ (bits w3 31 28)).put ⟨R.CDT_BSTAT t, 7, 0⟩ (bits w3 23 16)
  let d2 := (d1.inhStat t (bitOf w3 26)).upLp (t / 4) (t % 4) (fun x => { x with temp := some (bits w2 31 24) })
  if bits w2 23 16 = 0 then d2
  else forN 8 (fun x j => x.setCc (8 * t + j) { x.cc (8 * t + j) with wins := (x.cc (8 * t + j)).wins.map (fun w => { w with gap := true }) }) d2

/-- STATUS (R244, R256, R270, R328). -/
def execStatus (n : Fin 16) (p : Fin 4) (ok : Bool) (w1 w2 w3 : Nat) (s : State) : Host.Outcome State Fault Refusal :=
  s.run (fun d =>
    if !ok then d.incSat (F.TLK_CNT0_DISC n)
    else if !d.reached n p || !d.linkUp n then d
    else (d.driveStatus (tileNo n p) w2 w3).linkStatus n p w1 w2)

/-- A drive cause a DIAG frame reports (R327), and the link causes (R272, R274). -/
def Dev.cdtDiag (d : Dev) (n p : Nat) (level : Bool) (out code : Nat) : Dev :=
  let t := tileNo n p
  let ch := 8 * t + out
  match code with
  | 0x01 => if level && decide (p < 3) then d.posLost n (p + 1) else d
  | 0x02 => if level then (d.put (F.TLK_POS_DSPRES n p) 1).autoDiscover n (p + 1) else d
  | 0x03 => d.cause 10 7 t 1 level
  | 0x10 => d.cause 12 8 t 1 level
  | 0x11 => d.cause 12 9 t 2 level
  | 0x18 => (d.putB (F.CDT_CH_STAT_OPEN_ON ch) level).cause 12 4 ch 2 level
  | 0x19 => (d.putB (F.CDT_CH_STAT_SHORT_ON ch) level).cause 12 5 ch 2 level
  | 0x1A => d.cause 12 12 ch 1 level
  | 0x1C => (d.putB (F.CDT_CH_STAT_OPEN_OFF ch) level).cause 12 6 ch 2 level
  | 0x1D =>
    let d1 := d.putB (F.CDT_CH_STAT_SHORTG ch) level
    d1.cause 12 7 ch 2 (level || d1.flag (F.CDT_CH_STAT_SHORTB ch))
  | 0x1E =>
    let d1 := d.putB (F.CDT_CH_STAT_SHORTB ch) level
    d1.cause 12 7 ch 2 (level || d1.flag (F.CDT_CH_STAT_SHORTG ch))
  | 0x20 => d.inhStat t level
  | _ => d

/-! ### Commands of CDT to the tiles -/

/-- A taken cork of CDT_BOOST_ENm (R286, R298). -/
def Dev.boostEnWrite (d : Dev) (m value : Nat) : Dev :=
  forN 32 (fun x b =>
    let t := 32 * m + b
    let on := bitOf value b
    if x.bit (R.CDT_BOOST_EN m) b == on then x
    else
      let y := x.setBit (R.CDT_BOOST_EN m) b on
      y.sendRegwr t 0x100 (y.boostCtl t)) d

/-- CDT_BOOST_EN (R63, R298): the value word and its complement have come. -/
def execCdtBoostEn (_req : Fin 10) (m : Fin 2) (value : Nat) (s : State) : Host.Outcome State Fault Refusal := s.run (fun d => d.boostEnWrite m value)

/-- A write of CDT_BSETt (R286). -/
def Dev.bsetWrite (d : Dev) (t data : Nat) : Dev :=
  let w := BitVec.ofNat 32 data &&& 0x00FFFFFF#32
  if w = d.rd (R.CDT_BSET t) then d else (d.wr (R.CDT_BSET t) w).sendRegwr t 0x101 w.toNat

/-- OFFT_COMMAND (R317): the channel's cycles, or a period of an unowned channel, have passed. -/
def execOfftCommand (ch : Fin 512) (s : State) : Host.Outcome State Fault Refusal :=
  s.run (fun d =>
    let lim := d.get (F.CDT_CH_CFG_OFFT_CYC ch)
    let c := d.cc ch
    if lim = 0 || (cntOf d.sch.owner ch != 0 && decide (c.cyc < lim)) then d
    else (d.setCc ch { c with cyc := 0 }).sendRegwr (tileOfCh ch) 0x105 (2 ^ (ch.val % 8)))

/-- Re-arm writes (R323). -/
def Dev.rearmWrite (d : Dev) (m mask : Nat) : Dev := forN 32 (fun x b => if bitOf mask b then x.sendRegwr (32 * m + b) 0x104 4 else x) d

/-- CDT_REARM (R323). -/
def execCdtRearm (_req : Fin 10) (m : Fin 2) (mask : Nat) (s : State) : Host.Outcome State Fault Refusal := s.run (fun d => d.rearmWrite m mask)

/-! ### Forcing (R325, R326) -/

/-- The force-on pulse of a channel: 4 µs after its issue, with vintage 0, forward, without a closing window. It freezes as
R143 says, and can be cancelled until then (R325). -/
def Dev.forceOcc (d : Dev) (ch prf : Nat) : Occ :=
  let dur := min 10000 (max 1 (d.get F.CDT_FORCE_DUR_DUR))
  let st : Int := 8 * (d.now + 800 : Nat)
  let en := st + 1600 * dur
  let p : OPulse := ⟨0, 0, ch, prf, 0, some (1600 * dur), 0, false, 0, 0, 0, st, en, st, en, none, none, 0⟩
  Occ.mk d.sch.uid 0 false 0 0 false 0 none 0 [] 0 false true false true false 0 true [p]

/-- The pulses of a committed occurrence on a channel that is forced off (R325); an occurrence with no other pulse open is
handled by it (R168). -/
def Dev.forceOff (d : Dev) (o : Occ) (ch : Nat) : Dev :=
  if o.pulses.all (fun p => p.ch == ch || p.status.isSome) then d.cancelOcc o 14 else (d.cancelPulses o 14 (fun p => p.ch == ch)).markHandled o

/-- A taken cork of CDT_CHFORCE. -/
def Dev.chForce (d : Dev) (value : Nat) : Dev :=
  let mode := bits value 31 30 % 3
  let prf := bits value 23 16
  let ch := value % 512
  let d0 := (((d.wr R.CDT_CHFORCE (BitVec.ofNat 32 value &&& 0xC0FF01FF#32)).put F.CDT_FORCE_STAT_MODE (bits value 31 30)).put F.CDT_FORCE_STAT_CH ch)
  match mode with
  | 1 =>
    let d1 := d0.setAbit (R.CDT_FOFF 0) ch true
    d1.sch.occs.foldl (fun (x : Dev) o => if o.pulses.any (fun p => p.ch == ch) && !x.occFrozen o then x.forceOff o ch else x) d1
  | 2 =>
    if d0.abit (R.SCH_CHEN 0) ch || !d0.tilePresent (tileOfCh ch) || d0.abit (R.CDT_FOFF 0) ch || d0.flag (F.CDT_CH_STAT_BLK ch) ||
        (d0.freeHandle (tileOfCh ch / 4)).isNone then d0.put F.CDT_FORCE_STAT_REFUSED 1
    else (d0.put F.CDT_FORCE_STAT_REFUSED 0).commitOcc (d0.forceOcc ch prf)
  | _ => d0.setAbit (R.CDT_FOFF 0) ch false

/-- CHFORCE_OFF (R325). -/
def execChforceOff (_req : Fin 10) (ch : Fin 512) (s : State) : Host.Outcome State Fault Refusal := s.run (fun d => d.chForce (2 ^ 30 + ch))

/-- CHFORCE_ON (R325, R326). -/
def execChforceOn (_req : Fin 10) (ch : Fin 512) (prf : Fin 256) (s : State) : Host.Outcome State Fault Refusal :=
  s.run (fun d => d.chForce (2 ^ 31 + prf * 2 ^ 16 + ch))

/-- CHFORCE_RELEASE (R325). -/
def execChforceRelease (_req : Fin 10) (ch : Fin 512) (s : State) : Host.Outcome State Fault Refusal := s.run (fun d => d.chForce ch)

def Dev.cdtCntClr (d : Dev) : Dev := forN 512 (fun x n => if x.rd (R.CDT_CNT n) = 0 then x else x.wr (R.CDT_CNT n) 0) d

/-- CDT_CNT_CLR (R7). -/
def execCdtCntClr (_req : Fin 10) (s : State) : Host.Outcome State Fault Refusal := s.run (fun d => d.cdtCntClr)

end Sys2Proof.Machine
end

