-- ==== Sys2Proof/Machine/Tile.lean ====
section
/-! DEFINITION. A drive tile: its two sides, time copies, frames up, registers, boost converter and inhibit latch, and
the pulses an output drives (R235, R244, R253-R262, R268, R269, R284-R299, R315-R329, R355-R366). Times are link units
(625 ps) of a side's time copy, or ticks of device time. -/

namespace Sys2Proof.Machine

/-- Tick stamps of a tile when device time goes back by sh: its own time copy goes on (R256, R338). -/
def Tile.rebase (x : Tile) (sh : Int) : Tile :=
  let side (y : TSide) : TSide := { y with off := y.off + 192 * sh }
  { x with
    a := side x.a, b := side x.b
    vrefAt := x.vrefAt - sh, quiet := x.quiet - sh, misAt := x.misAt.map (fun m => m - sh)
    outs := x.outs.map (fun p => (p.1, { p.2 with quiet := p.2.quiet - sh, offRun := p.2.offRun.map (fun m => m - sh) })) }

def Tile.out (x : Tile) (j : Nat) : TOut := smGet x.outs tout0 j
def Dev.to (d : Dev) (t j : Nat) : TOut := (d.tle t).out j
def Dev.upTo (d : Dev) (t j : Nat) (f : TOut → TOut) : Dev :=
  d.upTle t (fun x => { x with outs := smSet x.outs tout0 j (f (x.out j)) })

/-! ### Registers of a tile (R285) -/

/-- Reset values of the tile registers, the reference tile's own where the spec says so (R283, notes/assumptions/6.md). -/
def tileReset (a : Nat) : Word :=
  match a % 0x10000 with
  | 0x0 => 0x0C1E4108#32
  | 0x1 => 0x00018020#32
  | 0x6 => 0x32#32
  | 0x100 => 0xFFFF0000#32
  | 0x101 => 0x00041460#32
  | 0x103 => 200#32
  | k => if 0x110 ≤ k && k < 0x118 then 0xFF00#32 else 0

/-- Key of a register seen through a side: link registers are the side's own, drive registers the tile's. -/
def tileKey (sd : Bool) (a : Nat) : Nat := if a < 0x100 && sd then a + 0x10000 else a

def Dev.trd (d : Dev) (t : Nat) (sd : Bool) (a : Nat) : Word := smGet (d.tle t).regs (tileReset a) (tileKey sd a)
def Dev.twr (d : Dev) (t : Nat) (sd : Bool) (a : Nat) (w : Word) : Dev :=
  d.upTle t (fun x => { x with regs := smSet x.regs (tileReset a) (tileKey sd a) w })
def Dev.tget (d : Dev) (t : Nat) (sd : Bool) (f : Fld) : Nat := fldGet f (d.trd t sd f.addr)
def Dev.tput (d : Dev) (t : Nat) (sd : Bool) (f : Fld) (v : Nat) : Dev := d.twr t sd f.addr (fldPut f (d.trd t sd f.addr) v)
def Dev.tinc (d : Dev) (t : Nat) (sd : Bool) (f : Fld) : Dev :=
  d.tput t sd f (min (d.tget t sd f + 1) (2 ^ (f.hi + 1 - f.lo) - 1))

/-! ### Time copies (R255-R258) and frames up -/

/-- The time copy of a side, link units. -/
def Dev.tlu (d : Dev) (t : Nat) (sd : Bool) : Int := fdiv (192 * d.now + (d.ts t sd).off) 24

/-- Device time moves on to the tick in which a side's copy reaches a link time: edges are placed within it, to 625 ps (R15,
R258). -/
def Dev.reachLu (d : Dev) (t : Nat) (sd : Bool) (lu : Int) : Dev := d.advance (fdiv (24 * lu - (d.ts t sd).off) 192).toNat

/-- Device time moves on to the first tick at which a side's copy has reached a link time. -/
def Dev.reachTick (d : Dev) (t : Nat) (sd : Bool) (lu : Int) : Dev := d.advance (-(fdiv (-(24 * lu - (d.ts t sd).off)) 192)).toNat

/-- The low word of a side's time; without a time copy (UNADDR, ADDRESSED) a free value (R268). -/
def Dev.tlu32 (d : Dev) (t : Nat) (sd : Bool) : Nat × Dev :=
  if 2 ≤ (d.ts t sd).st then (ofS 32 (d.tlu t sd), d) else let r := d.drawFree; (r.1.toNat, r.2)

/-! ### Up lanes (R254, R282). Time on a hop is not counted (DESIGN CHOICE, notes/assumptions/116.md). -/

/-- The forwarding buffer of the reference tile in bytes (R283), and the bytes of a frame in it. -/
def fwdBuffer : Nat := 4096
def UFrame.bytes (f : UFrame) : Nat := 4 * (f.words.length + 2)

/-- An ECHO_RSP that waited w thirds of a FAB cycle, 32/16 UI each: TT counts it at its own tile, RES at another (R244,
R254). -/
def UFrame.waited (f : UFrame) (own : Bool) (w : Nat) : UFrame :=
  match f.words with
  | [a, tt, res] => if f.typ = 0x12 then { f with words := if own then [a, (tt + 32 * w) % 2 ^ 24, res] else [a, tt, (res + 32 * w) % 2 ^ 24] } else f
  | _ => f

/-- Frames that may leave at time c: the tile's own WAVE frames do not while the buffer is more than half full. -/
def UpLane.ready (l : UpLane) (c : Nat) : List UItem :=
  let here := l.wait.filter (fun i => decide (i.at_ ≤ c))
  let held := (here.filter (fun i => !i.own)).foldl (fun n i => n + i.frame.bytes) 0
  here.filter (fun i => !(i.own && i.frame.typ == 0x18 && decide (fwdBuffer / 2 < held)))

/-- The frame that leaves at time c: the first class that has one, own and forwarded frames in turn. -/
def UpLane.pick (l : UpLane) (c : Nat) : Option UItem :=
  let r := l.ready c
  (findN 4 (fun k => r.any (fun i => upClass i.frame.typ == k))).bind (fun k =>
    let q := r.filter (fun i => upClass i.frame.typ == k)
    match q.find? (fun i => i.own != smGet l.own false k) with
    | some i => some i
    | none => q.head?)

/-- The earliest time at which a waiting frame is there. -/
def UpLane.first (l : UpLane) : Option Nat := l.wait.foldl (fun m i => some (m.elim i.at_ (min i.at_))) none

/-- A frame goes on an up lane at time c, and on its spare while the side mirrors (R276). -/
def UpLane.put (l : UpLane) (mirror : Bool) (cs : List Chr) (c : Nat) : UpLane :=
  { l with wk := l.wk.put cs c, sp := if mirror then l.sp.copy cs c else l.sp }

/-- Frames leave tile t upward until the present, n at most: to the tile before it, or from position 0 to the device. -/
def Dev.upSend (d : Dev) (t : Nat) (sd : Bool) : Nat → Dev
  | 0 => d
  | n + 1 =>
    let l := (d.ts t sd).lane
    match l.first with
    | none => d
    | some a =>
      let c := l.wk.start a false
      if 3 * d.fab < c then d
      else match l.pick c with
        | none => d
        | some i =>
          let f := i.frame.waited i.own (c - i.at_)
          let l1 := { l with wait := l.wait.erase i, own := smSet l.own false (upClass f.typ) i.own }.put (d.ts t sd).mirror f.chars c
          let d1 := d.upTs t sd (fun s => { s with lane := if t % 4 = 0 then { l1 with out := l1.out ++ [f] } else l1 })
          let d2 := if t % 4 = 0 then d1 else d1.upTs (t - 1) sd (fun s => { s with lane := { s.lane with wait := s.lane.wait ++ [⟨f, false, c⟩] } })
          d2.upSend t sd n

/-- The up lanes of a side of tile t's link up to the present, the farthest tile first. -/
def Dev.upRun (d : Dev) (t : Nat) (sd : Bool) : Dev :=
  forN 4 (fun x i => let q := t / 4 * 4 + (3 - i); x.upSend q sd (x.ts q sd).lane.wait.length) d

/-- A frame goes up, whatever the state (R264). -/
def Dev.tupAny (d : Dev) (t : Nat) (sd : Bool) (typ : Nat) (words : List Nat) : Dev :=
  let d1 := d.upRun t sd
  d1.upTs t sd (fun s =>
    let f : UFrame := ⟨typ, words, s.pos⟩
    { s with up := s.up ++ [f], lane := { s.lane with wait := s.lane.wait ++ [⟨f, true, 3 * d1.fab⟩] } })

/-- A frame goes up; a side in UNADDR sends none of these. -/
def Dev.tup (d : Dev) (t : Nat) (sd : Bool) (typ : Nat) (words : List Nat) : Dev :=
  if (d.ts t sd).st = 0 then d else d.tupAny t sd typ words

/-- DIAG on one side (R244, R327). -/
def Dev.tdiag (d : Dev) (t : Nat) (sd level : Bool) (out code data : Nat) : Dev :=
  if (d.ts t sd).st = 0 then d
  else
    let r := d.tlu32 t sd
    r.2.tup t sd 0x15 [b2n level * 2 ^ 11 + out * 2 ^ 8 + code, data % 2 ^ 32, r.1]

/-- DIAG on both sides: the drive causes and the duplex codes of R366. -/
def Dev.tdiag2 (d : Dev) (t : Nat) (level : Bool) (out code data : Nat) : Dev :=
  (d.tdiag t false level out code data).tdiag t true level out code data

/-- A load cause of an output goes where it had been reported. -/
def Dev.causeGone (d : Dev) (t j code data : Nat) : Dev :=
  if (d.to t j).causes.contains code then (d.upTo t j (fun o => { o with causes := o.causes.erase code })).tdiag2 t false j code data else d

/-- A load cause of an output is reported (R315, R316, R318, R327). -/
def Dev.causeCome (d : Dev) (t j code data : Nat) : Dev :=
  (d.upTo t j (fun o => { o with causes := if o.causes.contains code then o.causes else o.causes ++ [code] })).tdiag2 t true j code data

/-! ### The boost converter (R296-R298): 50 mV units -/

def Dev.vset (d : Dev) (t : Nat) : Nat := 10 * min 180 (max 48 (d.tget t false F.TDRV_BOOST_SET_VSET))

/-- V_ref at the present (R296). -/
def Dev.vrefNow (d : Dev) (t : Nat) : Nat :=
  let x := d.tle t
  let slew := max 1 (d.tget t false F.TDRV_BOOST_SET_SLEW)
  let dv := 20 * slew * ((d.now : Int) - x.vrefAt).toNat / 200000
  if x.vref ≤ d.vset t then min (d.vset t) (x.vref + dv) else max (d.vset t) (x.vref - dv)

def Dev.boostEn (d : Dev) (t : Nat) : Bool := d.tget t false F.TDRV_BOOST_CTL_EN == 1

/-- The rail is ready (R297): the converter runs, and the rail is within RDYM of VSET. -/
def Dev.boostReady (d : Dev) (t : Nat) : Bool :=
  d.boostEn t && !(d.tle t).stopped && decide (d.vset t ≤ (d.tle t).rail + 10 * d.tget t false F.TDRV_BOOST_SET_RDYM)

/-- The rail stands above VSET + 5 V (R298). -/
def Dev.railHigh (d : Dev) (t : Nat) : Bool := decide (d.vset t + 100 < (d.tle t).rail)

/-- BOOST_NRDY when readiness changes, and the end of BOOST_FAULT when the converter runs again and the fault is absent
(R298, R327). -/
def Dev.boostJudge (d : Dev) (t : Nat) : Dev :=
  let x := d.tle t
  let d1 := if x.bflt && !x.stopped && !d.railHigh t then (d.upTle t (fun x => { x with bflt := false })).tdiag2 t false 0 0x11 x.rail else d
  let r := d1.boostReady t
  if r == x.ready then d1 else (d1.upTle t (fun x => { x with ready := r })).tdiag2 t (!r) 0 0x10 x.rail

/-- A write of TDRV_BOOST_SET (R296). -/
def Dev.boostSet (d : Dev) (t data rail : Nat) : Dev :=
  ((d.twr t false R.TDRV_BOOST_SET (BitVec.ofNat 32 data &&& 0x00FFFFFF#32)).upTle t
    (fun x => { x with rail := rail, vref := rail, vrefAt := d.now })).boostJudge t

/-- A write of TDRV_BOOST_CTL, and whether it is taken: NCTL is the complement of the low half (R298). -/
def Dev.boostCtlSet (d : Dev) (t data : Nat) : Dev × Bool :=
  if bits data 31 16 + bits data 15 0 ≠ 0xFFFF then (d, false)
  else
    let was := d.boostEn t
    let d1 := d.twr t false R.TDRV_BOOST_CTL (BitVec.ofNat 32 data &&& 0xFFFF0001#32)
    let d2 := if !was && bitOf data 0 then d1.upTle t (fun x => { x with stopped := false }) else d1
    (d2.boostJudge t, true)

/-! ### The inhibit latch (R321, R322) -/

/-- Time the input has been inactive, µs. -/
def Dev.inhQuiet (d : Dev) (t : Nat) : Nat := if (d.tle t).inhp then 0 else min 0xFFFF (((d.now : Int) - (d.tle t).quiet).toNat / 200)

/-- A write of TDRV_INH.REARM. -/
def Dev.inhRearm (d : Dev) (t : Nat) : Dev :=
  if !(d.tle t).inhp && decide (20000 ≤ (d.now : Int) - (d.tle t).quiet) then
    if (d.tle t).inhl then (d.upTle t (fun x => { x with inhl := false })).tdiag2 t false 0 0x20 0 else d
  else d.tdiag2 t true 0 0x22 (d.inhQuiet t)

/-- A write of TDRV_OFFT.REQ (R318, R319). -/
def Dev.offtReq (d : Dev) (t mask : Nat) : Dev :=
  if (d.tle t).inhl then d else forN 8 (fun x j => if bitOf mask j then x.upTo t j (fun o => { o with offPend := true }) else x) d

/-! ### The execution lease (R355-R361) -/

/-- A side is eligible (R355). -/
def Dev.tEligible (d : Dev) (t : Nat) (sd : Bool) : Bool :=
  d.tget t sd F.TILE_DUP_ELIG == 1 && (d.ts t sd).st == 3 && (d.ts t sd).fresh

/-- A write of TILE_DUP_AT, and whether it is taken: by the holding side only (R361, R242). -/
def Dev.dupAt (d : Dev) (t : Nat) (sd : Bool) (data : Nat) : Dev × Bool :=
  if (d.tle t).lease = some sd then
    ((d.twr t sd R.TILE_DUP_AT (BitVec.ofNat 32 data)).upTs t sd (fun s => { s with yieldAt := some (nearest 32 (d.tlu t sd) (data % 2 ^ 32)) }), true)
  else (d, false)

/-- The lease comes to a side (R356, R358, R361): reason 0 grant, 1 promotion, 2 yield. -/
def Dev.leaseGain (d : Dev) (t : Nat) (sd : Bool) (reason : Nat) : Dev :=
  let d1 := (d.upTle t (fun x => { x with lease := some sd })).tdiag t sd true 0 0x08 reason
  if reason = 1 then d1.tinc t sd F.TILE_DUPCNT_PROMO else if reason = 2 then d1.tinc t sd F.TILE_DUPCNT_YIELD else d1

/-- The lease leaves its holder (R357, R359): its unstarted pulses are discarded. -/
def Dev.leaseLose (d : Dev) (t : Nat) (sd : Bool) (reason : Nat) : Dev :=
  let x := d.tlu t sd
  ((d.upTle t (fun x => { x with lease := none })).upTs t sd
    (fun s => { s with yieldAt := none, pulses := s.pulses.filter (fun p => decide (p.start < x)) })).tdiag t sd true 0 0x09 reason

/-- LEASE_GRANT (R356): side A first. -/
def execLeaseGrant (t : Fin 64) (s : State) : Host.Outcome State Fault Refusal :=
  s.runAny (fun d =>
    if (d.tle t).lease.isSome then d
    else if d.tEligible t false then d.leaseGain t false 0
    else if d.tEligible t true then d.leaseGain t true 0 else d)

/-- DUP_AT_WRITE (R361). -/
def execDupAtWrite (t : Fin 64) (side : Bool) (data : Nat) (s : State) : Host.Outcome State Fault Refusal :=
  s.runAny (fun d => (d.dupAt t side data).1)

/-- YIELD_DUE (R361). -/
def execYieldDue (t : Fin 64) (s : State) : Host.Outcome State Fault Refusal :=
  s.runAny (fun d =>
    match (d.tle t).lease with
    | none => d
    | some sd =>
      match (d.ts t sd).yieldAt with
      | none => d
      | some at_ =>
        let d1 := d.reachTick t sd at_
        if d1.tEligible t (!sd) then (d1.leaseLose t sd 3).leaseGain t (!sd) 2
        else (d1.upTs t sd (fun s => { s with yieldAt := none })).tdiag2 t true 0 0x0B 0)

/-- FRESH_EXPIRY (R355): a side that does not hold the lease. -/
def execFreshExpiry (t : Fin 64) (side : Bool) (s : State) : Host.Outcome State Fault Refusal :=
  s.runAny (fun d => if (d.tle t).lease = some side then d else d.upTs t side (fun x => { x with fresh := false }))

/-! ### Reports of pulses (R264, R364) and mismatches (R363, R365) -/

/-- DONE on one side: of a pulse that was started, in UNADDR too (R264, R269). -/
def Dev.tdone (d : Dev) (t : Nat) (sd : Bool) (p : TPulse) (status : Nat) (start stop : Int) (ipk i2t : Nat) : Dev :=
  d.tupAny t sd 0x13 [p.handle * 2 ^ 16 + p.pidx * 2 ^ 13 + p.out * 2 ^ 10 + status, ofS 32 start, ofS 32 stop, ipk * 2 ^ 24 + i2t % 2 ^ 24]

/-- DONE of a holder pulse and of its matched shadow. -/
def Dev.tdone2 (d : Dev) (t : Nat) (sd : Bool) (p : TPulse) (sh : Option TPulse) (status : Nat) (start stop : Int) (ipk i2t : Nat) : Dev :=
  let d1 := d.tdone t sd p status start stop ipk i2t
  match sh with
  | some q => d1.tdone t (!sd) q status start stop ipk i2t
  | none => d1

/-- A mismatch is counted, and DUP_MISMATCH sent at most once per 100 µs. -/
def Dev.mismatch (d : Dev) (t j diff : Nat) : Dev :=
  let d1 := (d.tinc t false F.TILE_DUPCNT_MIS).tinc t true F.TILE_DUPCNT_MIS
  if (d.tle t).misAt.elim true (fun a => decide (a + 20000 ≤ (d.now : Int))) then
    (d1.upTle t (fun x => { x with misAt := some d.now })).tdiag2 t true 0 0x0A (j * 2 ^ 16 + diff)
  else d1

/-- The first shadow pulse, in order of start, of a list. -/
def firstPulse : List TPulse → Option TPulse
  | [] => none
  | p :: r => match firstPulse r with | none => some p | some q => if q.start < p.start then some q else some p

/-- The shadow pulse that matches p (R363). -/
def TSide.shadow (s : TSide) (p : TPulse) : Option TPulse :=
  firstPulse (s.pulses.filter (fun q => q.out == p.out && decide ((q.start - p.start).natAbs ≤ 16) && decide ((q.stop - p.stop).natAbs ≤ 16)))

/-- Start difference of an unmatched holder pulse: against the first shadow pulse on the output, else a free value. -/
def Dev.missDiff (d : Dev) (t : Nat) (sd : Bool) (p : TPulse) : Nat × Dev :=
  match firstPulse ((d.ts t (!sd)).pulses.filter (fun q => q.out == p.out)) with
  | some q => (ofS 16 (clampI (-32768) 32767 (q.start - p.start)), d)
  | none => let r := d.drawFree; (r.1.toNat % 65536, r.2)

def TSide.drop (s : TSide) (p : TPulse) : TSide := { s with pulses := s.pulses.erase p }

/-- SHADOW_UNMATCHED (R363, R364). -/
def execShadowUnmatched (t : Fin 64) (side : Bool) (handle : Nat) (pidx : Fin 8) (s : State) : Host.Outcome State Fault Refusal :=
  s.runAny (fun d =>
    match (d.ts t side).pulses.find? (fun p => p.handle == handle && p.pidx == pidx.val) with
    | none => d
    | some p =>
      if (d.tle t).lease = some side then d
      else
        let d1 := (d.reachLu t side (p.start + 16)).upTs t side (fun s => s.drop p)
        (d1.mismatch t p.out 0x7FFF).tdone t side p 8 p.start p.start 0 0)

/-- TILE_DUPCNT_CLR (R7). -/
def execTileDupcntClr (t : Fin 64) (side : Bool) (s : State) : Host.Outcome State Fault Refusal := s.runAny (fun d => d.twr t side R.TILE_DUPCNT 0)

/-- TILE_CNT_CLR (R7). -/
def execTileCntClr (t : Fin 64) (side : Bool) (s : State) : Host.Outcome State Fault Refusal := s.runAny (fun d => d.twr t side R.TILE_CNT 0)

/-! ### Driving a pulse (R288-R299) -/

/-- Bits of a word of a profile record (R288). -/
def TPulse.fld (p : TPulse) (w hi lo : Nat) : Nat := bits (p.rcd.getD w 0) hi lo
def TPulse.ipeak (p : TPulse) : Nat := p.fld 0 27 16
/-- Phase times in link units, 16 to 10 ns: TBMAX, where 0 acts as 65,535, TPK and TH1. -/
def TPulse.tbmax (p : TPulse) : Nat := 16 * (if p.fld 0 15 0 = 0 then 0xFFFF else p.fld 0 15 0)
def TPulse.tpk (p : TPulse) : Nat := 16 * p.fld 1 31 16
def TPulse.th1 (p : TPulse) : Nat := 16 * p.fld 2 31 16
/-- Where the coil decays in D1 and D2: slow for 1, else fast. -/
def decaySource (dec : Nat) : Source := if dec = 1 then .free else .clamp
/-- Closing window length, µs: 0 where there is none (R299). -/
def TPulse.cwin (p : TPulse) : Nat := if p.clen then p.fld 4 31 16 else 0

/-- Hold levels (R291). -/
def Drive.hold1 (v : Drive) : Nat := v.p.fld 1 11 0 * (v.hscl + 1) / 256
def Drive.hold2 (v : Drive) : Nat := v.p.fld 2 11 0 * (v.hscl + 1) / 256

/-- The level an output chops at in its phase. -/
def Drive.level (v : Drive) : Option Nat :=
  match v.phase with
  | .peak => some v.p.ipeak
  | .hold1 => some v.hold1
  | .hold2 => some v.hold2
  | _ => none

/-- The switch goes off a rail, to freewheel or the clamp. -/
def Drive.cut (v : Drive) (src : Source) (now : Int) : Drive :=
  { v with src := src, swOff := if v.src == .boost || v.src == .supply then now else v.swOff }

/-- Chopping on current cur at time now (R290): between the two points the coil freewheels. -/
def Drive.chop (v : Drive) (now : Int) (cur : Nat) : Drive :=
  match v.level with
  | none => v
  | some x =>
    if x ≤ cur then v.cut .free now
    else if cur + v.p.fld 3 11 0 ≤ x then
      if v.src == .boost || v.src == .supply || decide (v.swOff + 16 * v.p.fld 3 31 16 ≤ now) then { v with src := .supply } else v
    else if v.src == .boost then v.cut .free now else v

/-- A phase is entered (R289). -/
def Drive.enter (v : Drive) (ph : Phase) (now : Int) (cur : Nat) : Drive :=
  let v1 := { v with phase := ph, since := now }
  match ph with
  | .boost => { v1 with src := .boost }
  | .dec1 => v1.cut (decaySource (v.p.fld 1 13 12)) now
  | .dec2 => v1.cut (decaySource (v.p.fld 2 13 12)) now
  | .off => v1.cut .clamp now
  | _ => ({ v1 with src := if v1.src = Source.clamp then .free else v1.src }).chop now cur

/-- The phase after the peak (R289). -/
def Drive.toHold1 (v : Drive) (now : Int) (cur : Nat) : Drive :=
  if v.hold1 < cur then v.enter .dec1 now cur else v.enter .hold1 now cur

/-- The phase after the boost. -/
def Drive.afterBoost (v : Drive) (now : Int) (cur : Nat) : Drive :=
  if v.p.tpk ≠ 0 then v.enter .peak now cur else v.toHold1 now cur

/-- The phase after hold 1. -/
def Drive.toHold2 (v : Drive) (now : Int) (cur : Nat) : Drive :=
  if v.hold2 < cur then v.enter .dec2 now cur else v.enter .hold2 now cur

/-- The link time at which a phase ends by itself (R289). -/
def Drive.limit (v : Drive) : Option Int :=
  match v.phase with
  | .boost => some (v.since + v.p.tbmax)
  | .peak => some (v.since + v.p.tpk)
  | .hold1 => if v.p.th1 = 0 then none else some (v.since + v.p.th1)
  | _ => none

/-- The greatest current, in 0.25 A units (R244). -/
def Drive.ipk8 (v : Drive) : Nat := min 255 (v.ipk * 16 / 250)

def Drive.see (v : Drive) (cur : Nat) : Drive := { v with ipk := max v.ipk cur }

def Dev.upDrv (d : Dev) (t j : Nat) (v : Drive) : Dev := d.upTo t j (fun o => { o with drv := some v })

/-- The drive of an output is over: DONE, with the integral of the squared current a free value, and SHORT_ON gone
after a pulse that completes (R264, R316). -/
def Dev.drvDone (d : Dev) (t j : Nat) (v : Drive) : Dev :=
  let stop := v.stop.getD (d.tlu t v.side)
  let r := d.drawFree
  let d1 := (r.2.upTo t j (fun o => { o with drv := none, quiet := d.now })).tdone2 t v.side v.p v.shadow v.status v.start stop v.ipk8 r.1.toNat
  if v.status ≤ 1 then d1.causeGone t j 0x19 v.ipk else d1

/-- One WAVE frame of a window whose samples are what the coil shows, free values of the model (R244, R245). -/
def Dev.waveWords (d : Dev) : Nat → List Nat × Dev
  | 0 => ([], d)
  | k + 1 => let r := d.drawFree; let q := r.2.waveWords k; (r.1.toNat :: q.1, q.2)

/-- The WAVE frames of a window, n of them, on both sides (R299, R364). -/
def Dev.sendWaves (d : Dev) (t j : Nat) (w : CWin) (i : Nat) : Nat → Dev
  | 0 => d
  | n + 1 =>
    let q := (d.to t j).wseq
    let r := d.waveWords (if w.kind = 2 then 12 else 6)
    let hd := fun (h : Nat) => h * 2 ^ 16 + q * 2 ^ 8 + w.kind * 2 ^ 3 + j
    let t0 := ofS 32 (w.start + 800 * 16 * i)
    let d1 := (r.2.tup t false 0x18 ([hd w.hA, t0] ++ r.1)).tup t true 0x18 ([hd w.hB, t0] ++ r.1)
    (d1.upTo t j (fun o => { o with wseq := (q + 1) % 256 })).sendWaves t j w (i + 1) n

/-- A window of n link units holds a sample every 500 ns, 16 to a frame. -/
def waveFrames (n : Int) : Nat := ((n.toNat + 799) / 800 + 15) / 16

/-- The window of an output ends at link time `stop` (R299); a drive whose current has come down to 0 is over then. -/
def Dev.winEnd (d : Dev) (t j : Nat) (stop : Int) : Dev :=
  match (d.to t j).win with
  | none => d
  | some w =>
    let d1 := (d.upTo t j (fun o => { o with win := none, quiet := d.now })).sendWaves t j w 0 (waveFrames (min stop w.stop - w.start))
    match (d.to t j).drv with
    | some v => if v.zero then d1.drvDone t j v else d1
    | none => d1

/-- The electrical end of a drive, or its cut, at link time now: fast decay, and the closing window opens (R289, R299). -/
def Dev.drvEnd (d : Dev) (t j : Nat) (v : Drive) (now : Int) (cur status : Nat) : Dev :=
  let v1 := { v.enter .off now cur with stop := some now, status := status }
  let d1 := d.upDrv t j v1
  if v.p.cwin = 0 then d1
  else
    let h := v.p.handle
    let g := v.shadow.elim 0 (fun q => q.handle)
    let kind := v.p.fld 4 15 14 % 3
    d1.upTo t j (fun o => { o with win := some ⟨v.side, if v.side then g else h, if v.side then h else g, now, now + 1600 * v.p.cwin, kind⟩ })

/-- Every drive that sel picks, and that has not reached its turn-off, is cut. -/
def Dev.cutDrives (d : Dev) (t status : Nat) (sel : Drive → Bool) : Dev :=
  forN 8 (fun x j =>
    match (x.to t j).drv with
    | some v => if v.phase != .off && sel v then x.drvEnd t j v (x.tlu t v.side) 0 status else x
    | none => x) d

/-- LEASE_LAPSE (R357, R358): for a state change or ELIG cleared where one holds, else a missing heartbeat. Where no side holds
the lease then, the output stage is not enabled, and drives in progress end (R360, notes/assumptions/110.md). -/
def execLeaseLapse (t : Fin 64) (s : State) : Host.Outcome State Fault Refusal :=
  s.runAny (fun d =>
    match (d.tle t).lease with
    | none => d
    | some sd =>
      let reason := if (d.ts t sd).st < 3 then 1 else if d.tget t sd F.TILE_DUP_ELIG = 0 then 2 else 0
      let d1 := (if reason = 0 then d.upTs t sd (fun s => { s with fresh := false }) else d).leaseLose t sd reason
      if d1.tEligible t (!sd) then d1.leaseGain t (!sd) 1 else d1.cutDrives t 7 (fun _ => true))

/-- Why a pulse is not started (R264, R292, R297, R321): the DONE status. -/
def Dev.refusal (d : Dev) (t : Nat) (p : TPulse) : Option Nat :=
  if p.stop ≤ p.start then some 6
  else if (d.tle t).inhl then some 3
  else if !d.boostReady t && d.tget t false (F.TDRV_OUT_BPOL p.out) == 0 then some 2
  else none

/-- A pulse starts on its output at link time now: a window and a drive still there end (R289, R299, R319). -/
def Dev.driveOn (d : Dev) (t : Nat) (sd : Bool) (p : TPulse) (sh : Option TPulse) (now : Int) : Dev :=
  let j := p.out
  let d1 := d.winEnd t j now
  let d2 := match (d1.to t j).drv with | some v => d1.drvDone t j v | none => d1
  let v : Drive := ⟨sd, p, sh, .boost, now, now, none, d2.tget t false (F.TDRV_OUT_HSCL j), .free, now - 2 ^ 21, 0,
    if d2.boostReady t then 0 else 1, false, false⟩
  d2.upTo t j (fun o => { o with drv := some (if p.ipeak ≠ 0 then v.enter .boost now 0 else v.afterBoost now 0), offRun := none })

/-- TILE_PULSE_START (R258, R292, R297, R321, R363): a pulse of the lease holder reaches its start, to 625 ps. -/
def Dev.pulseStart (d : Dev) (t : Nat) (sd : Bool) (p : TPulse) : Dev :=
  let now := max p.start (d.tlu t sd)
  let d0 := (d.reachLu t sd p.start).upTs t sd (fun s => s.drop p)
  let sh := (d0.ts t (!sd)).shadow p
  let d1 := match sh with
    | some q => d0.upTs t (!sd) (fun s => s.drop q)
    | none => let m := d0.missDiff t sd p; m.2.mismatch t p.out m.1
  match d1.refusal t p with
  | some c => d1.tdone2 t sd p sh c now now 0 0
  | none => d1.driveOn t sd p sh now

/-- TILE_PULSE_START. -/
def execTilePulseStart (t : Fin 64) (side : Bool) (handle : Nat) (pidx : Fin 8) (s : State) : Host.Outcome State Fault Refusal :=
  s.runAny (fun d =>
    match (d.ts t side).pulses.find? (fun p => p.handle == handle && p.pidx == pidx.val) with
    | none => d
    | some p => if (d.tle t).lease = some side && (d.ts t side).st == 3 then d.pulseStart t side p else d)

/-- A phase ends by itself at link time lim (R289): the boost with PEAK_TMO. -/
def Dev.phaseTimed (d : Dev) (t j : Nat) (v : Drive) (cur : Nat) (lim : Int) : Dev :=
  let now := max lim (d.tlu t v.side)
  let d1 := d.reachLu t v.side lim
  match v.phase with
  | .boost => (d1.causeCome t j 0x1A cur).upDrv t j (v.afterBoost now cur)
  | .peak => d1.upDrv t j (v.toHold1 now cur)
  | _ => d1.upDrv t j (v.toHold2 now cur)

/-- Leaving a phase on current or time (R289). The electrical end cuts a phase whose time passes later. -/
def Dev.phaseNext (d : Dev) (t j : Nat) (v : Drive) (cur : Nat) : Dev :=
  let now := d.tlu t v.side
  match v.phase with
  | .dec1 => d.upDrv t j (if cur ≤ v.hold1 then v.enter .hold1 now cur else v)
  | .dec2 => d.upDrv t j (if cur ≤ v.hold2 then v.enter .hold2 now cur else v)
  | .off =>
    if cur ≠ 0 then d.upDrv t j v
    else if (d.to t j).win.isSome then d.upDrv t j { v with zero := true }
    else d.drvDone t j v
  | _ =>
    if v.phase = .boost && decide (v.p.ipeak ≤ cur) && v.limit.elim false (fun l => decide (now ≤ l)) then
      (d.causeGone t j 0x1A cur).upDrv t j (v.afterBoost now cur)
    else match v.limit with
      | some lim => if v.p.stop ≤ lim then d.upDrv t j v else d.phaseTimed t j v cur lim
      | none => d.upDrv t j v

/-- TILE_PHASE_ADVANCE (R289). -/
def execTilePhaseAdvance (t : Fin 64) (out : Fin 8) (cur : Nat) (s : State) : Host.Outcome State Fault Refusal :=
  s.runAny (fun d => match (d.to t out).drv with | none => d | some v => d.phaseNext t out (v.see cur) cur)

/-- TILE_CHOP_SWITCH (R290). -/
def execTileChopSwitch (t : Fin 64) (out : Fin 8) (cur : Nat) (s : State) : Host.Outcome State Fault Refusal :=
  s.runAny (fun d => match (d.to t out).drv with | none => d | some v => d.upDrv t out ((v.see cur).chop (d.tlu t v.side) cur))

/-- ELECTRICAL_END (R258, R289): to 625 ps. -/
def execElectricalEnd (t : Fin 64) (out : Fin 8) (s : State) : Host.Outcome State Fault Refusal :=
  s.runAny (fun d =>
    match (d.to t out).drv with
    | none => d
    | some v => if v.phase = .off then d else (d.reachLu t v.side v.p.stop).drvEnd t out v (max v.p.stop (d.tlu t v.side)) 0 v.status)

/-- CLOSING_WINDOW_END (R299). -/
def execClosingWindowEnd (t : Fin 64) (out : Fin 8) (s : State) : Host.Outcome State Fault Refusal :=
  s.runAny (fun d => match (d.to t out).win with | none => d | some w => (d.reachLu t w.side w.stop).winEnd t out w.stop)

/-- OPEN_ON_CHECK (R315): 8 µs after the start, of a drive that still runs then. -/
def execOpenOnCheck (t : Fin 64) (out : Fin 8) (cur : Nat) (s : State) : Host.Outcome State Fault Refusal :=
  s.runAny (fun d =>
    match (d.to t out).drv with
    | none => d
    | some v =>
      if v.phase = .off || v.judged || decide (v.p.stop < v.start + 12800) then d
      else
        let d1 := (d.reachLu t v.side (v.start + 12800)).upDrv t out { v.see cur with judged := true }
        if cur < v.p.fld 5 27 16 then d1.causeCome t out 0x18 cur else d1.causeGone t out 0x18 cur)

/-- OVERCURRENT_TRIP (R316). -/
def execOvercurrentTrip (t : Fin 64) (out : Fin 8) (cur : Nat) (s : State) : Host.Outcome State Fault Refusal :=
  s.runAny (fun d =>
    match (d.to t out).drv with
    | none => d
    | some v =>
      if v.phase = .off || decide (cur < v.p.fld 5 11 0) then d
      else
        let w := v.see cur
        (d.drvEnd t out w (d.tlu t v.side) cur 5).causeCome t out 0x19 w.ipk)

/-! ### Boost, off-state test, inhibit, temperature -/

/-- BOOST_SET_WRITE (R296). -/
def execBoostSetWrite (t : Fin 64) (data rail : Nat) (s : State) : Host.Outcome State Fault Refusal := s.runAny (fun d => d.boostSet t data rail)

/-- BOOST_CTL_WRITE (R298). -/
def execBoostCtlWrite (t : Fin 64) (data : Nat) (s : State) : Host.Outcome State Fault Refusal := s.runAny (fun d => (d.boostCtlSet t data).1)

/-- The converter stops on a fault (R298). -/
def Dev.boostStop (d : Dev) (t : Nat) : Dev :=
  let x := d.tle t
  let d1 := d.upTle t (fun x => { x with bflt := true, stopped := true })
  if x.bflt then d1 else d1.tdiag2 t true 0 0x11 x.rail

/-- BOOST_FAULT (R298): the rail has stayed above VSET + 5 V for 10 µs, or 5 ms after its enable it has not passed the supply
voltage + 2 V; the converter stops until EN is written from 0 to 1. -/
def execBoostFault (t : Fin 64) (rail : Nat) (cause : BoostCause) (s : State) : Host.Outcome State Fault Refusal :=
  s.runAny (fun d =>
    let d1 := d.upTle t (fun x => { x with rail := rail })
    let bad := match cause with
      | .high => d1.railHigh t
      | .low supply => decide (rail ≤ supply + 40)
    (if bad && d1.boostEn t && !(d1.tle t).stopped then d1.boostStop t else d1).boostJudge t)

/-- BOOST_NRDY (R297): a measurement of the rail. -/
def execBoostNrdy (t : Fin 64) (rail : Nat) (s : State) : Host.Outcome State Fault Refusal :=
  s.runAny (fun d => (d.upTle t (fun x => { x with rail := rail })).boostJudge t)

/-- OFFT_REQ (R318). -/
def execOfftReq (t : Fin 64) (mask : Nat) (s : State) : Host.Outcome State Fault Refusal := s.runAny (fun d => d.offtReq t mask)

/-- No stored pulse of a side starts on the output within 250 µs. -/
def Dev.offClear (d : Dev) (t : Nat) (sd : Bool) (j : Nat) : Bool :=
  (d.ts t sd).pulses.all (fun p => p.out != j || decide (d.tlu t sd + 400000 < p.start))

/-- OFFSTATE_TEST_START (R318). -/
def execOffstateTestStart (t : Fin 64) (out : Fin 8) (s : State) : Host.Outcome State Fault Refusal :=
  s.runAny (fun d =>
    let o := d.to t out
    if o.offPend && o.drv.isNone && o.win.isNone && decide (o.quiet + 4000 ≤ (d.now : Int)) && d.offClear t false out && d.offClear t true out && !(d.tle t).inhl then
      d.upTo t out (fun o => { o with offPend := false, offRun := some d.now })
    else d)

/-- OFFSTATE_TEST_END (R318): terminal and supply voltages in 50 mV units. -/
def execOffstateTestEnd (t : Fin 64) (out : Fin 8) (von voff vsup : Nat) (s : State) : Host.Outcome State Fault Refusal :=
  s.runAny (fun d =>
    match (d.to t out).offRun with
    | none => d
    | some at_ =>
      let d1 := (d.advance (at_ + 40000).toNat).upTo t out (fun o => { o with offRun := none })
      let d2 := if 80 < von then d1.causeCome t out 0x1C von else d1.causeGone t out 0x1C von
      let d3 := if von < 4 then d2.causeCome t out 0x1D von else d2.causeGone t out 0x1D von
      if vsup < voff + 20 then d3.causeCome t out 0x1E voff else d3.causeGone t out 0x1E voff)

/-- INHIBIT_INPUT (R319, R321). -/
def execInhibitInput (t : Fin 64) (s : State) : Host.Outcome State Fault Refusal :=
  s.runAny (fun d =>
    let was := (d.tle t).inhl
    let d1 := d.upTle t (fun x => { x with inhp := true, inhl := true })
    let d2 := forN 8 (fun x j => x.upTo t j (fun o => { o with offPend := false, offRun := none })) d1
    if was then d2 else (d2.cutDrives t 4 (fun _ => true)).tdiag2 t true 0 0x20 1)

/-- INHIBIT_INPUT_RELEASE (R322). -/
def execInhibitInputRelease (t : Fin 64) (s : State) : Host.Outcome State Fault Refusal :=
  s.runAny (fun d => if (d.tle t).inhp then d.upTle t (fun x => { x with inhp := false, quiet := d.now }) else d)

/-- INH_REARM (R322). -/
def execInhRearm (t : Fin 64) (s : State) : Host.Outcome State Fault Refusal := s.runAny (fun d => d.inhRearm t)

/-- TILE_OVERTEMP (R327): sent when the cause arises or goes. -/
def execTileOvertemp (t : Fin 64) (hot : Bool) (temp : Nat) (s : State) : Host.Outcome State Fault Refusal :=
  s.runAny (fun d =>
    let d1 := d.upTle t (fun x => { x with temp := min temp 255, hot := hot })
    if hot == (d.tle t).hot then d1 else d1.tdiag2 t hot 0 0x28 (min temp 255))

end Sys2Proof.Machine
end

