-- ==== Sys2Proof/Machine/TileFrame.lean ====
section
/-! DEFINITION. The frames a tile receives, its states, and the lanes of a link (R239-R243, R249-R262, R268-R271,
R274-R285, R294, R362). -/

namespace Sys2Proof.Machine

/-! ### States (R268, R269) -/

/-- The downstream port of a side opens or closes, or its lock comes or goes (R234, R362): what it carried until then is on
its lanes. -/
def Dev.dsPort (d : Dev) (t : Nat) (sd : Bool) (f : TSide → TSide) : Dev :=
  let d1 := if sd == d.mySide then d.lanesNow (t / 4) else d
  d1.upTs t sd (fun s =>
    let x := f s
    { x with dn := if x.locked && !s.locked then x.dn.fresh (3 * d1.fab) else if x.repeats && !s.repeats then x.dn.idleTo (3 * d1.fab) else x.dn
             dsp := if x.repeats && !s.repeats && x.mirror then x.dsp.idleTo (3 * d1.fab) else x.dsp })

/-- What leaving an addressed state clears: downstream port, amend numbers, stored results, an armed yield. -/
def TSide.unaddr (s : TSide) : TSide := { s with st := 0, dsopen := false, seqs := [], avers := [], yieldAt := none }

/-- Link registers of a side take their reset values. -/
def Dev.tileLinkReset (d : Dev) (t : Nat) (sd : Bool) : Dev :=
  d.upTle t (fun x => { x with regs := x.regs.filter (fun p => !((!sd && decide (p.1 < 0x100)) || (sd && decide (0x10000 ≤ p.1)))) })

/-- CTL MIRROR at one side: its spares begin or end to carry what the working lanes do, frames under way included (R276). -/
def Dev.setMirror (d : Dev) (t : Nat) (sd on : Bool) : Dev :=
  let d1 := (if sd == d.mySide then d.lanesNow (t / 4) else d).upRun t sd
  let c := 3 * d1.fab
  if (d1.ts t sd).mirror == on then d1
  else d1.upTs t sd (fun x =>
    if on then { x with mirror := on, dsp := x.dsp.joins x.dn c, lane := { x.lane with sp := x.lane.sp.joins x.lane.wk c } }
    else { x with mirror := on, dsp := x.dsp.leaves c, lane := { x.lane with sp := x.lane.sp.leaves c } })

/-- CTL RESET at one side. -/
def Dev.sideReset (d : Dev) (t : Nat) (sd : Bool) : Dev :=
  ((d.cutDrives t 7 (fun v => v.side == sd)).tileLinkReset t sd).setMirror t sd false |>.dsPort t sd
    (fun s => { s.unaddr with pulses := [], pos := 0, sd := false, tstep := false, wdrop := 0 })

/-- Link loss: pulses already started complete; the lease holder keeps the others until its lapse (R269, R360). -/
def Dev.sideLoss (d : Dev) (t : Nat) (sd : Bool) : Dev :=
  let keep := (d.tle t).lease == some sd
  d.dsPort t sd (fun s => { s.unaddr with pulses := if keep then s.pulses else [] })

/-- PWR with EN = 0: drives in progress end, stored pulses are discarded (R269), each reported PWR_OFF (R264). -/
def Dev.sidePwrOff (d : Dev) (t : Nat) (sd : Bool) : Dev :=
  let d1 := d.cutDrives t 7 (fun v => v.side == sd)
  let d2 := (d.ts t sd).pulses.foldl (fun (x : Dev) p => x.tdone t sd p 7 (x.tlu t sd) (x.tlu t sd) 0 0) d1
  d2.upTs t sd (fun s => { s with st := 2, pulses := [] })

/-- TILE_UPSTREAM_LOCK_LOSS (R268, R362). -/
def execTileUpstreamLockLoss (t : Fin 64) (side : Bool) (s : State) : Host.Outcome State Fault Refusal :=
  s.runAny (fun d => (d.sideLoss t side).dsPort t side (fun x => { x with locked := false }))

/-- TILE_UPSTREAM_LOCK_GAINED (R362). -/
def execTileUpstreamLockGained (t : Fin 64) (side : Bool) (s : State) : Host.Outcome State Fault Refusal :=
  s.runAny (fun d => d.dsPort t side (fun x => { x with locked := true }))

/-- TILE_LINK_WDOG (R268): in TIMED and ATTACHED only. -/
def execTileLinkWdog (t : Fin 64) (side : Bool) (s : State) : Host.Outcome State Fault Refusal :=
  s.runAny (fun d => if 2 ≤ (d.ts t side).st then d.sideLoss t side else d)

/-- TILE_POWER_ON (R285): every register, and both sides, as at power-on. -/
def execTilePowerOn (t : Fin 64) (s : State) : Host.Outcome State Fault Refusal :=
  s.runAny (fun d => d.setTle t { tile0 with vrefAt := d.now, quiet := d.now })

/-- DS_LOST (R274). -/
def execDsLost (t : Fin 64) (side : Bool) (s : State) : Host.Outcome State Fault Refusal :=
  s.runAny (fun d => (d.upTs t side (fun x => { x with dsPres := false })).tdiag t side true 0 0x01 0)

/-- DS_PRES (R274): in the next STATUS. -/
def execDsPres (t : Fin 64) (side : Bool) (s : State) : Host.Outcome State Fault Refusal :=
  s.runAny (fun d => d.upTs t side (fun x => { x with dsPres := true }))

/-- The WAVE frame, own or forwarded, that has waited longest. -/
def UpLane.wave (l : UpLane) : Option UItem :=
  (l.wait.filter (fun i => i.frame.typ == 0x18)).foldl (fun m i => some (m.elim i (fun j => if i.at_ < j.at_ then i else j))) none

/-- WAVE_DROP (R282): the oldest WAVE frame of an up lane has waited 50 µs (60,000 thirds of a FAB cycle), if it still waits then. -/
def execWaveDrop (t : Fin 64) (side : Bool) (s : State) : Host.Outcome State Fault Refusal :=
  s.runAny (fun d =>
    match (d.upRun t side).ts t side |>.lane.wave with
    | none => d.upRun t side
    | some i =>
      let d1 := ((d.upRun t side).advance (((i.at_ + 60000) / 6 : Nat) - d.fabOff).toNat).upRun t side
      if (d1.ts t side).lane.wait.contains i then
        d1.upTs t side (fun x => { x with up := if i.own then x.up.erase i.frame else x.up, lane := { x.lane with wait := x.lane.wait.erase i }, wdrop := min 255 (x.wdrop + 1) })
      else d1)

/-! ### Receiving (R239, R249, R250) -/

/-- A damaged frame is discarded and counted. -/
def Dev.tdisc (d : Dev) (t : Nat) (sd : Bool) : Dev := d.tinc t sd F.TILE_CNT_DISC

/-- A frame of a reserved type is discarded, counted and reported (R241); DIAG's DATA is a free value. -/
def Dev.treserved (d : Dev) (t : Nat) (sd : Bool) : Dev :=
  let r := (d.tdisc t sd).drawFree
  r.2.tdiag t sd true 0 0x05 r.1.toNat

/-- What the device sends reaches tile t: every tile before it repeats it downstream, and its upstream port is locked (R234,
R362). -/
def Dev.passes (d : Dev) (t : Nat) (sd : Bool) : Bool :=
  (List.range (t % 4)).all (fun q => (d.ts (t / 4 * 4 + q) sd).repeats) && (d.ts t sd).locked

/-- ACK (R244); a side in UNADDR answers NOTREADY all the same. -/
def Dev.tack (d : Dev) (t : Nat) (sd : Bool) (seq result pmask : Nat) : Dev :=
  let r := d.tlu32 t sd
  r.2.tupAny t sd 0x11 [seq % 256 * 2 ^ 16 + pmask * 2 ^ 8 + result, r.1]

/-- A frame without acknowledgement that states from `low` on accept. -/
def Dev.tun (d : Dev) (t : Nat) (sd ok : Bool) (low : Nat) (f : Dev → Dev) : Dev :=
  if !d.passes t sd then d else if !ok then d.tdisc t sd else if (d.ts t sd).st < low then d else f d

/-- A reliable frame has been acted on with result r, the pulses concerned with it: the side keeps its SEQ and acknowledges it
(R249, R250). -/
def Dev.tileEnd (t : Nat) (sd : Bool) (seq : Nat) (r : Dev × Nat × Nat) : Dev :=
  (r.1.upTs t sd (fun s => { s with seqs := ((seq, r.2.1, r.2.2) :: s.seqs).take 32 })).tack t sd seq r.2.1 r.2.2

/-- A reliable frame: acted on once; f gives the result and the pulses concerned. -/
def Dev.trel (d : Dev) (t : Nat) (sd ok : Bool) (seq low : Nat) (f : Dev → Dev × Nat × Nat) : Dev :=
  if !d.passes t sd then d
  else if !ok then d.tdisc t sd
  else match (d.ts t sd).seqs.find? (fun e => e.1 == seq) with
    | some e => d.tack t sd seq e.2.1 e.2.2
    | none => if (d.ts t sd).st < low then d.tack t sd seq 3 0 else Dev.tileEnd t sd seq (f d)

/-! ### Time (R253-R256) -/

/-- Words of STATUS (R244, R328) after a TIME frame whose error is terr. -/
def Dev.statusWords (d : Dev) (t : Nat) (sd : Bool) (terr : Int) : List Nat :=
  let s := d.ts t sd
  let x := d.tle t
  let outs := List.range 8
  let mask := fun (p : TOut → Bool) => outs.foldl (fun a j => a + b2n (p (d.to t j)) * 2 ^ j) 0
  [b2n s.tstep * 2 ^ 22 + b2n s.sokU * 2 ^ 21 + b2n s.sokD * 2 ^ 20 + b2n s.spU * 2 ^ 19 + b2n s.spD * 2 ^ 18 + b2n s.dsopen * 2 ^ 17
      + b2n s.dsPres * 2 ^ 16 + ofS 16 (clampI (-32768) 32767 terr),
   x.temp * 2 ^ 24 + s.wdrop * 2 ^ 16 + s.cv1 * 2 ^ 8 + s.cv0,
   b2n (d.boostEn t) * 2 ^ 31 + b2n (d.boostReady t) * 2 ^ 30 + b2n (d.vrefNow t != d.vset t) * 2 ^ 29 + b2n x.bflt * 2 ^ 28 + b2n x.inhp * 2 ^ 27
      + b2n x.inhl * 2 ^ 26 + min 255 (x.rail / 10) * 2 ^ 16 + mask (fun o => !o.causes.isEmpty) * 2 ^ 8
      + mask (fun o => o.drv.isSome || o.win.isSome)]

/-- TIME (R256). -/
def execTime (t : Fin 64) (side ok : Bool) (stamp : Nat) (s : State) : Host.Outcome State Fault Refusal :=
  s.runAny (fun d => d.tun t side ok 2 (fun d =>
    let terr : Int := 192 * stamp + d.tget t side F.TILE_DLY_DLY - (192 * d.now + (d.ts t side).off)
    let big := decide (384 < terr.natAbs)
    let adj := if big then terr else clampI (-24) 24 terr
    let d1 := d.upTs t side (fun x => { x with off := x.off + adj, tstep := x.tstep || big, fresh := true })
    (d1.tup t side 0x14 (d1.statusWords t side terr)).upTs t side (fun x => { x with tstep := false, wdrop := 0, cv0 := 0, cv1 := 0 })))

/-- TIMESET (R255, R268). -/
def execTimeset (t : Fin 64) (side ok : Bool) (seq stamp : Nat) (stepc : Bool) (dly : Nat) (s : State) : Host.Outcome State Fault Refusal :=
  s.runAny (fun d => d.trel t side ok seq 1 (fun d =>
    let d1 := d.tput t side F.TILE_DLY_DLY dly
    (if stepc then d1.upTs t side (fun x => { x with off := 192 * stamp + (dly % 2 ^ 24 : Nat) - 192 * d.now, st := max x.st 2 }) else d1, 0, 0)))

/-- ECHO_REQ (R253): `tt` is the turnaround up to the moment the answer is ready for the up lane. -/
def execEchoReq (t : Fin 64) (side ok : Bool) (etag tt : Nat) (s : State) : Host.Outcome State Fault Refusal :=
  s.runAny (fun d => d.tun t side ok 1 (fun d => d.tup t side 0x12 [etag % 65536, tt % 2 ^ 24, 0]))

/-! ### Discovery (R270, R271) -/

/-- IDENT words: the reference tile's figures (R283). -/
def identWords (d : Dev) (t : Nat) (sd : Bool) : List Nat :=
  let w1 := (d.trd t sd R.TILE_ID1).toNat
  [(d.trd t sd R.TILE_ID0).toNat, w1 / 2 ^ 12 * 2 ^ 12 + 2 ^ 9 + 2 ^ 8 + w1 % 256, (d.trd t sd R.TILE_SER_LO).toNat, (d.trd t sd R.TILE_SER_HI).toNat, 24]

/-- DISCOVER at tile t (R234, R271): taken and answered in UNADDR, else repeated to the next tile while the port is open. -/
def Dev.discoverAt (d : Dev) (sd dside : Bool) (pos : Nat) : Nat → Nat → Dev
  | 0, _ => d
  | k + 1, t =>
    if !(d.ts t sd).locked then d
    else if (d.ts t sd).st = 0 then
      let d1 := d.upTs t sd (fun x => { x with st := 1, pos := pos, sd := dside })
      d1.tup t sd 0x16 (identWords d1 t sd)
    else if (d.ts t sd).dsopen && decide (t % 4 < 3) then d.discoverAt sd dside pos k (t + 1)
    else d

/-- DISCOVER (R271). -/
def execDiscover (t : Fin 64) (side ok : Bool) (_proto : Nat) (dside : Bool) (pos : Fin 4) (s : State) : Host.Outcome State Fault Refusal :=
  s.runAny (fun d => if !d.passes t side then d else if !ok then d.tdisc t side else d.discoverAt side dside pos 4 t)

/-- PWR (R268, R269). -/
def execPwr (t : Fin 64) (side ok : Bool) (seq w1 w2 : Nat) (s : State) : Host.Outcome State Fault Refusal :=
  s.runAny (fun d => d.trel t side ok seq 2 (fun d =>
    if w1 % 2 ^ 32 + w2 % 2 ^ 32 ≠ 2 ^ 32 - 1 then (d, 10, 0)
    else if bitOf w1 0 then (d.upTs t side (fun x => { x with st := 3 }), 0, 0)
    else if (d.ts t side).st = 3 then (d.sidePwrOff t side, 0, 0) else (d, 0, 0)))

/-- PRFSET (R294): the profile copy of a side. -/
def execPrfset (t : Fin 64) (side ok : Bool) (seq : Nat) (prf : Fin 256) (words : List Nat) (s : State) : Host.Outcome State Fault Refusal :=
  s.runAny (fun d => d.trel t side ok seq 2 (fun d => (d.upTs t side (fun x => { x with profs := smSet x.profs [] prf words }), 0, 0)))

/-! ### CTL (R243) -/

/-- CTL_RESET (R268, R269): every tile beyond that it reaches, too, where ARG asks for it. -/
def execCtlReset (t : Fin 64) (side ok : Bool) (_seq : Nat) (beyond : Bool) (s : State) : Host.Outcome State Fault Refusal :=
  s.runAny (fun d =>
    if !d.passes t side then d
    else if !ok then d.tdisc t side
    else forN 4 (fun x q =>
      if q == t.val % 4 || (beyond && decide (t.val % 4 < q) && d.passes (t.val / 4 * 4 + q) side) then x.sideReset (t.val / 4 * 4 + q) side else x) d)

/-- CTL_DSOPEN (R270). -/
def execCtlDsopen (t : Fin 64) (side ok : Bool) (seq : Nat) (s : State) : Host.Outcome State Fault Refusal :=
  s.runAny (fun d => d.trel t side ok seq 1 (fun d => (d.dsPort t side (fun x => { x with dsopen := true }), 0, 0)))

/-- CTL_DSCLOSE (R234). -/
def execCtlDsclose (t : Fin 64) (side ok : Bool) (seq : Nat) (s : State) : Host.Outcome State Fault Refusal :=
  s.runAny (fun d => d.trel t side ok seq 1 (fun d => (d.dsPort t side (fun x => { x with dsopen := false }), 0, 0)))

/-- A frame of hop 0 is in transmission, and the downstream port of tile t carries it. -/
def Dev.carries (d : Dev) (t : Nat) (sd : Bool) : Bool :=
  sd == d.mySide && d.chainTo (t / 4) (t % 4) && !((d.lk (t / 4)).partOf (3 * d.fab)).chars.isEmpty

/-- The tile swaps the lanes of its downstream port (R277): LSWAP goes on both at the end of the frame that the port carries. -/
def Dev.swapDn (d : Dev) (t : Nat) (sd : Bool) : Dev :=
  let d1 := if sd == d.mySide then d.lanesNow (t / 4) else d
  let busy := d1.carries t sd
  d1.upTs t sd (fun x =>
    let y := { x with swDn := x.swDn + 1, dueDn := x.dueDn + 1 }
    if busy then y else y.swapDue (3 * d1.fab))

/-- The tile swaps its up lanes: LSWAP goes on both at the end of the frame they carry. -/
def Dev.swapUp (d : Dev) (t : Nat) (sd : Bool) : Dev :=
  let d1 := d.upRun t sd
  d1.upTs t sd (fun x =>
    let y := swapLanes x.lane.wk x.lane.sp (x.lane.wk.start (3 * d1.fab) false)
    { x with swUp := x.swUp + 1, lane := { x.lane with wk := y.1, sp := y.2 } })

/-- CTL_SWAP_DN (R277, R278): what the receiver does is LSWAP. -/
def execCtlSwapDn (t : Fin 64) (side ok : Bool) (seq : Nat) (s : State) : Host.Outcome State Fault Refusal :=
  s.runAny (fun d => d.trel t side ok seq 1 (fun d => (d.swapDn t side, 0, 0)))

/-- CTL_SWAP_UP (R277, R278). -/
def execCtlSwapUp (t : Fin 64) (side ok : Bool) (seq : Nat) (s : State) : Host.Outcome State Fault Refusal :=
  s.runAny (fun d => d.trel t side ok seq 1 (fun d => (d.swapUp t side, 0, 0)))

/-- The receiver of hop q of link n, up or down, on a side: its spare's state. A receiver on hop 0 up is the device. -/
def Dev.setTrained (d : Dev) (n q : Nat) (sd up b : Bool) : Dev :=
  if up && q == 0 then (if sd == d.mySide then d.setSok n 0 true b else d)
  else if up then d.upTs (tileNo n (q - 1)) sd (fun x => { x with sokU := b })
  else d.upTs (tileNo n q) sd (fun x => { x with sokD := b })

/-- Tile t no longer mirrors what it transmits: the spares of the hop beyond it down, and of its own hop up, lose their
training (R276). -/
def Dev.unmirror (d : Dev) (t : Nat) (sd : Bool) : Dev :=
  let d1 := d.setTrained (t / 4) (t % 4) sd true false
  if t % 4 < 3 then d1.setTrained (t / 4) (t % 4 + 1) sd false false else d1

/-- CTL_MIRROR (R276). -/
def execCtlMirror (t : Fin 64) (side ok : Bool) (seq : Nat) (on : Bool) (s : State) : Host.Outcome State Fault Refusal :=
  s.runAny (fun d => d.trel t side ok seq 1 (fun d =>
    let d1 := d.setMirror t side on
    (if on then d1 else d1.unmirror t side, 0, 0)))

/-! ### Registers (R284, R285) -/

/-- TILE_LINK as seen through a side. -/
def TSide.linkWord (s : TSide) : Nat :=
  b2n s.mirror * 2 ^ 10 + b2n s.dsopen * 2 ^ 9 + b2n s.sd * 2 ^ 8 + s.pos * 2 ^ 4 + s.st

/-- TILE_DUP as seen through a side. -/
def Dev.dupWord (d : Dev) (t : Nat) (sd : Bool) : Nat :=
  let l := (d.tle t).lease
  b2n (d.ts t sd).yieldAt.isSome * 2 ^ 5 + b2n (d.tEligible t (!sd)) * 2 ^ 4 + b2n (l == some (!sd)) * 2 ^ 3 + b2n (l == some sd) * 2 ^ 2
    + b2n (d.ts t sd).fresh * 2 + d.tget t sd F.TILE_DUP_ELIG

/-- A read of a tile register: RESULT and data (R244, R285). -/
def Dev.tileRead (d : Dev) (t : Nat) (sd : Bool) (a : Nat) : Nat × Nat :=
  let x := d.tle t
  if a = 0x4 then (0, (d.ts t sd).linkWord)
  else if a = 0x10 then (0, d.dupWord t sd)
  else if a = 0x102 then
    (0, b2n (d.boostEn t) * 2 ^ 19 + b2n (d.boostReady t) * 2 ^ 18 + b2n (d.vrefNow t != d.vset t) * 2 ^ 17 + b2n x.bflt * 2 ^ 16
      + min 255 (d.vrefNow t / 10) * 2 ^ 8 + min 255 (x.rail / 10))
  else if a = 0x104 then (0, d.inhQuiet t * 2 ^ 16 + b2n x.inhl * 2 + b2n x.inhp)
  else if a = 0x105 then (0, (List.range 8).foldl (fun b j => b + b2n (d.to t j).offPend * 2 ^ (8 + j)) 0)
  else if a < 8 || a = 0x11 || a = 0x12 || (0x100 ≤ a && a ≤ 0x103) || (0x110 ≤ a && a < 0x118) then (0, (d.trd t sd a).toNat)
  else if 0x100 ≤ a && a < 0x1000 then (0, 0)
  else (11, 0)

/-- A write of a tile register, and its RESULT (R251, R285, R287). -/
def Dev.tileWrite (d : Dev) (t : Nat) (sd : Bool) (a data : Nat) : Dev × Nat :=
  if a = 0x6 then (d.tput t sd F.TILE_WDOG_LINK_TO data, 0)
  else if a = 0x7 then (if bitOf data 31 then d.twr t sd R.TILE_CNT 0 else d, 0)
  else if a = 0x10 then (d.tput t sd F.TILE_DUP_ELIG data, 0)
  else if a = 0x11 then (match d.dupAt t sd data with | (x, ok) => (x, if ok then 0 else 11))
  else if a = 0x12 then (if bitOf data 31 then d.twr t sd R.TILE_DUPCNT 0 else d, 0)
  else if a = 0x100 then (match d.boostCtlSet t data with | (x, ok) => (x, if ok then 0 else 11))
  else if a = 0x101 then (d.boostSet t data (d.tle t).rail, 0)
  else if a = 0x104 then (if bitOf data 2 then d.inhRearm t else d, 0)
  else if a = 0x105 then (d.offtReq t (data % 256), 0)
  else if 0x110 ≤ a && a < 0x118 then (d.twr t sd a (BitVec.ofNat 32 data &&& 0xFF01#32), 0)
  else (d, 11)

/-- REGWR (R251, R284). -/
def execRegwr (t : Fin 64) (side ok : Bool) (seq addr data : Nat) (s : State) : Host.Outcome State Fault Refusal :=
  s.runAny (fun d => d.trel t side ok seq 1 (fun d => match d.tileWrite t side (addr % 65536) data with | (x, r) => (x, r, 0)))

/-- REGRD (R284). -/
def execRegrd (t : Fin 64) (side ok : Bool) (addr : Nat) (s : State) : Host.Outcome State Fault Refusal :=
  s.runAny (fun d => d.tun t side ok 1 (fun d =>
    let r := d.tileRead t side (addr % 65536)
    d.tup t side 0x17 [r.1 * 2 ^ 16 + addr % 65536, r.2]))

/-! ### COMMIT, AMEND, CANCEL (R259-R262): 40 ns are 64 link units -/

/-- The pulse an output drives for a side: the holder's own, or the matched shadow. -/
def Drive.pulseOf (v : Drive) (sd : Bool) : Option TPulse := if v.side == sd then some v.p else v.shadow

/-- Pulses of a side that outputs drive. -/
def Dev.driven (d : Dev) (t : Nat) (sd : Bool) : List TPulse :=
  (List.range 8).filterMap (fun j => (d.to t j).drv.bind (fun v => v.pulseOf sd))

/-- The handle is held: a pulse of it is stored or driven. -/
def Dev.handleHeld (d : Dev) (t : Nat) (sd : Bool) (h : Nat) : Bool :=
  ((d.ts t sd).pulses ++ d.driven t sd).any (fun p => p.handle == h)

/-- The result of a COMMIT of these pulses (R251, R260). -/
def Dev.commitCheck (d : Dev) (t : Nat) (sd : Bool) (h : Nat) (ps : List TPulse) : Nat :=
  let held := (d.ts t sd).pulses ++ d.driven t sd
  let slots := d.tget t sd F.TILE_ID1_SLOTS
  if d.handleHeld t sd h then 1
  else if ps.any (fun p => p.rcd.isEmpty) then 4
  else if (List.range 8).any (fun j => decide (slots < ((held ++ ps).filter (fun p => p.out == j)).length) && ps.any (fun p => p.out == j)) then 2
  else if ps.any (fun p => decide (p.start < d.tlu t sd + 64)) then 5
  else 0

/-- An accepted COMMIT abandons the tests it meets (R319). -/
def Dev.offAbandon (d : Dev) (t : Nat) (sd : Bool) (ps : List TPulse) : Dev :=
  forN 8 (fun x j =>
    match (x.to t j).offRun with
    | none => x
    | some a =>
      let lim := x.tlu t sd + 8 * (a + 40000 - (x.now : Int)) + 16000
      if ps.any (fun p => p.out == j && decide (p.start ≤ lim)) then x.upTo t j (fun o => { o with offRun := none }) else x) d

/-- A pulse entry as stored, with the profile record in force. -/
def TSide.entry (s : TSide) (near : Int) (h : Nat) (e : PulseEntry) : TPulse :=
  ⟨h, e.pidx, e.out, e.prf, e.clen, nearest 48 near e.start, nearest 48 near e.stop, smGet s.profs [] e.prf⟩

/-- A COMMIT as accepted or refused: RESULT and the pulses concerned (R260). -/
def Dev.commitApply (d : Dev) (t : Nat) (sd : Bool) (handle : Nat) (pulses : List PulseEntry) : Dev × Nat × Nat :=
  let ps := pulses.map ((d.ts t sd).entry (d.tlu t sd) handle)
  let r := d.commitCheck t sd handle ps
  if r = 0 then ((d.offAbandon t sd ps).upTs t sd (fun x => { x with pulses := x.pulses ++ ps, avers := smDel x.avers handle }), 0, 0)
  else (d, r, 0)

/-- COMMIT (R241, R260). -/
def execCommit (t : Fin 64) (side : Bool) (rx : Rx) (seq handle _vint : Nat) (_rev : Bool) (pulses : List PulseEntry) (s : State) :
    Host.Outcome State Fault Refusal :=
  s.runAny (fun d =>
    match rx with
    | .reserved => if d.passes t side then d.treserved t side else d
    | _ => d.trel t side (rx == .good) seq 3 (fun d => d.commitApply t side handle pulses))

/-- Is AVER a newer than the last one applied (R261); 0 where none has been. -/
def averNewer (a b : Nat) : Bool :=
  if b = 0 then true else
  let k := (a + 256 - b % 256) % 256
  decide (1 ≤ k) && decide (k ≤ 127)

/-- A time is replaced, and whether the old one is kept instead (R261). -/
def amendTime (now old new : Int) (can : Bool) : Int × Bool :=
  if can && decide (now + 64 ≤ old) && decide (now + 64 ≤ new) then (new, false) else (old, true)

/-- One pulse of an AMEND. -/
def Dev.amendPulse (d : Dev) (t : Nat) (sd : Bool) (h i : Nat) (tm : Nat × Nat) : Dev × Bool :=
  let now := d.tlu t sd
  let mine := fun (p : TPulse) => p.handle == h && p.pidx == i
  match (d.ts t sd).pulses.find? mine with
  | some p =>
    let a := amendTime now p.start (nearest 32 p.start (tm.1 % 2 ^ 32)) true
    let b := amendTime now p.stop (nearest 32 p.stop (tm.2 % 2 ^ 32)) true
    let q := { p with start := a.1, stop := b.1 }
    (d.upTs t sd (fun s => { s with pulses := s.pulses.map (fun x => if x = p then q else x) }), a.2 || b.2)
  | none =>
    match findN 8 (fun j => (d.to t j).drv.elim false (fun v => (v.pulseOf sd).elim false mine)) with
    | none => (d, true)
    | some j =>
      match (d.to t j).drv with
      | none => (d, true)
      | some v =>
        match v.pulseOf sd with
        | none => (d, true)
        | some p =>
          let a := amendTime now p.start (nearest 32 p.start (tm.1 % 2 ^ 32)) false
          let b := amendTime now p.stop (nearest 32 p.stop (tm.2 % 2 ^ 32)) (v.phase != .off)
          let q := { p with stop := b.1 }
          (d.upDrv t j (if v.side == sd then { v with p := q } else { v with shadow := some q }), a.2 || b.2)

/-- Chain positions of a mask, ascending. -/
def maskBits (m : Nat) : List Nat := (List.range 8).filter (fun i => bitOf m i)

/-- AMEND (R261). -/
def execAmend (t : Fin 64) (side ok : Bool) (seq handle aver pmask : Nat) (times : List (Nat × Nat)) (s : State) :
    Host.Outcome State Fault Refusal :=
  s.runAny (fun d => d.trel t side ok seq 3 (fun d =>
    if !d.handleHeld t side handle then (d, 6, 0)
    else if !averNewer aver (smGet (d.ts t side).avers 0 handle) then (d, 9, 0)
    else
      let d1 := d.upTs t side (fun x => { x with avers := smSet x.avers 0 handle aver })
      let r := ((maskBits pmask).zip times).foldl (fun (a : Dev × Nat) e =>
        let q := a.1.amendPulse t side handle e.1 e.2
        (q.1, if q.2 then a.2 + 2 ^ e.1 else a.2)) (d1, 0)
      (r.1, if r.2 = 0 then 0 else 7, r.2)))

/-- CANCEL (R262). -/
def execCancel (t : Fin 64) (side ok : Bool) (seq handle pmask : Nat) (s : State) : Host.Outcome State Fault Refusal :=
  s.runAny (fun d => d.trel t side ok seq 3 (fun d =>
    if !d.handleHeld t side handle then (d, 6, 0)
    else
      let now := d.tlu t side
      let hit := fun (p : TPulse) => p.handle == handle && bitOf pmask p.pidx && decide (now + 64 ≤ p.start)
      let gone := (d.ts t side).pulses.filter hit
      let late := (maskBits pmask).foldl (fun a i =>
        if gone.any (fun p => p.pidx == i) || !((d.ts t side).pulses ++ d.driven t side).any (fun p => p.handle == handle && p.pidx == i) then a
        else a + 2 ^ i) 0
      (d.upTs t side (fun x => { x with pulses := x.pulses.filter (fun p => !hit p) }), if late = 0 then 0 else 8, late)))

/-! ### Lanes (R276-R280) -/

/-- The receiver of a hop direction takes the other lane, offset by the skew measured; the former working lane is the spare,
not trained yet, whose skew against the new one is the opposite (R277). A tile's time copy steps by at most 0.5 ns, a free
value (R280). -/
def Dev.laneTake (d : Dev) (n p : Nat) (up : Bool) : Dev :=
  let sd := d.mySide
  if up && p == 0 then ((d.put (spup n 0) (1 - d.get (spup n 0))).setSok n 0 true false).upLk n (fun l => { l with skew0U := -l.skew0U })
  else if up then (d.upTs (tileNo n (p - 1)) sd (fun x => { x with spU := !x.spU, sokU := false, skewU := -x.skewU })).setSok n p true false
  else
    let r := d.drawFree
    (r.2.upTs (tileNo n p) sd (fun x =>
      { x with spD := !x.spD, sokD := false, skewD := -x.skewD, off := x.off + ((r.1.toNat % 39 : Nat) : Int) - 19 })).setSok n p false false

/-- LSWAP (R277), and the echoes that follow a swap (R253, R280). -/
def execLswap (n : Fin 16) (p : Fin 4) (up : Bool) (s : State) : Host.Outcome State Fault Refusal :=
  s.run (fun d => (d.laneTake n p up).echoBeyond n p)

/-- The spare of a hop direction is trained at its receiver. -/
def Dev.trained (d : Dev) (n p : Nat) (up : Bool) : Bool :=
  if up && p == 0 then (d.lk n).sok0U
  else if up then (d.ts (tileNo n (p - 1)) d.mySide).sokU else (d.ts (tileNo n p) d.mySide).sokD

/-- WORKING_LANE_LOSS (R279-R281): with a trained spare the receiver switches and the swap is counted. -/
def execWorkingLaneLoss (n : Fin 16) (p : Fin 4) (up : Bool) (s : State) : Host.Outcome State Fault Refusal :=
  s.run (fun d => if d.trained n p up then (((d.laneTake n p up).incSat (F.TLK_CNT1_SWAPS n)).laneLog).echoBeyond n p else d)

/-- The transmitter of a hop direction mirrors its spare (R276). -/
def Dev.mirrors (d : Dev) (n p : Nat) (up : Bool) : Bool :=
  if up then (d.ts (tileNo n p) d.mySide).mirror
  else if p = 0 then d.flag (F.TLK_LANE_MIRROR n) else (d.ts (tileNo n (p - 1)) d.mySide).mirror

/-- The receiver of a hop direction keeps the skew it measured (R276). -/
def Dev.setSkew (d : Dev) (n p : Nat) (up : Bool) (skew : Int) : Dev :=
  if up && p == 0 then d.upLk n (fun l => { l with skew0U := skew })
  else if up then d.upTs (tileNo n (p - 1)) d.mySide (fun x => { x with skewU := skew })
  else d.upTs (tileNo n p) d.mySide (fun x => { x with skewD := skew })

/-- SPARE_TRAINED (R276): only a mirrored spare trains. -/
def execSpareTrained (n : Fin 16) (p : Fin 4) (up : Bool) (skew : Int) (s : State) : Host.Outcome State Fault Refusal :=
  s.run (fun d => if d.mirrors n p up then ((d.laneOk n p up).setSkew n p up skew).setTrained n p d.mySide up true else d)

/-- Code violations on the working lane of a hop direction, as its receiver counts them (R244, R285); the device keeps no
count of its own on hop 0 up. -/
def Dev.laneCv (d : Dev) (n p : Nat) (up : Bool) (cv : Nat) : Dev :=
  let sd := d.mySide
  if up && p == 0 then d
  else if up then d.upTs (tileNo n (p - 1)) sd (fun x => { x with cv1 := min 255 (x.cv1 + cv) })
  else
    let t := tileNo n p
    (d.upTs t sd (fun x => { x with cv0 := min 255 (x.cv0 + cv) })).tput t sd F.TILE_CNT_CV (min 0xFFFF (d.tget t sd F.TILE_CNT_CV + cv))

/-- AUTO_SWAP (R278): 1 ms of a working lane ends. The device compares those that
STATUS has reported in it, its own on hop 0 up, with BERTH (DESIGN CHOICE, notes/assumptions/106.md). -/
def execAutoSwap (n : Fin 16) (p : Fin 4) (ms : LaneSpan) (s : State) : Host.Outcome State Fault Refusal :=
  s.run (fun d =>
    let x := d.lp n p
    let seen := if ms.up && p.val == 0 then ms.cv else if ms.up then x.cvU else x.cvD
    let d1 := (d.laneCv n p ms.up ms.cv).upLp n p (fun x => if ms.up then { x with cvU := 0 } else { x with cvD := 0 })
    if d.flag (F.TLK_LANE_AUTO n) && decide (d.get (F.TLK_LANE_BERTH n) < seen) then d1.planSwap n p ms.up else d1)

/-- A write of TLKn_LANE: the settings, then the swaps asked for; a change of MIRROR goes to every tile, and hop 0 down is the
device's own (R276). -/
def Dev.laneWrite (d : Dev) (n data : Nat) : Dev :=
  let was := d.flag (F.TLK_LANE_MIRROR n)
  let on := bitOf data 16
  let d0 := if was == on then d
    else
      let x := d.lanesNow n
      x.upLk n (fun l => { l with sp := if on then l.sp.joins l.wk (3 * x.fab) else l.sp.leaves (3 * x.fab) })
  let d1 := d0.wr (R.TLK_LANE n) (mix (d.rd (R.TLK_LANE n)) (BitVec.ofNat 32 data) 0xFF030000)
  let d2 := if was == on then d1
    else forN 4 (fun x p => if x.reached n p then x.sendRel n p 12 [6 + b2n on * 2 ^ 8] 0 0 0 else x) d1
  let d3 := if was && !on then d2.setTrained n 0 d2.mySide false false else d2
  forN 4 (fun x p =>
    let y := if bitOf data (4 * p) then x.planSwap n p false else x
    if bitOf data (4 * p + 1) then y.planSwap n p true else y) d3

end Sys2Proof.Machine
end

