-- ==== Sys2Proof/Machine/Mir.lean ====
section
/-! DEFINITION. The mirror link and the pair (R330-R354, R366, R368-R372): mirror frames, time, following, snapshots, takeover; and DIAG frames, which bring the leases of the tiles. Offsets and delays are 1/16 UI (192 to a tick). -/

namespace Sys2Proof.Machine

/-! ### The pair states' commands (R335, R341) -/

/-- A takeover that is refused. -/
def Dev.tkRefuse (d : Dev) (code : Nat) : Dev := (d.put F.MIR_TK_STAT_RESULT code).raise 22 6 0 1

/-- There is no partner any more: a takeover that is pending is refused (R371). -/
def Dev.partnerGone (d : Dev) : Dev :=
  let d1 := ((d.put F.MIR_STAT_PARTNER 0).upMir (fun m => { m with hello := none, rx := none, seen := [], tk := none })).causeOff 22 1 0
  if d.mir.tk.isSome then d1.tkRefuse 4 else d1

/-- The partner is lost (R335, R341). -/
def Dev.partnerLost (d : Dev) : Dev :=
  if !d.flag F.MIR_STAT_PARTNER then d
  else
    let d2 := d.partnerGone.raise 22 0 0 2
    match d.mirState with
    | 3 | 4 => d2.setPair 1
    | 5 | 6 => d2.setPair 2
    | _ => d2

/-- MIR_LANE_LOCK_LOSS (R335). -/
def execMirLaneLockLoss (s : State) : Host.Outcome State Fault Refusal :=
  s.run (fun d => ((d.put F.MIR_STAT_LOCK0 0).put F.MIR_STAT_LOCK1 0).partnerLost)

/-- MTIME_TIMEOUT (R335): in ALIGN and STANDBY. -/
def execMtimeTimeout (s : State) : Host.Outcome State Fault Refusal :=
  s.run (fun d => if d.mirState = 4 || d.mirState = 6 then d.partnerLost else d)

/-- HELLO_TIMEOUT (R335). -/
def execHelloTimeout (s : State) : Host.Outcome State Fault Refusal := s.run (fun d => d.partnerLost)

/-- MIR_RX_LANE_LOCK (R333): MLANE is present while one lane is without lock. -/
def execMirRxLaneLock (lane : Fin 2) (locked : Bool) (s : State) : Host.Outcome State Fault Refusal :=
  s.run (fun d =>
    let f := if lane = 0 then F.MIR_STAT_LOCK0 else F.MIR_STAT_LOCK1
    if d.flag f == locked then d
    else
      let d1 := d.putB f locked
      if locked then (if d1.flag F.MIR_STAT_LOCK0 && d1.flag F.MIR_STAT_LOCK1 then d1.causeOff 22 7 0 else d1)
      else (d1.incSat F.MIR_CNT2_LANEF).causeOn 22 7 0 1)

/-- A write of MIR_CTL. -/
def Dev.mirCtlWrite (d : Dev) (data : Nat) : Dev :=
  let was := d.flag F.MIR_CTL_EN
  let d1 := d.wr R.MIR_CTL (BitVec.ofNat 32 data &&& 3#32)
  let d2 := if !was && bitOf data 0 then d1.setPair 1
    else if was && !bitOf data 0 then d1.partnerGone.setPair 0
    else d1
  if bitOf data 2 && d2.mirState == 6 then d2.setPair 4 else d2

/-- MIR_ENABLE (R341, R342). -/
def execMirEnable (_req : Fin 10) (s : State) : Host.Outcome State Fault Refusal := s.run (fun d => d.mirCtlWrite ((d.rd R.MIR_CTL).toNat ||| 1))

/-- MIR_DISABLE (R341, R342). -/
def execMirDisable (_req : Fin 10) (s : State) : Host.Outcome State Fault Refusal :=
  s.run (fun d => d.mirCtlWrite (2 * d.get F.MIR_CTL_PREF))

/-- RESYNC (R341). -/
def execResync (_req : Fin 10) (s : State) : Host.Outcome State Fault Refusal := s.run (fun d => d.mirCtlWrite ((d.rd R.MIR_CTL).toNat ||| 4))

/-- SOLO_WAIT_EXPIRY (R341): SOLO_WAIT ms after the entry into SEEK. -/
def execSoloWaitExpiry (s : State) : Host.Outcome State Fault Refusal :=
  s.run (fun d =>
    if d.mirState = 1 && !d.flag F.MIR_STAT_PARTNER then (d.advance (d.mir.since + 200000 * max 1 (d.get F.MIR_CFG_SOLO_WAIT))).setPair 2 else d)

/-! ### Receiving (R333, R334) -/

/-- A mirror frame with SEQ seq is accepted: a SEQ up to 127 ahead is the newest, and one that skips others raises FOLLOW_GAP
in ALIGN or STANDBY and aligns anew (R334); one behind came late on the other lane. -/
def Dev.mirSeen (d : Dev) (seq : Nat) : Dev :=
  let ahead := d.mir.rx.elim 1 (fun r => (seq % 256 + 256 - r) % 256)
  let d1 := d.upMir (fun m => { m with rx := if ahead < 128 then some (seq % 256) else m.rx, seen := (seq % 256 :: m.seen).take 128 })
  if (d.mirState == 4 || d.mirState == 6) && decide (2 ≤ ahead) && decide (ahead < 128) then (d1.raise 22 8 0 2).realign else d1

/-- A mirror frame: discarded and counted when damaged, discarded when it is the copy of a frame taken, one of the last 128
(R333). In OFF the device takes no mirror frame. -/
def Dev.mirRx (d : Dev) (ok : Bool) (seq : Nat) (f : Dev → Dev) : Dev :=
  if d.mirState = 0 then d
  else if !ok then d.incSat F.MIR_CNT2_FRDISC
  else if d.mir.seen.contains (seq % 256) then d
  else f (d.mirSeen seq)

/-! ### HELLO (R335, R343, R344) -/

/-- The version of the running firmware. -/
def Dev.dver (d : Dev) : Nat :=
  let b := d.flag F.MGS_STAT_BANK
  let a := 0x100000 * b2n b
  if memRead d.mram a 4 = 0x53484E4A then memRead d.mram (a + 14) 2 else Config.fwDver b % 2 ^ 16

/-- Which comparison of R343 fails first. -/
def Dev.incompat (d : Dev) (h : MirHello) : Nat :=
  if h.proto ≠ 1 then 1 else if h.dver % 2 ^ 16 ≠ d.dver then 2
  else if h.cur % 2 ^ 16 ≠ d.get F.SYS_VINTAGE_CUR then 3 else if h.image % 2 ^ 16 ≠ d.get F.SYS_VINTAGE_IMAGE then 4 else 0

/-- This device wins the role (R344). -/
def Dev.winsRole (d : Dev) (h : MirHello) : Bool :=
  let mine := d.flag F.MIR_CTL_PREF
  if mine == h.pref then decide (Config.devSerial < h.serial) else mine

/-- The pair state after a HELLO of state p. -/
def Dev.helloNext (d : Dev) (h : MirHello) (bad : Bool) : Nat :=
  let st := d.mirState
  let p := h.pstate % 8
  if st = 5 then (if p = 3 || p = 1 then 2 else 5)
  else if st = 2 then (if p = 4 && !bad then 5 else 2)
  else if bad then 3
  else if st = 1 then (if p = 2 || p = 5 then 4 else if p = 1 then (if d.winsRole h then 2 else 4) else 1)
  else if st = 3 then 4
  else st

/-- MIR_HELLO. -/
def execMirHello (f : MirHello) (s : State) : Host.Outcome State Fault Refusal :=
  s.run (fun d => d.mirRx f.ok f.seq (fun d =>
    let c := d.incompat f
    let d1 := ((d.put F.MIR_STAT_PARTNER 1).put F.MIR_STAT_PSTATE f.pstate).put F.MIR_STAT_INCOMP c
    let d2 := ((d1.put F.MIR_PVER_PROTO f.proto).put F.MIR_PVER_DVER f.dver).put F.MIR_PREL_FWREL f.fwrel
    let d3 := ((d2.put F.MIR_PVINT_IMAGE f.image).put F.MIR_PVINT_CUR f.cur).upMir (fun m => { m with hello := some f })
    let d4 := d3.cause 22 1 0 1 (c != 0)
    let n := d4.helloNext f (c != 0)
    if n = d4.mirState || (n = 4 && d4.flag F.DBG_STAT_DIRECT) then d4 else d4.setPair n))

/-- HELLO_PERIOD (R335, R345). -/
def execHelloPeriod (s : State) : Host.Outcome State Fault Refusal :=
  s.run (fun d =>
    if d.mirState = 0 then d
    else
      let ask := d.mirState == 4 && d.mir.held && !d.allApplied
      let rel := if d.flag F.MGS_STAT_BANK then d.rd R.MGS_FWREL_B else d.rd R.MGS_FWREL_A
      d.mirSend 1 [2 ^ 24 + d.mirState * 2 ^ 21 + d.get F.MIR_CTL_PREF * 2 ^ 20 + b2n ask * 2 ^ 19 + d.dver, rel.toNat,
        (d.rd R.SYS_VINTAGE).toNat, Config.devSerial % 2 ^ 32, Config.devSerial / 2 ^ 32 % 2 ^ 32])

/-! ### Time (R336-R340, R345) -/

/-- MTIME_PERIOD (R335). -/
def execMtimePeriod (s : State) : Host.Outcome State Fault Refusal :=
  s.run (fun d => if d.mirState = 5 || (d.mirState = 2 && d.flag F.MIR_STAT_PARTNER) then d.mirSend 2 [0, 0] else d)

/-- MIR_ECHO_PERIOD (R336). -/
def execMirEchoPeriod (s : State) : Host.Outcome State Fault Refusal :=
  s.run (fun d => if d.mirState = 0 then d else (d.mirSend 3 [d.mir.etag]).upMir (fun m => { m with etag := (m.etag + 1) % 65536 }))

/-- MIR_ECHO_REQ (R336). -/
def execMirEchoReq (ok : Bool) (seq etag tt : Nat) (s : State) : Host.Outcome State Fault Refusal :=
  s.run (fun d => d.mirRx ok seq (fun d => d.mirSend 4 [etag % 65536, tt % 2 ^ 24]))

/-- MIR_ECHO_RSP (R336). -/
def execMirEchoRsp (ok : Bool) (seq _etag tt rtt : Nat) (s : State) : Host.Outcome State Fault Refusal :=
  s.run (fun d => d.mirRx ok seq (fun d =>
    let all := d.mir.echo ++ [(rtt : Int) - tt]
    let l := all.drop (all.length - 8)
    (d.upMir (fun m => { m with echo := l })).put F.MIR_DLY_DLY (meanDelay l)))

/-- The step of device time in ALIGN (R338): every committed occurrence is cancelled, frozen ones and force-on pulses too. The
time copies of the tiles go on as they are. -/
def Dev.timeStep (d : Dev) (ofs : Int) : Dev :=
  let k := rnd (-ofs) 960
  let d1 := d.sch.occs.foldl (fun (x : Dev) o => if o.pulses.any (fun p => p.status.isNone) then x.cancelOcc o 4 else x) d
  let d2 := forN 16 (fun x k => x.prdRestart k) { d1 with now := ((d.now : Int) + 5 * k).toNat, tile := d1.tile.map (fun p => (p.1, p.2.rebase (-(5 * k)))) }
  forN 64 (fun x t => if 2 ≤ x.pstate (t / 4) (t % 4) && x.reached (t / 4) (t % 4) then x.sendTimeset (t / 4) (t % 4) true (x.get (F.TLK_DLY_DLY (t / 4) (t % 4))) else x) d2

/-- The trim of the root PLL, 0.01 ppm, after an offset is seen (R339): it moves against the offset by a free amount, within
1 ns per 10 µs, which is 100 ppm and inside the 200 ppm of the PLL. -/
def Dev.steer (d : Dev) (ofs : Int) : Dev :=
  let r := d.drawFree
  let trim := d.geti F.MIR_TRIM_TRIM
  let room := (if 0 < ofs then 10000 + trim else 10000 - trim).toNat
  if ofs = 0 || room == 0 then d
  else
    let by_ : Int := 1 + (r.1.toNat % room : Nat)
    r.2.puti F.MIR_TRIM_TRIM (if 0 < ofs then trim - by_ else trim + by_)

/-- MIR_MTIME (R337-R339). -/
def execMirMtime (ok : Bool) (seq stamp : Nat) (s : State) : Host.Outcome State Fault Refusal :=
  s.run (fun d => d.mirRx ok seq (fun d =>
    let ofs : Int := 192 * d.now - (192 * stamp + d.get F.MIR_DLY_DLY)
    let d1 := (d.puti F.MIR_OFS_OFS (clampI (-2147483648) 2147483647 ofs)).putB F.MIR_STAT_ALIGNED (decide (ofs.natAbs ≤ 153))
    let st := d1.mirState
    let d2 := if st = 4 || st = 6 then d1.steer ofs else d1
    if st = 4 && decide (38400 < ofs.natAbs) then d2.timeStep ofs else d2.alignDone))

/-- TIME_DIV (R340). -/
def execTimeDiv (s : State) : Host.Outcome State Fault Refusal :=
  s.run (fun d => if d.mirState = 6 && decide (307 < (d.geti F.MIR_OFS_OFS).natAbs) then (d.raise 22 3 0 2).realign else d)

/-- ALIGN_HOLD (R345). -/
def execAlignHold (s : State) : Host.Outcome State Fault Refusal :=
  s.run (fun d => if d.mirState = 4 && d.flag F.MIR_STAT_ALIGNED then (d.upMir (fun m => { m with held := true })).alignDone else d)

/-! ### Digests (R353, R354) -/

/-- MIR_DIGEST (R354). -/
def execMirDigest (ok : Bool) (seq : Nat) (k : Fin 16) (_vint : Nat) (cyc : Int) (crc : Nat) (s : State) : Host.Outcome State Fault Refusal :=
  s.run (fun d => d.mirRx ok seq (fun d =>
    if d.mirState < 4 then d
    else (d.upMir (fun m => { m with theirs := ((k.val, cyc, crc % 2 ^ 32) :: m.theirs).take 64 })).digCheck k cyc))

/-! ### Following (R346-R350) -/

/-- The absolute angle of a TOOTH frame. -/
def Dev.mirLin (d : Dev) (f : MirTooth) : Int := f.cyc * (d.geo f.trk).len + f.ang

/-- Tracker state as mirrored: the state code, and 8 for ARM_OK. -/
def mirCode (f : MirTooth) : Nat := f.tstate.val + 8 * b2n f.armok

/-- The cycle count of an own tracker in SYNC is set to the mirrored count (R347). -/
def Dev.mirCount (d : Dev) (k : Nat) (cyc : Int) : Dev :=
  if d.tstate k ≠ 5 then d
  else
    let t := d.tk k
    let g := d.geo k
    let n := cyc - g.cyc t.lin
    if n = 0 then d
    else
      let a := n * g.len
      let b := n * g.ms
      d.setTk k { t with lin := t.lin + a, real := t.real + a, bnd := t.bnd + b, candBnd := t.candBnd + b, bgBnd := t.bgBnd + b, phNext := t.phNext.map (· + a) }

/-- A mirrored change of state from `was` to st enters a position-known state from one of R152's others: with no record, or with
one at angle x. From QSTART, a record that does not lie where the guess had it has discarded the guess (R97, R107). -/
def Dev.mirFirst (d : Dev) (k was st : Nat) (rec' : Option (Int × Nat × Bool)) : Bool :=
  (decide (3 ≤ st) && decide (was < 3)) || (was == 4 && st == 5) ||
    (was == 3 && (st == 4 || st == 5) && rec'.elim false (fun r =>
      let g := d.geo k
      let s : Int := spanSlots r.2.1
      let b := (d.pr k).bref + (if r.2.2 then -s else s)
      (d.pr k).ok && Int.fmod (g.lastBnd r.1 r.2.2 - b) g.ms != 0))

/-- Tracker k takes a TOOTH frame as it would take a record and the state of its own tracker (R347). -/
def Dev.mirRecord (d : Dev) (f : MirTooth) : Dev :=
  let k := f.trk.val
  let was := smGet d.mir.tst 0 k
  let x := d.mirLin f
  let first := d.mir.first.contains k || d.mirFirst k (was % 8) f.tstate (if f.kind.val = 3 then none else some (x, f.span, f.rev))
  let d1 := d.upMir (fun m => { m with tst := smSet m.tst 0 k (mirCode f), first := m.first.filter (· != k) ++ (if first && f.kind.val == 3 then [k] else []) })
  let d2 := if 8 ≤ was && !f.armok then (d1.prdRestart k).schSyncLost k else d1
  let d3 := if was < 8 && f.armok && f.tstate.val == 5 then
      let y := d2.prsReset k true
      y.setPs k { y.ps k with queue := [], upTo := some x }
    else d2
  if f.kind.val = 3 then d3
  else
    let g := d3.geo k
    let kind := match f.kind.val with | 0 => RecKind.real | 1 => RecKind.synth | _ => RecKind.phase
    let r := ToothRec.mk f.stamp x (g.lastBnd x f.rev) f.span f.rev kind f.dchg first (was % 8 == 7 && f.tstate.val == 5)
    let cross := (d3.pr k).ok && !r.first && decide (g.cycIdx (d3.pr k).lref r.rev < g.cycIdx x r.rev)
    let d4 := if r.dchg then d3.schDirChange k else d3
    let d5 := d4.record k r
    if cross then d5.mirCount k f.cyc else d5

/-! ### Snapshots (R351, R352) -/

/-- Two words as a signed 64-bit value. -/
def s64 (l : List Nat) (i : Nat) : Int := toS 64 (l.getD i 0 + 2 ^ 32 * l.getD (i + 1) 0)

/-- Registers take the words of a list. -/
def Dev.wrList (d : Dev) (addr : Nat → Nat) (ws : List Nat) : Dev :=
  ws.zipIdx.foldl (fun (x : Dev) e => x.wr (addr e.2) (BitVec.ofNat 32 e.1)) d

/-- The CDT part of a snapshot, six words a channel. -/
def Dev.snapCdt (d : Dev) : List Nat → List Nat → Dev
  | [], _ => d
  | c :: r, ws =>
    let d1 := d.wrList (R.CDT_CH_COMP c) (ws.take 4)
    ((d1.put (F.CDT_CH_STAT_T1 c) (ws.getD 4 0)).put (F.CDT_T2_T2 c) (ws.getD 5 0)).snapCdt r (ws.drop 6)

/-- The state of tracker k takes a snapshot's words (R352), in the order in which a primary of the model sends them. -/
def Dev.applySnap (d : Dev) (k : Nat) (ws : List Nat) : Dev :=
  let g := d.geo k
  let w := fun i => ws.getD i 0
  let d1 := d.setPr k { d.pr k with tref := (s64 ws 0).toNat, bref := s64 ws 2, lref := s64 ws 4, fref := s64 ws 6, b := (s64 ws 8).toNat
                                    b0 := s64 ws 10, dd := s64 ws 12, ssPrev := w 14, nint := w 15 % 256, skip := bitOf (w 15) 8
                                    rev := bitOf (w 15) 9, ok := bitOf (w 15) 10, upd := w 16, nrec := w 17 }
  let d2 := (d1.wr (R.PRD_STAT k) (BitVec.ofNat 32 (w 18))).wr (R.PRD_RBIAS k) (BitVec.ofNat 32 (w 19))
  let nr := if d.ripFit k then g.ms else 0
  let nt := if d.teFit k then g.m else 0
  let d3 := (d2.wrList (R.PRD_RM k) ((ws.drop 20).take nr)).wrList (R.PRD_TE k) ((ws.drop (20 + nr)).take nt)
  let p := ws.drop (20 + nr + nt)
  let v := fun i => p.getD i 0
  let d4 := (d3.wr (R.PRS_ACC k) (BitVec.ofNat 32 (v 0))).setPs k
    { d3.ps k with lfsr := v 1 % 2 ^ 16, cw := bits (v 1) 23 16, ci := bits (v 1) 31 24, hist := v 2 + 2 ^ 32 * v 3, hcnt := v 4 }
  let d5 := (d4.put64 (R.PRS_HIST_LO k) (R.PRS_HIST_HI k) (v 2 + 2 ^ 32 * v 3)).wr (R.PRS_NSTR k) (BitVec.ofNat 32 (v 5))
  let d6 := forN 64 (fun x sp => (x.put (F.PRS_POS_LAST k sp) (v (6 + sp) / 16)).put (F.PRS_POS_RUN k sp) (v (6 + sp))) d5
  (d6.snapCdt (d6.ownedChans k) (p.drop 70)).prdShow k

/-- Chunks in order. -/
def insChunk (c : Nat × List Nat) : List (Nat × List Nat) → List (Nat × List Nat)
  | [] => [c]
  | e :: r => if c.1 < e.1 then c :: e :: r else if c.1 = e.1 then e :: r else e :: insChunk c r

def snap0 : Snap := ⟨none, [], none⟩
def Dev.snap (d : Dev) (k : Nat) : Snap := smGet d.mir.snaps snap0 k
def Dev.setSnap (d : Dev) (k : Nat) (x : Snap) : Dev := d.upMir (fun m => { m with snaps := smSet m.snaps snap0 k x })

/-- A TOOTH frame of a tracker that takes its records from its own block: the mirrored state is kept. -/
def Dev.mirNote (d : Dev) (f : MirTooth) : Dev :=
  let k := f.trk.val
  let d1 := d.upMir (fun m => { m with tst := smSet m.tst 0 k (mirCode f) })
  if f.kind.val = 3 then d1 else d1.setSnap k { d1.snap k with prev := some f.cyc }

/-- Held frames from the last one on that begins cycle c (low 32 bits), with the frames before it; `prev` is the cycle count of
the record before them (R351). -/
def splitAtCycle (c : Nat) : Option Int → List MirTooth → List MirTooth × List MirTooth
  | _, [] => ([], [])
  | prev, f :: r =>
    let rest := splitAtCycle c (if f.kind.val = 3 then prev else some f.cyc) r
    if !rest.2.isEmpty then (f :: rest.1, rest.2)
    else if f.kind.val != 3 && ofS 32 f.cyc == c && prev.elim true (fun p => p != f.cyc) then ([], f :: r)
    else (f :: r, [])

/-- The frames before the boundary of a snapshot are let go; what is held begins with the boundary. -/
def Dev.snapCut (d : Dev) (k c : Nat) : Option Dev :=
  let s := d.snap k
  let p := splitAtCycle c s.prev s.held
  if p.2.isEmpty then none else
    let d1 := p.1.foldl (fun (x : Dev) f => x.mirNote f) d
    some (d1.setSnap k { d1.snap k with held := p.2 })

/-- A chunk of the snapshot that tracker k is at, of cycle c (R352). The last one replaces its state, and the held frames are
processed in order; the run of matching digests begins with it (R345). -/
def Dev.snapChunk (d : Dev) (k c chunk nchunk : Nat) (got : List (Nat × List Nat)) (words : List Nat) : Dev :=
  let all := insChunk (chunk, words) got
  if all.length < nchunk then d.setSnap k { d.snap k with part := some (c, all) }
  else
    let held := (d.snap k).held
    let d1 := (d.applySnap k (all.flatMap (fun e => e.2))).upMir (fun m => { m with snaps := smDel m.snaps k, applied := m.applied ++ [k], okRun := smDel m.okRun k })
    (held.foldl (fun (x : Dev) f => x.mirRecord f) d1.mirShow).alignDone

/-- MIR_SNAP (R352). A snapshot whose boundary no held frame begins is let go; one of another cycle takes the place of the one
begun (DESIGN CHOICE, notes/assumptions/82.md). -/
def execMirSnap (ok : Bool) (seq : Nat) (k : Fin 16) (chunk nchunk cyc : Nat) (words : List Nat) (s : State) : Host.Outcome State Fault Refusal :=
  s.run (fun d => d.mirRx ok seq (fun d =>
    let c := cyc % 2 ^ 32
    if d.mirState ≠ 4 || !d.mir.held || d.mir.applied.contains k.val then d
    else match (d.snap k).part with
      | some (e, got) =>
        if e = c then d.snapChunk k c chunk nchunk got words
        else match d.snapCut k c with | some x => x.snapChunk k c chunk nchunk [] words | none => d
      | none => match d.snapCut k c with | some x => x.snapChunk k c chunk nchunk [] words | none => d))

/-- A TOOTH frame of a tracker whose snapshot is awaited is held, 64 of them at most (R352). A snapshot not complete by the
64th since its boundary fails, and its frames act no more; while none has begun, the oldest is let go. -/
def Dev.mirHold (d : Dev) (f : MirTooth) : Dev :=
  let k := f.trk.val
  if !d.mir.held then d.mirNote f
  else
    let s := d.snap k
    let h := s.held ++ [f]
    match s.part with
    | some _ =>
      if h.length < 64 then d.setSnap k { s with held := h }
      else h.foldl (fun (x : Dev) f => x.mirNote f) ((d.setSnap k { s with part := none, held := [] }).raise 22 9 k 1)
    | none =>
      if h.length ≤ 64 then d.setSnap k { s with held := h }
      else
        let d1 := (h.take 1).foldl (fun (x : Dev) f => x.mirNote f) d
        d1.setSnap k { d1.snap k with held := h.drop 1 }

/-- MIR_TOOTH (R347, R352). -/
def execMirTooth (ok : Bool) (seq : Nat) (f : MirTooth) (s : State) : Host.Outcome State Fault Refusal :=
  s.run (fun d => d.mirRx ok seq (fun d =>
    if d.follows f.trk then d.mirRecord f else if d.mirState = 4 then d.mirHold f else d))

/-- MIR_DECIDE (R348). -/
def execMirDecide (ok : Bool) (seq : Nat) (f : MirDecide) (s : State) : Host.Outcome State Fault Refusal :=
  s.run (fun d => d.mirRx ok seq (fun d => if d.follows f.mach then d.prsMirror f else d))

/-- MIR_STROBE (R349): refused groups as under R50; another vintage than the primary's ends following. -/
def execMirStrobe (ok : Bool) (seq vint grp : Nat) (s : State) : Host.Outcome State Fault Refusal :=
  s.run (fun d => d.mirRx ok seq (fun d =>
    if !d.following then d
    else
      let g := grp % 256
      let d1 := if d.strobeBusy g then d.incSat F.SYS_UPD_STAT_REFUSED else d.strobeAll g
      if d1.get F.SYS_VINTAGE_CUR = vint % 2 ^ 16 then d1 else d1.setPair 3))

/-! ### Takeover (R369-R371) -/

/-- The lease is to be yielded at tat by every tile whose lease this side holds (R370). -/
def Dev.yieldAll (d : Dev) (tat : Nat) : Dev :=
  forN 64 (fun x t => if x.abit (R.MIR_LEASE 0) t then x.sendRegwr t 0x11 (8 * tat % 2 ^ 32) else x) d

/-- A takeover is pending; `give` says whether this device gives or takes at tat, none while a request is unanswered. -/
def Dev.tkStart (d : Dev) (give : Option Bool) (tat : Nat) : Dev :=
  (((d.put F.MIR_TK_STAT_RESULT 1).put F.MIR_TK_STAT_NREF 0).put64 R.MIR_TK_AT_LO R.MIR_TK_AT_HI tat).upMir (fun m => { m with tk := some (give, tat) })

/-- A taken cork of MIR_TAKEOVER. -/
def Dev.takeover (d : Dev) (mode : Nat) : Dev :=
  let d0 := d.put F.MIR_TAKEOVER_MODE mode
  if mode = 0 || mode = 3 then d0
  else if d0.mir.tk.isSome then d0.tkRefuse 5
  else if !d0.flag F.MIR_STAT_PARTNER || d0.mirState ≠ (if mode = 1 then 6 else 5) || (mode == 2 && d0.get F.MIR_STAT_PSTATE != 6) then d0.tkRefuse 4
  else
    let tat := d0.now + 2000 * max 1 (d0.get F.MIR_CFG_TKLEAD)
    let d1 := (d0.tkStart (if mode = 2 then some true else none) tat).mirSend 10 [mode, tat % 2 ^ 32, tat / 2 ^ 32 % 2 ^ 32]
    if mode = 2 then d1.yieldAll tat else d1

/-- MIR_TAKEOVER_TAKE (R369). -/
def execMirTakeoverTake (_req : Fin 10) (s : State) : Host.Outcome State Fault Refusal := s.run (fun d => d.takeover 1)

/-- MIR_TAKEOVER_GIVE (R369). -/
def execMirTakeoverGive (_req : Fin 10) (s : State) : Host.Outcome State Fault Refusal := s.run (fun d => d.takeover 2)

/-- MIR_TAKE (R369, R370): a request by the standby is accepted by the primary, the primary's by the standby. -/
def execMirTake (ok : Bool) (seq mode tat : Nat) (s : State) : Host.Outcome State Fault Refusal :=
  s.run (fun d => d.mirRx ok seq (fun d =>
    if mode = 1 && d.mirState == 5 && d.mir.tk.isNone then
      ((d.tkStart (some true) tat).mirSend 10 [3, tat % 2 ^ 32, tat / 2 ^ 32 % 2 ^ 32]).yieldAll tat
    else if mode = 2 && d.mirState == 6 && d.mir.tk.isNone then d.tkStart (some false) tat
    else if mode = 3 && d.mirState == 6 && d.mir.tk.elim false (fun p => p.1.isNone) then d.upMir (fun m => { m with tk := some (some false, tat) })
    else d))

/-- TAKEOVER_AT (R370, R371): the roles change; RESULT is 3 where tiles have refused already. -/
def execTakeoverAt (s : State) : Host.Outcome State Fault Refusal :=
  s.run (fun d =>
    match d.mir.tk with
    | some (some give, tat) =>
      let d0 := d.advance tat
      let d1 := (d0.put F.MIR_TK_STAT_RESULT (if d0.get F.MIR_TK_STAT_NREF = 0 then 2 else 3)).upMir (fun m => { m with tk := none })
      if give && d1.mirState == 5 then
        let d2 := d1.upMir (fun m => { m with tst := (List.range 16).foldl (fun a k => smSet a 0 k (d1.tstate k + 8 * b2n (d1.armOk k))) [] })
        d2.setPair 6
      else if !give && d1.mirState == 6 then d1.setPair 5
      else d1
    | _ => d)

/-- A tile has refused to yield its lease (R371): it counts while a takeover is pending, and after one that has completed. -/
def Dev.yieldRefused (d : Dev) : Dev :=
  let res := d.get F.MIR_TK_STAT_RESULT
  if d.mir.tk.isNone && res != 2 && res != 3 then d
  else
    let d1 := d.put F.MIR_TK_STAT_NREF (min 64 (d.get F.MIR_TK_STAT_NREF + 1))
    (if d.mir.tk.isNone then d1.put F.MIR_TK_STAT_RESULT 3 else d1).raise 22 6 0 1

/-- MIR_CNT_CLR (R7). -/
def Dev.mirCntClr (d : Dev) : Dev := (((d.wr R.MIR_CNT0 0).wr R.MIR_CNT1 0).wr R.MIR_CNT2 0).wr R.MIR_DIGSTAT 0

def execMirCntClr (_req : Fin 10) (s : State) : Host.Outcome State Fault Refusal := s.run (fun d => d.mirCntClr)

/-! ### DIAG frames (R272, R274, R327, R366) -/

/-- The duplex codes of R366, and what the pair makes of them (R371). -/
def Dev.leaseDiag (d : Dev) (t code data : Nat) : Dev :=
  match code with
  | 0x08 =>
    let d1 := d.setAbit (R.MIR_LEASE 0) t true
    if data % 4 = 1 then (d1.incSat F.MIR_CNT1_PROMO).raise 22 4 t 2 else if data % 4 = 2 then d1.incSat F.MIR_CNT1_YIELD else d1
  | 0x09 =>
    let d1 := d.setAbit (R.MIR_LEASE 0) t false
    if data % 4 = 3 then d1.incSat F.MIR_CNT1_YIELD else d1
  | 0x0A => (d.incSat F.MIR_CNT1_TMIS).raise 22 5 t 1
  | 0x0B => d.yieldRefused
  | _ => d

/-- DIAG. -/
def execDiag (n : Fin 16) (p : Fin 4) (ok level : Bool) (out : Fin 8) (code data : Nat) (s : State) : Host.Outcome State Fault Refusal :=
  s.run (fun d =>
    if !ok then d.incSat (F.TLK_CNT0_DISC n)
    else if !d.reached n p || !d.linkUp n then d
    else if 0x08 ≤ code && code ≤ 0x0B then d.leaseDiag (tileNo n p) code data
    else d.cdtDiag n p level out code)

end Sys2Proof.Machine
end

