-- ==== Sys2Proof/Machine/Icu.lean ====
section
/-! DEFINITION. The interrupt controller beyond arrivals (R474-R481): delivery, claims, completions, source registers. -/

namespace Sys2Proof.Machine

/-! ### Delivery (R477) -/

/-- The highest PRIO in service at target t. -/
def Dev.icuTop (d : Dev) (t : Nat) : Option (Nat × Nat) :=
  d.icu.srv.foldl (fun (b : Option (Nat × Nat)) e =>
    if e.1 ≠ t then b
    else match b with
      | none => some (e.2.2, e.2.1)
      | some q => if q.1 < e.2.2 then some (e.2.2, e.2.1) else b) none

/-- The effective threshold of target t. -/
def Dev.icuEff (d : Dev) (t : Nat) : Nat := max (d.get (F.ICU_T_THR_THR t)) ((d.icuTop t).elim 0 (fun e => e.1))

/-- Sources that are pending, ascending. -/
def Dev.icuPending (d : Dev) : List Nat :=
  ((List.range 32).filter (fun w => d.rd (R.ICU_PEND w) ≠ 0)).flatMap (fun w =>
    ((List.range 32).filter (fun b => d.bit (R.ICU_PEND w) b)).map (fun b => 32 * w + b))

/-- Source s, pending, is deliverable to target t. -/
def Dev.icuDeliv (d : Dev) (t s : Nat) : Bool :=
  d.flag (F.ICU_SRC_EN s) && !d.icuInSrv s && bitOf (d.get (F.ICU_SRC_TGT s)) t && decide (d.icuEff t < d.get (F.ICU_SRC_PRIO s))

/-- The deliverable source of highest PRIO, the lowest number between equals (R478). -/
def Dev.icuBest (d : Dev) (t : Nat) : Option Nat :=
  (d.icuPending.filter (d.icuDeliv t)).foldl (fun (b : Option Nat) s =>
    match b with
    | none => some s
    | some q => if d.get (F.ICU_SRC_PRIO q) < d.get (F.ICU_SRC_PRIO s) then some s else b) none

/-- The interrupt line of target t. -/
def Dev.icuLine (d : Dev) (t : Nat) : Bool := (d.icuBest t).isSome

/-- mip of core ACt, or of MG for t = 4 (R480): MEIP, bit 11 of the architecture (PRESUMED, notes/assumptions/111.md), follows
the line; MTIP and MSIP read zero. -/
def Dev.mip (d : Dev) (t : Nat) : Word := if d.icuLine t then 2 ^ 11 else 0

/-- ICU_STAT as read. -/
def Dev.icuStat (d : Dev) : Word :=
  (d.put F.ICU_STAT_LINE ((List.range 5).foldl (fun a t => a + b2n (d.icuLine t) * 2 ^ t) 0)).rd R.ICU_STAT

/-- ICU_Tt_ACT as read. -/
def Dev.icuAct (d : Dev) (t : Nat) : Word :=
  let n := (d.icu.srv.filter (fun e => e.1 == t)).length
  BitVec.ofNat 32 (b2n (d.icuLine t) * 2 ^ 31 + min n 15 * 2 ^ 16 + (d.icuTop t).elim 1024 (fun e => e.2) * 2 ^ 4 + d.icuEff t)

/-! ### Claims and completions (R478, R479) -/

/-- A read of ICU_Tt_CLAIM. -/
def Dev.icuClaim (d : Dev) (req t : Nat) : Dev :=
  match d.icuBest t with
  | none => (d.incSat F.ICU_CNT_SPUR).ret req 1024
  | some s =>
    let d1 := d.icuPend s false
    ({ d1 with icu := { d1.icu with srv := d1.icu.srv ++ [(t, s, d.get (F.ICU_SRC_PRIO s))] } } : Dev).ret req s

/-- ICU_CLAIM (R478). -/
def execIcuClaim (req : Fin 10) (tgt : Fin 5) (s : State) : Host.Outcome State Fault Refusal := s.run (fun d => d.icuClaim req tgt)

/-- A write of ICU_Tt_COMPLETE. -/
def Dev.icuComplete (d : Dev) (t data : Nat) : Dev :=
  let s := data % 1024
  let d0 := d.wr (R.ICU_T_COMPLETE t) (BitVec.ofNat 32 s)
  if !d.icu.srv.any (fun e => e.1 == t && e.2.1 == s) then d0.incSat F.ICU_CNT_BADCPL
  else
    let n := smGet d.icu.again 0 s
    let d1 : Dev := { d0 with icu := { d0.icu with srv := d0.icu.srv.filter (fun e => !(e.1 == t && e.2.1 == s)), again := smDel d0.icu.again s } }
    if !d1.flag (F.ICU_SRC_EN s) then d1
    else if d1.icuLevel s then (if d1.icu.level.contains s then d1.icuPend s true else d1)
    else repeatN n (fun x => x.icuCount s) d1

/-- ICU_COMPLETE (R479). -/
def execIcuComplete (_req : Fin 10) (tgt : Fin 5) (src : Nat) (s : State) : Host.Outcome State Fault Refusal := s.run (fun d => d.icuComplete tgt src)

/-! ### Source registers (R475, R476) -/

/-- A GPIO source takes the kind TRIG gives it: a level source's level is the one taken from its pin. -/
def Dev.icuKind (d : Dev) (s : Nat) : Dev :=
  if s < 176 || 240 ≤ s then d
  else
    let l := d.icu.level.filter (· != s)
    let on := d.flag (F.ICU_SRC_TRIG s) && d.icu.pins.contains (s - 176)
    { d with icu := { d.icu with level := if on then l ++ [s] else l } }

/-- A write of ICU_SRCs: EN cleared ends the pending bit of an event source and its counts, and a level source follows its
level from a change of EN or TRIG on (R475, R476). -/
def Dev.icuSrcWrite (d : Dev) (s data : Nat) : Dev :=
  if icuReserved s then d
  else
    let gpio := decide (176 ≤ s) && decide (s < 240)
    let w := BitVec.ofNat 32 data &&& (if gpio then 0xCFFF0F1F#32 else 0x8FFF0F1F#32)
    let d1 := (d.wr (R.ICU_SRC s) (w ||| (if 64 ≤ s && s < 96 then 0x40000000#32 else 0))).icuKind s
    let en := d1.flag (F.ICU_SRC_EN s)
    let was := d.flag (F.ICU_SRC_EN s)
    if en == was && d1.icuLevel s == d.icuLevel s then d1
    else if d1.icuLevel s then d1.icuPend s (en && (d1.icu.level.contains s && !d1.icuInSrv s))
    else if en || !was then d1
    else ({ d1 with icu := { d1.icu with coal := smDel d1.icu.coal s, again := smDel d1.icu.again s } } : Dev).icuPend s false

/-- ICU_SRC_WRITE (R475). -/
def execIcuSrcWrite (_req : Fin 10) (src : Fin 1024) (data : Nat) (s : State) : Host.Outcome State Fault Refusal := s.run (fun d => d.icuSrcWrite src data)

/-- A source becomes pending; its arrivals are counted from zero after it. -/
def Dev.icuSetPend (d : Dev) (s : Nat) : Dev :=
  if icuReserved s then d else ({ d with icu := { d.icu with coal := smDel d.icu.coal s } } : Dev).icuPend s true

/-- A write of ICU_PENDw. -/
def Dev.icuPendWrite (d : Dev) (w data : Nat) : Dev := forN 32 (fun x b => if bitOf data b then x.icuSetPend (32 * w + b) else x) d

/-- ICU_PEND_WRITE (R475). -/
def execIcuPendWrite (_req : Fin 10) (w : Fin 32) (data : Nat) (s : State) : Host.Outcome State Fault Refusal := s.run (fun d => d.icuPendWrite w data)

/-- ICU_COALESCE_TIMEOUT (R475): 2^COALT µs after the first arrival counted. -/
def execIcuCoalesceTimeout (src : Fin 1024) (s : State) : Host.Outcome State Fault Refusal :=
  s.run (fun d =>
    let c := smGet d.icu.coal (0, 0) src
    let n := d.get (F.ICU_SRC_COALT src)
    if n ≠ 0 ∧ c.1 ≠ 0 then (d.until (c.2 + 400 * 2 ^ n)).icuSetPend src else d)

/-! ### Counters -/

/-- A write of ICU_ACLR (R473). -/
def Dev.icuAclr (d : Dev) (data : Nat) : Dev :=
  let s := data % 1024
  let d0 := d.wr R.ICU_ACLR (BitVec.ofNat 32 s)
  let d1 := if bitOf data 31 then forN 256 (fun x w => if x.rd (R.ICU_ARR w) = 0 then x else x.wr (R.ICU_ARR w) 0) d0 else d0
  if bitOf data 30 then d1.put ⟨R.ICU_ARR (s / 4), 8 * (s % 4) + 7, 8 * (s % 4)⟩ 0 else d1

/-- ACLR_ALL (R473). -/
def execAclrAll (_req : Fin 10) (s : State) : Host.Outcome State Fault Refusal := s.run (fun d => d.icuAclr (2 ^ 31 + d.get F.ICU_ACLR_SRC))

/-- ACLR_ONE (R473). -/
def execAclrOne (_req : Fin 10) (src : Fin 1024) (s : State) : Host.Outcome State Fault Refusal := s.run (fun d => d.icuAclr (2 ^ 30 + src))

/-- ICU_CNT_CLR (R7). -/
def execIcuCntClr (_req : Fin 10) (s : State) : Host.Outcome State Fault Refusal := s.run (fun d => d.wr R.ICU_CNT 0)

end Sys2Proof.Machine
end

