-- ==== Sys2Proof/Machine/Qmg.lean ====
section
/-! DEFINITION. The queue manager: casks, owners, queues, their four operations, the cask window and reclaim
(R399-R409). -/

namespace Sys2Proof.Machine

/-- Number of casks (QMG_POOL.FREE at reset). -/
def caskTotal : Nat := 0x10000

/-- Result codes of R400 (QMG_ALLOC.CODE). -/
inductive QCode where
  | ok
  | empty
  | exhausted
  | quota
  | notOwner
  | freed
  | queued
  | full
  | qdis
  | notCons
  | badOwn
  | busy
deriving DecidableEq, Repr

def QCode.num : QCode → Nat
  | .ok => 0
  | .empty => 1
  | .exhausted => 2
  | .quota => 3
  | .notOwner => 4
  | .freed => 5
  | .queued => 6
  | .full => 7
  | .qdis => 8
  | .notCons => 9
  | .badOwn => 10
  | .busy => 11

/-- The word of QMG_ALLOC, QMG_POP and QMG_RES. -/
def qmgWord (op : Nat) (c : QCode) (cask : Nat) : Nat :=
  (if c = .ok then 2 ^ 31 else 0) + op * 2 ^ 28 + c.num * 2 ^ 24 + cask

/-- A cask's state: none is FREE (R399). -/
def Qmg.cask (q : Qmg) (c : Nat) : Option Cask := (q.casks.find? (fun p => p.1 == c)).map (fun p => p.2)

def Qmg.putCask (q : Qmg) (c : Nat) (k : Cask) : Qmg := { q with casks := smIns q.casks c k }

def Qmg.freeCask (q : Qmg) (c : Nat) : Qmg := { q with casks := smDel q.casks c }

/-- The lowest number that a strictly rising list of keys leaves out, from n on. -/
def lowGap {α : Type} : SMap α → Nat → Nat
  | [], n => n
  | (j, _) :: r, n => if j = n then lowGap r (n + 1) else n

/-- The lowest free cask (R400). -/
def Qmg.lowest (q : Qmg) : Nat := lowGap q.casks 0

def Qmg.free (q : Qmg) : Nat := caskTotal - q.casks.length

/-- Casks tagged with owner o, HELD or QUEUED (R409). -/
def Qmg.tagged (q : Qmg) (o : Nat) : Nat := (q.casks.filter (fun p => p.2.tag == o)).length

def Qmg.queue (q : Qmg) (n : Nat) : List Nat := smGet q.queues [] n

def Qmg.setQueue (q : Qmg) (n : Nat) (l : List Nat) : Qmg := { q with queues := smSet q.queues [] n l }

/-- QMG_QCFG of queue n at reset: the CAN queues serve CE0 and CE1 and hold 16 commands (R406, R411;
notes/assumptions/40.md). -/
def qcfgReset (n : Nat) : Word := if n = 256 then 0x01800010#32 else if n = 257 then 0x02800010#32 else 0

def Qmg.qcfgOf (q : Qmg) (n : Nat) : Word := smGet q.qcfg (qcfgReset n) n

def Qmg.setQcfg (q : Qmg) (n : Nat) (w : Word) : Qmg := { q with qcfg := smSet q.qcfg (qcfgReset n) n w }

def qCons (w : Word) : Nat := bits w.toNat 31 24
def qEn (w : Word) : Bool := bitOf w.toNat 23
def qNen (w : Word) : Bool := bitOf w.toNat 22
def qLine (w : Word) : Nat := bits w.toNat 20 16
def qDepth (w : Word) : Nat := bits w.toNat 15 0

/-- QMG_OCFG of owner o at reset: the reserved owners' grants (R406, R39; notes/assumptions/40.md). -/
def ocfgReset (o : Nat) : Word := if o = 1 then 2#32 else if o = 2 then 4#32 else if o = 3 then 0x80#32 else 0

def Qmg.ocfgOf (q : Qmg) (o : Nat) : Word := smGet q.ocfg (ocfgReset o) o

def Qmg.setOcfg (q : Qmg) (o : Nat) (w : Word) : Qmg := { q with ocfg := smSet q.ocfg (ocfgReset o) o w }

/-- Most casks of an owner, none without a limit (QMG_OCFG.LIMIT in units of 16). -/
def Qmg.limit (q : Qmg) (o : Nat) : Option Nat :=
  let l := bits (q.ocfgOf o).toNat 31 20
  if l = 0 then none else some (16 * l)

def Qmg.granted (q : Qmg) (o req : Nat) : Bool := (q.ocfgOf o).getLsbD req

def Dev.upQmg (d : Dev) (f : Qmg → Qmg) : Dev := { d with qmg := f d.qmg }

/-- POOL_LOW and POOL_EMPTY follow the count of free casks. -/
def Dev.poolCheck (d : Dev) : Dev :=
  (d.cause 13 2 0 1 (decide (d.qmg.free < d.get F.QMG_CFG_LOWMARK))).cause 13 3 0 2 (decide (d.qmg.free = 0))

/-- Line n of QMG_NOTE is asserted while a non-empty queue with NEN names it (R405). -/
def Dev.noteLine (d : Dev) (n : Nat) : Dev :=
  d.icuSetLevel (64 + n) (d.qmg.queues.any (fun p => !p.2.isEmpty && qNen (d.qmg.qcfgOf p.1) && qLine (d.qmg.qcfgOf p.1) == n))

/-- The line of queue q after a change of the queue. -/
def Dev.noteQ (d : Dev) (q : Nat) : Dev := d.noteLine (qLine (d.qmg.qcfgOf q))

/-- Allocation for owner o (R400, R409). -/
def Qmg.alloc (q : Qmg) (o : Nat) : Qmg × QCode × Nat :=
  if q.free = 0 then (q, .exhausted, 0)
  else if (q.limit o).elim false (fun l => decide (l ≤ q.tagged o)) then (q, .quota, 0)
  else (q.putCask q.lowest ⟨false, o⟩, .ok, q.lowest)

/-- May owner o act on cask c? (R400) -/
def Qmg.holds (q : Qmg) (o c : Nat) : QCode :=
  match q.cask c with
  | none => .freed
  | some k => if k.queued then .queued else if k.tag = o then .ok else .notOwner

/-- Free of cask c by owner o (R400). -/
def Qmg.release (q : Qmg) (o c : Nat) : Qmg × QCode :=
  match q.holds o c with
  | .ok => (q.freeCask c, .ok)
  | e => (q, e)

/-- Push of cask c to queue n by owner o (R400, R405). -/
def Qmg.push (q : Qmg) (o n c : Nat) : Qmg × QCode :=
  match q.holds o c with
  | .ok =>
    let w := q.qcfgOf n
    if !qEn w then (q, .qdis)
    else if qDepth w ≠ 0 ∧ qDepth w ≤ (q.queue n).length then (q, .full)
    else ((q.putCask c ⟨true, qCons w⟩).setQueue n (q.queue n ++ [c]), .ok)
  | e => (q, e)

/-- Pop of queue n by owner o (R400). -/
def Qmg.pop (q : Qmg) (o n : Nat) : Qmg × QCode × Nat :=
  if qCons (q.qcfgOf n) ≠ o then (q, .notCons, 0)
  else match q.queue n with
    | [] => (q, .empty, 0)
    | c :: r => ((q.putCask c ⟨false, o⟩).setQueue n r, .ok, c)

/-- The owner a requester acts as, and whether it is granted (R399, R400). -/
def Dev.qOwner (d : Dev) (req : Nat) : Nat := (d.own req R.QMG_OWNSEL).toNat % 256

def Dev.qGranted (d : Dev) (req : Nat) : Bool := d.qmg.granted (d.qOwner req) req

/-- The result of an operation stands in the requester's copy of QMG_RES (R401). -/
def Dev.qRes (d : Dev) (req op : Nat) (c : QCode) (cask : Nat) : Dev :=
  d.setOwn req R.QMG_RES (BitVec.ofNat 32 (qmgWord op c cask))

/-- A read of QMG_ALLOC (R400, R401). -/
def Dev.qmgAlloc (d : Dev) (req : Nat) : Dev :=
  let (q, c, k) := if d.qGranted req then d.qmg.alloc (d.qOwner req) else (d.qmg, .badOwn, 0)
  ((d.upQmg (fun _ => q)).poolCheck.qRes req 1 c k).ret req (qmgWord 1 c k)

/-- A refused free is reported (R403). -/
def Dev.freeReport (d : Dev) (o req cask : Nat) (c : QCode) : Dev :=
  let d1 := (d.wr R.QMG_LASTREF (BitVec.ofNat 32 (o * 2 ^ 24 + c.num * 2 ^ 20 + req * 2 ^ 16 + cask))).incSat F.QMG_CNT_FREEREF
  d1.raise 13 (if c = .freed then 0 else 1) o 1

/-- A write of QMG_FREE (R400, R403). -/
def Dev.qmgFree (d0 : Dev) (req cask : Nat) : Dev :=
  let d := d0.wr R.QMG_FREE (BitVec.ofNat 32 (cask % 2 ^ 16))
  let o := d.qOwner req
  let k := cask % caskTotal
  let (q, c) := if d.qGranted req then d.qmg.release o k else (d.qmg, .badOwn)
  let d1 := (d.upQmg (fun _ => q)).poolCheck.qRes req 2 c (if c = .ok then k else 0)
  if c = .freed ∨ c = .notOwner then d1.freeReport o req k c else d1

/-- A write of QMG_PUSH (R400, R405). -/
def Dev.qmgPush (d0 : Dev) (req queue cask : Nat) : Dev :=
  let d := d0.wr R.QMG_PUSH (BitVec.ofNat 32 (queue % 2 ^ 15 * 2 ^ 16 + cask % 2 ^ 16))
  let n := queue % 2 ^ 15
  let k := cask % caskTotal
  let (q, c) := if d.qGranted req then d.qmg.push (d.qOwner req) n k else (d.qmg, .badOwn)
  ((d.upQmg (fun _ => q)).noteQ n).qRes req 3 c (if c = .ok then k else 0)

/-- A read of QMG_POP (R400, R405). -/
def Dev.qmgPop (d : Dev) (req : Nat) : Dev :=
  let n := (d.own req R.QMG_QSEL).toNat % 2 ^ 15
  let (q, c, k) := if d.qGranted req then d.qmg.pop (d.qOwner req) n else (d.qmg, .badOwn, 0)
  (((d.upQmg (fun _ => q)).noteQ n).qRes req 4 c k).ret req (qmgWord 4 c k)

/-- A write of QMG_OWNSEL (R399). -/
def Dev.qmgOwnsel (d : Dev) (req sel : Nat) : Dev :=
  if d.qmg.granted (sel % 256) req then d.setOwn req R.QMG_OWNSEL (BitVec.ofNat 32 (sel % 2 ^ 16))
  else d.incSat F.QMG_CNT_OWNREF

/-- The cask a requester may reach through the window (R404). -/
def Dev.qWindow (d : Dev) (req : Nat) : Option Nat :=
  let c := (d.own req R.QMG_CSEL).toNat % caskTotal
  match d.qmg.cask c with
  | some k => if !k.queued && k.tag == d.qOwner req then some c else none
  | none => none

/-- A read or write of QMG_CWINw (R404). -/
def Dev.qmgCwin (d : Dev) (req w : Nat) (wr : Bool) (data : Nat) : Dev :=
  match d.qWindow req with
  | some c =>
    let a := 64 * c + 4 * (w % 16)
    if wr then { d with cmem := memWrite d.cmem a 4 (data % 2 ^ 32) } else d.ret req (memRead d.cmem a 4)
  | none => let d1 := d.incSat F.QMG_CNT_WINREF; if wr then d1 else d1.ret req 0

/-- A write of QMG_QCFG for the queue in the requester's QMG_QSEL (R405, R406). -/
def Dev.qmgQcfg (d : Dev) (req data : Nat) : Dev :=
  let n := (d.own req R.QMG_QSEL).toNat % 2 ^ 15
  let w := BitVec.ofNat 32 (data % 2 ^ 32) &&& 0xFFDFFFFF#32
  let was := d.qmg.qcfgOf n
  if n < 512 ∧ req ≠ 7 then d
  else if !(d.qmg.queue n).isEmpty && qCons w != qCons was then d
  else ((d.upQmg (fun q => q.setQcfg n w)).noteLine (qLine was)).noteLine (qLine w)

/-- A write of QMG_OCFG for the owner in the requester's QMG_OSEL: the GRANT of the reserved owners is not taken
(R406). -/
def Dev.qmgOcfg (d : Dev) (req data : Nat) : Dev :=
  let o := (d.own req R.QMG_OSEL).toNat % 256
  let w := BitVec.ofNat 32 (data % 2 ^ 32) &&& 0xFFF003FF#32
  let was := d.qmg.ocfgOf o
  d.upQmg (fun q => q.setOcfg o (if o < 16 then (w &&& 0xFFF00000#32) ||| (was &&& 0x3FF#32) else w))

/-- A one written to QMG_RECLAIM.GO (R407). -/
def Dev.qmgReclaim (d : Dev) (req owner : Nat) : Dev :=
  let o := owner % 256
  let d0 := d.put F.QMG_RECLAIM_OWNER o
  if o < 16 ∨ bits (d.qmg.ocfgOf o).toNat 9 0 ≠ 0 then d0.qRes req 5 .busy 0
  else
    let mine := d.qmg.casks.filter (fun p => !p.2.queued && p.2.tag == o)
    ((d0.upQmg (fun q => { q with casks := q.casks.filter (fun p => !(!p.2.queued && p.2.tag == o)) })).poolCheck).qRes req 5 .ok
      (min mine.length 0xFFFF)

/-- QMG_QSTAT, QMG_QCFG, QMG_OCFG and QMG_OCNT show the queue or owner in the requester's selection. -/
def Dev.qmgQstat (d : Dev) (req : Nat) : Nat :=
  let l := (d.qmg.queue ((d.own req R.QMG_QSEL).toNat % 2 ^ 15)).length
  b2n (decide (0 < l)) * 2 ^ 31 + l

/-- QMG_ALLOC (R400): a read allocates the lowest free cask, or is refused at once. -/
def execQmgAlloc (req : Fin 10) (s : State) : Host.Outcome State Fault Refusal := s.run fun d => d.qmgAlloc req.val

/-- QMG_FREE (R400, R403). -/
def execQmgFree (req : Fin 10) (cask : Nat) (s : State) : Host.Outcome State Fault Refusal := s.run fun d => d.qmgFree req.val cask

/-- QMG_PUSH (R400). -/
def execQmgPush (req : Fin 10) (queue cask : Nat) (s : State) : Host.Outcome State Fault Refusal :=
  s.run fun d => d.qmgPush req.val queue cask

/-- QMG_POP (R400). -/
def execQmgPop (req : Fin 10) (s : State) : Host.Outcome State Fault Refusal := s.run fun d => d.qmgPop req.val

/-- QMG_OWNSEL_WRITE (R399). -/
def execQmgOwnselWrite (req : Fin 10) (owner : Nat) (s : State) : Host.Outcome State Fault Refusal :=
  s.run fun d => d.qmgOwnsel req.val owner

/-- QMG_CWIN_ACCESS (R404). -/
def execQmgCwinAccess (req : Fin 10) (w : Fin 16) (wr : Bool) (data : Nat) (s : State) : Host.Outcome State Fault Refusal :=
  s.run fun d => d.qmgCwin req.val w.val wr data

/-- QMG_QCFG_WRITE (R405, R406). -/
def execQmgQcfgWrite (req : Fin 10) (data : Nat) (s : State) : Host.Outcome State Fault Refusal :=
  s.run fun d => d.qmgQcfg req.val data

/-- QMG_RECLAIM (R407). -/
def execQmgReclaim (req : Fin 10) (owner : Nat) (s : State) : Host.Outcome State Fault Refusal :=
  s.run fun d => d.qmgReclaim req.val owner

/-- QMG_CNT_CLR (R7). -/
def execQmgCntClr (_req : Fin 10) (s : State) : Host.Outcome State Fault Refusal := s.run fun d => d.wr R.QMG_CNT 0

end Sys2Proof.Machine
end

