-- ==== Sys2Proof/Machine/Reset.lean ====
section
/-! DEFINITION. Reset domains, reset causes, boot steps 1 to 3 and the retention copy (R481-R487, R513). -/

namespace Sys2Proof.Machine

/-- Reset domains of register heading lines (R43, R482). -/
inductive RDom where
  | vbat
  | sys
  | core
  | lg (g : Nat)
  | adc
  | pcie
deriving DecidableEq, Repr

/-- The reset domain of the register at canonical offset a (R43). -/
def regDom (a : Nat) : RDom :=
  let o := a % 0x10000
  match a / 0x10000 with
  | 1 | 2 | 26 | 28 | 29 => .sys
  | 3 => .vbat
  | 14 => if o < 0x2000 then .lg (o / 0x800) else .core
  | 15 => if o < 0x100 then .lg (o / 0x40) else .core
  | 18 => if 0x200 ≤ o ∧ o < 0x280 then .core else .pcie
  | 19 => .pcie
  | 23 => .adc
  | _ => .core

/-- Every register of the domains p takes its reset value; open corks and causes of their blocks end (R482). -/
def Dev.clrRegs (d : Dev) (p : RDom → Bool) : Dev :=
  { d with
    reg := d.reg.filter (fun e => !p (regDom e.1))
    shd := d.shd.filter (fun e => !p (regDom e.1))
    preq := d.preq.filter (fun e => !p (regDom (e.1 % 2 ^ 26)))
    corks := d.corks.filter (fun c => !p (regDom c.addr))
    causes := d.causes.filter (fun c => !p (if c.blk = 14 && 6 ≤ c.code then .core else regDom (fltBase c.blk)))
    kept := d.kept.filter (fun c => !p (regDom (fltBase c.blk))) }

/-- Casks of a list become FREE. -/
def Qmg.freeAll (q : Qmg) (cs : List Nat) : Qmg := cs.foldl Qmg.freeCask q

/-- The transfer of channel n ends with an error, ECODE code (R469). -/
def Dev.rakFail (d : Dev) (n code : Nat) : Dev :=
  ((({ d with rak := { d.rak with running := none } } : Dev).put (F.RK_STAT_ERR n) 1).put (F.RK_STAT_ECODE n) code).raise 15 (code - 1) n 1

def Dev.rakSptr (d : Dev) (n : Nat) : Nat := d.get64 (R.RK_SPTR_LO n) (R.RK_SPTR_HI n)
def Dev.rakDptr (d : Dev) (n : Nat) : Nat := d.get64 (R.RK_DPTR_LO n) (R.RK_DPTR_HI n)

/-- Does the running transfer of channel n use host memory? -/
def Dev.rakHost (d : Dev) (n : Nat) : Bool := d.rakSptr n / 2 ^ 62 == 2 || d.rakDptr n / 2 ^ 62 == 2

/-- A running transfer that uses host memory fails (R415, R469). -/
def Dev.rakEndHost (d : Dev) : Dev := d.rak.running.elim d (fun n => if d.rakHost n then d.rakFail n 1 else d)

/-- Function Level Reset, or a reset of the PCIe domain (R415): every bus-master access ends, rings, streams and replay records
go, HIF_CTL.EN clears, fetched commands are discarded, and the casks of owner 0 and of the fetched entries are freed, in
whatever queue they wait. -/
def Dev.pcieClear (d0 : Dev) : Dev :=
  let d := (smKeys d0.hif.cqs).foldl (fun (x : Dev) n => x.causeOff 14 4 n) d0.rakEndHost
  let held := ((List.range 256).flatMap d.qmg.queue) ++ (d.qmg.casks.filter (fun p => p.2.tag == 0)).map (fun p => p.1)
  let d1 := { d with hif := { d.hif with sqs := [], cqs := [], stm := [], turn := [], pcie := { pcie0 with aer := d.hif.pcie.aer } } }
  let left := (d.qmg.queues.filter (fun p => decide (256 ≤ p.1))).map (fun p => (p.1, p.2.filter (fun c => !held.contains c)))
  let d2 := (d1.upQmg (fun q => ({ q with queues := left.filter (fun p => !p.2.isEmpty) } : Qmg).freeAll held)).poolCheck
  let d2 := forN 32 (fun x n => x.noteLine n) d2
  let d3 := (d2.put F.HIF_CTL_EN 0).put F.HIF_STAT_RDY 0
  forN 8 (fun x n => ((((x.put (F.STM_CFG_EN n) 0).put (F.STM_WP_PTR n) 0).put (F.STM_RP_PTR n) 0).put (F.STM_STAT_ERR n) 0)) d3

/-- The PCIe domain is reset. -/
def Dev.pcieReset (d : Dev) : Dev :=
  let d1 := d.pcieClear.clrRegs (· == .pcie)
  { d1 with hif := { d1.hif with pcie := pcie0 } }

/-- The ADC domain is reset. -/
def Dev.adcReset (d : Dev) : Dev :=
  { d.clrRegs (· == .adc) with adc := [], amark := d.amark.filter (fun p => decide (32 ≤ p.1)) }

/-- Link group g is reset. -/
def Dev.lgReset (d : Dev) (g : Nat) : Dev :=
  { d.clrRegs (· == .lg g) with lnk := d.lnk.filter (fun p => p.1 / 4 != g) }

/-- Every Trellis down lane and both mirror send lanes stop (R368): frames not yet sent are lost. -/
def Dev.lanesStop (d : Dev) : Dev := { d with lnk := d.lnk.map (fun p => (p.1, { p.2 with tx := [] })) }

/-- CORE reset is asserted (R482): the core, its link groups, the ADC domain and the PCIe domain are reset. Stop records
that wait for SLOW stay due (R535), and memories keep their contents (notes/assumptions/41.md). -/
def Dev.coreDown (d : Dev) : Dev :=
  let d1 := d.lanesStop.clrRegs (fun x => x != .vbat && x != .sys)
  let stops := (d1.trk.filter (fun p => p.2.stop.isSome)).map (fun p => (p.1, { trk0 with stop := p.2.stop }))
  { d1 with
    rst := { d1.rst with core := true }
    icu := { icu0 with pins := (List.range 128).filter (fun p => d1.abit (R.SYS_GPIO_IN 0) (p % 64)) }, tmr := [], tmrEv := [], rak := rak0, hif := hif0, qmg := qmg0
    sns := [], trk := stops, prd := [], qry := [], sch := sch0, prs := []
    lnk := [], cdt := [], mir := mir0
    adc := [], enc := [], tlog := [], amark := [], ertDiv := []
    mgs := { d1.mgs with acRun := 0, acStart := [] } }

/-- A reset cause is asserted (R484). -/
def Dev.cellarCause (d : Dev) (n : Nat) : Dev :=
  (d.cput F.CEL_RSTCAUSE_CAUSE (Nat.lor (d.cget F.CEL_RSTCAUSE_CAUSE) (2 ^ n))).cput F.CEL_RSTCAUSE_LAST n

/-- SYSTEM reset is asserted, with the cause of R484 where it has one. During a trial the bank goes back (R501). What
MRAM holds stays: the bank, the firmware releases, the spare map and the log sequence. -/
def Dev.sysDown (d : Dev) (cause : Option Nat) : Dev :=
  let d1 := cause.elim d d.cellarCause
  let trial := d1.flag F.MGS_STAT_TRIAL
  let bank := if trial then d1.mgs.prevBank else d1.flag F.MGS_STAT_BANK
  let d2 := if trial then d1.cellarCause 7 else d1
  let d3 := d2.logDrain.coreDown
  let d4 := d3.clrRegs (· == .sys)
  let keep := [R.MGS_FWREL_A, R.MGS_FWREL_B, R.MGS_SPARE_STAT, R.MGS_LOG]
  let d5 := keep.foldl (fun x a => x.wr a (d3.rd a)) d4
  let d6 := d5.putB F.MGS_STAT_BANK bank
  { d6 with
    rst := { d6.rst with sys := true }
    clk := ⟨false, 0⟩
    mgs := { d6.mgs with running := false, rolled := d6.mgs.rolled || trial, pllHold := false, rowCe := [], secCe := [],
                         unlock := none, hot := [], shutdown := false, vRun := [], suspect := none, drain := [], moves := [], sleeping := false } }

/-- VBAT reset is asserted (R482, R503, R513): every Cellar word takes its reset value, and the spare map is lost. -/
def Dev.vbatDown (d : Dev) : Dev :=
  let d1 := (d.sysDown none).clrRegs (· == .vbat)
  { d1.wr R.MGS_SPARE_STAT (regReset R.MGS_SPARE_STAT) with
    cel := [], clr := clr0, rst := { d1.rst with vbat := true }
    mgs := { d1.mgs with retPe := [], peMap := [], rowMap := [], secMap := [], rowGone := [], usedPll := false, pllBad := false } }

/-! ### The retention copy (R481) -/

def retAddr (w : Nat) : Nat := 0x400 + w

/-- The words of the ICU that are retained: sources, pending bits and thresholds, each with its Cellar address. -/
def retWords : List (Nat × Nat) :=
  (List.range 1024).map (fun s => (0x400 + s, R.ICU_SRC s)) ++ (List.range 32).map (fun w => (0x800 + w, R.ICU_PEND w)) ++
    (List.range 5).map (fun t => (0x820 + t, R.ICU_T_THR t))

/-- The ICU copies its configuration and pending bits into the Cellar. -/
def Dev.retCopy (d : Dev) : Dev :=
  ((retWords.foldl (fun x p => x.cwr p.1 (x.rd p.2)) d).cwr 0x83F 1).cput F.CEL_STAT_RETV 1

/-- A source restored: a level source is pending while its level is one and it is enabled (R476). -/
def Dev.icuReturn (d : Dev) (s : Nat) : Dev :=
  let d1 := d.icuKind s
  if d1.icuLevel s then d1.icuPend s (d1.flag (F.ICU_SRC_EN s) && d1.icu.level.contains s) else d1

/-- The ICU restores the retained state, and the copy is no longer valid. -/
def Dev.retRestore (d : Dev) : Dev :=
  forN 240 (fun x s => x.icuReturn s)
    ((((retWords.foldl (fun x p => x.wr p.2 (x.crd p.1)) d).cwr 0x83F 0).cput F.CEL_STAT_RETV 0).put F.ICU_STAT_RESTORED 1)

/-- A comparator event while the core is off: the retained pending bit of an enabled source is set. -/
def Dev.retPend (d : Dev) (s : Nat) : Dev :=
  if d.cflag F.CEL_STAT_RETV && (d.crd (0x400 + s)).getLsbD (F.ICU_SRC_EN 0).lo then
    d.cput ⟨0x800 + s / 32, s % 32, s % 32⟩ 1
  else d

/-! ### Release of CORE reset (R13, R487) -/

/-- The spare map is applied to the prediction engines: every retired unit stays retired (R487, R503). -/
def Dev.spareApply (d : Dev) : Dev :=
  let d1 := d.mgs.retPe.foldl (fun x m => x.wr (R.PE_STAT m) 0x20000000#32) d
  d1.mgs.peMap.foldl (fun x p => (x.put (F.PRD_PMAP_PE p.1) p.2).wr (R.PE_STAT p.2) (BitVec.ofNat 32 (2 ^ 31 + p.1 * 2 ^ 16))) d1

/-- The next FAB cycle that begins with the edges of TICK and ADCK together, every 25 ns (R13, R23). -/
def fabGrid (n : Nat) : Nat := (n + 9) / 10 * 10

/-- CORE reset is released: device time starts at 0, at an edge of TICK that is one of ADCK too, and, after a wake, the
retained state returns (R13, R481, R487). -/
def Dev.coreUp (d : Dev) : Dev :=
  if !d.rst.core then d
  else
    let sh := d.now
    let wake := d.cget F.CEL_STAT_PSTATE == 3
    let d1 : Dev := { d with rst := { d.rst with core := false }, now := 0, fab := fabGrid d.fab, tile := d.tile.map (fun p => (p.1, p.2.rebase sh)) }
    let d2 := d1.spareApply.movesNext 36
    if !wake then d2
    else
      let d3 := d2.cput F.CEL_STAT_PSTATE 0
      if d3.cflag F.CEL_STAT_RETV then d3.retRestore else d3.raise 16 0 0 1

/-- The effect of a command of the SYSTEM domain: none while SYSTEM reset is asserted (R482). -/
def State.runSys (s : State) (f : Dev → Dev) : Host.Outcome State Fault Refusal :=
  s.runAny fun d => if d.rst.sys then d else f d

/-- The effect of a command of the Cellar: none while VBAT reset is asserted (R482). -/
def State.runCel (s : State) (f : Dev → Dev) : Host.Outcome State Fault Refusal :=
  s.runAny fun d => if d.rst.vbat then d else f d

/-! ### The commands -/

/-- VBAT_RESET (R482): VBAT_CELLAR falls below 2.3 V. -/
def execVbatReset (s : State) : Host.Outcome State Fault Refusal := s.runAny Dev.vbatDown

/-- VBAT_RELEASE (R482, R485): VBAT_CELLAR rises above 2.5 V; the Cellar is ACTIVE with CORE_EN high, and the core powers
up (R484 cause 1; notes/assumptions/42.md). -/
def execVbatRelease (s : State) : Host.Outcome State Fault Refusal :=
  s.runAny fun d => if d.rst.vbat then ({ d with rst := { d.rst with vbat := false } } : Dev).cellarCause 1 else d

/-- RESET_N (R482, R518): low for 1 µs or longer. -/
def execResetN (s : State) : Host.Outcome State Fault Refusal := s.runCel fun d => d.sysDown (some 2)

/-- BROWNOUT (R483). -/
def execBrownout (s : State) : Host.Outcome State Fault Refusal := s.runCel fun d => d.sysDown (some 4)

/-- PERST_N (R482): low asserts the PCIE reset domain. -/
def execPerstN (s : State) : Host.Outcome State Fault Refusal :=
  s.runAny fun d => { d.pcieReset with rst := { d.rst with perst := true } }

/-- PERST_N_RELEASE (R482, R487): link training follows, and its end is PCIE_LINK_UP. -/
def execPerstNRelease (s : State) : Host.Outcome State Fault Refusal :=
  s.runAny fun d => { d with rst := { d.rst with perst := false } }

/-- SYSTEM_RESET_RELEASE (R486, R518, R532): with the Cellar awake, CORE_EN high, one reference good and no PLL awaited. -/
def execSystemResetRelease (tmode : Fin 4) (s : State) : Host.Outcome State Fault Refusal :=
  s.runCel fun d =>
    let good := if d.flag F.CLK_REF_CFG_PREF then d.flag F.CLK_STAT_PGOOD else d.flag F.CLK_STAT_XGOOD
    let ok := d.flag F.CLK_STAT_PGOOD || d.flag F.CLK_STAT_XGOOD
    if d.rst.sys && !d.mgs.pllHold && d.cflag F.CEL_STAT_COREEN && ok then
      let d1 : Dev := { d with rst := { d.rst with sys := false } }
      ((d1.put F.CLK_STAT_STATE (if good then 0 else 2)).put F.DBG_STAT_TMODE (if tmode.val = 1 then 1 else 0))
    else d

/-- A one written to MGS_CTL.CORERST by MG asserts CORE reset, which is released at once where no thermal shutdown holds
it; MG runs on (R482, R484, R487). -/
def Dev.coreRst (d : Dev) (req : Nat) : Dev :=
  if req = 7 then
    let d1 := (d.cellarCause 9).coreDown
    if d1.mgs.shutdown || d1.get F.DBG_STAT_TMODE == 1 then d1 else d1.coreUp
  else d

/-- CORERST (R482, R484, R487). -/
def execCorerst (req : Fin 10) (s : State) : Host.Outcome State Fault Refusal := s.runSys fun d => d.coreRst req.val

/-- The FAB cycle MGS_WDOG.TO ms after the last kick (R491); a TO of 0 acts as 1. -/
def Dev.wdogEnd (d : Dev) : Nat := d.mgs.kickAt + 400000 * max 1 (d.get F.MGS_WDOG_TO)

/-- WDOG_EXPIRY (R491, R368): the time left passes, and the watchdog expires. -/
def execWdogExpiry (s : State) : Host.Outcome State Fault Refusal := s.runSys fun d => (d.until d.wdogEnd).sysDown (some 3)

/-- TRIAL_TIMEOUT (R501): 10 s from a trial boot without confirmation. -/
def execTrialTimeout (s : State) : Host.Outcome State Fault Refusal :=
  s.runSys fun d => if d.flag F.MGS_STAT_TRIAL then (d.until (d.mgs.bootAt + 10 * 400000000)).sysDown none else d

/-- A write of MGS_CTL.CONFIRM (R501): taken from MG only. -/
def Dev.confirm (d : Dev) (req : Nat) (b : Bool) : Dev := if req = 7 && b then d.put F.MGS_STAT_TRIAL 0 else d

/-- CONFIRM (R501). -/
def execConfirm (req : Fin 10) (s : State) : Host.Outcome State Fault Refusal := s.runSys fun d => d.confirm req.val true

/-- A kick of the watchdog (R491): taken from MG only. -/
def Dev.kick (d : Dev) (req : Nat) : Dev := if req = 7 then { d with mgs := { d.mgs with kickAt := d.fab } } else d

/-- KICK (R491): the watchdog starts again; its expiry is the command WDOG_EXPIRY. -/
def execKick (req : Fin 10) (s : State) : Host.Outcome State Fault Refusal := s.runSys fun d => d.kick req.val

/-- The firmware release of a bank. -/
def Dev.fwRel (d : Dev) (bank : Bool) : Nat := (d.rd (if bank then R.MGS_FWREL_B else R.MGS_FWREL_A)).toNat

/-- A taken cork of MGS_BANK_SW (R500): without VERIFIED, or naming the active bank, it has no effect and is logged; a switch
resets the register too. -/
def Dev.bankSw (d : Dev) (bank : Bool) : Dev :=
  let was := d.flag F.MGS_STAT_BANK
  let d1 := d.log 21 7 0 0 [b2n was, b2n bank, d.fwRel bank]
  if d.flag F.MGS_FW_STAT_VERIFIED && bank != was then
    let trial := d.flag F.MGS_STAT_TRIAL
    let d2 := d1.sysDown (some 6)
    if trial then d2
    else { (d2.putB F.MGS_STAT_BANK bank).put F.MGS_STAT_TRIAL 1 with mgs := { d2.mgs with prevBank := was } }
  else d1

/-- MGS_BANK_SW (R500): the corked pair. -/
def execMgsBankSw (_req : Fin 10) (bank : Bool) (s : State) : Host.Outcome State Fault Refusal := s.runSys fun d => d.bankSw bank

end Sys2Proof.Machine
end

