-- ==== Sys2Proof/Machine/Clk.lean ====
section
/-! DEFINITION. The reference selector, the root PLL and the spares of the Cellarmaster (R24-R30, R157-R159,
R502-R504). -/

namespace Sys2Proof.Machine

/-! ### The reference selector (R28) -/

def Dev.clkState (d : Dev) : Nat := d.get F.CLK_STAT_STATE

/-- Is reference r (true: PCIe) good, and is it the preferred one? -/
def Dev.refGood (d : Dev) (r : Bool) : Bool := if r then d.flag F.CLK_STAT_PGOOD else d.flag F.CLK_STAT_XGOOD

def Dev.pref (d : Dev) : Bool := d.flag F.CLK_REF_CFG_PREF

/-- A switch of reference begins, in state 1 or 4: a minor fault, counted (R29). -/
def Dev.clkSwitch (d : Dev) (st : Nat) : Dev := ((d.put F.CLK_STAT_STATE st).incSat F.CLK_STAT_SWITCHES).raise 1 1 0 1

/-- Entry into HOLDOVER: a critical fault, and the lanes stop (R29, R368); a reference that is good ends it at once
(R28). -/
def Dev.holdover (d : Dev) : Dev :=
  let d1 := (d.put F.CLK_STAT_STATE 5).lanesStop
  let d2 := ({ d1 with clk := { d1.clk with hold := true } } : Dev).causeOn 1 0 0 3
  if d2.refGood d2.pref then d2.clkSwitch 4 else if d2.refGood (!d2.pref) then d2.clkSwitch 1 else d2

/-- Entry into ON_ALT_WAIT: the hold-off begins (R28). -/
def Dev.altWait (d : Dev) : Dev := { d.put F.CLK_STAT_STATE 3 with clk := { d.clk with waitAt := d.fab } }

/-- The FAB cycle at which the hold-off ends: HOLDOFF ms after it began, 0 acting as 1 (R28). -/
def Dev.holdoffEnd (d : Dev) : Nat := d.clk.waitAt + 400000 * max 1 (d.get F.CLK_REF_CFG_HOLDOFF)

/-- Reference r is lost (R25, R28). -/
def Dev.refLost (d : Dev) (r : Bool) : Dev :=
  let d1 := d.putB (if r then F.CLK_STAT_PGOOD else F.CLK_STAT_XGOOD) false
  let isPref := r == d1.pref
  let other := d1.refGood (!r)
  match d1.clkState, isPref with
  | 0, true => if other then d1.clkSwitch 1 else d1.holdover
  | 1, false => d1.holdover
  | 2, false => d1.holdover
  | 3, true => d1.put F.CLK_STAT_STATE 2
  | 3, false => d1.clkSwitch 4
  | 4, true => if other then d1.clkSwitch 1 else d1.holdover
  | _, _ => d1

/-- Reference r becomes good (R26, R28). -/
def Dev.refBack (d : Dev) (r : Bool) : Dev :=
  let d1 := d.putB (if r then F.CLK_STAT_PGOOD else F.CLK_STAT_XGOOD) true
  let isPref := r == d1.pref
  match d1.clkState with
  | 2 => if isPref then d1.altWait else d1
  | 5 => d1.clkSwitch (if isPref then 4 else 1)
  | _ => d1

/-- Relock complete (R28): HOLDOVER, where it led here, is over and the lanes may run. -/
def Dev.relocked (d : Dev) : Dev :=
  let d1 := { d with clk := { d.clk with hold := false } }
  match d.clkState with
  | 1 => (if d.refGood d.pref then d1.altWait else d1.put F.CLK_STAT_STATE 2).causeOff 1 0 0
  | 4 => (d1.put F.CLK_STAT_STATE 0).causeOff 1 0 0
  | _ => d

/-- A write of CLK_REF_CFG (R28; notes/assumptions/43.md): a new preference renames the reference in use. -/
def Dev.prefSet (d : Dev) (p : Bool) : Dev :=
  if p == d.pref then d
  else
    let d1 := d.putB F.CLK_REF_CFG_PREF p
    match d.clkState with
    | 0 => if d1.refGood p then d1.altWait else d1.put F.CLK_STAT_STATE 2
    | 1 => d1.put F.CLK_STAT_STATE 4
    | 2 => d1.put F.CLK_STAT_STATE 0
    | 3 => d1.put F.CLK_STAT_STATE 0
    | 4 => d1.put F.CLK_STAT_STATE 1
    | _ => d1

/-- A taken cork of CLK_REF_SWITCH (R30). -/
def Dev.refSwitch (d0 : Dev) (ref : Nat) : Dev :=
  let d := d0.put F.CLK_REF_SWITCH_REF ref
  if ref = 0 ∨ ref = 3 then d
  else
    let r := ref == 2
    let st := d.clkState
    if !d.refGood r || st == 1 || st == 4 then d.incSat F.CLK_STAT_SWREF
    else
      let inUse := if st = 0 then d.pref == r else if st = 5 then false else d.pref != r
      let d1 := d.prefSet r
      if inUse then d1 else d1.clkSwitch 4

/-- REF_LOST (R25, R28). The detectors work during SYSTEM reset, whose release waits for them (R486). -/
def execRefLost (pcie : Bool) (s : State) : Host.Outcome State Fault Refusal :=
  s.runAny fun d => if d.rst.sys then d.putB (if pcie then F.CLK_STAT_PGOOD else F.CLK_STAT_XGOOD) false else d.refLost pcie

/-- REF_GOOD (R26, R28). -/
def execRefGood (pcie : Bool) (s : State) : Host.Outcome State Fault Refusal :=
  s.runAny fun d => if d.rst.sys then d.putB (if pcie then F.CLK_STAT_PGOOD else F.CLK_STAT_XGOOD) true else d.refBack pcie

/-- RELOCK_COMPLETE (R28). -/
def execRelockComplete (s : State) : Host.Outcome State Fault Refusal := s.runSys Dev.relocked

/-- HOLDOFF_EXPIRY (R28): time passes to the end of the hold-off, and the switch begins. -/
def execHoldoffExpiry (s : State) : Host.Outcome State Fault Refusal :=
  s.runSys fun d => if d.clkState = 3 then (d.until d.holdoffEnd).clkSwitch 4 else d

/-- CLK_REF_SWITCH (R30): the corked pair. -/
def execClkRefSwitch (_req : Fin 10) (ref : Fin 4) (s : State) : Host.Outcome State Fault Refusal := s.runSys fun d => d.refSwitch ref.val

/-- The counters of CLK_CNT_CLR. -/
def Dev.clkCntClr (d : Dev) : Dev :=
  (((d.put F.CLK_STAT_SWREF 0).put F.CLK_STAT_SWITCHES 0).put (F.CLK_PLL_STAT_UNLOCK 0) 0).put (F.CLK_PLL_STAT_UNLOCK 1) 0

/-- CLK_CNT_CLR (R7). -/
def execClkCntClr (_req : Fin 10) (s : State) : Host.Outcome State Fault Refusal := s.runSys Dev.clkCntClr

/-! ### Spares (R502-R504) -/

/-- The swap of the root PLL onto PLLB (R502). -/
def Dev.pllSwap (d : Dev) : Dev :=
  if d.mgs.usedPll || d.mgs.pllBad then d.spareNone 0
  else
    let d1 := ((d.put (F.CLK_PLL_STAT_RETIRED 0) 1).put (F.CLK_PLL_STAT_ACTIVE 0) 0).put (F.CLK_PLL_STAT_ACTIVE 1) 1
    let d2 := ((d1.put (F.CLK_PLL_STAT_LOCK 1) 1).put F.CLK_STAT_PLLB 1).put F.MGS_SPARE_STAT_PLL 0
    ({ d2 with mgs := { d2.mgs with usedPll := true } } : Dev).spareUsed 3 0 1

/-- The row is copied to the next spare row that is neither used nor retired, of 64 (R502, R503). -/
def Dev.rowSwap (d : Dev) (row : Nat) : Dev :=
  match findN 64 (fun i => !d.mgs.rowGone.contains i) with
  | none => d.spareNone row
  | some spare =>
    let d1 := d.put F.MGS_SPARE_STAT_ROW (d.get F.MGS_SPARE_STAT_ROW - 1)
    ({ d1 with mgs := { d1.mgs with rowMap := (row, spare) :: d1.mgs.rowMap.filter (fun p => p.1 != row), rowGone := spare :: d1.mgs.rowGone
                                    rowCe := smDel d1.mgs.rowCe row } } : Dev).spareUsed 2 row spare

/-- The sector is copied to the next spare sector, of 64. -/
def Dev.secSwap (d : Dev) (sec : Nat) : Dev :=
  let n := d.get F.MGS_SPARE_STAT_SEC
  if n = 0 then d.spareNone sec
  else
    let spare := 960 + (64 - n)
    let d1 := d.put F.MGS_SPARE_STAT_SEC (n - 1)
    ({ d1 with mgs := { d1.mgs with secMap := (sec, spare) :: d1.mgs.secMap.filter (fun p => p.1 != sec), secCe := smDel d1.mgs.secCe sec } } : Dev).spareUsed 4 sec spare

/-- A taken cork of MGS_SPARE_SWAP (R502): a unit that does not exist or is retired, having been replaced, is not replaced. -/
def Dev.spareSwap (d0 : Dev) (kind unit : Nat) : Dev :=
  let d := (d0.put F.MGS_SPARE_SWAP_KIND kind).put F.MGS_SPARE_SWAP_UNIT unit
  match kind with
  | 1 => match findN 32 (fun l => d.get (F.PRD_PMAP_PE l) == unit) with
    | some l => if d.rst.core then d else d.peSwap l
    | none => d
  | 2 => if unit < 4096 && !d.mgs.rowMap.any (fun p => p.1 == unit) then d.rowSwap unit else d
  | 3 => if unit = 0 then d.pllSwap else d
  | 4 => if unit < 960 && !d.mgs.secMap.any (fun p => p.1 == unit) then d.secSwap unit else d
  | _ => d

/-- SPARE_SWAP_PE (R502). -/
def execSpareSwapPe (_req : Fin 10) (unit : Nat) (s : State) : Host.Outcome State Fault Refusal := s.runSys fun d => d.spareSwap 1 unit

/-- SPARE_SWAP_CASK_ROW (R502). -/
def execSpareSwapCaskRow (_req : Fin 10) (unit : Nat) (s : State) : Host.Outcome State Fault Refusal := s.runSys fun d => d.spareSwap 2 unit

/-- SPARE_SWAP_PLL (R502). -/
def execSpareSwapPll (_req : Fin 10) (unit : Nat) (s : State) : Host.Outcome State Fault Refusal := s.runSys fun d => d.spareSwap 3 unit

/-- SPARE_SWAP_MRAM_SECTOR (R502). -/
def execSpareSwapMramSector (_req : Fin 10) (unit : Nat) (s : State) : Host.Outcome State Fault Refusal := s.runSys fun d => d.spareSwap 4 unit

/-- PE_SPARE_SWAP (R157, R158): what the shadowing of logical engine l by a spare shows when their results are compared; a
swap of l that is not under way starts. -/
def execPeSpareSwap (l : Fin 32) (spare : Fin 36) (agree : Bool) (s : State) : Host.Outcome State Fault Refusal :=
  s.run fun d => d.peVerdict l spare agree

/-- The FAB cycle of the next background check: PRD_CHK.PERIOD ms after the last, 0 acting as 1 (R159). -/
def Dev.checkAt (d : Dev) : Nat := d.sch.chkAt + 400000 * max 1 (d.get F.PRD_CHK_PERIOD)

/-- PE_BACKGROUND_CHECK (R159, R502): the next check, for which its time comes, or the second one that a mismatch asks for,
starts; `agree` is what its comparison shows. -/
def execPeBackgroundCheck (agree : Bool) (s : State) : Host.Outcome State Fault Refusal :=
  s.run fun d => (if d.mgs.suspect.isNone && d.flag F.PRD_CHK_EN then d.until d.checkAt else d).peCheck agree

/-! ### PLLs -/

/-- One second in FAB cycles (2.5 ns). -/
def fabSecond : Nat := 400000000

/-- PLL p unlocks (R502): two unlocks of PLLA within 1 s bring in PLLB; with no spare free the SYSTEM reset is held until a
PLL locks. -/
def Dev.pllUnlock (d : Dev) (p : Nat) : Dev :=
  let d1 := ((d.put (F.CLK_PLL_STAT_LOCK p) 0).incSat (F.CLK_PLL_STAT_UNLOCK p)).causeOn 1 2 p 2
  if !d.flag (F.CLK_PLL_STAT_ACTIVE p) then d1
  else if d.mgs.usedPll || d.mgs.pllBad then
    let d2 := d1.sysDown none
    { d2 with mgs := { d2.mgs with pllHold := true } }
  else
    let again := d.mgs.unlock.elim false (fun t => decide (d.fab ≤ t + fabSecond))
    let d2 := { d1 with mgs := { d1.mgs with unlock := some d.fab } }
    if p == 0 && again && d2.spareAuto 3 then d2.pllSwap else d2

/-- PLL_UNLOCK (R502). -/
def execPllUnlock (p : Fin 2) (s : State) : Host.Outcome State Fault Refusal := s.runSys fun d => d.pllUnlock p

/-- PLL_LOCKED (R502): LOCK sets, and a SYSTEM reset held for it may be released, which SYSTEM_RESET_RELEASE does (R486,
R518). -/
def execPllLocked (p : Fin 2) (s : State) : Host.Outcome State Fault Refusal :=
  s.runAny fun d => { (d.put (F.CLK_PLL_STAT_LOCK p) 1).causeOff 1 2 p with mgs := { d.mgs with pllHold := false } }

end Sys2Proof.Machine
end

