-- ==== Sys2Proof/Machine/Power.lean ====
section
/-! DEFINITION. Power domains and their drains, sleep and wake, the Cellar and its indirect access, comparator events and
movement watches (R66-R68, R443-R445, R471, R505-R516, R535). -/

namespace Sys2Proof.Machine

/-! ### The BAR0 map (R33) -/

/-- Where a BAR0 offset falls: a register at its canonical offset, a word of the bit window, a byte of a memory aperture
at its canonical offset, or nowhere. -/
inductive Place where
  | reg (a : Nat)
  | bitWord (o : Nat)
  | mem (a : Nat)
  | out
deriving DecidableEq, Repr

/-- Base and decode mask of the register block whose span holds window w of 64 KiB. -/
def winSpan (w : Nat) : Option (Nat × Nat) :=
  match w with
  | 0 => some (0, 0xFFF) | 1 => some (0x10000, 0x3FF) | 2 => some (0x20000, 0x3FF) | 3 => some (0x30000, 0xFF)
  | 4 => some (0x40000, 0xFFF) | 5 => some (0x50000, 0x7FF) | 6 | 7 => some (0x60000, 0x1FFFF)
  | 8 | 9 | 10 | 11 => some (0x80000, 0x3FFFF) | 12 => some (0xC0000, 0x1FFF) | 13 => some (0xD0000, 0x3FFF)
  | 14 => some (0xE0000, 0x3FFF) | 15 => some (0xF0000, 0x1FF) | 16 => some (0x100000, 0xFFFF)
  | 17 => some (0x110000, 0xFFF) | 18 => some (0x120000, 0xFFF) | 19 => some (0x130000, 0xFFFF)
  | 20 => some (0x140000, 0x7FF) | 21 => some (0x150000, 0x3FFF) | 22 => some (0x160000, 0x7FF)
  | 23 => some (0x170000, 0x1FFF) | 24 => some (0x180000, 0x1FF) | 25 => some (0x190000, 0xFFF)
  | 26 => some (0x1A0000, 0xFFF) | 27 => some (0x1B0000, 0x3FF) | 28 => some (0x1C0000, 0xFF)
  | 29 => some (0x1D0000, 0x3FFF)
  | _ => none

/-- The place of BAR0 offset a (R33, R34). -/
def placeOf (a : Nat) : Place :=
  match winSpan (a / 0x10000) with
  | some (b, m) => .reg (b + (a - b) % (m + 1))
  | none =>
    if a / 0x10000 = 30 then .bitWord (a % 0x1000)
    else if 0x200000 ≤ a ∧ a < 0x280000 then .mem a
    else if 0x1000000 ≤ a ∧ a < 0x1200000 then .mem a
    else if 0x1400000 ≤ a ∧ a < 0x1500000 then .mem a
    else .out

/-- The power domain of a reset domain, where it may be off (R37, R43). -/
def RDom.power : RDom → Option Nat
  | .lg g => some (1 + g)
  | .adc => some 5
  | .pcie => some 6
  | _ => none

/-- The power domain of a BAR0 offset, where it may be off. -/
def powerOf (a : Nat) : Option Nat :=
  match placeOf a with
  | .reg c => (regDom c).power
  | _ => none

/-! ### The Racking engine's part in a drain (R470, R471) -/

/-- The ranges (first address, bytes) that a pointer covers while len bytes move (R465). -/
def rakSpan (mode csz esz p len : Nat) : List (Nat × Nat) :=
  match mode with
  | 1 => [(p, esz)]
  | 2 =>
    let b := 2 ^ (min csz 20 + 4)
    let room := b - p % b
    if len ≤ room then [(p, len)] else [(p, room), (p / b * b, min b (len - room))]
  | _ => [(p, len)]

/-- Does a range of addresses touch power domain k (R463, R471)? Domains change at multiples of 0x40. -/
def rangeTouches (k : Nat) (r : Nat × Nat) : Bool :=
  match r.1 / 2 ^ 62 with
  | 0 => (List.range ((r.1 % 0x40 + r.2 + 0x3F) / 0x40)).any (fun i => powerOf ((r.1 / 0x40 * 0x40 + 0x40 * i) % 2 ^ 25) == some k)
  | 2 => k == 6
  | _ => false

def Dev.rakSrc (d : Dev) (n : Nat) : Nat := d.get64 (R.RK_SRC_LO n) (R.RK_SRC_HI n)
def Dev.rakDst (d : Dev) (n : Nat) : Nat := d.get64 (R.RK_DST_LO n) (R.RK_DST_HI n)

/-- Bytes of an element. -/
def Dev.rakEsz (d : Dev) (n : Nat) : Nat := 2 ^ d.get (F.RK_CFG_ESZ n)

/-- Does what the transfer of channel n has still to move touch power domain k? -/
def Dev.rakTouches (d : Dev) (n k : Nat) : Bool :=
  (rakSpan (d.get (F.RK_CFG_SMODE n)) (d.get (F.RK_CFG_SCSZ n)) (d.rakEsz n) (d.rakSptr n) (d.get (F.RK_REM_REM n)) ++
    rakSpan (d.get (F.RK_CFG_DMODE n)) (d.get (F.RK_CFG_DCSZ n)) (d.rakEsz n) (d.rakDptr n) (d.get (F.RK_REM_REM n))).any (rangeTouches k)

/-- Clearing RKn_CTL.EN (R470): REM, SPTR and DPTR are free values until the next transfer. -/
def Dev.rakDisable (d : Dev) (n : Nat) : Dev :=
  let d1 := ((d.put (F.RK_CTL_EN n) 0).put (F.RK_STAT_ERR n) 0)
  let d2 : Dev := { d1 with rak := { d1.rak with running := if d1.rak.running == some n then none else d1.rak.running,
                                                 queue := d1.rak.queue.filter (· != n), begun := d1.rak.begun.filter (· != n) } }
  let r := d2.drawFree
  let d3 := r.2.put (F.RK_REM_REM n) r.1.toNat
  [R.RK_SPTR_LO n, R.RK_SPTR_HI n, R.RK_DPTR_LO n, R.RK_DPTR_HI n].foldl (fun x a => let q := x.drawFree; q.2.wr a q.1) d3

/-- At the end of a drain a transfer that touches domain k is cut (R471). -/
def Dev.rakCut (d : Dev) (k : Nat) : Dev :=
  match d.rak.running with
  | some n => if d.rakTouches n k then ((d.rakDisable n).put (F.RK_STAT_ECODE n) 5).raise 15 4 n 2 else d
  | none => d

/-! ### Power domains (R505-R508) -/

def Dev.domState (d : Dev) (k : Nat) : Nat := d.get (F.PWR_DOM_STAT_STATE k)

/-- Log entry KIND 8. -/
def Dev.domLog (d : Dev) (k st us cut : Nat) : Dev := d.log 2 8 0 0 [k, st, us, cut]

/-- Ring entries that HIF has requested and not yet received: as many as it may fetch ahead (R379). -/
def Dev.inFlight (d : Dev) (x : Sq) : Nat :=
  if d.flag F.HIF_CTL_EN && x.stuck.isNone then
    min (max 1 (d.get F.HIF_CFG_FETCH) - x.ents.length) ((x.tail + x.size - x.head) % x.size)
  else 0

/-- Domain k, which is on, drains from now on (R506, R508): a link group sends only TIME frames and retransmissions, the queued
triggers of the converters are discarded, and HIF requests nothing new. -/
def Dev.domDrain (d : Dev) (k : Nat) : Dev :=
  let d1 : Dev := { d.put (F.PWR_DOM_STAT_STATE k) 3 with mgs := { d.mgs with drain := smSet d.mgs.drain 0 k d.fab } }
  if k = 5 then forN 4 (fun x m => { x with adc := smSet x.adc adc0 m { smGet x.adc adc0 m with wait := [] } }) d1
  else if 1 ≤ k && k ≤ 4 then forN 4 (fun x i => x.txDrain (4 * (k - 1) + i)) d1
  else if k = 6 && d.pcieGo then { d1 with hif := { d1.hif with sqs := d1.hif.sqs.map (fun p => (p.1, { p.2 with flight := d.inFlight p.2 })) } }
  else d1

/-- A taken cork of PWR_DOM_CTL that names domain k (R505, R506, R508): without effect for the core domain, a reserved one, or
one in RAMP or DRAIN. -/
def Dev.domCork (d0 : Dev) (k : Nat) (on : Bool) : Dev :=
  let st := d0.domState k
  if k = 0 ∨ 7 ≤ k ∨ st = 1 ∨ st = 3 then d0.incSat F.PWR_STAT_DOMREF
  else
    let d := (d0.put F.PWR_DOM_CTL_DOM k).putB F.PWR_DOM_CTL_ON on
    if on then (if st = 0 then d.put (F.PWR_DOM_STAT_STATE k) 1 else d)
    else if st = 2 then d.domDrain k
    else d

/-- The registers and the state of domain k take their reset values (R505). -/
def Dev.domReset (d : Dev) (k : Nat) : Dev := if k = 5 then d.adcReset else if k = 6 then d.pcieReset else d.lgReset (k - 1)

/-- DOM_RAMP_DONE (R505): the domain is up, or has not come up within 100 µs. -/
def Dev.rampDone (d : Dev) (k : Nat) (up : Bool) : Dev :=
  if d.domState k ≠ 1 then d
  else if up then ((((d.domReset k).put (F.PWR_DOM_STAT_STATE k) 2).causeOff 2 1 k).domLog k 2 0 0)
  else ((d.put (F.PWR_DOM_STAT_STATE k) 0).causeOn 2 1 k 2).domLog k 0 0 0

/-- Domain k is cut off from what used it, and loses power (R507, R508), after a drain of us microseconds. -/
def Dev.domOff (d : Dev) (k us : Nat) : Dev :=
  let full := decide (50 ≤ us)
  let d1 := d.rakCut k
  let d2 := if k ≤ 4 then forN 4 (fun x i => x.posLost (4 * (k - 1) + i) 0) d1 else d1
  let d3 := (((d2.domReset k).put (F.PWR_DOM_STAT_STATE k) 0).put (F.PWR_DOM_STAT_DRAIN k) us).incSat (F.PWR_DOM_STAT_DOWNS k)
  let d4 := if full then (d3.incSat (F.PWR_DOM_STAT_CUT k)).raise 2 0 k 2 else d3
  { d4 with mgs := { d4.mgs with drain := smDel d4.mgs.drain k } }.domLog k 0 us (b2n full)

/-- What keeps the drain of domain k going (R506, R508): reliable frames not acknowledged, a Racking transfer that touches
it, a running conversion sequence, an entry HIF has requested. -/
def Dev.drainBusy (d : Dev) (k : Nat) : Bool :=
  d.rak.running.elim false (fun n => d.rakTouches n k) ||
  (decide (1 ≤ k) && decide (k ≤ 4) && (List.range 16).any (fun i => !(d.lp (4 * (k - 1) + i / 4) (i % 4)).unack.isEmpty)) ||
  (k == 5 && (List.range 4).any (fun m => (smGet d.adc adc0 m).run.isSome)) ||
  (k == 6 && d.hif.sqs.any (fun p => decide (0 < p.2.flight)))

/-- PWR_DOM_UP (R505): the corked pair with ON = 1. -/
def execPwrDomUp (_req : Fin 10) (dom : Fin 8) (s : State) : Host.Outcome State Fault Refusal := s.runSys fun d => d.domCork dom.val true

/-- PWR_DOM_DRAIN (R506, R508): the corked pair with ON = 0. -/
def execPwrDomDrain (_req : Fin 10) (dom : Fin 8) (s : State) : Host.Outcome State Fault Refusal := s.runSys fun d => d.domCork dom.val false

/-- DOM_RAMP_DONE (R505). -/
def execDomRampDone (dom : Fin 8) (up : Bool) (s : State) : Host.Outcome State Fault Refusal := s.runSys fun d => d.rampDone dom.val up

/-- What PWR_CNT_CLR clears. -/
def Dev.pwrCntClr (d : Dev) : Dev :=
  forN 8 (fun x k => (x.put (F.PWR_DOM_STAT_CUT k) 0).put (F.PWR_DOM_STAT_DOWNS k) 0) ((d.put F.PWR_STAT_SLPREF 0).put F.PWR_STAT_DOMREF 0)

/-- PWR_CNT_CLR (R7). -/
def execPwrCntClr (_req : Fin 10) (s : State) : Host.Outcome State Fault Refusal := s.runSys Dev.pwrCntClr

/-! ### Sleep and wake (R509-R512) -/

/-- May the core sleep now (R509)? A sleep that waits for its drains is under way. -/
def Dev.sleepOk (d : Dev) : Bool :=
  !d.mgs.sleeping && (List.range 16).all (fun k => decide (d.tstate k ≤ 1)) && (d.mirState == 0 || d.mirState == 2) &&
  (List.range 8).all (fun k => d.domState k != 1 && d.domState k != 3)

/-- Stop records that wait are written, once SLOW runs (R103, R535). -/
def Dev.stopFlush (d : Dev) : Dev :=
  if !d.cflag F.CEL_STAT_SLOWOK then d
  else
    forN 16 (fun x k => match (x.tk k).stop with
      | some w => ((x.cwr (0x100 + 2 * k) w.1).cwr (0x101 + 2 * k) w.2).setTk k { x.tk k with stop := none }
      | none => x) d

/-- STOP_RECORD_WRITE (R103, R535): the record of tracker k that waits for SLOW is written, the core on or asleep. -/
def execStopRecordWrite (k : Fin 16) (s : State) : Host.Outcome State Fault Refusal :=
  s.runCel (fun d => match (d.tk k).stop with
    | some w => if d.cflag F.CEL_STAT_SLOWOK then ((d.cwr (0x100 + 2 * k.val) w.1).cwr (0x101 + 2 * k.val) w.2).setTk k { d.tk k with stop := none } else d
    | none => d)

/-- Steps 2 to 4 of a sleep (R510), once no domain is in DRAIN: the retention copy, CORE_EN low, SLEEP. -/
def Dev.sleepEnd (d : Dev) : Dev :=
  if !d.mgs.sleeping || (List.range 8).any (fun k => d.domState k == 3) then d
  else
    let d3 := d.stopFlush.retCopy.sysDown none
    { ((d3.cput F.CEL_STAT_COREEN 0).cput F.CEL_STAT_PSTATE 2) with clr := { d3.clr with held := 0, low := 0, same := false } }

/-- FAB cycles in a microsecond. -/
def fabMicro : Nat := 400

/-- What keeps the drain of domain k going has 50 µs from the cork (R506, R508). -/
def Dev.drainWait (d : Dev) (k : Nat) : Dev := if d.drainBusy k then d.until (smGet d.mgs.drain 0 k + 50 * fabMicro) else d

/-- The drain of domain k ends (R507). -/
def Dev.drainEnd (d : Dev) (k : Nat) : Dev := (d.domOff k (min 50 ((d.fab - smGet d.mgs.drain 0 k) / fabMicro))).sleepEnd

/-- A sleep that is taken (R510): every domain that is on drains, all at once; one that nothing keeps busy is down at once, and
DRAIN_END ends the others. -/
def Dev.sleep (d : Dev) : Dev :=
  let on := [1, 2, 3, 4, 5, 6].filter (fun k => d.domState k == 2)
  let d1 := on.foldl (fun (x : Dev) k => x.domDrain k) { d with mgs := { d.mgs with sleeping := true } }
  (on.foldl (fun (x : Dev) k => if x.drainBusy k then x else x.domOff k 0) d1).sleepEnd

/-- A write of PWR_SLEEP.GO (R509). -/
def Dev.sleepReq (d : Dev) (req : Nat) : Dev :=
  if req = 7 ∧ d.sleepOk then d.sleep else (d.incSat F.PWR_STAT_SLPREF).raise 2 2 0 1

/-- A wake begins (R511, R512): the held sources are its cause. -/
def Dev.wakeUp (d : Dev) : Dev :=
  let d1 := ((d.cwr R.CEL_WAKE_CAUSE d.clr.held).cput F.CEL_STAT_COREEN 1).cput F.CEL_STAT_PSTATE 3
  { d1.cellarCause 8 with clr := { d1.clr with held := 0, same := true } }

/-- SLOW edges in 1 ms (R512). -/
def slowMs : Nat := 33

/-- Wake source b fires (R511, R512): bits as in CEL_WAKE_CFG. -/
def Dev.wakeSrc (d : Dev) (b : Nat) : Dev :=
  if !(d.crd R.CEL_WAKE_CFG).getLsbD b then d
  else if d.cget F.CEL_STAT_PSTATE = 2 then
    let d1 := { d with clr := { d.clr with held := d.clr.held ||| (1#32 <<< b) } }
    if slowMs ≤ d.clr.low then d1.wakeUp else d1
  else if d.cget F.CEL_STAT_PSTATE = 3 ∧ d.clr.same then d.cwr R.CEL_WAKE_CAUSE (d.crd R.CEL_WAKE_CAUSE ||| (1#32 <<< b))
  else d

/-- WAKE_PIN (R511): WAKE_N low for 2 SLOW periods. -/
def execWakePin (s : State) : Host.Outcome State Fault Refusal :=
  s.runCel fun d => if d.cflag F.CEL_STAT_SLOWOK then d.wakeSrc 16 else d

/-- WAKE_TIMER_EXPIRY (R511): CEL_WTIMER.N SLOW periods of sleep have passed; it runs in SLEEP alone. -/
def execWakeTimerExpiry (s : State) : Host.Outcome State Fault Refusal :=
  s.runCel fun d =>
    let n := d.cget F.CEL_WTIMER_N
    if d.cflag F.CEL_STAT_SLOWOK && n != 0 && d.cget F.CEL_STAT_PSTATE == 2 then
      ({ d with clr := { d.clr with low := max d.clr.low n } } : Dev).wakeSrc 17
    else d

/-- WAKE (R512): CORE_EN has been low for 1 ms and a source is held. -/
def execWake (s : State) : Host.Outcome State Fault Refusal :=
  s.runCel fun d => if d.cget F.CEL_STAT_PSTATE = 2 ∧ d.clr.held ≠ 0 then d.wakeUp else d

/-! ### Comparators and movement watches (R443-R445, R515) -/

/-- The debounced level of comparator m changes (R444, R481, R511). -/
def Dev.cmpEvent (d : Dev) (m : Nat) (level : Bool) : Dev :=
  let ps := d.cget F.CEL_STAT_PSTATE
  let d1 := if d.rst.core then (if ps = 2 ∨ ps = 3 then d.retPend ((if level then 160 else 168) + m) else d) else d.cmpCore m level
  d1.wakeSrc ((if level then 0 else 8) + m)

def cmp0 : CmpS := ⟨0, false, false, 0⟩
def Dev.cs (d : Dev) (m : Nat) : CmpS := smGet d.clr.cmp cmp0 m
def Dev.setCs (d : Dev) (m : Nat) (x : CmpS) : Dev := { d with clr := { d.clr with cmp := smSet d.clr.cmp cmp0 m x } }

/-- Comparator m samples its input (R443-R445): the level beyond THR in the sense of POL, debounced over DEB samples, 0 acting
as 1; the core's view is refreshed while the core runs. -/
def Dev.cmpSample (d : Dev) (m : Nat) : Dev :=
  let x := d.cs m
  let mv := smGet d.clr.cin 0 m
  let thr := 10 * d.cget (F.CMP_CFG_THR m)
  let raw := if d.cflag (F.CMP_CFG_POL m) then decide (mv < thr) else decide (thr < mv)
  let run := if raw == x.level then 0 else x.run + 1
  let new := decide (max 1 (d.cget (F.CMP_CFG_DEB m)) ≤ run)
  let level := if new then raw else x.level
  let d1 := d.setCs m ⟨0, raw, level, if new then 0 else run⟩
  let d2 := if d1.rst.core then d1 else (d1.putB (F.CMP_STAT_RAW m) raw).putB (F.CMP_STAT_LEVEL m) level
  if new then d2.cmpEvent m raw else d2

/-- A rising SLOW edge at the comparators: an enabled one samples at every 2^DIV-th (R443). -/
def Dev.cmpEdge (d : Dev) : Dev :=
  forN 8 (fun x m =>
    let c := x.cs m
    if !x.cflag (F.CMP_CFG_EN m) then x.setCs m { c with edges := 0, run := 0 }
    else if 2 ^ x.cget (F.CMP_CFG_DIV m) ≤ c.edges + 1 then x.cmpSample m
    else x.setCs m { c with edges := c.edges + 1 }) d

/-- A detection by watch w (R515). -/
def Dev.moved (d : Dev) (w : Nat) : Dev :=
  let mask := d.cget (F.CEL_MWCFG_TRKMASK w)
  let d1 := forN 16 (fun x k => if bitOf mask k then x.cput ⟨0x100 + 2 * k, 28, 28⟩ 1 else x) d
  let d2 := d1.cput ⟨R.CEL_MWSTAT, 16 + w, 16 + w⟩ 1
  (d2.raise 3 2 w 1).wakeSrc (18 + w)

/-- A sample of watch w (R515): MCNT level changes between successive samples detect a movement. -/
def Dev.mwSample (d : Dev) (w : Nat) (level : Bool) : Dev :=
  if !d.cflag (F.CEL_MWCFG_EN w) || !d.cflag F.CEL_STAT_SLOWOK then d
  else
    let f : Fld := ⟨R.CEL_MWSTAT, 18 + w, 18 + w⟩
    let run := smGet d.clr.mwRun 0 w
    let was := d.cflag f
    let d1 := d.cput f (b2n level)
    let set (x : Dev) (n : Nat) : Dev := { x with clr := { x.clr with mwRun := smSet x.clr.mwRun 0 w n } }
    if run = 0 then set d1 1
    else if level == was then d1
    else
      let c : Fld := if w = 0 then F.CEL_MWSTAT_CHG0 else F.CEL_MWSTAT_CHG1
      let d2 := d1.cput c (min 255 (d1.cget c + 1))
      if max 1 (d.cget (F.CEL_MWCFG_MCNT w)) ≤ run then (set d2 1).moved w else set d2 (run + 1)

/-- MOVEMENT_WATCH_SAMPLE (R515). -/
def execMovementWatchSample (w : Fin 2) (level : Bool) (s : State) : Host.Outcome State Fault Refusal := s.runCel fun d => d.mwSample w level

/-! ### The Cellar words and their fast copies (R66-R68, R484, R535) -/

/-- A one written to CEL_RSTCAUSE.CLR (R484). -/
def Dev.rstCauseClr (d : Dev) : Dev := d.cput F.CEL_RSTCAUSE_CAUSE 0

/-- A one written to CEL_MWSTAT.CLR: DET and the change counts clear. -/
def Dev.mwStatClr (d : Dev) : Dev :=
  let d1 := ((d.cput F.CEL_MWSTAT_DET 0).cput F.CEL_MWSTAT_CHG0 0).cput F.CEL_MWSTAT_CHG1 0
  { d1 with clr := { d1.clr with mwRun := d1.clr.mwRun.map (fun p => (p.1, min p.2 1)) } }

/-- The bits of a Cellar word that a write changes. -/
def celMask (a : Nat) : Nat :=
  if 0x10 ≤ a ∧ a < 0x20 then 2 ^ 32 - 1
  else if 0x100 ≤ a ∧ a < 0x120 then (if a % 2 = 0 then 0xF0FFFFFF else 0xFFFF)
  else (descIn regsCELW a).elim 0 (fun e => e.rw)

/-- A write of the Cellar word at a takes effect (R66). -/
def Dev.celWrite (d : Dev) (a : Nat) (w : Word) : Dev :=
  if a = R.CEL_RSTCAUSE then (if w.getLsbD 31 then d.rstCauseClr else d)
  else if a = R.CEL_MWSTAT then (if w.getLsbD 31 then d.mwStatClr else d)
  else
    let m := BitVec.ofNat 32 (celMask a)
    let old := d.crd a
    let d1 := d.cwr a ((old &&& ~~~m) ||| (w &&& m))
    if (a = 8 ∨ a = 9) ∧ w.getLsbD 31 ∧ !old.getLsbD 31 then { d1 with clr := { d1.clr with mwRun := smDel d1.clr.mwRun (a - 8) } } else d1

/-- An access to CEL_IDATA starts (R66). -/
def Dev.celStart (d : Dev) (acc : IndAcc) : Dev :=
  if d.flag F.CEL_IADDR_BUSY then d
  else { (d.put F.CEL_IADDR_BUSY 1).put F.CEL_IADDR_RDY 0 with clr := { d.clr with ind := some acc } }

/-- A read of CEL_IDATA (R66). -/
def Dev.celRead (d : Dev) (req : Nat) : Dev := (d.celStart .read).ret req d.clr.lastRead.toNat

/-- A write of CEL_IADDR (R66): discarded while BUSY is set; RDY clears. -/
def Dev.celAddr (d : Dev) (data : Nat) : Dev :=
  if d.flag F.CEL_IADDR_BUSY then d else d.wr R.CEL_IADDR (BitVec.ofNat 32 data &&& 0x00010FFF#32)

/-- The access in progress completes (R66, R67). -/
def Dev.celDone (d : Dev) : Dev :=
  match d.clr.ind with
  | none => d
  | some acc =>
    let a := d.get F.CEL_IADDR_ADDR
    let d1 : Dev := { d.put F.CEL_IADDR_BUSY 0 with clr := { d.clr with ind := none } }
    let d2 := match acc with
      | .read => { d1.put F.CEL_IADDR_RDY 1 with clr := { d1.clr with lastRead := d1.crd a } }
      | .write w => d1.celWrite a w
    if d2.flag F.CEL_IADDR_AINC then d2.put F.CEL_IADDR_ADDR (a + 1) else d2

/-- CEL_IDATA_READ (R66). -/
def execCelIdataRead (req : Fin 10) (s : State) : Host.Outcome State Fault Refusal := s.runCel fun d => d.celRead req.val

/-- CEL_IDATA_WRITE (R66). -/
def execCelIdataWrite (_req : Fin 10) (data : Nat) (s : State) : Host.Outcome State Fault Refusal :=
  s.runCel fun d => d.celStart (.write (BitVec.ofNat 32 data))

/-- CEL_ACCESS_DONE (R66, R67, R535): within 2 SLOW periods, once SLOW runs. -/
def execCelAccessDone (s : State) : Host.Outcome State Fault Refusal :=
  s.runCel fun d => if d.cflag F.CEL_STAT_SLOWOK then d.celDone else d

/-- A rising edge of SLOW (R68, R443, R449): every fast copy is refreshed from its source as it stood before the edge, the
comparators sample, and the timers with SRC = 2 have an input. -/
def Dev.fastCopy (d : Dev) : Dev :=
  let d1 := (((d.wr R.CEL_FC_STAT (d.crd R.CEL_STAT)).wr R.CEL_FC_RST (d.crd R.CEL_RSTCAUSE)).wr R.CEL_FC_WAKE (d.crd R.CEL_WAKE_CAUSE)).wr
    R.CEL_FC_MW (d.crd R.CEL_MWSTAT)
  let d2 : Dev := { d1.incWrap F.CEL_FC_SEQ_SEQ with
    clr := { d1.clr with refAt := some d.fab, same := false, low := if d.cflag F.CEL_STAT_COREEN then d1.clr.low else d1.clr.low + 1 } }
  (if d2.rst.core then d2 else d2.tmrSlow).cmpEdge

/-- SLOW edges come, n at most, until the debounced level of comparator m is other than `was`. -/
def Dev.cmpAwait (d : Dev) (m : Nat) (was : Bool) : Nat → Dev
  | 0 => d
  | n + 1 => if (d.cs m).level != was then d else d.fastCopy.cmpAwait m was n

/-- The input of comparator m stands at mv millivolts from now on, and SLOW edges come until that is debounced, DEB times 2^DIV
at most. DESIGN CHOICE (notes/assumptions/112.md): those edges take no FAB time. -/
def Dev.cmpInput (d : Dev) (m mv : Nat) : Dev :=
  let d1 : Dev := { d with clr := { d.clr with cin := smSet d.clr.cin 0 m mv } }
  if d1.cflag (F.CMP_CFG_EN m) && d1.cflag F.CEL_STAT_SLOWOK then
    d1.cmpAwait m (d1.cs m).level (max 1 (d1.cget (F.CMP_CFG_DEB m)) * 2 ^ d1.cget (F.CMP_CFG_DIV m))
  else d1

/-- CMP_EVENT (R443-R445): the input of comparator m changes. -/
def execCmpEvent (m : Fin 8) (mv : Nat) (s : State) : Host.Outcome State Fault Refusal := s.runCel fun d => d.cmpInput m mv

/-- CEL_FC_AGE as read (R68, R535). -/
def Dev.fcAge (d : Dev) : Nat :=
  if d.cflag F.CEL_STAT_SLOWOK then d.clr.refAt.elim 0xFFFF (fun t => min 0xFFFF (d.fab - t)) else 0xFFFF

/-- FAST_COPY_REFRESH (R68, R535). -/
def execFastCopyRefresh (s : State) : Host.Outcome State Fault Refusal :=
  s.runCel fun d => if d.cflag F.CEL_STAT_SLOWOK then d.fastCopy else d

/-- SLOW_START (R535). -/
def execSlowStart (s : State) : Host.Outcome State Fault Refusal :=
  s.runCel fun d => (d.cput F.CEL_STAT_SLOWOK 1).causeOff 3 1 0

/-- SLOW_STOP (R535): no SLOW edge for 1 ms. -/
def execSlowStop (s : State) : Host.Outcome State Fault Refusal :=
  s.runCel fun d => (d.cput F.CEL_STAT_SLOWOK 0).causeOn 3 1 0 2

/-- CEL_RSTCAUSE_CLR (R484). -/
def execCelRstcauseClr (_req : Fin 10) (s : State) : Host.Outcome State Fault Refusal := s.runCel Dev.rstCauseClr

/-- CEL_MWSTAT_CLR (R515). -/
def execCelMwstatClr (_req : Fin 10) (s : State) : Host.Outcome State Fault Refusal := s.runCel Dev.mwStatClr

end Sys2Proof.Machine
end

