-- ==== Sys2Proof/Machine/Manage.lean ====
section
/-! DEFINITION. The sensors of the Cellarmaster and the errors of MRAM and cask memory (R492-R494, R502, R504). -/

namespace Sys2Proof.Machine

/-- Log entry KIND 9: the spec does not encode the sensor's kind and index, so that word is a free value
(notes/assumptions/8.md). -/
def Dev.sensorLog (d : Dev) (value limit : Int) : Dev :=
  let (w, d1) := d.drawFree
  d1.log 21 9 0 0 [w.toNat, ofS 32 value, ofS 32 limit]

/-! ### Temperature (R492) -/

def tempList (ts : List Int) (k : Nat) : Int := ts.getD k 0

/-- One sample of sensor k: value, TEMP_WARN, and the count of samples above TCRIT in a row. -/
def Dev.tempOne (d : Dev) (k : Nat) (v : Int) : Dev :=
  let warn := d.geti F.MGS_TLIM_TWARN
  let crit := d.geti F.MGS_TLIM_TCRIT
  let d1 := (d.put (F.MGS_TS_VALID k) 1).puti (F.MGS_TS_T k) v
  let rise := decide (warn < v) && !d.hasCause 21 0 k
  let d2 := (d1.cause 21 0 k 1 (decide (warn < v)))
  let d3 := if rise then d2.sensorLog v warn else d2
  { d3 with mgs := { d3.mgs with hot := smSet d3.mgs.hot 0 k (if crit < v then smGet d3.mgs.hot 0 k + 1 else 0) } }

/-- TEMP_CRIT of the sensors listed, one log entry for each that newly is above TCRIT (R490, R492). -/
def Dev.critOn (d : Dev) (above : List Nat) (ts : List Int) : Dev :=
  above.foldl (fun x j => (if x.hasCause 21 1 j then x else x.sensorLog (tempList ts j) (x.geti F.MGS_TLIM_TCRIT)).causeOn 21 1 j 3) d

/-- Thermal shutdown (R484, R492): above TCRIT for 1 ms, two samples in a row. -/
def Dev.thermal (d : Dev) (ts : List Int) : Dev :=
  let crit := d.geti F.MGS_TLIM_TCRIT
  let above := (List.range 8).filter (fun k => decide (2 ≤ smGet d.mgs.hot 0 k))
  if !d.mgs.shutdown then
    match above with
    | [] => d
    | _ :: _ =>
      let d2 := ((d.critOn above ts).cellarCause 5).coreDown
      { d2 with mgs := { d2.mgs with shutdown := true } }
  else if (List.range 8).all (fun k => decide (tempList ts k < crit - 15 * 64)) then
    let d1 := forN 8 (fun x k => x.causeOff 21 1 k) d
    let d2 : Dev := { d1 with mgs := { d1.mgs with shutdown := false } }
    if d2.get F.DBG_STAT_TMODE = 1 then d2 else d2.coreUp
  else d.critOn above ts

/-- TEMP_SAMPLE (R492): TS0 to TS7 in 1/64 °C. -/
def execTempSample (temps : List Int) (s : State) : Host.Outcome State Fault Refusal :=
  s.runSys fun d => (forN 8 (fun x k => x.tempOne k (tempList temps k)) d).thermal temps

/-! ### Voltage (R493) -/

/-- VBATLOW and VBAT_LOW follow the monitor of VBAT_CELLAR (notes/assumptions/44.md). -/
def Dev.vbatLow (d : Dev) (mv : Nat) : Dev :=
  (d.cput F.CEL_STAT_VBATLOW (b2n (decide (mv < 2800)))).cause 3 0 0 2 (decide (mv < 2800))

/-- A sample of monitor v: out of limits for 3 samples in a row sets UV or OV. -/
def Dev.voltOne (d : Dev) (v mv : Nat) : Dev :=
  let lo := d.get (F.MGS_VLIM_UVL v)
  let hi := d.get (F.MGS_VLIM_OVL v)
  let under := decide (mv < lo)
  let above := decide (hi < mv)
  let run := if under || above then smGet d.mgs.vRun 0 v + 1 else 0
  let d1 : Dev := { d.put (F.MGS_VM_V v) mv with mgs := { d.mgs with vRun := smSet d.mgs.vRun 0 v run } }
  if !under && !above then
    (((d1.put (F.MGS_VM_UV v) 0).put (F.MGS_VM_OV v) 0).causeOff 21 2 v).causeOff 21 3 v
  else if run < 3 then d1
  else
    let new := if under then !d.flag (F.MGS_VM_UV v) else !d.flag (F.MGS_VM_OV v)
    let d2 := if new then d1.sensorLog mv (if under then lo else hi) else d1
    (((d2.putB (F.MGS_VM_UV v) under).putB (F.MGS_VM_OV v) above).cause 21 2 v 2 under).cause 21 3 v 2 above

/-- VOLT_SAMPLE (R493): monitor v in mV. -/
def execVoltSample (v : Fin 24) (mv : Nat) (s : State) : Host.Outcome State Fault Refusal :=
  s.runSys fun d => let d1 := d.voltOne v mv; if v.val = 18 then d1.vbatLow mv else d1

/-! ### Aging (R494, R502) -/

/-- The working engines of the group beside monitor g move onto spares, one per swap, lowest physical number first (R502). -/
def Dev.agingPe (d : Dev) (g : Nat) : Dev :=
  let new := ((List.range 4).map (fun i => 4 * g + i)).filter (fun w => !d.mgs.moves.contains w && !d.mgs.retPe.contains w)
  ({ d with mgs := { d.mgs with moves := d.mgs.moves ++ new } } : Dev).movesNext 36

/-- The measurement of monitor a: WORN while DEGR is at or above the limit, raised when it rises. -/
def Dev.agingOne (d : Dev) (a : Nat) (v : Int) : Dev :=
  let lim : Int := d.get F.MGS_AGLIM_LIMIT
  let worn := decide (lim ≤ v)
  let rise := worn && !d.flag (F.MGS_AG_WORN a)
  let d1 := ((d.puti (F.MGS_AG_DEGR a) v).putB (F.MGS_AG_WORN a) worn).cause 21 4 a 1 worn
  if !rise then d1
  else
    let d2 := d1.sensorLog v lim
    if decide (a < 9) && d2.spareAuto 1 then d2.agingPe a
    else if a = 13 ∧ d2.spareAuto 3 then (if d2.mgs.usedPll then d2 else d2.pllSwap)
    else d2

/-- A write of MGS_AGLIM: WORN of every monitor follows the new limit (R494). -/
def Dev.agLim (d : Dev) (data : Nat) : Dev :=
  forN 35 (fun x a => x.agingOne a (x.geti (F.MGS_AG_DEGR a))) (d.put F.MGS_AGLIM_LIMIT data)

/-- AGING_MEASURE (R494): AG0 to AG34 in 0.01 %, against AG35. -/
def execAgingMeasure (degr : List Int) (s : State) : Host.Outcome State Fault Refusal :=
  s.runSys fun d => forN 35 (fun x a => x.agingOne a (tempList degr a)) d

/-! ### Memory errors (R502, R504) -/

def Dev.ceMax (d : Dev) : Nat := max 1 (d.get F.MGS_SPARE_CFG_CEMAX)

/-- The data of an MRAM sector is lost: free values (notes/assumptions/8.md). -/
def Dev.sectorLost (d : Dev) (sec : Nat) : Dev :=
  forN 1024 (fun x i => let r := x.drawFree; { r.2 with mram := memWrite r.2.mram (4096 * sec + 4 * i) 4 r.1.toNat }) d

/-- A corrected or uncorrectable error in MRAM sector sec. -/
def Dev.mramError (d : Dev) (sec : Nat) (ue : Bool) : Dev :=
  if ue then
    let d1 := ((d.incSat F.MGS_ECC_MUE).sectorLost sec).raise 21 9 sec 2
    if d1.spareAuto 4 then d1.secSwap sec else d1
  else
    let n := smGet d.mgs.secCe 0 sec + 1
    let d1 : Dev := { d.incSat F.MGS_ECC_MCE with mgs := { d.mgs with secCe := smSet d.mgs.secCe 0 sec n } }
    if decide (d1.ceMax ≤ n) && d1.spareAuto 4 then d1.secSwap sec else d1

/-- MRAM_ECC_ERROR (R502). -/
def execMramEccError (sector : Fin 1024) (ue : Bool) (s : State) : Host.Outcome State Fault Refusal := s.runSys fun d => d.mramError sector ue

/-- A corrected or uncorrectable error in a word of cask row `row` (16 casks, 256 words): a lost word reads all ones. -/
def Dev.caskError (d : Dev) (row : Nat) (ue : Bool) (word : Nat) : Dev :=
  if ue then
    let d0 : Dev := { d with cmem := memWrite d.cmem (1024 * row + 4 * (word % 256)) 4 0xFFFFFFFF }
    let d1 := (d0.incSat F.MGS_ECC_CUE).raise 21 10 row 2
    if d1.spareAuto 2 then d1.rowSwap row else d1
  else
    let n := smGet d.mgs.rowCe 0 row + 1
    let d1 : Dev := { d with mgs := { d.mgs with rowCe := smSet d.mgs.rowCe 0 row n } }
    if decide (d1.ceMax ≤ n) && d1.spareAuto 2 then d1.rowSwap row else d1

/-- CASK_ECC_ERROR (R502, R504). -/
def execCaskEccError (row : Fin 4096) (ue : Bool) (word : Nat) (s : State) : Host.Outcome State Fault Refusal :=
  s.runSys fun d => d.caskError row ue word

end Sys2Proof.Machine
end

