-- ==== Sys2Proof/Machine/Debug.lean ====
section
/-! DEFINITION. Test access, the debug block and the analogue test buses (R529-R534), without the accesses of DBGACC. -/

namespace Sys2Proof.Machine

/-! ### The test access port (R529) -/

def Dev.jlocked (d : Dev) : Bool := d.flag F.DBG_CTL_JLOCK

/-- Board test mode is in force (R532). -/
def Dev.boardTest (d : Dev) : Bool := d.get F.DBG_STAT_TMODE == 1

/-- Instruction codes of R529. -/
def irIdcode : Nat := 0x01
def irBypass : Nat := 0xFF

/-- A TAP access: in mission mode with JLOCK clear it raises JTAG_OPEN. -/
def Dev.tapAccess (d : Dev) : Dev := if !d.jlocked && d.get F.DBG_STAT_TMODE == 0 then d.raise 24 1 0 1 else d

/-- Instruction op is selected. -/
def Dev.tapIr (d : Dev) (op : Nat) : Dev := { d.tapAccess with dbg := { d.dbg with ir := op } }

/-- A boundary-scan instruction is taken in board test mode, and acts as BYPASS elsewhere. -/
def Dev.tapBoard (d : Dev) (op : Nat) : Dev := d.tapIr (if d.boardTest then op else irBypass)

/-- Who drives the digital signal pins and the 1149.6 pins (R529). -/
inductive PinDrive where
  | core
  | scan
  | off
deriving DecidableEq, Repr

/-- The pins under the instruction in force: the core's, from the update stage of the boundary-scan register under EXTEST, CLAMP,
EXTEST_PULSE and EXTEST_TRAIN, or not driven under HIGHZ (R529). -/
def Dev.pinDrive (d : Dev) : PinDrive :=
  if d.dbg.ir = 0x05 then .off else if d.dbg.ir = 3 ∨ d.dbg.ir = 4 ∨ d.dbg.ir = 6 ∨ d.dbg.ir = 7 then .scan else .core

/-- TAP_RESET (R529): IDCODE is selected. -/
def execTapReset (s : State) : Host.Outcome State Fault Refusal := s.runAny fun d => d.tapIr irIdcode

/-- IDCODE (R529): silicon revision 0. -/
def execIdcode (s : State) : Host.Outcome State Fault Refusal := s.runAny fun d => (d.tapIr irIdcode).ret 9 0x0951256F

/-- What is shifted into the boundary-scan register reaches its update stage: no command brings it, a free value. -/
def Dev.bsrUpdate (d : Dev) : Dev := let r := d.drawFree; { r.2 with dbg := { r.2.dbg with bsr := r.1.toNat } }

/-- SAMPLE_PRELOAD (R529): the update stage takes its preload, and the pins stay the core's. -/
def execSamplePreload (s : State) : Host.Outcome State Fault Refusal := s.runAny fun d => (d.tapIr 0x02).bsrUpdate

/-- A scan instruction whose update stage takes what is shifted in, where it is taken. -/
def Dev.tapScan (d : Dev) (op : Nat) : Dev := if d.boardTest then (d.tapBoard op).bsrUpdate else d.tapBoard op

/-- EXTEST (R529). -/
def execExtest (s : State) : Host.Outcome State Fault Refusal := s.runAny fun d => d.tapScan 0x03

/-- CLAMP (R529). -/
def execClamp (s : State) : Host.Outcome State Fault Refusal := s.runAny fun d => d.tapBoard 0x04

/-- HIGHZ (R529). -/
def execHighz (s : State) : Host.Outcome State Fault Refusal := s.runAny fun d => d.tapBoard 0x05

/-- EXTEST_PULSE (R529). -/
def execExtestPulse (s : State) : Host.Outcome State Fault Refusal := s.runAny fun d => d.tapScan 0x06

/-- EXTEST_TRAIN (R529). -/
def execExtestTrain (s : State) : Host.Outcome State Fault Refusal := s.runAny fun d => d.tapScan 0x07

/-- DTMCS (R529): taken while JLOCK is clear; its contents are RISC-V External Debug Support's, not the spec's. -/
def execDtmcs (s : State) : Host.Outcome State Fault Refusal :=
  s.runAny fun d => if d.jlocked then d.tapIr irBypass else (d.tapIr 0x10).ret 9 (Config.dmiWord 0).toNat

/-- DMI (R529): under JLOCK it returns op status 2. -/
def execDmi (s : State) : Host.Outcome State Fault Refusal :=
  s.runAny fun d => let d1 := d.tapIr 0x11; if d.jlocked then d1.ret 9 2 else let r := d1.drawFree; r.2.ret 9 (Config.dmiWord r.1.toNat).toNat

/-- BYPASS (R529): also every opcode not in the table. -/
def execBypass (s : State) : Host.Outcome State Fault Refusal := s.runAny fun d => d.tapIr irBypass

/-! ### DBG registers (R533, R534) -/

/-- A write of DBG_CTL: a one sets JLOCK, cleared by SYSTEM reset only. -/
def Dev.dbgCtl (d : Dev) (data : Nat) : Dev := if bitOf data 0 then (d.put F.DBG_CTL_JLOCK 1).put F.DBG_STAT_JLOCK 1 else d

/-- JLOCK (R529): a write through DBGACC is a TAP access. -/
def execJlock (req : Fin 10) (s : State) : Host.Outcome State Fault Refusal :=
  s.runSys fun d => (if req.val = 9 then d.tapAccess else d).dbgCtl 1

/-- A cork of DBG_DIRECT (R534). -/
def Dev.dbgDirect (d : Dev) (on : Bool) : Dev :=
  if !on then ((d.put F.DBG_STAT_DIRECT 0).put F.DBG_DIRECT_ON 0).causeOff 24 0 0
  else
    let st := d.mirState
    if st ≤ 3 then ((d.put F.DBG_STAT_DIRECT 1).put F.DBG_DIRECT_ON 1).causeOn 24 0 0 1 else d.incSat F.DBG_STAT_DREF

/-- DBG_DIRECT_ON (R534): the corked pair with ON = 1. -/
def execDbgDirectOn (_req : Fin 10) (s : State) : Host.Outcome State Fault Refusal := s.runSys fun d => d.dbgDirect true

/-- DBG_DIRECT_OFF (R534): the corked pair with ON = 0. -/
def execDbgDirectOff (_req : Fin 10) (s : State) : Host.Outcome State Fault Refusal := s.runSys fun d => d.dbgDirect false

/-- The lane pair of DBG_PRBS_CTL.PAIR is idle and its domain powered (R533). -/
def Dev.pairIdle (d : Dev) (p : Nat) : Bool :=
  if p < 32 then d.lgOn (p / 2) && !d.flag (F.TLK_CTL_EN (p / 2)) else decide (p < 34) && !d.flag F.MIR_CTL_EN && !d.rst.core

/-- A write of DBG_PRBS_CTL (R533): setting EN clears ERR. A PAIR that names no lane pair has no effect. -/
def Dev.prbsCtl (d : Dev) (data : Nat) : Dev :=
  let w := BitVec.ofNat 32 data &&& 0xF000003F#32
  let p := data % 64
  if !bitOf data 31 then (d.wr R.DBG_PRBS_CTL w).put F.DBG_PRBS_STAT_LOCK 0
  else if 34 ≤ p then d
  else if d.pairIdle p then (d.wr R.DBG_PRBS_CTL w).wr R.DBG_PRBS_STAT 0
  else d.incSat F.DBG_STAT_PREF

/-- PRBS_CTL_WRITE (R533). -/
def execPrbsCtlWrite (_req : Fin 10) (data : Nat) (s : State) : Host.Outcome State Fault Refusal := s.runSys fun d => d.prbsCtl data

/-- A one written to DBG_STAT.CLR. -/
def Dev.dbgStatClr (d : Dev) : Dev := (d.put F.DBG_STAT_PREF 0).put F.DBG_STAT_DREF 0

/-- DBG_STAT_CLR (R7). -/
def execDbgStatClr (_req : Fin 10) (s : State) : Host.Outcome State Fault Refusal := s.runSys Dev.dbgStatClr

/-! ### The analogue test buses (R531) -/

/-- NODE codes of the node table; the others act as 0. -/
def atbNode (n : Nat) : Nat :=
  if (1 ≤ n ∧ n ≤ 8) ∨ (0x10 ≤ n ∧ n ≤ 0x12) ∨ n = 0x18 ∨ n = 0x19 ∨ (0x20 ≤ n ∧ n ≤ 0x27) ∨ (0x40 ≤ n ∧ n ≤ 0x63) ∨ (0x70 ≤ n ∧ n ≤ 0x77)
  then n else 0

/-- A write of ATB_SELb (R531): a node already connected to the other bus, or FORCE outside production test mode, is
discarded and counted. -/
def Dev.atbSel (d : Dev) (b data : Nat) : Dev :=
  let o := (d.rd (R.ATB_SEL (1 - b))).toNat
  let n := atbNode (data % 1024)
  if bitOf data 30 && d.get F.DBG_STAT_TMODE != 2 then d.incSat F.ATB_STAT_REF
  else if bitOf data 31 && bitOf o 31 && n != 0 && n == atbNode (o % 1024) then d.incSat F.ATB_STAT_REF
  else d.wr (R.ATB_SEL b) (BitVec.ofNat 32 data &&& 0xC00003FF#32)

/-- ATB_SEL_WRITE (R531). -/
def execAtbSelWrite (_req : Fin 10) (b : Fin 2) (data : Nat) (s : State) : Host.Outcome State Fault Refusal := s.runSys fun d => d.atbSel b data

/-- ATB_STAT_CLR (R7). -/
def execAtbStatClr (_req : Fin 10) (s : State) : Host.Outcome State Fault Refusal := s.runSys fun d => d.put F.ATB_STAT_REF 0

end Sys2Proof.Machine
end

