-- ==== Sys2Proof/Machine/Ring.lean ====
section
/-! DEFINITION. The host interface below its opcodes: rings, doorbells, fetching, the replay window and completions
(R373-R389), streams (R394-R397), CAN FD ports (R410-R414), and the PCI Express link. -/

namespace Sys2Proof.Machine

/-! ### Sources of commands: SQ0-SQ255, and ports 256 and 257 -/

def Dev.sq? (d : Dev) (n : Nat) : Option Sq := (d.hif.sqs.find? (fun p => p.1 == n)).map (fun p => p.2)
def Dev.cq? (d : Dev) (n : Nat) : Option Cq := (d.hif.cqs.find? (fun p => p.1 == n)).map (fun p => p.2)

/-- CQ n, where commands may name it: it is not closing. -/
def Dev.cqLive? (d : Dev) (n : Nat) : Option Cq := (d.cq? n).filter (fun c => !c.closing)

def Dev.setSq (d : Dev) (n : Nat) (x : Sq) : Dev := { d with hif := { d.hif with sqs := smIns d.hif.sqs n x } }
def Dev.setCq (d : Dev) (n : Nat) (x : Cq) : Dev := { d with hif := { d.hif with cqs := smIns d.hif.cqs n x } }

/-- A ring as it is created (R376, R387). -/
def newSq (base size cq owner prio : Nat) (core : Bool) (win : Nat) : Sq :=
  ⟨base, size, cq, owner, prio, core, win, 0, 0, none, [], [], none, 0, 0, 0⟩

def newCq (base size vec cthr ctime : Nat) : Cq := ⟨base, size, vec, cthr, ctime, 0, 0, true, 0, [], 0, 0, false⟩

/-- A port as reset leaves it: one replay window of 16 records (R413). -/
def can0 : Can := ⟨newSq 0 0 0 0 3 false 16, [], 0, []⟩

def Dev.canOf (d : Dev) (p : Nat) : Can := smGet d.hif.can can0 p
def Dev.setCan (d : Dev) (p : Nat) (x : Can) : Dev := { d with hif := { d.hif with can := smSet d.hif.can can0 p x } }

/-- The source src, where it exists: an SQ, or a port that is enabled. -/
def Dev.srcOf (d : Dev) (src : Nat) : Option Sq :=
  if src < 256 then d.sq? src else if src < 258 && d.flag (F.CAN_CTL_EN (src - 256)) then some (d.canOf (src - 256)).cmd else none

def Dev.setSrc (d : Dev) (src : Nat) (x : Sq) : Dev :=
  if src < 256 then d.setSq src x else d.setCan (src - 256) { d.canOf (src - 256) with cmd := x }

/-- Entries a CQ holds that the host has not consumed. -/
def Cq.held (c : Cq) : Nat := (c.tail + c.size - c.head) % c.size

def Cq.full (c : Cq) : Bool := decide (c.size ≤ c.held + 1)

/-! ### Opcodes and their paths (R390, R391) -/

def opP : List Nat := [0, 1, 2, 3, 4, 5, 6, 7, 8, 9, 0xA, 0xB, 0xC, 0xD, 0xE, 0xF, 0x10, 0x11, 0x14, 0x15, 0x16, 0x17]
def opC : List Nat := [0, 1, 2, 3, 4, 5, 6, 7, 8, 9, 0xA, 0xB, 0xC, 0xD, 0xE, 0x11, 0x19]
def opM : List Nat := [0, 1, 2, 4, 8, 9, 0xA, 0x19]

/-- BADOP or BADPATH, where opcode op may not run on source src. -/
def opCheck (src op : Nat) : Option Nat :=
  if !opP.contains op && op != 0x19 then some 1
  else if !(if src < 256 then opP else if src = 256 then opC else opM).contains op then some 0xD
  else if decide (0x14 ≤ op) && decide (op ≤ 0x17) && src != 0 then some 1
  else none

/-! ### Completions (R382-R388) -/

/-- A completion code with its results and output buffer. -/
structure OpRes where
  status : Nat
  res0 : Nat
  res1 : Nat
  out : List Nat
deriving DecidableEq, Repr

def OpRes.ok (a b : Nat) : OpRes := ⟨0, a, b, []⟩

def OpRes.err (c : Nat) : OpRes := ⟨c, 0, 0, []⟩

/-- 16-word frames, the last one padded with zeros (R412). -/
def frames : Nat → List Nat → List (List Nat)
  | 0, _ => []
  | k + 1, l => if l.isEmpty then [] else ((l ++ List.replicate 16 0).take 16) :: frames k (l.drop 16)

/-- Words 0 to 3 of a completion entry (R382). -/
def cplWords (c : Cpl) (phase : Bool) : List Nat :=
  [c.res0 % 2 ^ 32, c.res1 % 2 ^ 32, c.sqhd * 2 ^ 16 + c.sq * 2 ^ 8, c.cid * 2 ^ 16 + b2n phase * 2 ^ 15 + b2n c.dup * 2 ^ 14 + c.status]

/-- A port that can send: enabled, on the bus, and not only listening. -/
def Dev.canTalks (d : Dev) (p : Nat) : Bool :=
  d.flag (F.CAN_CTL_EN p) && !d.flag (F.CAN_STAT_BUSOFF p) && !d.flag (F.CAN_CTL_LISTEN p)

/-- Port p is error active again, once neither counter has reached 128 (R410, R414). -/
def Dev.canActive (d : Dev) (p : Nat) : Dev :=
  if d.flag (F.CAN_STAT_ERRPASS p) && decide (d.get (F.CAN_STAT_TEC p) < 128) && decide (d.get (F.CAN_STAT_REC p) < 128) then
    (d.put (F.CAN_STAT_ERRPASS p) 0).causeOff 14 7 p
  else d

/-- A frame has gone out, or come in, without error: TEC goes down by one; REC too, or from 128 on to a value from 119 to 127
(R410). Which one is a free value. -/
def Dev.canGood (d : Dev) (p : Nat) (rx : Bool) : Dev :=
  let c := if rx then d.get (F.CAN_STAT_REC p) else d.get (F.CAN_STAT_TEC p)
  if !rx then (d.put (F.CAN_STAT_TEC p) (c - 1)).canActive p
  else if c < 128 then (d.put (F.CAN_STAT_REC p) (c - 1)).canActive p
  else let r := d.drawFree; (r.2.put (F.CAN_STAT_REC p) (119 + r.1.toNat % 9)).canActive p

/-- Errors of port p: which was the last, and where the counters that lim bounds stand, are free values (R410). -/
def Dev.canBad (d : Dev) (p : Nat) (tec rec_ : Nat → Nat) : Dev :=
  let a := d.drawFree
  let b := a.2.drawFree
  let c := b.2.drawFree
  ((c.2.put (F.CAN_STAT_LEC p) (1 + a.1.toNat % 6)).put (F.CAN_STAT_TEC p) (tec b.1.toNat)).put (F.CAN_STAT_REC p) (rec_ c.1.toNat)

/-- A frame of port p under CANn_IDTX, at two bit rates where CANn_CTL.BRS says so (R410, R412). -/
def Dev.canFrame (d : Dev) (p : Nat) (ws : List Nat) : HostOut :=
  let xtd := d.flag (F.CAN_IDTX_XTD p)
  .can p xtd (d.get (F.CAN_IDTX_ID p) % (if xtd then 2 ^ 29 else 2 ^ 11)) (d.flag (F.CAN_CTL_BRS p)) ws

/-- Waiting frames of port p are sent (R412, R414). -/
def Dev.canFlush (d : Dev) (p : Nat) : Dev :=
  if d.canTalks p then
    let x := d.canOf p
    (x.tx.foldl (fun (y : Dev) ws => (y.emit (d.canFrame p ws)).canGood p false) d).setCan p { x with tx := [] }
  else d

/-- A completion joins those that wait for their CQ, or is sent on its port (R383, R412). -/
def Dev.post (d : Dev) (src cq : Nat) (c : Cpl) : Dev :=
  if src < 256 then
    match d.cq? cq with
    | some q => d.setCq cq { q with wait := q.wait ++ [c] }
    | none => d
  else
    let p := src - 256
    let x := d.canOf p
    (d.setCan p { x with tx := x.tx ++ frames (c.data.length + 1) c.data ++ [cplWords c false] }).canFlush p

/-- The record that entry e made takes its completion; a duplicate made none (R387, R388). -/
def recDone (rs : List Rec) (e : Ent) (r : OpRes) : List Rec :=
  rs.map (fun c => if decide (e.cls ≠ .dup) && e.rec_ == some c.no then { c with cpl := some (r.res0, r.res1, r.status) } else c)

/-- A command of source src with entry e and result r completes (R386, R388): NOCPL with OK writes nothing. -/
def Dev.complete (d : Dev) (src : Nat) (e : Ent) (daddr : Nat) (r : OpRes) : Dev :=
  match d.srcOf src with
  | none => d
  | some x =>
    let d1 := d.setSrc src { x with recs := recDone x.recs e r }
    if e.nocpl && r.status == 0 then d1
    else
      let hd := if src < 256 then (e.idx + 1) % x.size else 0xFFFF
      d1.post src x.cq ⟨r.res0, r.res1, hd, src % 256, e.cid, decide (e.cls = .dup), r.status, daddr, r.out⟩

/-- The cask of a fetched entry leaves queue src and is freed by the command core. -/
def Dev.caskDone (d : Dev) (src : Nat) (cask : Option Nat) : Dev :=
  match cask with
  | none => d
  | some k => ((d.upQmg (fun q => (q.setQueue src ((q.queue src).filter (· != k))).freeCask k)).poolCheck).noteQ src

/-- The first waiting entry of source src is taken off its queue. -/
def Dev.popEnt (d : Dev) (src : Nat) : Dev :=
  match d.srcOf src with
  | none => d
  | some x => match x.ents with
    | [] => d
    | e :: r => (d.setSrc src { x with ents := r }).caskDone src e.cask

/-- A duplicate completes as its record says (R388). -/
def Dev.dupDone (d : Dev) (src : Nat) (e : Ent) : Dev :=
  match d.srcOf src with
  | none => d
  | some x =>
    let r := match x.recs.find? (fun r => e.rec_ == some r.no) with
      | some r => r.cpl.elim (OpRes.ok 0 0) (fun c => ⟨c.2.2, c.1, c.2.1, []⟩)
      | none => OpRes.ok 0 0
    d.complete src e 0 r

/-- Duplicates that wait for the command of entry e complete directly after it (R388). -/
def Dev.dupsAfter (d : Dev) (src : Nat) (e : Ent) : Dev :=
  match d.srcOf src with
  | none => d
  | some x =>
    let mine := fun (f : Ent) => decide (f.cls = .dup) && e.rec_.isSome && f.rec_ == e.rec_
    (x.ents.filter mine).foldl (fun (y : Dev) f => (y.caskDone src f.cask).dupDone src f) (d.setSrc src { x with ents := x.ents.filter (fun f => !mine f) })

/-- Entries that are not executed complete in their turn (R387). -/
def Dev.drainEnts (d : Dev) (src : Nat) : Nat → Dev
  | 0 => d
  | k + 1 =>
    match d.srcOf src with
    | none => d
    | some x => match x.ents with
      | [] => d
      | e :: _ => match e.cls with
        | .run => d
        | .status c => (((d.popEnt src).complete src e 0 (.err c)).dupsAfter src e).drainEnts src k
        | .dup => ((d.popEnt src).dupDone src e).drainEnts src k

/-! ### Fetching and classification (R379, R387) -/

def entCid (w : List Nat) : Nat := bits (w.getD 0 0) 31 16
def entOp (w : List Nat) : Nat := w.getD 0 0 % 256
def entNocpl (w : List Nat) : Bool := bitOf (w.getD 0 0) 10
def entSeq (w : List Nat) : Nat := w.getD 1 0 % 2 ^ 16

/-- Parameter Pn of an entry (R381). -/
def entP (w : List Nat) (n : Nat) : Nat := w.getD (5 + n) 0

/-- The classes of R387. -/
def Sq.isNew (x : Sq) (seq : Nat) : Bool :=
  match x.last with
  | none => true
  | some l => let ahead := (seq + 2 ^ 16 - l) % 2 ^ 16; decide (1 ≤ ahead) && decide (ahead ≤ 32767)

/-- The record in the window with the tag of an entry (R387). -/
def Sq.repeats (x : Sq) (w : List Nat) : Option Rec := (x.recs.reverse.take x.win).find? (fun r => r.seq == entSeq w)

/-- An entry that is executed, but for its opcode, or for an AC_CTL that asks for none of its three actions, which no command row
spells (R390, R392). -/
def entRun (src : Nat) (w : List Nat) : EntCls :=
  match opCheck src (entOp w) with
  | some c => .status c
  | none => if entOp w = 0x11 && !(decide (1 ≤ entP w 1) && decide (entP w 1 ≤ 3)) then .status 2 else .run

def Sq.classify (x : Sq) (src : Nat) (w : List Nat) : EntCls :=
  if entSeq w = 0 || x.isNew (entSeq w) then entRun src w
  else match x.repeats w with
    | some r => if r.op = entOp w ∧ r.cid = entCid w then .dup else .status 7
    | none => .status 6

/-- The number of the record that an entry makes or repeats. -/
def Sq.recOf (x : Sq) (w : List Nat) : Option Nat :=
  if entSeq w = 0 then none else if x.isNew (entSeq w) then some x.made else (x.repeats w).map (fun r => r.no)

/-- LAST and the records after an entry is accepted (R387, R389): records beyond the window stay only for duplicates
that already wait for them. -/
def Sq.accept (x : Sq) (w : List Nat) : Sq :=
  if entSeq w != 0 && x.isNew (entSeq w) then
    let rs := x.recs ++ [⟨x.made, entSeq w, entOp w, entCid w, none⟩]
    { x with last := some (entSeq w), made := x.made + 1, recs := rs.drop (rs.length - (x.win + 256)) }
  else x

/-- A fetched entry joins its queue and is classified. -/
def Dev.entIn (d : Dev) (src : Nat) (x : Sq) (w : List Nat) (cask : Option Nat) (idx : Nat) : Dev :=
  let e : Ent := ⟨entSeq w, entOp w, entCid w, entNocpl w, cask, idx, x.classify src w, w, x.recOf w⟩
  let y := x.accept w
  (d.setSrc src { y with ents := y.ents ++ [e] }).drainEnts src (y.ents.length + 1)

/-- A cask of owner o that holds the entry is pushed to queue q (R379, R411). -/
def Dev.caskIn (d : Dev) (o q : Nat) (w : List Nat) : Option (Dev × Nat) :=
  let (a, c, k) := d.qmg.alloc o
  if c = .ok then
    let (b, c2) := a.push o q k
    if c2 = .ok then some (((({ d with qmg := b, cmem := memWriteBytes d.cmem (64 * k) (wordsBytes w) } : Dev).poolCheck).noteQ q), k) else none
  else none

/-- A submission entry of 16 words. -/
def entry16 (l : List Nat) : List Nat := ((l ++ List.replicate 16 0).take 16).map (· % 2 ^ 32)

/-- The entry at the head of SQ n is stored, or waits for a cask (R379). -/
def Dev.fetchIn (d : Dev) (n : Nat) (x : Sq) (w : List Nat) : Dev :=
  match d.caskIn 0 n w with
  | some (d1, k) => d1.entIn n { x with head := (x.head + 1) % x.size, stuck := none, flight := x.flight - 1 } w (some k) x.head
  | none => ((d.setSq n { x with stuck := some w, stuckAt := d.fab, flight := 0 }).incSat F.HIF_CNT1_FETCHEXH).raise 14 5 n 1

/-- Rings are fetched: HIF_CTL.EN is set and requests can be issued (R379). -/
def Dev.fetching (d : Dev) : Bool := d.flag F.HIF_CTL_EN && d.pcieGo

/-- An entry of ring x may arrive: HIF may request it, or requested it before its domain began to drain (R379, R508). -/
def Dev.arrives (d : Dev) (x : Sq) : Bool :=
  d.fetching || (d.flag F.HIF_CTL_EN && d.domState 6 == 3 && d.pcieLink && decide (0 < x.flight))

/-- SQ_ENTRY_FETCH (R379, R387): the entry at the head of SQ n, read from host memory. -/
def execSqEntryFetch (n : Fin 256) (entry : List Nat) (s : State) : Host.Outcome State Fault Refusal :=
  s.run fun d =>
    match d.sq? n with
    | some x =>
      if !d.arrives x || x.stuck.isSome || x.head == x.tail || decide (max 1 (d.get F.HIF_CFG_FETCH) ≤ x.ents.length) then d
      else d.fetchIn n x (entry16 entry)
    | none => d

/-- The entry of SQ n that waits for a cask is tried again (R379). -/
def Dev.fetchAgain (d : Dev) (n : Nat) : Dev :=
  match d.sq? n with
  | some x => match x.stuck with
    | some w => if d.flag F.HIF_CTL_EN && d.domUp 6 then d.fetchIn n x w else d
    | none => d
  | none => d

/-- FETCH_RETRY (R379): 1 µs after a failed allocation. -/
def execFetchRetry (n : Fin 256) (s : State) : Host.Outcome State Fault Refusal :=
  s.run fun d =>
    match d.sq? n with
    | some x => if x.stuck.isSome then (d.until (x.stuckAt + 400)).fetchAgain n else d
    | none => d

/-! ### Doorbells (R377, R378) -/

/-- A doorbell write is discarded. -/
def Dev.dbBad (d : Dev) (n : Nat) : Dev := (d.incSat F.HIF_CNT0_DBBAD).raise 14 3 n 1

/-- The host reaches the function: the PCIe domain is on and out of reset, and the link is up. -/
def Dev.cfgUp (d : Dev) : Bool := d.pcieOn && !d.rst.perst && d.flag F.HIF_STAT_LINKUP

/-- The host reaches BAR2: memory space answers in D0 only (R373). -/
def Dev.bar2 (d : Dev) : Bool := d.cfgUp && !d.hif.pcie.d3hot

/-- The tail of SQ n (R377, R378). -/
def Dev.sqDoor (d : Dev) (n v : Nat) : Dev :=
  match d.sq? n with
  | some x => if v < x.size then d.setSq n { x with tail := v } else d.dbBad n
  | none => d.dbBad n

/-- The head of CQ n (R378, R385). -/
def Dev.cqDoor (d : Dev) (n v : Nat) : Dev :=
  match d.cq? n with
  | some c =>
    if v < c.size ∧ (v + c.size - c.head) % c.size ≤ c.held then
      let y := { c with head := v }
      let d1 := d.setCq n y
      if y.full then d1 else d1.causeOff 14 4 n
    else d.dbBad n
  | none => d.dbBad n

/-- The read pointer of stream n (R377, R378). -/
def Dev.rpDoor (d : Dev) (n v : Nat) : Dev :=
  let x := d.stmOf n
  let z := d.stmSize n
  if d.flag (F.STM_CFG_EN n) ∧ v < z ∧ (v + z - x.rp) % z ≤ (x.wp + z - x.rp) % z then (d.setStm n { x with rp := v }).put (F.STM_RP_PTR n) v
  else d.dbBad n

/-- A 32-bit write of BAR2 at off: its page of 0x100 bytes and the doorbell in it; the other offsets are holes (R377). -/
def Dev.doorbell (d : Dev) (off v : Nat) : Dev :=
  let n := off / 0x100 % 256
  match off % 0x100 with
  | 0 => d.sqDoor n v
  | 4 => d.cqDoor n v
  | 8 => if n < 8 then d.rpDoor n v else d
  | _ => d

/-- A write of BAR2 (R377): one narrower than 32 bits is discarded. DESIGN CHOICE (notes/assumptions/115.md): one of 64 bits is its
low word and then its high word. -/
def Dev.bar2Write (d : Dev) (off size data : Nat) : Dev :=
  if !d.bar2 || decide (size < 4) then d
  else if size = 8 then (d.doorbell off (data % 2 ^ 32)).doorbell (off + 4) (data / 2 ^ 32 % 2 ^ 32)
  else d.doorbell off (data % 2 ^ 32)

/-- A read of BAR2 (R377). -/
def Dev.bar2Read (_d : Dev) (_off : Nat) : Nat := 0

/-- SQ_DOORBELL (R377, R378). -/
def execSqDoorbell (n : Fin 256) (value : Nat) (s : State) : Host.Outcome State Fault Refusal :=
  s.run fun d => d.bar2Write (0x100 * n.val) 4 value

/-- CQ_DOORBELL (R377, R378, R385). -/
def execCqDoorbell (n : Fin 256) (value : Nat) (s : State) : Host.Outcome State Fault Refusal :=
  s.run fun d => d.bar2Write (0x100 * n.val + 4) 4 value

/-- STREAM_RP_DOORBELL (R377, R378). -/
def execStreamRpDoorbell (n : Fin 8) (value : Nat) (s : State) : Host.Outcome State Fault Refusal :=
  s.run fun d => d.bar2Write (0x100 * n.val + 8) 4 value

/-! ### Configuration space (R373, R374) -/

/-- Device ID and class code. -/
def cfgDevice : Nat := 0x9512
def cfgClass : Nat := 0x00118000 / 0x100

/-- Sizes of BAR0/BAR1 and BAR2/BAR3, 64-bit non-prefetchable memory. -/
def bar0Size : Nat := 2 ^ 25
def bar2Size : Nat := 2 ^ 16

/-- The places of the MSI-X vector table and of the pending-bit array in BAR0. -/
def msixTableAt : Nat := 0x130000
def msixPbaAt : Nat := 0x138000

/-- A 64-bit non-prefetchable memory BAR of z bytes at base: the low word shows its type. -/
def barWord (base z : Nat) (hi : Bool) : Nat :=
  let b := base / z * z
  if hi then b / 2 ^ 32 % 2 ^ 32 else b % 2 ^ 32 + 4

/-- The words of the configuration header that R374 gives: identification, class code and the six BARs; the others are open. -/
def Dev.cfgWord (d : Dev) (off : Nat) : Option Nat :=
  match off with
  | 0x00 => some (cfgDevice * 2 ^ 16 + Config.vendorId % 2 ^ 16)
  | 0x08 => some (cfgClass * 2 ^ 8 + Config.revisionId % 2 ^ 8)
  | 0x10 => some (barWord d.hif.pcie.bar0 bar0Size false)
  | 0x14 => some (barWord d.hif.pcie.bar0 bar0Size true)
  | 0x18 => some (barWord d.hif.pcie.bar2 bar2Size false)
  | 0x1C => some (barWord d.hif.pcie.bar2 bar2Size true)
  | 0x20 => some 0
  | 0x24 => some 0
  | _ => none

/-! ### Completion rings (R383-R385) -/

/-- CQ n signals its vector. -/
def Dev.cqSignal (d : Dev) (n : Nat) (c : Cq) : Dev := (d.setCq n { c with unsig := 0 }).msix c.vec

/-- CQ n is deleted; while completions still wait for it, it is closing (R385, R386). -/
def Dev.cqDrop (d : Dev) (n : Nat) : Dev :=
  match d.cq? n with
  | none => d
  | some c =>
    if c.wait.isEmpty then ({ d with hif := { d.hif with cqs := smDel d.hif.cqs n } } : Dev).causeOff 14 4 n
    else d.setCq n { c with closing := true }

/-- COMPLETION_WRITE (R383-R386): the oldest waiting completion of CQ n, after its buffer. The last one of a ring that is closing
signals and ends it. -/
def execCompletionWrite (cq : Fin 256) (s : State) : Host.Outcome State Fault Refusal :=
  s.run fun d =>
    match d.cq? cq with
    | none => d
    | some c => match c.wait with
      | [] => d
      | e :: r =>
        if c.full || !d.pcieGo then d
        else
          let d1 := if e.data.isEmpty then d else d.emit (.write e.daddr e.data)
          let d2 := d1.emit (.write (c.base + 16 * c.tail) (cplWords e c.phase))
          let t := (c.tail + 1) % c.size
          let y := { c with wait := r, tail := t, phase := if t = 0 then !c.phase else c.phase, unsig := c.unsig + 1,
                              since := if c.unsig = 0 then d.fab else c.since, fullAt := d.fab }
          if c.closing && r.isEmpty then (d2.cqSignal cq y).cqDrop cq
          else if max 1 c.cthr ≤ y.unsig then d2.cqSignal cq y
          else d2.setCq cq y

/-- CQ_COALESCE_TIMEOUT (R384): CTIME µs after the first unsignalled completion. -/
def execCqCoalesceTimeout (cq : Fin 256) (s : State) : Host.Outcome State Fault Refusal :=
  s.run fun d =>
    match d.cq? cq with
    | some c => if c.ctime ≠ 0 ∧ c.unsig ≠ 0 then (d.until (c.since + 400 * c.ctime)).cqSignal cq c else d
    | none => d

/-- CQ_STALL (R385): CQ n has stayed full for HIF_CFG.CQTO ms. -/
def execCqStall (cq : Fin 256) (s : State) : Host.Outcome State Fault Refusal :=
  s.run fun d =>
    match d.cq? cq with
    | some c =>
      if c.full then ((d.until (c.fullAt + 400000 * max 1 (d.get F.HIF_CFG_CQTO))).incSat F.HIF_CNT1_CQSTALL).causeOn 14 4 cq 1 else d
    | none => d

/-! ### HIF_CTL.EN (R379, R389, R392) -/

/-- QMG_QCFG of the queue of an SQ: its consumer is the SQ's core (R406). -/
def sqQcfg (core : Bool) : Word := BitVec.ofNat 32 ((1 + b2n core) * 2 ^ 24 + 2 ^ 23)

/-- SQ n comes to exist, and its queue with it. -/
def Dev.addSq (d : Dev) (n : Nat) (x : Sq) : Dev := (d.setSq n x).upQmg (fun q => q.setQcfg n (sqQcfg x.core))

/-- Every fetched entry of SQ n that has not started completes with ABORTED (R391, R392). -/
def Dev.abortEnts (d : Dev) (n : Nat) : Dev :=
  match d.sq? n with
  | none => d
  | some x =>
    let d1 := x.ents.foldl (fun (y : Dev) e => (y.caskDone n e.cask).complete n { e with cls := .status 0xC } 0 (.err 0xC)) d
    d1.setSq n { x with ents := [], stuck := none, recs := [], last := none }

/-- HIF_CTL.EN is set: the admin pair runs (R376, R379), CQ0 with the completions that still wait for it. -/
def Dev.hifEnable (d : Dev) : Dev :=
  if d.flag F.HIF_CTL_EN then d
  else
    let sq := newSq (d.get64 R.HIF_ASQ_LO R.HIF_ASQ_HI) (max 1 (d.get F.HIF_ASZ_ASQS) + 1) 0 0 0 false 16
    let cq := { newCq (d.get64 R.HIF_ACQ_LO R.HIF_ACQ_HI) (max 1 (d.get F.HIF_ASZ_ACQS) + 1) 0 1 0 with wait := (d.cq? 0).elim [] (fun c => c.wait) }
    (((d.put F.HIF_CTL_EN 1).put F.HIF_STAT_RDY 1).addSq 0 sq).setCq 0 cq

/-- HIF_CTL.EN is cleared: fetching stops, fetched entries are aborted, rings 1-255 and all records go (R389, R392). -/
def Dev.hifDisable (d : Dev) : Dev :=
  if !d.flag F.HIF_CTL_EN then d
  else
    let d1 := (smKeys d.hif.sqs).foldl (fun (x : Dev) n => x.abortEnts n) d
    let gone := (smKeys d1.hif.sqs).filter (· != 0)
    let d2 : Dev := { d1.upQmg (fun q => gone.foldl (fun y n => y.setQcfg n 0) q) with
      hif := { d1.hif with sqs := d1.hif.sqs.filter (fun p => p.1 == 0) } }
    let d3 := ((smKeys d2.hif.cqs).filter (· != 0)).foldl (fun (x : Dev) n => x.cqDrop n) d2
    (d3.put F.HIF_CTL_EN 0).put F.HIF_STAT_RDY 0

/-- A command on the registers of HIF: while their domain is off it is refused (R37), and in its reset they keep their reset
values (R482). -/
def Dev.hifReach (d : Dev) (req : Nat) (f : Dev → Dev) : Dev :=
  if !d.domUp 6 then d.pwrOffAccess req true else if d.rst.perst then d else f d

/-- HIF_ENABLE (R379). -/
def execHifEnable (req : Fin 10) (s : State) : Host.Outcome State Fault Refusal := s.run fun d => d.hifReach req Dev.hifEnable

/-- HIF_DISABLE (R389). -/
def execHifDisable (req : Fin 10) (s : State) : Host.Outcome State Fault Refusal := s.run fun d => d.hifReach req Dev.hifDisable

/-- Every counter that HIF_CNT_CLR clears. -/
def Dev.hifCntClr (d : Dev) : Dev := forN 8 (fun x n => x.put (F.STM_STAT_LOST n) 0) ((d.wr R.HIF_CNT0 0).wr R.HIF_CNT1 0)

/-- HIF_CNT_CLR (R7). -/
def execHifCntClr (req : Fin 10) (s : State) : Host.Outcome State Fault Refusal := s.run fun d => d.hifReach req Dev.hifCntClr

/-! ### Streams (R394-R397) -/

/-- Ring base and WP address with the bits that read 0. -/
def Dev.stmMask (d : Dev) (n : Nat) : Dev :=
  d.wr (R.STM_BASE_LO n) (BitVec.ofNat 32 ((d.rd (R.STM_BASE_LO n)).toNat / d.stmSize n * d.stmSize n))

/-- The argument a stream is fed under: those of the tooth log from 0x10 on are one (R418). -/
def stmArg (src arg : Nat) : Nat := if src = 2 ∧ 16 ≤ arg then 0xFF else arg

/-- A write of STMn_CFG (R396, R397): SRC, SZ, ARG and VEC only while EN is clear. -/
def Dev.stmCfg (d : Dev) (n data : Nat) : Dev :=
  let was := d.flag (F.STM_CFG_EN n)
  let en := bitOf data 31
  let src := bits data 30 28
  let arg := bits data 23 16
  let fed := (List.range 8).any (fun m => m != n && d.flag (F.STM_CFG_EN m) && d.get (F.STM_CFG_SRC m) == src &&
    stmArg src (d.get (F.STM_CFG_ARG m)) == stmArg src arg)
  if en && !was && fed && src != 0 then d.put (F.STM_STAT_CFGERR n) 1
  else
    let d1 := d.put (F.STM_STAT_CFGERR n) 0
    let d2 := d1.wr (R.STM_CFG n) (mix (d1.rd (R.STM_CFG n)) (BitVec.ofNat 32 data) (if was then 0x8000F000 else 0xFFFFF3FF))
    if en && !was then (((d2.setStm n stm0).put (F.STM_WP_PTR n) 0).put (F.STM_RP_PTR n) 0).stmMask n
    else if was && !en then (d2.setStm n { d2.stmOf n with chunk := [] }).put (F.STM_STAT_ERR n) 0
    else if !was then d2.stmMask n
    else d2

/-- STREAM_ENABLE (R396): a write of STMn_CFG with EN set. -/
def execStreamEnable (req : Fin 10) (n : Fin 8) (data : Nat) (s : State) : Host.Outcome State Fault Refusal :=
  s.run fun d => d.hifReach req (fun d => d.stmCfg n (Nat.lor data (2 ^ 31)))

/-- STREAM_FLUSH (R395): 2^FLUSH µs since the first pending record. -/
def execStreamFlush (n : Fin 8) (s : State) : Host.Outcome State Fault Refusal :=
  s.run fun d =>
    if d.flag (F.STM_CFG_EN n) && !d.flag (F.STM_STAT_ERR n) && !(d.stmOf n).chunk.isEmpty then
      (d.until ((d.stmOf n).since + 400 * 2 ^ d.get (F.STM_CFG_FLUSH n))).stmFlush n
    else d

/-! ### The link and its errors (R373, R393, R415) -/

/-- LINK_DOWN (R373): rings and streams idle. -/
def execLinkDown (s : State) : Host.Outcome State Fault Refusal :=
  s.run fun d => if d.pcieOn && d.flag F.HIF_STAT_LINKUP then
      ((((d.put F.HIF_STAT_LINKUP 0).put F.HIF_STAT_SPEED 0).put F.HIF_STAT_WIDTH 0).causeOn 14 0 0 2)
    else d

/-- Pending messages of unmasked vectors are sent. -/
def Dev.msixSweep (d : Dev) : Dev :=
  forN 64 (fun x w => if x.rd (0x138000 + 4 * w) = 0 then x else
    forN 32 (fun y b => if y.bit (0x138000 + 4 * w) b && !y.bit (0x130000 + 16 * (32 * w + b) + 12) 0 then
      (y.setBit (0x138000 + 4 * w) b false).msix (32 * w + b) else y) x) d

/-- PCIE_LINK_UP (R373). -/
def execPcieLinkUp (speed : Fin 4) (width : Nat) (s : State) : Host.Outcome State Fault Refusal :=
  s.run fun d => if d.domState 6 = 2 ∧ !d.rst.perst ∧ speed.val ≠ 0 ∧ (width = 1 ∨ width = 2 ∨ width = 4) then
      ((((d.put F.HIF_STAT_LINKUP 1).put F.HIF_STAT_SPEED speed).put F.HIF_STAT_WIDTH width).causeOff 14 0 0).msixSweep
    else d

/-- FUNCTION_LEVEL_RESET (R415). -/
def execFunctionLevelReset (s : State) : Host.Outcome State Fault Refusal := s.run fun d => if d.cfgUp then d.pcieClear else d

/-! ### CAN FD ports (R410-R414) -/

/-- Does a frame carry the command identifier of port p (R411)? -/
def Dev.canMine (d : Dev) (p : Nat) (xtd : Bool) (id : Nat) : Bool :=
  let m := if xtd then 2 ^ 29 else 2 ^ 11
  d.flag (F.CAN_IDRX_XTD p) == xtd && d.get (F.CAN_IDRX_ID p) % m == id % m

/-- What a frame of an entry's length and identifier does at port p (R411): it is pushed as a command, or discarded and counted. -/
def Dev.canTake (d : Dev) (p : Nat) (fd : Bool) (entry : List Nat) : Dev :=
  let q := 256 + p
  if !fd || entry.length != 16 || decide (16 ≤ (d.qmg.queue q).length) then d.incSat (F.CAN_CNT_REJ p)
  else match d.caskIn (1 + p) q (entry16 entry) with
    | some (d1, k) => (d1.incSat (F.CAN_CNT_CMD p)).entIn q (d1.canOf p).cmd (entry16 entry) (some k) 0
    | none => d.incSat (F.CAN_CNT_REJ p)

/-- CAN_COMMAND_FRAME (R410, R411, R413): a frame without error; remote frames are ignored. -/
def execCanCommandFrame (port : Fin 2) (fmt : CanFmt) (xtd : Bool) (id : Nat) (entry : List Nat) (s : State) : Host.Outcome State Fault Refusal :=
  s.run fun d =>
    if !d.flag (F.CAN_CTL_EN port) || d.flag (F.CAN_STAT_BUSOFF port) then d
    else
      let d1 := d.canGood port true
      if decide (fmt = .remote) || !d1.canMine port xtd id then d1 else d1.canTake port (decide (fmt = .fd)) entry

/-- Port p goes bus-off: TEC is beyond its range, and the last error a free value. -/
def Dev.canOff (d : Dev) (p : Nat) : Dev :=
  ((d.canBad p (fun _ => 255) (fun _ => d.get (F.CAN_STAT_REC p))).put (F.CAN_STAT_BUSOFF p) 1).causeOn 14 6 p 2

/-- Port p is back from bus-off (R414): the error counters return to 0, and what waits is sent. -/
def Dev.canBack (d : Dev) (p : Nat) : Dev :=
  (((((((d.put (F.CAN_STAT_BUSOFF p) 0).put (F.CAN_STAT_ERRPASS p) 0).put (F.CAN_STAT_TEC p) 0).put (F.CAN_STAT_REC p) 0).causeOff
    14 6 p).causeOff 14 7 p).canFlush p)

/-- Errors have taken a counter of port p to 128 or more; which one, and where the two stand, is a free value. -/
def Dev.canPassive (d : Dev) (p : Nat) : Dev :=
  let r := d.drawFree
  let tx := r.1.getLsbD 0
  ((r.2.canBad p (fun n => if tx then 128 + n % 128 else n % 256) (fun n => if tx then n % 256 else 128 + n % 128)).put (F.CAN_STAT_ERRPASS p) 1).causeOn
    14 7 p 1

/-- Both counters of port p are below 128 again; where they stand is a free value. -/
def Dev.canCalm (d : Dev) (p : Nat) : Dev :=
  let a := d.drawFree
  let b := a.2.drawFree
  (((b.2.put (F.CAN_STAT_TEC p) (a.1.toNat % 128)).put (F.CAN_STAT_REC p) (b.1.toNat % 128)).put (F.CAN_STAT_ERRPASS p) 0).causeOff 14 7 p

/-- CAN_BUSOFF (R410, R414). -/
def execCanBusoff (port : Fin 2) (s : State) : Host.Outcome State Fault Refusal :=
  s.run fun d => if d.flag (F.CAN_CTL_EN port) && !d.flag (F.CAN_STAT_BUSOFF port) then d.canOff port else d

/-- CAN_BUSOFF_RECOVERY (R414). -/
def execCanBusoffRecovery (port : Fin 2) (s : State) : Host.Outcome State Fault Refusal :=
  s.run fun d => if d.flag (F.CAN_STAT_BUSOFF port) then d.canBack port else d

/-- CAN_ERRPASS (R410, R414). -/
def execCanErrpass (port : Fin 2) (present : Bool) (s : State) : Host.Outcome State Fault Refusal :=
  s.run fun d =>
    if !d.flag (F.CAN_CTL_EN port) || d.flag (F.CAN_STAT_ERRPASS port) == present then d
    else if present then d.canPassive port else d.canCalm port

/-- CAN_CNT_CLR (R7). -/
def execCanCntClr (_req : Fin 10) (port : Fin 2) (s : State) : Host.Outcome State Fault Refusal := s.run fun d => d.wr (R.CAN_CNT port) 0

/-- A write of CANn_CTL. -/
def Dev.canCtl (d : Dev) (p data : Nat) : Dev := (d.wr (R.CAN_CTL p) (BitVec.ofNat 32 data &&& 0xD#32)).canFlush p

/-! ### The staging buffer (R412) -/

/-- Casks until the buffer of port p holds k of them; none when an allocation fails. -/
def Dev.stageGrow (d : Dev) (p k : Nat) : Nat → Option Dev
  | 0 => some d
  | f + 1 =>
    let x := d.canOf p
    if k ≤ x.stageCasks.length then some d
    else
      let (q, c, j) := d.qmg.alloc (1 + p)
      if c = .ok then ((({ d with qmg := q } : Dev).poolCheck).setCan p { x with stageCasks := x.stageCasks ++ [j] }).stageGrow p k f else none

/-- Address in cask memory of byte i of the buffer. -/
def Can.at (x : Can) (i : Nat) : Nat := 64 * x.stageCasks.getD (i / 64) 0 + i % 64

/-- Bytes at an offset of the buffer. -/
def Dev.stageWrite (d : Dev) (p : Nat) : Nat → List Nat → Dev
  | _, [] => d
  | i, b :: r => ({ d with cmem := memSet d.cmem ((d.canOf p).at i) (BitVec.ofNat 8 b) } : Dev).stageWrite p (i + 1) r

/-- The first k bytes of the buffer. -/
def Dev.stageRead (d : Dev) (p k : Nat) : List Nat := (List.range k).map (fun i => (memGet d.cmem ((d.canOf p).at i)).toNat)

/-- The buffer is emptied and its casks freed. -/
def Dev.stageEmpty (d : Dev) (p : Nat) : Dev :=
  let x := d.canOf p
  ((d.upQmg (fun q => q.freeAll x.stageCasks)).poolCheck).setCan p { x with stage := 0, stageCasks := [] }

end Sys2Proof.Machine
end

