-- ==== Sys2Proof/Machine/Bus.lean ====
section
/-! DEFINITION. BAR0 accesses (R33-R37, R40-R46, R48-R65): what a read returns and latches, what a write does to every
register, corked pairs, the bit window, the memory apertures, and the accesses of DBGACC (R530). -/

namespace Sys2Proof.Machine

/-! ### Fields that a plain write changes (R7, R48, R55) -/

/-- The update group of the RWS fields of a is pending (R55). -/
def Dev.rwsBusy (d : Dev) (a : Nat) : Bool :=
  match d.boundTrk a with
  | some k => d.bit R.SYS_UPD_PEND (d.grpOf k)
  | none => decide (0x108000 ≤ a) && decide (a < 0x10C000) && d.bit R.SYS_UPD_PEND (d.get F.CDT_GRP_GRP)

/-- TRKn_WHL and TRKn_PHW (R122). -/
def relatchAt (a : Nat) : Bool := decide (0x60000 ≤ a) && decide (a < 0x70000) && decide (0x40 ≤ a % 0x1000) && decide (a % 0x1000 < 0xC0)

/-- A write of the RWS bits m of the register at a: the shadow copy, unless its group is pending; in direct-debug mode
the live copy too (R55, R121, R122, R534). -/
def Dev.rwsWrite (d : Dev) (a : Nat) (w : Word) (m : Nat) : Dev :=
  let d1 := if d.rwsBusy a then d.incSat F.SYS_UPD_STAT_BUSYWR else d.wrS a (mix (d.rdS a) w m)
  if d.direct then
    let d2 := d1.wr a (mix (d1.rd a) w m)
    if relatchAt a then d2.upTk ((a - 0x60000) / 0x1000) (fun t => { t with relatch := true }) else d2
  else d1

/-- A write of a register without an action of its own (R7). -/
def Dev.plainWrite (d : Dev) (a : Nat) (w : Word) : Dev :=
  match descOf a with
  | none => d
  | some e =>
    let d1 := if e.rw = 0 then d else d.wr a (mix (d.rd a) w e.rw)
    if e.rws = 0 then d1 else d1.rwsWrite a w e.rws

/-- A register as requester req reads it, without an action of its own (R7, R58). -/
def Dev.plainRead (d : Dev) (req a : Nat) : Word :=
  match descOf a with
  | none => 0
  | some e => if e.rws = 0 || (d.own req R.SYS_LIVE_VIEW).getLsbD 0 then d.rd a else mix (d.rd a) (d.rdS a) e.rws

/-! ### Corked registers (R59-R63) -/

/-- The value word whose complement word is at a. -/
def corkOf (a : Nat) : Option Nat := if 4 ≤ a && (corkBlk (a - 4)).isSome then some (a - 4) else none

/-- A corked pair arrives: the register takes effect. -/
def Dev.corkTake (d : Dev) (a v : Nat) : Dev :=
  if a = 0xE2000 then d.tpwrWrite 0 v
  else if a = 0xE2008 then d.tpwrWrite 1 v
  else if a = 0x10C000 then d.boostEnWrite 0 v
  else if a = 0x10C008 then d.boostEnWrite 1 v
  else if a = 0x10C010 then d.chForce v
  else if a = 0x1B0024 then d.takeover (v % 4)
  else if a = 0x10008 then d.refSwitch (v % 4)
  else if a = 0x20000 then d.domCork (v % 8) (bitOf v 8)
  else if a = 0x1A0008 then d.bankSw (bitOf v 0)
  else if a = 0x1A0020 then d.spareSwap (bits v 31 28) (v % 2 ^ 24)
  else if a = 0x1D0008 then d.dbgDirect (bitOf v 0)
  else d

/-- A value word is written (R59, R61, R62). -/
def Dev.corkValue (d : Dev) (b a req v : Nat) : Dev :=
  let go := { d.corkEnd a with corks := (d.corkEnd a).corks ++ [⟨a, req, v % 2 ^ 32, d.fab⟩] }
  match d.corkAt a with
  | some c => if c.req = req then go else d.corkRefuse b a req 4
  | none => go

/-- A complement word is written (R59, R62). A write that stands in the FAB cycle of the value write is carried out in the next
one, the first in which R59 lets it fall (DESIGN CHOICE, notes/assumptions/102.md). -/
def Dev.corkCompl (d0 : Dev) (b a req v : Nat) : Dev :=
  let d := if (d0.corkAt a).elim false (fun c => c.opened == d0.fab) then d0.fabCycle else d0
  match d.corkAt a with
  | none => d.corkRefuse b a req 3
  | some c =>
    if c.req ≠ req then d.corkRefuse b a req 5
    else if v % 2 ^ 32 + c.value ≠ 2 ^ 32 - 1 then (d.corkEnd a).corkRefuse b a req 1
    else (d.corkEnd a).corkTake a c.value

/-! ### Update strobes (R50, R349) -/

/-- A write of SYS_UPD_STROBE. -/
def Dev.strobe (d : Dev) (data : Nat) : Dev :=
  let m := data % 256
  if m = 0 then d
  else if d.following then (d.incSat F.MIR_CNT2_STRREF).incSat F.SYS_UPD_STAT_REFUSED
  else if d.strobeBusy m then d.incSat F.SYS_UPD_STAT_REFUSED
  else d.strobeAll m

/-- A one written to SYS_UPD_STAT.CLR. -/
def Dev.updStatClr (d : Dev) : Dev := d.wr R.SYS_UPD_STAT 0

/-! ### What a read shows -/

/-- Does a low word latch the word after it (R44)? -/
def llLow (a : Nat) : Bool :=
  let o := a % 0x10000
  match a / 0x10000 with
  | 4 => decide (o < 0x800) && o % 0x40 == 0xC
  | 6 => o % 0x1000 == 0x104 || o % 0x1000 == 0x10C
  | 9 | 10 | 11 => (a - 0x90000) % 0x2000 == 0x20 || (a - 0x90000) % 0x2000 == 0x28
  | 13 => decide (o < 0x2000) && o % 0x200 == 0x38
  | 20 => decide (o < 0x400) && (o % 0x40 == 0x1C || o % 0x40 == 0x24)
  | 24 => decide (o < 0x100) && o % 0x20 == 8
  | 27 => o == 0x30
  | _ => false

/-- Words that a requester reads from its own shadow (R45, R155, R305, R430, R441, R442). -/
def ownWord (a : Nat) : Bool :=
  let o := a % 0x10000
  match a / 0x10000 with
  | 0 => o == 0x80
  | 5 => decide (o < 0x400) && ((decide (0x18 ≤ o % 0x80) && decide (o % 0x80 < 0x24)) || (decide (0x28 ≤ o % 0x80) && decide (o % 0x80 < 0x44)))
  | 8 => decide (0x200 ≤ o) && decide (o < 0x280) && (o % 16 == 8 || o % 16 == 12)
  | 16 => decide (o < 0x8000) && decide (0x24 ≤ o % 0x40) && decide (o % 0x40 < 0x30)
  | 17 => o == 0x10 || o == 0x14 || o == 0x18 || o == 0x24 || o == 0x30
  | 18 => o == 0x28
  | 23 => decide (o < 0x400) && o % 16 != 0
  | _ => decide (4 ≤ a) && llLow (a - 4)

/-- TLKn_STAT as read. -/
def Dev.tlkStat (d : Dev) (n : Nat) : Word :=
  let cnt := fun (p : Nat → Bool) => ((List.range 4).filter (fun q => p (d.pstate n q))).length
  ((d.put (F.TLK_STAT_NATT n) (cnt (· == 3))).put (F.TLK_STAT_NFOUND n) (cnt (fun s => decide (1 ≤ s) && decide (s ≤ 3)))).rd (R.TLK_STAT n)

/-- CDT_PRFp_STAT as read: tiles that have not acknowledged the profile (R295). -/
def Dev.prfStat (d : Dev) (p : Nat) : Word :=
  (d.put (F.CDT_PRF_STAT_PEND p) ((List.range 64).filter (fun t => (d.lp (t / 4) (t % 4)).prfs.contains p)).length).rd (R.CDT_PRF_STAT p)

/-- PRS_GSTAT as read. -/
def Dev.prsGstat (d : Dev) : Word :=
  (d.put F.PRS_GSTAT_ACTIVE ((List.range 16).foldl (fun a k => a + b2n (d.prsActive k) * 2 ^ k) 0)).rd R.PRS_GSTAT

/-- HIF_RSQ and HIF_RCQ as read: the ring in the requester's HIF_RSEL. -/
def Dev.ringSq (d : Dev) (req : Nat) : Nat :=
  match d.sq? ((d.own req R.HIF_RSEL).toNat % 256) with
  | some x => 2 ^ 31 + b2n x.core * 2 ^ 30 + x.prio * 2 ^ 28 + x.head * 2 ^ 12 + x.tail
  | none => 0

def Dev.ringCq (d : Dev) (req : Nat) : Nat :=
  match d.cq? ((d.own req R.HIF_RSEL).toNat % 256) with
  | some c => 2 ^ 31 + b2n c.phase * 2 ^ 30 + c.head * 2 ^ 12 + c.tail
  | none => 2 ^ 30

/-- RKn_STAT as read. -/
def Dev.rakStat (d : Dev) (n : Nat) : Word :=
  (d.put (F.RK_STAT_STATE n) (b2n (d.rak.queue.contains n) + 2 * b2n (d.rak.running == some n))).rd (R.RK_STAT n)

/-- RAK_GSTAT as read. -/
def Dev.rakGstat (d : Dev) : Nat := d.rak.running.elim 0 (fun n => 2 ^ 31 + n * 2 ^ 24) + d.rak.queue.length * 2 ^ 16

/-- Queue manager registers as read by req. -/
def Dev.qmgView (d : Dev) (req o : Nat) : Option Nat :=
  let own := fun a => (d.own req a).toNat
  match o with
  | 0x1C => some (d.qmg.qcfgOf (own R.QMG_QSEL % 2 ^ 15)).toNat
  | 0x20 => some (d.qmgQstat req)
  | 0x28 => some (d.qmg.ocfgOf (own R.QMG_OSEL % 256)).toNat
  | 0x2C => some (d.qmg.tagged (own R.QMG_OSEL % 256))
  | 0x34 => some d.qmg.free
  | _ => none

/-- Timer registers as read. -/
def Dev.tmrView (d : Dev) (n r : Nat) : Option Nat :=
  let t := d.tm n
  match r with
  | 0x8 => some (t.cnt % 2 ^ 32)
  | 0xC => some (t.cnt / 2 ^ 32)
  | 0x10 => some (t.cmp % 2 ^ 32)
  | 0x14 => some (t.cmp / 2 ^ 32)
  | 0x1C => some (d.tmrStat n).toNat
  | _ => none

/-- Words whose contents are found at the read. -/
def Dev.viewOf (d : Dev) (req a : Nat) : Option Nat :=
  let o := a % 0x10000
  match a / 0x10000 with
  | 3 => if a = R.CEL_FC_AGE then some d.fcAge else none
  | 8 => if 0x1000 ≤ o ∧ o < 0x3400 ∧ o % 0x100 = 0 then some (d.peStat ((o - 0x1000) / 0x100)).toNat else none
  | 9 | 10 => if (a - 0x90000) % 0x2000 = 0x30 then some (d.prdStat ((a - 0x90000) / 0x2000)).toNat else none
  | 12 =>
    if o < 0x1000 ∧ o % 0x100 = 0x10 then some (d.schStat (o / 0x100)).toNat
    else if a = R.SCH_GSTAT then some d.schGstat.toNat else if a = R.SCH_GSTAT2 then some d.schGstat2.toNat else none
  | 13 => if a = R.PRS_GSTAT then some d.prsGstat.toNat else none
  | 14 => if o < 0x2000 ∧ o % 0x200 = 0xC then some (d.tlkStat (o / 0x200)).toNat else none
  | 16 => if 0x8000 ≤ o ∧ o < 0xC000 ∧ o % 0x40 = 0x20 then some (d.prfStat ((o - 0x8000) / 0x40)).toNat else none
  | 17 => d.qmgView req o
  | 18 => if a = R.HIF_RSQ then some (d.ringSq req) else if a = R.HIF_RCQ then some (d.ringCq req) else none
  | 19 => if o < 0x8100 then some (d.rd a).toNat else some 0
  | 20 =>
    if o < 0x400 ∧ o % 0x40 = 0x30 then some (d.rakStat (o / 0x40)).toNat else if a = R.RAK_GSTAT then some d.rakGstat else none
  | 21 =>
    if 0x100 ≤ o ∧ o < 0x180 then some ((d.rd a ||| 0x40000000#32)).toNat
    else if a = R.ICU_STAT then some d.icuStat.toNat
    else if 0x2000 ≤ o ∧ o < 0x2500 ∧ o % 0x100 = 0xC then some (d.icuAct ((o - 0x2000) / 0x100)).toNat else none
  | 22 => if o < 0x400 then d.tmrView (o / 0x20) (o % 0x20) else if a = R.TMR_RUN then some d.tmrRun.toNat else none
  | 23 => if 0x400 ≤ o ∧ o < 0x1400 ∧ o % 0x400 = 4 then some (d.adcStat ((o - 0x400) / 0x400)).toNat else none
  | 24 => if o < 0x100 ∧ o % 0x20 = 0 then some ((d.rd a).toNat % 2 ^ 31 + d.cget (F.CMP_CFG_EN (o / 0x20)) * 2 ^ 31) else none
  | _ => none

/-- The block whose fault register set holds a, where it has causes (R42, R70). -/
def fltBlk (a : Nat) : Option Nat := findN 25 (fun b => decide (fltBase b ≤ a) && decide (a < fltBase b + 0x40))

/-- Blocks that raise no fault: their sets read zero. -/
def fltNone (b : Nat) : Bool := b == 19 || b == 20 || b == 23

/-- A read of a word of a fault register set (R70). -/
def Dev.fltRead (d : Dev) (req b a : Nat) : Dev :=
  if fltNone b then d.ret req 0
  else match a - fltBase b with
    | 0 => d.ret req (d.fltStat b).toNat
    | 0x10 => d.latchRead req a [a + 4]
    | 0x14 => d.ret req (d.own req a).toNat
    | 0x18 => d.ret req 0
    | _ => d.ret req (d.rd a).toNat

/-- A write of a word of a fault register set (R70, R74). -/
def Dev.fltWrite (d : Dev) (b a : Nat) (w : Word) : Dev :=
  if fltNone b then d
  else match a - fltBase b with
    | 0x18 => if w.getLsbD 0 then d.fltClose b else d
    | 0x1C => d.wr a w
    | _ => d

/-- A read that acts (R44, R66, R155, R284, R305, R400, R404, R430, R441, R442, R478), or a plain one. -/
def Dev.actRead (d : Dev) (req a : Nat) : Dev :=
  let o := a % 0x10000
  let plain := fun (_ : Unit) =>
    if ownWord a then d.ret req (d.own req a).toNat
    else if llLow a then d.latchRead req a [a + 4]
    else d.ret req ((d.viewOf req a).getD (d.plainRead req a).toNat)
  match a / 0x10000 with
  | 3 => if a = R.CEL_IDATA then d.celRead req else plain ()
  | 5 => if o < 0x400 ∧ o % 0x80 = 0x14 then d.encPosRead req (o / 0x80) else if o < 0x400 ∧ o % 0x80 = 0x24 then d.encLatRead req (o / 0x80) else plain ()
  | 8 => if 0x200 ≤ o ∧ o < 0x280 ∧ o % 16 = 4 then d.qryRead req ((o - 0x200) / 16) else plain ()
  | 15 => if o < 0x100 ∧ o % 16 = 4 then d.tilRead req (o / 16) else plain ()
  | 16 => if o < 0x8000 ∧ o % 0x40 = 0x20 then d.cresRead req (o / 0x40) else plain ()
  | 17 =>
    if o = 0 then d.qmgAlloc req else if o = 0xC then d.qmgPop req
    else if 0x400 ≤ o ∧ o < 0x440 then d.qmgCwin req ((o - 0x400) / 4) false 0 else plain ()
  | 21 => if 0x2000 ≤ o ∧ o < 0x2500 ∧ o % 0x100 = 4 then d.icuClaim req ((o - 0x2000) / 0x100) else plain ()
  | 23 => if o < 0x400 ∧ o % 16 = 0 then d.ainRead req (o / 16) else plain ()
  | _ => plain ()

/-- A 32-bit read of the register at canonical offset a (R7, R59, R70). -/
def Dev.regRead (d : Dev) (req a : Nat) : Dev :=
  match fltBlk a with
  | some b => d.fltRead req b a
  | none => match corkOf a with
    | some v => d.ret req (2 ^ 32 - 1 - (d.rd v).toNat)
    | none => d.actRead req a

/-! ### Writes, block by block -/

def Dev.sysWrite (d : Dev) (req a data : Nat) (w : Word) : Dev :=
  if a = 0x40 then d.strobe data
  else if a = 0x4C then (if w.getLsbD 31 then d.updStatClr else d)
  else if a = 0x54 ∨ a = 0x58 then (if d.get F.SYS_UPD_PEND_GRP_PEND = 0 then d.plainWrite a w else d.incSat F.SYS_UPD_STAT_BUSYWR)
  else if a = 0x80 then d.setOwn req a (w &&& 1#32)
  else if 0x100 ≤ a ∧ a < 0x110 then (d.plainWrite a w).gpioDrive d
  else d.plainWrite a w

def Dev.clkWrite (d : Dev) (a : Nat) (w : Word) : Dev :=
  if a = R.CLK_REF_CFG then (d.put F.CLK_REF_CFG_HOLDOFF (bits w.toNat 15 8)).prefSet (w.getLsbD 0)
  else if a = R.CLK_CNT_CLR then (if w.getLsbD 0 then d.clkCntClr else d)
  else d

def Dev.pwrWrite (d : Dev) (req a : Nat) (w : Word) : Dev :=
  if a = R.PWR_SLEEP then (if w.getLsbD 0 then d.sleepReq req else d)
  else if a = R.PWR_CNT_CLR then (if w.getLsbD 0 then d.pwrCntClr else d)
  else d

def Dev.celRegWrite (d : Dev) (a data : Nat) (w : Word) : Dev :=
  if a = R.CEL_IADDR then d.celAddr data else if a = R.CEL_IDATA then d.celStart (.write w) else d

def Dev.snsWrite (d : Dev) (a o data : Nat) (w : Word) : Dev :=
  if o < 0x800 ∧ o % 0x40 = 0 then d.snsCfgWrite (o / 0x40) false data
  else if o < 0x800 ∧ o % 0x40 = 4 then d.snsCfgWrite (o / 0x40) true data
  else if a = R.SNS_CNT_CLR then d.snsCntClr data
  else d.plainWrite a w

def Dev.encWrite (d : Dev) (a o data : Nat) (w : Word) : Dev :=
  if o < 0x400 ∧ o % 0x80 = 0 then d.encCfgWrite (o / 0x80) data
  else if a = R.ENC_LATSW then d.encLatSw data
  else if a = R.ENC_CNT_CLR then d.encCntClr data
  else d.plainWrite a w

/-- A write of TRKn_CTL. -/
def Dev.trkCtl (d : Dev) (k : Nat) (w : Word) : Dev :=
  let d1 := d.wr (R.TRK_CTL k) (mix (d.rd (R.TRK_CTL k)) w 0xE)
  if w.getLsbD 0 then d1.trkEnable k else d1.trkDisable k

def Dev.trkWrite (d : Dev) (a data : Nat) (w : Word) : Dev :=
  if a < 0x70000 then (if a % 0x1000 = 0 then d.trkCtl ((a - 0x60000) / 0x1000) w else d.plainWrite a w)
  else if a = 0x70000 then d.trkCntClr data
  else if a = 0x70008 then d.tlogClr data
  else d.plainWrite a w

def Dev.prdWrite (d : Dev) (a data : Nat) (w : Word) : Dev :=
  let o := (a - 0x90000) % 0x2000
  let k := (a - 0x90000) / 0x2000
  if a < 0x80080 then d.lmapWrite ((a - 0x80000) / 4) data
  else if 0x80200 ≤ a ∧ a < 0x80280 then (if a % 16 = 0 then d.qryCmdWrite ((a - 0x80200) / 16) data else d)
  else if a = R.PRD_CNT_CLR then d.prdCntClr data
  else if a < 0x90000 ∨ 0xB0000 ≤ a then d.plainWrite a w
  else if o = 0x14 then d.lrnWrite k data
  else if 0x400 ≤ o ∧ o < 0xC00 then d.tableWrite k true ((o - 0x400) / 4) data
  else if 0x1000 ≤ o then d.tableWrite k false ((o - 0x1000) / 4) data
  else d.plainWrite a w

/-- A write of SCH_TRKk_CTL. -/
def Dev.schCtl (d : Dev) (k : Nat) (w : Word) : Dev :=
  let d1 := (d.rwsWrite (R.SCH_TRK_CTL k) w 2).schEnWrite k (w.getLsbD 0)
  if w.getLsbD 2 then d1.schRearm k else d1

def Dev.schWrite (d : Dev) (a o data : Nat) (w : Word) : Dev :=
  if o < 0x1000 ∧ o % 0x100 = 0 then d.schCtl (o / 0x100) w
  else if 0x1000 ≤ o ∧ o < 0x1040 then d.chenWrite ((o - 0x1000) / 4) data
  else if a = R.SCH_CNT_CLR then d.schCntClr data
  else d.plainWrite a w

/-- A write of PRSk_CTL. -/
def Dev.prsCtl (d : Dev) (k : Nat) (w : Word) : Dev :=
  let d1 := d.putB (F.PRS_CTL_EN k) (w.getLsbD 0)
  (if w.getLsbD 1 then d1.setPs k { d1.ps k with reset := true } else d1).prsHealth k

def Dev.prsWrite (d : Dev) (a o data : Nat) (w : Word) : Dev :=
  let k := o / 0x200
  if 0x2000 ≤ o then (if a = R.PRS_CNT_CLR then d.prsCntClr data else d)
  else match o % 0x200 with
    | 0 => d.prsCtl k w
    | 0xC => d.prsPost k data
    | 0x8 => (d.prsWrote k).plainWrite a w
    | 0x24 | 0x28 => ((d.prsWrote k).plainWrite a w).prsHealth k
    | _ => d.plainWrite a w

def Dev.tlkWrite (d : Dev) (a o data : Nat) (w : Word) : Dev :=
  let n := o / 0x200
  if o < 0x2000 then
    (match o % 0x200 with
    | 0 => d.tlkCtlWrite n data
    | 0x10 => d.laneWrite n data
    | _ => d.plainWrite a w)
  else if a = R.TLK_GCFG then (if (List.range 16).any (fun m => d.flag (F.TLK_CTL_EN m)) then d else d.plainWrite a w)
  else if a = R.TLK_CNT_CLR then d.tlkCntClr data
  else d

def Dev.tilRegWrite (d : Dev) (o data : Nat) : Dev :=
  if 0x100 ≤ o then d else if o % 16 = 0 then d.tilAddrWrite (o / 16) data else if o % 16 = 4 then d.tilWrite (o / 16) data else d

def Dev.cdtWrite (d : Dev) (a o data : Nat) (w : Word) : Dev :=
  if o < 0x8000 then
    (if o % 0x40 = 0 then d.chCfgWrite (o / 0x40) data
    else if 0x10 ≤ o % 0x40 ∧ o % 0x40 < 0x20 then d.compPut (o / 0x40) (o % 0x40 / 4 - 4) (toS 24 data)
    else if o % 0x40 = 0x38 then (d.plainWrite a w).thermJudge (o / 0x40)
    else d.plainWrite a w)
  else if 0xE000 ≤ o ∧ o < 0xE800 then (d.plainWrite a w).thermJudge ((o - 0xE000) / 4)
  else if a = 0x10C028 then d.rearmWrite 0 data
  else if a = 0x10C02C then d.rearmWrite 1 data
  else if a = R.CDT_GRP then (if d.get F.SYS_UPD_PEND_GRP_PEND = 0 then d.plainWrite a w else d)
  else if a = R.CDT_CNT_CLR then (if w.getLsbD 0 then d.cdtCntClr else d)
  else if 0xC100 ≤ o ∧ o < 0xC200 then d.bsetWrite ((o - 0xC100) / 4) data
  else d.plainWrite a w

def Dev.qmgWrite (d : Dev) (req a o data : Nat) (w : Word) : Dev :=
  match o with
  | 0x4 => d.qmgFree req data
  | 0x8 => d.qmgPush req (bits data 30 16) data
  | 0x14 => d.qmgOwnsel req data
  | 0x18 | 0x24 | 0x30 => d.setOwn req a (w &&& 0xFFFF#32)
  | 0x1C => d.qmgQcfg req data
  | 0x28 => d.qmgOcfg req data
  | 0x38 => (d.plainWrite a w).poolCheck
  | 0x44 => if w.getLsbD 0 then d.wr R.QMG_CNT 0 else d
  | 0x48 => if w.getLsbD 31 then d.qmgReclaim req data else d.put F.QMG_RECLAIM_OWNER data
  | _ => if 0x400 ≤ o ∧ o < 0x440 then d.qmgCwin req ((o - 0x400) / 4) true data else d

/-- A write of a register of a CAN FD port: bit timing only while EN is clear. -/
def Dev.canWrite (d : Dev) (a o data : Nat) (w : Word) : Dev :=
  let p := (o - 0x200) / 0x40
  match o % 0x40 with
  | 0 => d.canCtl p data
  | 4 | 8 => if d.flag (F.CAN_CTL_EN p) then d else d.plainWrite a w
  | 0x18 => if w.getLsbD 31 then d.wr (R.CAN_CNT p) 0 else d
  | _ => d.plainWrite a w

def Dev.hifWrite (d : Dev) (req a o data : Nat) (w : Word) : Dev :=
  if 0x200 ≤ o ∧ o < 0x280 then d.canWrite a o data w
  else if a = R.HIF_CTL then (if w.getLsbD 0 then d.hifEnable else d.hifDisable)
  else if 0x10 ≤ o ∧ o < 0x20 then
    (if d.flag F.HIF_CTL_EN then d else d.plainWrite a (if o % 8 = 0 then w &&& 0xFFFFF000#32 else w))
  else if o = 0x28 then d.setOwn req a (w &&& 0xFF#32)
  else if a = R.HIF_CNT_CLR then (if w.getLsbD 0 then d.hifCntClr else d)
  else if 0x100 ≤ o ∧ o < 0x200 then
    (match o % 0x20 with
    | 0 => d.stmCfg ((o - 0x100) / 0x20) data
    | 4 => (d.plainWrite a w).stmMask ((o - 0x100) / 0x20)
    | 0xC => d.plainWrite a (w &&& 0xFFFFFFF8#32)
    | _ => d.plainWrite a w)
  else d.plainWrite a w

/-- A write of the MSI-X table (R375): a vector unmasked while pending sends its message. -/
def Dev.msixWrite (d : Dev) (a o : Nat) (w : Word) : Dev :=
  if 0x8000 ≤ o then d
  else if o % 16 = 12 then
    let d1 := d.wr a (w &&& 1#32)
    if !w.getLsbD 0 && d1.abit 0x138000 (o / 16) && d1.pcieGo then (d1.setAbit 0x138000 (o / 16) false).msix (o / 16) else d1
  else d.wr a (if o % 16 = 0 then w &&& 0xFFFFFFFC#32 else w)

/-- A write of RKn_CTL (R461, R467, R470). -/
def Dev.rakCtl (d : Dev) (n : Nat) (w : Word) : Dev :=
  let d1 := d.putB (F.RK_CTL_RELOAD n) (w.getLsbD 29)
  let d2 := if w.getLsbD 31 then d1.put (F.RK_CTL_EN n) 1 else if d1.flag (F.RK_CTL_EN n) then d1.rakDisable n else d1
  if w.getLsbD 30 then d2.rakRequest n else d2

/-- The counters that RAK_CNT_CLR clears. -/
def Dev.rakCntClr (d : Dev) (mask : Nat) : Dev := d.clrMask 16 mask (fun x n => (x.put (F.RK_STAT_OVR n) 0).put (F.RK_STAT_DONE n) 0)

def Dev.rakWrite (d : Dev) (a o data : Nat) (w : Word) : Dev :=
  if 0x400 ≤ o then (if a = R.RAK_CNT_CLR then d.rakCntClr data else d)
  else if o % 0x40 = 0 then d.rakCtl (o / 0x40) w
  else if d.flag (F.RK_CTL_EN (o / 0x40)) then d
  else d.plainWrite a w

def Dev.icuWrite (d : Dev) (a o data : Nat) (w : Word) : Dev :=
  if o < 0x1000 then d.icuSrcWrite (o / 4) data
  else if 0x1400 ≤ o ∧ o < 0x1480 then d.icuPendWrite ((o - 0x1400) / 4) data
  else if a = R.ICU_ACLR then d.icuAclr data
  else if a = R.ICU_CNT then (if w.getLsbD 31 then d.wr R.ICU_CNT 0 else d)
  else if 0x2000 ≤ o ∧ o < 0x2500 ∧ o % 0x100 = 8 then d.icuComplete ((o - 0x2000) / 0x100) data
  else d.plainWrite a w

def Dev.tmrWrite (d : Dev) (req a o data : Nat) (w : Word) : Dev :=
  let n := o / 0x20
  if a = R.TMR_GCTL then d.tmrGctl data
  else if a = R.TMR_CNT_CLR then (if w.getLsbD 0 then d.put F.TMR_CNT_WRREF 0 else d)
  else if 0x400 ≤ o then d
  else match o % 0x20 with
    | 0 => d.tmrCtlWrite n data
    | 4 => d.tmrCfgWrite n data
    | 8 | 0x10 => d.setOwn req a w
    | 0xC => d.tmrCntHi req n data
    | 0x14 => d.tmrCmpHi req n data
    | _ => d.plainWrite a w

def Dev.adcWrite (d : Dev) (a o data : Nat) (w : Word) : Dev :=
  if 0x400 ≤ o ∧ o < 0x1400 ∧ o % 0x400 = 0 then d.adcCtlWrite ((o - 0x400) / 0x400) data
  else if a = R.ADC_CNT_CLR then d.adcCntClr data
  else d.plainWrite a w

/-- MGS_ACSTART (R487): cores start at address 0 of their memories. -/
def Dev.acStart (d : Dev) (cores addr : Nat) : Dev :=
  let new := (List.range 4).filter (fun t => bitOf cores t && !bitOf d.mgs.acRun t)
  { d with mgs := { d.mgs with acRun := Nat.lor d.mgs.acRun (cores % 16)
                               acStart := new.foldl (fun m t => smSet m 0 t (addr % 2 ^ 32)) d.mgs.acStart } }

def Dev.mgsWrite (d : Dev) (req a data : Nat) (w : Word) : Dev :=
  if a = R.MGS_CTL then
    let d1 := d.confirm req (w.getLsbD 0)
    if w.getLsbD 1 then d1.coreRst req else d1
  else if a = R.MGS_WDOG then
    (if req = 7 then (let d1 := d.put F.MGS_WDOG_TO data; if w.getLsbD 31 then d1.kick req else d1) else d)
  else if a = R.MGS_AGLIM then d.agLim data
  else if a = R.MGS_ACSTART then (if d.rst.core then d else d.acStart data 0)
  else d.plainWrite a w

def Dev.mirWrite (d : Dev) (a data : Nat) (w : Word) : Dev :=
  if a = R.MIR_CTL then d.mirCtlWrite data
  else if a = R.MIR_CNT_CLR then (if w.getLsbD 0 then d.mirCntClr else d)
  else d.plainWrite a w

/-- A write of a router register: the division of a destination starts with the first event after the write (R446). -/
def Dev.ertWrite (d : Dev) (a o : Nat) (w : Word) : Dev :=
  let d1 := d.plainWrite a w
  if o < 4 * 76 then { d1 with ertDiv := smDel d1.ertDiv (o / 4) } else d1

def Dev.atbWrite (d : Dev) (a data : Nat) (w : Word) : Dev :=
  if a = 0x1C0000 then d.atbSel 0 data
  else if a = 0x1C0004 then d.atbSel 1 data
  else if a = 0x1C0008 then (if w.getLsbD 31 then d.put F.ATB_STAT_REF 0 else d)
  else d

def Dev.dbgWrite (d : Dev) (a data : Nat) (w : Word) : Dev :=
  if a = R.DBG_CTL then d.dbgCtl data
  else if a = R.DBG_STAT then (if w.getLsbD 0 then d.dbgStatClr else d)
  else if a = R.DBG_PRBS_CTL then d.prbsCtl data
  else d

/-- A write of a register outside the fault sets and the corked registers, by window. -/
def Dev.blkWrite (d : Dev) (req a data : Nat) (w : Word) : Dev :=
  let o := a % 0x10000
  match a / 0x10000 with
  | 0 => d.sysWrite req a data w
  | 1 => d.clkWrite a w
  | 2 => d.pwrWrite req a w
  | 3 => d.celRegWrite a data w
  | 4 => d.snsWrite a o data w
  | 5 => d.encWrite a o data w
  | 6 | 7 => d.trkWrite a data w
  | 8 | 9 | 10 | 11 => d.prdWrite a data w
  | 12 => d.schWrite a o data w
  | 13 => d.prsWrite a o data w
  | 14 => d.tlkWrite a o data w
  | 15 => d.tilRegWrite o data
  | 16 => d.cdtWrite a o data w
  | 17 => d.qmgWrite req a o data w
  | 18 => d.hifWrite req a o data w
  | 19 => d.msixWrite a o w
  | 20 => d.rakWrite a o data w
  | 21 => d.icuWrite a o data w
  | 22 => d.tmrWrite req a o data w
  | 23 => d.adcWrite a o data w
  | 24 => if a = R.CMP_CNT_CLR then d.cmpCntClr data else d
  | 25 => if a = R.ERT_SWPULSE then (if w.getLsbD 0 then d.route 141 else d) else d.ertWrite a o w
  | 26 => d.mgsWrite req a data w
  | 27 => d.mirWrite a data w
  | 28 => d.atbWrite a data w
  | 29 => d.dbgWrite a data w
  | _ => d

/-- A 32-bit write of the register at canonical offset a. -/
def Dev.regWrite (d : Dev) (req a data : Nat) : Dev :=
  let v := data % 2 ^ 32
  let w := BitVec.ofNat 32 v
  match fltBlk a with
  | some b => d.fltWrite b a w
  | none => match corkBlk a with
    | some b => d.corkValue b a req v
    | none => match corkOf a with
      | some x => d.corkCompl ((corkBlk x).getD 0) x req v
      | none => d.blkWrite req a v w

/-! ### The bit window (R64) -/

/-- The bit a word stands for: array of 32-bit words, and bit number. -/
def bitTarget (o : Nat) : Option (Nat × Nat) :=
  if o < 0x800 then some (R.SCH_CHEN 0, o / 4)
  else if o < 0x900 then some (0x10C018, (o - 0x800) / 4)
  else if 0xC00 ≤ o ∧ o < 0xD00 then some (0x100, (o - 0xC00) / 4)
  else none

def Dev.bitRead (d : Dev) (req o : Nat) : Dev := d.ret req ((bitTarget o).elim 0 (fun t => b2n (d.abit t.1 t.2)))

/-- A write of a word of the bit window, with the behaviour of the target field. -/
def Dev.bitWrite (d : Dev) (o : Nat) (b : Bool) : Dev :=
  match bitTarget o with
  | none => d
  | some (a, n) => if o < 0x800 then d.chenBit n b else if o < 0x900 then d.setAbit a n b else (d.setAbit a n b).gpioDrive d

/-! ### The memory apertures (R36) -/

/-- The largest naturally aligned piece at a, within n bytes. -/
def pieceLen (a n : Nat) : Nat :=
  if a % 8 = 0 ∧ 8 ≤ n then 8 else if a % 4 = 0 ∧ 4 ≤ n then 4 else if a % 2 = 0 ∧ 2 ≤ n then 2 else 1

/-- Word a of the event table with bytes i to i + k - 1 replaced by those of v, stored in descriptor form (R164). -/
def Dev.tableWord (d : Dev) (a i k v : Nat) : Dev :=
  let o := a - 0x200000
  let m := Nat.shiftLeft (2 ^ (8 * k) - 1) (8 * i)
  let old := memRead d.mem a 4
  d.descPut (decide (0x40000 ≤ o)) (o % 0x40000 / 32) (o % 32 / 4) (Nat.lor (old - Nat.land old m) (v % 2 ^ (8 * k) * 2 ^ (8 * i)))

/-- A naturally aligned write of k bytes of v at a: one access, to one descriptor of the event table (R36, R163). -/
def Dev.memPiece (d : Dev) (a k v : Nat) : Dev :=
  if 0x280000 ≤ a then { d with mem := memWrite d.mem a k v }
  else
    let o := a - 0x200000
    d.descGate (decide (0x40000 ≤ o)) (o % 0x40000 / 32) (fun x =>
      if k = 8 then (x.tableWord a 0 4 v).tableWord (a + 4) 0 4 (v / 2 ^ 32) else x.tableWord (a / 4 * 4) (a % 4) k v)

/-- A write of n bytes at a is carried out piece by piece, in ascending order; a piece beyond the aperture is an access
outside every span (R34). DESIGN CHOICE (notes/assumptions/102.md): all pieces stand together, though another requester's
access may fall between them (R36). -/
def Dev.memPieces (d : Dev) : Nat → Nat → Nat → Nat → Dev
  | 0, _, _, _ => d
  | f + 1, a, n, v =>
    if n = 0 then d
    else
      let k := pieceLen a n
      let d1 := match placeOf (a % 2 ^ 25) with
        | .mem _ => d.memPiece a k v
        | _ => d.hifInc F.HIF_CNT0_OUTSPAN
      d1.memPieces f (a + k) (n - k) (v / 2 ^ (8 * k))

/-- A read of n bytes at a, piece by piece: the device, and what the pieces return. -/
def Dev.memGather (d : Dev) : Nat → Nat → Nat → Dev × Nat
  | 0, _, _ => (d, 0)
  | f + 1, a, n =>
    if n = 0 then (d, 0)
    else
      let k := pieceLen a n
      let p := match placeOf (a % 2 ^ 25) with
        | .mem _ => (d, memRead d.mem a k)
        | _ => (d.hifInc F.HIF_CNT0_OUTSPAN, 0)
      let r := p.1.memGather f (a + k) (n - k)
      (r.1, p.2 + 2 ^ (8 * k) * r.2)

/-! ### Accesses -/

/-- The register at a lies in a power domain that is off (R37, R43). -/
def Dev.isOff (d : Dev) (a : Nat) : Bool := (regDom a).power.elim false (fun k => !d.domUp k)

/-- The register at a lies in a reset domain that is held in reset (R482). -/
def Dev.inReset (d : Dev) (a : Nat) : Bool :=
  match regDom a with
  | .vbat => d.rst.vbat
  | .sys => d.rst.sys
  | .pcie => d.rst.core || d.rst.perst
  | _ => d.rst.core

/-- A 32-bit read of a word of a register window or of the bit window. In reset it has its reset value, and nothing happens. -/
def Dev.wordRead (d : Dev) (req a : Nat) : Dev :=
  match placeOf a with
  | .bitWord o => if d.rst.core then d.ret req 0 else d.bitRead req o
  | .reg c => if d.inReset c then d.ret req (regReset c).toNat else d.regRead req c
  | _ => d.ret req 0

/-- A 32-bit write of a word of a register window or of the bit window. In reset nothing takes it. -/
def Dev.wordWrite (d : Dev) (req a v : Nat) : Dev :=
  match placeOf a with
  | .bitWord o => if d.rst.core then d else d.bitWrite o (bitOf v 0)
  | .reg c => if d.inReset c then d else d.regWrite req c v
  | _ => d

/-- The result of a read of up to 8 bytes. -/
def Dev.ret64 (d : Dev) (req v : Nat) : Dev := { d with bus := ⟨req, v % 2 ^ 64⟩ }

/-- Narrow writes and misaligned accesses of register windows (R35). -/
def Dev.narrow (d : Dev) (req : Nat) (wr : Bool) : Dev :=
  let d1 := d.hifInc F.HIF_CNT0_NARROW
  if wr then d1 else d1.ret req 0

/-- A read of size bytes at off (R34-R37). -/
def Dev.busReadN (d : Dev) (req off size : Nat) : Dev :=
  match placeOf off with
  | .out => (d.hifInc F.HIF_CNT0_OUTSPAN).ret req 0
  | .mem a => if d.rst.core then d.ret64 req 0 else let r := d.memGather 8 a size; r.1.ret64 req r.2
  | p =>
    if off % size ≠ 0 then d.narrow req false
    else if (match p with | .reg c => d.isOff c | _ => false) then d.pwrOffAccess req false
    else if size = 8 then
      let lo := d.wordRead req off
      let hi := lo.wordRead req (off + 4)
      hi.ret64 req (lo.bus.data % 2 ^ 32 + 2 ^ 32 * (hi.bus.data % 2 ^ 32))
    else
      let x := d.wordRead req (off / 4 * 4)
      if size = 4 then x else x.ret req (x.bus.data / 2 ^ (8 * (off % 4)) % 2 ^ (8 * size))

/-- A write of size bytes at off (R34-R37, R60). -/
def Dev.busWriteN (d : Dev) (req off size data : Nat) : Dev :=
  match placeOf off with
  | .out => d.hifInc F.HIF_CNT0_OUTSPAN
  | .mem a => if d.rst.core then d else d.memPieces 8 a size data
  | p =>
    if off % size ≠ 0 || decide (size < 4) then d.narrow req true
    else if (match p with | .reg c => d.isOff c | _ => false) then d.pwrOffAccess req true
    else if size = 8 then (d.wordWrite req off (data % 2 ^ 32)).wordWrite req (off + 4) (data / 2 ^ 32)
    else d.wordWrite req off data

/-- Sizes of an access in bytes. -/
def sizeOk (size : Nat) : Bool := size == 1 || size == 2 || size == 4 || size == 8

/-- An access; a size that the bus does not have is no access. -/
def Dev.access (d : Dev) (req off size : Nat) (wr : Bool) (data : Nat) : Dev :=
  if !sizeOk size then d
  else if wr then d.busWriteN req (off % 2 ^ 25) size data else d.busReadN req (off % 2 ^ 25) size

def Dev.busRead (d : Dev) (req off : Nat) : Dev := d.access req off 4 false 0

def Dev.busWrite (d : Dev) (req off data : Nat) : Dev := d.access req off 4 true data

/-- A write of n words from off on. -/
def Dev.busWrites (d : Dev) (req : Nat) : Nat → List Nat → Dev
  | _, [] => d
  | off, w :: r => (d.busWrite req off w).busWrites req (off + 4) r

/-- Does off lie in a register window or in the bit window? -/
def inWindow (off : Nat) : Bool := match placeOf (off % 2 ^ 25) with | .reg _ => true | .bitWord _ => true | _ => false

/-- The corked register at off, by its value word or by its complement word. -/
def corkPlace (off : Nat) (compl : Bool) : Bool :=
  match placeOf (off % 2 ^ 25) with
  | .reg c => if compl then (corkOf c).isSome else (corkBlk c).isSome
  | _ => false

end Sys2Proof.Machine
end

