-- ==== Sys2Proof/Machine/Rak.lean ====
section
/-! DEFINITION. Transfers of the Racking engine (R461-R471). -/

namespace Sys2Proof.Machine

/-- ECODE of RKn_STAT (R469). -/
inductive RakErr where
  | bus
  | own
  | pwr
  | cfg
deriving DecidableEq, Repr

def RakErr.code : RakErr → Nat
  | .bus => 1
  | .own => 2
  | .pwr => 3
  | .cfg => 4

/-- The pointer after an element (R465). -/
def rakNext (mode csz esz p : Nat) : Nat :=
  match mode with
  | 1 => p
  | 2 => let b := 2 ^ (min csz 20 + 4); p / b * b + (p + esz) % b
  | _ => (p + esz) % 2 ^ 64

/-- SWAP on the bytes of an element (R466). -/
def rakSwap (mode : Nat) : List Nat → List Nat
  | a :: b :: c :: e :: r => (match mode with | 1 => [b, a, e, c] | 2 => [e, c, b, a] | 3 => [c, e, a, b] | _ => [a, b, c, e]) ++ rakSwap mode r
  | [a, b] => if mode = 1 then [b, a] else [a, b]
  | l => l

/-- COUNT and SWAP obey R466. -/
def Dev.rakShape (d : Dev) (n : Nat) : Bool :=
  let cnt := d.get (F.RK_COUNT_COUNT n)
  let esz := d.rakEsz n
  let need := match d.get (F.RK_CFG_SWAP n) with | 0 => 1 | 1 => 2 | _ => 4
  decide (1 ≤ cnt) && decide (cnt ≤ 2 ^ 24) && cnt % esz == 0 && cnt % need == 0 && decide (need ≤ esz)

/-- What stops an access to addr (R463, R464, R469): host memory, too, while the link carries no requests. -/
def Dev.rakBar (d : Dev) (n : Nat) (addr : Nat) : Option RakErr :=
  let esz := d.rakEsz n
  if addr % esz ≠ 0 then some .cfg
  else match addr / 2 ^ 62 with
    | 0 =>
      if inWindow addr && esz != 4 then some .cfg
      else match powerOf (addr % 2 ^ 25) with
        | some k => if d.domUp k then none else some .pwr
        | none => none
    | 1 =>
      match d.qmg.cask (addr % 2 ^ 22 / 64) with
      | some c => if !c.queued && c.tag == d.get (F.RK_CFG_OWNER n) then none else some .own
      | none => some .own
    | 2 => if !d.domUp 6 then some .pwr else if d.pcieLink then none else some .bus
    | _ => some .cfg

/-- What stops the next element of channel n. -/
def Dev.rakStop (d : Dev) (n : Nat) : Option RakErr :=
  match d.rakBar n (d.rakSptr n) with
  | some e => some e
  | none => d.rakBar n (d.rakDptr n)

/-- What stops the transfer of channel n when it comes to start (R464, R466, R469, R471), its pointers and REM loaded. -/
def Dev.rakStartStop (d : Dev) (n : Nat) : Option RakErr :=
  if !d.rakShape n || !d.qmg.granted (d.get (F.RK_CFG_OWNER n)) 8 then some .cfg
  else if [1, 2, 3, 4, 5, 6].any (fun k => d.domState k == 3 && d.rakTouches n k) then some .pwr
  else d.rakStop n

/-- Transfer of channel n ends (R468, R469). -/
def Dev.rakEnd (d : Dev) (n : Nat) (e : Option RakErr) : Dev :=
  match e with
  | none =>
    let d1 : Dev := { d with rak := { d.rak with running := none } }
    (((d1.put (F.RK_STAT_ERR n) 0).put (F.RK_STAT_ECODE n) 0).incWrap (F.RK_STAT_DONE n)).route (125 + n) |>.icuArrive (144 + n)
  | some c => d.rakFail n c.code

/-- The queued request of channel n starts its transfer (R462, R464, R467, R471). -/
def Dev.rakStart (d : Dev) (n : Nat) : Dev :=
  let fresh := d.flag (F.RK_CTL_RELOAD n) || !d.rak.begun.contains n
  let d1 := if fresh then
      (d.put64 (R.RK_SPTR_LO n) (R.RK_SPTR_HI n) (d.rakSrc n)).put64 (R.RK_DPTR_LO n) (R.RK_DPTR_HI n) (d.rakDst n)
    else d
  let d2 : Dev := { d1.put (F.RK_REM_REM n) (d1.get (F.RK_COUNT_COUNT n)) with
    rak := { d1.rak with running := some n, queue := d1.rak.queue.drop 1, movedAt := d1.fab
                         begun := if d1.rak.begun.contains n then d1.rak.begun else n :: d1.rak.begun } }
  match d2.rakStartStop n with
  | some e => d2.rakEnd n (some e)
  | none => d2

/-- Reading an element: from the bus as requester 8, from cask memory, or from what the host returned. -/
def Dev.rakGet (d : Dev) (addr esz : Nat) (host : List Nat) : Dev × List Nat × List Nat :=
  match addr / 2 ^ 62 with
  | 0 => let x := d.access 8 addr esz false 0; (x, leBytes esz x.bus.data, host)
  | 1 => (d, memReadBytes d.cmem (addr % 2 ^ 22) esz, host)
  | _ => (d, ((host ++ List.replicate esz 0).take esz).map (· % 256), host.drop esz)

/-- Writing an element. -/
def Dev.rakPut (d : Dev) (addr esz : Nat) (bs : List Nat) : Dev :=
  match addr / 2 ^ 62 with
  | 0 => d.access 8 addr esz true (leNat bs)
  | 1 => { d with cmem := memWriteBytes d.cmem (addr % 2 ^ 22) bs }
  | _ => d.emit (.bytes (addr % 2 ^ 62) bs)

/-- The next element of channel n is moved (R465, R466), host being what host memory returns: the device, and what host still
holds. A write that disables the channel ends it there. -/
def Dev.rakElem (d : Dev) (n : Nat) (host : List Nat) : Dev × List Nat :=
  let esz := d.rakEsz n
  let s := d.rakSptr n
  let t := d.rakDptr n
  let (d1, bs, h) := d.rakGet s esz host
  let d2 := d1.rakPut t esz (rakSwap (d.get (F.RK_CFG_SWAP n)) bs)
  if d2.rak.running ≠ some n then (d2, h)
  else
    let d3 := d2.put64 (R.RK_SPTR_LO n) (R.RK_SPTR_HI n) (rakNext (d.get (F.RK_CFG_SMODE n)) (d.get (F.RK_CFG_SCSZ n)) esz s)
    let d4 := d3.put64 (R.RK_DPTR_LO n) (R.RK_DPTR_HI n) (rakNext (d.get (F.RK_CFG_DMODE n)) (d.get (F.RK_CFG_DCSZ n)) esz t)
    (d4.put (F.RK_REM_REM n) (d4.get (F.RK_REM_REM n) - esz), h)

/-- The elements of channel n are moved until none is left, one fails, or the channel is disabled (R462, R469). `fail` is the
number of elements before the one whose host access fails. -/
def Dev.rakMove (d : Dev) (n : Nat) (host : List Nat) (fail : Option Nat) : Nat → Dev
  | 0 => if d.rak.running = some n then d.rakEnd n none else d
  | k + 1 =>
    if d.rak.running ≠ some n then d
    else match d.rakStop n with
      | some e => d.rakEnd n (some e)
      | none =>
        if d.rakHost n && fail == some 0 then d.rakEnd n (some .bus)
        else
          let r := d.rakElem n host
          r.1.rakMove n r.2 (fail.map (· - 1)) k

/-! ### What a running transfer has moved (R471): 8 bytes a FAB cycle on chip, 4 bytes in two to or from a register window -/

/-- Does the next element of channel n use a register window? -/
def Dev.rakWindow (d : Dev) (n : Nat) : Bool :=
  (d.rakSptr n / 2 ^ 62 == 0 && inWindow (d.rakSptr n)) || (d.rakDptr n / 2 ^ 62 == 0 && inWindow (d.rakDptr n))

/-- FAB cycles that k elements of channel n take. -/
def Dev.rakTime (d : Dev) (n k : Nat) : Nat := if d.rakWindow n then 2 * k else (k * d.rakEsz n + 7) / 8

/-- Elements of channel n that t FAB cycles move. -/
def Dev.rakDue (d : Dev) (n t : Nat) : Nat := if d.rakWindow n then t / 2 else t * 8 / d.rakEsz n

/-- Elements that channel n has still to move. -/
def Dev.rakLeft (d : Dev) (n : Nat) : Nat := d.get (F.RK_REM_REM n) / d.rakEsz n

/-- At most k elements of channel n are moved, none of them one that is stopped. -/
def Dev.rakRun (d : Dev) (n : Nat) : Nat → Dev
  | 0 => d
  | k + 1 => if decide (d.rak.running ≠ some n) || (d.rakStop n).isSome then d else (d.rakElem n []).1.rakRun n k

/-- The running transfer has moved what its pace allows by now, but for its last element and one that fails, with which
RAK_TRANSFER_END ends it. The host memory of a transfer answers at RAK_TRANSFER_END alone (notes/assumptions/53.md). -/
def Dev.rakCatch (d : Dev) : Dev :=
  match d.rak.running with
  | none => d
  | some n =>
    if d.rakHost n then d
    else
      let k := min (d.rakDue n (d.fab - d.rak.movedAt)) (d.rakLeft n - 1)
      ({ d with rak := { d.rak with movedAt := d.rak.movedAt + d.rakTime n k } } : Dev).rakRun n k

/-! ### Commands -/

/-- RAK_REQ (R461): a one written to RKn_CTL.REQ. -/
def execRakReq (n : Fin 16) (s : State) : Host.Outcome State Fault Refusal := s.run fun d => d.rakRequest n

/-- The request of channel n came in the present FAB cycle, and starts in the next one (R461, R462). -/
def Dev.rakWait (d : Dev) (n : Nat) : Dev := if smGet d.rak.came 0 n == d.fab then d.fabCycle else d

/-- The first queued request starts, where no transfer runs. -/
def Dev.rakBegin (d : Dev) : Dev :=
  match d.rak.running, d.rak.queue with
  | none, n :: _ => d.rakStart n
  | _, _ => d

/-- RAK_TRANSFER_START (R461, R462). -/
def execRakTransferStart (s : State) : Host.Outcome State Fault Refusal :=
  s.run fun d => match d.rak.running, d.rak.queue with
    | none, n :: _ => (d.rakWait n).rakBegin
    | _, _ => d

/-- The time that the rest of the running transfer takes on chip passes (R471). -/
def Dev.rakAwait (d : Dev) (n : Nat) : Dev := if d.rakHost n then d else d.until (d.rak.movedAt + d.rakTime n (d.rakLeft n))

/-- RAK_TRANSFER_END (R468, R469, R471): the running transfer moves its elements; `host` holds the bytes that its reads of host
memory return, and `fail` the number of elements moved before a host access fails. -/
def execRakTransferEnd (host : List Nat) (fail : Option Nat) (s : State) : Host.Outcome State Fault Refusal :=
  s.run fun d => match d.rak.running with
    | some n => (d.rakAwait n).rakMove n host fail (d.rakLeft n)
    | none => d

/-- RAK_DISABLE (R470): RKn_CTL.EN is cleared. -/
def execRakDisable (_req : Fin 10) (n : Fin 16) (s : State) : Host.Outcome State Fault Refusal :=
  s.run fun d => if d.flag (F.RK_CTL_EN n) then d.rakCatch.rakDisable n else d

/-- RAK_CNT_CLR (R7). -/
def execRakCntClr (_req : Fin 10) (mask : Nat) (s : State) : Host.Outcome State Fault Refusal := s.run fun d => d.rakCntClr mask

end Sys2Proof.Machine
end

