-- ==== Sys2Proof/Machine/Access.lean ====
section
/-! DEFINITION. The commands that reach BAR0 from outside (R33-R37, R44-R64, R74) and through DBGACC (R529, R530), and those that
end a drain or begin a sleep (R506-R510): the Racking engine has moved its data up to each of them. -/

namespace Sys2Proof.Machine

/-- An access of requester req: in CORE reset only MG and DBGACC reach the bus (R482, R492, R529). -/
def State.runBus (s : State) (req : Nat) (f : Dev → Dev) : Host.Outcome State Fault Refusal :=
  s.runSys fun d => if d.rst.core && req != 7 && req != 9 then d else f d.rakCatch

/-! ### Accesses -/

/-- REGISTER_WRITE (R7, R35, R60). -/
def execRegisterWrite (req : Fin 10) (off size data : Nat) (s : State) : Host.Outcome State Fault Refusal :=
  s.runBus req fun d => d.access req off size true data

/-- OUTSPAN_ACCESS (R34). -/
def execOutspanAccess (req : Fin 10) (off : Nat) (wr : Bool) (s : State) : Host.Outcome State Fault Refusal :=
  s.runBus req fun d => if placeOf (off % 2 ^ 25) = .out then d.access req off 4 wr 0 else d

/-- NARROW_ACCESS (R35): a write of fewer than 4 bytes, or an access that is not aligned to its size. -/
def execNarrowAccess (req : Fin 10) (off size : Nat) (wr : Bool) (s : State) : Host.Outcome State Fault Refusal :=
  s.runBus req fun d => if inWindow off ∧ (off % size ≠ 0 ∨ size < 4) then d.access req off size wr 0 else d

/-- PWROFF_ACCESS (R37, R43). -/
def execPwroffAccess (req : Fin 10) (off : Nat) (wr : Bool) (s : State) : Host.Outcome State Fault Refusal :=
  s.runBus req fun d => match placeOf (off % 2 ^ 25) with
    | .reg c => if d.isOff c then d.access req (off / 4 * 4) 4 wr 0 else d
    | _ => d

/-- APERTURE_ACCESS (R36). -/
def execApertureAccess (req : Fin 10) (off size : Nat) (wr : Bool) (data : Nat) (s : State) : Host.Outcome State Fault Refusal :=
  s.runBus req fun d => match placeOf (off % 2 ^ 25) with
    | .mem _ => d.access req off size wr data
    | _ => d

/-- LOW_WORD_READ (R35, R44-R46): a 32-bit read, or a 64-bit one, which reads the low word and then the high word. -/
def execLowWordRead (req : Fin 10) (rd : WordRead) (s : State) : Host.Outcome State Fault Refusal :=
  s.runBus req fun d => d.access req rd.off (if rd.wide then 8 else 4) false 0

/-- SYS_UPD_STROBE (R50, R349). -/
def execSysUpdStrobe (_req : Fin 10) (grp : Nat) (s : State) : Host.Outcome State Fault Refusal := s.run fun d => d.strobe grp

/-- RWS_SHADOW_WRITE (R55). -/
def execRwsShadowWrite (req : Fin 10) (off data : Nat) (s : State) : Host.Outcome State Fault Refusal := s.runBus req fun d => d.busWrite req off data

/-- SYS_UPD_STAT_CLR (R7). -/
def execSysUpdStatClr (_req : Fin 10) (s : State) : Host.Outcome State Fault Refusal := s.run Dev.updStatClr

/-- CORK_VALUE_WRITE (R59, R61, R62). -/
def execCorkValueWrite (req : Fin 10) (off data : Nat) (s : State) : Host.Outcome State Fault Refusal :=
  s.runBus req fun d => if corkPlace off false then d.busWrite req off data else d

/-- COMPLEMENT_WORD_WRITE (R59, R62). -/
def execComplementWordWrite (req : Fin 10) (off data : Nat) (s : State) : Host.Outcome State Fault Refusal :=
  s.runBus req fun d => if corkPlace off true then d.busWrite req off data else d

/-- CORK_TIMEOUT (R62): the 64th FAB cycle after the value write ends. -/
def execCorkTimeout (off : Nat) (s : State) : Host.Outcome State Fault Refusal :=
  s.run fun d => match placeOf (off % 2 ^ 25) with
    | .reg a => match d.corkAt a with
      | some c => d.until (c.opened + corkCycles + 1)
      | none => d
    | _ => d

/-- BIT_ALIAS_WRITE (R64). -/
def execBitAliasWrite (req : Fin 10) (off data : Nat) (s : State) : Host.Outcome State Fault Refusal :=
  s.runBus req fun d => match placeOf (off % 2 ^ 25) with
    | .bitWord _ => d.busWrite req off data
    | _ => d

/-- FLT_CLOSE (R74). -/
def execFltClose (req : Fin 10) (blk : Fin 25) (s : State) : Host.Outcome State Fault Refusal :=
  s.runBus req fun d => d.busWrite req (fltBase blk + 0x18) 1

/-- An access of DBGACC, in any mode (R529, R530): refused with STATUS 2 while JLOCK is set. -/
def Dev.dbgacc (d : Dev) (op off data : Nat) (f : Dev → Dev) : Dev :=
  let d1 := d.tapIr 0x20
  if d.jlocked then { d1 with dbg := { d1.dbg with status := 2 } }
  else
    let d2 := f d1
    { d2 with dbg := { d2.dbg with status := 0, off := off % 2 ^ 25, data := if op = 1 then d2.bus.data % 2 ^ 32 else data % 2 ^ 32 } }

/-- DBGACC_READ (R530). -/
def execDbgaccRead (off : Nat) (s : State) : Host.Outcome State Fault Refusal := s.runBus 9 fun d => d.dbgacc 1 off 0 (fun x => x.busRead 9 off)

/-- DBGACC_WRITE (R530). -/
def execDbgaccWrite (off data : Nat) (s : State) : Host.Outcome State Fault Refusal :=
  s.runBus 9 fun d => d.dbgacc 2 off data (fun x => x.busWrite 9 off data)

/-- DBGACC_CORKED_WRITE (R530): value and complement in consecutive FAB cycles. -/
def execDbgaccCorkedWrite (off data : Nat) (s : State) : Host.Outcome State Fault Refusal :=
  s.runBus 9 fun d => d.dbgacc 3 off data (fun x => (x.busWrite 9 off data).fabCycle.busWrite 9 (off + 4) (2 ^ 32 - 1 - data % 2 ^ 32))

/-! ### Drains and sleep -/

/-- DRAIN_END (R506-R508, R471): nothing keeps the drain going, or 50 µs pass from the cork. -/
def execDrainEnd (dom : Fin 8) (s : State) : Host.Outcome State Fault Refusal :=
  s.runSys fun d => if d.domState dom = 3 then (d.drainWait dom).rakCatch.drainEnd dom else d

/-- PWR_SLEEP (R509, R510). -/
def execPwrSleep (req : Fin 10) (s : State) : Host.Outcome State Fault Refusal := s.runSys fun d => d.rakCatch.sleepReq req.val

end Sys2Proof.Machine
end

