-- ==== Sys2Proof/Machine/Command.lean ====
section
/-! DEFINITION. The opcodes of the command cores (R390-R392, R412, R489), but for IMAGE_LOAD and FW_STAGE, which are in
Boot. A command core acts as requester 1 or 2 (R39). -/

namespace Sys2Proof.Machine

/-! ### How a command runs -/

/-- The requester of a command (R39). -/
def cmdReq (h : CmdHdr) : Nat := 1 + h.core.val

/-- DADDR or DLEN out of range or misaligned (R381, R392); over CAN FD DADDR is ignored (R412). -/
def bufBad (h : CmdHdr) : Bool :=
  h.dlen % 4 != 0 || decide (2 ^ 24 ≤ h.dlen) || (decide (h.src < 256) && h.dlen != 0 && h.daddr % 4 != 0)

/-- A command of source h.src starts no new command while its CQ is full (R385). -/
def Dev.cqBlocked (d : Dev) (src : Nat) (x : Sq) : Bool := decide (src < 256) && (d.cq? x.cq).elim false Cq.full

/-- The entry of a command that is given whole, not fetched before: SQHD is the ring's head. -/
def Sq.freshEnt (x : Sq) (op : Nat) (h : CmdHdr) : Ent := ⟨0, op, h.cid, h.nocpl, none, (x.head + x.size - 1) % x.size, .run, [], none⟩

/-- What a command row says of bits hi:lo of a word of its entry (R381). -/
structure Par where
  word : Nat
  hi : Nat
  lo : Nat
  val : Nat
deriving DecidableEq, Repr

/-- Parameter Pn is v. -/
def par (n v : Nat) : Par := ⟨5 + n, 31, 0, v⟩

/-- Bits hi:lo of Pn are v. -/
def parBits (n hi lo v : Nat) : Par := ⟨5 + n, hi, lo, v⟩

/-- Pn and those after it are the words of a list. -/
def parWords : Nat → List Nat → List Par
  | _, [] => []
  | n, v :: r => par n v :: parWords (n + 1) r

/-- A fetched entry is the command of a row: its header, its buffer and its parameters (R381); over CAN FD DADDR is ignored (R412). -/
def entIs (e : Ent) (op : Nat) (h : CmdHdr) (ps : List Par) : Bool :=
  e.op == op && e.cid == h.cid && e.nocpl == h.nocpl && e.words.getD 4 0 % 2 ^ 24 == h.dlen &&
    (h.dlen == 0 || decide (256 ≤ h.src) || e.words.getD 2 0 + 2 ^ 32 * e.words.getD 3 0 == h.daddr) &&
    ps.all (fun p => bits (e.words.getD p.word 0) p.hi p.lo == p.val)

/-- The command's entry: the one at the front of its source's fetched entries, where it is this command, or, where none is fetched,
the command as it is given. -/
def Sq.entryFor (x : Sq) (op : Nat) (h : CmdHdr) (ps : List Par) : Option Ent :=
  match x.ents with
  | [] => some (x.freshEnt op h)
  | e :: _ => if entIs e op h ps then some e else none

/-- STATUS of a command that its opcode, its path or its buffer stops, `buf` saying whether its buffer counts
(R390-R392). -/
def cmdCheck (h : CmdHdr) (op : Nat) (buf : Bool) : Option Nat :=
  match opCheck h.src op with
  | some c => some c
  | none => if buf && bufBad h then some 2 else none

/-- SQ n with ring x has a fetched command that its core can start (R380, R385). -/
def Dev.sqReady (d : Dev) (n : Nat) (x : Sq) : Bool := !x.ents.isEmpty && !d.cqBlocked n x

/-- How far SQ n lies behind the SQ of its priority that its core served last, in ring order (R380). -/
def Dev.turnsTo (d : Dev) (core prio n : Nat) : Nat := (n + 255 - smGet d.hif.turn 255 (4 * core + prio)) % 256

/-- Would a core choose a command of SQ m before one of SQ n: a higher priority, or the same and an earlier turn (R380)? -/
def Dev.sqBefore (d : Dev) (core m pm n pn : Nat) : Bool :=
  decide (pn < pm) || (pm == pn && decide (d.turnsTo core pn m < d.turnsTo core pn n))

/-- Does the core of h serve its source x, and is nothing to be chosen before it (R380, R413)? -/
def Dev.isNext (d : Dev) (h : CmdHdr) (x : Sq) : Bool :=
  if h.src < 256 then
    x.core == (h.core == 1) && ((d.srcOf (256 + h.core.val)).elim true (fun y => y.ents.isEmpty)) &&
      !d.hif.sqs.any (fun p => p.1 != h.src && p.2.core == x.core && d.sqReady p.1 p.2 && d.sqBefore h.core p.1 p.2.prio h.src x.prio)
  else h.src == 256 + h.core.val

/-- The core of h has served its SQ, of priority prio (R380). -/
def Dev.served (d : Dev) (h : CmdHdr) (prio : Nat) : Dev :=
  if h.src < 256 then { d with hif := { d.hif with turn := smSet d.hif.turn 255 (4 * h.core.val + prio) h.src } } else d

/-- The input buffer of a command lies in host memory, and no request for it is issued now (R373, R508). -/
def Dev.bufWaits (d : Dev) (h : CmdHdr) (op : Nat) : Bool :=
  decide (h.src < 256) && h.dlen != 0 && [3, 5, 8, 9, 0xF].contains op && !d.pcieGo

/-- Over CAN FD a command with DLEN not 0 empties the staging buffer (R412). -/
def Dev.unstage (d : Dev) (h : CmdHdr) : Dev := if decide (h.src < 256) || h.dlen == 0 then d else d.stageEmpty (h.src - 256)

/-- The device a command of source x works on: its entry has left its queue, and its SQ has had its turn (R379, R380). DESIGN CHOICE
(notes/assumptions/115.md): BUF_PUT, which fills the staging buffer, empties it first where DLEN is not 0. -/
def Dev.opStart (d : Dev) (h : CmdHdr) (op : Nat) (x : Sq) : Dev :=
  let d1 := (d.rakCatch.served h x.prio).popEnt h.src
  if op = 0x19 then d1.unstage h else d1

/-- A command that has run leaves the staging buffer empty (R412) and completes with its results r (R386), its duplicates directly
after it (R388), and the entries behind it that are not executed follow (R387). -/
def Dev.opEnd (h : CmdHdr) (op : Nat) (x : Sq) (e : Ent) (r : Dev × OpRes) : Dev :=
  let d := if op = 0x19 then r.1 else r.1.unstage h
  ((d.complete h.src e h.daddr r.2).dupsAfter h.src e).drainEnts h.src (x.ents.length + 1)

/-- May source x of header h start a command now: there is room for its completion, it is the next of its core, and its buffer does
not wait (R380, R385)? -/
def Dev.opFree (d : Dev) (h : CmdHdr) (op : Nat) (x : Sq) : Bool := !d.cqBlocked h.src x && d.isNext h x && !d.bufWaits h op

/-- A command of opcode op with parameters ps runs as f says and completes (R380, R381, R390). A command whose source does not exist
or may not start one, or that its source's first entry is not, has no effect. -/
def Dev.runOp (d : Dev) (h : CmdHdr) (op : Nat) (buf : Bool) (ps : List Par) (f : Dev → Dev × OpRes) : Dev :=
  match d.rakCatch.srcOf h.src with
  | none => d
  | some x =>
    if !d.rakCatch.opFree h op x then d
    else match x.entryFor op h ps with
      | none => d
      | some e =>
        let d1 := d.opStart h op x
        Dev.opEnd h op x e (match cmdCheck h op buf with | some c => (d1, OpRes.err c) | none => f d1)

/-- BADPARAM. -/
def badParam (d : Dev) : Dev × OpRes := (d, .err 2)

/-- n words, padded with zeros. -/
def padWords (n : Nat) (l : List Nat) : List Nat := ((l ++ List.replicate n 0).take n).map (· % 2 ^ 32)

/-- The input buffer of a command: host memory as the row gives it, or the staging buffer of its port (R390, R412). -/
def Dev.input (d : Dev) (h : CmdHdr) (data : List Nat) : Option (Dev × List Nat) :=
  if h.src < 256 then some (d, padWords (h.dlen / 4) data)
  else
    let p := h.src - 256
    if h.dlen = 0 then some (d, [])
    else if h.dlen ≤ (d.canOf p).stage then some (d, bytesWords (d.stageRead p h.dlen))
    else none

/-! ### Register access by commands -/

/-- n words from off on, as requester req reads them. -/
def Dev.readWords (d : Dev) (req off : Nat) : Nat → Dev × List Nat
  | 0 => (d, [])
  | n + 1 =>
    let r := d.readWords req off n
    let x := r.1.busRead req (off + 4 * n)
    (x, r.2 ++ [x.bus.data % 2 ^ 32])

/-- Does the target refuse this write (R392): a strobe under R50, a cork under R62, a discard under R55? -/
def Dev.wrRefused (d : Dev) (req off v : Nat) : Bool :=
  let x := ((d.wr R.SYS_UPD_STAT 0).put F.SYS_CORK_STAT_REASON 0).busWrite req off v
  x.rd R.SYS_UPD_STAT != 0 || x.get F.SYS_CORK_STAT_REASON != 0

/-- The register at off lies in a domain that is off (R37). -/
def Dev.offAt (d : Dev) (off : Nat) : Bool :=
  match placeOf (off % 2 ^ 25) with
  | .reg c => d.isOff c
  | _ => false

/-- Words written from off on: device, words written, whether one was refused, whether one met a domain that is off. -/
def Dev.writeWords (d : Dev) (req : Nat) : Nat → List Nat → Dev × Nat × Bool × Bool
  | _, [] => (d, 0, false, false)
  | off, v :: r =>
    let no := d.wrRefused req off v
    let gone := d.offAt off
    let q := (d.busWrite req off v).writeWords req (off + 4) r
    (q.1, q.2.1 + b2n (!no && !gone), q.2.2.1 || no, q.2.2.2 || gone)

/-- P0 and P1 of REG_RD and REG_WR. -/
def regArgs (off cnt : Nat) : Bool := decide (1 ≤ cnt) && decide (cnt ≤ 256) && off % 4 == 0 && decide (off + 4 * cnt ≤ 2 ^ 25)

/-- A status with results. -/
def statusOf (no gone : Bool) : Nat := if gone then 8 else if no then 3 else 0

/-- NOP (R390). -/
def execNop (h : CmdHdr) (s : State) : Host.Outcome State Fault Refusal := s.run fun d => d.runOp h 0 true [] (fun x => (x, .ok 0 0))

/-- IDENTIFY (R390). -/
def execIdentify (h : CmdHdr) (s : State) : Host.Outcome State Fault Refusal :=
  s.run fun d => d.runOp h 1 true [] (fun x => (x, .ok (x.fwRel (x.flag F.MGS_STAT_BANK)) (x.dver * 2 ^ 16 + x.get F.SYS_VINTAGE_CUR)))

/-- What REG_RD does (R390-R392). -/
def Dev.opRegRd (d : Dev) (h : CmdHdr) (off cnt : Nat) : Dev × OpRes :=
  if !regArgs off cnt || (decide (2 < cnt) && decide (h.dlen < 4 * cnt)) then badParam d
  else
    let r := d.readWords (cmdReq h) off cnt
    (r.1, ⟨statusOf false ((List.range cnt).any (fun i => d.offAt (off + 4 * i))), r.2.getD 0 0, r.2.getD 1 0, if 2 < cnt then r.2 else []⟩)

/-- REG_RD (R390-R392). -/
def execRegRd (h : CmdHdr) (off cnt : Nat) (s : State) : Host.Outcome State Fault Refusal :=
  s.run fun d => d.runOp h 2 (decide (2 < cnt)) [par 0 off, par 1 cnt] (fun x => x.opRegRd h off cnt)

/-- What REG_WR does with its words. -/
def Dev.opWrite (d : Dev) (h : CmdHdr) (off : Nat) (ws : List Nat) : Dev × OpRes :=
  let r := d.writeWords (cmdReq h) off ws
  (r.1, ⟨statusOf r.2.2.1 r.2.2.2, r.2.1, 0, []⟩)

/-- What REG_WR does (R390, R392). -/
def Dev.opRegWr (d : Dev) (h : CmdHdr) (off cnt : Nat) (data : List Nat) : Dev × OpRes :=
  if !regArgs off cnt || (decide (9 < cnt) && decide (h.dlen < 4 * cnt)) then badParam d
  else if cnt ≤ 9 then d.opWrite h off (padWords cnt data)
  else match d.input h data with
    | some (x, ws) => x.opWrite h off (ws.take cnt)
    | none => badParam d

/-- REG_WR (R390, R392). -/
def execRegWr (h : CmdHdr) (off cnt : Nat) (data : List Nat) (s : State) : Host.Outcome State Fault Refusal :=
  s.run fun d => d.runOp h 3 true (par 0 off :: par 1 cnt :: if cnt ≤ 9 then parWords 2 (padWords cnt data) else []) (fun x => x.opRegWr h off cnt data)

/-- What REG_CORK does (R59, R390): value word, then complement word. -/
def Dev.opRegCork (d : Dev) (h : CmdHdr) (off value : Nat) : Dev × OpRes :=
  if !decide (off < 2 ^ 25) || !corkPlace off false then badParam d
  else
    let v := value % 2 ^ 32
    let x := d.busWrite (cmdReq h) off v
    let y := x.busWrite (cmdReq h) (off + 4) (2 ^ 32 - 1 - v)
    (y, ⟨statusOf (d.wrRefused (cmdReq h) off v || x.wrRefused (cmdReq h) (off + 4) (2 ^ 32 - 1 - v)) false, (y.rd R.SYS_CORK_STAT).toNat, 0, []⟩)

/-- REG_CORK (R59, R390). -/
def execRegCork (h : CmdHdr) (off value : Nat) (s : State) : Host.Outcome State Fault Refusal :=
  s.run fun d => d.runOp h 4 true [par 0 off, par 1 value] (fun x => x.opRegCork h off value)

/-! ### Descriptors -/

def descArgs (h : CmdHdr) (idx cnt : Nat) : Bool :=
  decide (1 ≤ cnt) && decide (idx + cnt ≤ 8192) && decide (32 * cnt ≤ h.dlen)

/-- The words of one descriptor take their values. -/
def Dev.descWords (d : Dev) (bank : Bool) (idx : Nat) : Nat → List Nat → Dev
  | _, [] => d
  | i, w :: r => (d.descPut bank idx i w).descWords bank idx (i + 1) r

/-- n descriptors from idx on: device, descriptors written, descriptors discarded, whether one was discarded under R55. -/
def Dev.descsPut (d : Dev) (bank : Bool) : Nat → Nat → List Nat → Dev × Nat × Nat × Bool
  | 0, _, _ => (d, 0, 0, false)
  | n + 1, idx, ws =>
    let lost := d.descLive bank idx || d.descBusy bank idx
    let r := (d.descGate bank idx (fun x => x.descWords bank idx 0 (ws.take 8))).descsPut bank n (idx + 1) (ws.drop 8)
    (r.1, r.2.1 + b2n (!lost), r.2.2.1 + b2n lost, r.2.2.2 || (!d.descLive bank idx && d.descBusy bank idx))

/-- What DESC_WR does (R163, R390). -/
def Dev.opDescWr (d : Dev) (h : CmdHdr) (bank : Bool) (idx cnt : Nat) (data : List Nat) : Dev × OpRes :=
  if !descArgs h idx cnt then badParam d
  else match d.input h data with
    | some (x, ws) =>
      let r := x.descsPut bank cnt idx (padWords (8 * cnt) ws)
      (r.1, ⟨statusOf r.2.2.2 false, r.2.1, r.2.2.1, []⟩)
    | none => badParam d

/-- DESC_WR (R163, R390). -/
def execDescWr (h : CmdHdr) (bank : Bool) (idx cnt : Nat) (data : List Nat) (s : State) : Host.Outcome State Fault Refusal :=
  s.run fun d => d.runOp h 5 true [parBits 0 13 13 (b2n bank), parBits 0 12 0 idx, par 1 cnt] (fun x => x.opDescWr h bank idx cnt data)

/-- n words of memory from a on. -/
def memWords (m : List Host.Cell) (a n : Nat) : List Nat := (List.range n).map (fun i => memRead m (a + 4 * i) 4)

/-- DESC_RD (R390). -/
def execDescRd (h : CmdHdr) (bank : Bool) (idx cnt : Nat) (s : State) : Host.Outcome State Fault Refusal :=
  s.run fun d => d.runOp h 6 true [parBits 0 13 13 (b2n bank), parBits 0 12 0 idx, par 1 cnt] (fun x => if descArgs h idx cnt then (x, ⟨0, cnt, 0, memWords x.mem (descAddr bank idx) (8 * cnt)⟩) else badParam x)

/-! ### Strobe, log, demand, query -/

/-- What STROBE does (R50, R349, R390). -/
def Dev.opStrobe (d : Dev) (grp : Nat) : Dev × OpRes :=
  if grp % 256 = 0 then badParam d
  else
    let x := d.strobe grp
    if d.following || d.strobeBusy (grp % 256) then (x, .err 3) else (x, .ok (x.get F.SYS_VINTAGE_CUR) 0)

/-- STROBE (R50, R390). -/
def execStrobe (h : CmdHdr) (grp : Nat) (s : State) : Host.Outcome State Fault Refusal :=
  s.run fun d => d.runOp h 7 true [parBits 0 7 0 grp] (fun x => x.opStrobe grp)

/-- What LOG_RD does (R489, R390). -/
def Dev.opLogRd (d0 : Dev) (h : CmdHdr) (idx cnt : Nat) : Dev × OpRes :=
  let d := d0.logDrain
  let seq := d.get F.MGS_LOG_SEQ
  if cnt = 0 ∨ 16384 < cnt ∨ h.dlen < 32 * cnt then badParam d0
  else
    let start := max idx (seq - 16384)
    let n := min cnt (seq - start)
    (d, ⟨0, start + n, n, (List.range n).flatMap (fun i => memWords d.mram (0x200000 + 32 * ((start + i) % 16384)) 8)⟩)

/-- LOG_RD (R489, R390). -/
def execLogRd (h : CmdHdr) (idx cnt : Nat) (s : State) : Host.Outcome State Fault Refusal :=
  s.run fun d => d.runOp h 0xA true [par 0 idx, par 1 cnt] (fun x => x.opLogRd h idx cnt)

/-- DEMAND (R208, R217, R390). -/
def execDemand (h : CmdHdr) (mach : Fin 16) (dem : Nat) (post : Bool) (tag : Nat) (s : State) : Host.Outcome State Fault Refusal :=
  s.run fun d => d.runOp h 0xB true [parBits 0 3 0 mach, parBits 1 16 0 dem, parBits 2 8 8 (b2n post), parBits 2 7 0 tag] (fun x =>
    let y := if post then x.prsPost mach (tag % 256 * 2 ^ 24 + dem % 2 ^ 17) else (x.prsWrote mach).put (F.PRS_DEMAND_DEMAND mach) dem
    (y, .ok (y.rd (R.PRS_NSTR mach)).toNat 0))

/-- What PRED_Q answers (R153-R155, R390); without a prediction time and FRAC are free values. -/
def Dev.opPredQ (d : Dev) (k ang : Nat) : Dev × OpRes :=
  match d.queryRes k (ang % 2 ^ 24) with
  | .time t =>
    let n := ofS 64 (fdiv t 8)
    (d, .ok (n % 2 ^ 32) (n / 2 ^ 32 % 2 ^ 24 + (Int.fmod t 8).toNat * 2 ^ 24 + b2n (decide (t < 8 * (d.now : Int))) * 2 ^ 29))
  | r =>
    let a := d.drawFree
    let b := a.2.drawFree
    (b.2, .ok a.1.toNat (b.1.toNat % 2 ^ 27 + b2n (r == .nopred) * 2 ^ 27))

/-- PRED_Q (R153-R155, R390). -/
def execPredQ (h : CmdHdr) (k : Fin 16) (ang : Nat) (s : State) : Host.Outcome State Fault Refusal :=
  s.run fun d => d.runOp h 0xC true [parBits 0 3 0 k, parBits 1 23 0 ang] (fun x => x.opPredQ k ang)

/-! ### Tiles, memory, application cores -/

/-- STATUS of an access to position p of link n, where it stops it (R37, R284, R392). -/
def Dev.tileStop (d : Dev) (n p : Nat) : Option Nat :=
  if !d.lgOn n then some 8 else if d.linkUp n && d.reached n p then none else some 0xA

/-- The tile at position p of link n does not answer (R284): what is sent does not reach it, or it is in UNADDR, where it answers
REGWR alone. -/
def Dev.tileSilent (d : Dev) (n p : Nat) (rd : Bool) : Bool :=
  !d.passes (tileNo n p) d.mySide || (rd && (d.ts (tileNo n p) d.mySide).st == 0)

/-- An access of a command that no tile answers ends after 20 µs with an error (R284, R408): its STATUS and data are free values,
for the spec gives none with RESULT 0xFF. -/
def Dev.tileDead (d : Dev) (rd : Bool) : Dev × OpRes :=
  let a := (d.until (d.fab + 20 * fabMicro)).drawFree
  let b := a.2.drawFree
  let st := 1 + a.1.toNat % 255
  (b.2, if rd then ⟨st, b.1.toNat, 0xFF, []⟩ else ⟨st, 0xFF, 0, []⟩)

/-- TILE_RD (R284, R390). -/
def execTileRd (h : CmdHdr) (n : Fin 16) (p : Fin 4) (addr : Nat) (s : State) : Host.Outcome State Fault Refusal :=
  s.run fun d => d.runOp h 0xD true [parBits 0 3 0 n, parBits 0 9 8 p, par 1 addr] (fun x =>
    match x.tileStop n p with
    | some c => (x, ⟨c, 0, if c = 0xA then 0xFE else 0, []⟩)
    | none =>
      if x.tileSilent n p true then x.tileDead true
      else let r := x.tileRead (tileNo n p) x.mySide (addr % 65536); (x, .ok r.2 r.1))

/-- TILE_WR (R284, R390). -/
def execTileWr (h : CmdHdr) (n : Fin 16) (p : Fin 4) (addr data : Nat) (s : State) : Host.Outcome State Fault Refusal :=
  s.run fun d => d.runOp h 0xE true [parBits 0 3 0 n, parBits 0 9 8 p, par 1 addr, par 2 data] (fun x =>
    match x.tileStop n p with
    | some c => (x, ⟨c, if c = 0xA then 0xFE else 0, 0, []⟩)
    | none =>
      if x.tileSilent n p false then x.tileDead false
      else if (x.ts (tileNo n p) x.mySide).st = 0 then (x, .ok 3 0)
      else let r := x.tileWrite (tileNo n p) x.mySide (addr % 65536) (data % 2 ^ 32); (r.1, .ok r.2 0))

/-- The len bytes at off lie in the SRAM or in the TCM aperture (R33). -/
def coreMem (off len : Nat) : Bool :=
  off % 4 == 0 && decide (0 < len) && ((decide (0x1000000 ≤ off) && decide (off + len ≤ 0x1200000)) || (decide (0x1400000 ≤ off) && decide (off + len ≤ 0x1500000)))

/-- MEM_WR (R390). -/
def execMemWr (h : CmdHdr) (off : Nat) (data : List Nat) (s : State) : Host.Outcome State Fault Refusal :=
  s.run fun d => d.runOp h 0xF true [par 0 off] (fun x =>
    if coreMem off h.dlen then ({ x with mem := memWriteBytes x.mem off (wordsBytes (padWords (h.dlen / 4) data)) }, .ok h.dlen 0) else badParam x)

/-- MEM_RD (R390). -/
def execMemRd (h : CmdHdr) (off : Nat) (s : State) : Host.Outcome State Fault Refusal :=
  s.run fun d => d.runOp h 0x10 true [par 0 off] (fun x => if coreMem off h.dlen then (x, ⟨0, h.dlen, 0, memWords x.mem off (h.dlen / 4)⟩) else badParam x)

/-- Cores of a mask stop; a reset also forgets where they started (R390). -/
def Dev.acStop (d : Dev) (cores : Nat) (rst : Bool) : Dev :=
  let off := (List.range 4).filter (bitOf cores)
  { d with mgs := { d.mgs with acRun := Nat.land d.mgs.acRun (15 - cores % 16),
                               acStart := if rst then off.foldl smDel d.mgs.acStart else d.mgs.acStart } }

/-- AC_CTL_HALT (R390). -/
def execAcCtlHalt (h : CmdHdr) (cores : Nat) (s : State) : Host.Outcome State Fault Refusal :=
  s.run fun d => d.runOp h 0x11 true [parBits 0 3 0 cores, par 1 1] (fun x => let y := x.acStop cores false; (y, .ok y.mgs.acRun 0))

/-- AC_CTL_START (R487, R390). -/
def execAcCtlStart (h : CmdHdr) (cores addr : Nat) (s : State) : Host.Outcome State Fault Refusal :=
  s.run fun d => d.runOp h 0x11 true [parBits 0 3 0 cores, par 1 2, par 2 addr] (fun x => let y := x.acStart cores addr; (y, .ok y.mgs.acRun 0))

/-- AC_CTL_RESET (R390). -/
def execAcCtlReset (h : CmdHdr) (cores : Nat) (s : State) : Host.Outcome State Fault Refusal :=
  s.run fun d => d.runOp h 0x11 true [parBits 0 3 0 cores, par 1 3] (fun x => let y := x.acStop cores true; (y, .ok y.mgs.acRun 0))

/-! ### Rings (R376, R391) -/

/-- Number, base and entries of a ring to be created. -/
def ringArgs (n base entries : Nat) : Bool :=
  decide (1 ≤ n) && decide (n < 256) && base % 4096 == 0 && decide (base < 2 ^ 64) && decide (2 ≤ entries) && decide (entries ≤ 4096)

/-- CREATE_SQ (R376, R391). -/
def execCreateSq (h : CmdHdr) (sq base entries cq owner prio : Nat) (core : Bool) (win : Nat) (s : State) : Host.Outcome State Fault Refusal :=
  s.run fun d => d.runOp h 0x14 true ([par 0 sq, par 1 (base % 2 ^ 32), par 2 (base / 2 ^ 32), par 3 entries, par 4 cq] ++ [parBits 5 7 0 owner, parBits 5 9 8 prio, parBits 5 10 10 (b2n core), parBits 5 21 16 win]) (fun x =>
    if ringArgs sq base entries && decide (owner < 256) && decide (prio < 4) && decide (1 ≤ win) && decide (win ≤ 64) && (x.sq? sq).isNone &&
        (x.cqLive? cq).isSome then (x.addSq sq (newSq base entries cq owner prio core win), .ok 0 0)
    else badParam x)

/-- What DELETE_SQ does (R391): every fetched command that has not started is aborted, and the ring goes. -/
def Dev.opDeleteSq (d : Dev) (sq : Nat) : Dev × OpRes :=
  match d.sq? sq with
  | some y =>
    if sq = 0 then badParam d
    else
      let d1 := d.abortEnts sq
      ({ d1.upQmg (fun q => q.setQcfg sq 0) with hif := { d1.hif with sqs := smDel d1.hif.sqs sq } }, .ok y.ents.length 0)
  | none => badParam d

/-- DELETE_SQ (R391). -/
def execDeleteSq (h : CmdHdr) (sq : Nat) (s : State) : Host.Outcome State Fault Refusal :=
  s.run fun d => d.runOp h 0x15 true [par 0 sq] (fun x => x.opDeleteSq sq)

/-- CREATE_CQ (R376, R384, R391). -/
def execCreateCq (h : CmdHdr) (cq base entries vec cthr ctime : Nat) (s : State) : Host.Outcome State Fault Refusal :=
  s.run fun d => d.runOp h 0x16 true ([par 0 cq, par 1 (base % 2 ^ 32), par 2 (base / 2 ^ 32), par 3 entries] ++ [parBits 4 9 0 vec, parBits 5 7 0 cthr, parBits 5 23 8 ctime]) (fun x =>
    if ringArgs cq base entries && decide (vec < 1024) && decide (cthr < 256) && decide (ctime < 65536) && (x.cq? cq).isNone then
      (x.setCq cq (newCq base entries vec cthr ctime), .ok 0 0)
    else badParam x)

/-- DELETE_CQ (R391). -/
def execDeleteCq (h : CmdHdr) (cq : Nat) (s : State) : Host.Outcome State Fault Refusal :=
  s.run fun d => d.runOp h 0x17 true [par 0 cq] (fun x =>
    if cq != 0 && (x.cqLive? cq).isSome && !x.hif.sqs.any (fun p => p.2.cq == cq) then (x.cqDrop cq, .ok 0 0)
    else badParam x)

/-! ### Staging (R412) -/

/-- What BUF_PUT does: the bytes go to the staging buffer of the port. -/
def Dev.opBufPut (d : Dev) (p off len : Nat) (data : List Nat) : Dev × OpRes :=
  if len = 0 ∨ 36 < len ∨ 2 ^ 20 < off + len then badParam d
  else match d.stageGrow p ((off + len + 63) / 64) 16385 with
    | none => (d, .err 3)
    | some x =>
      let y := x.stageWrite p off ((wordsBytes (padWords 9 data)).take len)
      (y.setCan p { y.canOf p with stage := max (y.canOf p).stage (off + len) }, .ok len 0)

/-- BUF_PUT (R390, R412). -/
def execBufPut (h : CmdHdr) (off len : Nat) (data : List Nat) (s : State) : Host.Outcome State Fault Refusal :=
  s.run fun d => d.runOp h 0x19 true (par 0 off :: par 1 len :: parWords 2 (padWords 9 data)) (fun x => x.opBufPut (h.src - 256) off len data)

end Sys2Proof.Machine
end

