-- ==== Sys2Proof/Machine/Boot.lean ====
section
/-! DEFINITION. Jenhus images, firmware staging and the boot (R487, R495-R499, R501). -/

namespace Sys2Proof.Machine

/-! ### The container (R495, R496) -/

/-- Word i of a byte list. -/
def wordAt (b : List Nat) (i : Nat) : Nat := leNat ((b.drop (4 * i)).take 4)

def imgMagic : Nat := 0x53484E4A

def imgLenOf (b : List Nat) : Nat := wordAt b 2

/-- MAGIC, FMT, KIND, LEN and VINT are well formed (R495): a header of 64 bytes, HASH of 32 and SIG of 64. -/
def imgForm (kind : Nat) (b : List Nat) : Bool :=
  let w1 := wordAt b 1
  let len := imgLenOf b
  wordAt b 0 == imgMagic && bits w1 31 24 == kind && bits w1 23 16 == 1 && len % 4 == 0 && decide (160 ≤ len) && decide (len ≤ 2 ^ 20) &&
    decide (len ≤ b.length) && ((kind == 1) == (wordAt b 3 % 2 ^ 16 != 0))

/-- HASH matches bytes 0 to LEN - 97. -/
def imgHash (b : List Nat) : List Nat := (b.drop (imgLenOf b - 96)).take 32

def imgHashOk (b : List Nat) : Bool := sha256 (b.take (imgLenOf b - 96)) == imgHash b

def imgKey (b : List Nat) : Nat := bits (wordAt b 1) 15 8

/-- SIG verifies under key slot KEYID, one of 0 to 3. -/
def imgSigOk (b : List Nat) : Bool := decide (imgKey b < 4) && ecdsaVerify (Config.sigKey (imgKey b)) (imgHash b) ((b.drop (imgLenOf b - 64)).take 64)

/-- Verification of an image of a kind: 1 pass, else the first check that fails (R496): 2 format, 3 hash, 4 signature,
5 key, 6 DVER. -/
def Dev.imgVerify (d : Dev) (kind : Nat) (b : List Nat) : Nat :=
  let dv := wordAt b 3 / 2 ^ 16
  if !imgForm kind b then 2
  else if !imgHashOk b then 3
  else if !imgSigOk b then 4
  else if Config.keyKind (imgKey b) ≠ kind then 5
  else if kind = 1 ∧ dv ≠ 0 ∧ dv ≠ d.dver then 6
  else 1

/-! ### Configuration records (R497, R498) -/

/-- A record of a configuration image. -/
inductive ImgRec where
  | write (addr : Nat) (data : List Nat)
  | corked (addr : Nat) (value : Nat)
  | wait (us : Nat)
deriving DecidableEq, Repr

/-- The records of a body up to its end record; none where one is not formed as R497 says. -/
def imgRecs : Nat → List Nat → Option (List ImgRec)
  | 0, _ => none
  | _, [] => none
  | k + 1, w :: r =>
    let n := w % 2 ^ 24
    match w / 2 ^ 30 % 4 with
    | 0 => match r with
      | a :: q => if a % 4 = 0 ∧ a + 4 * n ≤ 2 ^ 25 ∧ n ≤ q.length then (imgRecs k (q.drop n)).map (fun l => .write a (q.take n) :: l) else none
      | [] => none
    | 1 => match r with
      | a :: v :: q => if n = 1 ∧ corkPlace a false ∧ a < 2 ^ 25 then (imgRecs k q).map (fun l => .corked a v :: l) else none
      | _ => none
    | 2 => (imgRecs k r).map (fun l => .wait n :: l)
    | _ => some []

/-- The words of the body: from byte 64 to byte LEN - 97. -/
def imgBody (b : List Nat) : List Nat := bytesWords ((b.drop 64).take (imgLenOf b - 160))

/-- One record is applied by MG, requester 7 (R497, R498). -/
def Dev.imgRec (d : Dev) : ImgRec → Dev
  | .write a ws => d.busWrites 7 a ws
  | .corked a v => (d.busWrite 7 a v).busWrite 7 (a + 4) (2 ^ 32 - 1 - v % 2 ^ 32)
  | .wait us => d.advance (d.now + 200 * us)

/-- Steps 2 to 5 of R498: the image is stored and its records applied, and all eight groups are strobed with VINT. -/
def Dev.imgApply (d : Dev) (b : List Nat) (rs : List ImgRec) : Dev :=
  let len := imgLenOf b
  let vint := wordAt b 3 % 2 ^ 16
  let d1 : Dev := { d with mram := memWriteBytes d.mram 0x280000 (b.take len), mgs := { d.mgs with imgLen := len } }
  let d2 := rs.foldl Dev.imgRec (d1.put F.MGS_STAT_VINT vint)
  ((d2.strobeAs 255 vint).put F.SYS_VINTAGE_IMAGE vint).log 21 5 0 0 [vint, len]

/-- The verification of a configuration image as MGS_FW_STAT.VRES reports it (R496). -/
def Dev.imgResult (d : Dev) (b : List Nat) : Dev := d.put F.MGS_FW_STAT_VRES (d.imgVerify 1 b)

/-- Verification and form of every record (R498 step 1). -/
def Dev.imgCheck (d : Dev) (b : List Nat) : Option (List ImgRec) :=
  if d.imgVerify 1 b = 1 then imgRecs ((imgBody b).length + 1) (imgBody b) else none

/-- VERIFY_FAIL is raised. -/
def Dev.verifyFail (d : Dev) : Dev := d.raise 21 7 0 1

/-- What IMAGE_LOAD does (R390, R498). -/
def Dev.opImageLoad (d : Dev) (h : CmdHdr) (image : List Nat) : Dev × OpRes :=
  if d.get F.SYS_UPD_PEND_GRP_PEND ≠ 0 ∨ d.following then (d, .err 3)
  else match d.input h image with
    | none => badParam d
    | some (x, ws) =>
      let b := wordsBytes ws
      let y := x.imgResult b
      match x.imgCheck b with
      | some rs => (y.imgApply b rs, .ok (wordAt b 3 % 2 ^ 16) 0)
      | none => (y.verifyFail, .err 9)

/-- IMAGE_LOAD (R495-R498). -/
def execImageLoad (h : CmdHdr) (image : List Nat) (s : State) : Host.Outcome State Fault Refusal :=
  s.run fun d => d.runOp h 8 true [] (fun x => x.opImageLoad h image)

/-! ### Firmware staging (R499) -/

/-- MRAM address of a firmware bank (R488). -/
def bankAddr (bank : Bool) : Nat := if bank then 0x100000 else 0

/-- The staged image of the inactive bank is verified (R496, R499). -/
def Dev.fwVerify (d : Dev) : Dev × Bool :=
  let bank := !d.flag F.MGS_STAT_BANK
  let b := memReadBytes d.mram (bankAddr bank) (min (2 ^ 20) (memRead d.mram (bankAddr bank + 8) 4))
  let res := d.imgVerify 2 b
  let d1 := (d.put F.MGS_FW_STAT_VRES res).putB F.MGS_FW_STAT_VERIFIED (res == 1)
  let rel := wordAt b 4
  let d2 := if res = 1 then d1.wr (if bank then R.MGS_FWREL_B else R.MGS_FWREL_A) (BitVec.ofNat 32 rel) else d1.verifyFail
  (d2.log 21 6 0 0 [(d2.rd R.MGS_FW_STAT).toNat, rel], res == 1)

/-- Bytes are staged at offset off of the inactive bank. -/
def Dev.fwPiece (d : Dev) (off : Nat) (bs : List Nat) : Dev :=
  let y : Dev := { d with mram := memWriteBytes d.mram (bankAddr (!d.flag F.MGS_STAT_BANK) + off) bs }
  (y.put F.MGS_FW_STAT_VERIFIED 0).put F.MGS_FW_STAT_STAGED (y.get F.MGS_FW_STAT_STAGED + bs.length)

/-- What FW_STAGE does (R390, R499). -/
def Dev.opFwStage (d : Dev) (h : CmdHdr) (off : Nat) (last : Bool) (piece : List Nat) : Dev × OpRes :=
  if 2 ^ 20 < off + h.dlen then badParam d
  else match d.input h piece with
    | none => badParam d
    | some (x, ws) =>
      let z := x.fwPiece off (wordsBytes ws)
      let r := if last then z.fwVerify else (z, true)
      (r.1, if r.2 then .ok (r.1.get F.MGS_FW_STAT_STAGED) 0 else .err 9)

/-- FW_STAGE (R499). -/
def execFwStage (h : CmdHdr) (off : Nat) (last : Bool) (piece : List Nat) (s : State) : Host.Outcome State Fault Refusal :=
  s.run fun d => d.runOp h 9 true [par 0 off, parBits 1 0 0 (b2n last)] (fun x => x.opFwStage h off last piece)

/-! ### Bus-master requests that fail (R393) -/

/-- What the running command of entry w had carried out when its buffer failed after the words got: a REG_WR its first writes, a
DESC_WR whole descriptors, a FW_STAGE and a MEM_WR what had come; an image is taken whole or not at all. -/
def Dev.cmdPart (d : Dev) (h : CmdHdr) (w got : List Nat) : Dev :=
  let p0 := entP w 0
  let p1 := entP w 1
  let ws := got.take (w.getD 4 0 % 2 ^ 24 / 4)
  match entOp w with
  | 3 => if regArgs p0 p1 && decide (9 < p1) then (d.writeWords (cmdReq h) p0 (ws.take p1)).1 else d
  | 5 => (d.descsPut (bitOf p0 13) (min p1 (ws.length / 8)) (p0 % 2 ^ 13) ws).1
  | 9 => if p0 + 4 * ws.length ≤ 2 ^ 20 then d.fwPiece p0 (wordsBytes ws) else d
  | 0xF => if coreMem p0 (4 * ws.length) then { d with mem := memWriteBytes d.mem p0 (wordsBytes ws) } else d
  | _ => d

/-- The command that the core of source h.src runs ends with DMA_ERR, what it has done staying done (R393). -/
def Dev.cmdErr (d : Dev) (h : CmdHdr) (got : List Nat) : Dev :=
  match d.srcOf h.src with
  | none => d
  | some x =>
    let e := (x.ents.head?).getD (x.freshEnt 0 h)
    let d1 := ((d.served h x.prio).popEnt h.src).cmdPart h e.words got
    ((d1.complete h.src e 0 (.err 5)).dupsAfter h.src e).drainEnts h.src (x.ents.length + 1)

/-- The uncorrectable errors that Advanced Error Reporting keeps (R373): bit 14 a completion timeout; bit 12, poisoned data, is a
free value, for the command does not tell which of its three causes it has. PRESUMED: the bits of the PCI Express Base
Specification (notes/assumptions/113.md). -/
def Dev.aerNote (d : Dev) (code : Nat) : Dev :=
  if code = 1 then { d with hif := { d.hif with pcie := { d.hif.pcie with aer := Nat.lor d.hif.pcie.aer 0x4000 } } }
  else let r := d.drawFree; { r.2 with hif := { r.2.hif with pcie := { r.2.hif.pcie with aer := Nat.lor d.hif.pcie.aer (r.1.toNat % 2 * 0x1000) } } }

/-- A bus-master request fails (R393, R397, R469): its requester gets no data. The entry of a fetch stays to be fetched again, and a
Racking transfer that it ends is told so by RAK_TRANSFER_END. -/
def Dev.busFail (d : Dev) (code : Nat) (cnt : Fld) (who : BusUser) : Dev :=
  if !d.pcieOn || d.rst.perst then d
  else
    let d1 := (d.incSat cnt).aerNote code
    match who with
    | .command h got => (d1.raise 14 code h.src 1).cmdErr h got
    | .fetch n => d1.raise 14 code n 1
    | .stream n => ((d1.raise 14 code n 1).put (F.STM_STAT_ERR n) 1).setStm n { d1.stmOf n with chunk := [] }
    | .racking => d1.raise 14 code 0 1

/-- CPL_TIMEOUT (R393). -/
def execCplTimeout (who : BusUser) (s : State) : Host.Outcome State Fault Refusal := s.run fun d => d.busFail 1 F.HIF_CNT1_CTO who

/-- DMA_ERR (R393). -/
def execDmaErr (who : BusUser) (s : State) : Host.Outcome State Fault Refusal := s.run fun d => d.busFail 2 F.HIF_CNT1_ERRCPL who

/-! ### The boot (R487) -/

/-- The root PLL locks (step 1): PLLB where PLLA has been replaced. -/
def Dev.pllBoot (d0 : Dev) : Dev :=
  let d := if d0.mgs.pllBad then d0.put (F.CLK_PLL_STAT_RETIRED 1) 1 else d0
  if d.mgs.usedPll then
    ((((d.put (F.CLK_PLL_STAT_RETIRED 0) 1).put (F.CLK_PLL_STAT_ACTIVE 0) 0).put (F.CLK_PLL_STAT_ACTIVE 1) 1).put (F.CLK_PLL_STAT_LOCK 1) 1).put F.CLK_STAT_PLLB 1
  else (d.put (F.CLK_PLL_STAT_ACTIVE 0) 1).put (F.CLK_PLL_STAT_LOCK 0) 1

/-- MG starts from the active bank (step 2): the reset, a wake and a rollback are logged (R484, R489, R501, R512). -/
def Dev.mgBoot (d : Dev) : Dev :=
  let bank := d.flag F.MGS_STAT_BANK
  let d1 := d.log 255 3 0 0 [(d.crd R.CEL_RSTCAUSE).toNat, b2n bank, d.fwRel bank]
  let d2 := if d.cget F.CEL_STAT_PSTATE = 3 then d1.log 255 10 0 0 [(d.crd R.CEL_WAKE_CAUSE).toNat] else d1
  if d.mgs.rolled then
    ({ d2 with mgs := { d2.mgs with rolled := false } }.raise 21 8 0 2).log 21 7 0 0 [b2n (!bank), b2n bank, d.fwRel bank]
  else d2

/-- MG checks the hash of the bank it starts from (step 2). DESIGN CHOICE (notes/assumptions/115.md): where it does not match,
VERIFY_FAIL is raised and the boot goes on. -/
def Dev.bankCheck (d : Dev) : Dev :=
  let a := bankAddr (d.flag F.MGS_STAT_BANK)
  let b := memReadBytes d.mram a (min (2 ^ 20) (memRead d.mram (a + 8) 4))
  if imgForm 2 b && imgHashOk b then d else d.verifyFail

/-- One outcome of a built-in self-test: does the unit fail? The spec leaves it to the unit, so it is a free value
(notes/assumptions/8.md). -/
def Dev.bistOne (d : Dev) (unit : Nat) (retire : Dev → Dev) : Dev :=
  let r := d.drawFree
  if r.1.getLsbD 0 then (retire r.2).raise 21 11 unit 2 else r.2

/-- The built-in self-test of the spare engines, PLLB and the spare rows that are still free (R487 step 2): one that fails is
retired (R503). -/
def Dev.bist (d : Dev) : Dev :=
  let pes := [32, 33, 34, 35].filter (fun m => !d.mgs.retPe.contains m && !d.mgs.peMap.any (fun p => p.2 == m))
  let d1 := pes.foldl (fun (x : Dev) m => x.bistOne m (fun y => { y.takePe with mgs := { y.mgs with retPe := y.mgs.retPe ++ [m] } })) d
  let d2 := if d1.mgs.usedPll || d1.mgs.pllBad then d1
    else d1.bistOne 1 (fun y => { (y.put F.MGS_SPARE_STAT_PLL 0).put (F.CLK_PLL_STAT_RETIRED 1) 1 with mgs := { y.mgs with pllBad := true } })
  ((List.range 64).filter (fun i => !d2.mgs.rowGone.contains i)).foldl (fun (x : Dev) i =>
    x.bistOne i (fun y => { y.put F.MGS_SPARE_STAT_ROW (y.get F.MGS_SPARE_STAT_ROW - 1) with mgs := { y.mgs with rowGone := i :: y.mgs.rowGone } })) d2

/-- The stored image is loaded (step 4), or none is. -/
def Dev.imgBoot (d0 : Dev) : Dev :=
  let b := memReadBytes d0.mram 0x280000 d0.mgs.imgLen
  let d := d0.imgResult b
  match d.imgCheck b with
  | some rs => (d.put F.MGS_STAT_IMGOK 1).imgApply b rs
  | none => (d.put F.MGS_STAT_IMGOK 0).verifyFail

/-- BOOT (R487): steps 1 to 5, once after each release of SYSTEM reset; in board test mode there is none (R532). -/
def execBoot (s : State) : Host.Outcome State Fault Refusal :=
  s.runSys fun d =>
    if d.mgs.running || d.boardTest then d
    else
      let d1 := d.pllBoot.mgBoot.bankCheck.bist.coreUp.imgBoot
      { d1 with mgs := { d1.mgs with running := true, bootAt := d1.fab } }

end Sys2Proof.Machine
end

