-- ==== Sys2Proof/Machine/Dispatch.lean ====
section
/-! DEFINITION. The dispatch of every command to its meaning: one arm per constructor of Instr. -/

namespace Sys2Proof.Machine

def exec (i : Instr) (s : State) : Host.Outcome State Fault Refusal :=
  match i with
  | .registerWrite req off size data => Sys2Proof.Machine.execRegisterWrite req off size data s
  | .outspanAccess req off wr => Sys2Proof.Machine.execOutspanAccess req off wr s
  | .narrowAccess req off size wr => Sys2Proof.Machine.execNarrowAccess req off size wr s
  | .pwroffAccess req off wr => Sys2Proof.Machine.execPwroffAccess req off wr s
  | .apertureAccess req off size wr data => Sys2Proof.Machine.execApertureAccess req off size wr data s
  | .lowWordRead req rd => Sys2Proof.Machine.execLowWordRead req rd s
  | .sysUpdStrobe req grp => Sys2Proof.Machine.execSysUpdStrobe req grp s
  | .rwsShadowWrite req off data => Sys2Proof.Machine.execRwsShadowWrite req off data s
  | .trackerSwap k => Sys2Proof.Machine.execTrackerSwap k s
  | .updTimeout k => Sys2Proof.Machine.execUpdTimeout k s
  | .sysUpdStatClr req => Sys2Proof.Machine.execSysUpdStatClr req s
  | .corkValueWrite req off data => Sys2Proof.Machine.execCorkValueWrite req off data s
  | .corkTimeout off => Sys2Proof.Machine.execCorkTimeout off s
  | .bitAliasWrite req off data => Sys2Proof.Machine.execBitAliasWrite req off data s
  | .celIdataRead req => Sys2Proof.Machine.execCelIdataRead req s
  | .celIdataWrite req data => Sys2Proof.Machine.execCelIdataWrite req data s
  | .celAccessDone => Sys2Proof.Machine.execCelAccessDone s
  | .fastCopyRefresh => Sys2Proof.Machine.execFastCopyRefresh s
  | .slowStart => Sys2Proof.Machine.execSlowStart s
  | .slowStop => Sys2Proof.Machine.execSlowStop s
  | .fltClose req blk => Sys2Proof.Machine.execFltClose req blk s
  | .refLost pcie => Sys2Proof.Machine.execRefLost pcie s
  | .refGood pcie => Sys2Proof.Machine.execRefGood pcie s
  | .relockComplete => Sys2Proof.Machine.execRelockComplete s
  | .holdoffExpiry => Sys2Proof.Machine.execHoldoffExpiry s
  | .clkRefSwitch req ref => Sys2Proof.Machine.execClkRefSwitch req ref s
  | .pllUnlock p => Sys2Proof.Machine.execPllUnlock p s
  | .clkCntClr req => Sys2Proof.Machine.execClkCntClr req s
  | .snsVrCrossing n rising peak hold stamp => Sys2Proof.Machine.execSnsVrCrossing n rising peak hold stamp s
  | .snsHallTransition n rising hold stamp => Sys2Proof.Machine.execSnsHallTransition n rising hold stamp s
  | .snsOpenShort n short present => Sys2Proof.Machine.execSnsOpenShort n short present s
  | .snsCfgWrite req n flt data => Sys2Proof.Machine.execSnsCfgWrite req n flt data s
  | .snsCntClr req mask => Sys2Proof.Machine.execSnsCntClr req mask s
  | .supplyOc j present => Sys2Proof.Machine.execSupplyOc j present s
  | .trkPrimaryEdge k => Sys2Proof.Machine.execTrkPrimaryEdge k s
  | .synthToothDeadline k => Sys2Proof.Machine.execSynthToothDeadline k s
  | .pwidthDirection k width => Sys2Proof.Machine.execPwidthDirection k width s
  | .phaseEdge k => Sys2Proof.Machine.execPhaseEdge k s
  | .phaseWindowMiss k => Sys2Proof.Machine.execPhaseWindowMiss k s
  | .trkStall k => Sys2Proof.Machine.execTrkStall k s
  | .stopRecordWrite k => Sys2Proof.Machine.execStopRecordWrite k s
  | .trkEnable req k => Sys2Proof.Machine.execTrkEnable req k s
  | .trkDisable req k => Sys2Proof.Machine.execTrkDisable req k s
  | .trkCntClr req mask => Sys2Proof.Machine.execTrkCntClr req mask s
  | .toothRecord k => Sys2Proof.Machine.execToothRecord k s
  | .eventFreeze uid endOnly => Sys2Proof.Machine.execEventFreeze uid endOnly s
  | .prdLmapWrite req l data => Sys2Proof.Machine.execPrdLmapWrite req l data s
  | .prdTableWrite req k te idx data => Sys2Proof.Machine.execPrdTableWrite req k te idx data s
  | .clrTe req k => Sys2Proof.Machine.execClrTe req k s
  | .clrRip1 req k => Sys2Proof.Machine.execClrRip1 req k s
  | .clrRip0 req k => Sys2Proof.Machine.execClrRip0 req k s
  | .prdQueryStart req q k ang => Sys2Proof.Machine.execPrdQueryStart req q k ang s
  | .prdQueryDone q => Sys2Proof.Machine.execPrdQueryDone q s
  | .prdQueryRead req q => Sys2Proof.Machine.execPrdQueryRead req q s
  | .peSpareSwap l spare agree => Sys2Proof.Machine.execPeSpareSwap l spare agree s
  | .peBackgroundCheck agree => Sys2Proof.Machine.execPeBackgroundCheck agree s
  | .prdCntClr req data => Sys2Proof.Machine.execPrdCntClr req data s
  | .descWrite req bank idx word data => Sys2Proof.Machine.execDescWrite req bank idx word data s
  | .rangePrepDone k => Sys2Proof.Machine.execRangePrepDone k s
  | .schTrkEnable req k => Sys2Proof.Machine.execSchTrkEnable req k s
  | .schTrkDisable req k => Sys2Proof.Machine.execSchTrkDisable req k s
  | .schChenWrite req w data => Sys2Proof.Machine.execSchChenWrite req w data s
  | .rearm req k => Sys2Proof.Machine.execRearm req k s
  | .schCntClr req data => Sys2Proof.Machine.execSchCntClr req data s
  | .pressDecision k sp => Sys2Proof.Machine.execPressDecision k sp s
  | .pressPostWrite req k data => Sys2Proof.Machine.execPressPostWrite req k data s
  | .pressReset req k => Sys2Proof.Machine.execPressReset req k s
  | .prsCntClr req data => Sys2Proof.Machine.execPrsCntClr req data s
  | .commit t side rx seq handle vint rev pulses => Sys2Proof.Machine.execCommit t side rx seq handle vint rev pulses s
  | .amend t side ok seq handle aver pmask times => Sys2Proof.Machine.execAmend t side ok seq handle aver pmask times s
  | .cancel t side ok seq handle pmask => Sys2Proof.Machine.execCancel t side ok seq handle pmask s
  | .time t side ok stamp => Sys2Proof.Machine.execTime t side ok stamp s
  | .timeset t side ok seq stamp stepc dly => Sys2Proof.Machine.execTimeset t side ok seq stamp stepc dly s
  | .echoReq t side ok etag tt => Sys2Proof.Machine.execEchoReq t side ok etag tt s
  | .discover t side ok proto dside pos => Sys2Proof.Machine.execDiscover t side ok proto dside pos s
  | .regwr t side ok seq addr data => Sys2Proof.Machine.execRegwr t side ok seq addr data s
  | .regrd t side ok addr => Sys2Proof.Machine.execRegrd t side ok addr s
  | .prfset t side ok seq prf words => Sys2Proof.Machine.execPrfset t side ok seq prf words s
  | .pwr t side ok seq w1 w2 => Sys2Proof.Machine.execPwr t side ok seq w1 w2 s
  | .ctlReset t side ok seq beyond => Sys2Proof.Machine.execCtlReset t side ok seq beyond s
  | .ctlDsopen t side ok seq => Sys2Proof.Machine.execCtlDsopen t side ok seq s
  | .ctlDsclose t side ok seq => Sys2Proof.Machine.execCtlDsclose t side ok seq s
  | .ctlSwapDn t side ok seq => Sys2Proof.Machine.execCtlSwapDn t side ok seq s
  | .ctlSwapUp t side ok seq => Sys2Proof.Machine.execCtlSwapUp t side ok seq s
  | .ctlMirror t side ok seq on => Sys2Proof.Machine.execCtlMirror t side ok seq on s
  | .ack n p ok seq result pmask arr => Sys2Proof.Machine.execAck n p ok seq result pmask arr s
  | .echoRsp n p ok etag tt res rtt => Sys2Proof.Machine.execEchoRsp n p ok etag tt res rtt s
  | .done n p ok handle pidx out status start stop ipk i2t => Sys2Proof.Machine.execDone n p ok handle pidx out status start stop ipk i2t s
  | .status n p ok w1 w2 w3 => Sys2Proof.Machine.execStatus n p ok w1 w2 w3 s
  | .diag n p ok level out code data => Sys2Proof.Machine.execDiag n p ok level out code data s
  | .ident n p ok vendor type rev proto nout iv two slots serial fwdlat => Sys2Proof.Machine.execIdent n p ok vendor type rev proto nout iv two slots serial fwdlat s
  | .regdata n p ok result addr data => Sys2Proof.Machine.execRegdata n p ok result addr data s
  | .wave n p ok handle wseq kind out t0 samples => Sys2Proof.Machine.execWave n p ok handle wseq kind out t0 samples s
  | .ackTimeout n p seq => Sys2Proof.Machine.execAckTimeout n p seq s
  | .timePeriod n => Sys2Proof.Machine.execTimePeriod n s
  | .echoPeriod n p => Sys2Proof.Machine.execEchoPeriod n p s
  | .identTimeout n p => Sys2Proof.Machine.execIdentTimeout n p s
  | .discoverRetry n p => Sys2Proof.Machine.execDiscoverRetry n p s
  | .lockLost n => Sys2Proof.Machine.execLockLost n s
  | .statusTimeout n p => Sys2Proof.Machine.execStatusTimeout n p s
  | .tlkTpwrEn req m value => Sys2Proof.Machine.execTlkTpwrEn req m value s
  | .redisc req n => Sys2Proof.Machine.execRedisc req n s
  | .swdn req n p => Sys2Proof.Machine.execSwdn req n p s
  | .swup req n p => Sys2Proof.Machine.execSwup req n p s
  | .autoSwap n p ms => Sys2Proof.Machine.execAutoSwap n p ms s
  | .lswap n p up => Sys2Proof.Machine.execLswap n p up s
  | .workingLaneLoss n p up => Sys2Proof.Machine.execWorkingLaneLoss n p up s
  | .laneFail n p up => Sys2Proof.Machine.execLaneFail n p up s
  | .tlkCntClr req mask => Sys2Proof.Machine.execTlkCntClr req mask s
  | .tilDataRead req n => Sys2Proof.Machine.execTilDataRead req n s
  | .tilDataWrite req n data => Sys2Proof.Machine.execTilDataWrite req n data s
  | .tilTimeout n => Sys2Proof.Machine.execTilTimeout n s
  | .tileUpstreamLockLoss t side => Sys2Proof.Machine.execTileUpstreamLockLoss t side s
  | .tileLinkWdog t side => Sys2Proof.Machine.execTileLinkWdog t side s
  | .tilePowerOn t => Sys2Proof.Machine.execTilePowerOn t s
  | .dsLost t side => Sys2Proof.Machine.execDsLost t side s
  | .dsPres t side => Sys2Proof.Machine.execDsPres t side s
  | .waveDrop t side => Sys2Proof.Machine.execWaveDrop t side s
  | .tilePulseStart t side handle pidx => Sys2Proof.Machine.execTilePulseStart t side handle pidx s
  | .tilePhaseAdvance t out cur => Sys2Proof.Machine.execTilePhaseAdvance t out cur s
  | .tileChopSwitch t out cur => Sys2Proof.Machine.execTileChopSwitch t out cur s
  | .electricalEnd t out => Sys2Proof.Machine.execElectricalEnd t out s
  | .closingWindowEnd t out => Sys2Proof.Machine.execClosingWindowEnd t out s
  | .openOnCheck t out cur => Sys2Proof.Machine.execOpenOnCheck t out cur s
  | .overcurrentTrip t out cur => Sys2Proof.Machine.execOvercurrentTrip t out cur s
  | .boostSetWrite t data rail => Sys2Proof.Machine.execBoostSetWrite t data rail s
  | .boostCtlWrite t data => Sys2Proof.Machine.execBoostCtlWrite t data s
  | .boostFault t rail cause => Sys2Proof.Machine.execBoostFault t rail cause s
  | .boostNrdy t rail => Sys2Proof.Machine.execBoostNrdy t rail s
  | .cdtBoostEn req m value => Sys2Proof.Machine.execCdtBoostEn req m value s
  | .offtCommand ch => Sys2Proof.Machine.execOfftCommand ch s
  | .offtReq t mask => Sys2Proof.Machine.execOfftReq t mask s
  | .offstateTestStart t out => Sys2Proof.Machine.execOffstateTestStart t out s
  | .offstateTestEnd t out von voff vsup => Sys2Proof.Machine.execOffstateTestEnd t out von voff vsup s
  | .inhibitInput t => Sys2Proof.Machine.execInhibitInput t s
  | .inhRearm t => Sys2Proof.Machine.execInhRearm t s
  | .cdtRearm req m mask => Sys2Proof.Machine.execCdtRearm req m mask s
  | .closingDetect ch => Sys2Proof.Machine.execClosingDetect ch s
  | .cresReadyClear ch => Sys2Proof.Machine.execCresReadyClear ch s
  | .cresLoRead req ch => Sys2Proof.Machine.execCresLoRead req ch s
  | .thermalStep => Sys2Proof.Machine.execThermalStep s
  | .chforceOff req ch => Sys2Proof.Machine.execChforceOff req ch s
  | .chforceOn req ch prf => Sys2Proof.Machine.execChforceOn req ch prf s
  | .chforceRelease req ch => Sys2Proof.Machine.execChforceRelease req ch s
  | .cdtCntClr req => Sys2Proof.Machine.execCdtCntClr req s
  | .mirLaneLockLoss => Sys2Proof.Machine.execMirLaneLockLoss s
  | .mtimeTimeout => Sys2Proof.Machine.execMtimeTimeout s
  | .helloTimeout => Sys2Proof.Machine.execHelloTimeout s
  | .helloPeriod => Sys2Proof.Machine.execHelloPeriod s
  | .mtimePeriod => Sys2Proof.Machine.execMtimePeriod s
  | .mirEchoPeriod => Sys2Proof.Machine.execMirEchoPeriod s
  | .mirHello f => Sys2Proof.Machine.execMirHello f s
  | .mirMtime ok seq stamp => Sys2Proof.Machine.execMirMtime ok seq stamp s
  | .mirEchoReq ok seq etag tt => Sys2Proof.Machine.execMirEchoReq ok seq etag tt s
  | .mirEchoRsp ok seq etag tt rtt => Sys2Proof.Machine.execMirEchoRsp ok seq etag tt rtt s
  | .mirTooth ok seq f => Sys2Proof.Machine.execMirTooth ok seq f s
  | .mirDecide ok seq f => Sys2Proof.Machine.execMirDecide ok seq f s
  | .mirStrobe ok seq vint grp => Sys2Proof.Machine.execMirStrobe ok seq vint grp s
  | .mirDigest ok seq k vint cyc crc => Sys2Proof.Machine.execMirDigest ok seq k vint cyc crc s
  | .mirSnap ok seq k chunk nchunk cyc words => Sys2Proof.Machine.execMirSnap ok seq k chunk nchunk cyc words s
  | .mirTake ok seq mode tat => Sys2Proof.Machine.execMirTake ok seq mode tat s
  | .timeDiv => Sys2Proof.Machine.execTimeDiv s
  | .soloWaitExpiry => Sys2Proof.Machine.execSoloWaitExpiry s
  | .alignHold => Sys2Proof.Machine.execAlignHold s
  | .mirEnable req => Sys2Proof.Machine.execMirEnable req s
  | .mirDisable req => Sys2Proof.Machine.execMirDisable req s
  | .resync req => Sys2Proof.Machine.execResync req s
  | .mirTakeoverTake req => Sys2Proof.Machine.execMirTakeoverTake req s
  | .mirTakeoverGive req => Sys2Proof.Machine.execMirTakeoverGive req s
  | .takeoverAt => Sys2Proof.Machine.execTakeoverAt s
  | .mirCntClr req => Sys2Proof.Machine.execMirCntClr req s
  | .leaseGrant t => Sys2Proof.Machine.execLeaseGrant t s
  | .leaseLapse t => Sys2Proof.Machine.execLeaseLapse t s
  | .dupAtWrite t side data => Sys2Proof.Machine.execDupAtWrite t side data s
  | .yieldDue t => Sys2Proof.Machine.execYieldDue t s
  | .shadowUnmatched t side handle pidx => Sys2Proof.Machine.execShadowUnmatched t side handle pidx s
  | .tileDupcntClr t side => Sys2Proof.Machine.execTileDupcntClr t side s
  | .tileCntClr t side => Sys2Proof.Machine.execTileCntClr t side s
  | .sqDoorbell n value => Sys2Proof.Machine.execSqDoorbell n value s
  | .cqDoorbell n value => Sys2Proof.Machine.execCqDoorbell n value s
  | .streamRpDoorbell n value => Sys2Proof.Machine.execStreamRpDoorbell n value s
  | .sqEntryFetch n entry => Sys2Proof.Machine.execSqEntryFetch n entry s
  | .fetchRetry n => Sys2Proof.Machine.execFetchRetry n s
  | .nop h => Sys2Proof.Machine.execNop h s
  | .identify h => Sys2Proof.Machine.execIdentify h s
  | .regRd h off cnt => Sys2Proof.Machine.execRegRd h off cnt s
  | .regWr h off cnt data => Sys2Proof.Machine.execRegWr h off cnt data s
  | .regCork h off value => Sys2Proof.Machine.execRegCork h off value s
  | .descWr h bank idx cnt data => Sys2Proof.Machine.execDescWr h bank idx cnt data s
  | .descRd h bank idx cnt => Sys2Proof.Machine.execDescRd h bank idx cnt s
  | .strobe h grp => Sys2Proof.Machine.execStrobe h grp s
  | .imageLoad h image => Sys2Proof.Machine.execImageLoad h image s
  | .fwStage h off last piece => Sys2Proof.Machine.execFwStage h off last piece s
  | .logRd h idx cnt => Sys2Proof.Machine.execLogRd h idx cnt s
  | .demand h mach dem post tag => Sys2Proof.Machine.execDemand h mach dem post tag s
  | .predQ h k ang => Sys2Proof.Machine.execPredQ h k ang s
  | .tileRd h n p addr => Sys2Proof.Machine.execTileRd h n p addr s
  | .tileWr h n p addr data => Sys2Proof.Machine.execTileWr h n p addr data s
  | .memWr h off data => Sys2Proof.Machine.execMemWr h off data s
  | .memRd h off => Sys2Proof.Machine.execMemRd h off s
  | .acCtlHalt h cores => Sys2Proof.Machine.execAcCtlHalt h cores s
  | .acCtlStart h cores addr => Sys2Proof.Machine.execAcCtlStart h cores addr s
  | .acCtlReset h cores => Sys2Proof.Machine.execAcCtlReset h cores s
  | .createSq h sq base entries cq owner prio core win => Sys2Proof.Machine.execCreateSq h sq base entries cq owner prio core win s
  | .deleteSq h sq => Sys2Proof.Machine.execDeleteSq h sq s
  | .createCq h cq base entries vec cthr ctime => Sys2Proof.Machine.execCreateCq h cq base entries vec cthr ctime s
  | .deleteCq h cq => Sys2Proof.Machine.execDeleteCq h cq s
  | .bufPut h off len data => Sys2Proof.Machine.execBufPut h off len data s
  | .completionWrite cq => Sys2Proof.Machine.execCompletionWrite cq s
  | .cqCoalesceTimeout cq => Sys2Proof.Machine.execCqCoalesceTimeout cq s
  | .cqStall cq => Sys2Proof.Machine.execCqStall cq s
  | .cplTimeout who => Sys2Proof.Machine.execCplTimeout who s
  | .dmaErr who => Sys2Proof.Machine.execDmaErr who s
  | .streamFlush n => Sys2Proof.Machine.execStreamFlush n s
  | .streamEnable req n data => Sys2Proof.Machine.execStreamEnable req n data s
  | .hifEnable req => Sys2Proof.Machine.execHifEnable req s
  | .hifDisable req => Sys2Proof.Machine.execHifDisable req s
  | .functionLevelReset => Sys2Proof.Machine.execFunctionLevelReset s
  | .linkDown => Sys2Proof.Machine.execLinkDown s
  | .hifCntClr req => Sys2Proof.Machine.execHifCntClr req s
  | .canCommandFrame port fmt xtd id entry => Sys2Proof.Machine.execCanCommandFrame port fmt xtd id entry s
  | .canBusoff port => Sys2Proof.Machine.execCanBusoff port s
  | .canBusoffRecovery port => Sys2Proof.Machine.execCanBusoffRecovery port s
  | .canErrpass port present => Sys2Proof.Machine.execCanErrpass port present s
  | .canCntClr req port => Sys2Proof.Machine.execCanCntClr req port s
  | .qmgAlloc req => Sys2Proof.Machine.execQmgAlloc req s
  | .qmgFree req cask => Sys2Proof.Machine.execQmgFree req cask s
  | .qmgPush req queue cask => Sys2Proof.Machine.execQmgPush req queue cask s
  | .qmgPop req => Sys2Proof.Machine.execQmgPop req s
  | .qmgOwnselWrite req owner => Sys2Proof.Machine.execQmgOwnselWrite req owner s
  | .qmgCwinAccess req w wr data => Sys2Proof.Machine.execQmgCwinAccess req w wr data s
  | .qmgQcfgWrite req data => Sys2Proof.Machine.execQmgQcfgWrite req data s
  | .qmgReclaim req owner => Sys2Proof.Machine.execQmgReclaim req owner s
  | .qmgCntClr req => Sys2Proof.Machine.execQmgCntClr req s
  | .trkTlogClr req mask => Sys2Proof.Machine.execTrkTlogClr req mask s
  | .adcAngleTrigger n => Sys2Proof.Machine.execAdcAngleTrigger n s
  | .swtrig req m => Sys2Proof.Machine.execSwtrig req m s
  | .adcSequenceStart m => Sys2Proof.Machine.execAdcSequenceStart m s
  | .adcConversionDone m value => Sys2Proof.Machine.execAdcConversionDone m value s
  | .ainResRead req j => Sys2Proof.Machine.execAinResRead req j s
  | .adcCntClr req mask => Sys2Proof.Machine.execAdcCntClr req mask s
  | .encCountChange m ev => Sys2Proof.Machine.execEncCountChange m ev s
  | .ampErr m => Sys2Proof.Machine.execAmpErr m s
  | .encIndexEdge m => Sys2Proof.Machine.execEncIndexEdge m s
  | .wire m pair => Sys2Proof.Machine.execWire m pair s
  | .encLatch m sw => Sys2Proof.Machine.execEncLatch m sw s
  | .encPosRead req m => Sys2Proof.Machine.execEncPosRead req m s
  | .encLatCntRead req m => Sys2Proof.Machine.execEncLatCntRead req m s
  | .encCntClr req mask => Sys2Proof.Machine.execEncCntClr req mask s
  | .cmpEvent m mv => Sys2Proof.Machine.execCmpEvent m mv s
  | .cmpCntClr req mask => Sys2Proof.Machine.execCmpCntClr req mask s
  | .ertSwpulse req => Sys2Proof.Machine.execErtSwpulse req s
  | .angleMark n => Sys2Proof.Machine.execAngleMark n s
  | .tmrMatch n => Sys2Proof.Machine.execTmrMatch n s
  | .tmrCmpLoWrite req n data => Sys2Proof.Machine.execTmrCmpLoWrite req n data s
  | .tmrCmpHiWrite req n data => Sys2Proof.Machine.execTmrCmpHiWrite req n data s
  | .tmrCntHiWrite req n data => Sys2Proof.Machine.execTmrCntHiWrite req n data s
  | .tmrEnable req n data => Sys2Proof.Machine.execTmrEnable req n data s
  | .tmrDisable req n data => Sys2Proof.Machine.execTmrDisable req n data s
  | .go req => Sys2Proof.Machine.execGo req s
  | .stop req => Sys2Proof.Machine.execStop req s
  | .gpioEdge pin level => Sys2Proof.Machine.execGpioEdge pin level s
  | .tmrCntClr req => Sys2Proof.Machine.execTmrCntClr req s
  | .rakReq n => Sys2Proof.Machine.execRakReq n s
  | .rakTransferStart => Sys2Proof.Machine.execRakTransferStart s
  | .rakTransferEnd host fail => Sys2Proof.Machine.execRakTransferEnd host fail s
  | .rakDisable req n => Sys2Proof.Machine.execRakDisable req n s
  | .rakCntClr req mask => Sys2Proof.Machine.execRakCntClr req mask s
  | .icuCoalesceTimeout src => Sys2Proof.Machine.execIcuCoalesceTimeout src s
  | .icuPendWrite req w data => Sys2Proof.Machine.execIcuPendWrite req w data s
  | .icuSrcWrite req src data => Sys2Proof.Machine.execIcuSrcWrite req src data s
  | .icuClaim req tgt => Sys2Proof.Machine.execIcuClaim req tgt s
  | .icuComplete req tgt src => Sys2Proof.Machine.execIcuComplete req tgt src s
  | .aclrAll req => Sys2Proof.Machine.execAclrAll req s
  | .aclrOne req src => Sys2Proof.Machine.execAclrOne req src s
  | .icuCntClr req => Sys2Proof.Machine.execIcuCntClr req s
  | .vbatReset => Sys2Proof.Machine.execVbatReset s
  | .vbatRelease => Sys2Proof.Machine.execVbatRelease s
  | .resetN => Sys2Proof.Machine.execResetN s
  | .brownout => Sys2Proof.Machine.execBrownout s
  | .perstN => Sys2Proof.Machine.execPerstN s
  | .systemResetRelease tmode => Sys2Proof.Machine.execSystemResetRelease tmode s
  | .boot => Sys2Proof.Machine.execBoot s
  | .corerst req => Sys2Proof.Machine.execCorerst req s
  | .confirm req => Sys2Proof.Machine.execConfirm req s
  | .trialTimeout => Sys2Proof.Machine.execTrialTimeout s
  | .mgsBankSw req bank => Sys2Proof.Machine.execMgsBankSw req bank s
  | .kick req => Sys2Proof.Machine.execKick req s
  | .wdogExpiry => Sys2Proof.Machine.execWdogExpiry s
  | .tempSample temps => Sys2Proof.Machine.execTempSample temps s
  | .voltSample v mv => Sys2Proof.Machine.execVoltSample v mv s
  | .agingMeasure degr => Sys2Proof.Machine.execAgingMeasure degr s
  | .mramEccError sector ue => Sys2Proof.Machine.execMramEccError sector ue s
  | .caskEccError row ue word => Sys2Proof.Machine.execCaskEccError row ue word s
  | .spareSwapPe req unit => Sys2Proof.Machine.execSpareSwapPe req unit s
  | .spareSwapCaskRow req unit => Sys2Proof.Machine.execSpareSwapCaskRow req unit s
  | .spareSwapPll req unit => Sys2Proof.Machine.execSpareSwapPll req unit s
  | .spareSwapMramSector req unit => Sys2Proof.Machine.execSpareSwapMramSector req unit s
  | .pwrDomUp req dom => Sys2Proof.Machine.execPwrDomUp req dom s
  | .domRampDone dom up => Sys2Proof.Machine.execDomRampDone dom up s
  | .pwrDomDrain req dom => Sys2Proof.Machine.execPwrDomDrain req dom s
  | .drainEnd dom => Sys2Proof.Machine.execDrainEnd dom s
  | .pwrSleep req => Sys2Proof.Machine.execPwrSleep req s
  | .wakePin => Sys2Proof.Machine.execWakePin s
  | .wakeTimerExpiry => Sys2Proof.Machine.execWakeTimerExpiry s
  | .movementWatchSample w level => Sys2Proof.Machine.execMovementWatchSample w level s
  | .wake => Sys2Proof.Machine.execWake s
  | .celRstcauseClr req => Sys2Proof.Machine.execCelRstcauseClr req s
  | .celMwstatClr req => Sys2Proof.Machine.execCelMwstatClr req s
  | .pwrCntClr req => Sys2Proof.Machine.execPwrCntClr req s
  | .tapReset => Sys2Proof.Machine.execTapReset s
  | .idcode => Sys2Proof.Machine.execIdcode s
  | .samplePreload => Sys2Proof.Machine.execSamplePreload s
  | .extest => Sys2Proof.Machine.execExtest s
  | .clamp => Sys2Proof.Machine.execClamp s
  | .highz => Sys2Proof.Machine.execHighz s
  | .extestPulse => Sys2Proof.Machine.execExtestPulse s
  | .extestTrain => Sys2Proof.Machine.execExtestTrain s
  | .dtmcs => Sys2Proof.Machine.execDtmcs s
  | .dmi => Sys2Proof.Machine.execDmi s
  | .bypass => Sys2Proof.Machine.execBypass s
  | .dbgaccRead off => Sys2Proof.Machine.execDbgaccRead off s
  | .dbgaccWrite off data => Sys2Proof.Machine.execDbgaccWrite off data s
  | .dbgaccCorkedWrite off data => Sys2Proof.Machine.execDbgaccCorkedWrite off data s
  | .jlock req => Sys2Proof.Machine.execJlock req s
  | .dbgDirectOn req => Sys2Proof.Machine.execDbgDirectOn req s
  | .dbgDirectOff req => Sys2Proof.Machine.execDbgDirectOff req s
  | .prbsCtlWrite req data => Sys2Proof.Machine.execPrbsCtlWrite req data s
  | .dbgStatClr req => Sys2Proof.Machine.execDbgStatClr req s
  | .atbSelWrite req b data => Sys2Proof.Machine.execAtbSelWrite req b data s
  | .atbStatClr req => Sys2Proof.Machine.execAtbStatClr req s
  | .complementWordWrite req off data => Sys2Proof.Machine.execComplementWordWrite req off data s
  | .hop0LockGained n => Sys2Proof.Machine.execHop0LockGained n s
  | .tileUpstreamLockGained t side => Sys2Proof.Machine.execTileUpstreamLockGained t side s
  | .spareTrained n p up skew => Sys2Proof.Machine.execSpareTrained n p up skew s
  | .mirRxLaneLock lane locked => Sys2Proof.Machine.execMirRxLaneLock lane locked s
  | .pcieLinkUp speed width => Sys2Proof.Machine.execPcieLinkUp speed width s
  | .perstNRelease => Sys2Proof.Machine.execPerstNRelease s
  | .inhibitInputRelease t => Sys2Proof.Machine.execInhibitInputRelease t s
  | .encWireHealthy m pair => Sys2Proof.Machine.execEncWireHealthy m pair s
  | .encAmpRecovery m => Sys2Proof.Machine.execEncAmpRecovery m s
  | .pllLocked p => Sys2Proof.Machine.execPllLocked p s
  | .freshExpiry t side => Sys2Proof.Machine.execFreshExpiry t side s
  | .tileOvertemp t hot temp => Sys2Proof.Machine.execTileOvertemp t hot temp s

end Sys2Proof.Machine
end

