-- ==== Sys2Proof/Machine/Step.lean ====
section
/-! DEFINITION. One step: the command at the front of the queue, or on an empty queue one FAB cycle
(notes/assumptions/2.md). -/

namespace Sys2Proof.Machine

/-- The command at the front runs with the queue's rest; with no command waiting, one FAB cycle passes (R12, R448). -/
def step (s : State) : Host.Outcome State Fault Refusal :=
  match s.pending with
  | [] => s.runAny Dev.fabCycle
  | c :: r => exec c { s with pending := r }

/-- The command that a table word spells, put at the front of the queue. -/
def State.withFetchWord (s : State) (nbits w : Nat) : State :=
  match Sys2Proof.decodeTableWord nbits w with
  | some c => { s with pending := c :: s.pending }
  | none => s

end Sys2Proof.Machine
end

