-- ==== Sys2Proof/Safety.lean ====
section
/-! DEFINITION. What the statements about runs are said in: the invariants that every step keeps, the states in which a
command of a reset domain has its effect, and completion of a command. -/

namespace Sys2Proof.Machine

/-- The memories of the device are in canonical form. -/
def Dev.memWf (d : Dev) : Prop := Memory.wf d.mem = true ∧ Memory.wf d.cmem = true ∧ Memory.wf d.mram = true

/-- No cork stands open beyond its 64 FAB cycles (R59, R62). -/
def Dev.corksFresh (d : Dev) : Prop := ∀ c ∈ d.corks, d.fab ≤ c.opened + corkCycles

/-- The invariant of the machine: no open cork is older than R59 lets it be. -/
def State.Inv (s : State) : Prop := s.dev.corksFresh

/-- CORE reset is released (R482), in a state of the invariant. -/
def State.coreRuns (s : State) : Prop := s.dev.corksFresh ∧ s.dev.rst.core = false

/-- SYSTEM reset is released (R482), in a state of the invariant. -/
def State.sysRuns (s : State) : Prop := s.dev.corksFresh ∧ s.dev.rst.sys = false

/-- VBAT reset is released (R482), in a state of the invariant. -/
def State.celRuns (s : State) : Prop := s.dev.corksFresh ∧ s.dev.rst.vbat = false

/-- The device that an access meets: the Racking engine has moved its data up to now (R471). -/
def State.busDev (s : State) : Dev := s.dev.rakCatch

/-- SYSTEM reset is released, and CORE reset too unless the access is MG's or DBGACC's (R482, R492, R529), and no cork is overdue
in the device that the access meets. -/
def State.busRuns (s : State) (req : Nat) : Prop :=
  s.busDev.corksFresh ∧ s.dev.rst.sys = false ∧ (s.dev.rst.core = true → req = 7 ∨ req = 9)

/-- Command c completes in s: exec answers a next state, with the queue of waiting commands as it was and a device of
which p holds. -/
def Completes (c : Instr) (s : State) (p : Dev → Prop) : Prop :=
  ∃ t, exec c s = .next t ∧ t.pending = s.pending ∧ p t.dev

/-- The device a command's effect begins with. -/
def State.start (s : State) : Dev := s.dev

/-- Command c completes in s, and its next state is that of the operation f on the device; a cork whose time is over by then
is refused (R62). -/
def Runs (c : Instr) (s : State) (f : Dev → Dev) : Prop := exec c s = .next { s with dev := (f s.start).corkTick }

/-- n steps from s, where every one of them goes on. -/
def runSteps : Nat → State → Option State
  | 0, s => some s
  | n + 1, s => match step s with
    | .next t => runSteps n t
    | _ => none

/-- Every byte of the three memories reads as before. -/
def Dev.memSame (d e : Dev) : Prop :=
  (∀ a, memGet e.mem a = memGet d.mem a) ∧ (∀ a, memGet e.cmem a = memGet d.cmem a) ∧ ∀ a, memGet e.mram a = memGet d.mram a

/-- The device without its live registers. -/
def Dev.noRegs (d : Dev) : Dev := { d with reg := [], fltNew := [] }

/-- Nothing but live registers differs, and of those only the ones at the addresses l. -/
def Dev.onlyRegs (d e : Dev) (l : List Nat) : Prop := e.noRegs = d.noRegs ∧ ∀ a, a ∉ l → e.rd a = d.rd a

/-- The device without its live registers and without what reports touch: fault records and causes (R69-R75), interrupts
(R472-R476), log entries (R489), messages and stream words to the host (R375, R395). -/
def Dev.still (d : Dev) : Dev :=
  { d with reg := [], fltNew := [], kept := [], causes := [], icu := icu0, logq := [], out := [] }

/-- The last frame a side sends up is the ACK of SEQ seq with this RESULT (R244, R250). -/
def Dev.tileAcked (e : Dev) (t : Nat) (sd : Bool) (seq result : Nat) : Prop :=
  ∃ pm arr, (e.ts t sd).up.getLast? = some ⟨0x11, [seq % 256 * 2 ^ 16 + pm * 2 ^ 8 + result, arr], (e.ts t sd).pos⟩

/-- A side of a tile without what its lanes carry. -/
def TSide.noLanes (x : TSide) : TSide := { x with lane := side0.lane, dn := lane0, dsp := lane0, dueDn := 0 }

/-- Of every tile but t nothing changes but what its lanes carry. -/
def Dev.tilesElse (d e : Dev) (t : Nat) : Prop :=
  ∀ u, u ≠ t → { e.tle u with a := (e.tle u).a.noLanes, b := (e.tle u).b.noLanes } =
    { d.tle u with a := (d.tle u).a.noLanes, b := (d.tle u).b.noLanes }

/-- A reliable frame with SEQ seq reaches side sd of tile t, in a state that takes it (from `low` on), for the first time
(R234, R249, R268). -/
def Dev.tileTakes (d : Dev) (t : Nat) (sd : Bool) (seq low : Nat) : Prop :=
  d.passes t sd = true ∧ low ≤ (d.ts t sd).st ∧ (d.ts t sd).seqs.find? (fun e => e.1 == seq) = none

/-- A mirror frame with SEQ seq is taken: the mirror is enabled, and the frame is not the other lane's copy (R333, R334). -/
def Dev.mirTakes (d : Dev) (seq : Nat) : Prop := d.mirState ≠ 0 ∧ d.mir.seen.contains (seq % 256) = false

/-- The command of header h, opcode op and parameters ps is what its source x may start now, as its entry e, and no check of its
opcode, path or buffer stops it (R380, R381, R385, R390-R392). -/
def Dev.opTakes (d : Dev) (h : CmdHdr) (op : Nat) (buf : Bool) (ps : List Par) (x : Sq) (e : Ent) : Prop :=
  d.rakCatch.srcOf h.src = some x ∧ d.rakCatch.opFree h op x = true ∧ x.entryFor op h ps = some e ∧ cmdCheck h op buf = none

/-- Offsets of the value words of the corked registers (R59). -/
def corkedWords : List Nat :=
  [0xE2000, 0xE2008, 0x10C000, 0x10C008, 0x10C010, 0x1B0024, 0x10008, 0x20000, 0x1A0008, 0x1A0020, 0x1D0008]

/-- The requester of a command that is an access of the bus (R33, R530). -/
def busReq : Instr → Option Nat
  | .registerWrite q .. | .outspanAccess q .. | .narrowAccess q .. | .pwroffAccess q .. | .apertureAccess q .. | .lowWordRead q ..
  | .rwsShadowWrite q .. | .corkValueWrite q .. | .complementWordWrite q .. | .bitAliasWrite q .. | .fltClose q .. => some q.val
  | .dbgaccRead .. | .dbgaccWrite .. | .dbgaccCorkedWrite .. => some 9
  | _ => none

/-- Commands whose effect lies in the core domain (R43, R482): all but those of the tiles, the SYSTEM domain, the Cellar, the
resets, the test access port and the accesses of the bus. -/
def ofCore : Instr → Bool
  | .celIdataRead .. | .celIdataWrite .. | .celAccessDone .. | .fastCopyRefresh .. | .slowStart .. | .slowStop ..
  | .refLost .. | .refGood .. | .relockComplete .. | .holdoffExpiry .. | .clkRefSwitch .. | .pllUnlock .. | .clkCntClr ..
  | .commit .. | .amend .. | .cancel .. | .time .. | .timeset .. | .echoReq .. | .discover .. | .regwr .. | .regrd ..
  | .prfset .. | .pwr .. | .ctlReset .. | .ctlDsopen .. | .ctlDsclose .. | .ctlSwapDn .. | .ctlSwapUp .. | .ctlMirror ..
  | .tileUpstreamLockLoss .. | .tileLinkWdog .. | .tilePowerOn .. | .dsLost .. | .dsPres .. | .waveDrop ..
  | .registerWrite .. | .outspanAccess .. | .narrowAccess .. | .pwroffAccess .. | .apertureAccess .. | .lowWordRead ..
  | .rwsShadowWrite .. | .corkValueWrite .. | .complementWordWrite .. | .bitAliasWrite .. | .fltClose .. | .dbgaccRead ..
  | .dbgaccWrite .. | .dbgaccCorkedWrite .. | .stopRecordWrite ..
  | .tilePulseStart .. | .tilePhaseAdvance .. | .tileChopSwitch .. | .electricalEnd .. | .closingWindowEnd ..
  | .openOnCheck .. | .overcurrentTrip .. | .boostSetWrite .. | .boostCtlWrite .. | .boostFault .. | .boostNrdy ..
  | .offtReq .. | .offstateTestStart .. | .offstateTestEnd .. | .inhibitInput .. | .inhRearm .. | .leaseGrant ..
  | .leaseLapse .. | .dupAtWrite .. | .yieldDue .. | .shadowUnmatched .. | .tileDupcntClr .. | .tileCntClr ..
  | .cmpEvent .. | .vbatReset .. | .vbatRelease .. | .resetN .. | .brownout .. | .perstN .. | .systemResetRelease ..
  | .boot .. | .corerst .. | .confirm .. | .trialTimeout .. | .mgsBankSw .. | .kick .. | .wdogExpiry .. | .tempSample ..
  | .voltSample .. | .agingMeasure .. | .mramEccError .. | .caskEccError .. | .spareSwapPe .. | .spareSwapCaskRow ..
  | .spareSwapPll .. | .spareSwapMramSector .. | .pwrDomUp .. | .domRampDone .. | .pwrDomDrain .. | .drainEnd ..
  | .pwrSleep .. | .wakePin .. | .wakeTimerExpiry .. | .movementWatchSample .. | .wake .. | .celRstcauseClr ..
  | .celMwstatClr .. | .pwrCntClr .. | .tapReset .. | .idcode .. | .samplePreload .. | .extest .. | .clamp .. | .highz ..
  | .extestPulse .. | .extestTrain .. | .dtmcs .. | .dmi .. | .bypass .. | .jlock .. | .dbgDirectOn .. | .dbgDirectOff ..
  | .prbsCtlWrite .. | .dbgStatClr .. | .atbSelWrite .. | .atbStatClr .. | .tileUpstreamLockGained .. | .perstNRelease ..
  | .inhibitInputRelease .. | .pllLocked .. | .freshExpiry .. | .tileOvertemp .. => false
  | _ => true

end Sys2Proof.Machine
end

