-- ==== Sys2Proof/Certificates/Slice0/Obligations.lean ====
section
/-! DEFINITION. The statements for the provers. -/

open Sys2Proof Sys2Proof.Machine

/-- With a command at the front of the queue, a step is exec of it on the state with the queue's rest; with no command
waiting it lets one FAB cycle pass (the model's choice, log entry 2). -/
def Obligations.step_runs_front_command : Prop :=
  (∀ (s : State) (c : Instr) (r : List Instr), s.pending = c :: r → step s = exec c { s with pending := r })
  ∧ ∀ s : State, s.pending = [] → step s = .next { s with dev := s.start.fabCycle.corkTick }

/-- For every command and every state, exec answers a next state (no fault, no refusal) whose queue of waiting commands is
the one it had. -/
def Obligations.every_command_completes : Prop :=
  ∀ (c : Instr) (s : State), ∃ t, exec c s = .next t ∧ t.pending = s.pending

/-- From every state, as many steps as commands wait all go on and leave an empty queue: no command stops the machine,
none is skipped, none is added. -/
def Obligations.queue_drains_in_order : Prop :=
  ∀ s : State, ∃ t, runSteps s.pending.length s = some t ∧ t.pending = []

/-- At reset no cork is open and no command waits; the memories list nothing (log entries 1 and 3 name what the model
chose). -/
def Obligations.reset_meets_invariant : Prop :=
  State.reset.Inv ∧ State.reset.dev.memWf ∧ State.reset.pending = []

/-- After every step, whatever the command, every open cork was opened at most 64 FAB cycles ago: a complement can only
ever meet a cork that R59 still allows (R59, R62). -/
def Obligations.step_keeps_corks_fresh : Prop :=
  ∀ s t : State, s.Inv → step s = .next t → t.Inv

/-- While CORE reset is asserted, a command whose effect lies in the core domain leaves the device as it is (R482: the
domain's registers are held at reset), and so does an access of any requester but MG (7) and the access of DBGACC (9),
which reach the other domains throughout (R492, R529). Said of states in which no cork is overdue (R62). -/
def Obligations.core_reset_silences_core_commands : Prop :=
  (∀ (s : State) (c : Instr), s.dev.corksFresh → s.dev.rst.core = true → ofCore c = true → exec c s = .next { s with dev := s.start })
  ∧ ∀ (s : State) (c : Instr) (q : Nat), s.dev.corksFresh → s.dev.rst.core = true → busReq c = some q → q ≠ 7 → q ≠ 9 →
    exec c s = .next { s with dev := s.start }

/-- For every state in which the access reaches the bus (State.busRuns: CORE reset released, or the access MG's or
DBGACC's), and said of the device it meets (State.busDev: the Racking engine has moved its data up to now). A 4-byte
write of SYS_UPD_CFG sets TIMEOUT and changes no other register; an aligned 4-byte or 8-byte write of a register whose
power domain is on writes it as its register rules say (Dev.regWrite), the low word first, and an aligned 32-bit or
64-bit read reads it (Dev.regRead), the low word first (R35). An access of a memory goes piece by piece
(Dev.memPieces, Dev.memGather; R36): in the core memories an aligned 4-byte one stores or returns the word and changes
no other byte. While the PCIe domain is on, an access outside every span counts OUTSPAN (R34), and a misaligned access
or a write of fewer than 4 bytes in a register window counts NARROW (R35); either reads zero. An access of a register
whose power domain is off counts PWROFF where the PCIe domain is on, and reads zero (R37). A register of a domain in
reset reads its reset value and takes no write (R482). -/
def Obligations.bus_accesses_take_effect : Prop :=
  (∀ (s : State) (req : Fin 10) (data : Nat), s.busRuns req → s.busDev.rst.core = false →
    Completes (.registerWrite req 0x48 4 data) s fun e =>
      e.get F.SYS_UPD_CFG_TIMEOUT = data % 2 ^ 16 ∧ Dev.onlyRegs s.busDev e [0x48])
  ∧ (∀ (s : State) (req : Fin 10) (off data c : Nat), s.busRuns req → placeOf (off % 2 ^ 25) = .reg c → s.busDev.inReset c = false → off % 4 = 0 → s.busDev.isOff c = false →
    Runs (.registerWrite req off 4 data) s fun d => d.rakCatch.regWrite req c data)
  ∧ (∀ (s : State) (req : Fin 10) (off data c b : Nat), s.busRuns req → placeOf (off % 2 ^ 25) = .reg c → s.busDev.inReset c = false → (s.busDev.regWrite req c (data % 2 ^ 32)).inReset b = false → placeOf (off % 2 ^ 25 + 4) = .reg b → off % 8 = 0 →
      s.busDev.isOff c = false →
    Runs (.registerWrite req off 8 data) s fun d => (d.rakCatch.regWrite req c (data % 2 ^ 32)).regWrite req b (data / 2 ^ 32))
  ∧ (∀ (s : State) (req : Fin 10) (off c : Nat), s.busRuns req → placeOf (off % 2 ^ 25) = .reg c → s.busDev.inReset c = false → off % 4 = 0 → s.busDev.isOff c = false →
    Runs (.lowWordRead req ⟨off, false⟩) s fun d => d.rakCatch.regRead req c)
  ∧ (∀ (s : State) (req : Fin 10) (off c b : Nat), s.busRuns req → placeOf (off % 2 ^ 25) = .reg c → s.busDev.inReset c = false → (s.busDev.regRead req c).inReset b = false → placeOf (off % 2 ^ 25 + 4) = .reg b → off % 8 = 0 →
      s.busDev.isOff c = false →
    Runs (.lowWordRead req ⟨off, true⟩) s fun d =>
      let lo := d.rakCatch.regRead req c
      let hi := lo.regRead req b
      hi.ret64 req (lo.bus.data % 2 ^ 32 + 2 ^ 32 * (hi.bus.data % 2 ^ 32)))
  ∧ (∀ (s : State) (req : Fin 10), s.busRuns req → s.busDev.rst.core = false →
    Completes (.lowWordRead req ⟨0x48, false⟩) s fun e =>
      e.bus = ⟨req, (s.busDev.rd 0x48).toNat⟩ ∧ { e with bus := s.busDev.bus, fltNew := s.busDev.fltNew } = s.busDev)
  ∧ (∀ (s : State) (req : Fin 10) (off size data a : Nat), s.busRuns req → placeOf (off % 2 ^ 25) = .mem a → s.busDev.rst.core = false → sizeOk size = true →
    Runs (.apertureAccess req off size true data) s fun d => d.rakCatch.memPieces 8 a size data)
  ∧ (∀ (s : State) (req : Fin 10) (off size data a : Nat), s.busRuns req → placeOf (off % 2 ^ 25) = .mem a → s.busDev.rst.core = false → sizeOk size = true →
    Runs (.apertureAccess req off size false data) s fun d => (d.rakCatch.memGather 8 a size).1.ret64 req (d.rakCatch.memGather 8 a size).2)
  ∧ (∀ (s : State) (req : Fin 10) (a data : Nat), s.busRuns req → s.busDev.rst.core = false → 0x1000000 ≤ a → a < 0x1200000 → a % 4 = 0 →
    Completes (.apertureAccess req a 4 true data) s fun e =>
      memRead e.mem a 4 = data % 2 ^ 32 ∧ (∀ x, x < a ∨ a + 4 ≤ x → memGet e.mem x = memGet s.busDev.mem x)
        ∧ { e with mem := s.busDev.mem, fltNew := s.busDev.fltNew } = s.busDev)
  ∧ (∀ (s : State) (req : Fin 10) (a data : Nat), s.busRuns req → s.busDev.rst.core = false → 0x1000000 ≤ a → a < 0x1200000 → a % 4 = 0 →
    Completes (.apertureAccess req a 4 false data) s fun e =>
      e.bus = ⟨req, memRead s.busDev.mem a 4 % 2 ^ 64⟩ ∧ { e with bus := s.busDev.bus, fltNew := s.busDev.fltNew } = s.busDev)
  ∧ (∀ (s : State) (req : Fin 10) (off : Nat) (wr : Bool), s.busRuns req → placeOf (off % 2 ^ 25) = .out → s.busDev.pcieOn = true → s.busDev.rst.core = false → s.busDev.rst.perst = false →
    Completes (.outspanAccess req off wr) s fun e =>
      e.get F.HIF_CNT0_OUTSPAN = min (s.busDev.get F.HIF_CNT0_OUTSPAN + 1) 255 ∧ e.bus = (if wr then s.busDev.bus else ⟨req, 0⟩)
        ∧ (∀ a, a ≠ R.HIF_CNT0 → e.rd a = s.busDev.rd a) ∧ { e with bus := s.busDev.bus, reg := s.busDev.reg, fltNew := s.busDev.fltNew } = s.busDev)
  ∧ (∀ (s : State) (req : Fin 10) (off size : Nat) (wr : Bool), s.busRuns req → inWindow off = true → sizeOk size = true →
      (off % size ≠ 0 ∨ (wr = true ∧ size < 4)) → s.busDev.pcieOn = true → s.busDev.rst.core = false → s.busDev.rst.perst = false →
    Completes (.narrowAccess req off size wr) s fun e =>
      e.get F.HIF_CNT0_NARROW = min (s.busDev.get F.HIF_CNT0_NARROW + 1) 255 ∧ e.bus = (if wr then s.busDev.bus else ⟨req, 0⟩)
        ∧ (∀ a, a ≠ R.HIF_CNT0 → e.rd a = s.busDev.rd a) ∧ { e with bus := s.busDev.bus, reg := s.busDev.reg, fltNew := s.busDev.fltNew } = s.busDev)
  ∧ (∀ (s : State) (req : Fin 10) (off data c : Nat), s.busRuns req → placeOf (off % 2 ^ 25) = .reg c → s.busDev.inReset c = true → off % 4 = 0 →
      s.busDev.isOff c = false → Runs (.registerWrite req off 4 data) s fun d => d.rakCatch)
  ∧ (∀ (s : State) (req : Fin 10) (off c : Nat), s.busRuns req → placeOf (off % 2 ^ 25) = .reg c → s.busDev.inReset c = true → off % 4 = 0 →
      s.busDev.isOff c = false → Runs (.lowWordRead req ⟨off, false⟩) s fun d => d.rakCatch.ret req (regReset c).toNat)
  ∧ ∀ (s : State) (req : Fin 10) (off c : Nat) (wr : Bool), s.busRuns req → placeOf (off % 2 ^ 25) = .reg c → off % 4 = 0 → s.busDev.isOff c = true →
    Completes (.pwroffAccess req off wr) s fun e =>
      e.get F.HIF_CNT0_PWROFF = (if s.busDev.pcieOn && !s.busDev.rst.core && !s.busDev.rst.perst then min (s.busDev.get F.HIF_CNT0_PWROFF + 1) 255 else s.busDev.get F.HIF_CNT0_PWROFF)
        ∧ e.bus = (if wr then s.busDev.bus else ⟨req, 0⟩) ∧ (∀ a, a ≠ R.HIF_CNT0 → e.rd a = s.busDev.rd a)
        ∧ { e with bus := s.busDev.bus, reg := s.busDev.reg, fltNew := s.busDev.fltNew } = s.busDev

/-- A write of a register goes by its register rules (Dev.regWrite); a write of TRKk_GAP (0x60010 + 0x1000 k) out of
direct-debug mode, its group not pending, changes its shadow copy and nothing else (R55). A strobe whose groups are
none of them pending takes them with the next vintage (Dev.strobeAs, R50, R51); one of which some group is pending
counts REFUSED and does nothing else (R50); in a device that does not follow. A pending tracker swaps when its last
record has reached the boundary (R52), or, where it is still pending when the timeout has passed, at the timeout,
which is counted and raised (R54). SYS_UPD_STAT clears. Said of states in which no cork is overdue (R62) and the reset
of the command's domain (CORE) is released. -/
def Obligations.strobes_and_swaps : Prop :=
  (∀ (s : State) (req : Fin 10) (k : Fin 16) (data : Nat), s.busRuns req → s.busDev.rst.core = false → s.busDev.rwsBusy (0x60010 + 0x1000 * k) = false → s.busDev.direct = false →
    Completes (.rwsShadowWrite req (0x60010 + 0x1000 * k) data) s fun e =>
      e.rdS (0x60010 + 0x1000 * k) = mix (s.busDev.rdS (0x60010 + 0x1000 * k)) (BitVec.ofNat 32 (data % 2 ^ 32)) 0xFFFFFF
        ∧ { e with shd := s.busDev.shd, fltNew := s.busDev.fltNew } = s.busDev)
  ∧ (∀ (s : State) (req : Fin 10) (off data c : Nat), s.busRuns req → placeOf (off % 2 ^ 25) = .reg c → s.busDev.inReset c = false → off % 4 = 0 → s.busDev.isOff c = false →
    Runs (.rwsShadowWrite req off data) s fun d => d.rakCatch.regWrite req c data)
  ∧ (∀ (s : State) (req : Fin 10) (grp : Nat), s.coreRuns → grp % 256 ≠ 0 → s.dev.following = false → s.dev.strobeBusy (grp % 256) = false →
    Runs (.sysUpdStrobe req grp) s fun d => d.strobeAs (grp % 256) d.newVint)
  ∧ (∀ (s : State) (req : Fin 10) (grp : Nat), s.coreRuns → grp % 256 ≠ 0 → s.dev.following = false → s.dev.strobeBusy (grp % 256) = true →
    Runs (.sysUpdStrobe req grp) s fun d => d.incSat F.SYS_UPD_STAT_REFUSED)
  ∧ (∀ (s : State) (k : Fin 16) (p : PendSwap), s.coreRuns → (s.dev.tk k).pend = some p →
      (if p.rev then (s.dev.tk k).lin ≤ p.bound else p.bound ≤ (s.dev.tk k).lin) →
    Runs (.trackerSwap k) s fun d => (d.outgoing k (d.tk k).lin (d.tk k).rev).trkSwap k p.vint p.bound p.rev)
  ∧ (∀ (s : State) (k : Fin 16) (q p : PendSwap), s.coreRuns → (s.dev.tk k).pend = some q → ((s.dev.until (s.dev.updEnd q)).tk k).pend = some p →
    Runs (.updTimeout k) s fun d =>
      let x := d.until (d.updEnd q)
      ((x.incSat F.SYS_UPD_STAT_TIMEOUTS).raise 0 0 k 1).trkSwap k p.vint (x.angNow k) p.rev)
  ∧ ∀ (s : State) (req : Fin 10), s.coreRuns →
    Completes (.sysUpdStatClr req) s fun e => e.rd R.SYS_UPD_STAT = 0 ∧ Dev.onlyRegs s.dev e [R.SYS_UPD_STAT]

/-- For the value words listed in corkedWords. A value word written while no other requester's cork is open on the
register opens a cork of that requester with that value, in place of one of its own (R59, R61); while another
requester's is open, the cork is refused with reason 4 (R62). A complement word from the requester of the open cork
that is the bitwise inverse of its value ends the cork, and the register takes its effect (R59; a complement in the
FAB cycle of the value write stands in the next one, the model's choice, log entry 102); one that is not the inverse
ends the cork in a refusal with reason 1, one from another requester is refused with reason 5, one with no cork open
with reason 3 (R62). CORK_TIMEOUT lets the FAB cycles of the cork run out. A word of the bit window writes its bit
with the behaviour of its field (Dev.bitWrite, R64); for an inhibit-mask bit that bit alone. Said of states in which
no cork is overdue (R62) and the reset of the command's domain (CORE) is released. -/
def Obligations.corks_open_and_take : Prop :=
  (∀ (s : State) (req : Fin 10) (a data : Nat), s.busRuns req → a ∈ corkedWords → s.busDev.inReset a = false → (∀ c, s.busDev.corkAt a = some c → c.req = req) →
    Completes (.corkValueWrite req a data) s fun e =>
      e.corkAt a = some ⟨a, req, data % 2 ^ 32, s.busDev.fab⟩ ∧ { e with corks := s.busDev.corks, fltNew := s.busDev.fltNew } = s.busDev)
  ∧ (∀ (s : State) (req : Fin 10) (a b data : Nat) (c : Cork), s.busRuns req → a ∈ corkedWords → s.busDev.inReset a = false → corkBlk a = some b → s.busDev.corkAt a = some c → c.req ≠ req →
    Runs (.corkValueWrite req a data) s fun d => d.rakCatch.corkRefuse b a req 4)
  ∧ (∀ (s : State) (req : Fin 10) (a data : Nat) (c : Cork), s.busRuns req → a ∈ corkedWords → s.busDev.inReset a = false → s.busDev.corkAt a = some c → c.opened ≠ s.busDev.fab → c.req = req →
      data % 2 ^ 32 + c.value = 2 ^ 32 - 1 →
    Runs (.complementWordWrite req (a + 4) data) s fun d => (d.rakCatch.corkEnd a).corkTake a c.value)
  ∧ (∀ (s : State) (req : Fin 10) (a data : Nat) (c : Cork), s.busRuns req → a ∈ corkedWords → s.busDev.inReset a = false → s.busDev.corkAt a = some c → c.opened = s.busDev.fab →
      s.busDev.fabCycle.corkAt a = some c → c.req = req → data % 2 ^ 32 + c.value = 2 ^ 32 - 1 →
    Runs (.complementWordWrite req (a + 4) data) s fun d => (d.rakCatch.fabCycle.corkEnd a).corkTake a c.value)
  ∧ (∀ (s : State) (req : Fin 10) (a b data : Nat) (c : Cork), s.busRuns req → a ∈ corkedWords → s.busDev.inReset a = false → corkBlk a = some b → s.busDev.corkAt a = some c →
      c.opened ≠ s.busDev.fab → c.req = req → data % 2 ^ 32 + c.value ≠ 2 ^ 32 - 1 →
    Runs (.complementWordWrite req (a + 4) data) s fun d => (d.rakCatch.corkEnd a).corkRefuse b a req 1)
  ∧ (∀ (s : State) (req : Fin 10) (a b data : Nat) (c : Cork), s.busRuns req → a ∈ corkedWords → s.busDev.inReset a = false → corkBlk a = some b → s.busDev.corkAt a = some c →
      c.opened ≠ s.busDev.fab → c.req ≠ req →
    Runs (.complementWordWrite req (a + 4) data) s fun d => d.rakCatch.corkRefuse b a req 5)
  ∧ (∀ (s : State) (req : Fin 10) (a b data : Nat), s.busRuns req → a ∈ corkedWords → s.busDev.inReset a = false → corkBlk a = some b → s.busDev.corkAt a = none →
    Runs (.complementWordWrite req (a + 4) data) s fun d => d.rakCatch.corkRefuse b a req 3)
  ∧ (∀ (s : State) (a : Nat) (c : Cork), s.coreRuns → a ∈ corkedWords → s.dev.corkAt a = some c →
    Runs (.corkTimeout a) s fun d => d.until (c.opened + corkCycles + 1))
  ∧ (∀ (s : State) (req : Fin 10) (n : Fin 64) (b : Bool), s.busRuns req → s.busDev.rst.core = false →
    Completes (.bitAliasWrite req (0x1E0800 + 4 * n) (b2n b)) s fun e =>
      e.abit 0x10C018 n = b ∧ (∀ m, m < 64 → m ≠ n.val → e.abit 0x10C018 m = s.busDev.abit 0x10C018 m) ∧ Dev.onlyRegs s.busDev e [0x10C018, 0x10C01C])
  ∧ ∀ (s : State) (req : Fin 10) (off o data : Nat), s.busRuns req → placeOf (off % 2 ^ 25) = .bitWord o → s.busDev.rst.core = false → off % 4 = 0 →
    Runs (.bitAliasWrite req off data) s fun d => d.rakCatch.bitWrite o (bitOf data 0)

/-- While BUSY is clear, an access to CEL_IDATA sets BUSY, clears RDY and is held as the access under way, and a read
returns the word last read (R66); a read while BUSY is set returns that word too. While SLOW runs, the access is done
at CEL_ACCESS_DONE (a write of Cellar word 0x10 stores the word) and the copy is refreshed (R66, R68). SLOW starting
and stopping sets and clears SLOWOK and ends and begins the cause that it has stopped (R535). A FLT_CLOSE of a block
with causes of its own, powered, and with no cause present, leaves its record closed, with no ALSO bit and COUNT 0
(R74); with any causes it runs as Dev.fltClose says. Said of states in which no cork is overdue (R62) and the reset of
the command's domain (VBAT) is released. -/
def Obligations.cellar_access : Prop :=
  (∀ (s : State) (req : Fin 10), s.celRuns → s.dev.flag F.CEL_IADDR_BUSY = false →
    Completes (.celIdataRead req) s fun e =>
      e.flag F.CEL_IADDR_BUSY = true ∧ e.flag F.CEL_IADDR_RDY = false ∧ e.clr.ind = some .read
        ∧ e.bus = ⟨req, s.dev.clr.lastRead.toNat % 2 ^ 32⟩ ∧ Dev.memSame s.dev e ∧ e.cel = s.dev.cel)
  ∧ (∀ (s : State) (req : Fin 10) (data : Nat), s.celRuns → s.dev.flag F.CEL_IADDR_BUSY = false →
    Completes (.celIdataWrite req data) s fun e =>
      e.flag F.CEL_IADDR_BUSY = true ∧ e.flag F.CEL_IADDR_RDY = false ∧ e.clr.ind = some (.write (BitVec.ofNat 32 data))
        ∧ Dev.memSame s.dev e ∧ e.cel = s.dev.cel)
  ∧ (∀ (s : State), s.celRuns → s.dev.cflag F.CEL_STAT_SLOWOK = true → Runs .celAccessDone s fun d => d.celDone)
  ∧ (∀ (s : State), s.celRuns → s.dev.cflag F.CEL_STAT_SLOWOK = true → Runs .fastCopyRefresh s fun d => d.fastCopy)
  ∧ (∀ (s : State), s.celRuns →
    Completes .slowStart s fun e => e.cflag F.CEL_STAT_SLOWOK = true ∧ e.hasCause 3 1 0 = false ∧ e.reg = s.dev.reg ∧ Dev.memSame s.dev e)
  ∧ (∀ (s : State), s.celRuns →
    Completes .slowStop s fun e => e.cflag F.CEL_STAT_SLOWOK = false ∧ e.hasCause 3 1 0 = true ∧ Dev.memSame s.dev e)
  ∧ (∀ (s : State) (w : Word), s.celRuns → s.dev.cflag F.CEL_STAT_SLOWOK = true → s.dev.clr.ind = some (.write w) →
      s.dev.get F.CEL_IADDR_ADDR = 0x10 → Completes .celAccessDone s fun e => e.crd 0x10 = w)
  ∧ (∀ (s : State) (req : Fin 10) (b : Fin 25), s.busRuns req → s.busDev.isOff (fltBase b + 0x18) = false → s.busDev.inReset (fltBase b + 0x18) = false → fltNone b = false → (∀ c ∈ s.busDev.causes, c.blk ≠ b) →
    Completes (.fltClose req b) s fun e => e.flag (F.FLT_OPEN b) = false ∧ e.rd (R.FLT_ALSO b) = 0 ∧ e.get (F.FLT_COUNT b) = 0
        ∧ e.still = s.busDev.still)
  ∧ (∀ (s : State) (req : Fin 10) (b : Fin 25), s.busRuns req → s.busDev.isOff (fltBase b + 0x18) = false → s.busDev.inReset (fltBase b + 0x18) = false → fltNone b = false →
    Runs (.fltClose req b) s fun d => d.rakCatch.fltClose b)
  ∧ ∀ (s : State) (req : Fin 10), s.celRuns → Runs (.celIdataRead req) s fun d => d.celRead req

/-- In SYSTEM reset a loss or a return of a reference changes its good bit and nothing else; out of it the selector acts
(Dev.refLost, Dev.refBack, R28); a relock runs as Dev.relocked says and in state 4 leads to state 0, and the hold-off
in state 3, when it is over, to state 4 (R28); a switch by command, an unlock of a PLL and the clearing of the
counters run their operations; PLL_LOCKED shows LOCK and ends the PLL's cause, where no SYSTEM reset waits for it.
Said of states in which no cork is overdue (R62) and the reset of the command's domain (SYSTEM) is released. -/
def Obligations.clock_references : Prop :=
  (∀ (s : State), s.dev.corksFresh → s.dev.rst.sys = true → Completes (.refLost false) s fun e => e.flag F.CLK_STAT_XGOOD = false ∧ Dev.onlyRegs s.dev e [R.CLK_STAT])
  ∧ (∀ (s : State) (r : Bool), s.sysRuns → Runs (.refLost r) s fun d => d.refLost r)
  ∧ (∀ (s : State), s.dev.corksFresh → s.dev.rst.sys = true → Completes (.refGood true) s fun e => e.flag F.CLK_STAT_PGOOD = true ∧ Dev.onlyRegs s.dev e [R.CLK_STAT])
  ∧ (∀ (s : State) (r : Bool), s.sysRuns → Runs (.refGood r) s fun d => d.refBack r)
  ∧ (∀ (s : State), s.sysRuns → s.dev.clkState = 4 →
    Completes .relockComplete s fun e => e.clkState = 0 ∧ e.clk.hold = false ∧ e.hasCause 1 0 0 = false ∧ Dev.memSame s.dev e)
  ∧ (∀ (s : State) (r : Bool), s.dev.corksFresh → s.dev.rst.sys = true →
    Runs (.refLost r) s fun d => d.putB (if r then F.CLK_STAT_PGOOD else F.CLK_STAT_XGOOD) false)
  ∧ (∀ (s : State) (r : Bool), s.dev.corksFresh → s.dev.rst.sys = true →
    Runs (.refGood r) s fun d => d.putB (if r then F.CLK_STAT_PGOOD else F.CLK_STAT_XGOOD) true)
  ∧ (∀ (s : State), s.sysRuns → s.dev.clkState = 3 → Runs .holdoffExpiry s fun d => (d.until d.holdoffEnd).clkSwitch 4)
  ∧ (∀ (s : State) (req : Fin 10) (ref : Fin 4), s.sysRuns → Runs (.clkRefSwitch req ref) s fun d => d.refSwitch ref)
  ∧ (∀ (s : State) (p : Fin 2), s.sysRuns → Runs (.pllUnlock p) s fun d => d.pllUnlock p)
  ∧ (∀ (s : State), s.sysRuns → Runs .relockComplete s Dev.relocked)
  ∧ (∀ (s : State) (p : Fin 2), s.dev.corksFresh → s.dev.mgs.pllHold = false →
    Completes (.pllLocked p) s fun e => e.flag (F.CLK_PLL_STAT_LOCK p) = true ∧ e.hasCause 1 2 p = false ∧ Dev.memSame s.dev e)
  ∧ ∀ (s : State) (req : Fin 10), s.sysRuns → Runs (.clkCntClr req) s fun d => d.clkCntClr

/-- A transition that holds for FLT moves LEVEL of an input whose EN is clear and nothing of the trackers; one that does
not hold for FLT is discarded and counts GLITCH where EN is set (R78), here for inputs whose configuration in force
has these values and whose time has come; in every other case the transition runs as Dev.snsTransition says. An open
or shorted sensor shows its bit of SNSn_STAT and its cause, the open bit for a VR input only (R81); a write of
SNSn_FLT while EN is clear is in force at once (R537), any write of SNSn_CFG or SNSn_FLT runs as Dev.snsCfgWrite says;
the glitch counters of the mask clear and no other register changes; the OC bit of a supply and its cause follow its
current limit (R522). Said of states in which no cork is overdue (R62) and the reset of the command's domain (CORE) is
released. -/
def Obligations.sensor_inputs : Prop :=
  (∀ (s : State) (n : Fin 32) (rising : Bool) (hold stamp : Nat), s.coreRuns → fldGet (F.SNS_CFG_TYPE n) (s.dev.snsEff n).1 = 1 →
      fldGet (F.SNS_CFG_EN n) (s.dev.snsEff n).1 = 0 → fldGet (F.SNS_FLT_FLT n) (s.dev.snsEff n).2 ≤ hold →
      stamp + fldGet (F.SNS_FLT_FLT n) (s.dev.snsEff n).2 + snsDelay ≤ s.dev.now → s.dev.flag (F.SNS_STAT_LEVEL n) = !rising →
    Completes (.snsHallTransition n rising hold stamp) s fun e => e.flag (F.SNS_STAT_LEVEL n) = rising ∧ Dev.memSame s.dev e ∧ e.trk = s.dev.trk)
  ∧ (∀ (s : State) (n : Fin 32) (rising : Bool) (peak hold stamp : Nat), s.coreRuns → fldGet (F.SNS_CFG_TYPE n) (s.dev.snsEff n).1 = 0 →
      fldGet (F.SNS_CFG_EN n) (s.dev.snsEff n).1 = 1 → hold < fldGet (F.SNS_FLT_FLT n) (s.dev.snsEff n).2 →
      stamp + fldGet (F.SNS_FLT_FLT n) (s.dev.snsEff n).2 + snsDelay ≤ s.dev.now →
    Completes (.snsVrCrossing n rising peak hold stamp) s fun e =>
      e.get (F.SNS_CNT_GLITCH n) = min (s.dev.get (F.SNS_CNT_GLITCH n) + 1) 65535 ∧ Dev.onlyRegs s.dev e [R.SNS_CNT n])
  ∧ (∀ (s : State) (n : Fin 32), s.coreRuns →
    Completes (.snsOpenShort n true false) s fun e =>
      e.flag (F.SNS_STAT_SHORT n) = false ∧ e.hasCause 4 1 n = false ∧ (∀ a, a ≠ R.SNS_STAT n → e.rd a = s.dev.rd a) ∧ Dev.memSame s.dev e)
  ∧ (∀ (s : State) (n : Fin 32), s.coreRuns → Completes (.snsOpenShort n true true) s fun e => e.hasCause 4 1 n = true ∧ e.still = s.dev.still)
  ∧ (∀ (s : State) (req : Fin 10) (n : Fin 32) (data : Nat), s.coreRuns → s.dev.flag (F.SNS_CFG_EN n) = false →
    Completes (.snsCfgWrite req n true data) s fun e =>
      e.rd (R.SNS_FLT n) = BitVec.ofNat 32 data &&& 0x001F03FF#32 ∧ (e.sn n).eff = none ∧ (∀ a, a ≠ R.SNS_FLT n → e.rd a = s.dev.rd a)
        ∧ { e with sns := s.dev.sns, reg := s.dev.reg, fltNew := s.dev.fltNew } = s.dev)
  ∧ (∀ (s : State) (req : Fin 10) (mask : Nat), s.coreRuns →
    Completes (.snsCntClr req mask) s fun e =>
      (∀ n, n < 32 → bitOf mask n = true → e.get (F.SNS_CNT_GLITCH n) = 0)
        ∧ (∀ a, (∀ n, n < 32 → bitOf mask n = true → a ≠ R.SNS_CNT n) → e.rd a = s.dev.rd a) ∧ e.noRegs = s.dev.noRegs)
  ∧ (∀ (s : State) (n : Fin 32) (rising : Bool) (hold stamp : Nat), s.coreRuns →
    Runs (.snsHallTransition n rising hold stamp) s fun d => d.snsTransition n true rising none hold stamp)
  ∧ (∀ (s : State) (n : Fin 32) (rising : Bool) (peak hold stamp : Nat), s.coreRuns →
    Runs (.snsVrCrossing n rising peak hold stamp) s fun d => d.snsTransition n false rising (some peak) hold stamp)
  ∧ (∀ (s : State) (n : Fin 32) (short present : Bool), s.coreRuns → (short || !s.dev.snsHall n) = true →
    Runs (.snsOpenShort n short present) s fun d =>
      (d.putB (if short then F.SNS_STAT_SHORT n else F.SNS_STAT_OPEN n) present).cause 4 (if short then 1 else 0) n 2 present)
  ∧ (∀ (s : State) (req : Fin 10) (n : Fin 32) (flt : Bool) (data : Nat), s.coreRuns → Runs (.snsCfgWrite req n flt data) s fun d => d.snsCfgWrite n flt data)
  ∧ (∀ (s : State) (j : Fin 4) (present : Bool), s.coreRuns →
    Runs (.supplyOc j present) s fun d => (d.setBit R.SNS_SUPPLY (16 + j.val) present).cause 4 3 j 2 present)
  ∧ ∀ (s : State) (j : Fin 4), s.coreRuns →
    Completes (.supplyOc j false) s fun e =>
      e.bit R.SNS_SUPPLY (16 + j) = false ∧ e.hasCause 4 3 j = false ∧ (∀ a, a ≠ R.SNS_SUPPLY → e.rd a = s.dev.rd a) ∧ Dev.memSame s.dev e

/-- A read at an offset that lies in no span answers zero; a write there has no effect. With the PCIe domain on, so that
HIF counts, both increment HIF_CNT0.OUTSPAN, saturating, and neither changes anything else. -/
def Obligations.accesses_outside_the_map : Prop :=
  (∀ (s : State) (req : Fin 10) (off : Nat), s.busRuns req → s.busDev.pcieOn = true → s.busDev.rst.core = false → s.busDev.rst.perst = false → placeOf (off % 2 ^ 25) = .out →
    Completes (.outspanAccess req off false) s fun e =>
      e.bus = ⟨req, 0⟩ ∧ e.get F.HIF_CNT0_OUTSPAN = min (s.busDev.get F.HIF_CNT0_OUTSPAN + 1) 255 ∧ (∀ a, a ≠ R.HIF_CNT0 → e.rd a = s.busDev.rd a)
        ∧ { e with bus := s.busDev.bus, reg := s.busDev.reg, fltNew := s.busDev.fltNew } = s.busDev)
  ∧ (∀ (s : State) (req : Fin 10) (off : Nat), s.busRuns req → placeOf (off % 2 ^ 25) = .out →
    Completes (.outspanAccess req off false) s fun e => e.bus = ⟨req, 0⟩)
  ∧ ∀ (s : State) (req : Fin 10) (off : Nat), s.busRuns req → s.busDev.pcieOn = true → s.busDev.rst.core = false → s.busDev.rst.perst = false → placeOf (off % 2 ^ 25) = .out →
    Completes (.outspanAccess req off true) s fun e =>
      e.get F.HIF_CNT0_OUTSPAN = min (s.busDev.get F.HIF_CNT0_OUTSPAN + 1) 255 ∧ Dev.onlyRegs s.busDev e [R.HIF_CNT0]

/-- When an access of CEL_IDATA is done, CEL_IADDR.ADDR has gone up by one, from 0xFFF to 0, where AINC is set, for a read
and for a write alike. Said of states in which no cork is overdue (R62) and the reset of the command's domain (VBAT)
is released. -/
def Obligations.cellar_address_increments : Prop :=
  ∀ (s : State) (i : IndAcc), s.celRuns → s.dev.cflag F.CEL_STAT_SLOWOK = true → s.dev.clr.ind = some i → s.dev.flag F.CEL_IADDR_AINC = true →
    Completes .celAccessDone s fun e => e.get F.CEL_IADDR_ADDR = (if s.dev.get F.CEL_IADDR_ADDR = 0xFFF then 0 else s.dev.get F.CEL_IADDR_ADDR + 1)

/-- A write of a ripple-map entry while RIP_LRN is set, or of a tooth-error entry while TE_LRN is set, changes no entry
and increments PRDk_CNT0.TEWR; any other, but for entry 0 of the tooth errors, is taken at once: the entry holds the
value written (R149). Said of states in which no cork is overdue (R62) and the reset of the command's domain (CORE) is
released. -/
def Obligations.prediction_table_writes : Prop :=
  (∀ (s : State) (req : Fin 10) (k : Fin 16) (te : Bool) (idx data : Nat), s.coreRuns →
      s.dev.flag (if te then F.PRD_LRN_TE_LRN k else F.PRD_LRN_RIP_LRN k) = true →
    Completes (.prdTableWrite req k te idx data) s fun e =>
      e.get (F.PRD_CNT0_TEWR k) = min (s.dev.get (F.PRD_CNT0_TEWR k) + 1) 255 ∧ Dev.onlyRegs s.dev e [R.PRD_CNT0 k])
  ∧ (∀ (s : State) (req : Fin 10) (k : Fin 16) (idx data : Nat), s.coreRuns → s.dev.flag (F.PRD_LRN_RIP_LRN k) = false →
    Completes (.prdTableWrite req k false idx data) s fun e =>
      e.rd (R.PRD_RM k (idx % 1024)) = BitVec.ofNat 32 data ∧ Dev.onlyRegs s.dev e [R.PRD_RM k (idx % 1024)])
  ∧ ∀ (s : State) (req : Fin 10) (k : Fin 16) (idx data : Nat), s.coreRuns → s.dev.flag (F.PRD_LRN_TE_LRN k) = false → idx % 512 ≠ 0 →
    Completes (.prdTableWrite req k true idx data) s fun e =>
      e.get (F.PRD_TE_TE k (idx % 512)) = data % 65536 ∧ Dev.onlyRegs s.dev e [R.PRD_TE k (idx % 512)]

/-- Where the cask that the requester's copy of QMG_CSEL names is HELD with the requester's owner tag, QMG_CWIN reads and
writes its words; any other read answers zero, any other write has no effect, and both increment QMG_CNT.WINREF. Said
of states in which no cork is overdue (R62) and the reset of the command's domain (CORE) is released. -/
def Obligations.cask_window : Prop :=
  (∀ (s : State) (req : Fin 10) (w : Fin 16) (data : Nat), s.coreRuns →
      s.dev.qmg.cask ((s.dev.own req R.QMG_CSEL).toNat % caskTotal) = some ⟨false, s.dev.qOwner req⟩ →
    Completes (.qmgCwinAccess req w false data) s fun e =>
      e.bus = ⟨req, memRead s.dev.cmem (64 * ((s.dev.own req R.QMG_CSEL).toNat % caskTotal) + 4 * w) 4 % 2 ^ 32⟩ ∧ { e with bus := s.dev.bus, fltNew := s.dev.fltNew } = s.dev)
  ∧ (∀ (s : State) (req : Fin 10) (w : Fin 16) (data : Nat), s.coreRuns →
      s.dev.qmg.cask ((s.dev.own req R.QMG_CSEL).toNat % caskTotal) = some ⟨false, s.dev.qOwner req⟩ →
    Completes (.qmgCwinAccess req w true data) s fun e =>
      memRead e.cmem (64 * ((s.dev.own req R.QMG_CSEL).toNat % caskTotal) + 4 * w) 4 = data % 2 ^ 32
        ∧ (∀ a, a < 64 * ((s.dev.own req R.QMG_CSEL).toNat % caskTotal) + 4 * w ∨ 64 * ((s.dev.own req R.QMG_CSEL).toNat % caskTotal) + 4 * w + 4 ≤ a →
            memGet e.cmem a = memGet s.dev.cmem a)
        ∧ { e with cmem := s.dev.cmem, fltNew := s.dev.fltNew } = s.dev)
  ∧ (∀ (s : State) (req : Fin 10) (w : Fin 16) (data : Nat), s.coreRuns →
      s.dev.qmg.cask ((s.dev.own req R.QMG_CSEL).toNat % caskTotal) ≠ some ⟨false, s.dev.qOwner req⟩ →
    Completes (.qmgCwinAccess req w false data) s fun e =>
      e.bus = ⟨req, 0⟩ ∧ e.get F.QMG_CNT_WINREF = min (s.dev.get F.QMG_CNT_WINREF + 1) 255 ∧ (∀ a, a ≠ R.QMG_CNT → e.rd a = s.dev.rd a)
        ∧ { e with bus := s.dev.bus, reg := s.dev.reg, fltNew := s.dev.fltNew } = s.dev)
  ∧ ∀ (s : State) (req : Fin 10) (w : Fin 16) (data : Nat), s.coreRuns →
      s.dev.qmg.cask ((s.dev.own req R.QMG_CSEL).toNat % caskTotal) ≠ some ⟨false, s.dev.qOwner req⟩ →
    Completes (.qmgCwinAccess req w true data) s fun e =>
      e.get F.QMG_CNT_WINREF = min (s.dev.get F.QMG_CNT_WINREF + 1) 255 ∧ Dev.onlyRegs s.dev e [R.QMG_CNT]

/-- Where the owner is 16 or above and its GRANT is empty, RECLAIM frees every HELD cask tagged with it and no other, none
that is QUEUED, with code OK and their number; otherwise no cask changes and the code is BUSY; a queued cask that its
consumer pops is then HELD by the consumer, which may free it. Said of states in which no cork is overdue (R62) and
the reset of the command's domain (CORE) is released. -/
def Obligations.casks_reclaimed : Prop :=
  (∀ (s : State) (req : Fin 10) (owner : Nat), s.coreRuns → 16 ≤ owner % 256 → bits (s.dev.qmg.ocfgOf (owner % 256)).toNat 9 0 = 0 →
    Completes (.qmgReclaim req owner) s fun e =>
      e.qmg = { s.dev.qmg with casks := s.dev.qmg.casks.filter (fun p => p.2.queued || p.2.tag != owner % 256) }
        ∧ e.own req R.QMG_RES = BitVec.ofNat 32 (qmgWord 5 .ok (min (s.dev.qmg.casks.filter (fun p => !p.2.queued && p.2.tag == owner % 256)).length 0xFFFF)))
  ∧ (∀ (s : State) (req : Fin 10) (owner : Nat), s.coreRuns → owner % 256 < 16 ∨ bits (s.dev.qmg.ocfgOf (owner % 256)).toNat 9 0 ≠ 0 →
    Completes (.qmgReclaim req owner) s fun e => e.qmg = s.dev.qmg ∧ e.own req R.QMG_RES = BitVec.ofNat 32 (qmgWord 5 .busy 0))
  ∧ ∀ (s : State) (req : Fin 10) (c : Nat) (r : List Nat), s.coreRuns → s.dev.qGranted req = true →
      qCons (s.dev.qmg.qcfgOf ((s.dev.own req R.QMG_QSEL).toNat % 2 ^ 15)) = s.dev.qOwner req →
      s.dev.qmg.queue ((s.dev.own req R.QMG_QSEL).toNat % 2 ^ 15) = c :: r →
    Completes (.qmgPop req) s fun e => e.qmg.holds (s.dev.qOwner req) c = .ok

/-- GO starts every timer of TMR0-TMR15 that is in WAIT since an earlier FAB cycle (R460 leaves one whose EN write stands
in the same cycle in WAIT), and STOP returns every running timer of them with GSYNC to WAIT, at once; a write of
TMR_GCTL that sets both does what STOP does. Said of states in which no cork is overdue (R62) and the reset of the
command's domain (CORE) is released. -/
def Obligations.timers_go_and_stop : Prop :=
  (∀ (s : State) (req : Fin 10), s.coreRuns →
    Completes (.go req) s fun e => ∀ n, e.tm n = if n < 16 ∧ (s.dev.tm n).wait = true ∧ (s.dev.tm n).since ≠ s.dev.fab then (s.dev.tm n).start else s.dev.tm n)
  ∧ (∀ (s : State) (req : Fin 10), s.coreRuns →
    Completes (.stop req) s fun e => ∀ n, e.tm n =
      if n < 16 ∧ (s.dev.tm n).run = true ∧ s.dev.flag (F.TMR_CTL_GSYNC n) = true then { s.dev.tm n with run := false, wait := true, inq := 0 } else s.dev.tm n)
  ∧ ∀ (s : State) (req : Fin 10), s.busRuns req → s.busDev.rst.core = false →
    Completes (.registerWrite req R.TMR_GCTL 4 3) s fun e => ∀ n, e.tm n =
      if n < 16 ∧ (s.busDev.tm n).run = true ∧ s.busDev.flag (F.TMR_CTL_GSYNC n) = true then { s.busDev.tm n with run := false, wait := true, inq := 0 } else s.busDev.tm n

/-- PWR_SLEEP.GO is taken from MG (requester 7), with CORE reset released or asserted, while every tracker is in OFF or
STOPPED, the pair is in OFF or SOLO, and no domain is in RAMP or DRAIN: every domain that is on drains (R510), and
where none is on the Cellar is in SLEEP at once; any other is refused, counted in PWR_STAT.SLPREF and raises
SLEEP_REFUSED (code 2 of block PWR). Said of states in which no cork is overdue (R62) and the reset of the command's
domain (SYSTEM) is released. -/
def Obligations.sleep_is_taken_or_refused : Prop :=
  (∀ (s : State), s.sysRuns → (∀ k, k < 16 → s.busDev.tstate k = 0 ∨ s.busDev.tstate k = 1) → s.busDev.mirState = 0 ∨ s.busDev.mirState = 2 →
      (∀ k, k < 8 → s.busDev.domState k ≠ 1 ∧ s.busDev.domState k ≠ 3) → s.busDev.mgs.sleeping = false →
    Runs (.pwrSleep 7) s (fun d => d.rakCatch.sleep)
      ∧ ((∀ k, 1 ≤ k → k ≤ 6 → s.busDev.domState k ≠ 2) → Completes (.pwrSleep 7) s fun e => e.cget F.CEL_STAT_PSTATE = 2))
  ∧ (∀ (s : State) (req : Fin 10), s.sysRuns → req.val ≠ 7 → Runs (.pwrSleep req) s fun d => (d.rakCatch.incSat F.PWR_STAT_SLPREF).raise 2 2 0 1)
  ∧ (∀ (s : State) (k : Nat), s.sysRuns → k < 16 → 2 ≤ s.busDev.tstate k → Runs (.pwrSleep 7) s fun d => (d.rakCatch.incSat F.PWR_STAT_SLPREF).raise 2 2 0 1)
  ∧ (∀ (s : State), s.sysRuns → s.busDev.mirState ≠ 0 → s.busDev.mirState ≠ 2 → Runs (.pwrSleep 7) s fun d => (d.rakCatch.incSat F.PWR_STAT_SLPREF).raise 2 2 0 1)
  ∧ ∀ (s : State) (k : Nat), s.sysRuns → k < 8 → s.busDev.domState k = 1 ∨ s.busDev.domState k = 3 →
    Runs (.pwrSleep 7) s fun d => (d.rakCatch.incSat F.PWR_STAT_SLPREF).raise 2 2 0 1

/-- A store through the apertures, of a descriptor word, through the cask window and of an uncorrectable cask error leave
each memory sorted and without an entry of the value an unlisted byte reads as; the form is the model's own
(notes/assumptions/3.md). Said of states in which no cork is overdue (R62) and the reset of the command's domain (CORE
or SYSTEM) is released. -/
def Obligations.memories_stay_canonical : Prop :=
  ∀ (s : State), s.coreRuns → s.sysRuns → s.dev.memWf →
    (∀ (req : Fin 10) (a data : Nat), s.busRuns req → s.busDev.rst.core = false → s.busDev.memWf → 0x1000000 ≤ a → a < 0x1200000 → a % 4 = 0 → Completes (.apertureAccess req a 4 true data) s Dev.memWf)
      ∧ (∀ (req : Fin 10) (bank : Bool) (idx data : Nat) (word : Fin 8), Completes (.descWrite req bank idx word data) s Dev.memWf)
      ∧ (∀ (req : Fin 10) (w : Fin 16) (wr : Bool) (data : Nat), Completes (.qmgCwinAccess req w wr data) s Dev.memWf)
      ∧ ∀ (row : Fin 4096) (word : Nat), s.dev.spareAuto 2 = false → Completes (.caskEccError row true word) s Dev.memWf

/-- Whatever its operands, a command that is next of its source and passes the checks takes its entry and completes with
the results of its operation, an error status among them (R385, R390); DESC_RD, MEM_WR and MEM_RD with a range they do
not accept change nothing and answer status 2, and TILE_RD and TILE_WR answer the status that names why the tile is
not reached. Said of states in which no cork is overdue (R62) and the reset of the command's domain (CORE) is
released. -/
def Obligations.opcodes_in_every_form : Prop :=
  (∀ (s : State) (h : CmdHdr) (x : Sq) (e : Ent) (off cnt : Nat), s.coreRuns → s.dev.opTakes h 2 (decide (2 < cnt)) [par 0 off, par 1 cnt] x e →
    Runs (.regRd h off cnt) s fun d => Dev.opEnd h 2 x e ((d.opStart h 2 x).opRegRd h off cnt))
  ∧ (∀ (s : State) (h : CmdHdr) (x : Sq) (e : Ent) (off cnt : Nat) (data : List Nat), s.coreRuns → s.dev.opTakes h 3 true (par 0 off :: par 1 cnt :: if cnt ≤ 9 then parWords 2 (padWords cnt data) else []) x e →
    Runs (.regWr h off cnt data) s fun d => Dev.opEnd h 3 x e ((d.opStart h 3 x).opRegWr h off cnt data))
  ∧ (∀ (s : State) (h : CmdHdr) (x : Sq) (e : Ent) (off value : Nat), s.coreRuns → s.dev.opTakes h 4 true [par 0 off, par 1 value] x e →
    Runs (.regCork h off value) s fun d => Dev.opEnd h 4 x e ((d.opStart h 4 x).opRegCork h off value))
  ∧ (∀ (s : State) (h : CmdHdr) (x : Sq) (e : Ent) (bank : Bool) (idx cnt : Nat) (data : List Nat), s.coreRuns → s.dev.opTakes h 5 true [parBits 0 13 13 (b2n bank), parBits 0 12 0 idx, par 1 cnt] x e →
    Runs (.descWr h bank idx cnt data) s fun d => Dev.opEnd h 5 x e ((d.opStart h 5 x).opDescWr h bank idx cnt data))
  ∧ (∀ (s : State) (h : CmdHdr) (x : Sq) (e : Ent) (grp : Nat), s.coreRuns → s.dev.opTakes h 7 true [parBits 0 7 0 grp] x e →
    Runs (.strobe h grp) s fun d => Dev.opEnd h 7 x e ((d.opStart h 7 x).opStrobe grp))
  ∧ (∀ (s : State) (h : CmdHdr) (x : Sq) (e : Ent) (image : List Nat), s.coreRuns → s.dev.opTakes h 8 true [] x e →
    Runs (.imageLoad h image) s fun d => Dev.opEnd h 8 x e ((d.opStart h 8 x).opImageLoad h image))
  ∧ (∀ (s : State) (h : CmdHdr) (x : Sq) (e : Ent) (off : Nat) (last : Bool) (piece : List Nat), s.coreRuns → s.dev.opTakes h 9 true [par 0 off, parBits 1 0 0 (b2n last)] x e →
    Runs (.fwStage h off last piece) s fun d => Dev.opEnd h 9 x e ((d.opStart h 9 x).opFwStage h off last piece))
  ∧ (∀ (s : State) (h : CmdHdr) (x : Sq) (e : Ent) (idx cnt : Nat), s.coreRuns → s.dev.opTakes h 0xA true [par 0 idx, par 1 cnt] x e →
    Runs (.logRd h idx cnt) s fun d => Dev.opEnd h 0xA x e ((d.opStart h 0xA x).opLogRd h idx cnt))
  ∧ (∀ (s : State) (h : CmdHdr) (x : Sq) (e : Ent) (k : Fin 16) (ang : Nat), s.coreRuns → s.dev.opTakes h 0xC true [parBits 0 3 0 k, parBits 1 23 0 ang] x e →
    Runs (.predQ h k ang) s fun d => Dev.opEnd h 0xC x e ((d.opStart h 0xC x).opPredQ k ang))
  ∧ (∀ (s : State) (h : CmdHdr) (x : Sq) (e : Ent) (sq : Nat), s.coreRuns → s.dev.opTakes h 0x15 true [par 0 sq] x e →
    Runs (.deleteSq h sq) s fun d => Dev.opEnd h 0x15 x e ((d.opStart h 0x15 x).opDeleteSq sq))
  ∧ (∀ (s : State) (h : CmdHdr) (x : Sq) (e : Ent) (off len : Nat) (data : List Nat), s.coreRuns → s.dev.opTakes h 0x19 true (par 0 off :: par 1 len :: parWords 2 (padWords 9 data)) x e →
    Runs (.bufPut h off len data) s fun d => Dev.opEnd h 0x19 x e ((d.opStart h 0x19 x).opBufPut (h.src - 256) off len data))
  ∧ (∀ (s : State) (h : CmdHdr) (x : Sq) (e : Ent) (mach : Fin 16) (dem tag : Nat), s.coreRuns → s.dev.opTakes h 0xB true [parBits 0 3 0 mach, parBits 1 16 0 dem, parBits 2 8 8 (b2n true), parBits 2 7 0 tag] x e →
    Runs (.demand h mach dem true tag) s fun d => let y := (d.opStart h 0xB x).prsPost mach (tag % 256 * 2 ^ 24 + dem % 2 ^ 17)
      Dev.opEnd h 0xB x e (y, .ok (y.rd (R.PRS_NSTR mach)).toNat 0))
  ∧ (∀ (s : State) (h : CmdHdr) (x : Sq) (e : Ent) (bank : Bool) (idx cnt : Nat), s.coreRuns → s.dev.opTakes h 6 true [parBits 0 13 13 (b2n bank), parBits 0 12 0 idx, par 1 cnt] x e → descArgs h idx cnt = false →
    Runs (.descRd h bank idx cnt) s fun d => Dev.opEnd h 6 x e (badParam (d.opStart h 6 x)))
  ∧ (∀ (s : State) (h : CmdHdr) (x : Sq) (e : Ent) (off : Nat) (data : List Nat), s.coreRuns → s.dev.opTakes h 0xF true [par 0 off] x e → coreMem off h.dlen = false →
    Runs (.memWr h off data) s fun d => Dev.opEnd h 0xF x e (badParam (d.opStart h 0xF x)))
  ∧ (∀ (s : State) (h : CmdHdr) (x : Sq) (e : Ent) (off : Nat), s.coreRuns → s.dev.opTakes h 0x10 true [par 0 off] x e → coreMem off h.dlen = false →
    Runs (.memRd h off) s fun d => Dev.opEnd h 0x10 x e (badParam (d.opStart h 0x10 x)))
  ∧ (∀ (s : State) (h : CmdHdr) (x : Sq) (e : Ent) (n : Fin 16) (p : Fin 4) (addr r : Nat), s.coreRuns → s.dev.opTakes h 0xD true [parBits 0 3 0 n, parBits 0 9 8 p, par 1 addr] x e → (s.start.opStart h 0xD x).tileStop n p = some r →
    Runs (.tileRd h n p addr) s fun d => Dev.opEnd h 0xD x e (d.opStart h 0xD x, ⟨r, 0, if r = 0xA then 0xFE else 0, []⟩))
  ∧ ∀ (s : State) (h : CmdHdr) (x : Sq) (e : Ent) (n : Fin 16) (p : Fin 4) (addr data r : Nat), s.coreRuns → s.dev.opTakes h 0xE true [parBits 0 3 0 n, parBits 0 9 8 p, par 1 addr, par 2 data] x e → (s.start.opStart h 0xE x).tileStop n p = some r →
    Runs (.tileWr h n p addr data) s fun d => Dev.opEnd h 0xE x e (d.opStart h 0xE x, ⟨r, if r = 0xA then 0xFE else 0, 0, []⟩)

/-- The first primary edge that waits is taken: with DIR_SRC 1 it waits for its pulse width and nothing else changes
(R108), with DIR_SRC 2 it is judged with the direction it came with, else as forward; the first edge that waits for
its pulse width is judged once the width is known, the first phase edge and, where the tracker does not follow a
partner, the first tooth record that wait are carried out (Dev.trkEdge, Dev.phEdge, Dev.record). A synthetic tooth is
placed at its time, over an interval of any number of tooth positions, where the tracker is in a state from 3 to 5 and
inserts teeth (Dev.trkSynth, R89), and a phase window that passes is judged at its end (Dev.phWindow, R114). Said of
states in which no cork is overdue (R62) and the reset of the command's domain (CORE) is released. -/
def Obligations.tracker_edges : Prop :=
  (∀ (s : State) (k : Fin 16) (e : Machine.Edge) (r : List Machine.Edge), s.coreRuns → (s.dev.tk k).priQ = e :: r → s.dev.get (F.TRK_CFG_DIR_SRC k) = 1 →
    Completes (.trkPrimaryEdge k) s fun d =>
      (d.tk k).priQ = r ∧ (d.tk k).pwQ = (s.dev.tk k).pwQ ++ [e] ∧ { d with trk := s.dev.trk, fltNew := s.dev.fltNew } = s.dev)
  ∧ (∀ (s : State) (k : Fin 16) (e : Machine.Edge) (r : List Machine.Edge), s.coreRuns → (s.dev.tk k).priQ = e :: r → s.dev.get (F.TRK_CFG_DIR_SRC k) = 2 →
    Runs (.trkPrimaryEdge k) s fun d => (d.setTk k { d.tk k with priQ := r }).trkEdge k e e.quad)
  ∧ (∀ (s : State) (k : Fin 16) (e : Machine.Edge) (r : List Machine.Edge), s.coreRuns → (s.dev.tk k).priQ = e :: r →
      s.dev.get (F.TRK_CFG_DIR_SRC k) ≠ 1 → s.dev.get (F.TRK_CFG_DIR_SRC k) ≠ 2 →
    Runs (.trkPrimaryEdge k) s fun d => (d.setTk k { d.tk k with priQ := r }).trkEdge k e false)
  ∧ (∀ (s : State) (k : Fin 16) (e : Machine.Edge) (r : List Machine.Edge) (width : Nat), s.coreRuns → (s.dev.tk k).pwQ = e :: r →
    Runs (.pwidthDirection k width) s fun d =>
      ((d.setTk k { d.tk k with pwQ := r }).advance (e.stamp + min width (d.get (F.TRK_DIR_DIRW k)))).trkEdge k e (decide (d.get (F.TRK_DIR_DIRW k) ≤ width)))
  ∧ (∀ (s : State) (k : Fin 16) (n : Nat), s.coreRuns → 3 ≤ s.dev.tstate k → s.dev.tstate k ≤ 5 → s.dev.flag (F.TRK_CFG_KIND k) = false →
      (s.dev.tk k).skip = false → (s.dev.tk k).qsFirst = false → s.dev.synFast k = true →
      whSpan (s.dev.tk k).wheel ((s.dev.geo k).pos (s.dev.tk k).bnd) (s.dev.tk k).rev = n →
      ((s.dev.tk k).pwQ ++ (s.dev.tk k).priQ).any (fun e => decide (e.stamp ≤ (s.dev.tk k).lastT + (s.dev.get (F.TRK_TOL_TOL_HI k) * (n * (s.dev.tk k).pn) + 31) / 32)) = false →
    Runs (.synthToothDeadline k) s fun d =>
      ((d.advance ((d.tk k).lastT + (d.get (F.TRK_TOL_TOL_HI k) * (n * (d.tk k).pn) + 31) / 32)).trkSynth k ((d.tk k).lastT + n * (d.tk k).pn) n).1)
  ∧ (∀ (s : State) (k : Fin 16) (e : Machine.Edge) (r : List Machine.Edge), s.coreRuns → (s.dev.tk k).phQ = e :: r →
    Runs (.phaseEdge k) s fun d => (d.setTk k { d.tk k with phQ := r }).phEdge k e)
  ∧ (∀ (s : State) (k : Fin 16) (a : Int), s.coreRuns → (s.dev.tk k).phNext = some a → 5 ≤ s.dev.tstate k →
    Runs (.phaseWindowMiss k) s fun d =>
      (d.advance (fdiv (d.reach k (if (d.tk k).rev then a - d.phTol k else a + d.phTol k)) 8 + 1).toNat).phWindow k)
  ∧ ∀ (s : State) (k : Fin 16) (r : ToothRec) (q : List ToothRec) (x y : Dev), s.coreRuns → (s.dev.tk k).recs = r :: q →
      s.dev.setTk k { s.dev.tk k with recs := q } = x →
      x.mirTooth k (match r.kind with | .real => 0 | .synth => 1 | .phase => 2) r.rev r.dchg r.span ((x.geo k).pos r.bnd) r.lin r.stamp = y →
      y.follows k = false →
    Runs (.toothRecord k) s fun _ => (y.ownFirst k r).1.record k (y.ownFirst k r).2

/-- Setting EN while it is clear checks the definition and wakes the tracker or leaves it in OFF (Dev.trkCheck, R85, R97,
R536); setting it again does nothing; clearing EN turns it off (Dev.trkOff, R97). A stall of a tracker in a state from
2 on takes it down for STOPPED once TMAX has passed since it last acted (Dev.trkDown, R97), with a stop record that
waits (R103), no edge waiting and no gap candidate, and the running count of an encoder that was in SYNC or FALLBACK
(R120). The stop record that waits is written to its two Cellar words while SLOW runs (R103, R535) and nothing else
changes. The counters of the trackers in the mask clear and no other register changes. Said of states in which no cork
is overdue (R62) and the reset of the command's domain (CORE) is released. -/
def Obligations.tracker_control : Prop :=
  (∀ (s : State) (req : Fin 10) (k : Fin 16), s.coreRuns → s.dev.flag (F.TRK_CTL_EN k) = false → Runs (.trkEnable req k) s fun d => (d.put (F.TRK_CTL_EN k) 1).trkCheck k false)
  ∧ (∀ (s : State) (req : Fin 10) (k : Fin 16), s.coreRuns → s.dev.flag (F.TRK_CTL_EN k) = true → Runs (.trkEnable req k) s fun d => d)
  ∧ (∀ (s : State) (req : Fin 10) (k : Fin 16), s.coreRuns → s.dev.flag (F.TRK_CTL_EN k) = true → Runs (.trkDisable req k) s fun d => (d.put (F.TRK_CTL_EN k) 0).trkOff k)
  ∧ (∀ (s : State) (k : Fin 16) (st : Nat), s.coreRuns → s.dev.tstate k = st → 2 ≤ st →
    Runs (.trkStall k) s fun d =>
      let x := d.advance ((d.tk k).act + 200000 * max 1 (d.get (F.TRK_TIME_TMAX k)))
      let raw : Geo := { x.geo k with decim := 1 }
      (x.upTk k (fun t => { t.noEdges.noGap with
        stop := some (x.stopRecord k st), phQ := [], encRun := t.encRun && (st == 5 || st == 7) && raw.enc
        encC := if st = 7 then some (raw.lastBnd t.lin t.rev) else t.encC })).trkDown k 1)
  ∧ (∀ (s : State) (k : Fin 16) (w : Word × Word), s.coreRuns → (s.dev.tk k).stop = some w → s.dev.cflag F.CEL_STAT_SLOWOK = true →
    Completes (.stopRecordWrite k) s fun e =>
      e.crd (0x100 + 2 * k) = w.1 ∧ e.crd (0x101 + 2 * k) = w.2 ∧ (e.tk k).stop = none
        ∧ { e with cel := s.dev.cel, trk := s.dev.trk, fltNew := s.dev.fltNew } = s.dev)
  ∧ (∀ (s : State) (req : Fin 10) (mask : Nat), s.coreRuns →
    Completes (.trkCntClr req mask) s fun e =>
      (∀ k, k < 16 → bitOf mask k = true → e.rd (R.TRK_CNT0 k) = 0 ∧ e.rd (R.TRK_CNT1 k) = 0)
        ∧ (∀ a, (∀ k, k < 16 → bitOf mask k = true → a ≠ R.TRK_CNT0 k ∧ a ≠ R.TRK_CNT1 k) → e.rd a = s.dev.rd a) ∧ e.noRegs = s.dev.noRegs)

/-- A write of PRD_LMAPl takes effect where ARM_OK is clear for the tracker it names before and after, and counts BUSYWR
otherwise (R125). A ripple-map entry is written while RIP_LRN is clear (R149), and CLR_TE, CLR_RIP1 and CLR_RIP0 clear
the tables (R150). A query of a port that has none starts and leaves READY clear; one whose answer is a time completes
with READY and the time; reading its result latches the companion words for the reader and sets SEEN (R153-R155). A
comparison of a spare's results begins the shadowing of a logical engine, for a swap where the spare stands by and the
engine is not shadowed, and for a background check where the check is enabled, none is under way, no engine is suspect
and a spare is free (R157, R159; the comparison's result comes with the command, the model's choice, log entry 104).
The counters clear and no other register changes. Said of states in which no cork is overdue (R62) and the reset of
the command's domain (CORE) is released. -/
def Obligations.prediction_tables : Prop :=
  (∀ (s : State) (req : Fin 10) (l : Fin 32) (data : Nat), s.coreRuns → s.dev.flag (F.TRK_STAT_ARM_OK (s.dev.get (F.PRD_LMAP_TRK l))) = false →
      s.dev.flag (F.TRK_STAT_ARM_OK (data % 16)) = false →
    Runs (.prdLmapWrite req l data) s fun d =>
      ((d.wr (R.PRD_LMAP l) (BitVec.ofNat 32 data &&& 0x8000000F#32)).allocCheck (d.get (F.PRD_LMAP_TRK l))).allocCheck (data % 16))
  ∧ (∀ (s : State) (req : Fin 10) (l : Fin 32) (data : Nat), s.coreRuns →
      (s.dev.flag (F.TRK_STAT_ARM_OK (s.dev.get (F.PRD_LMAP_TRK l))) || s.dev.flag (F.TRK_STAT_ARM_OK (data % 16))) = true →
    Runs (.prdLmapWrite req l data) s fun d => d.incSat F.PRD_ALLOC_STAT_BUSYWR)
  ∧ (∀ (s : State) (req : Fin 10) (k : Fin 16) (idx data : Nat), s.coreRuns → s.dev.flag (F.PRD_LRN_RIP_LRN k) = false →
    Completes (.prdTableWrite req k false idx data) s fun e =>
      e.rd (R.PRD_RM k (idx % 1024)) = BitVec.ofNat 32 data ∧ Dev.onlyRegs s.dev e [R.PRD_RM k (idx % 1024)])
  ∧ (∀ (s : State) (req : Fin 10) (k : Fin 16), s.coreRuns → Runs (.clrTe req k) s fun d => d.clrTe k)
  ∧ (∀ (s : State) (req : Fin 10) (k : Fin 16), s.coreRuns → Runs (.clrRip1 req k) s fun d => d.clrRip k true)
  ∧ (∀ (s : State) (req : Fin 10) (k : Fin 16), s.coreRuns → Runs (.clrRip0 req k) s fun d => d.clrRip k false)
  ∧ (∀ (s : State) (req : Fin 10) (q : Fin 8) (k : Fin 16) (ang : Nat), s.coreRuns → s.dev.qry? q = none →
    Completes (.prdQueryStart req q k ang) s fun e =>
      (e.qry? q).isSome = true ∧ e.flag (F.PRD_QRY_RES_ST_READY q) = false ∧ e.get (F.PRD_QRY_CMD_TRK q) = k ∧ e.get (F.PRD_QRY_CMD_ANG q) = ang % 2 ^ 24
        ∧ { e with qry := s.dev.qry, reg := s.dev.reg, fltNew := s.dev.fltNew } = s.dev)
  ∧ (∀ (s : State) (q : Fin 8) (x : Qry) (t : Int), s.coreRuns → s.dev.qry? q = some x → x.res = .time t →
    Completes (.prdQueryDone q) s fun e =>
      e.flag (F.PRD_QRY_RES_ST_READY q) = true ∧ e.get64 (R.PRD_QRY_RES_LO q) (R.PRD_QRY_RES_HI q) = ofS 64 (fdiv t 8)
        ∧ e.get (F.PRD_QRY_RES_ST_FRAC q) = (Int.fmod t 8).toNat % 8
        ∧ { e with qry := s.dev.qry, reg := s.dev.reg, fltNew := s.dev.fltNew } = s.dev)
  ∧ (∀ (s : State) (req : Fin 10) (q : Fin 8), s.coreRuns →
    Completes (.prdQueryRead req q) s fun e =>
      e.bus = ⟨req, (s.dev.rd (R.PRD_QRY_RES_LO q)).toNat⟩ ∧ e.own req (R.PRD_QRY_RES_HI q) = s.dev.rd (R.PRD_QRY_RES_HI q)
        ∧ e.own req (R.PRD_QRY_RES_ST q) = s.dev.rd (R.PRD_QRY_RES_ST q) ∧ e.flag (F.PRD_QRY_RES_ST_SEEN q) = true)
  ∧ (∀ (s : State) (l : Fin 32) (spare : Fin 36) (agree : Bool), s.coreRuns → s.dev.flag (F.PE_STAT_SPARE spare) = true → s.dev.shadowed l = false →
      s.dev.sch.shadows.any (fun x => x.log == l && x.spare == spare && x.use == .swap) = false →
    Runs (.peSpareSwap l spare agree) s fun d => d.shadowStart l spare .swap (!agree))
  ∧ (∀ (s : State) (l : Fin 32) (spare : Fin 36) (agree : Bool), s.coreRuns → Runs (.peSpareSwap l spare agree) s fun d => d.peVerdict l spare agree)
  ∧ (∀ (s : State) (m : Nat) (agree : Bool) (x : Dev), s.coreRuns → s.dev.mgs.suspect = none → s.dev.flag F.PRD_CHK_EN = true →
      s.dev.until (s.dev.sch.chkAt + 400000 * max 1 (s.dev.get F.PRD_CHK_PERIOD)) = x → x.sch.shadows.any (fun y => y.use != .swap) = false →
      x.mgs.suspect = none → x.freePe none = some m → x.flag F.PRD_CHK_EN = true → x.shadowed x.sch.chk = false →
    Runs (.peBackgroundCheck agree) s fun _ => ({ x with sch := { x.sch with chkAt := x.fab } } : Dev).shadowStart x.sch.chk m .check (!agree))
  ∧ (∀ (s : State) (agree : Bool), s.coreRuns → s.dev.mgs.suspect ≠ none ∨ s.dev.flag F.PRD_CHK_EN = false →
    Runs (.peBackgroundCheck agree) s fun d => d.peCheck agree)
  ∧ ∀ (s : State) (req : Fin 10) (data : Nat), s.coreRuns →
    Completes (.prdCntClr req data) s fun e =>
      (∀ k, k < 16 → bitOf data k = true → e.rd (R.PRD_CNT0 k) = 0 ∧ e.rd (R.PRD_RESMAX k) = 0)
        ∧ (bitOf data 16 = true → ∀ m, m < 36 → e.rd (R.PE_CNT m) = 0 ∧ e.get (F.PE_LOAD_PEAK m) = 0)
        ∧ (∀ a, (∀ k, k < 16 → a ≠ R.PRD_CNT0 k ∧ a ≠ R.PRD_RESMAX k) → (∀ m, m < 36 → a ≠ R.PE_CNT m ∧ a ≠ (F.PE_LOAD_PEAK m).addr) → e.rd a = s.dev.rd a)
        ∧ e.noRegs = s.dev.noRegs

/-- A word of a descriptor that is neither live nor in the shadow range while a swap is pending is written (Dev.descPut);
for a word other than word 0 it holds the value written, little-endian, with the reserved bits of its kind zero, and
no other byte of memory changes (R6, R163, R164); a write of a live one counts LIVEWR, of a busy one BUSYWR, and does
nothing else (R163). A range whose preparation waits is prepared (Dev.prepDone, R165, R166). A change of
SCH_TRKk_CTL.EN enables or disables the tracker, channel enables go bit by bit, REARM forgets which ONCE heads have
run in the live and in the incoming range and leaves what is armed (R165, R170, R190). A freeze brings the device to
its moment, 100 ticks before the start or the end, and marks the occurrence (R143). The counters of the trackers named
clear, and those of the others stay. Said of states in which no cork is overdue (R62) and the reset of the command's
domain (CORE) is released. -/
def Obligations.scheduler_commands : Prop :=
  (∀ (s : State) (req : Fin 10) (bank : Bool) (idx data : Nat) (word : Fin 8), s.coreRuns → s.dev.descLive bank (idx % 8192) = false →
      s.dev.descBusy bank (idx % 8192) = false →
    Runs (.descWrite req bank idx word data) s fun d => d.descPut bank (idx % 8192) word data)
  ∧ (∀ (s : State) (req : Fin 10) (bank : Bool) (idx data : Nat) (word : Fin 8), s.coreRuns → s.dev.descLive bank (idx % 8192) = true →
    Runs (.descWrite req bank idx word data) s fun d => d.incSat F.SCH_GSTAT2_LIVEWR)
  ∧ (∀ (s : State) (req : Fin 10) (bank : Bool) (idx data : Nat) (word : Fin 8), s.coreRuns → s.dev.descLive bank (idx % 8192) = false →
      s.dev.descBusy bank (idx % 8192) = true →
    Runs (.descWrite req bank idx word data) s fun d => d.incSat F.SYS_UPD_STAT_BUSYWR)
  ∧ (∀ (s : State) (req : Fin 10) (bank : Bool) (idx data : Nat) (word : Fin 8), s.coreRuns → s.dev.descLive bank (idx % 8192) = false →
      s.dev.descBusy bank (idx % 8192) = false → word.val ≠ 0 → s.dev.direct = false → Completes (.descWrite req bank idx word data) s fun e =>
      memRead e.mem (descAddr bank (idx % 8192) + 4 * word) 4
          = Nat.land (data % 2 ^ 32) (descMask word (s.dev.desc bank (idx % 8192)).kind) % 2 ^ 32
        ∧ (∀ x, x < descAddr bank (idx % 8192) + 4 * word ∨ descAddr bank (idx % 8192) + 4 * word + 4 ≤ x → memGet e.mem x = memGet s.dev.mem x)
        ∧ { e with mem := s.dev.mem, fltNew := s.dev.fltNew } = s.dev)
  ∧ (∀ (s : State) (k : Fin 16), s.coreRuns → ((s.dev.scht k).prep || (s.dev.scht k).prepIn) = true → Runs (.rangePrepDone k) s fun d => d.prepDone k)
  ∧ (∀ (s : State) (req : Fin 10) (k : Fin 16), s.coreRuns → s.dev.flag (F.SCH_TRK_CTL_EN k) = false →
    Runs (.schTrkEnable req k) s fun d => (d.put (F.SCH_TRK_CTL_EN k) 1).schEnable k)
  ∧ (∀ (s : State) (req : Fin 10) (k : Fin 16), s.coreRuns → s.dev.flag (F.SCH_TRK_CTL_EN k) = true →
    Runs (.schTrkDisable req k) s fun d => (d.put (F.SCH_TRK_CTL_EN k) 0).schDisable k)
  ∧ (∀ (s : State) (req : Fin 10) (w : Fin 16) (data : Nat), s.coreRuns →
    Runs (.schChenWrite req w data) s fun d => forN 32 (fun x b => x.chenBit (32 * w + b) (bitOf data b)) d)
  ∧ (∀ (s : State) (req : Fin 10) (k : Fin 16), s.coreRuns →
    Completes (.rearm req k) s fun e => (e.scht k).ones = (s.dev.scht k).ones.rearm ∧ (e.scht k).onesIn = (s.dev.scht k).onesIn.rearm ∧ (e.scht k).armed = (s.dev.scht k).armed ∧ { e with sch := s.dev.sch, fltNew := s.dev.fltNew } = s.dev)
  ∧ (∀ (s : State) (req : Fin 10) (data : Nat), s.coreRuns → Completes (.schCntClr req data) s fun e =>
      (∀ k, k < 16 → bitOf data k = true → e.rd (R.SCH_TRK_CNT0 k) = 0 ∧ e.rd (R.SCH_TRK_CNT1 k) = 0 ∧ e.rd (R.SCH_TRK_CNT2 k) = 0
          ∧ e.rd (R.SCH_TRK_EXEC k) = 0 ∧ e.rd (R.SCH_TRK_LASTLATE k) = 0 ∧ e.rd (R.SCH_TRK_LATEBY k) = 0)
        ∧ (∀ k, k < 16 → bitOf data k = false → e.rd (R.SCH_TRK_CNT0 k) = s.dev.rd (R.SCH_TRK_CNT0 k) ∧ e.rd (R.SCH_TRK_EXEC k) = s.dev.rd (R.SCH_TRK_EXEC k))
        ∧ e.noRegs = s.dev.noRegs)
  ∧ (∀ (s : State) (uid : Nat) (endOnly : Bool) (o : Occ) (p : OPulse), s.coreRuns → s.dev.occ? uid = some o → o.head = some p →
    Runs (.eventFreeze uid endOnly) s fun d =>
      (d.advance (fdiv (if endOnly then p.stop else p.start) 8 - 100).toNat).setOcc (if endOnly then { o with endFrozen := true } else { o with frozen := true }))
  ∧ ∀ (s : State) (uid : Nat) (endOnly : Bool) (o : Occ) (p : OPulse), s.coreRuns → s.dev.occ? uid = some o → o.head = some p →
      (fdiv (if endOnly then p.stop else p.start) 8 - 100).toNat ≤ s.dev.now →
    Completes (.eventFreeze uid endOnly) s fun e =>
      e = s.start.setOcc (if endOnly then { o with endFrozen := true } else { o with frozen := true }) ∧ { e with sch := s.dev.sch, fltNew := s.dev.fltNew } = s.dev

/-- The stroke position whose decision is next (Dev.prsReady, R209, R212) leaves its queue and is decided (Dev.prsDecide,
R211); a posted demand runs as Dev.prsPost says: it is kept as pending, and one that was is replaced and counted
(R216, R217); PRSk_CTL.RESET is kept for the next decision, the history and the generator of the machine as they are
(R212, R224); the counters of the machines named clear. Said of states in which no cork is overdue (R62) and the reset
of the command's domain (CORE) is released. -/
def Obligations.press_commands : Prop :=
  (∀ (s : State) (k : Fin 16) (sp : Fin 64) (a : Int) (rev : Bool) (at_ : Nat), s.coreRuns →
      (s.dev.prsReady k).prsNext = some (k.val, (sp.val, a, rev, at_)) →
    Runs (.pressDecision k sp) s fun d =>
      let x := d.prsReady k
      (x.setPs k { x.ps k with queue := (x.ps k).queue.drop 1 }).prsDecide k sp a rev at_)
  ∧ (∀ (s : State) (req : Fin 10) (k : Fin 16) (data : Nat), s.coreRuns → Runs (.pressPostWrite req k data) s fun d => d.prsPost k data)
  ∧ (∀ (s : State) (req : Fin 10) (k : Fin 16), s.coreRuns →
    Completes (.pressReset req k) s fun e => (e.ps k).reset = true ∧ (e.ps k).lfsr = (s.dev.ps k).lfsr ∧ (e.ps k).hist = (s.dev.ps k).hist
      ∧ { e with prs := s.dev.prs, fltNew := s.dev.fltNew } = s.dev)
  ∧ ∀ (s : State) (req : Fin 10) (data : Nat), s.coreRuns → Completes (.prsCntClr req data) s fun e =>
      (∀ k, k < 16 → bitOf data k = true → e.rd (R.PRS_CNT0 k) = 0 ∧ e.rd (R.PRS_CNT1 k) = 0)
        ∧ (∀ k, k < 16 → bitOf data k = false → e.rd (R.PRS_CNT0 k) = s.dev.rd (R.PRS_CNT0 k) ∧ e.rd (R.PRS_CNT1 k) = s.dev.rd (R.PRS_CNT1 k))
        ∧ (bitOf data 31 = true → e.get F.PRS_GSTAT_QMAX = 0) ∧ e.noRegs = s.dev.noRegs

/-- A reliable frame that comes whole through open ports, in a state that takes it, with a SEQ not seen (Dev.tileTakes),
is acted on and acknowledged (R234, R249, R250, R268): CTL opens or closes the downstream port, sets mirroring, or
asks for a swap that the side counts (each acknowledged with RESULT 0); PRFSET loads a profile (R294); PWR with EN and
its complement powers the side, and without its complement leaves the state and is refused with RESULT 10 (R268);
TIMESET with STEP sets the time copy and the delay. But for the last two, nothing outside the tiles changes, the spare
states of the link for a CTL MIRROR and the count of free values drawn apart. Said of states in which no cork is
overdue (R62). -/
def Obligations.tile_reliable_frames : Prop :=
  (∀ (s : State) (t : Fin 64) (sd : Bool) (seq : Nat), s.dev.corksFresh → s.dev.tileTakes t sd seq 1 →
    Completes (.ctlDsopen t sd true seq) s fun e => (e.ts t sd).dsopen = true ∧ e.tileAcked t sd seq 0 ∧ Dev.tilesElse s.dev e t ∧
          { e with tile := s.dev.tile, lnk := s.dev.lnk, draw := s.dev.draw } = s.dev)
  ∧ (∀ (s : State) (t : Fin 64) (sd : Bool) (seq : Nat), s.dev.corksFresh → s.dev.tileTakes t sd seq 1 →
    Completes (.ctlDsclose t sd true seq) s fun e => (e.ts t sd).dsopen = false ∧ e.tileAcked t sd seq 0 ∧ Dev.tilesElse s.dev e t ∧
          { e with tile := s.dev.tile, lnk := s.dev.lnk, draw := s.dev.draw } = s.dev)
  ∧ (∀ (s : State) (t : Fin 64) (sd on : Bool) (seq : Nat), s.dev.corksFresh → s.dev.tileTakes t sd seq 1 →
    Completes (.ctlMirror t sd true seq on) s fun e => (e.ts t sd).mirror = on ∧ e.tileAcked t sd seq 0 ∧ Dev.tilesElse s.dev e t ∧ { e with tile := s.dev.tile, lnk := s.dev.lnk, draw := s.dev.draw, fltNew := s.dev.fltNew } = s.dev)
  ∧ (∀ (s : State) (t : Fin 64) (sd : Bool) (seq : Nat), s.dev.corksFresh → s.dev.tileTakes t sd seq 1 →
    Completes (.ctlSwapDn t sd true seq) s fun e => (e.ts t sd).swDn = (s.dev.ts t sd).swDn + 1 ∧ e.tileAcked t sd seq 0 ∧ Dev.tilesElse s.dev e t ∧
          { e with tile := s.dev.tile, lnk := s.dev.lnk, draw := s.dev.draw } = s.dev)
  ∧ (∀ (s : State) (t : Fin 64) (sd : Bool) (seq : Nat), s.dev.corksFresh → s.dev.tileTakes t sd seq 1 →
    Completes (.ctlSwapUp t sd true seq) s fun e => (e.ts t sd).swUp = (s.dev.ts t sd).swUp + 1 ∧ e.tileAcked t sd seq 0 ∧ Dev.tilesElse s.dev e t ∧ { e with tile := s.dev.tile, draw := s.dev.draw, fltNew := s.dev.fltNew } = s.dev)
  ∧ (∀ (s : State) (t : Fin 64) (sd : Bool) (seq : Nat) (prf : Fin 256) (words : List Nat), s.dev.corksFresh → s.dev.tileTakes t sd seq 2 →
    Completes (.prfset t sd true seq prf words) s fun e =>
      smGet (e.ts t sd).profs [] prf = words ∧ e.tileAcked t sd seq 0 ∧ Dev.tilesElse s.dev e t ∧ { e with tile := s.dev.tile, draw := s.dev.draw, fltNew := s.dev.fltNew } = s.dev)
  ∧ (∀ (s : State) (t : Fin 64) (sd : Bool) (seq w1 w2 : Nat), s.dev.corksFresh → s.dev.tileTakes t sd seq 2 → w1 % 2 ^ 32 + w2 % 2 ^ 32 = 2 ^ 32 - 1 → bitOf w1 0 = true →
    Completes (.pwr t sd true seq w1 w2) s fun e => (e.ts t sd).st = 3 ∧ e.tileAcked t sd seq 0 ∧ Dev.tilesElse s.dev e t ∧ { e with tile := s.dev.tile, draw := s.dev.draw, fltNew := s.dev.fltNew } = s.dev)
  ∧ (∀ (s : State) (t : Fin 64) (sd : Bool) (seq w1 w2 : Nat), s.dev.corksFresh → s.dev.tileTakes t sd seq 2 → w1 % 2 ^ 32 + w2 % 2 ^ 32 ≠ 2 ^ 32 - 1 →
    Completes (.pwr t sd true seq w1 w2) s fun e => (e.ts t sd).st = (s.dev.ts t sd).st ∧ e.tileAcked t sd seq 10 ∧ Dev.tilesElse s.dev e t)
  ∧ ∀ (s : State) (t : Fin 64) (sd : Bool) (seq stamp dly : Nat), s.dev.corksFresh → s.dev.tileTakes t sd seq 1 →
    Completes (.timeset t sd true seq stamp true dly) s fun e =>
      (e.ts t sd).off = 192 * stamp + (dly % 2 ^ 24 : Nat) - 192 * s.dev.now ∧ 2 ≤ (e.ts t sd).st ∧ e.tileAcked t sd seq 0
        ∧ e.tget t sd F.TILE_DLY_DLY = dly % 2 ^ 24

/-- A COMMIT that a side takes stores its pulses where it passes every check and is acknowledged with RESULT 0; with the
first check that fails in RESULT it leaves the pulses as they are (Dev.commitCheck, R260). An AMEND of no pulse with a
newer AVER keeps the AVER; a CANCEL takes the pulses of its mask that start 64 link units on or later; of a handle the
side does not hold it is acknowledged with RESULT 6 and changes no pulse (R261, R262). A frame of a reserved type is
discarded, counted and reported (R241). Said of states in which no cork is overdue (R62). -/
def Obligations.tile_pulse_frames : Prop :=
  (∀ (s : State) (t : Fin 64) (sd : Bool) (seq handle vint : Nat) (rev : Bool) (pulses : List PulseEntry), s.dev.corksFresh → s.dev.tileTakes t sd seq 3 →
      s.dev.commitCheck t sd handle (pulses.map ((s.dev.ts t sd).entry (s.dev.tlu t sd) handle)) ≠ 0 →
    Completes (.commit t sd .good seq handle vint rev pulses) s fun e =>
      (e.ts t sd).pulses = (s.dev.ts t sd).pulses
        ∧ e.tileAcked t sd seq (s.dev.commitCheck t sd handle (pulses.map ((s.dev.ts t sd).entry (s.dev.tlu t sd) handle))))
  ∧ (∀ (s : State) (t : Fin 64) (sd : Bool) (seq handle vint : Nat) (rev : Bool) (pulses : List PulseEntry), s.dev.corksFresh → s.dev.passes t sd = true →
    Runs (.commit t sd .reserved seq handle vint rev pulses) s fun d => d.treserved t sd)
  ∧ (∀ (s : State) (t : Fin 64) (sd : Bool) (seq handle vint : Nat) (rev : Bool) (pulses : List PulseEntry), s.dev.corksFresh → s.dev.tileTakes t sd seq 3 →
      s.dev.commitCheck t sd handle (pulses.map ((s.dev.ts t sd).entry (s.dev.tlu t sd) handle)) = 0 →
    Runs (.commit t sd .good seq handle vint rev pulses) s fun d =>
      let ps := pulses.map ((d.ts t sd).entry (d.tlu t sd) handle)
      Dev.tileEnd t sd seq ((d.offAbandon t sd ps).upTs t sd (fun x => { x with pulses := x.pulses ++ ps, avers := smDel x.avers handle }), 0, 0))
  ∧ (∀ (s : State) (t : Fin 64) (sd : Bool) (seq handle aver pmask : Nat) (times : List (Nat × Nat)), s.dev.corksFresh → s.dev.tileTakes t sd seq 3 → s.dev.handleHeld t sd handle = true →
      averNewer aver (smGet (s.dev.ts t sd).avers 0 handle) = true → maskBits pmask = [] →
    Completes (.amend t sd true seq handle aver pmask times) s fun e =>
      smGet (e.ts t sd).avers 0 handle = aver ∧ (e.ts t sd).pulses = (s.dev.ts t sd).pulses ∧ e.tileAcked t sd seq 0)
  ∧ (∀ (s : State) (t : Fin 64) (sd : Bool) (seq handle pmask : Nat), s.dev.corksFresh → s.dev.tileTakes t sd seq 3 → s.dev.handleHeld t sd handle = true → maskBits pmask = [] →
    Completes (.cancel t sd true seq handle pmask) s fun e =>
      (e.ts t sd).pulses = (s.dev.ts t sd).pulses.filter (fun p => !(p.handle == handle && bitOf pmask p.pidx && decide (s.dev.tlu t sd + 64 ≤ p.start)))
        ∧ e.tileAcked t sd seq 0)
  ∧ ∀ (s : State) (t : Fin 64) (sd : Bool) (seq handle pmask : Nat), s.dev.corksFresh → s.dev.tileTakes t sd seq 3 → s.dev.handleHeld t sd handle = false →
    Completes (.cancel t sd true seq handle pmask) s fun e => (e.ts t sd).pulses = (s.dev.ts t sd).pulses ∧ e.tileAcked t sd seq 6

/-- For frames that reach the side through open ports. ECHO_REQ is answered with its tag and time (R253), DISCOVER in
UNADDR addresses the side and is answered with one frame, an IDENT (R270, R271), a register is read with its result
(R284) and written with the effect of the register (Dev.tileWrite), TIME marks the side fresh and is answered with one
frame, a STATUS, after which the counts it carried begin anew (R256), RESET resets the side, and with BEYOND every
side beyond it that the frame reaches (Dev.sideReset, R268). A damaged ECHO_REQ is answered by nothing. Said of states
in which no cork is overdue (R62). -/
def Obligations.tile_other_frames : Prop :=
  (∀ (s : State) (t : Fin 64) (sd : Bool) (etag tt : Nat), s.dev.corksFresh → s.dev.passes t sd = true → 1 ≤ (s.dev.ts t sd).st →
    Completes (.echoReq t sd true etag tt) s fun e =>
      (e.ts t sd).up = (s.dev.ts t sd).up ++ [⟨0x12, [etag % 65536, tt % 2 ^ 24, 0], (s.dev.ts t sd).pos⟩] ∧ Dev.tilesElse s.dev e t ∧ { e with tile := s.dev.tile } = s.dev)
  ∧ (∀ (s : State) (t : Fin 64) (sd dside : Bool) (proto : Nat) (pos : Fin 4), s.dev.corksFresh → s.dev.passes t sd = true → (s.dev.ts t sd).st = 0 →
    Completes (.discover t sd true proto dside pos) s fun e =>
      (e.ts t sd).st = 1 ∧ (e.ts t sd).pos = pos ∧ (e.ts t sd).sd = dside ∧ (e.ts t sd).up.length = (s.dev.ts t sd).up.length + 1
        ∧ Dev.tilesElse s.dev e t ∧ { e with tile := s.dev.tile } = s.dev)
  ∧ (∀ (s : State) (t : Fin 64) (sd : Bool) (addr : Nat), s.dev.corksFresh → s.dev.passes t sd = true → 1 ≤ (s.dev.ts t sd).st →
    Completes (.regrd t sd true addr) s fun e =>
      (e.ts t sd).up = (s.dev.ts t sd).up ++
        [⟨0x17, [(s.dev.tileRead t sd (addr % 65536)).1 * 2 ^ 16 + addr % 65536, (s.dev.tileRead t sd (addr % 65536)).2], (s.dev.ts t sd).pos⟩]
        ∧ Dev.tilesElse s.dev e t ∧ { e with tile := s.dev.tile } = s.dev)
  ∧ (∀ (s : State) (t : Fin 64) (sd : Bool) (seq addr data : Nat), s.dev.corksFresh → s.dev.tileTakes t sd seq 1 →
    Runs (.regwr t sd true seq addr data) s fun d =>
      Dev.tileEnd t sd seq ((d.tileWrite t sd (addr % 65536) data).1, (d.tileWrite t sd (addr % 65536) data).2, 0))
  ∧ (∀ (s : State) (t : Fin 64) (sd : Bool) (stamp : Nat), s.dev.corksFresh → s.dev.passes t sd = true → 2 ≤ (s.dev.ts t sd).st →
    Completes (.time t sd true stamp) s fun e =>
      (e.ts t sd).fresh = true ∧ (e.ts t sd).tstep = false ∧ (e.ts t sd).wdrop = 0 ∧ (e.ts t sd).cv0 = 0 ∧ (e.ts t sd).cv1 = 0 ∧ (e.ts t sd).up.length = (s.dev.ts t sd).up.length + 1
        ∧ Dev.tilesElse s.dev e t ∧ { e with tile := s.dev.tile } = s.dev)
  ∧ (∀ (s : State) (t : Fin 64) (sd : Bool) (seq : Nat) (beyond : Bool), s.dev.corksFresh → s.dev.passes t sd = true →
    Runs (.ctlReset t sd true seq beyond) s fun d =>
      forN 4 (fun x q => if q == t.val % 4 || (beyond && decide (t.val % 4 < q) && d.passes (t.val / 4 * 4 + q) sd) then x.sideReset (t.val / 4 * 4 + q) sd else x) d)
  ∧ ∀ (s : State) (t : Fin 64) (sd : Bool) (etag tt : Nat), s.dev.corksFresh →
    Completes (.echoReq t sd false etag tt) s fun e => (e.ts t sd).up = (s.dev.ts t sd).up ∧ e.reg = s.dev.reg

/-- The receiver's verdict on a frame (R239) comes with the command that brings it. A frame from a tile that is discarded
increments TLKn_CNT0.DISC of the link, saturating, and changes no other register and nothing else of the device. A
frame to a tile that is discarded sends nothing up and leaves both sides of every tile, but for the registers of the
tiles in which it is counted, and everything outside the tiles as they were. Neither is acknowledged. Said of states
in which no cork is overdue (R62) and the reset of the command's domain (CORE) is released. -/
def Obligations.damaged_link_frames_are_discarded : Prop :=
  (∀ (s : State) (c : Instr) (n : Fin 16) (p : Fin 4), s.coreRuns →
    ((∃ seq result pmask arr, c = .ack n p false seq result pmask arr) ∨ (∃ etag tt res rtt, c = .echoRsp n p false etag tt res rtt)
      ∨ (∃ handle pidx out status start stop ipk i2t, c = .done n p false handle pidx out status start stop ipk i2t)
      ∨ (∃ w1 w2 w3, c = .status n p false w1 w2 w3) ∨ (∃ level out code data, c = .diag n p false level out code data)
      ∨ (∃ vendor type rev proto nout iv two slots serial fwdlat, c = .ident n p false vendor type rev proto nout iv two slots serial fwdlat)
      ∨ (∃ result addr data, c = .regdata n p false result addr data)
      ∨ ∃ handle wseq kind out t0 samples, c = .wave n p false handle wseq kind out t0 samples) →
    Completes c s fun e =>
      e.get (F.TLK_CNT0_DISC n) = min (s.dev.get (F.TLK_CNT0_DISC n) + 1) 0xFFFF
        ∧ e.get (F.TLK_CNT0_RETX n) = s.dev.get (F.TLK_CNT0_RETX n) ∧ Dev.onlyRegs s.dev e [R.TLK_CNT0 n])
  ∧ ∀ (s : State) (c : Instr) (t : Fin 64) (sd : Bool), s.dev.corksFresh →
    ((∃ seq handle vint rev pulses, c = .commit t sd .damaged seq handle vint rev pulses)
      ∨ (∃ seq handle aver pmask times, c = .amend t sd false seq handle aver pmask times) ∨ (∃ seq handle pmask, c = .cancel t sd false seq handle pmask)
      ∨ (∃ stamp, c = .time t sd false stamp) ∨ (∃ seq stamp stepc dly, c = .timeset t sd false seq stamp stepc dly)
      ∨ (∃ etag tt, c = .echoReq t sd false etag tt) ∨ (∃ proto dside pos, c = .discover t sd false proto dside pos)
      ∨ (∃ seq addr data, c = .regwr t sd false seq addr data) ∨ (∃ addr, c = .regrd t sd false addr)
      ∨ (∃ seq prf words, c = .prfset t sd false seq prf words) ∨ (∃ seq w1 w2, c = .pwr t sd false seq w1 w2)
      ∨ (∃ seq beyond, c = .ctlReset t sd false seq beyond) ∨ (∃ seq, c = .ctlDsopen t sd false seq) ∨ (∃ seq, c = .ctlDsclose t sd false seq)
      ∨ (∃ seq, c = .ctlSwapDn t sd false seq) ∨ (∃ seq, c = .ctlSwapUp t sd false seq) ∨ ∃ seq on, c = .ctlMirror t sd false seq on) →
    Completes c s fun e => (∀ u b, e.ts u b = s.dev.ts u b) ∧ { e with tile := s.dev.tile, fltNew := s.dev.fltNew } = s.dev

/-- An ACK settles the frame of its SEQ and lets the next one go (R243-R251); ECHO_RSP enters a delay, and the last of the
burst sends TIMESET (R253-R255); DONE begins the closing window of its pulse where none has begun, closes the pulse
(R264) and heats its channel, and one of no pulse held, on a channel whose thermal model is off, changes nothing;
STATUS is shown and judged (R256, R272); DIAG 0x18 and 0x10 drive their causes, as Dev.cdtDiag says for every drive
and link code (R327); IDENT that passes the check leads to FOUND, to mirroring where the link mirrors, and to the
echoes, and one with another protocol version to the error (R270); REGDATA of the address of the access under way
completes the access of TILn_DATA (R284); WAVE adds its samples to the closing window of its handle that its time
names (Dev.winsUpTo, Dev.waveJoin, R299, R301). Said of states in which no cork is overdue (R62) and the reset of the
command's domain (CORE) is released. -/
def Obligations.tile_frames_at_the_link : Prop :=
  (∀ (s : State) (n : Fin 16) (p : Fin 4) (seq result pmask arr : Nat) (f : DFrame), s.coreRuns →
      (s.dev.lp n p).unack.find? (fun g => g.seq == seq) = some f →
    Runs (.ack n p true seq result pmask arr) s fun d =>
      let x := d.lp n p
      let d2 := ((d.setLp n p { x with unack := x.unack.filter (fun g => g.seq != seq) }).txDrop n (fun g => g.pos == p.val && g.seq == seq)).ackFrame n p f result pmask arr
      d2.pump n p (d2.lp n p).wait.length)
  ∧ (∀ (s : State) (n : Fin 16) (p : Fin 4) (seq result pmask arr : Nat), s.coreRuns →
      (s.dev.lp n p).unack.find? (fun g => g.seq == seq) = none →
    Completes (.ack n p true seq result pmask arr) s fun e => { e with fltNew := s.dev.fltNew } = s.dev)
  ∧ (∀ (s : State) (n : Fin 16) (p : Fin 4) (etag tt res rtt : Nat), s.coreRuns → s.dev.reached n p = true → s.dev.linkUp n = true →
      (s.dev.lp n p).echo.length + 1 < s.dev.echon n →
    Completes (.echoRsp n p true etag tt res rtt) s fun e =>
      (e.lp n p).echo = (s.dev.lp n p).echo ++ [(rtt : Int) - tt - res] ∧ (e.lp n p).left = (s.dev.lp n p).left - 1
        ∧ { e with lnk := s.dev.lnk, fltNew := s.dev.fltNew } = s.dev)
  ∧ (∀ (s : State) (n : Fin 16) (p : Fin 4) (etag tt res rtt : Nat), s.coreRuns → s.dev.reached n p = true → s.dev.linkUp n = true →
      (s.dev.lp n p).echo.length + 1 = s.dev.echon n → (s.dev.lp n p).stage = 2 →
    Runs (.echoRsp n p true etag tt res rtt) s fun d =>
      let x := d.lp n p
      let l := x.echo ++ [(rtt : Int) - tt - res]
      ((d.setLp n p { x with echo := l, left := x.left - 1 }).upLp n p (fun y => { y with stage := 3 })).sendTimeset n p true (meanDelay l % 2 ^ 24))
  ∧ (∀ (s : State) (n : Fin 16) (p : Fin 4) (handle : Nat) (pidx out : Fin 8) (status start stop ipk i2t : Nat), s.coreRuns →
      s.dev.byHandle (tileNo n p) handle (fun q => q.pidx == pidx.val) = none → s.dev.flag (F.CDT_CH_CFG_TEN (8 * tileNo n p + out.val)) = false →
    Completes (.done n p true handle pidx out status start stop ipk i2t) s fun e => { e with fltNew := s.dev.fltNew } = s.dev)
  ∧ (∀ (s : State) (n : Fin 16) (p : Fin 4) (handle : Nat) (pidx out : Fin 8) (status start stop ipk i2t : Nat) (x : Occ × OPulse), s.coreRuns →
      s.dev.byHandle (tileNo n p) handle (fun q => q.pidx == pidx.val) = some x →
    Runs (.done n p true handle pidx out status start stop ipk i2t) s fun d =>
      let y := (d.winOpen x.1 x.2).upWins x.2.ch (fun w => w.uid == x.1.uid && w.pidx == pidx.val) (fun w => { w with done := some status })
      let z := y.setOcc { x.1 with pulses := x.1.pulses.map (fun (q : OPulse) => if q.pidx == pidx.val && q.status.elim false (fun c => decide (100 ≤ c)) then { q with status := none } else q) }
      (z.finish x.1.uid (doneOutcome x.1.clamped status) (fun q => q.pidx == pidx.val)).thermHeat (8 * tileNo n p + out.val) i2t)
  ∧ (∀ (s : State) (n : Fin 16) (p : Fin 4) (w1 w2 w3 : Nat), s.coreRuns → s.dev.reached n p = true → s.dev.linkUp n = true →
    Runs (.status n p true w1 w2 w3) s fun d => (d.driveStatus (tileNo n p) w2 w3).linkStatus n p w1 w2)
  ∧ (∀ (s : State) (n : Fin 16) (p : Fin 4) (level : Bool) (out : Fin 8) (data : Nat), s.coreRuns → s.dev.reached n p = true → s.dev.linkUp n = true →
    Runs (.diag n p true level out 0x18 data) s fun d =>
      (d.putB (F.CDT_CH_STAT_OPEN_ON (8 * tileNo n p + out.val)) level).cause 12 4 (8 * tileNo n p + out.val) 2 level)
  ∧ (∀ (s : State) (n : Fin 16) (p : Fin 4) (level : Bool) (out : Fin 8) (data : Nat), s.coreRuns → s.dev.reached n p = true → s.dev.linkUp n = true →
    Runs (.diag n p true level out 0x10 data) s fun d => d.cause 12 8 (tileNo n p) 1 level)
  ∧ (∀ (s : State) (n : Fin 16) (p : Fin 4) (level : Bool) (out : Fin 8) (code data : Nat), s.coreRuns → s.dev.reached n p = true → s.dev.linkUp n = true →
      (code < 0x08 ∨ 0x0B < code) →
    Runs (.diag n p true level out code data) s fun d => d.cdtDiag n p level out code)
  ∧ (∀ (s : State) (n : Fin 16) (p : Fin 4) (vendor type rev slots serial fwdlat : Nat) (iv two : Bool), s.coreRuns → (s.dev.lp n p).stage = 1 →
      s.dev.linkUp n = true → 16 ≤ slots →
    Runs (.ident n p true vendor type rev 1 8 iv two slots serial fwdlat) s fun d =>
      let x := ((d.put (F.TLK_POS_TYPE n p) type).put (F.TLK_POS_STATE n p) 1).upLp n p (fun x => { x with stage := 2, echo := [] })
      (if x.flag (F.TLK_LANE_MIRROR n) then x.sendRel n p 12 [6 + 2 ^ 8] 0 0 0 else x).echoBurst n p)
  ∧ (∀ (s : State) (n : Fin 16) (p : Fin 4) (vendor type rev proto nout slots serial fwdlat : Nat) (iv two : Bool), s.coreRuns → (s.dev.lp n p).stage = 1 →
      s.dev.linkUp n = true → proto ≠ 1 →
    Completes (.ident n p true vendor type rev proto nout iv two slots serial fwdlat) s fun e =>
      e.get (F.TLK_POS_STATE n p) = 5 ∧ e.get (F.TLK_POS_TYPE n p) = type % 2 ^ 16 ∧ (e.lp n p).stage = 0)
  ∧ (∀ (s : State) (n : Fin 16) (p : Fin 4) (addr data : Nat), s.coreRuns → s.dev.flag (F.TIL_STAT_BUSY n) = true → (s.dev.lk n).tilWr = false →
      (s.dev.lk n).tilPos = p.val → (s.dev.lk n).tilAddr = addr % 65536 →
    Completes (.regdata n p true 0 addr data) s fun e =>
      e.rd (R.TIL_DATA n) = BitVec.ofNat 32 data ∧ e.flag (F.TIL_STAT_RDY n) = true ∧ e.flag (F.TIL_STAT_BUSY n) = false
        ∧ e.get (F.TIL_STAT_RESULT n) = 0 ∧ Dev.onlyRegs s.dev e [R.TIL_ADDR n, R.TIL_DATA n, R.TIL_STAT n])
  ∧ ∀ (s : State) (n : Fin 16) (p : Fin 4) (handle wseq kind : Nat) (out : Fin 8) (t0 : Nat) (samples : List Int), s.coreRuns →
      s.dev.flag F.CDT_CAP_EN = false →
      ((s.dev.winsUpTo handle (8 * tileNo n p + out.val) (nearest 32 s.dev.tLink t0)).waveJoin (8 * tileNo n p + out.val) handle (wseq % 256)
        (nearest 32 s.dev.tLink t0) (voltages kind samples)).flag F.CDT_CAP_EN = false →
    Runs (.wave n p true handle wseq kind out t0 samples) s fun d =>
      (d.winsUpTo handle (8 * tileNo n p + out.val) (nearest 32 d.tLink t0)).waveJoin (8 * tileNo n p + out.val) handle (wseq % 256)
        (nearest 32 d.tLink t0) (voltages kind samples)

/-- A period sends its frame (R248, R253); a frame unacknowledged is sent again with its RETX count while RETRY allows
(R249); no IDENT leads back to ABSENT (R270); a lost lock or lost STATUS loses the positions (R272); hop 0 lock shows
in LOCK (R270); REDISC starts discovery again (R270); the tile power enables of a link that is off only change their
bits (R275). Said of states in which no cork is overdue (R62) and the reset of the command's domain (CORE) is
released. -/
def Obligations.link_periods_and_losses : Prop :=
  (∀ (s : State) (n : Fin 16) (p : Fin 4) (seq : Nat) (f : DFrame), s.coreRuns → (s.dev.lp n p).unack.find? (fun g => g.seq == seq) = some f →
      f.retr < s.dev.get (F.TLK_CFG_RETRY n) →
    Runs (.ackTimeout n p seq) s fun d =>
      let x := d.lp n p
      let g := { f with retr := f.retr + 1 }
      ((d.setLp n p { x with unack := x.unack.map (fun h => if h.seq == seq then g else h) }).incSat (F.TLK_CNT0_RETX n)).txAdd n g)
  ∧ (∀ (s : State) (n : Fin 16) (p : Fin 4) (seq : Nat) (f : DFrame), s.coreRuns → (s.dev.lp n p).unack.find? (fun g => g.seq == seq) = some f →
      s.dev.get (F.TLK_CFG_RETRY n) ≤ f.retr →
    Runs (.ackTimeout n p seq) s fun d => (d.raise 10 2 (tileNo n p) 2).posLost n p)
  ∧ (∀ (s : State) (n : Fin 16), s.coreRuns → s.dev.linkUp n = true → Runs (.timePeriod n) s fun d => d.sendUn n 0 4 [0, 0])
  ∧ (∀ (s : State) (n : Fin 16) (p : Fin 4), s.coreRuns → s.dev.linkUp n = true → s.dev.reached n p = true → s.dev.silent = true →
    Completes (.echoPeriod n p) s fun e =>
      (e.lp n p).etag = ((s.dev.lp n p).etag + 1) % 65536 ∧ { e with lnk := s.dev.lnk, fltNew := s.dev.fltNew } = s.dev)
  ∧ (∀ (s : State) (n : Fin 16) (p : Fin 4), s.coreRuns → s.dev.linkUp n = true → s.dev.reached n p = true →
    Runs (.echoPeriod n p) s fun d =>
      (d.setLp n p { d.lp n p with etag := ((d.lp n p).etag + 1) % 65536 }).sendUn n p 6 [(d.lp n p).etag])
  ∧ (∀ (s : State) (n : Fin 16) (p : Fin 4), s.coreRuns → (s.dev.lp n p).stage = 1 →
    Completes (.identTimeout n p) s fun e =>
      e.get (F.TLK_POS_STATE n p) = 0 ∧ (e.lp n p).stage = 0 ∧ (∀ a, a ≠ R.TLK_POS n p → e.rd a = s.dev.rd a)
        ∧ { e with reg := s.dev.reg, lnk := s.dev.lnk, fltNew := s.dev.fltNew } = s.dev)
  ∧ (∀ (s : State) (n : Fin 16) (p : Fin 4), s.coreRuns → s.dev.flag (F.TLK_CTL_AUTODISC n) = true →
    Runs (.discoverRetry n p) s fun d => d.tryDiscover n p)
  ∧ (∀ (s : State) (n : Fin 16), s.coreRuns → s.dev.lgOn n = true → s.dev.flag (F.TLK_CTL_AUTODISC n) = false →
    Completes (.hop0LockGained n) s fun e =>
      e.flag (F.TLK_STAT_LOCK n) = true ∧ Dev.onlyRegs s.dev e [R.TLK_STAT n])
  ∧ (∀ (s : State) (n : Fin 16), s.coreRuns → s.dev.flag (F.TLK_STAT_LOCK n) = true →
    Runs (.lockLost n) s fun d => ((d.put (F.TLK_STAT_LOCK n) 0).raise 10 0 (tileNo n 0) 2).posLost n 0)
  ∧ (∀ (s : State) (n : Fin 16) (p : Fin 4), s.coreRuns → s.dev.reached n p = true →
    Runs (.statusTimeout n p) s fun d => forN 4 (fun x q => if p.val ≤ q then x.posGone n q else x) d)
  ∧ (∀ (s : State) (req : Fin 10) (n : Fin 16), s.coreRuns → s.dev.lgOn n = true → Runs (.redisc req n) s fun d => d.redisc n)
  ∧ ∀ (s : State) (req : Fin 10) (m : Fin 2) (value : Nat), s.coreRuns →
    Runs (.tlkTpwrEn req m value) s fun d => d.tpwrWrite m value

/-- What lanes carry are data characters and the special characters of R237 (Chr.legal). For a link group that is on: a
planned swap runs as Dev.planSwap says (R277, R278): over a trained spare of a link that is up it counts, and on hop 0
down exchanges the lanes of the device's transmitter, elsewhere commands the tile at the hop's upper end; without a
trained spare it is LANE_FAIL (Dev.laneFail, R281). At the end of a span the code violations of a hop direction are
taken and its count begins anew; with AUTO and more than BERTH of them a planned swap follows (R278). LSWAP exchanges
the lanes at the receiver and starts the echoes beyond (R277, R280); a lost working lane takes the trained spare and
counts (R279); a lane failure loses the spare and sets its level condition (R281); a spare whose transmitter mirrors
it is trained (R276) and changes no register where no cause is present; TLK_CNT_CLR clears the counters of the links
it names. Said of states in which no cork is overdue (R62) and the reset of the command's domain (CORE) is released. -/
def Obligations.link_lanes : Prop :=
  (∀ (h : Nat) (ws : List Nat), (frameChars h ws ++ idleSet ++ swapMark ++ [chAbort]).all Chr.legal = true)
  ∧ (∀ (s : State) (req : Fin 10) (n : Fin 16), s.coreRuns → s.dev.lgOn n = true → s.dev.linkUp n = true → s.dev.sok n 0 false = true →
    Runs (.swdn req n 0) s fun d => ((d.incSat (F.TLK_CNT1_SWAPS n)).laneLog).swapOwn n)
  ∧ (∀ (s : State) (req : Fin 10) (n : Fin 16) (p : Fin 4), s.coreRuns → s.dev.lgOn n = true → s.dev.linkUp n = true → s.dev.sok n p false = true → p.val ≠ 0 →
    Runs (.swdn req n p) s fun d => ((d.incSat (F.TLK_CNT1_SWAPS n)).laneLog).sendRel n (p - 1 : Nat) 12 [4] 0 0 0)
  ∧ (∀ (s : State) (req : Fin 10) (n : Fin 16) (p : Fin 4), s.coreRuns → s.dev.lgOn n = true → s.dev.linkUp n = true → s.dev.sok n p true = true →
    Runs (.swup req n p) s fun d => ((d.incSat (F.TLK_CNT1_SWAPS n)).laneLog).sendRel n p 12 [5] 0 0 0)
  ∧ (∀ (s : State) (n : Fin 16) (p : Fin 4) (cv : Nat), s.coreRuns → s.dev.flag (F.TLK_LANE_AUTO n) = true → s.dev.get (F.TLK_LANE_BERTH n) < (s.dev.lp n p).cvD →
    Runs (.autoSwap n p ⟨false, cv⟩) s fun d => ((d.laneCv n p false cv).upLp n p (fun x => { x with cvD := 0 })).planSwap n p false)
  ∧ (∀ (s : State) (n : Fin 16) (cv : Nat), s.coreRuns → s.dev.flag (F.TLK_LANE_AUTO n) = true → s.dev.get (F.TLK_LANE_BERTH n) < cv →
    Runs (.autoSwap n 0 ⟨true, cv⟩) s fun d => (d.upLp n 0 (fun x => { x with cvU := 0 })).planSwap n 0 true)
  ∧ (∀ (s : State) (n : Fin 16) (p : Fin 4) (up : Bool) (cv : Nat), s.coreRuns → s.dev.flag (F.TLK_LANE_AUTO n) = false →
    Runs (.autoSwap n p ⟨up, cv⟩) s fun d => (d.laneCv n p up cv).upLp n p (fun x => if up then { x with cvU := 0 } else { x with cvD := 0 }))
  ∧ (∀ (s : State) (req : Fin 10) (n : Fin 16) (p : Fin 4), s.coreRuns → s.dev.lgOn n = true → s.dev.linkUp n = true → s.dev.sok n p false = false →
    Runs (.swdn req n p) s fun d => d.laneFail n p false)
  ∧ (∀ (s : State) (req : Fin 10) (n : Fin 16) (p : Fin 4), s.coreRuns → s.dev.lgOn n = true → s.dev.linkUp n = true → s.dev.sok n p true = false →
    Runs (.swup req n p) s fun d => d.laneFail n p true)
  ∧ (∀ (s : State) (n : Fin 16), s.coreRuns →
    Completes (.lswap n 0 true) s fun e =>
      e.get (spup n 0) = 1 - s.dev.get (spup n 0) ∧ e.sok n 0 true = false ∧ (∀ a, a ≠ R.TLK_LANE n → e.rd a = s.dev.rd a)
        ∧ (∀ t, Dev.tilesElse s.dev e t) ∧ { e with reg := s.dev.reg, lnk := s.dev.lnk, tile := s.dev.tile } = s.dev)
  ∧ (∀ (s : State) (n : Fin 16) (p : Fin 4) (up : Bool), s.coreRuns → s.dev.trained n p up = true →
    Runs (.workingLaneLoss n p up) s fun d => (((d.laneTake n p up).incSat (F.TLK_CNT1_SWAPS n)).laneLog).echoBeyond n p)
  ∧ (∀ (s : State) (n : Fin 16) (p : Fin 4) (up : Bool), s.coreRuns → (if up then (s.dev.lp n p).failU else (s.dev.lp n p).failD) = true →
    Completes (.laneFail n p up) s fun e =>
      e.sok n p up = false ∧ { e with lnk := s.dev.lnk, fltNew := s.dev.fltNew } = s.dev)
  ∧ (∀ (s : State) (n : Fin 16) (p : Fin 4) (up : Bool), s.coreRuns → Runs (.laneFail n p up) s fun d => (d.setSok n p up false).laneFail n p up)
  ∧ (∀ (s : State) (n : Fin 16) (p : Fin 4) (up : Bool), s.coreRuns → Runs (.lswap n p up) s fun d => (d.laneTake n p up).echoBeyond n p)
  ∧ (∀ (s : State) (n : Fin 16) (p : Fin 4) (up : Bool) (skew : Int), s.coreRuns → s.dev.mirrors n p up = true →
    Runs (.spareTrained n p up skew) s fun d => ((d.laneOk n p up).setSkew n p up skew).setTrained n p d.mySide up true)
  ∧ (∀ (s : State) (n : Fin 16) (skew : Int), s.coreRuns → s.dev.causes = [] → s.dev.mirrors n 0 true = true →
    Completes (.spareTrained n 0 true skew) s fun e => e.sok n 0 true = true ∧ (e.lk n).skew0U = skew ∧ Dev.still { e with lnk := s.dev.lnk } = s.dev.still)
  ∧ ∀ (s : State) (req : Fin 10) (mask : Nat), s.coreRuns →
    Completes (.tlkCntClr req mask) s fun e =>
      (∀ n, n < 16 → bitOf mask n = true → s.dev.lgOn n = true → e.rd (R.TLK_CNT0 n) = 0 ∧ e.rd (R.TLK_CNT1 n) = 0 ∧ e.rd (R.TLK_LAT n) = 0)
        ∧ (∀ n, n < 16 → bitOf mask n = false → e.rd (R.TLK_CNT0 n) = s.dev.rd (R.TLK_CNT0 n) ∧ e.rd (R.TLK_CNT1 n) = s.dev.rd (R.TLK_CNT1 n) ∧ e.rd (R.TLK_LAT n) = s.dev.rd (R.TLK_LAT n))
        ∧ e.noRegs = s.dev.noRegs

/-- While BUSY is clear and the position is reached, a write of TILn_DATA sends REGWR and a read REGRD, BUSY sets and RDY
clears; a position not reached completes at once with RESULT 0xFE; while BUSY is set a write is discarded and a read
returns the last completed read; the time-out completes with RESULT 0xFF (R284). Said of states in which no cork is
overdue (R62) and the reset of the command's domain (CORE) is released. -/
def Obligations.tile_register_access : Prop :=
  (∀ (s : State) (req : Fin 10) (n : Fin 16), s.coreRuns → s.dev.lgOn n = true → s.dev.flag (F.TIL_STAT_BUSY n) = true →
    Completes (.tilDataRead req n) s fun e =>
      e.bus = ⟨req, (s.dev.rd (R.TIL_DATA n)).toNat⟩ ∧ { e with bus := s.dev.bus, fltNew := s.dev.fltNew } = s.dev)
  ∧ (∀ (s : State) (req : Fin 10) (n : Fin 16), s.coreRuns → s.dev.lgOn n = true → s.dev.flag (F.TIL_STAT_BUSY n) = false →
      s.dev.linkUp n = true → s.dev.reached n (s.dev.get (F.TIL_ADDR_POS n)) = true → s.dev.silent = true →
    Completes (.tilDataRead req n) s fun e =>
      e.bus = ⟨req, (s.dev.rd (R.TIL_DATA n)).toNat⟩ ∧ e.flag (F.TIL_STAT_BUSY n) = true ∧ e.flag (F.TIL_STAT_RDY n) = false
        ∧ (e.lk n).tilWr = false ∧ (e.lk n).tilPos = s.dev.get (F.TIL_ADDR_POS n) ∧ (∀ a, a ≠ R.TIL_STAT n → e.rd a = s.dev.rd a)
        ∧ { e with bus := s.dev.bus, reg := s.dev.reg, lnk := s.dev.lnk, fltNew := s.dev.fltNew } = s.dev)
  ∧ (∀ (s : State) (req : Fin 10) (n : Fin 16), s.coreRuns → s.dev.lgOn n = true → s.dev.flag (F.TIL_STAT_BUSY n) = false →
      s.dev.linkUp n = true → s.dev.reached n (s.dev.get (F.TIL_ADDR_POS n)) = true →
    Runs (.tilDataRead req n) s fun d =>
      (((((d.ret req (d.rd (R.TIL_DATA n)).toNat).put (F.TIL_STAT_RDY n) 0).put (F.TIL_STAT_BUSY n) 1).upLk n
        (fun l => { l with tilWr := false, tilPos := d.get (F.TIL_ADDR_POS n), tilId := l.tilId + 1, tilAddr := d.get (F.TIL_ADDR_ADDR n) })).sendUn n (d.get (F.TIL_ADDR_POS n)) 9 [d.get (F.TIL_ADDR_ADDR n)]))
  ∧ (∀ (s : State) (req : Fin 10) (n : Fin 16), s.coreRuns → s.dev.lgOn n = true → s.dev.flag (F.TIL_STAT_BUSY n) = false →
      s.dev.reached n (s.dev.get (F.TIL_ADDR_POS n)) = false →
    Completes (.tilDataRead req n) s fun e =>
      e.bus = ⟨req, (s.dev.rd (R.TIL_DATA n)).toNat⟩ ∧ e.get (F.TIL_STAT_RESULT n) = 0xFE ∧ e.flag (F.TIL_STAT_BUSY n) = false
        ∧ e.flag (F.TIL_STAT_RDY n) = false ∧ (∀ a, a ≠ R.TIL_STAT n → a ≠ R.TIL_ADDR n → e.rd a = s.dev.rd a)
        ∧ { e with bus := s.dev.bus, reg := s.dev.reg, fltNew := s.dev.fltNew } = s.dev)
  ∧ (∀ (s : State) (req : Fin 10) (n : Fin 16) (data : Nat), s.coreRuns → s.dev.lgOn n = true → s.dev.flag (F.TIL_STAT_BUSY n) = true →
    Completes (.tilDataWrite req n data) s fun e => { e with fltNew := s.dev.fltNew } = s.dev)
  ∧ (∀ (s : State) (req : Fin 10) (n : Fin 16) (data : Nat), s.coreRuns → s.dev.lgOn n = true → s.dev.flag (F.TIL_STAT_BUSY n) = false →
      s.dev.linkUp n = true → s.dev.reached n (s.dev.get (F.TIL_ADDR_POS n)) = true →
    Runs (.tilDataWrite req n data) s fun d =>
      ((((d.put (F.TIL_STAT_RDY n) 0).put (F.TIL_STAT_BUSY n) 1).upLk n
        (fun l => { l with tilWr := true, tilPos := d.get (F.TIL_ADDR_POS n), tilId := l.tilId + 1, tilAddr := d.get (F.TIL_ADDR_ADDR n) })).sendRel n
        (d.get (F.TIL_ADDR_POS n)) 8 [d.get (F.TIL_ADDR_ADDR n), data % 2 ^ 32] ((d.lk n).tilId + 1) 0 1))
  ∧ (∀ (s : State) (req : Fin 10) (n : Fin 16) (data : Nat), s.coreRuns → s.dev.lgOn n = true → s.dev.flag (F.TIL_STAT_BUSY n) = false →
      s.dev.reached n (s.dev.get (F.TIL_ADDR_POS n)) = false →
    Completes (.tilDataWrite req n data) s fun e =>
      e.get (F.TIL_STAT_RESULT n) = 0xFE ∧ e.flag (F.TIL_STAT_BUSY n) = false ∧ e.flag (F.TIL_STAT_RDY n) = false
        ∧ Dev.onlyRegs s.dev e [R.TIL_STAT n, R.TIL_ADDR n])
  ∧ ∀ (s : State) (n : Fin 16), s.coreRuns → s.dev.flag (F.TIL_STAT_BUSY n) = true →
    Completes (.tilTimeout n) s fun e =>
      e.get (F.TIL_STAT_RESULT n) = 0xFF ∧ e.flag (F.TIL_STAT_BUSY n) = false ∧ e.flag (F.TIL_STAT_RDY n) = s.dev.flag (F.TIL_STAT_RDY n)
        ∧ (s.dev.flag (F.TIL_ADDR_AINC n) = true → e.get (F.TIL_ADDR_ADDR n) = (s.dev.get (F.TIL_ADDR_ADDR n) + 1) % 65536)
        ∧ Dev.onlyRegs s.dev e [R.TIL_STAT n, R.TIL_ADDR n]

/-- Losing the upstream lock or the link watchdog leaves the side in UNADDR without SEQs or closing records, the pulses
kept only on the side that holds the lease (R268); gaining lock shows on the side; power-on leaves both sides as at
power-on (R285); the downstream presence is held and its loss reported (R274); a waveform frame that still waits in
the tile at its time limit is dropped and counted, at most 255, and one that has left is not (R282); FRESH ends where
the side does not hold the lease (R356). Said of states in which no cork is overdue (R62). -/
def Obligations.tile_link_events : Prop :=
  (∀ (s : State) (t : Fin 64) (sd : Bool), s.dev.corksFresh →
    Completes (.tileUpstreamLockLoss t sd) s fun e =>
      (e.ts t sd).st = 0 ∧ (e.ts t sd).locked = false ∧ (e.ts t sd).seqs = [] ∧ (e.ts t sd).dsopen = false
        ∧ (e.ts t sd).pulses = (if (s.dev.tle t).lease = some sd then (s.dev.ts t sd).pulses else []) ∧ e.ts t (!sd) = s.dev.ts t (!sd) ∧ Dev.tilesElse s.dev e t ∧ { e with tile := s.dev.tile, lnk := s.dev.lnk } = s.dev)
  ∧ (∀ (s : State) (t : Fin 64) (sd : Bool), s.dev.corksFresh → 2 ≤ (s.dev.ts t sd).st →
    Completes (.tileLinkWdog t sd) s fun e =>
      (e.ts t sd).st = 0 ∧ (e.ts t sd).locked = (s.dev.ts t sd).locked ∧ (e.ts t sd).seqs = [] ∧ (e.ts t sd).dsopen = false
        ∧ (e.ts t sd).pulses = (if (s.dev.tle t).lease = some sd then (s.dev.ts t sd).pulses else []) ∧ e.ts t (!sd) = s.dev.ts t (!sd) ∧ Dev.tilesElse s.dev e t ∧ { e with tile := s.dev.tile, lnk := s.dev.lnk } = s.dev)
  ∧ (∀ (s : State) (t : Fin 64) (sd : Bool), s.dev.corksFresh → (s.dev.ts t sd).st < 2 →
    Completes (.tileLinkWdog t sd) s fun e => { e with fltNew := s.dev.fltNew } = s.dev)
  ∧ (∀ (s : State) (t : Fin 64) (sd : Bool), s.dev.corksFresh →
    Completes (.tileUpstreamLockGained t sd) s fun e =>
      (e.ts t sd).locked = true ∧ (e.ts t sd).st = (s.dev.ts t sd).st ∧ e.ts t (!sd) = s.dev.ts t (!sd) ∧ Dev.tilesElse s.dev e t ∧ { e with tile := s.dev.tile, lnk := s.dev.lnk } = s.dev)
  ∧ (∀ (s : State) (t : Fin 64), s.dev.corksFresh →
    Completes (.tilePowerOn t) s fun e =>
      (∀ sd, (e.ts t sd).st = 0 ∧ (e.ts t sd).pulses = []) ∧ (e.tle t).regs = [] ∧ (e.tle t).outs = [] ∧ (e.tle t).lease = none
        ∧ (∀ u, u ≠ t.val → e.tle u = s.dev.tle u) ∧ { e with tile := s.dev.tile, fltNew := s.dev.fltNew } = s.dev)
  ∧ (∀ (s : State) (t : Fin 64) (sd : Bool), s.dev.corksFresh → 2 ≤ (s.dev.ts t sd).st →
    Completes (.dsLost t sd) s fun e =>
      (e.ts t sd).dsPres = false ∧ (e.ts t sd).up = (s.dev.ts t sd).up ++ [⟨0x15, [2048 + 0x01, 0, ofS 32 (s.dev.tlu t sd)], (s.dev.ts t sd).pos⟩] ∧ e.ts t (!sd) = s.dev.ts t (!sd) ∧ Dev.tilesElse s.dev e t ∧ { e with tile := s.dev.tile, fltNew := s.dev.fltNew } = s.dev)
  ∧ (∀ (s : State) (t : Fin 64) (sd : Bool), s.dev.corksFresh →
    Completes (.dsPres t sd) s fun e =>
      (e.ts t sd).dsPres = true ∧ (e.ts t sd).up = (s.dev.ts t sd).up ∧ { e with tile := s.dev.tile, fltNew := s.dev.fltNew } = s.dev)
  ∧ (∀ (s : State) (t : Fin 64) (sd : Bool) (i : UItem) (x y : Dev), s.dev.corksFresh → s.start.upRun t sd = x → (x.ts t sd).lane.wave = some i →
      (x.advance (((i.at_ + 60000) / 6 : Nat) - s.start.fabOff).toNat).upRun t sd = y → (y.ts t sd).lane.wait.contains i = true →
    Runs (.waveDrop t sd) s fun _ => y.upTs t sd (fun x =>
      { x with up := if i.own then x.up.erase i.frame else x.up, lane := { x.lane with wait := x.lane.wait.erase i }, wdrop := min 255 (x.wdrop + 1) }))
  ∧ (∀ (s : State) (t : Fin 64) (sd : Bool) (i : UItem) (x y : Dev), s.dev.corksFresh → s.start.upRun t sd = x → (x.ts t sd).lane.wave = some i →
      (x.advance (((i.at_ + 60000) / 6 : Nat) - s.start.fabOff).toNat).upRun t sd = y → (y.ts t sd).lane.wait.contains i = false →
    Runs (.waveDrop t sd) s fun _ => y)
  ∧ ∀ (s : State) (t : Fin 64) (sd : Bool), s.dev.corksFresh → (s.dev.tle t).lease ≠ some sd →
    Completes (.freshExpiry t sd) s fun e =>
      (e.ts t sd).fresh = false ∧ (e.tle t).lease = (s.dev.tle t).lease ∧ { e with tile := s.dev.tile, fltNew := s.dev.fltNew } = s.dev

/-- A held pulse whose start has come is driven by the side with the lease (R258, R288); the phases advance on current,
and boost, peak and first hold also on their time, where it passes before the electrical end (Dev.phaseNext,
Dev.phaseTimed, R289); the chopper holds the level (R290): at or above the level a switch that feeds the coil from the
supply lets it freewheel; the electrical end ends the drive at the end of the pulse, or at the present where that has
passed, and opens the closing window (R289, R299); at its end the window sends its samples (R299); the open-load check
is judged once, 8 µs after the start, on a pulse that lasts so long (R315); overcurrent ends the drive with status 5
(R316). Said of states in which no cork is overdue (R62). -/
def Obligations.tile_drive : Prop :=
  (∀ (s : State) (t : Fin 64) (sd : Bool) (handle : Nat) (pidx : Fin 8) (p : TPulse), s.dev.corksFresh →
      (s.dev.ts t sd).pulses.find? (fun p => p.handle == handle && p.pidx == pidx.val) = some p → (s.dev.tle t).lease = some sd → (s.dev.ts t sd).st = 3 →
    Runs (.tilePulseStart t sd handle pidx) s fun d => d.pulseStart t sd p)
  ∧ (∀ (s : State) (t : Fin 64) (out : Fin 8) (cur : Nat) (v : Drive), s.dev.corksFresh → (s.dev.to t out).drv = some v → v.phase = .dec1 → cur ≤ v.hold1 →
    Completes (.tilePhaseAdvance t out cur) s fun e =>
      (e.to t out).drv = some ((v.see cur).enter .hold1 (s.dev.tlu t v.side) cur) ∧ (∀ u, u ≠ t.val → e.tle u = s.dev.tle u)
        ∧ { e with tile := s.dev.tile, fltNew := s.dev.fltNew } = s.dev)
  ∧ (∀ (s : State) (t : Fin 64) (out : Fin 8) (cur : Nat) (v : Drive) (lim : Int), s.dev.corksFresh → (s.dev.to t out).drv = some v →
      v.phase = .peak ∨ v.phase = .hold1 → v.limit = some lim → lim < v.p.stop →
    Runs (.tilePhaseAdvance t out cur) s fun d => d.phaseTimed t out (v.see cur) cur lim)
  ∧ (∀ (s : State) (t : Fin 64) (out : Fin 8) (cur : Nat) (v : Drive), s.dev.corksFresh → (s.dev.to t out).drv = some v →
    Runs (.tilePhaseAdvance t out cur) s fun d => d.phaseNext t out (v.see cur) cur)
  ∧ (∀ (s : State) (t : Fin 64) (out : Fin 8) (cur x : Nat) (v : Drive), s.dev.corksFresh → (s.dev.to t out).drv = some v → v.level = some x → x ≤ cur →
      v.src = .supply →
    Completes (.tileChopSwitch t out cur) s fun e =>
      (e.to t out).drv = some { v with ipk := max v.ipk cur, src := .free, swOff := s.dev.tlu t v.side } ∧ (∀ u, u ≠ t.val → e.tle u = s.dev.tle u)
        ∧ { e with tile := s.dev.tile, fltNew := s.dev.fltNew } = s.dev)
  ∧ (∀ (s : State) (t : Fin 64) (out : Fin 8) (cur : Nat) (v : Drive), s.dev.corksFresh → (s.dev.to t out).drv = some v →
    Runs (.tileChopSwitch t out cur) s fun d => d.upDrv t out ((v.see cur).chop (d.tlu t v.side) cur))
  ∧ (∀ (s : State) (t : Fin 64) (out : Fin 8) (v : Drive), s.dev.corksFresh → (s.dev.to t out).drv = some v → v.phase ≠ .off →
    Runs (.electricalEnd t out) s fun d => (d.reachLu t v.side v.p.stop).drvEnd t out v (max v.p.stop (d.tlu t v.side)) 0 v.status)
  ∧ (∀ (s : State) (t : Fin 64) (out : Fin 8) (w : CWin), s.dev.corksFresh → (s.dev.to t out).win = some w →
    Runs (.closingWindowEnd t out) s fun d => (d.reachLu t w.side w.stop).winEnd t out w.stop)
  ∧ (∀ (s : State) (t : Fin 64) (out : Fin 8) (cur : Nat) (v : Drive), s.dev.corksFresh → (s.dev.to t out).drv = some v → v.phase ≠ .off → v.judged = false →
      v.start + 12800 ≤ v.p.stop → cur < v.p.fld 5 27 16 →
    Runs (.openOnCheck t out cur) s fun d =>
      ((d.reachLu t v.side (v.start + 12800)).upDrv t out { v.see cur with judged := true }).causeCome t out 0x18 cur)
  ∧ (∀ (s : State) (t : Fin 64) (out : Fin 8) (cur : Nat) (v : Drive), s.dev.corksFresh → (s.dev.to t out).drv = some v → v.phase ≠ .off → v.judged = false →
      v.start + 12800 ≤ v.p.stop → v.p.fld 5 27 16 ≤ cur →
    Runs (.openOnCheck t out cur) s fun d =>
      ((d.reachLu t v.side (v.start + 12800)).upDrv t out { v.see cur with judged := true }).causeGone t out 0x18 cur)
  ∧ (∀ (s : State) (t : Fin 64) (out : Fin 8) (cur : Nat) (v : Drive), s.dev.corksFresh → (s.dev.to t out).drv = some v → v.p.stop < v.start + 12800 →
    Runs (.openOnCheck t out cur) s fun d => d)
  ∧ ∀ (s : State) (t : Fin 64) (out : Fin 8) (cur : Nat) (v : Drive), s.dev.corksFresh → (s.dev.to t out).drv = some v → v.phase ≠ .off →
      v.p.fld 5 11 0 ≤ cur →
    Runs (.overcurrentTrip t out cur) s fun d =>
      (d.drvEnd t out (v.see cur) (d.tlu t v.side) cur 5).causeCome t out 0x19 (max v.ipk cur)

/-- BOOST_SET takes its value and judges READY anew (R296, R297); BOOST_CTL takes a value whose halves are complements
(R298), and with its EN bit from clear to set starts a stopped converter; a rail that has not passed the supply + 2 V
at its check stops the converter, where it is enabled and runs, and BOOST_FAULT latches (R298); the off-state test is
requested, begins once the output is quiet, and ends with its judgement (R317, R318); the inhibit input latches and
cuts the drives (R321), stays latched when it is released, and ends by INH_REARM after the quiet time (R322);
temperature is held and reported (R327). Said of states in which no cork is overdue (R62). -/
def Obligations.tile_protection : Prop :=
  (∀ (s : State) (t : Fin 64) (data rail : Nat), s.dev.corksFresh → Runs (.boostSetWrite t data rail) s fun d =>
      ((d.twr t false R.TDRV_BOOST_SET (BitVec.ofNat 32 data &&& 0x00FFFFFF#32)).upTle t (fun x => { x with rail := rail, vref := rail, vrefAt := d.now })).boostJudge t)
  ∧ (∀ (s : State) (t : Fin 64) (data : Nat), s.dev.corksFresh → bits data 31 16 + bits data 15 0 = 0xFFFF →
    Runs (.boostCtlWrite t data) s fun d =>
      let x := d.twr t false R.TDRV_BOOST_CTL (BitVec.ofNat 32 data &&& 0xFFFF0001#32)
      (if !d.boostEn t && bitOf data 0 then x.upTle t (fun x => { x with stopped := false }) else x).boostJudge t)
  ∧ (∀ (s : State) (t : Fin 64) (data : Nat), s.dev.corksFresh → bits data 31 16 + bits data 15 0 ≠ 0xFFFF →
    Completes (.boostCtlWrite t data) s fun e => { e with fltNew := s.dev.fltNew } = s.dev)
  ∧ (∀ (s : State) (t : Fin 64) (rail supply : Nat), s.dev.corksFresh → rail ≤ supply + 40 → (s.dev.tle t).stopped = false → s.dev.boostEn t = true →
    Completes (.boostFault t rail (.low supply)) s fun e =>
      (e.tle t).bflt = true ∧ (e.tle t).stopped = true ∧ (e.tle t).ready = false ∧ (e.tle t).rail = rail ∧ (∀ u, u / 4 ≠ t.val / 4 → e.tle u = s.dev.tle u)
        ∧ { e with tile := s.dev.tile, draw := s.dev.draw, fltNew := s.dev.fltNew } = s.dev)
  ∧ (∀ (s : State) (t : Fin 64) (rail : Nat), s.dev.corksFresh →
    Completes (.boostNrdy t rail) s fun e =>
      (e.tle t).rail = rail ∧ (e.tle t).ready = e.boostReady t ∧ (∀ u, u / 4 ≠ t.val / 4 → e.tle u = s.dev.tle u)
        ∧ { e with tile := s.dev.tile, draw := s.dev.draw, fltNew := s.dev.fltNew } = s.dev)
  ∧ (∀ (s : State) (t : Fin 64) (mask : Nat), s.dev.corksFresh → (s.dev.tle t).inhl = false →
    Completes (.offtReq t mask) s fun e =>
      (∀ j, j < 8 → (e.to t j).offPend = (bitOf mask j || (s.dev.to t j).offPend)) ∧ (∀ u, u ≠ t.val → e.tle u = s.dev.tle u)
        ∧ { e with tile := s.dev.tile, fltNew := s.dev.fltNew } = s.dev)
  ∧ (∀ (s : State) (t : Fin 64) (out : Fin 8), s.dev.corksFresh → (s.dev.to t out).offPend = true → (s.dev.to t out).drv = none → (s.dev.to t out).win = none →
      (s.dev.to t out).quiet + 4000 ≤ s.dev.now → s.dev.offClear t false out = true → s.dev.offClear t true out = true → (s.dev.tle t).inhl = false →
    Completes (.offstateTestStart t out) s fun e =>
      (e.to t out).offPend = false ∧ (e.to t out).offRun = some (s.dev.now : Int) ∧ (∀ u, u ≠ t.val → e.tle u = s.dev.tle u)
        ∧ { e with tile := s.dev.tile, fltNew := s.dev.fltNew } = s.dev)
  ∧ (∀ (s : State) (t : Fin 64) (out : Fin 8) (at_ : Int), s.dev.corksFresh → (s.dev.to t out).offRun = some at_ →
    Runs (.offstateTestEnd t out 60 30 40) s fun d =>
      (((d.advance (at_ + 40000).toNat).upTo t out (fun o => { o with offRun := none })).causeGone t out 0x1C 60 |>.causeGone t out 0x1D 60).causeCome t out 0x1E 30)
  ∧ (∀ (s : State) (t : Fin 64), s.dev.corksFresh →
    Completes (.inhibitInput t) s fun e =>
      (e.tle t).inhp = true ∧ (e.tle t).inhl = true ∧ (∀ j, j < 8 → (e.to t j).offPend = false ∧ (e.to t j).offRun = none)
        ∧ (∀ u, u / 4 ≠ t.val / 4 → e.tle u = s.dev.tle u) ∧ { e with tile := s.dev.tile, draw := s.dev.draw, fltNew := s.dev.fltNew } = s.dev)
  ∧ (∀ (s : State) (t : Fin 64), s.dev.corksFresh → (s.dev.tle t).inhp = true →
    Completes (.inhibitInputRelease t) s fun e =>
      (e.tle t).inhp = false ∧ (e.tle t).inhl = (s.dev.tle t).inhl ∧ (e.tle t).quiet = s.dev.now ∧ (∀ u, u ≠ t.val → e.tle u = s.dev.tle u)
        ∧ { e with tile := s.dev.tile, fltNew := s.dev.fltNew } = s.dev)
  ∧ (∀ (s : State) (t : Fin 64), s.dev.corksFresh → (s.dev.tle t).inhp = false → (s.dev.tle t).inhl = true → (s.dev.tle t).quiet + 20000 ≤ s.dev.now →
    Completes (.inhRearm t) s fun e =>
      (e.tle t).inhl = false ∧ (∀ u, u / 4 ≠ t.val / 4 → e.tle u = s.dev.tle u) ∧ { e with tile := s.dev.tile, draw := s.dev.draw, fltNew := s.dev.fltNew } = s.dev)
  ∧ (∀ (s : State) (t : Fin 64), s.dev.corksFresh → (s.dev.tle t).inhp = true →
    Completes (.inhRearm t) s fun e => (e.tle t).inhl = (s.dev.tle t).inhl)
  ∧ ∀ (s : State) (t : Fin 64) (hot : Bool) (temp : Nat), s.dev.corksFresh →
    Completes (.tileOvertemp t hot temp) s fun e =>
      (e.tle t).temp = min temp 255 ∧ (e.tle t).hot = hot ∧ (∀ u, u / 4 ≠ t.val / 4 → e.tle u = s.dev.tle u)
        ∧ { e with tile := s.dev.tile, draw := s.dev.draw, fltNew := s.dev.fltNew } = s.dev

/-- A side that may hold it gains a free lease, side A first (R356); a lease lapses to the other side (R357); a write of
DUP_AT sets the time to yield (R361); when it has come the lease passes, or the yield is refused with a report (R361);
a shadow left unmatched is dropped, counted and reported with DONE status 8 (R363); the two counter registers clear.
Said of states in which no cork is overdue (R62). -/
def Obligations.tile_leases : Prop :=
  (∀ (s : State) (t : Fin 64), s.dev.corksFresh → (s.dev.tle t).lease = none → s.dev.tEligible t false = true →
    Runs (.leaseGrant t) s fun d => d.leaseGain t false 0)
  ∧ (∀ (s : State) (t : Fin 64), s.dev.corksFresh → (s.dev.tle t).lease = none → s.dev.tEligible t false = false → s.dev.tEligible t true = true →
    Runs (.leaseGrant t) s fun d => d.leaseGain t true 0)
  ∧ (∀ (s : State) (t : Fin 64) (sd : Bool), s.dev.corksFresh → (s.dev.tle t).lease = some sd →
    Completes (.leaseGrant t) s fun e => { e with fltNew := s.dev.fltNew } = s.dev)
  ∧ (∀ (s : State) (t : Fin 64) (sd : Bool), s.dev.corksFresh → (s.dev.tle t).lease = some sd → (s.dev.ts t sd).st < 3 →
      (s.dev.leaseLose t sd 1).tEligible t (!sd) = true →
    Runs (.leaseLapse t) s fun d => (d.leaseLose t sd 1).leaseGain t (!sd) 1)
  ∧ (∀ (s : State) (t : Fin 64) (sd : Bool) (data : Nat), s.dev.corksFresh → Runs (.dupAtWrite t sd data) s fun d => (d.dupAt t sd data).1)
  ∧ (∀ (s : State) (t : Fin 64) (sd : Bool) (at_ : Int), s.dev.corksFresh → (s.dev.tle t).lease = some sd → (s.dev.ts t sd).yieldAt = some at_ →
      (s.dev.reachTick t sd at_).tEligible t (!sd) = true →
    Runs (.yieldDue t) s fun d => ((d.reachTick t sd at_).leaseLose t sd 3).leaseGain t (!sd) 2)
  ∧ (∀ (s : State) (t : Fin 64) (sd : Bool) (at_ : Int), s.dev.corksFresh → (s.dev.tle t).lease = some sd → (s.dev.ts t sd).yieldAt = some at_ →
      (s.dev.reachTick t sd at_).tEligible t (!sd) = false →
    Runs (.yieldDue t) s fun d => ((d.reachTick t sd at_).upTs t sd (fun s => { s with yieldAt := none })).tdiag2 t true 0 0x0B 0)
  ∧ (∀ (s : State) (t : Fin 64) (sd : Bool) (handle : Nat) (pidx : Fin 8) (p : TPulse), s.dev.corksFresh →
      (s.dev.ts t sd).pulses.find? (fun p => p.handle == handle && p.pidx == pidx.val) = some p → (s.dev.tle t).lease ≠ some sd →
    Runs (.shadowUnmatched t sd handle pidx) s fun d =>
      (((d.reachLu t sd (p.start + 16)).upTs t sd (fun s => s.drop p)).mismatch t p.out 0x7FFF).tdone t sd p 8 p.start p.start 0 0)
  ∧ (∀ (s : State) (t : Fin 64) (sd : Bool), s.dev.corksFresh →
    Completes (.tileDupcntClr t sd) s fun e =>
      e.trd t sd R.TILE_DUPCNT = 0 ∧ (∀ u, u ≠ t.val → e.tle u = s.dev.tle u) ∧ { e with tile := s.dev.tile, fltNew := s.dev.fltNew } = s.dev)
  ∧ ∀ (s : State) (t : Fin 64) (sd : Bool), s.dev.corksFresh →
    Completes (.tileCntClr t sd) s fun e =>
      e.trd t sd R.TILE_CNT = 0 ∧ (∀ u, u ≠ t.val → e.tle u = s.dev.tle u) ∧ { e with tile := s.dev.tile, fltNew := s.dev.fltNew } = s.dev

/-- A boost enable that changes is sent to its tile (R298); the off-state test that is due after its cycles sends OFFT_REQ
(R317); a re-arm goes to the tiles of the mask (R323); the oldest closing window is judged (R300), one with lost
samples without a closing time (R302); a read of CRES_LO latches its companions and sets SEEN (R305); a CLEN pulse
that begins clears READY and opens its window, where its profile has one (Dev.winOpen, R299, R305); the thermal step
runs every channel (R310); forcing off holds the channel and cancels its pulses, forcing on runs one (R325, R326),
releasing ends it; the counters clear. Said of states in which no cork is overdue (R62) and the reset of the command's
domain (CORE) is released. -/
def Obligations.coil_channels : Prop :=
  (∀ (s : State) (req : Fin 10) (m : Fin 2) (value : Nat), s.coreRuns → Runs (.cdtBoostEn req m value) s fun d => forN 32 (fun x b =>
      if x.bit (R.CDT_BOOST_EN m) b == bitOf value b then x
      else (x.setBit (R.CDT_BOOST_EN m) b (bitOf value b)).sendRegwr (32 * m + b) 0x100 ((x.setBit (R.CDT_BOOST_EN m) b (bitOf value b)).boostCtl (32 * m + b))) d)
  ∧ (∀ (s : State) (ch : Fin 512), s.coreRuns → s.dev.get (F.CDT_CH_CFG_OFFT_CYC ch) ≠ 0 → s.dev.get (F.CDT_CH_CFG_OFFT_CYC ch) ≤ (s.dev.cc ch).cyc →
    Runs (.offtCommand ch) s fun d => (d.setCc ch { d.cc ch with cyc := 0 }).sendRegwr (tileOfCh ch) 0x105 (2 ^ (ch.val % 8)))
  ∧ (∀ (s : State) (req : Fin 10) (m : Fin 2) (mask : Nat), s.coreRuns → Runs (.cdtRearm req m mask) s fun d =>
      forN 32 (fun x b => if bitOf mask b then x.sendRegwr (32 * m + b) 0x104 4 else x) d)
  ∧ (∀ (s : State) (ch : Fin 512) (w : CdtWin) (r : List CdtWin), s.coreRuns → (s.dev.cc ch).wins = w :: r → w.gap = true →
    Runs (.closingDetect ch) s fun d => (d.setCc ch { d.cc ch with wins := r }).postResult ch w 3 none none)
  ∧ (∀ (s : State) (ch : Fin 512) (w : CdtWin) (r : List CdtWin), s.coreRuns → (s.dev.cc ch).wins = w :: r → w.gap = false → w.done = some 0 →
      kink (s.dev.detCfg ch) w.samples = .noKink →
    Runs (.closingDetect ch) s fun d => (d.setCc ch { d.cc ch with wins := r }).postResult ch w 1 none none)
  ∧ (∀ (s : State) (ch : Fin 512) (o : Occ) (p : OPulse), s.coreRuns → s.dev.sch.occs = [o] → o.pulses = [p] → p.ch = ch → p.clen = true → p.status = none →
      (s.dev.cc ch).begun.contains (o.uid, p.pidx) = false →
    Runs (.cresReadyClear ch) s fun d => ((d.advance (fdiv p.start 8).toNat).put (F.CDT_CH_CRES_ST_READY ch) 0).winOpen o p)
  ∧ (∀ (s : State) (req : Fin 10) (ch : Fin 512), s.coreRuns → Runs (.cresLoRead req ch) s fun d =>
      (d.latchRead req (R.CDT_CH_CRES_LO ch) [R.CDT_CH_CRES_HI ch, R.CDT_CH_CRES_ST ch, R.CDT_CH_CRES_EV ch]).put (F.CDT_CH_CRES_ST_SEEN ch) 1)
  ∧ (∀ (s : State), s.coreRuns → (∀ ch, ch < 512 → s.dev.flag (F.CDT_CH_CFG_TEN ch) = false) →
    Completes .thermalStep s fun e => { e with fltNew := s.dev.fltNew } = s.dev)
  ∧ (∀ (s : State), s.coreRuns → Runs .thermalStep s fun d => forN 512 (fun x ch => x.thermStep ch) d)
  ∧ (∀ (s : State) (req : Fin 10) (ch : Fin 512), s.coreRuns → s.dev.sch.occs = [] →
    Completes (.chforceOff req ch) s fun e =>
      e.abit (R.CDT_FOFF 0) ch = true ∧ e.get F.CDT_FORCE_STAT_MODE = 1 ∧ e.get F.CDT_FORCE_STAT_CH = ch
        ∧ (∀ c, c ≠ ch.val → e.abit (R.CDT_FOFF 0) c = s.dev.abit (R.CDT_FOFF 0) c) ∧ e.noRegs = s.dev.noRegs)
  ∧ (∀ (s : State) (req : Fin 10) (ch : Fin 512), s.coreRuns →
    Completes (.chforceRelease req ch) s fun e =>
      e.abit (R.CDT_FOFF 0) ch = false ∧ e.get F.CDT_FORCE_STAT_MODE = 0 ∧ e.get F.CDT_FORCE_STAT_CH = ch
        ∧ (∀ c, c ≠ ch.val → e.abit (R.CDT_FOFF 0) c = s.dev.abit (R.CDT_FOFF 0) c) ∧ e.noRegs = s.dev.noRegs)
  ∧ (∀ (s : State) (req : Fin 10) (ch : Fin 512) (prf : Fin 256), s.coreRuns → s.dev.abit (R.CDT_FOFF 0) ch = true →
    Completes (.chforceOn req ch prf) s fun e =>
      e.flag F.CDT_FORCE_STAT_REFUSED = true ∧ e.get F.CDT_FORCE_STAT_MODE = 2 ∧ e.get F.CDT_FORCE_STAT_CH = ch ∧ e.noRegs = s.dev.noRegs)
  ∧ (∀ (s : State) (req : Fin 10) (ch : Fin 512) (prf : Fin 256), s.coreRuns → s.dev.abit (R.SCH_CHEN 0) ch = false → s.dev.tilePresent (tileOfCh ch) = true →
      s.dev.abit (R.CDT_FOFF 0) ch = false → s.dev.flag (F.CDT_CH_STAT_BLK ch) = false → (s.dev.freeHandle (tileOfCh ch / 4)).isSome = true →
    Runs (.chforceOn req ch prf) s fun d =>
      let d0 := ((d.wr R.CDT_CHFORCE (BitVec.ofNat 32 (2 ^ 31 + prf * 2 ^ 16 + ch) &&& 0xC0FF01FF#32)).put F.CDT_FORCE_STAT_MODE 2).put F.CDT_FORCE_STAT_CH ch
      (d0.put F.CDT_FORCE_STAT_REFUSED 0).commitOcc (d0.forceOcc ch prf))
  ∧ ∀ (s : State) (req : Fin 10), s.coreRuns →
    Completes (.cdtCntClr req) s fun e =>
      (∀ ch, ch < 512 → e.rd (R.CDT_CNT ch) = 0) ∧ (∀ a, (∀ ch, ch < 512 → a ≠ R.CDT_CNT ch) → e.rd a = s.dev.rd a) ∧ e.noRegs = s.dev.noRegs

/-- A frame that a mirror takes (Dev.mirTakes: enabled, and not the other lane's copy) has its effect; one whose SEQ does
not follow the last also aligns anew in ALIGN and STANDBY (Dev.mirSeen, R334): HELLO shows the partner and its
versions (R341-R343); MTIME measures the offset (R337), in ALIGN steps the time by an offset of more than 200 ns
(R338), and in ALIGN and STANDBY trims the root PLL (Dev.steer, R339); an ECHO_REQ is answered and an ECHO_RSP enters
the mean delay (R336); TOOTH is recorded where the tracker follows (R347); DECIDE mirrors the press decision (R348);
STROBE is carried out and a vintage that differs leads to INCOMPATIBLE (R349); DIGEST is compared (R354); SNAP
collects its chunks, and the last applies them (R352); TAKE begins a takeover (R370). A damaged frame counts and does
nothing (R333). Said of states in which no cork is overdue (R62) and the reset of the command's domain (CORE) is
released. -/
def Obligations.mirror_frames : Prop :=
  (∀ (s : State) (f : MirHello), s.coreRuns → f.ok = true → s.dev.mirTakes f.seq →
    Runs (.mirHello f) s fun d0 =>
      let d := d0.mirSeen f.seq
      let c := d.incompat f
      let d1 := ((d.put F.MIR_STAT_PARTNER 1).put F.MIR_STAT_PSTATE f.pstate).put F.MIR_STAT_INCOMP c
      let d2 := ((d1.put F.MIR_PVER_PROTO f.proto).put F.MIR_PVER_DVER f.dver).put F.MIR_PREL_FWREL f.fwrel
      let d3 := ((d2.put F.MIR_PVINT_IMAGE f.image).put F.MIR_PVINT_CUR f.cur).upMir (fun m => { m with hello := some f })
      let d4 := d3.cause 22 1 0 1 (c != 0)
      let n := d4.helloNext f (c != 0)
      if n = d4.mirState || (n = 4 && d4.flag F.DBG_STAT_DIRECT) then d4 else d4.setPair n)
  ∧ (∀ (s : State) (seq stamp : Nat), s.coreRuns → s.dev.mirState = 5 → s.dev.mirTakes seq → (∀ r, s.dev.mir.rx = some r → (seq % 256 + 256 - r) % 256 < 128) → Completes (.mirMtime true seq stamp) s fun e =>
      e.geti F.MIR_OFS_OFS = clampI (-2147483648) 2147483647 (192 * s.dev.now - (192 * stamp + s.dev.get F.MIR_DLY_DLY))
        ∧ e.flag F.MIR_STAT_ALIGNED = decide ((192 * s.dev.now - (192 * stamp + s.dev.get F.MIR_DLY_DLY) : Int).natAbs ≤ 153)
        ∧ e.mir.rx = some (seq % 256) ∧ (∀ a, a ≠ R.MIR_OFS → a ≠ R.MIR_STAT → e.rd a = s.dev.rd a)
        ∧ { e with mir := s.dev.mir, reg := s.dev.reg, fltNew := s.dev.fltNew } = s.dev)
  ∧ (∀ (s : State) (seq stamp : Nat), s.coreRuns → s.dev.mirTakes seq →
    Runs (.mirMtime true seq stamp) s fun d0 =>
      let d := d0.mirSeen seq
      let ofs : Int := 192 * d.now - (192 * stamp + d.get F.MIR_DLY_DLY)
      let d1 := (d.puti F.MIR_OFS_OFS (clampI (-2147483648) 2147483647 ofs)).putB F.MIR_STAT_ALIGNED (decide (ofs.natAbs ≤ 153))
      let st := d1.mirState
      let d2 := if st = 4 || st = 6 then d1.steer ofs else d1
      if st = 4 && decide (38400 < ofs.natAbs) then d2.timeStep ofs else d2.alignDone)
  ∧ (∀ (s : State) (seq etag tt : Nat), s.coreRuns → s.dev.mirState = 5 → s.dev.mirTakes seq → s.dev.silent = false → s.dev.mir.tx < 256 → Completes (.mirEchoReq true seq etag tt) s fun e =>
      e.mir.out = s.dev.mir.out ++ [[4 * 2 ^ 27 + s.dev.mir.tx * 2 ^ 16 + 2, etag % 65536, tt % 2 ^ 24]] ∧ e.mir.tx = (s.dev.mir.tx + 1) % 256
        ∧ { e with mir := s.dev.mir, fltNew := s.dev.fltNew } = s.dev)
  ∧ (∀ (s : State) (seq etag tt rtt : Nat), s.coreRuns → s.dev.mirState = 5 → s.dev.mirTakes seq → s.dev.mir.echo = [] →
    Completes (.mirEchoRsp true seq etag tt rtt) s fun e =>
      e.mir.echo = [(rtt : Int) - tt] ∧ e.get F.MIR_DLY_DLY = meanDelay [(rtt : Int) - tt] % 2 ^ 24
        ∧ (∀ a, a ≠ R.MIR_DLY → e.rd a = s.dev.rd a) ∧ { e with mir := s.dev.mir, reg := s.dev.reg, fltNew := s.dev.fltNew } = s.dev)
  ∧ (∀ (s : State) (seq : Nat) (f : MirTooth), s.coreRuns → s.dev.mirTakes seq → (s.dev.mirSeen seq).follows f.trk = true →
    Runs (.mirTooth true seq f) s fun d => (d.mirSeen seq).mirRecord f)
  ∧ (∀ (s : State) (seq : Nat) (f : MirDecide), s.coreRuns → s.dev.mirTakes seq → (s.dev.mirSeen seq).follows f.mach = true →
    Runs (.mirDecide true seq f) s fun d => (d.mirSeen seq).prsMirror f)
  ∧ (∀ (s : State) (seq vint grp : Nat), s.coreRuns → s.dev.mirTakes seq → (s.dev.mirSeen seq).following = true →
    Runs (.mirStrobe true seq vint grp) s fun d0 =>
      let d := d0.mirSeen seq
      let d1 := if d.strobeBusy (grp % 256) then d.incSat F.SYS_UPD_STAT_REFUSED else d.strobeAll (grp % 256)
      if d1.get F.SYS_VINTAGE_CUR = vint % 2 ^ 16 then d1 else d1.setPair 3)
  ∧ (∀ (s : State) (seq vint crc : Nat) (k : Fin 16) (cyc : Int), s.coreRuns → s.dev.mirState = 5 → s.dev.mirTakes seq → s.dev.mir.own = [] →
    Completes (.mirDigest true seq k vint cyc crc) s fun e =>
      e.mir.theirs = ((k.val, cyc, crc % 2 ^ 32) :: s.dev.mir.theirs).take 64 ∧ { e with mir := s.dev.mir, fltNew := s.dev.fltNew } = s.dev)
  ∧ (∀ (s : State) (seq chunk nchunk cyc : Nat) (k : Fin 16) (words : List Nat) (x : Dev) (got : List (Nat × List Nat)), s.coreRuns →
      s.dev.mirTakes seq → s.dev.mirSeen seq = x → x.mirState = 4 → x.mir.held = true → x.mir.applied.contains k.val = false →
      (x.snap k).part = some (cyc % 2 ^ 32, got) → (insChunk (chunk, words) got).length < nchunk →
    Runs (.mirSnap true seq k chunk nchunk cyc words) s fun _ =>
      x.setSnap k { x.snap k with part := some (cyc % 2 ^ 32, insChunk (chunk, words) got) })
  ∧ (∀ (s : State) (seq chunk nchunk cyc : Nat) (k : Fin 16) (words : List Nat) (x : Dev) (got : List (Nat × List Nat)), s.coreRuns →
      s.dev.mirTakes seq → s.dev.mirSeen seq = x → x.mirState = 4 → x.mir.held = true → x.mir.applied.contains k.val = false →
      (x.snap k).part = some (cyc % 2 ^ 32, got) → nchunk ≤ (insChunk (chunk, words) got).length →
    Runs (.mirSnap true seq k chunk nchunk cyc words) s fun _ =>
      ((x.snap k).held.foldl (fun (y : Dev) f => y.mirRecord f)
        ((x.applySnap k ((insChunk (chunk, words) got).flatMap (fun e => e.2))).upMir
          (fun m => { m with snaps := smDel m.snaps k, applied := m.applied ++ [k.val], okRun := smDel m.okRun k })).mirShow).alignDone)
  ∧ (∀ (s : State) (seq chunk nchunk cyc : Nat) (k : Fin 16) (words : List Nat) (x y : Dev), s.coreRuns →
      s.dev.mirTakes seq → s.dev.mirSeen seq = x → x.mirState = 4 → x.mir.held = true → x.mir.applied.contains k.val = false →
      (x.snap k).part = none → x.snapCut k (cyc % 2 ^ 32) = some y →
    Runs (.mirSnap true seq k chunk nchunk cyc words) s fun _ => y.snapChunk k (cyc % 2 ^ 32) chunk nchunk [] words)
  ∧ (∀ (s : State) (seq tat : Nat), s.coreRuns → s.dev.mirState = 5 → s.dev.mirTakes seq → s.dev.mir.tk = none →
    Runs (.mirTake true seq 1 tat) s fun d =>
      (((d.mirSeen seq).tkStart (some true) tat).mirSend 10 [3, tat % 2 ^ 32, tat / 2 ^ 32 % 2 ^ 32]).yieldAll tat)
  ∧ (∀ (s : State) (seq tat : Nat), s.coreRuns → s.dev.mirState = 6 → s.dev.mirTakes seq → (∀ r, s.dev.mir.rx = some r → (r + 1) % 256 = seq % 256) → s.dev.mir.tk = none →
    Completes (.mirTake true seq 2 tat) s fun e =>
      e.mir.tk = some (some false, tat) ∧ e.get F.MIR_TK_STAT_RESULT = 1 ∧ e.get64 R.MIR_TK_AT_LO R.MIR_TK_AT_HI = tat % 2 ^ 64
        ∧ { e with mir := s.dev.mir, reg := s.dev.reg, fltNew := s.dev.fltNew } = s.dev)
  ∧ ∀ (s : State) (seq stamp etag tt : Nat), s.coreRuns → s.dev.mirState ≠ 0 →
    Completes (.mirMtime false seq stamp) s (fun e =>
      e.get F.MIR_CNT2_FRDISC = min (s.dev.get F.MIR_CNT2_FRDISC + 1) (2 ^ (F.MIR_CNT2_FRDISC.hi + 1 - F.MIR_CNT2_FRDISC.lo) - 1)
        ∧ Dev.onlyRegs s.dev e [R.MIR_CNT2])
    ∧ Completes (.mirEchoReq false seq etag tt) s (fun e =>
      e.get F.MIR_CNT2_FRDISC = min (s.dev.get F.MIR_CNT2_FRDISC + 1) (2 ^ (F.MIR_CNT2_FRDISC.hi + 1 - F.MIR_CNT2_FRDISC.lo) - 1)
        ∧ Dev.onlyRegs s.dev e [R.MIR_CNT2])

/-- A lost lane clears its lock and, with a partner, loses the partner (R335); MTIME and HELLO that stay away lose it too;
HELLO, MTIME and ECHO are sent by their period; a time divergence of a standby realigns (R340); the wait for a partner
ends in SOLO (R341); ALIGN's hold is reached (R345); enabling leads to WAIT, disabling to OFF (R341), RESYNC of a
standby to ALIGN; a takeover is refused without a partner with result 4 (R369) and begins with one; at its time the
roles change (R370); lane lock shows. Said of states in which no cork is overdue (R62) and the reset of the command's
domain (CORE) is released. -/
def Obligations.mirror_roles : Prop :=
  (∀ (s : State), s.coreRuns → s.dev.flag F.MIR_STAT_PARTNER = false →
    Completes .mirLaneLockLoss s fun e =>
      e.flag F.MIR_STAT_LOCK0 = false ∧ e.flag F.MIR_STAT_LOCK1 = false ∧ e.mirState = s.dev.mirState ∧ Dev.onlyRegs s.dev e [R.MIR_STAT])
  ∧ (∀ (s : State), s.coreRuns → s.dev.mirState = 6 → s.dev.flag F.MIR_STAT_PARTNER = true → Runs .mtimeTimeout s fun d => d.partnerLost)
  ∧ (∀ (s : State), s.coreRuns → s.dev.flag F.MIR_STAT_PARTNER = true → s.dev.mirState = 5 → s.dev.mir.tk = none → Runs .helloTimeout s fun d =>
      ((((d.put F.MIR_STAT_PARTNER 0).upMir (fun m => { m with hello := none, rx := none, seen := [], tk := none })).causeOff 22 1 0).raise 22 0 0 2).setPair 2)
  ∧ (∀ (s : State), s.coreRuns → s.dev.mirState = 5 → s.dev.silent = false → s.dev.mir.tx < 256 → Completes .helloPeriod s fun e =>
      e.mir.out.length = s.dev.mir.out.length + 1 ∧ e.mir.tx = (s.dev.mir.tx + 1) % 256
        ∧ (e.mir.out.getLast?.map (fun w => w.headD 0)) = some (1 * 2 ^ 27 + s.dev.mir.tx * 2 ^ 16 + 5)
        ∧ { e with mir := s.dev.mir, fltNew := s.dev.fltNew } = s.dev)
  ∧ (∀ (s : State), s.coreRuns → s.dev.mirState = 5 → s.dev.silent = false → s.dev.mir.tx < 256 → Completes .mtimePeriod s fun e =>
        (let t := (((s.dev.mir.lane.start (3 * s.dev.fab) true / 6 : Nat) : Int) - s.dev.fabOff).toNat
         e.mir.out = s.dev.mir.out ++ [[2 * 2 ^ 27 + s.dev.mir.tx * 2 ^ 16 + 2, t % 2 ^ 32, t / 2 ^ 32 % 2 ^ 32]]) ∧ { e with mir := s.dev.mir, fltNew := s.dev.fltNew } = s.dev)
  ∧ (∀ (s : State), s.coreRuns → s.dev.mirState ≠ 0 → s.dev.silent = false → s.dev.mir.tx < 256 → Completes .mirEchoPeriod s fun e =>
      e.mir.out = s.dev.mir.out ++ [[3 * 2 ^ 27 + s.dev.mir.tx * 2 ^ 16 + 1, s.dev.mir.etag]] ∧ e.mir.etag = (s.dev.mir.etag + 1) % 65536
        ∧ { e with mir := s.dev.mir, fltNew := s.dev.fltNew } = s.dev)
  ∧ (∀ (s : State), s.coreRuns → s.dev.mirState = 6 → 307 < (s.dev.geti F.MIR_OFS_OFS).natAbs → Runs .timeDiv s fun d => (d.raise 22 3 0 2).realign)
  ∧ (∀ (s : State), s.coreRuns → s.dev.mirState = 1 → s.dev.flag F.MIR_STAT_PARTNER = false → Runs .soloWaitExpiry s fun d => (d.advance (d.mir.since + 200000 * max 1 (d.get F.MIR_CFG_SOLO_WAIT))).setPair 2)
  ∧ (∀ (s : State), s.coreRuns → s.dev.mirState = 4 → s.dev.flag F.MIR_STAT_ALIGNED = true → s.dev.checked 0 = true → s.dev.mir.applied = [] →
    Completes .alignHold s fun e => e.mir.held = true ∧ e.mirState = 4 ∧ { e with mir := s.dev.mir, fltNew := s.dev.fltNew } = s.dev)
  ∧ (∀ (s : State) (req : Fin 10), s.coreRuns → s.dev.flag F.MIR_CTL_EN = false →
    Runs (.mirEnable req) s fun d =>
      let d2 := (d.wr R.MIR_CTL (BitVec.ofNat 32 ((d.rd R.MIR_CTL).toNat ||| 1) &&& 3#32)).setPair 1
      if bitOf ((d.rd R.MIR_CTL).toNat ||| 1) 2 && d2.mirState == 6 then d2.setPair 4 else d2)
  ∧ (∀ (s : State) (req : Fin 10), s.coreRuns → s.dev.flag F.MIR_CTL_EN = true →
    Runs (.mirDisable req) s fun d => (d.wr R.MIR_CTL (BitVec.ofNat 32 (2 * d.get F.MIR_CTL_PREF) &&& 3#32)).partnerGone.setPair 0)
  ∧ (∀ (s : State) (req : Fin 10), s.coreRuns → s.dev.flag F.MIR_CTL_EN = true → s.dev.mirState = 6 →
    Runs (.resync req) s fun d => (d.wr R.MIR_CTL (BitVec.ofNat 32 ((d.rd R.MIR_CTL).toNat ||| 4) &&& 3#32)).setPair 4)
  ∧ (∀ (s : State) (req : Fin 10), s.coreRuns → s.dev.mir.tk = none → s.dev.flag F.MIR_STAT_PARTNER = true → s.dev.mirState = 6 →
    Runs (.mirTakeoverTake req) s fun d =>
      let tat := d.now + 2000 * max 1 (d.get F.MIR_CFG_TKLEAD)
      ((d.put F.MIR_TAKEOVER_MODE 1).tkStart none tat).mirSend 10 [1, tat % 2 ^ 32, tat / 2 ^ 32 % 2 ^ 32])
  ∧ (∀ (s : State) (req : Fin 10), s.coreRuns → s.dev.mir.tk = none → s.dev.flag F.MIR_STAT_PARTNER = true → s.dev.mirState = 5 →
      s.dev.get F.MIR_STAT_PSTATE = 6 →
    Runs (.mirTakeoverGive req) s fun d =>
      let tat := d.now + 2000 * max 1 (d.get F.MIR_CFG_TKLEAD)
      (((d.put F.MIR_TAKEOVER_MODE 2).tkStart (some true) tat).mirSend 10 [2, tat % 2 ^ 32, tat / 2 ^ 32 % 2 ^ 32]).yieldAll tat)
  ∧ (∀ (s : State) (req : Fin 10), s.coreRuns → s.dev.mir.tk = none → s.dev.flag F.MIR_STAT_PARTNER = false →
    Runs (.mirTakeoverTake req) s fun d => (d.put F.MIR_TAKEOVER_MODE 1).tkRefuse 4)
  ∧ (∀ (s : State) (tat : Nat) (x : Dev), s.coreRuns → s.dev.mir.tk = some (some true, tat) →
      ((s.start.advance tat).put F.MIR_TK_STAT_RESULT (if (s.start.advance tat).get F.MIR_TK_STAT_NREF = 0 then 2 else 3)).upMir
        (fun m => { m with tk := none }) = x → x.mirState = 5 →
    Runs .takeoverAt s fun _ => (x.upMir (fun m => { m with tst := (List.range 16).foldl (fun a k => smSet a 0 k (x.tstate k + 8 * b2n (x.armOk k))) [] })).setPair 6)
  ∧ (∀ (s : State) (tat : Nat) (x : Dev), s.coreRuns → s.dev.mir.tk = some (some false, tat) →
      ((s.start.advance tat).put F.MIR_TK_STAT_RESULT (if (s.start.advance tat).get F.MIR_TK_STAT_NREF = 0 then 2 else 3)).upMir
        (fun m => { m with tk := none }) = x → x.mirState = 6 →
    Runs .takeoverAt s fun _ => x.setPair 5)
  ∧ (∀ (s : State) (req : Fin 10), s.coreRuns →
    Completes (.mirCntClr req) s fun e =>
      e.rd R.MIR_CNT0 = 0 ∧ e.rd R.MIR_CNT1 = 0 ∧ e.rd R.MIR_CNT2 = 0 ∧ e.rd R.MIR_DIGSTAT = 0
        ∧ Dev.onlyRegs s.dev e [R.MIR_CNT0, R.MIR_CNT1, R.MIR_CNT2, R.MIR_DIGSTAT])
  ∧ (∀ (s : State), s.coreRuns → s.dev.flag F.MIR_STAT_LOCK0 = false → s.dev.flag F.MIR_STAT_LOCK1 = false →
    Completes (.mirRxLaneLock 0 true) s fun e => e.flag F.MIR_STAT_LOCK0 = true ∧ Dev.onlyRegs s.dev e [R.MIR_STAT])
  ∧ ∀ (s : State), s.coreRuns → s.dev.flag F.MIR_STAT_LOCK0 = true → s.dev.flag F.MIR_STAT_LOCK1 = true →
    Runs (.mirRxLaneLock 1 false) s fun d => ((d.put F.MIR_STAT_LOCK1 0).incSat F.MIR_CNT2_LANEF).causeOn 22 7 0 1

/-- A submission doorbell within the ring sets its tail (R377), a completion doorbell frees the entries up to it (R378), a
stream doorbell moves RP; a doorbell whose value lies outside the ring counts DBBAD and changes no ring; an entry is
fetched into a cask (R379), or waits with FETCHEXH where none is free, and is fetched again 1 µs later
(Dev.fetchAgain); the completion at the front is written with its phase (R385); a coalescing time-out comes CTIME µs
after the first unsignalled entry and signals (R384); a ring full for CQTO ms stalls (R385). A write of BAR2 outside
the three doorbells of a page, or of fewer than 4 bytes, has no effect (R377). Said of states in which no cork is
overdue (R62) and the reset of the command's domain (CORE) is released. -/
def Obligations.doorbells_and_fetch : Prop :=
  (∀ (d : Dev) (off v : Nat), off % 0x100 ≠ 0 → off % 0x100 ≠ 4 → off % 0x100 ≠ 8 → d.doorbell off v = d)
  ∧ (∀ (d : Dev) (off size v : Nat), size < 4 → d.bar2Write off size v = d)
  ∧ (∀ (s : State) (n : Fin 256) (value : Nat) (x : Sq), s.coreRuns → s.dev.bar2 = true → s.dev.sq? n = some x → value < x.size → value < 2 ^ 32 →
    Completes (.sqDoorbell n value) s fun e =>
      e.sq? n = some { x with tail := value } ∧ (∀ m, m ≠ n.val → e.sq? m = s.dev.sq? m) ∧ e.hif.cqs = s.dev.hif.cqs
        ∧ { e with hif := s.dev.hif, fltNew := s.dev.fltNew } = s.dev)
  ∧ (∀ (s : State) (n : Fin 256) (value : Nat) (x : Sq), s.coreRuns → s.dev.bar2 = true → s.dev.sq? n = some x → x.size ≤ value → value < 2 ^ 32 →
    Completes (.sqDoorbell n value) s fun e => e.hif = s.dev.hif ∧ e.get F.HIF_CNT0_DBBAD = min (s.dev.get F.HIF_CNT0_DBBAD + 1) 255)
  ∧ (∀ (s : State) (n : Fin 256) (value : Nat) (c : Cq), s.coreRuns → s.dev.bar2 = true → s.dev.cq? n = some c → value < c.size → value < 2 ^ 32 →
      (value + c.size - c.head) % c.size ≤ c.held →
    Completes (.cqDoorbell n value) s fun e =>
      e.cq? n = some { c with head := value } ∧ (∀ m, m ≠ n.val → e.cq? m = s.dev.cq? m) ∧ e.hif.sqs = s.dev.hif.sqs ∧ e.reg = s.dev.reg
        ∧ Dev.still { e with hif := s.dev.hif } = s.dev.still)
  ∧ (∀ (s : State) (n : Fin 256) (value : Nat), s.coreRuns → s.dev.bar2 = true → s.dev.cq? n = none →
    Completes (.cqDoorbell n value) s fun e => e.hif = s.dev.hif ∧ e.get F.HIF_CNT0_DBBAD = min (s.dev.get F.HIF_CNT0_DBBAD + 1) 255)
  ∧ (∀ (s : State) (n : Fin 8) (value : Nat), s.coreRuns → s.dev.bar2 = true → s.dev.flag (F.STM_CFG_EN n) = true → value < s.dev.stmSize n → value < 2 ^ 32 →
      (value + s.dev.stmSize n - (s.dev.stmOf n).rp) % s.dev.stmSize n ≤ ((s.dev.stmOf n).wp + s.dev.stmSize n - (s.dev.stmOf n).rp) % s.dev.stmSize n →
    Completes (.streamRpDoorbell n value) s fun e =>
      (e.stmOf n).rp = value ∧ e.rd (R.STM_RP n) = fldPut (F.STM_RP_PTR n) (s.dev.rd (R.STM_RP n)) value ∧ (∀ a, a ≠ R.STM_RP n → e.rd a = s.dev.rd a)
        ∧ { e with hif := s.dev.hif, reg := s.dev.reg, fltNew := s.dev.fltNew } = s.dev)
  ∧ (∀ (s : State) (n : Fin 256) (entry : List Nat) (x : Sq) (d1 : Dev) (k : Nat), s.coreRuns → s.dev.sq? n = some x → s.dev.fetching = true → x.stuck = none →
      x.head ≠ x.tail → x.ents = [] → s.start.caskIn 0 n (entry16 entry) = some (d1, k) →
    Runs (.sqEntryFetch n entry) s fun _ => d1.entIn n { x with head := (x.head + 1) % x.size, stuck := none, flight := x.flight - 1 } (entry16 entry) (some k) x.head)
  ∧ (∀ (s : State) (n : Fin 256) (entry : List Nat) (x : Sq), s.coreRuns → s.dev.sq? n = some x → s.dev.fetching = true → x.stuck = none →
      x.head ≠ x.tail → x.ents = [] → s.start.caskIn 0 n (entry16 entry) = none →
    Runs (.sqEntryFetch n entry) s fun d => ((d.setSq n { x with stuck := some (entry16 entry), stuckAt := d.fab, flight := 0 }).incSat F.HIF_CNT1_FETCHEXH).raise 14 5 n 1)
  ∧ (∀ (s : State) (n : Fin 256) (w : List Nat) (x : Sq) (d1 : Dev) (k : Nat), s.coreRuns → s.dev.sq? n = some x → s.dev.flag F.HIF_CTL_EN = true → s.dev.domUp 6 = true → x.stuck = some w →
      x.stuckAt + 400 ≤ s.dev.fab → s.start.caskIn 0 n w = some (d1, k) →
    Runs (.fetchRetry n) s fun _ => d1.entIn n { x with head := (x.head + 1) % x.size, stuck := none, flight := x.flight - 1 } w (some k) x.head)
  ∧ (∀ (s : State) (n : Fin 256) (x : Sq), s.coreRuns → s.dev.sq? n = some x → x.stuck.isSome = true →
    Runs (.fetchRetry n) s fun d => (d.until (x.stuckAt + 400)).fetchAgain n)
  ∧ (∀ (s : State) (cq : Fin 256) (c : Cq) (e : Cpl) (r : List Cpl), s.coreRuns → s.dev.cq? cq = some c → c.wait = e :: r → c.full = false → c.closing = false → s.dev.pcieGo = true → e.data = [] → c.tail + 1 < c.size → c.unsig + 1 < c.cthr →
    Completes (.completionWrite cq) s fun x =>
      x.out = s.dev.out ++ [.write (c.base + 16 * c.tail) (cplWords e c.phase)]
        ∧ x.cq? cq = some { c with wait := r, tail := c.tail + 1, unsig := c.unsig + 1, since := if c.unsig = 0 then s.dev.fab else c.since, fullAt := s.dev.fab }
        ∧ { x with out := s.dev.out, hif := s.dev.hif, fltNew := s.dev.fltNew } = s.dev)
  ∧ (∀ (s : State) (cq : Fin 256) (c : Cq), s.coreRuns → s.dev.cq? cq = some c → c.ctime ≠ 0 → c.unsig ≠ 0 →
    Runs (.cqCoalesceTimeout cq) s fun d => (d.until (c.since + 400 * c.ctime)).cqSignal cq c)
  ∧ ∀ (s : State) (cq : Fin 256) (c : Cq), s.coreRuns → s.dev.cq? cq = some c → c.full = true →
    Runs (.cqStall cq) s fun d =>
      ((d.until (c.fullAt + 400000 * max 1 (d.get F.HIF_CFG_CQTO))).incSat F.HIF_CNT1_CQSTALL).causeOn 14 4 cq 1

/-- A command that is next of its source and passes the checks runs and completes (R380, R385, R386, R390). NOP answers
zero; IDENTIFY the firmware release and the versions; REG_RD, REG_WR and REG_CORK access registers; DESC_WR and
DESC_RD the descriptor banks; STROBE begins a strobe; IMAGE_LOAD, FW_STAGE and LOG_RD act as opImageLoad, opFwStage
and opLogRd; DEMAND sets or posts a demand; PRED_Q answers a prediction; TILE_RD and TILE_WR reach a tile's register;
MEM_WR and MEM_RD the core memories (R390). Said of states in which no cork is overdue (R62) and the reset of the
command's domain (CORE) is released. -/
def Obligations.opcodes_of_the_host : Prop :=
  (∀ (s : State) (h : CmdHdr) (x : Sq) (e : Ent), s.coreRuns → s.dev.opTakes h 0 true [] x e →
    Runs (.nop h) s fun d => Dev.opEnd h 0 x e (d.opStart h 0 x, .ok 0 0))
  ∧ (∀ (s : State) (h : CmdHdr) (x : Sq) (e : Ent), s.coreRuns → s.dev.opTakes h 1 true [] x e →
    Runs (.identify h) s fun d => let y := d.opStart h 1 x
      Dev.opEnd h 1 x e (y, .ok (y.rd (if y.flag F.MGS_STAT_BANK then R.MGS_FWREL_B else R.MGS_FWREL_A)).toNat (y.dver * 2 ^ 16 + y.get F.SYS_VINTAGE_CUR)))
  ∧ (∀ (s : State) (h : CmdHdr) (x : Sq) (e : Ent) (off : Nat), s.coreRuns → s.dev.opTakes h 2 false [par 0 off, par 1 1] x e → off % 4 = 0 → off + 4 ≤ 2 ^ 25 → (s.start.opStart h 2 x).offAt off = false →
    Runs (.regRd h off 1) s fun d => let y := (d.opStart h 2 x).busRead (cmdReq h) off
      Dev.opEnd h 2 x e (y, ⟨0, y.bus.data % 2 ^ 32, 0, []⟩))
  ∧ (∀ (s : State) (h : CmdHdr) (x : Sq) (e : Ent) (off cnt : Nat) (data : List Nat), s.coreRuns → s.dev.opTakes h 3 true (par 0 off :: par 1 cnt :: if cnt ≤ 9 then parWords 2 (padWords cnt data) else []) x e → 1 ≤ cnt → cnt ≤ 9 →
      off % 4 = 0 → off + 4 * cnt ≤ 2 ^ 25 →
    Runs (.regWr h off cnt data) s fun d => Dev.opEnd h 3 x e ((d.opStart h 3 x).opWrite h off (padWords cnt data)))
  ∧ (∀ (s : State) (h : CmdHdr) (x : Sq) (e : Ent) (off value : Nat), s.coreRuns → s.dev.opTakes h 4 true [par 0 off, par 1 value] x e → off < 2 ^ 25 → corkPlace off false = true →
    Runs (.regCork h off value) s fun d =>
      let y := d.opStart h 4 x
      let v := value % 2 ^ 32
      let a := y.busWrite (cmdReq h) off v
      let b := a.busWrite (cmdReq h) (off + 4) (2 ^ 32 - 1 - v)
      Dev.opEnd h 4 x e (b, ⟨statusOf (y.wrRefused (cmdReq h) off v || a.wrRefused (cmdReq h) (off + 4) (2 ^ 32 - 1 - v)) false, (b.rd R.SYS_CORK_STAT).toNat, 0, []⟩))
  ∧ (∀ (s : State) (h : CmdHdr) (x : Sq) (e : Ent) (bank : Bool) (idx cnt : Nat) (data : List Nat), s.coreRuns → s.dev.opTakes h 5 true [parBits 0 13 13 (b2n bank), parBits 0 12 0 idx, par 1 cnt] x e → h.src < 256 →
      1 ≤ cnt → idx + cnt ≤ 8192 → 32 * cnt ≤ h.dlen →
    Runs (.descWr h bank idx cnt data) s fun d =>
      let r := (d.opStart h 5 x).descsPut bank cnt idx (padWords (8 * cnt) (padWords (h.dlen / 4) data))
      Dev.opEnd h 5 x e (r.1, ⟨statusOf r.2.2.2 false, r.2.1, r.2.2.1, []⟩))
  ∧ (∀ (s : State) (h : CmdHdr) (x : Sq) (e : Ent) (bank : Bool) (idx cnt : Nat), s.coreRuns → s.dev.opTakes h 6 true [parBits 0 13 13 (b2n bank), parBits 0 12 0 idx, par 1 cnt] x e →
      1 ≤ cnt → idx + cnt ≤ 8192 → 32 * cnt ≤ h.dlen →
    Runs (.descRd h bank idx cnt) s fun d => let y := d.opStart h 6 x
      Dev.opEnd h 6 x e (y, ⟨0, cnt, 0, memWords y.mem (0x200000 + (if bank then 0x40000 else 0) + 32 * idx) (8 * cnt)⟩))
  ∧ (∀ (s : State) (h : CmdHdr) (x : Sq) (e : Ent) (grp : Nat), s.coreRuns → s.dev.opTakes h 7 true [parBits 0 7 0 grp] x e → grp % 256 ≠ 0 →
      (s.start.opStart h 7 x).following = false → (s.start.opStart h 7 x).strobeBusy (grp % 256) = false →
    Runs (.strobe h grp) s fun d => let y := (d.opStart h 7 x).strobe grp
      Dev.opEnd h 7 x e (y, .ok (y.get F.SYS_VINTAGE_CUR) 0))
  ∧ (∀ (s : State) (h : CmdHdr) (x : Sq) (e : Ent) (image : List Nat), s.coreRuns → s.dev.opTakes h 8 true [] x e → h.src < 256 →
      (s.start.opStart h 8 x).get F.SYS_UPD_PEND_GRP_PEND = 0 → (s.start.opStart h 8 x).following = false →
    Runs (.imageLoad h image) s fun d =>
      let y := d.opStart h 8 x
      let b := wordsBytes (padWords (h.dlen / 4) image)
      let z := y.imgResult b
      Dev.opEnd h 8 x e (match y.imgCheck b with
        | some rs => (z.imgApply b rs, .ok (wordAt b 3 % 2 ^ 16) 0)
        | none => (z.verifyFail, .err 9)))
  ∧ (∀ (s : State) (h : CmdHdr) (x : Sq) (e : Ent) (off : Nat) (piece : List Nat), s.coreRuns → s.dev.opTakes h 9 true [par 0 off, parBits 1 0 0 (b2n false)] x e → h.src < 256 → off + h.dlen ≤ 2 ^ 20 →
    Runs (.fwStage h off false piece) s fun d =>
      let x1 := d.opStart h 9 x
      let y : Dev := { x1 with mram := memWriteBytes x1.mram (bankAddr (!x1.flag F.MGS_STAT_BANK) + off) (wordsBytes (padWords (h.dlen / 4) piece)) }
      let z := (y.put F.MGS_FW_STAT_VERIFIED 0).put F.MGS_FW_STAT_STAGED (y.get F.MGS_FW_STAT_STAGED + h.dlen)
      Dev.opEnd h 9 x e (z, .ok (z.get F.MGS_FW_STAT_STAGED) 0))
  ∧ (∀ (s : State) (h : CmdHdr) (x : Sq) (e : Ent) (idx cnt : Nat), s.coreRuns → s.dev.opTakes h 0xA true [par 0 idx, par 1 cnt] x e → 1 ≤ cnt → cnt ≤ 16384 → 32 * cnt ≤ h.dlen →
    Runs (.logRd h idx cnt) s fun d =>
      let y := (d.opStart h 0xA x).logDrain
      let seq := y.get F.MGS_LOG_SEQ
      let start := max idx (seq - 16384)
      let n := min cnt (seq - start)
      Dev.opEnd h 0xA x e (y, ⟨0, start + n, n, (List.range n).flatMap (fun i => memWords y.mram (0x200000 + 32 * ((start + i) % 16384)) 8)⟩))
  ∧ (∀ (s : State) (h : CmdHdr) (x : Sq) (e : Ent) (mach : Fin 16) (dem tag : Nat), s.coreRuns → s.dev.opTakes h 0xB true [parBits 0 3 0 mach, parBits 1 16 0 dem, parBits 2 8 8 (b2n false), parBits 2 7 0 tag] x e →
    Runs (.demand h mach dem false tag) s fun d => let y := ((d.opStart h 0xB x).prsWrote mach).put (F.PRS_DEMAND_DEMAND mach) dem
      Dev.opEnd h 0xB x e (y, .ok (y.rd (R.PRS_NSTR mach)).toNat 0))
  ∧ (∀ (s : State) (h : CmdHdr) (x : Sq) (e : Ent) (k : Fin 16) (ang : Nat) (t : Int), s.coreRuns → s.dev.opTakes h 0xC true [parBits 0 3 0 k, parBits 1 23 0 ang] x e →
      (s.start.opStart h 0xC x).queryRes k (ang % 2 ^ 24) = .time t →
    Runs (.predQ h k ang) s fun d => let y := d.opStart h 0xC x
      Dev.opEnd h 0xC x e (y, .ok (ofS 64 (fdiv t 8) % 2 ^ 32) (ofS 64 (fdiv t 8) / 2 ^ 32 % 2 ^ 24 + (Int.fmod t 8).toNat * 2 ^ 24 + b2n (decide (t < 8 * (y.now : Int))) * 2 ^ 29)))
  ∧ (∀ (s : State) (h : CmdHdr) (x : Sq) (e : Ent) (n : Fin 16) (p : Fin 4) (addr : Nat), s.coreRuns → s.dev.opTakes h 0xD true [parBits 0 3 0 n, parBits 0 9 8 p, par 1 addr] x e →
      (s.start.opStart h 0xD x).tileStop n p = none → (s.start.opStart h 0xD x).tileSilent n p true = false →
    Runs (.tileRd h n p addr) s fun d => let y := d.opStart h 0xD x; let r := y.tileRead (tileNo n p) y.mySide (addr % 65536)
      Dev.opEnd h 0xD x e (y, .ok r.2 r.1))
  ∧ (∀ (s : State) (h : CmdHdr) (x : Sq) (e : Ent) (n : Fin 16) (p : Fin 4) (addr data : Nat), s.coreRuns → s.dev.opTakes h 0xE true [parBits 0 3 0 n, parBits 0 9 8 p, par 1 addr, par 2 data] x e →
      (s.start.opStart h 0xE x).tileStop n p = none → (s.start.opStart h 0xE x).tileSilent n p false = false →
      ((s.start.opStart h 0xE x).ts (tileNo n p) (s.start.opStart h 0xE x).mySide).st ≠ 0 →
    Runs (.tileWr h n p addr data) s fun d => let y := d.opStart h 0xE x; let r := y.tileWrite (tileNo n p) y.mySide (addr % 65536) (data % 2 ^ 32)
      Dev.opEnd h 0xE x e (r.1, .ok r.2 0))
  ∧ (∀ (s : State) (h : CmdHdr) (x : Sq) (e : Ent) (off : Nat) (data : List Nat), s.coreRuns → s.dev.opTakes h 0xF true [par 0 off] x e → coreMem off h.dlen = true →
    Runs (.memWr h off data) s fun d => let y := d.opStart h 0xF x
      Dev.opEnd h 0xF x e ({ y with mem := memWriteBytes y.mem off (wordsBytes (padWords (h.dlen / 4) data)) }, .ok h.dlen 0))
  ∧ ∀ (s : State) (h : CmdHdr) (x : Sq) (e : Ent) (off : Nat), s.coreRuns → s.dev.opTakes h 0x10 true [par 0 off] x e → coreMem off h.dlen = true →
    Runs (.memRd h off) s fun d => let y := d.opStart h 0x10 x
      Dev.opEnd h 0x10 x e (y, ⟨0, h.dlen, 0, memWords y.mem off (h.dlen / 4)⟩)

/-- AC_CTL halts, starts and resets application cores and answers which run; CREATE_CQ and CREATE_SQ make a ring where
their parameters allow it and their queue is free (R391); DELETE_SQ and DELETE_CQ take it away; BUF_PUT fills the
staging buffer of its port (R412). Said of states in which no cork is overdue (R62) and the reset of the command's
domain (CORE) is released. -/
def Obligations.opcodes_of_rings_and_cores : Prop :=
  (∀ (s : State) (h : CmdHdr) (x : Sq) (e : Ent) (cores : Nat), s.coreRuns → s.dev.opTakes h 0x11 true [parBits 0 3 0 cores, par 1 1] x e →
    Runs (.acCtlHalt h cores) s fun d => let y := d.opStart h 0x11 x
      let z : Dev := { y with mgs := { y.mgs with acRun := Nat.land y.mgs.acRun (15 - cores % 16) } }
      Dev.opEnd h 0x11 x e (z, .ok (Nat.land y.mgs.acRun (15 - cores % 16)) 0))
  ∧ (∀ (s : State) (h : CmdHdr) (x : Sq) (e : Ent) (cores addr : Nat), s.coreRuns → s.dev.opTakes h 0x11 true [parBits 0 3 0 cores, par 1 2, par 2 addr] x e →
    Runs (.acCtlStart h cores addr) s fun d => let z := (d.opStart h 0x11 x).acStart cores addr
      Dev.opEnd h 0x11 x e (z, .ok (Nat.lor (d.opStart h 0x11 x).mgs.acRun (cores % 16)) 0))
  ∧ (∀ (s : State) (h : CmdHdr) (x : Sq) (e : Ent) (cores : Nat), s.coreRuns → s.dev.opTakes h 0x11 true [parBits 0 3 0 cores, par 1 3] x e →
    Runs (.acCtlReset h cores) s fun d => let z := (d.opStart h 0x11 x).acStop cores true
      Dev.opEnd h 0x11 x e (z, .ok (Nat.land (d.opStart h 0x11 x).mgs.acRun (15 - cores % 16)) 0))
  ∧ (∀ (s : State) (h : CmdHdr) (x : Sq) (e : Ent) (sq base entries cq owner prio : Nat) (core : Bool) (win : Nat) (c : Cq), s.coreRuns →
      s.dev.opTakes h 0x14 true ([par 0 sq, par 1 (base % 2 ^ 32), par 2 (base / 2 ^ 32), par 3 entries, par 4 cq] ++ [parBits 5 7 0 owner, parBits 5 9 8 prio, parBits 5 10 10 (b2n core), parBits 5 21 16 win]) x e → ringArgs sq base entries = true → owner < 256 → prio < 4 → 1 ≤ win → win ≤ 64 →
      (s.start.opStart h 0x14 x).sq? sq = none → (s.start.opStart h 0x14 x).cqLive? cq = some c →
    Runs (.createSq h sq base entries cq owner prio core win) s fun d =>
      Dev.opEnd h 0x14 x e ((d.opStart h 0x14 x).addSq sq (newSq base entries cq owner prio core win), .ok 0 0))
  ∧ (∀ (s : State) (h : CmdHdr) (x y : Sq) (e : Ent) (sq : Nat), s.coreRuns → s.dev.opTakes h 0x15 true [par 0 sq] x e → sq ≠ 0 →
      (s.start.opStart h 0x15 x).sq? sq = some y →
    Runs (.deleteSq h sq) s fun d =>
      let d1 := (d.opStart h 0x15 x).abortEnts sq
      Dev.opEnd h 0x15 x e ({ d1.upQmg (fun q => q.setQcfg sq 0) with hif := { d1.hif with sqs := smDel d1.hif.sqs sq } }, .ok y.ents.length 0))
  ∧ (∀ (s : State) (h : CmdHdr) (x : Sq) (e : Ent) (cq base entries vec cthr ctime : Nat), s.coreRuns →
      s.dev.opTakes h 0x16 true ([par 0 cq, par 1 (base % 2 ^ 32), par 2 (base / 2 ^ 32), par 3 entries] ++ [parBits 4 9 0 vec, parBits 5 7 0 cthr, parBits 5 23 8 ctime]) x e → ringArgs cq base entries = true → vec < 1024 → cthr < 256 → ctime < 65536 →
      (s.start.opStart h 0x16 x).cq? cq = none →
    Runs (.createCq h cq base entries vec cthr ctime) s fun d =>
      Dev.opEnd h 0x16 x e ((d.opStart h 0x16 x).setCq cq (newCq base entries vec cthr ctime), .ok 0 0))
  ∧ (∀ (s : State) (h : CmdHdr) (x : Sq) (e : Ent) (cq : Nat) (c : Cq), s.coreRuns → s.dev.opTakes h 0x17 true [par 0 cq] x e → cq ≠ 0 →
      (s.start.opStart h 0x17 x).cqLive? cq = some c → (s.start.opStart h 0x17 x).hif.sqs.any (fun p => p.2.cq == cq) = false →
    Runs (.deleteCq h cq) s fun d => Dev.opEnd h 0x17 x e ((d.opStart h 0x17 x).cqDrop cq, .ok 0 0))
  ∧ ∀ (s : State) (h : CmdHdr) (x : Sq) (e : Ent) (off len : Nat) (data : List Nat) (g : Dev), s.coreRuns → s.dev.opTakes h 0x19 true (par 0 off :: par 1 len :: parWords 2 (padWords 9 data)) x e →
      len ≠ 0 → len ≤ 36 → off + len ≤ 2 ^ 20 → (s.start.opStart h 0x19 x).stageGrow (h.src - 256) ((off + len + 63) / 64) 16385 = some g →
    Runs (.bufPut h off len data) s fun _ =>
      let y := g.stageWrite (h.src - 256) off ((wordsBytes (padWords 9 data)).take len)
      Dev.opEnd h 0x19 x e (y.setCan (h.src - 256) { y.canOf (h.src - 256) with stage := max (y.canOf (h.src - 256)).stage (off + len) }, .ok len 0)

/-- A completion time-out and an error count and reach their user (R393); a flush comes its time after the oldest pending
record and writes the pending chunk (R395); enabling a stream resets its pointers (R396); HIF_CTL.EN makes ring 0 from
the ASQ and ACQ registers (R379) and its clearing takes the rings other than 0 away and disables their queues (R389);
FLR clears the rings and streams (R415); the link goes down and comes up (R373); the counters clear. Said of states in
which no cork is overdue (R62) and the reset of the command's domain (CORE) is released. -/
def Obligations.host_link_and_streams : Prop :=
  (∀ (s : State), s.coreRuns → s.dev.pcieOn = true → s.dev.rst.perst = false → Runs (.cplTimeout .racking) s fun d => ((d.incSat F.HIF_CNT1_CTO).aerNote 1).raise 14 1 0 1)
  ∧ (∀ (s : State) (n : Fin 8), s.coreRuns → s.dev.pcieOn = true → s.dev.rst.perst = false →
    Runs (.cplTimeout (.stream n)) s fun d => ((((d.incSat F.HIF_CNT1_CTO).aerNote 1).raise 14 1 n 1).put (F.STM_STAT_ERR n) 1).setStm n { d.stmOf n with chunk := [] })
  ∧ (∀ (s : State), s.coreRuns → s.dev.pcieOn = true → s.dev.rst.perst = false → Runs (.dmaErr .racking) s fun d => ((d.incSat F.HIF_CNT1_ERRCPL).aerNote 2).raise 14 2 0 1)
  ∧ (∀ (s : State) (n : Fin 8), s.coreRuns → s.dev.flag (F.STM_CFG_EN n) = true → s.dev.flag (F.STM_STAT_ERR n) = false → s.dev.pcieGo = true →
      (s.dev.stmOf n).chunk ≠ [] → (s.dev.stmOf n).chunk.length ≤ (s.dev.stmSize n - (s.dev.stmOf n).flushed) / 4 →
      (s.dev.stmOf n).since + 400 * 2 ^ s.dev.get (F.STM_CFG_FLUSH n) ≤ s.dev.fab →
    Runs (.streamFlush n) s fun d =>
      let x := d.stmOf n
      (((d.emit (.write (d.get64 (R.STM_BASE_LO n) (R.STM_BASE_HI n) + x.flushed) x.chunk)).emit
        (.write (d.get64 (R.STM_WPA_LO n) (R.STM_WPA_HI n)) [x.wp, 0])).setStm n { x with flushed := x.wp, chunk := [] }).msix (d.get (F.STM_CFG_VEC n)))
  ∧ (∀ (s : State) (n : Fin 8), s.coreRuns → s.dev.flag (F.STM_CFG_EN n) = true → s.dev.flag (F.STM_STAT_ERR n) = false → (s.dev.stmOf n).chunk ≠ [] →
    Runs (.streamFlush n) s fun d => (d.until ((d.stmOf n).since + 400 * 2 ^ d.get (F.STM_CFG_FLUSH n))).stmFlush n)
  ∧ (∀ (s : State) (req : Fin 10) (n : Fin 8) (data : Nat), s.coreRuns → s.dev.domUp 6 = true → s.dev.rst.perst = false → s.dev.flag (F.STM_CFG_EN n) = false → bits data 30 28 = 0 →
    Completes (.streamEnable req n data) s fun e =>
      e.flag (F.STM_CFG_EN n) = true ∧ e.get (F.STM_WP_PTR n) = 0 ∧ e.get (F.STM_RP_PTR n) = 0 ∧ e.flag (F.STM_STAT_CFGERR n) = false ∧ e.stmOf n = stm0
        ∧ { e with hif := s.dev.hif, reg := s.dev.reg, fltNew := s.dev.fltNew } = s.dev)
  ∧ (∀ (s : State) (req : Fin 10), s.coreRuns → s.dev.domUp 6 = true → s.dev.rst.perst = false → s.dev.flag F.HIF_CTL_EN = false → Completes (.hifEnable req) s fun e =>
      e.flag F.HIF_CTL_EN = true ∧ e.flag F.HIF_STAT_RDY = true
        ∧ e.sq? 0 = some (newSq (s.dev.get64 R.HIF_ASQ_LO R.HIF_ASQ_HI) (max 1 (s.dev.get F.HIF_ASZ_ASQS) + 1) 0 0 0 false 16)
        ∧ e.cq? 0 = some { newCq (s.dev.get64 R.HIF_ACQ_LO R.HIF_ACQ_HI) (max 1 (s.dev.get F.HIF_ASZ_ACQS) + 1) 0 1 0 with wait := (s.dev.cq? 0).elim [] (fun c => c.wait) }
        ∧ { e with hif := s.dev.hif, qmg := s.dev.qmg, reg := s.dev.reg, fltNew := s.dev.fltNew } = s.dev)
  ∧ (∀ (s : State) (req : Fin 10), s.coreRuns → s.dev.domUp 6 = true → s.dev.rst.perst = false → s.dev.flag F.HIF_CTL_EN = true → s.dev.hif.sqs = [] →
      (∀ p ∈ s.dev.hif.cqs, p.1 = 0) → Completes (.hifDisable req) s fun e =>
        e.flag F.HIF_CTL_EN = false ∧ e.flag F.HIF_STAT_RDY = false ∧ e.hif = s.dev.hif ∧
          { e with reg := s.dev.reg } = s.dev) ∧
  (∀ (s : State) (req : Fin 10) (n : Nat) (c : Cq), s.coreRuns → s.dev.domUp 6 = true → s.dev.rst.perst = false →
      s.dev.flag F.HIF_CTL_EN = true → s.dev.hif.sqs = [] → s.dev.hif.cqs = [(n, c)] → n ≠ 0 → Completes (.hifDisable req) s fun e =>
        e.flag F.HIF_CTL_EN = false ∧ e.flag F.HIF_STAT_RDY = false ∧
          e.hif.cqs = (if c.wait = [] then [] else [(n, { c with closing := true })]) ∧ e.hif.sqs = [] ∧
          Dev.still { e with hif := s.dev.hif } = s.dev.still)
  ∧ (∀ (s : State) (req : Fin 10), s.coreRuns → s.dev.domUp 6 = true → s.dev.rst.perst = false → s.dev.flag F.HIF_CTL_EN = true → Runs (.hifDisable req) s fun d =>
      let d1 := (smKeys d.hif.sqs).foldl (fun (x : Dev) n => x.abortEnts n) d
      let gone := (smKeys d1.hif.sqs).filter (· != 0)
      let d2 : Dev := { d1.upQmg (fun q => gone.foldl (fun y n => y.setQcfg n 0) q) with hif := { d1.hif with sqs := d1.hif.sqs.filter (fun p => p.1 == 0) } }
      let d3 := ((smKeys d2.hif.cqs).filter (· != 0)).foldl (fun (x : Dev) n => x.cqDrop n) d2
      (d3.put F.HIF_CTL_EN 0).put F.HIF_STAT_RDY 0)
  ∧ (∀ (s : State), s.coreRuns → s.dev.cfgUp = true → Runs .functionLevelReset s fun d => d.pcieClear)
  ∧ (∀ (s : State), s.coreRuns → s.dev.pcieOn = true → s.dev.flag F.HIF_STAT_LINKUP = true →
    Completes .linkDown s fun e =>
      e.flag F.HIF_STAT_LINKUP = false ∧ e.get F.HIF_STAT_SPEED = 0 ∧ e.get F.HIF_STAT_WIDTH = 0 ∧ e.hif = s.dev.hif)
  ∧ (∀ (s : State) (speed : Fin 4), s.coreRuns → s.dev.domState 6 = 2 → s.dev.rst.perst = false → speed.val ≠ 0 →
    Completes (.pcieLinkUp speed 4) s fun e =>
      e.flag F.HIF_STAT_LINKUP = true ∧ e.get F.HIF_STAT_SPEED = speed ∧ e.get F.HIF_STAT_WIDTH = 4)
  ∧ ∀ (s : State) (req : Fin 10), s.coreRuns → s.dev.domUp 6 = true → s.dev.rst.perst = false → Completes (.hifCntClr req) s fun e =>
      e.rd R.HIF_CNT0 = 0 ∧ e.rd R.HIF_CNT1 = 0 ∧ (∀ n, n < 8 → e.get (F.STM_STAT_LOST n) = 0 ∧ e.flag (F.STM_STAT_ERR n) = s.dev.flag (F.STM_STAT_ERR n)) ∧ e.noRegs = s.dev.noRegs

/-- A command frame addressed to the port that is no FD frame of 16 words is counted as rejected (R411), one that finds a
cask is counted and waits for its turn; bus-off shows with its level condition, and recovery ends both conditions
(R414); error passive shows; the counter clears. Said of states in which no cork is overdue (R62) and the reset of the
command's domain (CORE) is released. -/
def Obligations.can_ports : Prop :=
  (∀ (s : State) (port : Fin 2) (xtd : Bool) (id : Nat) (entry : List Nat), s.coreRuns → s.dev.flag (F.CAN_CTL_EN port) = true →
      s.dev.flag (F.CAN_STAT_BUSOFF port) = false → (s.start.canGood port true).canMine port xtd id = true →
    Runs (.canCommandFrame port .classic xtd id entry) s fun d => (d.canGood port true).incSat (F.CAN_CNT_REJ port))
  ∧ (∀ (s : State) (port : Fin 2) (xtd : Bool) (id : Nat) (entry : List Nat), s.coreRuns → s.dev.flag (F.CAN_CTL_EN port) = true →
      s.dev.flag (F.CAN_STAT_BUSOFF port) = false →
    Runs (.canCommandFrame port .remote xtd id entry) s fun d => d.canGood port true)
  ∧ (∀ (s : State) (port : Fin 2) (xtd : Bool) (id : Nat) (entry : List Nat) (x d1 : Dev) (k : Nat), s.coreRuns → s.dev.flag (F.CAN_CTL_EN port) = true →
      s.dev.flag (F.CAN_STAT_BUSOFF port) = false → s.start.canGood port true = x → x.canMine port xtd id = true → entry.length = 16 →
      (x.qmg.queue (256 + port.val)).length < 16 → x.caskIn (1 + port) (256 + port.val) (entry16 entry) = some (d1, k) →
    Runs (.canCommandFrame port .fd xtd id entry) s fun _ =>
      (d1.incSat (F.CAN_CNT_CMD port)).entIn (256 + port.val) (d1.canOf port).cmd (entry16 entry) (some k) 0)
  ∧ (∀ (s : State) (port : Fin 2), s.coreRuns → s.dev.flag (F.CAN_CTL_EN port) = true → s.dev.flag (F.CAN_STAT_BUSOFF port) = false →
    Completes (.canBusoff port) s fun e =>
      e.flag (F.CAN_STAT_BUSOFF port) = true ∧ e.get (F.CAN_STAT_TEC port) = 255 ∧ e.get (F.CAN_STAT_REC port) = s.dev.get (F.CAN_STAT_REC port)
        ∧ 1 ≤ e.get (F.CAN_STAT_LEC port) ∧ e.get (F.CAN_STAT_LEC port) ≤ 6 ∧ e.hasCause 14 6 port = true ∧ Dev.memSame s.dev e)
  ∧ (∀ (s : State) (port : Fin 2), s.coreRuns → s.dev.flag (F.CAN_STAT_BUSOFF port) = true → (s.dev.canOf port).tx = [] →
    Completes (.canBusoffRecovery port) s fun e =>
      e.flag (F.CAN_STAT_BUSOFF port) = false ∧ e.flag (F.CAN_STAT_ERRPASS port) = false ∧ e.get (F.CAN_STAT_TEC port) = 0 ∧ e.get (F.CAN_STAT_REC port) = 0
        ∧ e.hasCause 14 6 port = false ∧ e.hasCause 14 7 port = false ∧ (∀ a, a ≠ R.CAN_STAT port → e.rd a = s.dev.rd a))
  ∧ (∀ (s : State) (port : Fin 2), s.coreRuns → s.dev.flag (F.CAN_CTL_EN port) = true → s.dev.flag (F.CAN_STAT_ERRPASS port) = true →
    Completes (.canErrpass port false) s fun e =>
      e.flag (F.CAN_STAT_ERRPASS port) = false ∧ e.get (F.CAN_STAT_TEC port) < 128 ∧ e.get (F.CAN_STAT_REC port) < 128 ∧ e.hasCause 14 7 port = false
        ∧ { e.still with draw := s.dev.draw } = s.dev.still)
  ∧ (∀ (s : State) (port : Fin 2), s.coreRuns → s.dev.flag (F.CAN_CTL_EN port) = true → s.dev.flag (F.CAN_STAT_ERRPASS port) = false →
    Completes (.canErrpass port true) s fun e =>
      e.flag (F.CAN_STAT_ERRPASS port) = true ∧ (128 ≤ e.get (F.CAN_STAT_TEC port) ∨ 128 ≤ e.get (F.CAN_STAT_REC port)) ∧ e.hasCause 14 7 port = true
        ∧ Dev.memSame s.dev e)
  ∧ ∀ (s : State) (req : Fin 10) (port : Fin 2), s.coreRuns →
    Completes (.canCntClr req port) s fun e => e.rd (R.CAN_CNT port) = 0 ∧ Dev.onlyRegs s.dev e [R.CAN_CNT port]

/-- A requester granted its owner allocates the lowest free cask (R400), frees a cask it holds, pushes it to a queue that
is enabled and not full (R401), pops the front of a queue it consumes (R402), and has the code of what stops it
otherwise; OWNSEL takes a granted owner (R399), and counts a refused one; the cask window stores and reads the words
of the cask selected (R404), and counts a refused access; QCFG writes a queue's configuration (R405); RECLAIM takes
the casks of an owner back (R407). Said of states in which no cork is overdue (R62) and the reset of the command's
domain (CORE) is released. -/
def Obligations.queue_manager : Prop :=
  (∀ (s : State) (req : Fin 10), s.coreRuns → s.dev.qGranted req = true → s.dev.qmg.free ≠ 0 → s.dev.qmg.limit (s.dev.qOwner req) = none →
    Completes (.qmgAlloc req) s fun e =>
      e.qmg = s.dev.qmg.putCask s.dev.qmg.lowest ⟨false, s.dev.qOwner req⟩ ∧ e.own req R.QMG_RES = BitVec.ofNat 32 (qmgWord 1 .ok s.dev.qmg.lowest)
        ∧ e.bus = ⟨req, qmgWord 1 .ok s.dev.qmg.lowest % 2 ^ 32⟩)
  ∧ (∀ (s : State) (req : Fin 10), s.coreRuns → s.dev.qGranted req = false →
    Completes (.qmgAlloc req) s fun e => e.qmg = s.dev.qmg ∧ e.own req R.QMG_RES = BitVec.ofNat 32 (qmgWord 1 .badOwn 0))
  ∧ (∀ (s : State) (req : Fin 10), s.coreRuns → s.dev.qGranted req = true → s.dev.qmg.free = 0 →
    Completes (.qmgAlloc req) s fun e => e.qmg = s.dev.qmg ∧ e.own req R.QMG_RES = BitVec.ofNat 32 (qmgWord 1 .exhausted 0))
  ∧ (∀ (s : State) (req : Fin 10) (cask : Nat), s.coreRuns → s.dev.qGranted req = true → s.dev.qmg.holds (s.dev.qOwner req) (cask % caskTotal) = .ok →
    Completes (.qmgFree req cask) s fun e =>
      e.qmg = s.dev.qmg.freeCask (cask % caskTotal) ∧ e.own req R.QMG_RES = BitVec.ofNat 32 (qmgWord 2 .ok (cask % caskTotal)))
  ∧ (∀ (s : State) (req : Fin 10) (queue cask : Nat), s.coreRuns → s.dev.qGranted req = true → s.dev.qmg.holds (s.dev.qOwner req) (cask % caskTotal) = .ok →
      qEn (s.dev.qmg.qcfgOf (queue % 2 ^ 15)) = true → qDepth (s.dev.qmg.qcfgOf (queue % 2 ^ 15)) = 0 →
    Completes (.qmgPush req queue cask) s fun e =>
      e.qmg = (s.dev.qmg.putCask (cask % caskTotal) ⟨true, qCons (s.dev.qmg.qcfgOf (queue % 2 ^ 15))⟩).setQueue (queue % 2 ^ 15)
          (s.dev.qmg.queue (queue % 2 ^ 15) ++ [cask % caskTotal])
        ∧ e.own req R.QMG_RES = BitVec.ofNat 32 (qmgWord 3 .ok (cask % caskTotal)))
  ∧ (∀ (s : State) (req : Fin 10) (c : Nat) (r : List Nat), s.coreRuns → s.dev.qGranted req = true →
      qCons (s.dev.qmg.qcfgOf ((s.dev.own req R.QMG_QSEL).toNat % 2 ^ 15)) = s.dev.qOwner req →
      s.dev.qmg.queue ((s.dev.own req R.QMG_QSEL).toNat % 2 ^ 15) = c :: r →
    Completes (.qmgPop req) s fun e =>
      e.qmg = (s.dev.qmg.putCask c ⟨false, s.dev.qOwner req⟩).setQueue ((s.dev.own req R.QMG_QSEL).toNat % 2 ^ 15) r
        ∧ e.own req R.QMG_RES = BitVec.ofNat 32 (qmgWord 4 .ok c) ∧ e.bus = ⟨req, qmgWord 4 .ok c % 2 ^ 32⟩)
  ∧ (∀ (s : State) (req : Fin 10) (owner : Nat), s.coreRuns → s.dev.qmg.granted (owner % 256) req = true →
    Completes (.qmgOwnselWrite req owner) s fun e => e.qOwner req = owner % 256 ∧ { e with preq := s.dev.preq, fltNew := s.dev.fltNew } = s.dev)
  ∧ (∀ (s : State) (req : Fin 10) (owner : Nat), s.coreRuns → s.dev.qmg.granted (owner % 256) req = false →
    Completes (.qmgOwnselWrite req owner) s fun e => e.qOwner req = s.dev.qOwner req ∧ Dev.onlyRegs s.dev e [F.QMG_CNT_OWNREF.addr])
  ∧ (∀ (s : State) (req : Fin 10) (w : Fin 16) (data c : Nat), s.coreRuns → s.dev.qWindow req = some c →
    Completes (.qmgCwinAccess req w true data) s fun e =>
      memRead e.cmem (64 * c + 4 * w) 4 = data % 2 ^ 32 ∧ (∀ a, a < 64 * c + 4 * w ∨ 64 * c + 4 * w + 4 ≤ a → memGet e.cmem a = memGet s.dev.cmem a)
        ∧ { e with cmem := s.dev.cmem, fltNew := s.dev.fltNew } = s.dev)
  ∧ (∀ (s : State) (req : Fin 10) (w : Fin 16) (data c : Nat), s.coreRuns → s.dev.qWindow req = some c →
    Completes (.qmgCwinAccess req w false data) s fun e =>
      e.bus = ⟨req, memRead s.dev.cmem (64 * c + 4 * w) 4 % 2 ^ 32⟩ ∧ { e with bus := s.dev.bus, fltNew := s.dev.fltNew } = s.dev)
  ∧ (∀ (s : State) (req : Fin 10) (w : Fin 16) (data : Nat), s.coreRuns → s.dev.qWindow req = none →
    Completes (.qmgCwinAccess req w true data) s fun e => Dev.onlyRegs s.dev e [F.QMG_CNT_WINREF.addr])
  ∧ (∀ (s : State) (req : Fin 10) (data : Nat), s.coreRuns → 512 ≤ (s.dev.own req R.QMG_QSEL).toNat % 2 ^ 15 →
      s.dev.qmg.queue ((s.dev.own req R.QMG_QSEL).toNat % 2 ^ 15) = [] →
    Completes (.qmgQcfgWrite req data) s fun e =>
      e.qmg = s.dev.qmg.setQcfg ((s.dev.own req R.QMG_QSEL).toNat % 2 ^ 15) (BitVec.ofNat 32 (data % 2 ^ 32) &&& 0xFFDFFFFF#32))
  ∧ (∀ (s : State) (req : Fin 10) (owner : Nat), s.coreRuns → 16 ≤ owner % 256 → bits (s.dev.qmg.ocfgOf (owner % 256)).toNat 9 0 = 0 →
    Completes (.qmgReclaim req owner) s fun e =>
      (∀ p ∈ e.qmg.casks, p.2.queued = true ∨ p.2.tag ≠ owner % 256) ∧ (∀ p ∈ s.dev.qmg.casks, p.2.queued = true ∨ p.2.tag ≠ owner % 256 → p ∈ e.qmg.casks)
        ∧ e.qmg.queues = s.dev.qmg.queues ∧ e.get F.QMG_RECLAIM_OWNER = owner % 256)
  ∧ ∀ (s : State) (req : Fin 10), s.coreRuns →
    Completes (.qmgCntClr req) s fun e => e.rd R.QMG_CNT = 0 ∧ Dev.onlyRegs s.dev e [R.QMG_CNT]

/-- A software trigger of a powered, enabled converter waits or begins (R425); an angle mark whose time has come triggers
(R426); a waiting sequence begins at the next 25 ns (R428); a conversion that ends leaves VALUE, READY, the time-stamp
and what triggered it (R423, R429) at the conversion's end, and the next input of its sequence is begun; a read of
AIN_RES latches its companions and sets SEEN (R430); the counters clear. Said of states in which no cork is overdue
(R62) and the reset of the command's domain (CORE) is released. -/
def Obligations.analog_measurement : Prop :=
  (∀ (s : State) (req : Fin 10) (m : Fin 4), s.coreRuns → s.dev.get (F.PWR_DOM_STAT_STATE 5) = 2 → s.dev.flag (F.ADC_CTL_EN m) = true → (s.dev.ad m).wait = [] →
    Completes (.swtrig req m) s fun e =>
      (e.ad m).wait = [⟨2, 0, 0, s.dev.get (F.ADC_CTL_FIRST m), s.dev.get (F.ADC_CTL_CNT m) + 1⟩] ∧ (e.ad m).run = (s.dev.ad m).run
        ∧ { e with adc := s.dev.adc, fltNew := s.dev.fltNew } = s.dev)
  ∧ (∀ (s : State) (i : Fin 32) (u a t : Int) (m : AMark), s.coreRuns → (s.dev.am i).upTo = some u →
      (s.dev.geo (s.dev.am i).trk).nextOcc (if (s.dev.pr (s.dev.am i).trk).rev then u - 1 else u + 1) (s.dev.am i).ang (s.dev.pr (s.dev.am i).trk).rev = a →
      s.dev.amAble (s.dev.am i) (s.dev.pr (s.dev.am i).trk).rev = true → s.dev.pv (s.dev.am i).trk = true → s.dev.dist (s.dev.am i).trk a < 2 * 65536 →
      s.dev.timeOf (s.dev.am i).trk a = .time t → t ≤ 8 * (s.dev.now : Int) →
      (s.dev.setAm i { s.dev.am i with upTo := some a }).am i = m → m.fired.contains a = false →
    Runs (.adcAngleTrigger i) s fun d =>
      ((d.setAm i { d.am i with upTo := some a }).setAm i { m with fired := a :: m.fired }).adcTrigger (bits m.b.toNat 5 4)
        ⟨0, i, m.ang, bits m.b.toNat 15 12, bits m.b.toNat 11 8 + 1⟩)
  ∧ (∀ (s : State) (m : Fin 4) (t : AdcTrig) (r : List AdcTrig), s.coreRuns → s.dev.domUp 5 = true → (s.dev.ad m).run = none → (s.dev.ad m).wait = t :: r →
    Runs (.adcSequenceStart m) s fun d =>
      let d1 := d.until (d.fab + (10 - (2 * d.now + d.fab % 2) % 10) % 10)
      (d1.setAd m { d1.ad m with wait := r }).adcBegin m t d1.fab)
  ∧ (∀ (s : State) (m : Fin 4) (value : Nat) (t : AdcTrig), s.coreRuns → s.dev.domUp 5 = true → (s.dev.ad m).run = some t → 1 < t.left → (s.dev.ad m).cur < 64 → (s.dev.ad m).ends ≤ s.dev.fab →
    Completes (.adcConversionDone m value) s fun e =>
      e.get (F.AIN_RES_VALUE (s.dev.ad m).cur) = value % 2 ^ 12 ∧ (e.ad m).run = some { t with first := (t.first + 1) % 16, left := t.left - 1 })
  ∧ (∀ (s : State) (m : Fin 4) (value : Nat) (t : AdcTrig), s.coreRuns → s.dev.domUp 5 = true → (s.dev.ad m).run = some t → (s.dev.ad m).ends ≤ s.dev.fab → t.left ≤ 1 →
    Runs (.adcConversionDone m value) s fun d =>
      let j := (d.ad m).cur
      let d1 := ((d.put (F.AIN_RES_VALUE j) (value % 2 ^ 12)).put (F.AIN_RES_READY j) 1).put (F.AIN_RES_SEEN j) 0
      let d2 := d1.put64 (R.AIN_TS_LO j) (R.AIN_TS_HI j) (d.adcStamp (d.ad m))
      let d3 := ((d2.put (F.AIN_SRC_KIND j) t.kind).put (F.AIN_SRC_ENTRY j) t.entry).put (F.AIN_SRC_ANG j) t.ang
      let d4 := d3.adcLimit m j (value % 2 ^ 12)
      let d5 := (d4.setAd m { d4.ad m with run := none }).incWrap (F.ADC_CNT_SEQ m)
      (d5.route (89 + m)).icuArrive (56 + m))
  ∧ (∀ (s : State) (m : Fin 4) (value : Nat), s.coreRuns → s.dev.domUp 5 = true → (s.dev.ad m).run.isSome = true →
    Runs (.adcConversionDone m value) s fun d => (d.until (d.ad m).ends).adcDone m value)
  ∧ (∀ (s : State) (req : Fin 10) (j : Fin 64), s.coreRuns → s.dev.domUp 5 = true →
    Completes (.ainResRead req j) s fun e =>
      e.bus = ⟨req, (s.dev.rd (R.AIN_RES j)).toNat⟩ ∧ e.own req (R.AIN_TS_LO j) = s.dev.rd (R.AIN_TS_LO j) ∧ e.own req (R.AIN_TS_HI j) = s.dev.rd (R.AIN_TS_HI j)
        ∧ e.own req (R.AIN_SRC j) = s.dev.rd (R.AIN_SRC j) ∧ e.flag (F.AIN_RES_SEEN j) = true ∧ (∀ a, a ≠ R.AIN_RES j → e.rd a = s.dev.rd a)
        ∧ { e with bus := s.dev.bus, preq := s.dev.preq, reg := s.dev.reg, fltNew := s.dev.fltNew } = s.dev)
  ∧ (∀ (s : State) (req : Fin 10) (mask : Nat), s.coreRuns → s.dev.domUp 5 = true →
    Completes (.adcCntClr req mask) s fun e =>
      (∀ m, m < 4 → bitOf mask m = true → e.rd (R.ADC_CNT m) = 0) ∧ (∀ m, m < 4 → bitOf mask m = false → e.rd (R.ADC_CNT m) = s.dev.rd (R.ADC_CNT m)) ∧ e.noRegs = s.dev.noRegs)
  ∧ ∀ (s : State) (req : Fin 10) (mask : Nat), s.coreRuns →
    Completes (.trkTlogClr req mask) s fun e =>
      (∀ k, k < 16 → bitOf mask k = true → e.rd (R.TRK_TLOG_STAT k) = 0) ∧ (∀ k, k < 16 → bitOf mask k = false → e.rd (R.TRK_TLOG_STAT k) = s.dev.rd (R.TRK_TLOG_STAT k)) ∧ e.noRegs = s.dev.noRegs

/-- In quadrature decoding a single step counts up or down, with its time-stamp (R434, R441); in sine-cosine decoding a
sample is taken (R436); an amplitude error is shown, counted and held as a condition (R437) until it recovers; an
index edge is routed and reaches the trackers (R435); a broken wire is shown and counted (R439), and once all pairs
are healthy its condition ends; a latch copies the count, its times and period and sets READY (R442); a read of POS or
of LAT_CNT latches the companion words; the counters clear. Said of states in which no cork is overdue (R62) and the
reset of the command's domain (CORE) is released. -/
def Obligations.encoders : Prop :=
  (∀ (s : State) (m : Fin 8) (a b i : Bool) (hold : Nat × Nat × Nat) (stamp : Nat), s.coreRuns → s.dev.encMode m = 1 →
      stamp + s.dev.get (F.ENC_CFG_FLT m) ≤ s.dev.now → s.dev.get (F.ENC_CFG_FLT m) ≤ hold.1 → s.dev.get (F.ENC_CFG_FLT m) ≤ hold.2.1 →
      s.dev.get (F.ENC_CFG_FLT m) ≤ hold.2.2 → s.dev.flag (F.ENC_CFG_IDXEN m) = false →
      s.dev.flag (F.ENC_CFG_INV m) = false → (∀ k, k < 16 → s.dev.flag (F.TRK_CFG_KIND k) = false) →
      (quadPhase a b + 4 - quadPhase (bitOf (s.dev.get (F.ENC_STAT_LVL m)) 0) (bitOf (s.dev.get (F.ENC_STAT_LVL m)) 1)) % 4 = 1 →
    Completes (.encCountChange m (.quad a b i hold stamp)) s fun e =>
      e.rd (R.ENC_POS m) = s.dev.rd (R.ENC_POS m) + 1 ∧ e.get (F.ENC_STAT_DIR m) = 1 ∧ e.get (F.ENC_STAT_LVL m) = b2n a + 2 * b2n b + 4 * b2n i
        ∧ e.get64 (R.ENC_ETS_LO m) (R.ENC_ETS_HI m) = stamp % 2 ^ 64
        ∧ (∀ x, x ∉ [R.ENC_POS m, R.ENC_STAT m, R.ENC_ETS_LO m, R.ENC_ETS_HI m, R.ENC_PER m] → e.rd x = s.dev.rd x)
        ∧ { e with enc := s.dev.enc, reg := s.dev.reg, fltNew := s.dev.fltNew } = s.dev)
  ∧ (∀ (s : State) (m : Fin 8) (sine cosine : Int) (stamp : Nat), s.coreRuns → s.dev.encMode m = 2 →
    Runs (.encCountChange m (.sincos sine cosine stamp)) s fun d => (d.advance stamp).encSample m sine cosine stamp)
  ∧ (∀ (s : State) (m : Fin 8), s.coreRuns → s.dev.encMode m = 2 → s.dev.flag (F.ENC_STAT_AMP m) = false →
    Runs (.ampErr m) s fun d => (((d.put (F.ENC_STAT_AMP m) 1).incSat (F.ENC_ECNT_AMP m)).causeOn 5 2 m 2).encError m)
  ∧ (∀ (s : State) (m : Fin 8), s.coreRuns →
    Completes (.encAmpRecovery m) s fun e =>
      e.flag (F.ENC_STAT_AMP m) = false ∧ e.hasCause 5 2 m = false ∧ (∀ x, x ≠ R.ENC_STAT m → e.rd x = s.dev.rd x) ∧ Dev.still e = s.dev.still)
  ∧ (∀ (s : State) (m : Fin 8), s.coreRuns → s.dev.encMode m = 2 → s.dev.flag (F.ENC_CFG_IDXEN m) = true →
    Runs (.encIndexEdge m) s fun d =>
      (d.put (F.ENC_STAT_LVL m) (d.get (F.ENC_STAT_LVL m) % 4 + 4 * b2n (d.flag (F.ENC_CFG_IPOL m)))).encIdx m d.now)
  ∧ (∀ (s : State) (m : Fin 8) (pair : Fin 3) (x : Dev), s.coreRuns → s.dev.advance (s.dev.now + tickMicro * max 1 (s.dev.get (F.ENC_CFG_WTIME m))) = x → x.encMode m ≠ 0 → x.flag (wireFld m pair) = false →
    Runs (.wire m pair) s fun _ => (((x.put (wireFld m pair) 1).incSat (F.ENC_ECNT_WIRE m)).causeOn 5 0 m 2).encError m)
  ∧ (∀ (s : State) (m : Fin 8) (pair : Fin 3), s.coreRuns → (∀ q : Fin 3, q ≠ pair → s.dev.flag (wireFld m q) = false) →
    Completes (.encWireHealthy m pair) s fun e =>
      e.flag (wireFld m pair) = false ∧ e.hasCause 5 0 m = false ∧ (∀ x, x ≠ R.ENC_STAT m → e.rd x = s.dev.rd x) ∧ Dev.still e = s.dev.still)
  ∧ (∀ (s : State) (m : Fin 8) (sw : Bool), s.coreRuns →
    Completes (.encLatch m sw) s fun e =>
      e.rd (R.ENC_LAT_CNT m) = s.dev.rd (R.ENC_POS m) ∧ e.rd (R.ENC_LAT_ETS_LO m) = s.dev.rd (R.ENC_ETS_LO m) ∧ e.rd (R.ENC_LAT_ETS_HI m) = s.dev.rd (R.ENC_ETS_HI m)
        ∧ e.rd (R.ENC_LAT_PER m) = s.dev.rd (R.ENC_PER m) ∧ e.get64 (R.ENC_LAT_TS_LO m) (R.ENC_LAT_TS_HI m) = s.dev.now % 2 ^ 64
        ∧ e.flag (F.ENC_LAT_ST_READY m) = true ∧ e.flag (F.ENC_LAT_ST_SEEN m) = false ∧ e.flag (F.ENC_LAT_ST_SW m) = sw
        ∧ e.get (F.ENC_ECNT_LATOVR m) = (if s.dev.flag (F.ENC_LAT_ST_READY m) && !s.dev.flag (F.ENC_LAT_ST_SEEN m)
            then min (s.dev.get (F.ENC_ECNT_LATOVR m) + 1) 255 else s.dev.get (F.ENC_ECNT_LATOVR m))
        ∧ e.noRegs = s.dev.noRegs)
  ∧ (∀ (s : State) (req : Fin 10) (m : Fin 8), s.coreRuns →
    Completes (.encPosRead req m) s fun e =>
      e.bus = ⟨req, (s.dev.rd (R.ENC_POS m)).toNat⟩ ∧ e.own req (R.ENC_ETS_LO m) = s.dev.rd (R.ENC_ETS_LO m) ∧ e.own req (R.ENC_ETS_HI m) = s.dev.rd (R.ENC_ETS_HI m)
        ∧ e.own req (R.ENC_PER m) = s.dev.rd (R.ENC_PER m) ∧ { e with bus := s.dev.bus, preq := s.dev.preq, fltNew := s.dev.fltNew } = s.dev)
  ∧ (∀ (s : State) (req : Fin 10) (m : Fin 8), s.coreRuns →
    Completes (.encLatCntRead req m) s fun e =>
      e.bus = ⟨req, (s.dev.rd (R.ENC_LAT_CNT m)).toNat⟩ ∧ e.own req (R.ENC_LAT_TS_LO m) = s.dev.rd (R.ENC_LAT_TS_LO m)
        ∧ e.own req (R.ENC_LAT_ST m) = s.dev.rd (R.ENC_LAT_ST m) ∧ e.flag (F.ENC_LAT_ST_SEEN m) = true ∧ (∀ a, a ≠ R.ENC_LAT_ST m → e.rd a = s.dev.rd a)
        ∧ { e with bus := s.dev.bus, preq := s.dev.preq, reg := s.dev.reg, fltNew := s.dev.fltNew } = s.dev)
  ∧ ∀ (s : State) (req : Fin 10) (mask : Nat), s.coreRuns →
    Completes (.encCntClr req mask) s fun e =>
      (∀ m, m < 8 → bitOf mask m = true → e.rd (R.ENC_ECNT m) = 0) ∧ (∀ m, m < 8 → bitOf mask m = false → e.rd (R.ENC_ECNT m) = s.dev.rd (R.ENC_ECNT m)) ∧ e.noRegs = s.dev.noRegs

/-- A comparator event of an enabled comparator while SLOW runs is counted and stamped in the core and may wake
(R443-R445, R511); the software pulse is routed (R446); an angle mark whose time has come is routed (R447); an edge of
an input pin is taken (R451), one of an output pin has no effect; the counters clear. Said of states in which no cork
is overdue (R62) and the reset of the command's domain (CORE or VBAT) is released. -/
def Obligations.comparators_and_routing : Prop :=
  (∀ (s : State) (m : Fin 8) (mv : Nat) (x : Dev), s.celRuns → s.dev.cflag (F.CMP_CFG_EN m) = true → s.dev.cflag F.CEL_STAT_SLOWOK = true →
      ({ s.start with clr := { s.start.clr with cin := smSet s.start.clr.cin 0 m mv } } : Dev) = x →
    Runs (.cmpEvent m mv) s fun _ => x.cmpAwait m (x.cs m).level (max 1 (x.cget (F.CMP_CFG_DEB m)) * 2 ^ x.cget (F.CMP_CFG_DIV m)))
  ∧ (∀ (s : State) (m : Fin 8) (mv : Nat), s.celRuns → s.dev.cflag (F.CMP_CFG_EN m) = false →
    Completes (.cmpEvent m mv) s fun e => e.clr.cin = smSet s.dev.clr.cin 0 m mv ∧ { e with clr := s.dev.clr, fltNew := s.dev.fltNew } = s.dev)
  ∧ (∀ (s : State) (req : Fin 10) (mask : Nat), s.coreRuns →
    Completes (.cmpCntClr req mask) s fun e =>
      (∀ m, m < 8 → bitOf mask m = true → e.rd (R.CMP_CNT m) = 0) ∧ (∀ m, m < 8 → bitOf mask m = false → e.rd (R.CMP_CNT m) = s.dev.rd (R.CMP_CNT m)) ∧ e.noRegs = s.dev.noRegs)
  ∧ (∀ (s : State) (req : Fin 10), s.coreRuns → Runs (.ertSwpulse req) s fun d => forN 76 (fun x q =>
      if x.flag (F.ERT_DST_EN q) && x.get (F.ERT_DST_SRC q) == 141 then
        if smGet x.ertDiv 0 q = 0 then ({ x with ertDiv := smSet x.ertDiv 0 q (x.get (F.ERT_DST_DIV q)) } : Dev).routeTo q
        else { x with ertDiv := smSet x.ertDiv 0 q (smGet x.ertDiv 0 q - 1) }
      else x) d)
  ∧ (∀ (s : State) (i : Fin 32) (u a t : Int) (m : AMark), s.coreRuns → (s.dev.am (32 + i.val)).upTo = some u →
      (s.dev.geo (s.dev.am (32 + i.val)).trk).nextOcc (if (s.dev.pr (s.dev.am (32 + i.val)).trk).rev then u - 1 else u + 1) (s.dev.am (32 + i.val)).ang
        (s.dev.pr (s.dev.am (32 + i.val)).trk).rev = a →
      s.dev.amAble (s.dev.am (32 + i.val)) (s.dev.pr (s.dev.am (32 + i.val)).trk).rev = true → s.dev.pv (s.dev.am (32 + i.val)).trk = true →
      s.dev.dist (s.dev.am (32 + i.val)).trk a < 2 * 65536 → s.dev.timeOf (s.dev.am (32 + i.val)).trk a = .time t → t ≤ 8 * (s.dev.now : Int) →
      (s.dev.setAm (32 + i.val) { s.dev.am (32 + i.val) with upTo := some a }).am (32 + i.val) = m → m.fired.contains a = false →
    Runs (.angleMark i) s fun d =>
      ((d.setAm (32 + i.val) { d.am (32 + i.val) with upTo := some a }).setAm (32 + i.val) { m with fired := a :: m.fired }).route (93 + i))
  ∧ (∀ (s : State) (pin : Fin 64) (level : Bool), s.coreRuns → s.dev.abit (R.SYS_GPIO_OE 0) pin = false → s.dev.abit (R.SYS_GPIO_IN 0) pin ≠ level →
    Runs (.gpioEdge pin level) s fun d => ((d.setAbit (R.SYS_GPIO_IN 0) pin level).icuPin (64 + pin) level).icuPin pin level)
  ∧ ∀ (s : State) (pin : Fin 64) (level : Bool), s.coreRuns → s.dev.abit (R.SYS_GPIO_OE 0) pin = true →
    Completes (.gpioEdge pin level) s fun e => { e with fltNew := s.dev.fltNew } = s.dev

/-- A match takes the FAB cycles up to the one in which the timer steps onto its compare value (the model's reading of the
command, log entry 35): a running timer with its input at every FAB cycle, no slave mode and its prescaler full steps
by one, and matches where that is CMP (R453); a match toggles its output, arrives at the interrupt controller and is
routed (R455); CMP is set by its high word from the low word held for the requester (R454); CNT is set while the timer
is stopped, and refused while it runs (R456); enabling writes the configuration and starts the timer, disabling stops
it (R457), and a load that the same FAB cycle refused is then taken (R460); GO starts the timers that wait since an
earlier FAB cycle (R460) and STOP makes the running group timers wait (R458); the counter clears. Said of states in
which no cork is overdue (R62) and the reset of the command's domain (CORE) is released. -/
def Obligations.timers : Prop :=
  (∀ (s : State) (n : Fin 32), s.coreRuns → s.dev.tmrFed 32 n = true → s.dev.fabCycle.tmrEv.contains n.val = true →
    Runs (.tmrMatch n) s fun d => d.fabCycle)
  ∧ (∀ (s : State) (n : Fin 32) (x : Dev), s.coreRuns → s.dev.tmrSeek n (2 ^ 64) = some x → Runs (.tmrMatch n) s fun _ => x)
  ∧ (∀ (o d : Dev) (ev : List Nat) (tick : Bool) (n : Fin 32), (o.tm n).wait = false → (o.tm n).run = true → o.tmrSlv n = 0 → o.tmrSrc n = 1 → (o.tm n).inq = 0 →
      max 0x100 (o.get (F.TMR_CFG_PS n)) ≤ (o.tm n).acc + 0x100 →
    let t := { d.tm n with acc := (o.tm n).acc + 0x100 - max 0x100 (o.get (F.TMR_CFG_PS n)), cnt := ((o.tm n).cnt + 1) % 2 ^ 48 }
    Dev.tmrStep o ev tick d n = if ((o.tm n).cnt + 1) % 2 ^ 48 = (o.tm n).cmp then (d.setTm n t).tmrMatch n else d.setTm n t)
  ∧ (∀ (d : Dev) (n : Nat), d.flag (F.TMR_CTL_AUTO n) = false →
    d.tmrMatch n = (({ d.setTm n { d.tm n with mout := !(d.tm n).mout } with tmrEv := d.tmrEv ++ [n] } : Dev).icuArrive (112 + n)).route (n + 1))
  ∧ (∀ (s : State) (n : Fin 32), s.coreRuns → (s.dev.tm n).run = false →
    Completes (.tmrMatch n) s fun e => { e with fltNew := s.dev.fltNew } = s.dev)
  ∧ (∀ (s : State) (req : Fin 10) (n : Fin 32) (data : Nat), s.coreRuns →
    Completes (.tmrCmpLoWrite req n data) s fun e =>
      e.own req (R.TMR_CMP_LO n) = BitVec.ofNat 32 data ∧ { e with preq := s.dev.preq, fltNew := s.dev.fltNew } = s.dev)
  ∧ (∀ (s : State) (req : Fin 10) (n : Fin 32) (data : Nat), s.coreRuns →
    Completes (.tmrCmpHiWrite req n data) s fun e =>
      (e.tm n).cmp = data % 2 ^ 16 * 2 ^ 32 + (s.dev.own req (R.TMR_CMP_LO n)).toNat ∧ (e.tm n).cnt = (s.dev.tm n).cnt ∧ (∀ m, m ≠ n.val → e.tm m = s.dev.tm m)
        ∧ { e with tmr := s.dev.tmr, fltNew := s.dev.fltNew } = s.dev)
  ∧ (∀ (s : State) (req : Fin 10) (n : Fin 32) (data : Nat), s.coreRuns → (s.dev.tm n).run = false →
    Completes (.tmrCntHiWrite req n data) s fun e =>
      (e.tm n).cnt = data % 2 ^ 16 * 2 ^ 32 + (s.dev.own req (R.TMR_CNT_LO n)).toNat ∧ (e.tm n).cmp = (s.dev.tm n).cmp ∧ (∀ m, m ≠ n.val → e.tm m = s.dev.tm m)
        ∧ { e with tmr := s.dev.tmr, fltNew := s.dev.fltNew } = s.dev)
  ∧ (∀ (s : State) (req : Fin 10) (n : Fin 32) (data : Nat), s.coreRuns → (s.dev.tm n).run = true →
    Completes (.tmrCntHiWrite req n data) s fun e =>
      e.get F.TMR_CNT_WRREF = min (s.dev.get F.TMR_CNT_WRREF + 1) 255 ∧ (e.tm n).cnt = (s.dev.tm n).cnt ∧ (e.tm n).cmp = (s.dev.tm n).cmp
        ∧ (e.tm n).run = true ∧ (∀ m, m ≠ n.val → e.tm m = s.dev.tm m) ∧ (∀ a, a ≠ R.TMR_CNT → e.rd a = s.dev.rd a)
        ∧ { e.noRegs with tmr := s.dev.tmr } = s.dev.noRegs)
  ∧ (∀ (s : State) (req : Fin 10) (n : Fin 32) (data : Nat), s.coreRuns → n.val < 16 → s.dev.flag (F.TMR_CTL_EN n) = false → bitOf data 30 = false →
    Completes (.tmrEnable req n data) s fun e =>
      (e.tm n).run = true ∧ (e.tm n).wait = false ∧ (e.tm n).cnt = (s.dev.tm n).cnt ∧ e.flag (F.TMR_CTL_EN n) = true ∧ (∀ m, m ≠ n.val → e.tm m = s.dev.tm m))
  ∧ (∀ (s : State) (req : Fin 10) (n : Fin 32) (data : Nat), s.coreRuns → n.val < 16 → s.dev.flag (F.TMR_CTL_EN n) = false → bitOf data 30 = true →
    Completes (.tmrEnable req n data) s fun e => (e.tm n).wait = true ∧ (e.tm n).since = s.dev.fab ∧ (e.tm n).run = (s.dev.tm n).run ∧ (∀ m, m ≠ n.val → e.tm m = s.dev.tm m))
  ∧ (∀ (s : State) (req : Fin 10) (n : Fin 32) (data : Nat), s.coreRuns → s.dev.flag (F.TMR_CTL_EN n) = true →
      (∀ p, (s.dev.tm n).load = some p → p.1 ≠ s.dev.fab) → Completes (.tmrDisable req n data) s fun e =>
        (e.tm n).run = false ∧ (e.tm n).wait = false ∧ (e.tm n).cnt = (s.dev.tm n).cnt ∧ e.flag (F.TMR_CTL_EN n) = false ∧ (∀ m, m ≠ n.val → e.tm m = s.dev.tm m)
        ∧ (∀ a, a ≠ R.TMR_CTL n → e.rd a = s.dev.rd a) ∧ { e with tmr := s.dev.tmr, reg := s.dev.reg, fltNew := s.dev.fltNew } = s.dev)
  ∧ (∀ (s : State) (req : Fin 10) (n : Fin 32) (data v : Nat) (counted : Bool), s.coreRuns → s.dev.flag (F.TMR_CTL_EN n) = true →
      (s.dev.tm n).load = some (s.dev.fab, v, counted) → Completes (.tmrDisable req n data) s fun e =>
        (e.tm n).run = false ∧ (e.tm n).cnt = v ∧ e.get F.TMR_CNT_WRREF = s.dev.get F.TMR_CNT_WRREF - b2n counted ∧
          (∀ m, m ≠ n.val → e.tm m = s.dev.tm m) ∧ { e with tmr := s.dev.tmr, reg := s.dev.reg } = s.dev)
  ∧ (∀ (s : State) (req : Fin 10), s.coreRuns →
    Completes (.go req) s fun e =>
      (∀ n, n < 16 → (s.dev.tm n).wait = true → (s.dev.tm n).since ≠ s.dev.fab → e.tm n = (s.dev.tm n).start)
        ∧ (∀ n, n < 16 → (s.dev.tm n).wait = false ∨ (s.dev.tm n).since = s.dev.fab → e.tm n = s.dev.tm n)
        ∧ (∀ n, 16 ≤ n → e.tm n = s.dev.tm n) ∧ { e with tmr := s.dev.tmr, fltNew := s.dev.fltNew } = s.dev)
  ∧ (∀ (s : State) (req : Fin 10), s.coreRuns →
    Completes (.stop req) s fun e =>
      (∀ n, n < 16 → (s.dev.tm n).run = true → s.dev.flag (F.TMR_CTL_GSYNC n) = true → e.tm n = { s.dev.tm n with run := false, wait := true, inq := 0 })
        ∧ (∀ n, n < 16 → (s.dev.tm n).run = false → e.tm n = s.dev.tm n) ∧ (∀ n, n < 16 → s.dev.flag (F.TMR_CTL_GSYNC n) = false → e.tm n = s.dev.tm n)
        ∧ (∀ n, 16 ≤ n → e.tm n = s.dev.tm n) ∧ { e with tmr := s.dev.tmr, fltNew := s.dev.fltNew } = s.dev)
  ∧ ∀ (s : State) (req : Fin 10), s.coreRuns →
    Completes (.tmrCntClr req) s fun e => e.get F.TMR_CNT_WRREF = 0 ∧ Dev.onlyRegs s.dev e [R.TMR_CNT]

/-- A request of an enabled channel joins the queue, and one already queued counts OVR (R461); the channel at the front
starts when none runs (R462); a transfer moves its elements and ends (R468); disabling takes the channel out of the
queue and of its transfer, its pointers and remainder then being free values (R470); the counters clear. Said of
states in which no cork is overdue (R62) and the reset of the command's domain (CORE) is released. -/
def Obligations.racking_channels : Prop :=
  (∀ (s : State) (n : Fin 16), s.coreRuns → s.dev.flag (F.RK_CTL_EN n) = true → s.dev.rak.queue.contains n.val = false →
    Completes (.rakReq n) s fun e =>
      e.rak.queue = rakIns s.dev.rak.came s.dev.fab n s.dev.rak.queue ∧
          ((∀ m ∈ s.dev.rak.queue, m < n.val ∨ smGet s.dev.rak.came 0 m ≠ s.dev.fab) → e.rak.queue = s.dev.rak.queue ++ [n.val]) ∧ e.rak.running = s.dev.rak.running ∧ { e with rak := s.dev.rak, fltNew := s.dev.fltNew } = s.dev)
  ∧ (∀ (s : State) (n : Fin 16), s.coreRuns → s.dev.flag (F.RK_CTL_EN n) = true → s.dev.rak.queue.contains n.val = true →
    Completes (.rakReq n) s fun e =>
      e.get (F.RK_STAT_OVR n) = min (s.dev.get (F.RK_STAT_OVR n) + 1) 255 ∧ Dev.onlyRegs s.dev e [R.RK_STAT n])
  ∧ (∀ (s : State) (n : Nat) (r : List Nat), s.coreRuns → s.dev.rak.running = none → s.dev.rak.queue = n :: r →
    Runs .rakTransferStart s fun d => (if smGet d.rak.came 0 n == d.fab then d.fabCycle else d).rakBegin)
  ∧ (∀ (s : State) (n : Nat) (host : List Nat) (fail : Option Nat), s.coreRuns → s.dev.rak.running = some n →
    Runs (.rakTransferEnd host fail) s fun d =>
      (if d.rakHost n then d else d.until (d.rak.movedAt + d.rakTime n (d.rakLeft n))).rakMove n host fail (d.get (F.RK_REM_REM n) / d.rakEsz n))
  ∧ (∀ (s : State) (n : Nat) (host : List Nat) (fail : Option Nat) (x : Dev), s.coreRuns → s.dev.rak.running = some n →
      s.dev.get (F.RK_REM_REM n) < s.dev.rakEsz n → s.dev.rakAwait n = x → x.rak.running = some n →
    Runs (.rakTransferEnd host fail) s fun _ =>
      ((((({ x with rak := { x.rak with running := none } } : Dev).put (F.RK_STAT_ERR n) 0).put (F.RK_STAT_ECODE n) 0).incWrap
      (F.RK_STAT_DONE n)).route (125 + n)).icuArrive (144 + n))
  ∧ (∀ (s : State) (req : Fin 10) (n : Fin 16), s.coreRuns → s.busDev.corksFresh → s.dev.flag (F.RK_CTL_EN n) = true → Completes (.rakDisable req n) s fun e =>
      e.flag (F.RK_CTL_EN n) = false ∧ e.flag (F.RK_STAT_ERR n) = false ∧ e.rak.queue = s.busDev.rak.queue.filter (fun m => m != n.val) ∧ e.rak.running ≠ some n.val ∧
          (s.busDev.rak.running ≠ some n.val → e.rak.running = s.busDev.rak.running) ∧
          { e with rak := s.busDev.rak, draw := s.busDev.draw, reg := s.busDev.reg } = s.busDev)
  ∧ ∀ (s : State) (req : Fin 10) (mask : Nat), s.coreRuns →
    Completes (.rakCntClr req mask) s fun e =>
      (∀ n, n < 16 → bitOf mask n = true → e.get (F.RK_STAT_OVR n) = 0 ∧ e.get (F.RK_STAT_DONE n) = 0)
        ∧ (∀ n, n < 16 → e.flag (F.RK_STAT_ERR n) = s.dev.flag (F.RK_STAT_ERR n)) ∧ e.noRegs = s.dev.noRegs

/-- A coalescing time-out comes 2^COALT µs after the first arrival it counts and sets the pending bit of its source
(R475); a write of a pending word sets the pending bits of the sources it names, reserved ones not; a write of an edge
source's register that enables it takes effect without touching what pends (R475); a claim answers the best source,
clears its pending bit and puts it in service (R478), or answers 1024 and counts SPUR; a completion takes the source
out of service (R479), or counts BADCPL; the arrival counts clear, all or one (R473); the counters clear. mip.MEIP
(bit 11, log entry 111) of a core is the line of its target, mip.MTIP and mip.MSIP (bits 7 and 3) read 0 (R480). Said
of states in which no cork is overdue (R62) and the reset of the command's domain (CORE) is released. -/
def Obligations.interrupt_controller : Prop :=
  (∀ (d : Dev) (t : Nat), (d.mip t).getLsbD 11 = d.icuLine t ∧ (d.mip t).getLsbD 7 = false ∧ (d.mip t).getLsbD 3 = false)
  ∧ (∀ (s : State) (src : Fin 1024), s.coreRuns → s.dev.get (F.ICU_SRC_COALT src) ≠ 0 → (smGet s.dev.icu.coal (0, 0) src).1 ≠ 0 → icuReserved src = false →
      (smGet s.dev.icu.coal (0, 0) src).2 + 400 * 2 ^ s.dev.get (F.ICU_SRC_COALT src) ≤ s.dev.fab →
    Completes (.icuCoalesceTimeout src) s fun e =>
      e.abit (R.ICU_PEND 0) src = true ∧ smGet e.icu.coal (0, 0) src = (0, 0) ∧ (∀ c, c ≠ src.val → e.abit (R.ICU_PEND 0) c = s.dev.abit (R.ICU_PEND 0) c)
        ∧ { e with icu := s.dev.icu, reg := s.dev.reg, fltNew := s.dev.fltNew } = s.dev)
  ∧ (∀ (s : State) (src : Fin 1024), s.coreRuns → s.dev.get (F.ICU_SRC_COALT src) ≠ 0 → (smGet s.dev.icu.coal (0, 0) src).1 ≠ 0 →
    Runs (.icuCoalesceTimeout src) s fun d => (d.until ((smGet d.icu.coal (0, 0) src).2 + 400 * 2 ^ d.get (F.ICU_SRC_COALT src))).icuSetPend src)
  ∧ (∀ (s : State) (req : Fin 10) (w : Fin 32) (data : Nat), s.coreRuns →
    Completes (.icuPendWrite req w data) s fun e =>
      (∀ b, b < 32 → e.abit (R.ICU_PEND 0) (32 * w + b) = (bitOf data b && !icuReserved (32 * w + b) || s.dev.abit (R.ICU_PEND 0) (32 * w + b)))
        ∧ (∀ a, a ≠ R.ICU_PEND 0 + 4 * w → e.rd a = s.dev.rd a) ∧ { e with icu := s.dev.icu, reg := s.dev.reg, fltNew := s.dev.fltNew } = s.dev)
  ∧ (∀ (s : State) (req : Fin 10) (src : Fin 1024) (data : Nat), s.coreRuns → src.val < 25 → bitOf data 31 = true →
    Completes (.icuSrcWrite req src data) s fun e =>
      e.rd (R.ICU_SRC src) = BitVec.ofNat 32 data &&& 0x8FFF0F1F#32 ∧ Dev.onlyRegs s.dev e [R.ICU_SRC src])
  ∧ (∀ (s : State) (req : Fin 10) (tgt : Fin 5) (src : Nat), s.coreRuns → s.dev.icuBest tgt = some src → src < 1024 →
    Completes (.icuClaim req tgt) s fun e =>
      e.bus = ⟨req, src⟩ ∧ e.abit (R.ICU_PEND 0) src = false ∧ e.icu.srv = s.dev.icu.srv ++ [(tgt.val, src, s.dev.get (F.ICU_SRC_PRIO src))]
        ∧ (∀ c, c ≠ src → e.abit (R.ICU_PEND 0) c = s.dev.abit (R.ICU_PEND 0) c)
        ∧ { e with bus := s.dev.bus, icu := s.dev.icu, reg := s.dev.reg, fltNew := s.dev.fltNew } = s.dev)
  ∧ (∀ (s : State) (req : Fin 10) (tgt : Fin 5), s.coreRuns → s.dev.icuBest tgt = none →
    Completes (.icuClaim req tgt) s fun e =>
      e.bus = ⟨req, 1024⟩ ∧ e.get F.ICU_CNT_SPUR = min (s.dev.get F.ICU_CNT_SPUR + 1) 32767 ∧ (∀ a, a ≠ R.ICU_CNT → e.rd a = s.dev.rd a)
        ∧ { e with bus := s.dev.bus, reg := s.dev.reg, fltNew := s.dev.fltNew } = s.dev)
  ∧ (∀ (s : State) (req : Fin 10) (tgt : Fin 5) (src : Fin 1024), s.coreRuns → s.dev.icu.srv.any (fun e => e.1 == tgt.val && e.2.1 == src.val) = true →
      s.dev.icuLevel src = false → smGet s.dev.icu.again 0 src = 0 →
    Completes (.icuComplete req tgt src) s fun e =>
      e.icu.srv = s.dev.icu.srv.filter (fun e => !(e.1 == tgt.val && e.2.1 == src.val)) ∧ e.rd (R.ICU_T_COMPLETE tgt) = BitVec.ofNat 32 src
        ∧ (∀ a, a ≠ R.ICU_T_COMPLETE tgt → e.rd a = s.dev.rd a) ∧ { e with icu := s.dev.icu, reg := s.dev.reg, fltNew := s.dev.fltNew } = s.dev)
  ∧ (∀ (s : State) (req : Fin 10) (tgt : Fin 5) (src : Fin 1024), s.coreRuns → s.dev.icu.srv.any (fun e => e.1 == tgt.val && e.2.1 == src.val) = false →
    Completes (.icuComplete req tgt src) s fun e =>
      e.get F.ICU_CNT_BADCPL = min (s.dev.get F.ICU_CNT_BADCPL + 1) 65535 ∧ Dev.onlyRegs s.dev e [R.ICU_CNT, R.ICU_T_COMPLETE tgt])
  ∧ (∀ (s : State) (req : Fin 10), s.coreRuns →
    Completes (.aclrAll req) s fun e =>
      (∀ w, w < 256 → e.rd (R.ICU_ARR w) = 0) ∧ (∀ a, a ≠ R.ICU_ACLR → (∀ w, w < 256 → a ≠ R.ICU_ARR w) → e.rd a = s.dev.rd a) ∧ e.noRegs = s.dev.noRegs)
  ∧ (∀ (s : State) (req : Fin 10) (src : Fin 1024), s.coreRuns →
    Completes (.aclrOne req src) s fun e =>
      e.get ⟨R.ICU_ARR (src / 4), 8 * (src % 4) + 7, 8 * (src % 4)⟩ = 0 ∧ Dev.onlyRegs s.dev e [R.ICU_ACLR, R.ICU_ARR (src / 4)]
        ∧ ∀ j, j < 4 → j ≠ src.val % 4 → e.get ⟨R.ICU_ARR (src / 4), 8 * j + 7, 8 * j⟩ = s.dev.get ⟨R.ICU_ARR (src / 4), 8 * j + 7, 8 * j⟩)
  ∧ ∀ (s : State) (req : Fin 10), s.coreRuns → Completes (.icuCntClr req) s fun e => e.rd R.ICU_CNT = 0 ∧ Dev.onlyRegs s.dev e [R.ICU_CNT]

/-- VBAT reset empties the Cellar and holds SYSTEM and CORE reset (R482); its release is cause 1 (R485). RESET_N and a
brownout hold SYSTEM and CORE reset as causes 2 and 4, in the cause bits and in LAST (R483, R484), and leave the core
memories and the tiles as they are; PERST# empties the rings and holds its reset, and its release only ends it (R482);
SYSTEM reset is released where a reference is good and the core is enabled (R486). Said of states in which no cork is
overdue (R62) and the reset of the command's domain (VBAT) is released. -/
def Obligations.reset_inputs : Prop :=
  (∀ (s : State), Completes .vbatReset s fun e =>
      e.rst = { s.dev.rst with vbat := true, sys := true, core := true } ∧ e.cel = [] ∧ e.mem = s.dev.mem ∧ e.cmem = s.dev.cmem ∧ e.tile = s.dev.tile)
  ∧ (∀ (s : State), s.dev.corksFresh → s.dev.rst.vbat = true →
    Completes .vbatRelease s fun e =>
      e.rst = { s.dev.rst with vbat := false } ∧ bitOf (e.cget F.CEL_RSTCAUSE_CAUSE) 1 = true ∧ e.cget F.CEL_RSTCAUSE_LAST = 1
        ∧ (∀ a, a ≠ R.CEL_RSTCAUSE → e.crd a = s.dev.crd a) ∧ { e with rst := s.dev.rst, cel := s.dev.cel, fltNew := s.dev.fltNew } = s.dev)
  ∧ (∀ (s : State), s.celRuns → s.dev.flag F.MGS_STAT_TRIAL = false →
    Completes .resetN s fun e =>
      e.rst = { s.dev.rst with sys := true, core := true } ∧ bitOf (e.cget F.CEL_RSTCAUSE_CAUSE) 2 = true ∧ e.cget F.CEL_RSTCAUSE_LAST = 2
        ∧ (∀ a, a ≠ R.CEL_RSTCAUSE → e.crd a = s.dev.crd a) ∧ e.mem = s.dev.mem ∧ e.cmem = s.dev.cmem ∧ e.tile = s.dev.tile)
  ∧ (∀ (s : State), s.celRuns → s.dev.flag F.MGS_STAT_TRIAL = false →
    Completes .brownout s fun e =>
      e.rst = { s.dev.rst with sys := true, core := true } ∧ bitOf (e.cget F.CEL_RSTCAUSE_CAUSE) 4 = true ∧ e.cget F.CEL_RSTCAUSE_LAST = 4
        ∧ (∀ a, a ≠ R.CEL_RSTCAUSE → e.crd a = s.dev.crd a) ∧ e.mem = s.dev.mem ∧ e.cmem = s.dev.cmem ∧ e.tile = s.dev.tile)
  ∧ (∀ (s : State), Completes .perstN s fun e =>
      e.rst = { s.dev.rst with perst := true } ∧ e.hif.sqs = [] ∧ e.hif.cqs = [] ∧ e.hif.stm = [] ∧ e.mem = s.dev.mem ∧ e.cmem = s.dev.cmem ∧ e.mram = s.dev.mram)
  ∧ (∀ (s : State), s.dev.corksFresh →
    Completes .perstNRelease s fun e => e.rst = { s.dev.rst with perst := false } ∧ { e with rst := s.dev.rst, fltNew := s.dev.fltNew } = s.dev)
  ∧ (∀ (s : State) (tmode : Fin 4), s.celRuns → s.dev.rst.sys = true → s.dev.mgs.pllHold = false → s.dev.cflag F.CEL_STAT_COREEN = true →
      s.dev.flag F.CLK_STAT_XGOOD = true → s.dev.flag F.CLK_REF_CFG_PREF = false →
    Completes (.systemResetRelease tmode) s fun e =>
      e.rst = { s.dev.rst with sys := false } ∧ e.get F.CLK_STAT_STATE = 0 ∧ e.get F.DBG_STAT_TMODE = (if tmode.val = 1 then 1 else 0)
        ∧ (∀ a, a ≠ R.CLK_STAT → a ≠ R.DBG_STAT → e.rd a = s.dev.rd a) ∧ { e with rst := s.dev.rst, reg := s.dev.reg, fltNew := s.dev.fltNew } = s.dev)
  ∧ ∀ (s : State) (tmode : Fin 4), s.celRuns → s.dev.cflag F.CEL_STAT_COREEN = false →
    Completes (.systemResetRelease tmode) s fun e => { e with fltNew := s.dev.fltNew } = s.dev

/-- The boot runs once, outside board test (R487); CORERST by the management core restarts the core as cause 9 with the
time at zero (R482), by another requester it has no effect; CONFIRM ends the trial of a bank (R501), and its time-out,
10 s after the boot, resets as cause 7 to the former bank; a bank switch needs VERIFIED and another bank, and resets
as cause 6 with the new bank on trial (R500); a kick sets the watchdog back, and its expiry resets (R491); a PLL that
locks ends the hold of SYSTEM reset, which stays asserted until its release (R486, R502). Said of states in which no
cork is overdue (R62) and the reset of the command's domain (SYSTEM) is released. -/
def Obligations.boot_and_banks : Prop :=
  (∀ (s : State), s.sysRuns → s.dev.mgs.running = false → s.dev.boardTest = false →
    Runs .boot s fun d =>
      let d1 := d.pllBoot.mgBoot.bankCheck.bist.coreUp.imgBoot
      { d1 with mgs := { d1.mgs with running := true, bootAt := d1.fab } })
  ∧ (∀ (s : State), s.sysRuns → s.dev.mgs.running = true → Completes .boot s fun e => { e with fltNew := s.dev.fltNew } = s.dev)
  ∧ (∀ (s : State), s.sysRuns → s.dev.mgs.shutdown = false → s.dev.boardTest = false → s.dev.cget F.CEL_STAT_PSTATE ≠ 3 →
    Completes (.corerst 7) s fun e =>
      e.rst = { s.dev.rst with core := false } ∧ e.now = 0 ∧ bitOf (e.cget F.CEL_RSTCAUSE_CAUSE) 9 = true ∧ e.cget F.CEL_RSTCAUSE_LAST = 9
        ∧ e.mem = s.dev.mem ∧ e.cmem = s.dev.cmem ∧ e.mram = s.dev.mram)
  ∧ (∀ (s : State) (req : Fin 10), s.sysRuns → req.val ≠ 7 → Completes (.corerst req) s fun e => { e with fltNew := s.dev.fltNew } = s.dev)
  ∧ (∀ (s : State), s.sysRuns →
    Completes (.confirm 7) s fun e => e.flag F.MGS_STAT_TRIAL = false ∧ e.flag F.MGS_STAT_BANK = s.dev.flag F.MGS_STAT_BANK ∧ Dev.onlyRegs s.dev e [R.MGS_STAT])
  ∧ (∀ (s : State), s.sysRuns → s.dev.flag F.MGS_STAT_TRIAL = true →
    Runs .trialTimeout s fun d => (d.until (d.mgs.bootAt + 10 * 400000000)).sysDown none)
  ∧ (∀ (s : State), s.sysRuns → s.dev.flag F.MGS_STAT_TRIAL = true → s.dev.mgs.bootAt + 10 * 400000000 ≤ s.dev.fab →
    Completes .trialTimeout s fun e =>
      e.rst = { s.dev.rst with sys := true, core := true } ∧ e.flag F.MGS_STAT_BANK = s.dev.mgs.prevBank ∧ e.mgs.rolled = true
        ∧ e.cget F.CEL_RSTCAUSE_LAST = 7 ∧ bitOf (e.cget F.CEL_RSTCAUSE_CAUSE) 7 = true ∧ e.mem = s.dev.mem ∧ e.cmem = s.dev.cmem)
  ∧ (∀ (s : State), s.sysRuns → s.dev.flag F.MGS_STAT_TRIAL = false → Completes .trialTimeout s fun e => { e with fltNew := s.dev.fltNew } = s.dev)
  ∧ (∀ (s : State) (req : Fin 10) (bank : Bool), s.sysRuns → s.dev.flag F.MGS_FW_STAT_VERIFIED = true → s.dev.flag F.MGS_STAT_BANK ≠ bank →
      s.dev.flag F.MGS_STAT_TRIAL = false →
    Completes (.mgsBankSw req bank) s fun e =>
      e.rst = { s.dev.rst with sys := true, core := true } ∧ e.flag F.MGS_STAT_BANK = bank ∧ e.flag F.MGS_STAT_TRIAL = true
        ∧ e.mgs.prevBank = s.dev.flag F.MGS_STAT_BANK ∧ e.cget F.CEL_RSTCAUSE_LAST = 6)
  ∧ (∀ (s : State) (req : Fin 10) (bank : Bool), s.sysRuns → s.dev.flag F.MGS_FW_STAT_VERIFIED = false →
    Completes (.mgsBankSw req bank) s fun e =>
      e.rst = s.dev.rst ∧ e.flag F.MGS_STAT_BANK = s.dev.flag F.MGS_STAT_BANK ∧ e.mgs = s.dev.mgs ∧ e.cel = s.dev.cel)
  ∧ (∀ (s : State), s.sysRuns →
    Completes (.kick 7) s fun e => e.mgs.kickAt = s.dev.fab ∧ { e with mgs := { e.mgs with kickAt := s.dev.mgs.kickAt }, fltNew := s.dev.fltNew } = s.dev)
  ∧ (∀ (s : State), s.sysRuns → Runs .wdogExpiry s fun d => (d.until (d.mgs.kickAt + 400000 * max 1 (d.get F.MGS_WDOG_TO))).sysDown (some 3))
  ∧ (∀ (s : State) (p : Fin 2), s.dev.corksFresh → s.dev.mgs.pllHold = false →
    Completes (.pllLocked p) s fun e =>
      e.flag (F.CLK_PLL_STAT_LOCK p) = true ∧ e.hasCause 1 2 p = false ∧ e.rst = s.dev.rst ∧ (∀ a, a ≠ (F.CLK_PLL_STAT_LOCK p).addr → e.rd a = s.dev.rd a)
        ∧ Dev.still e = s.dev.still)
  ∧ ∀ (s : State) (p : Fin 2), s.dev.corksFresh → s.dev.mgs.pllHold = true → Completes (.pllLocked p) s fun e => e.flag (F.CLK_PLL_STAT_LOCK p) = true ∧ e.rst = s.dev.rst ∧ e.mgs.pllHold = false

/-- The temperatures are shown and judged (R492); a voltage within its limits is shown with neither fault (R493), and that
of VBAT drives VBATLOW; ageing is shown and judged (R494); a correctable memory error counts (R502, R504), an
uncorrectable one leaves the all-ones word in a cask (R504) or loses the sector (R502); a spare takes the place of an
engine, a cask row, the PLL or a sector (R502, R503). Said of states in which no cork is overdue (R62) and the reset
of the command's domain (SYSTEM) is released. -/
def Obligations.monitors_and_spares : Prop :=
  (∀ (s : State) (temps : List Int), s.sysRuns → Runs (.tempSample temps) s fun d => (forN 8 (fun x k => x.tempOne k (tempList temps k)) d).thermal temps)
  ∧ (∀ (s : State) (v : Fin 24) (mv : Nat), s.sysRuns → v.val ≠ 18 → s.dev.get (F.MGS_VLIM_UVL v) ≤ mv → mv ≤ s.dev.get (F.MGS_VLIM_OVL v) →
    Completes (.voltSample v mv) s fun e =>
      e.get (F.MGS_VM_V v) = mv % 65536 ∧ e.flag (F.MGS_VM_UV v) = false ∧ e.flag (F.MGS_VM_OV v) = false ∧ smGet e.mgs.vRun 0 v = 0
        ∧ e.hasCause 21 2 v = false ∧ e.hasCause 21 3 v = false ∧ (∀ a, a ≠ R.MGS_VM v → e.rd a = s.dev.rd a)
        ∧ Dev.still { e with mgs := s.dev.mgs } = s.dev.still)
  ∧ (∀ (s : State) (mv : Nat), s.sysRuns → s.dev.get (F.MGS_VLIM_UVL 18) ≤ mv → mv ≤ s.dev.get (F.MGS_VLIM_OVL 18) → 2800 ≤ mv →
    Completes (.voltSample 18 mv) s fun e =>
      e.get (F.MGS_VM_V 18) = mv % 65536 ∧ e.cflag F.CEL_STAT_VBATLOW = false ∧ e.hasCause 3 0 0 = false ∧ (∀ a, a ≠ R.CEL_STAT → e.crd a = s.dev.crd a))
  ∧ (∀ (s : State) (degr : List Int), s.sysRuns → Runs (.agingMeasure degr) s fun d => forN 35 (fun x a => x.agingOne a (tempList degr a)) d)
  ∧ (∀ (s : State) (sector : Fin 1024), s.sysRuns → s.dev.spareAuto 4 = false →
    Completes (.mramEccError sector false) s fun e =>
      e.get F.MGS_ECC_MCE = min (s.dev.get F.MGS_ECC_MCE + 1) 65535 ∧ smGet e.mgs.secCe 0 sector = smGet s.dev.mgs.secCe 0 sector + 1
        ∧ (∀ a, a ≠ R.MGS_ECC → e.rd a = s.dev.rd a) ∧ { e with mgs := s.dev.mgs, reg := s.dev.reg, fltNew := s.dev.fltNew } = s.dev)
  ∧ (∀ (s : State) (sector : Fin 1024), s.sysRuns → ((s.start.incSat F.MGS_ECC_MUE).sectorLost sector |>.raise 21 9 sector 2).spareAuto 4 = false →
    Runs (.mramEccError sector true) s fun d => ((d.incSat F.MGS_ECC_MUE).sectorLost sector).raise 21 9 sector 2)
  ∧ (∀ (s : State) (row : Fin 4096) (word : Nat), s.sysRuns → s.dev.spareAuto 2 = false →
    Completes (.caskEccError row false word) s fun e =>
      smGet e.mgs.rowCe 0 row = smGet s.dev.mgs.rowCe 0 row + 1 ∧ { e with mgs := s.dev.mgs, fltNew := s.dev.fltNew } = s.dev)
  ∧ (∀ (s : State) (row : Fin 4096) (word : Nat), s.sysRuns → s.dev.spareAuto 2 = false →
    Completes (.caskEccError row true word) s fun e =>
      memRead e.cmem (1024 * row + 4 * (word % 256)) 4 = 0xFFFFFFFF
        ∧ (∀ a, a < 1024 * row + 4 * (word % 256) ∨ 1024 * row + 4 * (word % 256) + 4 ≤ a → memGet e.cmem a = memGet s.dev.cmem a)
        ∧ e.get F.MGS_ECC_CUE = min (s.dev.get F.MGS_ECC_CUE + 1) 255)
  ∧ (∀ (s : State) (req : Fin 10) (unit l : Nat), s.sysRuns → s.dev.rst.core = false → findN 32 (fun l => s.dev.get (F.PRD_PMAP_PE l) == unit) = some l →
    Runs (.spareSwapPe req unit) s fun d => ((d.put F.MGS_SPARE_SWAP_KIND 1).put F.MGS_SPARE_SWAP_UNIT unit).peSwap l)
  ∧ (∀ (s : State) (req : Fin 10) (unit : Nat), s.sysRuns → unit < 4096 →
    Runs (.spareSwapCaskRow req unit) s fun d => ((d.put F.MGS_SPARE_SWAP_KIND 2).put F.MGS_SPARE_SWAP_UNIT unit).rowSwap unit)
  ∧ (∀ (s : State) (req : Fin 10), s.sysRuns →
    Runs (.spareSwapPll req 0) s fun d => ((d.put F.MGS_SPARE_SWAP_KIND 3).put F.MGS_SPARE_SWAP_UNIT 0).pllSwap)
  ∧ ∀ (s : State) (req : Fin 10) (unit : Nat), s.sysRuns → unit < 960 →
    Runs (.spareSwapMramSector req unit) s fun d => ((d.put F.MGS_SPARE_SWAP_KIND 4).put F.MGS_SPARE_SWAP_UNIT unit).secSwap unit

/-- A domain that is off ramps up (R505), one that is on drains (R506), and a domain without a switch or between states
counts DOMREF; the ramp ends up or failed; the drain ends with the domain off, where it is busy 50 µs after its begin
(R507). Sleep asked for by the management core while it may leaves the Cellar asleep with the core off (R510), another
request counts SLPREF; an enabled wake source of a chip asleep for long enough wakes it (R511, R512); a movement watch
takes its sample (R515); the cause and status words clear. Said of states in which no cork is overdue (R62) and the
reset of the command's domain (SYSTEM or VBAT) is released. -/
def Obligations.power_domains_and_sleep : Prop :=
  (∀ (s : State) (req : Fin 10) (dom : Fin 8), s.sysRuns → 1 ≤ dom.val → dom.val < 7 → s.dev.domState dom = 0 →
    Completes (.pwrDomUp req dom) s fun e =>
      e.domState dom = 1 ∧ e.get F.PWR_DOM_CTL_DOM = dom ∧ e.flag F.PWR_DOM_CTL_ON = true ∧ Dev.onlyRegs s.dev e [F.PWR_DOM_CTL_ON.addr, R.PWR_DOM_STAT dom])
  ∧ (∀ (s : State) (req : Fin 10) (dom : Fin 8), s.sysRuns → dom.val = 0 ∨ dom.val = 7 →
    Completes (.pwrDomUp req dom) s fun e =>
      e.get F.PWR_STAT_DOMREF = min (s.dev.get F.PWR_STAT_DOMREF + 1) 255 ∧ Dev.onlyRegs s.dev e [F.PWR_DOM_CTL_ON.addr, R.PWR_STAT])
  ∧ (∀ (s : State) (req : Fin 10) (dom : Fin 8), s.sysRuns → 1 ≤ dom.val → dom.val < 7 → s.dev.domState dom = 2 →
    Completes (.pwrDomDrain req dom) s fun e =>
      e.domState dom = 3 ∧ smGet e.mgs.drain 0 dom = s.dev.fab ∧ (dom.val = 5 → ∀ m, m < 4 → (e.ad m).wait = []) ∧ (dom.val ≠ 5 → e.adc = s.dev.adc) ∧
          (dom.val ≤ 4 → ∀ i, i < 4 → ∀ f ∈ (e.lk (4 * (dom.val - 1) + i)).tx.drop 1, f.typ = 4 ∨ f.retr ≠ 0) ∧
          (5 ≤ dom.val → e.lnk = s.dev.lnk ∧ e.tile = s.dev.tile) ∧ (∀ t, Dev.tilesElse s.dev e t) ∧
          (dom.val = 6 → s.dev.pcieGo = true → ∀ n, e.sq? n = (s.dev.sq? n).map (fun x => { x with flight := s.dev.inFlight x })) ∧
          (dom.val ≠ 6 → e.hif = s.dev.hif) ∧ (∀ a, a ≠ F.PWR_DOM_CTL_ON.addr → a ≠ R.PWR_DOM_STAT dom → e.rd a = s.dev.rd a) ∧
          { e with mgs := s.dev.mgs, adc := s.dev.adc, lnk := s.dev.lnk, tile := s.dev.tile, hif := s.dev.hif, reg := s.dev.reg } = s.dev)
  ∧ (∀ (s : State) (dom : Fin 8), s.sysRuns → s.dev.domState dom = 1 →
    Runs (.domRampDone dom true) s fun d => (((d.domReset dom).put (F.PWR_DOM_STAT_STATE dom) 2).causeOff 2 1 dom).domLog dom 2 0 0)
  ∧ (∀ (s : State) (dom : Fin 8), s.sysRuns → s.dev.domState dom = 1 →
    Runs (.domRampDone dom false) s fun d => ((d.put (F.PWR_DOM_STAT_STATE dom) 0).causeOn 2 1 dom 2).domLog dom 0 0 0)
  ∧ (∀ (s : State) (dom : Fin 8), s.sysRuns → s.dev.domState dom = 3 →
    Runs (.drainEnd dom) s fun d =>
      let d1 := (if d.drainBusy dom then d.until (smGet d.mgs.drain 0 dom + 50 * fabMicro) else d).rakCatch
      (d1.domOff dom (min 50 ((d1.fab - smGet d1.mgs.drain 0 dom) / fabMicro))).sleepEnd)
  ∧ (∀ (s : State), s.sysRuns → s.busDev.sleepOk = true → (∀ k, k < 7 → k ≠ 0 → s.busDev.domState k ≠ 2) →
    Completes (.pwrSleep 7) s fun e =>
      e.rst.sys = true ∧ e.rst.core = true ∧ e.cget F.CEL_STAT_PSTATE = 2 ∧ e.cflag F.CEL_STAT_COREEN = false ∧ e.clr.held = 0 ∧ e.clr.low = 0 ∧ e.clr.same = false)
  ∧ (∀ (s : State), s.sysRuns → s.busDev.sleepOk = true → Runs (.pwrSleep 7) s fun d => d.rakCatch.sleep)
  ∧ (∀ (s : State), s.sysRuns → s.busDev.sleepOk = false → Runs (.pwrSleep 7) s fun d => (d.rakCatch.incSat F.PWR_STAT_SLPREF).raise 2 2 0 1)
  ∧ (∀ (s : State), s.celRuns → s.dev.cflag F.CEL_STAT_SLOWOK = true → (s.dev.crd R.CEL_WAKE_CFG).getLsbD 16 = true → s.dev.cget F.CEL_STAT_PSTATE = 2 → slowMs ≤ s.dev.clr.low →
    Completes .wakePin s fun e =>
      e.cget F.CEL_STAT_PSTATE = 3 ∧ e.cflag F.CEL_STAT_COREEN = true ∧ e.crd R.CEL_WAKE_CAUSE = s.dev.clr.held ||| (1#32 <<< 16) ∧ e.clr.held = 0
        ∧ { e with cel := s.dev.cel, clr := s.dev.clr, fltNew := s.dev.fltNew } = s.dev)
  ∧ (∀ (s : State), s.celRuns → s.dev.cflag F.CEL_STAT_SLOWOK = true → s.dev.cget F.CEL_WTIMER_N ≠ 0 → (s.dev.crd R.CEL_WAKE_CFG).getLsbD 17 = true →
      s.dev.cget F.CEL_STAT_PSTATE = 2 → s.dev.clr.low < slowMs → s.dev.cget F.CEL_WTIMER_N < slowMs →
    Completes .wakeTimerExpiry s fun e =>
      e.clr.held = s.dev.clr.held ||| (1#32 <<< 17) ∧ e.clr.low = max s.dev.clr.low (s.dev.cget F.CEL_WTIMER_N) ∧ e.cel = s.dev.cel ∧ { e with clr := s.dev.clr, fltNew := s.dev.fltNew } = s.dev)
  ∧ (∀ (s : State) (w : Fin 2) (level : Bool), s.celRuns → s.dev.cflag (F.CEL_MWCFG_EN w) = true → s.dev.cflag F.CEL_STAT_SLOWOK = true → smGet s.dev.clr.mwRun 0 w = 0 →
    Completes (.movementWatchSample w level) s fun e =>
      e.cflag ⟨R.CEL_MWSTAT, 18 + w, 18 + w⟩ = level ∧ smGet e.clr.mwRun 0 w = 1 ∧ (∀ a, a ≠ R.CEL_MWSTAT → e.crd a = s.dev.crd a)
        ∧ { e with cel := s.dev.cel, clr := s.dev.clr, fltNew := s.dev.fltNew } = s.dev)
  ∧ (∀ (s : State), s.celRuns → s.dev.cget F.CEL_STAT_PSTATE = 2 → s.dev.clr.held ≠ 0 →
    Completes .wake s fun e =>
      e.cget F.CEL_STAT_PSTATE = 3 ∧ e.cflag F.CEL_STAT_COREEN = true ∧ e.crd R.CEL_WAKE_CAUSE = s.dev.clr.held ∧ e.clr.held = 0 ∧ e.clr.same = true
        ∧ e.cget F.CEL_RSTCAUSE_LAST = 8 ∧ { e with cel := s.dev.cel, clr := s.dev.clr, fltNew := s.dev.fltNew } = s.dev)
  ∧ (∀ (s : State) (req : Fin 10), s.celRuns →
    Completes (.celRstcauseClr req) s fun e =>
      e.cget F.CEL_RSTCAUSE_CAUSE = 0 ∧ e.cget F.CEL_RSTCAUSE_LAST = s.dev.cget F.CEL_RSTCAUSE_LAST ∧ (∀ a, a ≠ R.CEL_RSTCAUSE → e.crd a = s.dev.crd a)
        ∧ { e with cel := s.dev.cel, fltNew := s.dev.fltNew } = s.dev)
  ∧ (∀ (s : State) (req : Fin 10), s.celRuns →
    Completes (.celMwstatClr req) s fun e =>
      e.cget F.CEL_MWSTAT_DET = 0 ∧ e.cget F.CEL_MWSTAT_CHG0 = 0 ∧ e.cget F.CEL_MWSTAT_CHG1 = 0 ∧ e.cget F.CEL_MWSTAT_LVL = s.dev.cget F.CEL_MWSTAT_LVL
        ∧ (∀ a, a ≠ R.CEL_MWSTAT → e.crd a = s.dev.crd a) ∧ { e with cel := s.dev.cel, clr := s.dev.clr, fltNew := s.dev.fltNew } = s.dev)
  ∧ ∀ (s : State) (req : Fin 10), s.sysRuns →
    Completes (.pwrCntClr req) s fun e =>
      e.get F.PWR_STAT_SLPREF = 0 ∧ e.get F.PWR_STAT_DOMREF = 0
        ∧ (∀ k, k < 8 → e.get (F.PWR_DOM_STAT_CUT k) = 0 ∧ e.get (F.PWR_DOM_STAT_DOWNS k) = 0 ∧ e.domState k = s.dev.domState k) ∧ e.noRegs = s.dev.noRegs

/-- The port selects its instruction, and IDCODE reads the device's (R529); the boundary instructions act in board test
and otherwise select BYPASS; DTMCS and DMI answer a free value, or are locked out by JLOCK (R529); DBGACC reads and
writes as requester 9 (R530); JLOCK holds (R529); direct test is entered in a pair that does not drive (R534) and
left; a pair's PRBS starts where the pair is idle (R533); ATB_SEL selects a node, and a forced one needs analogue test
(R531); the counters clear. Said of states in which no cork is overdue (R62) and the reset of the command's domain
(SYSTEM) is released. -/
def Obligations.test_access_and_debug : Prop :=
  (∀ (s : State), s.dev.corksFresh → s.dev.jlocked = true →
    Completes .tapReset s fun e => e.dbg = { s.dev.dbg with ir := irIdcode } ∧ { e with dbg := s.dev.dbg, fltNew := s.dev.fltNew } = s.dev)
  ∧ (∀ (s : State), s.dev.corksFresh →
    Completes .idcode s fun e => e.bus = ⟨9, 0x0951256F⟩ ∧ e.dbg = { s.dev.dbg with ir := irIdcode })
  ∧ (∀ (s : State), s.dev.corksFresh → s.dev.jlocked = true →
    Completes .samplePreload s fun e => { e.dbg with bsr := s.dev.dbg.bsr } = { s.dev.dbg with ir := 2 } ∧ { e with dbg := s.dev.dbg, draw := s.dev.draw } = s.dev)
  ∧ (∀ (s : State), s.dev.corksFresh → s.dev.boardTest = true →
    Completes .extest s (fun e => { e.dbg with bsr := s.dev.dbg.bsr } = { s.dev.dbg with ir := 3 } ∧ { e with dbg := s.dev.dbg, draw := s.dev.draw } = s.dev)
    ∧ Completes .clamp s (fun e => e.dbg = { s.dev.dbg with ir := 4 } ∧ { e with dbg := s.dev.dbg, fltNew := s.dev.fltNew } = s.dev)
    ∧ Completes .highz s (fun e => e.dbg = { s.dev.dbg with ir := 5 } ∧ { e with dbg := s.dev.dbg, fltNew := s.dev.fltNew } = s.dev)
    ∧ Completes .extestPulse s (fun e => { e.dbg with bsr := s.dev.dbg.bsr } = { s.dev.dbg with ir := 6 } ∧ { e with dbg := s.dev.dbg, draw := s.dev.draw } = s.dev)
    ∧ Completes .extestTrain s (fun e => { e.dbg with bsr := s.dev.dbg.bsr } = { s.dev.dbg with ir := 7 } ∧ { e with dbg := s.dev.dbg, draw := s.dev.draw } = s.dev))
  ∧ (∀ (s : State), s.dev.corksFresh → s.dev.boardTest = false → Completes .extest s fun e => e.dbg = { s.dev.dbg with ir := irBypass })
  ∧ (∀ (s : State), s.dev.corksFresh → s.dev.jlocked = true → Completes .bypass s fun e => e.dbg = { s.dev.dbg with ir := irBypass })
  ∧ (∀ (s : State), s.dev.corksFresh → s.dev.jlocked = false → Completes .dtmcs s fun e => e.dbg = { s.dev.dbg with ir := 0x10 } ∧ e.bus.req = 9)
  ∧ (∀ (s : State), s.dev.corksFresh → s.dev.jlocked = false → Completes .dmi s fun e => e.dbg = { s.dev.dbg with ir := 0x11 } ∧ e.bus.req = 9)
  ∧ (∀ (s : State), s.dev.corksFresh → s.dev.jlocked = true → Completes .dmi s fun e => e.dbg = { s.dev.dbg with ir := 0x11 } ∧ e.bus = ⟨9, 2⟩)
  ∧ (∀ (s : State) (off : Nat), s.busRuns 9 → s.busDev.jlocked = false →
    Runs (.dbgaccRead off) s fun d => let d2 := (d.rakCatch.tapIr 0x20).busRead 9 off
      { d2 with dbg := { d2.dbg with status := 0, off := off % 2 ^ 25, data := d2.bus.data % 2 ^ 32 } })
  ∧ (∀ (s : State) (off : Nat), s.busRuns 9 → s.busDev.jlocked = true →
    Completes (.dbgaccRead off) s fun e => e.dbg = { s.busDev.dbg with ir := 0x20, status := 2 } ∧ { e with dbg := s.busDev.dbg, fltNew := s.busDev.fltNew } = s.busDev)
  ∧ (∀ (s : State) (off data : Nat), s.busRuns 9 → s.busDev.jlocked = false →
    Runs (.dbgaccWrite off data) s fun d => let d2 := (d.rakCatch.tapIr 0x20).busWrite 9 off data
      { d2 with dbg := { d2.dbg with status := 0, off := off % 2 ^ 25, data := data % 2 ^ 32 } })
  ∧ (∀ (s : State) (off data : Nat), s.busRuns 9 → s.busDev.jlocked = false →
    Runs (.dbgaccCorkedWrite off data) s fun d =>
      let d2 := (((d.rakCatch.tapIr 0x20).busWrite 9 off data).fabCycle).busWrite 9 (off + 4) (2 ^ 32 - 1 - data % 2 ^ 32)
      { d2 with dbg := { d2.dbg with status := 0, off := off % 2 ^ 25, data := data % 2 ^ 32 } })
  ∧ (∀ (s : State) (req : Fin 10), s.sysRuns → req.val ≠ 9 →
    Completes (.jlock req) s fun e => e.jlocked = true ∧ e.flag F.DBG_STAT_JLOCK = true ∧ Dev.onlyRegs s.dev e [R.DBG_CTL, R.DBG_STAT])
  ∧ (∀ (s : State) (req : Fin 10), s.sysRuns → s.dev.mirState ≤ 3 →
    Completes (.dbgDirectOn req) s fun e => e.flag F.DBG_STAT_DIRECT = true ∧ e.flag F.DBG_DIRECT_ON = true ∧ e.hasCause 24 0 0 = true)
  ∧ (∀ (s : State) (req : Fin 10), s.sysRuns → 4 ≤ s.dev.mirState →
    Completes (.dbgDirectOn req) s fun e =>
      e.get F.DBG_STAT_DREF = min (s.dev.get F.DBG_STAT_DREF + 1) 255 ∧ e.flag F.DBG_STAT_DIRECT = s.dev.flag F.DBG_STAT_DIRECT ∧ Dev.onlyRegs s.dev e [R.DBG_STAT])
  ∧ (∀ (s : State) (req : Fin 10), s.sysRuns →
    Completes (.dbgDirectOff req) s fun e =>
      e.flag F.DBG_STAT_DIRECT = false ∧ e.flag F.DBG_DIRECT_ON = false ∧ e.hasCause 24 0 0 = false ∧ (∀ a, a ≠ R.DBG_STAT → a ≠ R.DBG_DIRECT → e.rd a = s.dev.rd a)
        ∧ Dev.still e = s.dev.still)
  ∧ (∀ (s : State) (req : Fin 10) (data : Nat), s.sysRuns → bitOf data 31 = true → data % 64 < 34 → s.dev.pairIdle (data % 64) = true →
    Completes (.prbsCtlWrite req data) s fun e =>
      e.rd R.DBG_PRBS_CTL = BitVec.ofNat 32 data &&& 0xF000003F#32 ∧ e.rd R.DBG_PRBS_STAT = 0 ∧ Dev.onlyRegs s.dev e [R.DBG_PRBS_CTL, R.DBG_PRBS_STAT])
  ∧ (∀ (s : State) (req : Fin 10) (data : Nat), s.sysRuns → bitOf data 31 = true → data % 64 < 34 → s.dev.pairIdle (data % 64) = false →
    Completes (.prbsCtlWrite req data) s fun e =>
      e.get F.DBG_STAT_PREF = min (s.dev.get F.DBG_STAT_PREF + 1) 255 ∧ Dev.onlyRegs s.dev e [R.DBG_STAT])
  ∧ (∀ (s : State) (req : Fin 10), s.sysRuns →
    Completes (.dbgStatClr req) s fun e =>
      e.get F.DBG_STAT_PREF = 0 ∧ e.get F.DBG_STAT_DREF = 0 ∧ e.get F.DBG_STAT_TMODE = s.dev.get F.DBG_STAT_TMODE ∧ Dev.onlyRegs s.dev e [R.DBG_STAT])
  ∧ (∀ (s : State) (req : Fin 10) (b : Fin 2) (data : Nat), s.sysRuns → bitOf data 30 = false → bitOf data 31 = false →
    Completes (.atbSelWrite req b data) s fun e =>
      e.rd (R.ATB_SEL b) = BitVec.ofNat 32 data &&& 0xC00003FF#32 ∧ Dev.onlyRegs s.dev e [R.ATB_SEL b])
  ∧ (∀ (s : State) (req : Fin 10) (b : Fin 2) (data : Nat), s.sysRuns → bitOf data 30 = true → s.dev.get F.DBG_STAT_TMODE ≠ 2 →
    Completes (.atbSelWrite req b data) s fun e =>
      e.get F.ATB_STAT_REF = min (s.dev.get F.ATB_STAT_REF + 1) 255 ∧ Dev.onlyRegs s.dev e [R.ATB_STAT])
  ∧ ∀ (s : State) (req : Fin 10), s.sysRuns →
    Completes (.atbStatClr req) s fun e => e.get F.ATB_STAT_REF = 0 ∧ Dev.onlyRegs s.dev e [R.ATB_STAT]

/-- For every state in which CORE reset is released and no cork is overdue, and for all operands, each command of the core
domain answers a next state: the state it stands in with the device that the operation of its clause gives, a cork
overdue by then refused (R62). A clause has no further condition, or it names the condition on the state and the
operands under which its rules give the command this effect: the access reaches the bus and lies where it must
(R34-R37, State.busRuns, State.busDev), the edge, record, entry or frame is there, the unit is enabled, the moment is
one of the state; for a host opcode that its entry is the next of its core and source and passes the checks of its
header (Dev.opTakes), for a mirror frame that it is taken (Dev.mirTakes). Operations are those of the model. -/
def Obligations.core_domain_commands_complete : Prop :=
  (∀ (s : State) (req : Fin 10) (off : Nat) (data : Nat) (c : Nat), s.busRuns req → placeOf (off % 2 ^ 25) = .reg c → s.busDev.inReset c = false → off % 4 = 0 →
      s.busDev.isOff c = false →
    Runs (.registerWrite req off 4 data) s fun d => d.rakCatch.regWrite req c data)
  ∧ (∀ (s : State) (req : Fin 10) (off : Nat) (data : Nat) (c b : Nat), s.busRuns req → placeOf (off % 2 ^ 25) = .reg c → s.busDev.inReset c = false → (s.busDev.regWrite req c (data % 2 ^ 32)).inReset b = false →
      placeOf (off % 2 ^ 25 + 4) = .reg b → off % 8 = 0 → s.busDev.isOff c = false →
    Runs (.registerWrite req off 8 data) s fun d => (d.rakCatch.regWrite req c (data % 2 ^ 32)).regWrite req b (data / 2 ^ 32))
  ∧ (∀ (s : State) (req : Fin 10) (off : Nat) (wr : Bool), s.busRuns req → placeOf (off % 2 ^ 25) = .out →
    Runs (.outspanAccess req off wr) s fun d => if wr then d.rakCatch.hifInc F.HIF_CNT0_OUTSPAN else (d.rakCatch.hifInc F.HIF_CNT0_OUTSPAN).ret req 0)
  ∧ (∀ (s : State) (req : Fin 10) (off : Nat) (size : Nat) (wr : Bool), s.busRuns req → inWindow off = true → sizeOk size = true →
      (off % size ≠ 0 ∨ (wr = true ∧ size < 4)) →
    Runs (.narrowAccess req off size wr) s fun d => if wr then d.rakCatch.hifInc F.HIF_CNT0_NARROW else (d.rakCatch.hifInc F.HIF_CNT0_NARROW).ret req 0)
  ∧ (∀ (s : State) (req : Fin 10) (off : Nat) (wr : Bool) (c : Nat), s.busRuns req → placeOf (off % 2 ^ 25) = .reg c → off % 4 = 0 →
      s.busDev.isOff c = true →
    Runs (.pwroffAccess req off wr) s fun d => if wr then d.rakCatch.hifInc F.HIF_CNT0_PWROFF else (d.rakCatch.hifInc F.HIF_CNT0_PWROFF).ret req 0)
  ∧ (∀ (s : State) (req : Fin 10) (off : Nat) (size : Nat) (data : Nat) (a : Nat), s.busRuns req → placeOf (off % 2 ^ 25) = .mem a → s.busDev.rst.core = false →
      sizeOk size = true →
    Runs (.apertureAccess req off size true data) s fun d => d.rakCatch.memPieces 8 a size data)
  ∧ (∀ (s : State) (req : Fin 10) (off : Nat) (size : Nat) (data : Nat) (a : Nat), s.busRuns req → placeOf (off % 2 ^ 25) = .mem a → s.busDev.rst.core = false →
      sizeOk size = true →
    Runs (.apertureAccess req off size false data) s fun d => (d.rakCatch.memGather 8 a size).1.ret64 req (d.rakCatch.memGather 8 a size).2)
  ∧ (∀ (s : State) (req : Fin 10) (off : Nat) (c : Nat), s.busRuns req → placeOf (off % 2 ^ 25) = .reg c → s.busDev.inReset c = false → off % 4 = 0 →
      s.busDev.isOff c = false →
    Runs (.lowWordRead req ⟨off, false⟩) s fun d => d.rakCatch.regRead req c)
  ∧ (∀ (s : State) (req : Fin 10) (off : Nat) (c b : Nat), s.busRuns req → placeOf (off % 2 ^ 25) = .reg c → s.busDev.inReset c = false → (s.busDev.regRead req c).inReset b = false →
      placeOf (off % 2 ^ 25 + 4) = .reg b → off % 8 = 0 → s.busDev.isOff c = false →
    Runs (.lowWordRead req ⟨off, true⟩) s fun d =>
      let lo := d.rakCatch.regRead req c
      let hi := lo.regRead req b
      hi.ret64 req (lo.bus.data % 2 ^ 32 + 2 ^ 32 * (hi.bus.data % 2 ^ 32)))
  ∧ (∀ (s : State) (req : Fin 10) (grp : Nat), s.coreRuns → grp % 256 ≠ 0 → s.dev.following = false →
      s.dev.strobeBusy (grp % 256) = false →
    Runs (.sysUpdStrobe req grp) s fun d => d.strobeAll (grp % 256))
  ∧ (∀ (s : State) (req : Fin 10) (grp : Nat), s.coreRuns → grp % 256 ≠ 0 → s.dev.following = false →
      s.dev.strobeBusy (grp % 256) = true →
    Runs (.sysUpdStrobe req grp) s fun d => d.incSat F.SYS_UPD_STAT_REFUSED)
  ∧ (∀ (s : State) (req : Fin 10) (off : Nat) (data : Nat) (c : Nat), s.busRuns req → placeOf (off % 2 ^ 25) = .reg c → s.busDev.inReset c = false → off % 4 = 0 →
      s.busDev.isOff c = false →
    Runs (.rwsShadowWrite req off data) s fun d => d.rakCatch.regWrite req c data)
  ∧ (∀ (s : State) (k : Fin 16) (p : PendSwap), s.coreRuns → (s.dev.tk k).pend = some p →
      (if p.rev then (s.dev.tk k).lin ≤ p.bound else p.bound ≤ (s.dev.tk k).lin) →
    Runs (.trackerSwap k) s fun d => (d.outgoing k (d.tk k).lin (d.tk k).rev).trkSwap k p.vint p.bound p.rev)
  ∧ (∀ (s : State) (k : Fin 16) (q p : PendSwap), s.coreRuns → (s.dev.tk k).pend = some q →
      ((s.dev.until (s.dev.updEnd q)).tk k).pend = some p →
    Runs (.updTimeout k) s fun d =>
      let x := d.until (d.updEnd q)
      ((x.incSat F.SYS_UPD_STAT_TIMEOUTS).raise 0 0 k 1).trkSwap k p.vint (x.angNow k) p.rev)
  ∧ (∀ (s : State) (req : Fin 10), s.coreRuns →
    Runs (.sysUpdStatClr req) s Dev.updStatClr)
  ∧ (∀ (s : State) (req : Fin 10) (off : Nat) (data : Nat) (c b : Nat), s.busRuns req → placeOf (off % 2 ^ 25) = .reg c → s.busDev.inReset c = false → off % 4 = 0 →
      s.busDev.isOff c = false → fltBlk c = none → corkBlk c = some b →
    Runs (.corkValueWrite req off data) s fun d => d.rakCatch.corkValue b c req (data % 2 ^ 32))
  ∧ (∀ (s : State) (off : Nat) (a : Nat) (c : Cork), s.coreRuns → placeOf (off % 2 ^ 25) = .reg a → s.dev.corkAt a = some c →
    Runs (.corkTimeout off) s fun d => d.until (c.opened + corkCycles + 1))
  ∧ (∀ (s : State) (req : Fin 10) (off : Nat) (data : Nat) (o : Nat), s.busRuns req → placeOf (off % 2 ^ 25) = .bitWord o → s.busDev.rst.core = false → off % 4 = 0 →
    Runs (.bitAliasWrite req off data) s fun d => d.rakCatch.bitWrite o (bitOf data 0))
  ∧ (∀ (s : State) (req : Fin 10) (blk : Fin 25), s.busRuns req → s.busDev.isOff (fltBase blk + 0x18) = false → s.busDev.inReset (fltBase blk + 0x18) = false → fltNone blk = false →
    Runs (.fltClose req blk) s fun d => d.rakCatch.fltClose blk)
  ∧ (∀ (s : State) (n : Fin 32) (rising : Bool) (peak : Nat) (hold : Nat) (stamp : Nat), s.coreRuns →
    Runs (.snsVrCrossing n rising peak hold stamp) s fun d => d.snsTransition n false rising (some peak) hold stamp)
  ∧ (∀ (s : State) (n : Fin 32) (rising : Bool) (hold : Nat) (stamp : Nat), s.coreRuns →
    Runs (.snsHallTransition n rising hold stamp) s fun d => d.snsTransition n true rising none hold stamp)
  ∧ (∀ (s : State) (n : Fin 32) (short : Bool) (present : Bool), s.coreRuns →
    Runs (.snsOpenShort n short present) s fun d =>
    let on := present && (short || !d.snsHall n)
    (d.putB (if short then F.SNS_STAT_SHORT n else F.SNS_STAT_OPEN n) on).cause 4 (if short then 1 else 0) n 2 on)
  ∧ (∀ (s : State) (req : Fin 10) (n : Fin 32) (flt : Bool) (data : Nat), s.coreRuns →
    Runs (.snsCfgWrite req n flt data) s fun d => d.snsCfgWrite n flt data)
  ∧ (∀ (s : State) (req : Fin 10) (mask : Nat), s.coreRuns →
    Runs (.snsCntClr req mask) s fun d => d.snsCntClr mask)
  ∧ (∀ (s : State) (j : Fin 4) (present : Bool), s.coreRuns →
    Runs (.supplyOc j present) s fun d => (d.setBit R.SNS_SUPPLY (16 + j.val) present).cause 4 3 j 2 present)
  ∧ (∀ (s : State) (k : Fin 16) (e : Machine.Edge) (r : List Machine.Edge), s.coreRuns → (s.dev.tk k).priQ = e :: r →
      s.dev.get (F.TRK_CFG_DIR_SRC k) = 1 →
    Runs (.trkPrimaryEdge k) s fun d =>
      let x := d.setTk k { d.tk k with priQ := r }
      x.setTk k { x.tk k with pwQ := (x.tk k).pwQ ++ [e] })
  ∧ (∀ (s : State) (k : Fin 16) (e : Machine.Edge) (r : List Machine.Edge), s.coreRuns → (s.dev.tk k).priQ = e :: r →
      s.dev.get (F.TRK_CFG_DIR_SRC k) = 2 →
    Runs (.trkPrimaryEdge k) s fun d => (d.setTk k { d.tk k with priQ := r }).trkEdge k e e.quad)
  ∧ (∀ (s : State) (k : Fin 16) (e : Machine.Edge) (r : List Machine.Edge), s.coreRuns → (s.dev.tk k).priQ = e :: r →
      s.dev.get (F.TRK_CFG_DIR_SRC k) ≠ 1 → s.dev.get (F.TRK_CFG_DIR_SRC k) ≠ 2 →
    Runs (.trkPrimaryEdge k) s fun d => (d.setTk k { d.tk k with priQ := r }).trkEdge k e false)
  ∧ (∀ (s : State) (k : Fin 16) (n : Nat), s.coreRuns → 3 ≤ s.dev.tstate k → s.dev.tstate k ≤ 5 →
      s.dev.flag (F.TRK_CFG_KIND k) = false → (s.dev.tk k).skip = false → (s.dev.tk k).qsFirst = false → s.dev.synFast k = true →
      whSpan (s.dev.tk k).wheel ((s.dev.geo k).pos (s.dev.tk k).bnd) (s.dev.tk k).rev = n →
      ((s.dev.tk k).pwQ ++ (s.dev.tk k).priQ).any (fun e =>
        decide (e.stamp ≤ (s.dev.tk k).lastT + (s.dev.get (F.TRK_TOL_TOL_HI k) * (n * (s.dev.tk k).pn) + 31) / 32)) = false →
    Runs (.synthToothDeadline k) s fun d => ((d.advance ((d.tk k).lastT + (d.get (F.TRK_TOL_TOL_HI k) * (n * (d.tk k).pn) + 31) / 32)).trkSynth k ((d.tk k).lastT + n * (d.tk k).pn) n).1)
  ∧ (∀ (s : State) (k : Fin 16) (width : Nat) (e : Machine.Edge) (r : List Machine.Edge), s.coreRuns → (s.dev.tk k).pwQ = e :: r →
    Runs (.pwidthDirection k width) s fun d => ((d.setTk k { d.tk k with pwQ := r }).advance (e.stamp + min width (d.get (F.TRK_DIR_DIRW k)))).trkEdge k e (decide (d.get (F.TRK_DIR_DIRW k) ≤ width)))
  ∧ (∀ (s : State) (k : Fin 16) (e : Machine.Edge) (r : List Machine.Edge), s.coreRuns → (s.dev.tk k).phQ = e :: r →
    Runs (.phaseEdge k) s fun d => (d.setTk k { d.tk k with phQ := r }).phEdge k e)
  ∧ (∀ (s : State) (k : Fin 16) (a : Int), s.coreRuns → (s.dev.tk k).phNext = some a → 5 ≤ s.dev.tstate k →
    Runs (.phaseWindowMiss k) s fun d => (d.advance (fdiv (d.reach k (if (d.tk k).rev then a - d.phTol k else a + d.phTol k)) 8 + 1).toNat).phWindow k)
  ∧ (∀ (s : State) (k : Fin 16) (st : Nat), s.coreRuns → s.dev.tstate k = st → 2 ≤ st →
    Runs (.trkStall k) s fun d =>
      let x := d.advance ((d.tk k).act + 200000 * max 1 (d.get (F.TRK_TIME_TMAX k)))
      let raw : Geo := { x.geo k with decim := 1 }
      (x.upTk k (fun t => { t.noEdges.noGap with stop := some (x.stopRecord k st), phQ := [], encRun := t.encRun && (st == 5 || st == 7) && raw.enc, encC := if st = 7 then some (raw.lastBnd t.lin t.rev) else t.encC })).trkDown k 1)
  ∧ (∀ (s : State) (k : Fin 16) (w : Word × Word), s.celRuns → (s.dev.tk k).stop = some w → s.dev.cflag F.CEL_STAT_SLOWOK = true →
    Runs (.stopRecordWrite k) s fun d => ((d.cwr (0x100 + 2 * k.val) w.1).cwr (0x101 + 2 * k.val) w.2).setTk k { d.tk k with stop := none })
  ∧ (∀ (s : State) (req : Fin 10) (k : Fin 16), s.coreRuns →
    Runs (.trkEnable req k) s fun d => d.trkEnable k)
  ∧ (∀ (s : State) (req : Fin 10) (k : Fin 16), s.coreRuns →
    Runs (.trkDisable req k) s fun d => d.trkDisable k)
  ∧ (∀ (s : State) (req : Fin 10) (mask : Nat), s.coreRuns →
    Runs (.trkCntClr req mask) s fun d => d.trkCntClr mask)
  ∧ (∀ (s : State) (k : Fin 16) (r : ToothRec) (q : List ToothRec) (kind : Nat), s.coreRuns → (s.dev.tk k).recs = r :: q →
      kind = (match r.kind with | .real => 0 | .synth => 1 | .phase => 2) → s.dev.follows k = false →
      ((s.dev.setTk k { s.dev.tk k with recs := q }).mirTooth k kind r.rev r.dchg r.span (((s.dev.setTk k { s.dev.tk k with recs := q }).geo k).pos r.bnd) r.lin r.stamp).follows k = false →
    Runs (.toothRecord k) s fun d =>
      let x := d.setTk k { d.tk k with recs := q }
      let y := x.mirTooth k kind r.rev r.dchg r.span ((x.geo k).pos r.bnd) r.lin r.stamp
      (y.ownFirst k r).1.record k (y.ownFirst k r).2)
  ∧ (∀ (s : State) (uid : Nat) (endOnly : Bool) (o : Occ) (p : OPulse), s.coreRuns → s.dev.occ? uid = some o → o.head = some p →
    Runs (.eventFreeze uid endOnly) s fun d => (d.advance (fdiv (if endOnly then p.stop else p.start) 8 - 100).toNat).setOcc (if endOnly then { o with endFrozen := true } else { o with frozen := true }))
  ∧ (∀ (s : State) (req : Fin 10) (l : Fin 32) (data : Nat), s.coreRuns →
    Runs (.prdLmapWrite req l data) s fun d => d.lmapWrite l data)
  ∧ (∀ (s : State) (req : Fin 10) (k : Fin 16) (te : Bool) (idx : Nat) (data : Nat), s.coreRuns →
    Runs (.prdTableWrite req k te idx data) s fun d => d.tableWrite k te (idx % (if te then 512 else 1024)) data)
  ∧ (∀ (s : State) (req : Fin 10) (k : Fin 16), s.coreRuns →
    Runs (.clrTe req k) s fun d => d.clrTe k)
  ∧ (∀ (s : State) (req : Fin 10) (k : Fin 16), s.coreRuns →
    Runs (.clrRip1 req k) s fun d => d.clrRip k true)
  ∧ (∀ (s : State) (req : Fin 10) (k : Fin 16), s.coreRuns →
    Runs (.clrRip0 req k) s fun d => d.clrRip k false)
  ∧ (∀ (s : State) (req : Fin 10) (q : Fin 8) (k : Fin 16) (ang : Nat), s.coreRuns →
    Runs (.prdQueryStart req q k ang) s fun d => d.qryCmdWrite q (2 ^ 31 + k * 2 ^ 24 + ang % 2 ^ 24))
  ∧ (∀ (s : State) (q : Fin 8), s.coreRuns →
    Runs (.prdQueryDone q) s fun d => d.qryDone q)
  ∧ (∀ (s : State) (req : Fin 10) (q : Fin 8), s.coreRuns →
    Runs (.prdQueryRead req q) s fun d => d.qryRead req q)
  ∧ (∀ (s : State) (l : Fin 32) (spare : Fin 36) (agree : Bool), s.coreRuns →
    Runs (.peSpareSwap l spare agree) s fun d => d.peVerdict l spare agree)
  ∧ (∀ (s : State) (agree : Bool), s.coreRuns →
    Runs (.peBackgroundCheck agree) s fun d =>
      (if d.mgs.suspect.isNone && d.flag F.PRD_CHK_EN then d.until d.checkAt else d).peCheck agree)
  ∧ (∀ (s : State) (req : Fin 10) (data : Nat), s.coreRuns →
    Runs (.prdCntClr req data) s fun d => d.prdCntClr data)
  ∧ (∀ (s : State) (req : Fin 10) (bank : Bool) (idx : Nat) (word : Fin 8) (data : Nat), s.coreRuns →
    Runs (.descWrite req bank idx word data) s fun d => d.descWrite bank (idx % 8192) word data)
  ∧ (∀ (s : State) (k : Fin 16), s.coreRuns → ((s.dev.scht k).prep || (s.dev.scht k).prepIn) = true →
    Runs (.rangePrepDone k) s fun d => d.prepDone k)
  ∧ (∀ (s : State) (req : Fin 10) (k : Fin 16), s.coreRuns →
    Runs (.schTrkEnable req k) s fun d => d.schEnWrite k true)
  ∧ (∀ (s : State) (req : Fin 10) (k : Fin 16), s.coreRuns →
    Runs (.schTrkDisable req k) s fun d => d.schEnWrite k false)
  ∧ (∀ (s : State) (req : Fin 10) (w : Fin 16) (data : Nat), s.coreRuns →
    Runs (.schChenWrite req w data) s fun d => d.chenWrite w data)
  ∧ (∀ (s : State) (req : Fin 10) (k : Fin 16), s.coreRuns →
    Runs (.rearm req k) s fun d => d.schRearm k)
  ∧ (∀ (s : State) (req : Fin 10) (data : Nat), s.coreRuns →
    Runs (.schCntClr req data) s fun d => d.schCntClr data)
  ∧ (∀ (s : State) (k : Fin 16) (sp : Fin 64) (a : Int) (rev : Bool) (at_ : Nat), s.coreRuns →
      (s.dev.prsReady k).prsNext = some (k.val, (sp.val, a, rev, at_)) →
    Runs (.pressDecision k sp) s fun d =>
      let x := d.prsReady k
      (x.setPs k { x.ps k with queue := (x.ps k).queue.drop 1 }).prsDecide k sp a rev at_)
  ∧ (∀ (s : State) (req : Fin 10) (k : Fin 16) (data : Nat), s.coreRuns →
    Runs (.pressPostWrite req k data) s fun d => d.prsPost k data)
  ∧ (∀ (s : State) (req : Fin 10) (k : Fin 16), s.coreRuns →
    Runs (.pressReset req k) s fun d => d.setPs k { d.ps k with reset := true })
  ∧ (∀ (s : State) (req : Fin 10) (data : Nat), s.coreRuns →
    Runs (.prsCntClr req data) s fun d => d.prsCntClr data)
  ∧ (∀ (s : State) (n : Fin 16) (p : Fin 4) (seq : Nat) (result : Nat) (pmask : Nat) (arr : Nat) (f : DFrame), s.coreRuns →
      (s.dev.lp n p).unack.find? (fun f => f.seq == seq) = some f →
    Runs (.ack n p true seq result pmask arr) s fun d =>
      let x := ((d.setLp n p { d.lp n p with unack := (d.lp n p).unack.filter (fun g => g.seq != seq) }).txDrop n (fun g => g.pos == p.val && g.seq == seq)).ackFrame n p f result pmask arr
      x.pump n p (x.lp n p).wait.length)
  ∧ (∀ (s : State) (n : Fin 16) (p : Fin 4) (etag : Nat) (tt : Nat) (res : Nat) (rtt : Nat) (l : List Int), s.coreRuns →
      s.dev.reached n p = true → s.dev.linkUp n = true → (s.dev.lp n p).echo ++ [(rtt : Int) - tt - res] = l →
      l.length < s.dev.echon n →
    Runs (.echoRsp n p true etag tt res rtt) s fun d => d.setLp n p { d.lp n p with echo := l, left := (d.lp n p).left - 1 })
  ∧ (∀ (s : State) (n : Fin 16) (p : Fin 4) (etag : Nat) (tt : Nat) (res : Nat) (rtt : Nat) (l m : List Int), s.coreRuns →
      s.dev.reached n p = true → s.dev.linkUp n = true → (s.dev.lp n p).echo ++ [(rtt : Int) - tt - res] = l →
      s.dev.echon n ≤ l.length → l.drop (l.length - s.dev.echon n) = m →
    Runs (.echoRsp n p true etag tt res rtt) s fun d =>
      let x := d.setLp n p { d.lp n p with echo := m, left := (d.lp n p).left - 1 }
      if (d.lp n p).stage = 2 then (x.upLp n p (fun y => { y with stage := 3 })).sendTimeset n p true (meanDelay m % 2 ^ 24) else if meanDelay m % 2 ^ 24 = x.get (F.TLK_DLY_DLY n p) then x else x.sendTimeset n p false (meanDelay m % 2 ^ 24))
  ∧ (∀ (s : State) (n : Fin 16) (p : Fin 4) (handle : Nat) (pidx : Fin 8) (out : Fin 8) (status : Nat) (start : Nat) (stop : Nat) (ipk : Nat) (i2t : Nat) (x : Occ × OPulse), s.coreRuns →
      s.dev.byHandle (tileNo n p) handle (fun q => q.pidx == pidx.val) = some x →
    Runs (.done n p true handle pidx out status start stop ipk i2t) s fun d =>
      let y := (d.winOpen x.1 x.2).upWins x.2.ch (fun w => w.uid == x.1.uid && w.pidx == pidx.val) (fun w => { w with done := some status })
      let z := y.setOcc { x.1 with pulses := x.1.pulses.map (fun (q : OPulse) => if q.pidx == pidx.val && q.status.elim false (fun c => decide (100 ≤ c)) then { q with status := none } else q) }
      (z.finish x.1.uid (doneOutcome x.1.clamped status) (fun q => q.pidx == pidx.val)).thermHeat (8 * tileNo n p + out.val) i2t)
  ∧ (∀ (s : State) (n : Fin 16) (p : Fin 4) (handle : Nat) (pidx : Fin 8) (out : Fin 8) (status : Nat) (start : Nat) (stop : Nat) (ipk : Nat) (i2t : Nat), s.coreRuns →
      s.dev.byHandle (tileNo n p) handle (fun q => q.pidx == pidx.val) = none →
    Runs (.done n p true handle pidx out status start stop ipk i2t) s fun d => d.thermHeat (8 * tileNo n p + out.val) i2t)
  ∧ (∀ (s : State) (n : Fin 16) (p : Fin 4) (w1 : Nat) (w2 : Nat) (w3 : Nat), s.coreRuns → s.dev.reached n p = true →
      s.dev.linkUp n = true →
    Runs (.status n p true w1 w2 w3) s fun d => (d.driveStatus (tileNo n p) w2 w3).linkStatus n p w1 w2)
  ∧ (∀ (s : State) (n : Fin 16) (p : Fin 4) (level : Bool) (out : Fin 8) (code : Nat) (data : Nat), s.coreRuns →
      s.dev.reached n p = true → s.dev.linkUp n = true → (code < 0x08 ∨ 0x0B < code) →
    Runs (.diag n p true level out code data) s fun d => d.cdtDiag n p level out code)
  ∧ (∀ (s : State) (n : Fin 16) (p : Fin 4) (level : Bool) (out : Fin 8) (code : Nat) (data : Nat), s.coreRuns →
      s.dev.reached n p = true → s.dev.linkUp n = true → 0x08 ≤ code → code ≤ 0x0B →
    Runs (.diag n p true level out code data) s fun d => d.leaseDiag (tileNo n p) code data)
  ∧ (∀ (s : State) (n : Fin 16) (p : Fin 4) (vendor : Nat) (type : Nat) (rev : Nat) (proto : Nat) (nout : Nat) (iv : Bool) (two : Bool) (slots : Nat) (serial : Nat) (fwdlat : Nat), s.coreRuns →
      (s.dev.lp n p).stage = 1 → s.dev.linkUp n = true → proto = 1 → nout = 8 → 16 ≤ slots →
    Runs (.ident n p true vendor type rev proto nout iv two slots serial fwdlat) s fun d =>
      let x := ((d.put (F.TLK_POS_TYPE n p) type).put (F.TLK_POS_STATE n p) 1).upLp n p (fun x => { x with stage := 2, echo := [] })
      (if x.flag (F.TLK_LANE_MIRROR n) then x.sendRel n p 12 [6 + 2 ^ 8] 0 0 0 else x).echoBurst n p)
  ∧ (∀ (s : State) (n : Fin 16) (p : Fin 4) (vendor : Nat) (type : Nat) (rev : Nat) (proto : Nat) (nout : Nat) (iv : Bool) (two : Bool) (slots : Nat) (serial : Nat) (fwdlat : Nat), s.coreRuns →
      (s.dev.lp n p).stage = 1 → s.dev.linkUp n = true → (proto ≠ 1 ∨ nout ≠ 8 ∨ slots < 16) →
    Runs (.ident n p true vendor type rev proto nout iv two slots serial fwdlat) s fun d => (((d.put (F.TLK_POS_TYPE n p) type).put (F.TLK_POS_STATE n p) 5).upLp n p (fun x => { x with stage := 0 })).raise 10 3 (tileNo n p) 2)
  ∧ (∀ (s : State) (n : Fin 16) (p : Fin 4) (result : Nat) (addr : Nat) (data : Nat), s.coreRuns →
      s.dev.flag (F.TIL_STAT_BUSY n) = true → (s.dev.lk n).tilWr = false → (s.dev.lk n).tilPos = p.val →
      (s.dev.lk n).tilAddr = addr % 65536 →
    Runs (.regdata n p true result addr data) s fun d => if result = 0 then ((d.tilDone n result).wr (R.TIL_DATA n) (BitVec.ofNat 32 data)).put (F.TIL_STAT_RDY n) 1 else d.tilDone n result)
  ∧ (∀ (s : State) (n : Fin 16) (p : Fin 4) (handle : Nat) (wseq : Nat) (kind : Nat) (out : Fin 8) (t0 : Nat) (samples : List Int), s.coreRuns →
      s.dev.flag F.CDT_CAP_EN = false →
      (((s.dev.winsUpTo handle (8 * tileNo n p + out.val) (nearest 32 s.dev.tLink t0)).waveJoin (8 * tileNo n p + out.val) handle (wseq % 256) (nearest 32 s.dev.tLink t0) (voltages kind samples))).flag F.CDT_CAP_EN = false →
    Runs (.wave n p true handle wseq kind out t0 samples) s fun d => (d.winsUpTo handle (8 * tileNo n p + out.val) (nearest 32 d.tLink t0)).waveJoin (8 * tileNo n p + out.val) handle (wseq % 256) (nearest 32 d.tLink t0) (voltages kind samples))
  ∧ (∀ (s : State) (n : Fin 16) (p : Fin 4) (seq : Nat) (f : DFrame), s.coreRuns →
      (s.dev.lp n p).unack.find? (fun f => f.seq == seq) = some f → f.retr < s.dev.get (F.TLK_CFG_RETRY n) →
    Runs (.ackTimeout n p seq) s fun d =>
      let g : DFrame := { f with retr := f.retr + 1 }
      ((d.setLp n p { d.lp n p with unack := (d.lp n p).unack.map (fun h => if h.seq == seq then g else h) }).incSat (F.TLK_CNT0_RETX n)).txAdd n g)
  ∧ (∀ (s : State) (n : Fin 16) (p : Fin 4) (seq : Nat) (f : DFrame), s.coreRuns →
      (s.dev.lp n p).unack.find? (fun f => f.seq == seq) = some f → s.dev.get (F.TLK_CFG_RETRY n) ≤ f.retr →
    Runs (.ackTimeout n p seq) s fun d => (d.raise 10 2 (tileNo n p) 2).posLost n p)
  ∧ (∀ (s : State) (n : Fin 16), s.coreRuns → s.dev.linkUp n = true →
    Runs (.timePeriod n) s fun d => d.sendUn n 0 4 [0, 0])
  ∧ (∀ (s : State) (n : Fin 16) (p : Fin 4), s.coreRuns → s.dev.linkUp n = true → s.dev.reached n p = true →
    Runs (.echoPeriod n p) s fun d => d.echoReq n p)
  ∧ (∀ (s : State) (n : Fin 16) (p : Fin 4), s.coreRuns → (s.dev.lp n p).stage = 1 →
    Runs (.identTimeout n p) s fun d => (d.put (F.TLK_POS_STATE n p) 0).upLp n p (fun x => { x with stage := 0 }))
  ∧ (∀ (s : State) (n : Fin 16) (p : Fin 4), s.coreRuns →
    Runs (.discoverRetry n p) s fun d => d.autoDiscover n p)
  ∧ (∀ (s : State) (n : Fin 16), s.coreRuns → s.dev.flag (F.TLK_STAT_LOCK n) = true →
    Runs (.lockLost n) s fun d => ((d.put (F.TLK_STAT_LOCK n) 0).raise 10 0 (tileNo n 0) 2).posLost n 0)
  ∧ (∀ (s : State) (n : Fin 16) (p : Fin 4), s.coreRuns → s.dev.reached n p = true →
    Runs (.statusTimeout n p) s fun d => d.posLost n p)
  ∧ (∀ (s : State) (req : Fin 10) (m : Fin 2) (value : Nat), s.coreRuns →
    Runs (.tlkTpwrEn req m value) s fun d => d.tpwrWrite m value)
  ∧ (∀ (s : State) (req : Fin 10) (n : Fin 16), s.coreRuns → s.dev.lgOn n = true →
    Runs (.redisc req n) s fun d => d.redisc n)
  ∧ (∀ (s : State) (req : Fin 10) (n : Fin 16) (p : Fin 4), s.coreRuns → s.dev.lgOn n = true →
    Runs (.swdn req n p) s fun d => d.planSwap n p false)
  ∧ (∀ (s : State) (req : Fin 10) (n : Fin 16) (p : Fin 4), s.coreRuns → s.dev.lgOn n = true →
    Runs (.swup req n p) s fun d => d.planSwap n p true)
  ∧ (∀ (s : State) (n : Fin 16) (p : Fin 4) (up : Bool) (cv : Nat), s.coreRuns →
    Runs (.autoSwap n p ⟨up, cv⟩) s fun d =>
    let x := d.lp n p
    let seen := if up && p.val == 0 then cv else if up then x.cvU else x.cvD
    let d1 := (d.laneCv n p up cv).upLp n p (fun x => if up then { x with cvU := 0 } else { x with cvD := 0 })
    if d.flag (F.TLK_LANE_AUTO n) && decide (d.get (F.TLK_LANE_BERTH n) < seen) then d1.planSwap n p up else d1)
  ∧ (∀ (s : State) (n : Fin 16) (p : Fin 4) (up : Bool), s.coreRuns →
    Runs (.lswap n p up) s fun d => (d.laneTake n p up).echoBeyond n p)
  ∧ (∀ (s : State) (n : Fin 16) (p : Fin 4) (up : Bool), s.coreRuns → s.dev.trained n p up = true →
    Runs (.workingLaneLoss n p up) s fun d => (((d.laneTake n p up).incSat (F.TLK_CNT1_SWAPS n)).laneLog).echoBeyond n p)
  ∧ (∀ (s : State) (n : Fin 16) (p : Fin 4) (up : Bool), s.coreRuns →
    Runs (.laneFail n p up) s fun d => (d.setSok n p up false).laneFail n p up)
  ∧ (∀ (s : State) (req : Fin 10) (mask : Nat), s.coreRuns →
    Runs (.tlkCntClr req mask) s fun d => d.tlkCntClr mask)
  ∧ (∀ (s : State) (req : Fin 10) (n : Fin 16), s.coreRuns → s.dev.lgOn n = true →
    Runs (.tilDataRead req n) s fun d => d.tilRead req n)
  ∧ (∀ (s : State) (req : Fin 10) (n : Fin 16) (data : Nat), s.coreRuns → s.dev.lgOn n = true →
    Runs (.tilDataWrite req n data) s fun d => d.tilWrite n data)
  ∧ (∀ (s : State) (n : Fin 16), s.coreRuns → s.dev.flag (F.TIL_STAT_BUSY n) = true →
    Runs (.tilTimeout n) s fun d => d.tilDone n 0xFF)
  ∧ (∀ (s : State) (req : Fin 10) (m : Fin 2) (value : Nat), s.coreRuns →
    Runs (.cdtBoostEn req m value) s fun d => d.boostEnWrite m value)
  ∧ (∀ (s : State) (ch : Fin 512) (lim : Nat), s.coreRuns → s.dev.get (F.CDT_CH_CFG_OFFT_CYC ch) = lim → lim ≠ 0 →
      (cntOf s.dev.sch.owner ch = 0 ∨ lim ≤ (s.dev.cc ch).cyc) →
    Runs (.offtCommand ch) s fun d => (d.setCc ch { d.cc ch with cyc := 0 }).sendRegwr (tileOfCh ch) 0x105 (2 ^ (ch.val % 8)))
  ∧ (∀ (s : State) (req : Fin 10) (m : Fin 2) (mask : Nat), s.coreRuns →
    Runs (.cdtRearm req m mask) s fun d => d.rearmWrite m mask)
  ∧ (∀ (s : State) (ch : Fin 512) (w : CdtWin) (r : List CdtWin), s.coreRuns → (s.dev.cc ch).wins = w :: r →
    Runs (.closingDetect ch) s fun d => (d.setCc ch { d.cc ch with wins := r }).detect ch w)
  ∧ (∀ (s : State) (ch : Fin 512) (x : Occ × OPulse) (r : List (Occ × OPulse)), s.coreRuns →
      s.dev.sch.occs.flatMap (fun o => (o.pulses.filter (fun p => (p.ch == ch.val && p.clen && p.status.isNone) && !(s.dev.cc ch).begun.contains (o.uid, p.pidx))).map (fun p => (o, p))) = x :: r →
    Runs (.cresReadyClear ch) s fun d =>
      let e := r.foldl (fun a b => if b.2.start < a.2.start then b else a) x
      ((d.advance (fdiv e.2.start 8).toNat).put (F.CDT_CH_CRES_ST_READY ch) 0).winOpen e.1 e.2)
  ∧ (∀ (s : State) (req : Fin 10) (ch : Fin 512), s.coreRuns →
    Runs (.cresLoRead req ch) s fun d => d.cresRead req ch)
  ∧ (∀ (s : State), s.coreRuns →
    Runs .thermalStep s fun d => forN 512 (fun x ch => x.thermStep ch) d)
  ∧ (∀ (s : State) (req : Fin 10) (ch : Fin 512), s.coreRuns →
    Runs (.chforceOff req ch) s fun d => d.chForce (2 ^ 30 + ch))
  ∧ (∀ (s : State) (req : Fin 10) (ch : Fin 512) (prf : Fin 256), s.coreRuns →
    Runs (.chforceOn req ch prf) s fun d => d.chForce (2 ^ 31 + prf * 2 ^ 16 + ch))
  ∧ (∀ (s : State) (req : Fin 10) (ch : Fin 512), s.coreRuns →
    Runs (.chforceRelease req ch) s fun d => d.chForce ch)
  ∧ (∀ (s : State) (req : Fin 10), s.coreRuns →
    Runs (.cdtCntClr req) s fun d => d.cdtCntClr)
  ∧ (∀ (s : State), s.coreRuns →
    Runs .mirLaneLockLoss s fun d => ((d.put F.MIR_STAT_LOCK0 0).put F.MIR_STAT_LOCK1 0).partnerLost)
  ∧ (∀ (s : State), s.coreRuns → (s.dev.mirState = 4 ∨ s.dev.mirState = 6) →
    Runs .mtimeTimeout s fun d => d.partnerLost)
  ∧ (∀ (s : State), s.coreRuns →
    Runs .helloTimeout s fun d => d.partnerLost)
  ∧ (∀ (s : State) (ask : Bool) (rel : Word), s.coreRuns → s.dev.mirState ≠ 0 →
      ask = (s.dev.mirState == 4 && s.dev.mir.held && !s.dev.allApplied) →
      rel = (if s.dev.flag F.MGS_STAT_BANK then s.dev.rd R.MGS_FWREL_B else s.dev.rd R.MGS_FWREL_A) →
    Runs .helloPeriod s fun d => d.mirSend 1 [2 ^ 24 + d.mirState * 2 ^ 21 + d.get F.MIR_CTL_PREF * 2 ^ 20 + b2n ask * 2 ^ 19 + d.dver, rel.toNat, (d.rd R.SYS_VINTAGE).toNat, Config.devSerial % 2 ^ 32, Config.devSerial / 2 ^ 32 % 2 ^ 32])
  ∧ (∀ (s : State), s.coreRuns → (s.dev.mirState = 5 ∨ (s.dev.mirState = 2 ∧ s.dev.flag F.MIR_STAT_PARTNER = true)) →
    Runs .mtimePeriod s fun d => d.mirSend 2 [0, 0])
  ∧ (∀ (s : State), s.coreRuns → s.dev.mirState ≠ 0 →
    Runs .mirEchoPeriod s fun d => (d.mirSend 3 [d.mir.etag]).upMir (fun m => { m with etag := (m.etag + 1) % 65536 }))
  ∧ (∀ (s : State) (f : MirHello), s.coreRuns → f.ok = true → s.dev.mirTakes f.seq →
    Runs (.mirHello f) s fun d =>
      let d := d.mirSeen f.seq
      let c := d.incompat f
      let d1 := ((d.put F.MIR_STAT_PARTNER 1).put F.MIR_STAT_PSTATE f.pstate).put F.MIR_STAT_INCOMP c
      let d2 := ((d1.put F.MIR_PVER_PROTO f.proto).put F.MIR_PVER_DVER f.dver).put F.MIR_PREL_FWREL f.fwrel
      let d3 := ((d2.put F.MIR_PVINT_IMAGE f.image).put F.MIR_PVINT_CUR f.cur).upMir (fun m => { m with hello := some f })
      let d4 := d3.cause 22 1 0 1 (c != 0)
      let n := d4.helloNext f (c != 0)
      if n = d4.mirState || (n = 4 && d4.flag F.DBG_STAT_DIRECT) then d4 else d4.setPair n)
  ∧ (∀ (s : State) (seq : Nat) (stamp : Nat), s.coreRuns → s.dev.mirTakes seq →
    Runs (.mirMtime true seq stamp) s fun d =>
      let d := d.mirSeen seq
      let ofs : Int := 192 * d.now - (192 * stamp + d.get F.MIR_DLY_DLY)
      let d1 := (d.puti F.MIR_OFS_OFS (clampI (-2147483648) 2147483647 ofs)).putB F.MIR_STAT_ALIGNED (decide (ofs.natAbs ≤ 153))
      let st := d1.mirState
      let d2 := if st = 4 || st = 6 then d1.steer ofs else d1
      if st = 4 && decide (38400 < ofs.natAbs) then d2.timeStep ofs else d2.alignDone)
  ∧ (∀ (s : State) (seq : Nat) (etag : Nat) (tt : Nat), s.coreRuns → s.dev.mirTakes seq →
    Runs (.mirEchoReq true seq etag tt) s fun d =>
      let d := d.mirSeen seq
      d.mirSend 4 [etag % 65536, tt % 2 ^ 24])
  ∧ (∀ (s : State) (seq : Nat) (etag : Nat) (tt : Nat) (rtt : Nat), s.coreRuns → s.dev.mirTakes seq →
    Runs (.mirEchoRsp true seq etag tt rtt) s fun d =>
      let d := d.mirSeen seq
      let all := d.mir.echo ++ [(rtt : Int) - tt]
      let l := all.drop (all.length - 8)
      (d.upMir (fun m => { m with echo := l })).put F.MIR_DLY_DLY (meanDelay l))
  ∧ (∀ (s : State) (seq : Nat) (f : MirTooth), s.coreRuns → s.dev.mirTakes seq →
    Runs (.mirTooth true seq f) s fun d =>
      let d := d.mirSeen seq
      if d.follows f.trk then d.mirRecord f else if d.mirState = 4 then d.mirHold f else d)
  ∧ (∀ (s : State) (seq : Nat) (f : MirDecide), s.coreRuns → s.dev.mirTakes seq →
    Runs (.mirDecide true seq f) s fun d =>
      let d := d.mirSeen seq
      if d.follows f.mach then d.prsMirror f else d)
  ∧ (∀ (s : State) (seq : Nat) (vint : Nat) (grp : Nat), s.coreRuns → s.dev.mirTakes seq →
    Runs (.mirStrobe true seq vint grp) s fun d =>
      let d := d.mirSeen seq
      if !d.following then d
      else
        let g := grp % 256
        let d1 := if d.strobeBusy g then d.incSat F.SYS_UPD_STAT_REFUSED else d.strobeAll g
        if d1.get F.SYS_VINTAGE_CUR = vint % 2 ^ 16 then d1 else d1.setPair 3)
  ∧ (∀ (s : State) (seq : Nat) (k : Fin 16) (vint : Nat) (cyc : Int) (crc : Nat), s.coreRuns → s.dev.mirTakes seq →
    Runs (.mirDigest true seq k vint cyc crc) s fun d =>
      let d := d.mirSeen seq
      if d.mirState < 4 then d
      else (d.upMir (fun m => { m with theirs := ((k.val, cyc, crc % 2 ^ 32) :: m.theirs).take 64 })).digCheck k cyc)
  ∧ (∀ (s : State) (seq : Nat) (k : Fin 16) (chunk : Nat) (nchunk : Nat) (cyc : Nat) (words : List Nat), s.coreRuns →
      s.dev.mirTakes seq →
    Runs (.mirSnap true seq k chunk nchunk cyc words) s fun d =>
      let d := d.mirSeen seq
      if d.mirState ≠ 4 || !d.mir.held || d.mir.applied.contains k.val then d
      else
        let c := cyc % 2 ^ 32
        match (d.snap k).part with
        | some (e, got) =>
          if e = c then d.snapChunk k c chunk nchunk got words
          else match d.snapCut k c with | some x => x.snapChunk k c chunk nchunk [] words | none => d
        | none => match d.snapCut k c with | some x => x.snapChunk k c chunk nchunk [] words | none => d)
  ∧ (∀ (s : State) (seq : Nat) (mode : Nat) (tat : Nat), s.coreRuns → s.dev.mirTakes seq →
    Runs (.mirTake true seq mode tat) s fun d =>
      let d := d.mirSeen seq
      if mode = 1 && d.mirState == 5 && d.mir.tk.isNone then
        ((d.tkStart (some true) tat).mirSend 10 [3, tat % 2 ^ 32, tat / 2 ^ 32 % 2 ^ 32]).yieldAll tat
      else if mode = 2 && d.mirState == 6 && d.mir.tk.isNone then d.tkStart (some false) tat
      else if mode = 3 && d.mirState == 6 && d.mir.tk.elim false (fun p => p.1.isNone) then d.upMir (fun m => { m with tk := some (some false, tat) })
      else d)
  ∧ (∀ (s : State), s.coreRuns → s.dev.mirState = 6 → 307 < (s.dev.geti F.MIR_OFS_OFS).natAbs →
    Runs .timeDiv s fun d => (d.raise 22 3 0 2).realign)
  ∧ (∀ (s : State), s.coreRuns → s.dev.mirState = 1 → s.dev.flag F.MIR_STAT_PARTNER = false →
    Runs .soloWaitExpiry s fun d => (d.advance (d.mir.since + 200000 * max 1 (d.get F.MIR_CFG_SOLO_WAIT))).setPair 2)
  ∧ (∀ (s : State), s.coreRuns → s.dev.mirState = 4 → s.dev.flag F.MIR_STAT_ALIGNED = true →
    Runs .alignHold s fun d => (d.upMir (fun m => { m with held := true })).alignDone)
  ∧ (∀ (s : State) (req : Fin 10), s.coreRuns →
    Runs (.mirEnable req) s fun d => d.mirCtlWrite ((d.rd R.MIR_CTL).toNat ||| 1))
  ∧ (∀ (s : State) (req : Fin 10), s.coreRuns →
    Runs (.mirDisable req) s fun d => d.mirCtlWrite (2 * d.get F.MIR_CTL_PREF))
  ∧ (∀ (s : State) (req : Fin 10), s.coreRuns →
    Runs (.resync req) s fun d => d.mirCtlWrite ((d.rd R.MIR_CTL).toNat ||| 4))
  ∧ (∀ (s : State) (req : Fin 10), s.coreRuns →
    Runs (.mirTakeoverTake req) s fun d => d.takeover 1)
  ∧ (∀ (s : State) (req : Fin 10), s.coreRuns →
    Runs (.mirTakeoverGive req) s fun d => d.takeover 2)
  ∧ (∀ (s : State) (give : Bool) (tat : Nat) (x : Dev), s.coreRuns → s.dev.mir.tk = some (some give, tat) →
      ((s.dev.advance tat).put F.MIR_TK_STAT_RESULT (if (s.dev.advance tat).get F.MIR_TK_STAT_NREF = 0 then 2 else 3)).upMir (fun m => { m with tk := none }) = x →
    Runs .takeoverAt s fun d => if give && x.mirState == 5 then (x.upMir (fun m => { m with tst := (List.range 16).foldl (fun a k => smSet a 0 k (x.tstate k + 8 * b2n (x.armOk k))) [] })).setPair 6 else if !give && x.mirState == 6 then x.setPair 5 else x)
  ∧ (∀ (s : State) (req : Fin 10), s.coreRuns →
    Runs (.mirCntClr req) s fun d => d.mirCntClr)
  ∧ (∀ (s : State) (n : Fin 256) (value : Nat) (x : Sq), s.coreRuns → s.dev.bar2 = true → s.dev.sq? n = some x → value < x.size → value < 2 ^ 32 →
    Runs (.sqDoorbell n value) s fun d => d.setSq n { x with tail := value })
  ∧ (∀ (s : State) (n : Fin 256) (value : Nat), s.coreRuns → s.dev.bar2 = true →
      (s.dev.sq? n).elim true (fun x => decide (x.size ≤ value)) = true → value < 2 ^ 32 →
    Runs (.sqDoorbell n value) s fun d => d.dbBad n)
  ∧ (∀ (s : State) (n : Fin 256) (value : Nat) (c : Cq), s.coreRuns → s.dev.bar2 = true → s.dev.cq? n = some c → value < c.size → value < 2 ^ 32 →
      (value + c.size - c.head) % c.size ≤ c.held →
    Runs (.cqDoorbell n value) s fun d => if ({ c with head := value } : Cq).full then d.setCq n { c with head := value } else (d.setCq n { c with head := value }).causeOff 14 4 n)
  ∧ (∀ (s : State) (n : Fin 256) (value : Nat), s.coreRuns → s.dev.bar2 = true →
      (s.dev.cq? n).elim true (fun c => !(decide (value < c.size) && decide ((value + c.size - c.head) % c.size ≤ c.held))) = true → value < 2 ^ 32 →
    Runs (.cqDoorbell n value) s fun d => d.dbBad n)
  ∧ (∀ (s : State) (n : Fin 8) (value : Nat), s.coreRuns → s.dev.bar2 = true → s.dev.flag (F.STM_CFG_EN n) = true →
      value < s.dev.stmSize n → value < 2 ^ 32 →
      (value + s.dev.stmSize n - (s.dev.stmOf n).rp) % s.dev.stmSize n ≤ ((s.dev.stmOf n).wp + s.dev.stmSize n - (s.dev.stmOf n).rp) % s.dev.stmSize n →
    Runs (.streamRpDoorbell n value) s fun d => (d.setStm n { d.stmOf n with rp := value }).put (F.STM_RP_PTR n) value)
  ∧ (∀ (s : State) (n : Fin 256) (entry : List Nat) (x : Sq), s.coreRuns → s.dev.sq? n = some x → s.dev.arrives x = true → x.stuck = none → x.head ≠ x.tail → x.ents.length < max 1 (s.dev.get F.HIF_CFG_FETCH) →
    Runs (.sqEntryFetch n entry) s fun d => d.fetchIn n x (entry16 entry))
  ∧ (∀ (s : State) (n : Fin 256) (x : Sq), s.coreRuns → s.dev.sq? n = some x → x.stuck.isSome = true →
    Runs (.fetchRetry n) s fun d => (d.until (x.stuckAt + 400)).fetchAgain n)
  ∧ (∀ (s : State) (h : CmdHdr) (q : Sq) (e : Ent), s.coreRuns → s.dev.opTakes h 0 true [] q e →
    Runs (.nop h) s fun d =>
      let x := d.opStart h 0 q
      Dev.opEnd h 0 q e ((x, .ok 0 0)))
  ∧ (∀ (s : State) (h : CmdHdr) (q : Sq) (e : Ent), s.coreRuns → s.dev.opTakes h 1 true [] q e →
    Runs (.identify h) s fun d =>
      let x := d.opStart h 1 q
      Dev.opEnd h 1 q e ((x, .ok (x.fwRel (x.flag F.MGS_STAT_BANK)) (x.dver * 2 ^ 16 + x.get F.SYS_VINTAGE_CUR))))
  ∧ (∀ (s : State) (h : CmdHdr) (off : Nat) (cnt : Nat) (q : Sq) (e : Ent), s.coreRuns → s.dev.opTakes h 2 (decide (2 < cnt)) [par 0 off, par 1 cnt] q e →
    Runs (.regRd h off cnt) s fun d =>
      let x := d.opStart h 2 q
      Dev.opEnd h 2 q e (x.opRegRd h off cnt))
  ∧ (∀ (s : State) (h : CmdHdr) (off : Nat) (cnt : Nat) (data : List Nat) (q : Sq) (e : Ent), s.coreRuns → s.dev.opTakes h 3 true (par 0 off :: par 1 cnt :: if cnt ≤ 9 then parWords 2 (padWords cnt data) else []) q e →
    Runs (.regWr h off cnt data) s fun d =>
      let x := d.opStart h 3 q
      Dev.opEnd h 3 q e (x.opRegWr h off cnt data))
  ∧ (∀ (s : State) (h : CmdHdr) (off : Nat) (value : Nat) (q : Sq) (e : Ent), s.coreRuns → s.dev.opTakes h 4 true [par 0 off, par 1 value] q e →
    Runs (.regCork h off value) s fun d =>
      let x := d.opStart h 4 q
      Dev.opEnd h 4 q e (x.opRegCork h off value))
  ∧ (∀ (s : State) (h : CmdHdr) (bank : Bool) (idx : Nat) (cnt : Nat) (data : List Nat) (q : Sq) (e : Ent), s.coreRuns →
      s.dev.opTakes h 5 true [parBits 0 13 13 (b2n bank), parBits 0 12 0 idx, par 1 cnt] q e →
    Runs (.descWr h bank idx cnt data) s fun d =>
      let x := d.opStart h 5 q
      Dev.opEnd h 5 q e (x.opDescWr h bank idx cnt data))
  ∧ (∀ (s : State) (h : CmdHdr) (bank : Bool) (idx : Nat) (cnt : Nat) (q : Sq) (e : Ent), s.coreRuns → s.dev.opTakes h 6 true [parBits 0 13 13 (b2n bank), parBits 0 12 0 idx, par 1 cnt] q e →
    Runs (.descRd h bank idx cnt) s fun d =>
      let x := d.opStart h 6 q
      Dev.opEnd h 6 q e (if descArgs h idx cnt then (x, ⟨0, cnt, 0, memWords x.mem (descAddr bank idx) (8 * cnt)⟩) else badParam x))
  ∧ (∀ (s : State) (h : CmdHdr) (grp : Nat) (q : Sq) (e : Ent), s.coreRuns → s.dev.opTakes h 7 true [parBits 0 7 0 grp] q e →
    Runs (.strobe h grp) s fun d =>
      let x := d.opStart h 7 q
      Dev.opEnd h 7 q e (x.opStrobe grp))
  ∧ (∀ (s : State) (h : CmdHdr) (image : List Nat) (q : Sq) (e : Ent), s.coreRuns → s.dev.opTakes h 8 true [] q e →
    Runs (.imageLoad h image) s fun d =>
      let x := d.opStart h 8 q
      Dev.opEnd h 8 q e (x.opImageLoad h image))
  ∧ (∀ (s : State) (h : CmdHdr) (off : Nat) (last : Bool) (piece : List Nat) (q : Sq) (e : Ent), s.coreRuns →
      s.dev.opTakes h 9 true [par 0 off, parBits 1 0 0 (b2n last)] q e →
    Runs (.fwStage h off last piece) s fun d =>
      let x := d.opStart h 9 q
      Dev.opEnd h 9 q e (x.opFwStage h off last piece))
  ∧ (∀ (s : State) (h : CmdHdr) (idx : Nat) (cnt : Nat) (q : Sq) (e : Ent), s.coreRuns → s.dev.opTakes h 0xA true [par 0 idx, par 1 cnt] q e →
    Runs (.logRd h idx cnt) s fun d =>
      let x := d.opStart h 0xA q
      Dev.opEnd h 0xA q e (x.opLogRd h idx cnt))
  ∧ (∀ (s : State) (h : CmdHdr) (mach : Fin 16) (dem : Nat) (post : Bool) (tag : Nat) (q : Sq) (e : Ent), s.coreRuns →
      s.dev.opTakes h 0xB true [parBits 0 3 0 mach, parBits 1 16 0 dem, parBits 2 8 8 (b2n post), parBits 2 7 0 tag] q e →
    Runs (.demand h mach dem post tag) s fun d =>
      let x := d.opStart h 0xB q
      Dev.opEnd h 0xB q e (
      let y := if post then x.prsPost mach (tag % 256 * 2 ^ 24 + dem % 2 ^ 17) else (x.prsWrote mach).put (F.PRS_DEMAND_DEMAND mach) dem
      (y, .ok (y.rd (R.PRS_NSTR mach)).toNat 0)))
  ∧ (∀ (s : State) (h : CmdHdr) (k : Fin 16) (ang : Nat) (q : Sq) (e : Ent), s.coreRuns → s.dev.opTakes h 0xC true [parBits 0 3 0 k, parBits 1 23 0 ang] q e →
    Runs (.predQ h k ang) s fun d =>
      let x := d.opStart h 0xC q
      Dev.opEnd h 0xC q e (x.opPredQ k ang))
  ∧ (∀ (s : State) (h : CmdHdr) (n : Fin 16) (p : Fin 4) (addr : Nat) (q : Sq) (e : Ent), s.coreRuns → s.dev.opTakes h 0xD true [parBits 0 3 0 n, parBits 0 9 8 p, par 1 addr] q e →
    Runs (.tileRd h n p addr) s fun d =>
      let x := d.opStart h 0xD q
      Dev.opEnd h 0xD q e (
      match x.tileStop n p with
      | some c => (x, ⟨c, 0, if c = 0xA then 0xFE else 0, []⟩)
      | none =>
          if x.tileSilent n p true then x.tileDead true
          else let r := x.tileRead (tileNo n p) x.mySide (addr % 65536); (x, .ok r.2 r.1)))
  ∧ (∀ (s : State) (h : CmdHdr) (n : Fin 16) (p : Fin 4) (addr : Nat) (data : Nat) (q : Sq) (e : Ent), s.coreRuns →
      s.dev.opTakes h 0xE true [parBits 0 3 0 n, parBits 0 9 8 p, par 1 addr, par 2 data] q e →
    Runs (.tileWr h n p addr data) s fun d =>
      let x := d.opStart h 0xE q
      Dev.opEnd h 0xE q e (
      match x.tileStop n p with
      | some c => (x, ⟨c, if c = 0xA then 0xFE else 0, 0, []⟩)
      | none =>
          if x.tileSilent n p false then x.tileDead false
          else if (x.ts (tileNo n p) x.mySide).st = 0 then (x, .ok 3 0)
          else let r := x.tileWrite (tileNo n p) x.mySide (addr % 65536) (data % 2 ^ 32); (r.1, .ok r.2 0)))
  ∧ (∀ (s : State) (h : CmdHdr) (off : Nat) (data : List Nat) (q : Sq) (e : Ent), s.coreRuns → s.dev.opTakes h 0xF true [par 0 off] q e →
    Runs (.memWr h off data) s fun d =>
      let x := d.opStart h 0xF q
      Dev.opEnd h 0xF q e (if coreMem off h.dlen then ({ x with mem := memWriteBytes x.mem off (wordsBytes (padWords (h.dlen / 4) data)) }, .ok h.dlen 0) else badParam x))
  ∧ (∀ (s : State) (h : CmdHdr) (off : Nat) (q : Sq) (e : Ent), s.coreRuns → s.dev.opTakes h 0x10 true [par 0 off] q e →
    Runs (.memRd h off) s fun d =>
      let x := d.opStart h 0x10 q
      Dev.opEnd h 0x10 q e (if coreMem off h.dlen then (x, ⟨0, h.dlen, 0, memWords x.mem off (h.dlen / 4)⟩) else badParam x))
  ∧ (∀ (s : State) (h : CmdHdr) (cores : Nat) (q : Sq) (e : Ent), s.coreRuns → s.dev.opTakes h 0x11 true [parBits 0 3 0 cores, par 1 1] q e →
    Runs (.acCtlHalt h cores) s fun d =>
      let x := d.opStart h 0x11 q
      Dev.opEnd h 0x11 q e (let y := x.acStop cores false; (y, .ok y.mgs.acRun 0)))
  ∧ (∀ (s : State) (h : CmdHdr) (cores : Nat) (addr : Nat) (q : Sq) (e : Ent), s.coreRuns → s.dev.opTakes h 0x11 true [parBits 0 3 0 cores, par 1 2, par 2 addr] q e →
    Runs (.acCtlStart h cores addr) s fun d =>
      let x := d.opStart h 0x11 q
      Dev.opEnd h 0x11 q e (let y := x.acStart cores addr; (y, .ok y.mgs.acRun 0)))
  ∧ (∀ (s : State) (h : CmdHdr) (cores : Nat) (q : Sq) (e : Ent), s.coreRuns → s.dev.opTakes h 0x11 true [parBits 0 3 0 cores, par 1 3] q e →
    Runs (.acCtlReset h cores) s fun d =>
      let x := d.opStart h 0x11 q
      Dev.opEnd h 0x11 q e (let y := x.acStop cores true; (y, .ok y.mgs.acRun 0)))
  ∧ (∀ (s : State) (h : CmdHdr) (sq : Nat) (base : Nat) (entries : Nat) (cq : Nat) (owner : Nat) (prio : Nat) (core : Bool) (win : Nat) (q : Sq) (e : Ent), s.coreRuns →
      s.dev.opTakes h 0x14 true ([par 0 sq, par 1 (base % 2 ^ 32), par 2 (base / 2 ^ 32), par 3 entries, par 4 cq] ++ [parBits 5 7 0 owner, parBits 5 9 8 prio, parBits 5 10 10 (b2n core), parBits 5 21 16 win]) q e →
    Runs (.createSq h sq base entries cq owner prio core win) s fun d =>
      let x := d.opStart h 0x14 q
      Dev.opEnd h 0x14 q e (
      if ringArgs sq base entries && decide (owner < 256) && decide (prio < 4) && decide (1 ≤ win) && decide (win ≤ 64) && (x.sq? sq).isNone && (x.cqLive? cq).isSome then (x.addSq sq (newSq base entries cq owner prio core win), .ok 0 0)
      else badParam x))
  ∧ (∀ (s : State) (h : CmdHdr) (sq : Nat) (q : Sq) (e : Ent), s.coreRuns → s.dev.opTakes h 0x15 true [par 0 sq] q e →
    Runs (.deleteSq h sq) s fun d =>
      let x := d.opStart h 0x15 q
      Dev.opEnd h 0x15 q e (x.opDeleteSq sq))
  ∧ (∀ (s : State) (h : CmdHdr) (cq : Nat) (base : Nat) (entries : Nat) (vec : Nat) (cthr : Nat) (ctime : Nat) (q : Sq) (e : Ent), s.coreRuns →
      s.dev.opTakes h 0x16 true ([par 0 cq, par 1 (base % 2 ^ 32), par 2 (base / 2 ^ 32), par 3 entries] ++ [parBits 4 9 0 vec, parBits 5 7 0 cthr, parBits 5 23 8 ctime]) q e →
    Runs (.createCq h cq base entries vec cthr ctime) s fun d =>
      let x := d.opStart h 0x16 q
      Dev.opEnd h 0x16 q e (
      if ringArgs cq base entries && decide (vec < 1024) && decide (cthr < 256) && decide (ctime < 65536) && (x.cq? cq).isNone then
        (x.setCq cq (newCq base entries vec cthr ctime), .ok 0 0)
      else badParam x))
  ∧ (∀ (s : State) (h : CmdHdr) (cq : Nat) (q : Sq) (e : Ent), s.coreRuns → s.dev.opTakes h 0x17 true [par 0 cq] q e →
    Runs (.deleteCq h cq) s fun d =>
      let x := d.opStart h 0x17 q
      Dev.opEnd h 0x17 q e (
      if cq != 0 && (x.cqLive? cq).isSome && !x.hif.sqs.any (fun p => p.2.cq == cq) then (x.cqDrop cq, .ok 0 0)
      else badParam x))
  ∧ (∀ (s : State) (h : CmdHdr) (off : Nat) (len : Nat) (data : List Nat) (q : Sq) (e : Ent), s.coreRuns →
      s.dev.opTakes h 0x19 true (par 0 off :: par 1 len :: parWords 2 (padWords 9 data)) q e →
    Runs (.bufPut h off len data) s fun d =>
      let x := d.opStart h 0x19 q
      Dev.opEnd h 0x19 q e (x.opBufPut (h.src - 256) off len data))
  ∧ (∀ (s : State) (cq : Fin 256) (c : Cq) (e : Cpl) (r : List Cpl), s.coreRuns → s.dev.cq? cq = some c → c.wait = e :: r →
      c.full = false → s.dev.pcieGo = true →
    Runs (.completionWrite cq) s fun d =>
      let x := (if e.data.isEmpty then d else d.emit (.write e.daddr e.data)).emit (.write (c.base + 16 * c.tail) (cplWords e c.phase))
      let t := (c.tail + 1) % c.size
      let y : Cq := { c with wait := r, tail := t, phase := if t = 0 then !c.phase else c.phase, unsig := c.unsig + 1, since := if c.unsig = 0 then d.fab else c.since, fullAt := d.fab }
      if c.closing && r.isEmpty then (x.cqSignal cq y).cqDrop cq
      else if max 1 c.cthr ≤ y.unsig then x.cqSignal cq y else x.setCq cq y)
  ∧ (∀ (s : State) (cq : Fin 256) (c : Cq), s.coreRuns → s.dev.cq? cq = some c → c.ctime ≠ 0 → c.unsig ≠ 0 →
    Runs (.cqCoalesceTimeout cq) s fun d => (d.until (c.since + 400 * c.ctime)).cqSignal cq c)
  ∧ (∀ (s : State) (cq : Fin 256) (c : Cq), s.coreRuns → s.dev.cq? cq = some c → c.full = true →
    Runs (.cqStall cq) s fun d => ((d.until (c.fullAt + 400000 * max 1 (d.get F.HIF_CFG_CQTO))).incSat F.HIF_CNT1_CQSTALL).causeOn 14 4 cq 1)
  ∧ (∀ (s : State) (who : BusUser), s.coreRuns →
    Runs (.cplTimeout who) s fun d => d.busFail 1 F.HIF_CNT1_CTO who)
  ∧ (∀ (s : State) (who : BusUser), s.coreRuns →
    Runs (.dmaErr who) s fun d => d.busFail 2 F.HIF_CNT1_ERRCPL who)
  ∧ (∀ (s : State) (n : Fin 8), s.coreRuns → s.dev.flag (F.STM_CFG_EN n) = true → s.dev.flag (F.STM_STAT_ERR n) = false →
      (s.dev.stmOf n).chunk.isEmpty = false →
    Runs (.streamFlush n) s fun d => (d.until ((d.stmOf n).since + 400 * 2 ^ d.get (F.STM_CFG_FLUSH n))).stmFlush n)
  ∧ (∀ (s : State) (req : Fin 10) (n : Fin 8) (data : Nat), s.coreRuns → s.dev.domUp 6 = true → s.dev.rst.perst = false → Runs (.streamEnable req n data) s fun d => d.stmCfg n (Nat.lor data (2 ^ 31)))
  ∧ (∀ (s : State) (req : Fin 10), s.coreRuns → s.dev.domUp 6 = true → s.dev.rst.perst = false → Runs (.hifEnable req) s fun d => d.hifEnable)
  ∧ (∀ (s : State) (req : Fin 10), s.coreRuns → s.dev.domUp 6 = true → s.dev.rst.perst = false → Runs (.hifDisable req) s fun d => d.hifDisable)
  ∧ (∀ (s : State), s.coreRuns → s.dev.cfgUp = true → Runs .functionLevelReset s fun d => d.pcieClear)
  ∧ (∀ (s : State), s.coreRuns → s.dev.pcieOn = true → s.dev.flag F.HIF_STAT_LINKUP = true →
    Runs .linkDown s fun d => ((((d.put F.HIF_STAT_LINKUP 0).put F.HIF_STAT_SPEED 0).put F.HIF_STAT_WIDTH 0).causeOn 14 0 0 2))
  ∧ (∀ (s : State) (req : Fin 10), s.coreRuns → s.dev.domUp 6 = true → s.dev.rst.perst = false → Runs (.hifCntClr req) s fun d => d.hifCntClr)
  ∧ (∀ (s : State) (port : Fin 2) (fmt : CanFmt) (xtd : Bool) (id : Nat) (entry : List Nat), s.coreRuns →
      s.dev.flag (F.CAN_CTL_EN port) = true → s.dev.flag (F.CAN_STAT_BUSOFF port) = false →
    Runs (.canCommandFrame port fmt xtd id entry) s fun d =>
      let x := d.canGood port true
      if decide (fmt = .remote) || !x.canMine port xtd id then x else x.canTake port (decide (fmt = .fd)) entry)
  ∧ (∀ (s : State) (port : Fin 2), s.coreRuns → s.dev.flag (F.CAN_CTL_EN port) = true → s.dev.flag (F.CAN_STAT_BUSOFF port) = false →
    Runs (.canBusoff port) s fun d => d.canOff port)
  ∧ (∀ (s : State) (port : Fin 2), s.coreRuns → s.dev.flag (F.CAN_STAT_BUSOFF port) = true →
    Runs (.canBusoffRecovery port) s fun d => d.canBack port)
  ∧ (∀ (s : State) (port : Fin 2) (present : Bool), s.coreRuns → s.dev.flag (F.CAN_CTL_EN port) = true → s.dev.flag (F.CAN_STAT_ERRPASS port) = !present →
    Runs (.canErrpass port present) s fun d => if present then d.canPassive port else d.canCalm port)
  ∧ (∀ (s : State) (req : Fin 10) (port : Fin 2), s.coreRuns →
    Runs (.canCntClr req port) s fun d => d.wr (R.CAN_CNT port) 0)
  ∧ (∀ (s : State) (req : Fin 10), s.coreRuns →
    Runs (.qmgAlloc req) s fun d => d.qmgAlloc req.val)
  ∧ (∀ (s : State) (req : Fin 10) (cask : Nat), s.coreRuns →
    Runs (.qmgFree req cask) s fun d => d.qmgFree req.val cask)
  ∧ (∀ (s : State) (req : Fin 10) (queue : Nat) (cask : Nat), s.coreRuns →
    Runs (.qmgPush req queue cask) s fun d => d.qmgPush req.val queue cask)
  ∧ (∀ (s : State) (req : Fin 10), s.coreRuns →
    Runs (.qmgPop req) s fun d => d.qmgPop req.val)
  ∧ (∀ (s : State) (req : Fin 10) (owner : Nat), s.coreRuns →
    Runs (.qmgOwnselWrite req owner) s fun d => d.qmgOwnsel req.val owner)
  ∧ (∀ (s : State) (req : Fin 10) (w : Fin 16) (wr : Bool) (data : Nat), s.coreRuns →
    Runs (.qmgCwinAccess req w wr data) s fun d => d.qmgCwin req.val w.val wr data)
  ∧ (∀ (s : State) (req : Fin 10) (data : Nat), s.coreRuns →
    Runs (.qmgQcfgWrite req data) s fun d => d.qmgQcfg req.val data)
  ∧ (∀ (s : State) (req : Fin 10) (owner : Nat), s.coreRuns →
    Runs (.qmgReclaim req owner) s fun d => d.qmgReclaim req.val owner)
  ∧ (∀ (s : State) (req : Fin 10), s.coreRuns →
    Runs (.qmgCntClr req) s fun d => d.wr R.QMG_CNT 0)
  ∧ (∀ (s : State) (req : Fin 10) (mask : Nat), s.coreRuns →
    Runs (.trkTlogClr req mask) s fun d => d.tlogClr mask)
  ∧ (∀ (s : State) (i : Fin 32), s.coreRuns →
    Runs (.adcAngleTrigger i) s fun d => d.amTimed i)
  ∧ (∀ (s : State) (req : Fin 10) (m : Fin 4), s.coreRuns → s.dev.domUp 5 = true →
    Runs (.swtrig req m) s fun d => d.adcPlain m 2)
  ∧ (∀ (s : State) (m : Fin 4), s.coreRuns → s.dev.domUp 5 = true →
    Runs (.adcSequenceStart m) s fun d => d.adcStart m)
  ∧ (∀ (s : State) (m : Fin 4) (value : Nat), s.coreRuns → s.dev.domUp 5 = true → (s.dev.ad m).run.isSome = true →
    Runs (.adcConversionDone m value) s fun d => (d.until (d.ad m).ends).adcDone m value)
  ∧ (∀ (s : State) (req : Fin 10) (j : Fin 64), s.coreRuns →
    Runs (.ainResRead req j) s fun d => d.ainRead req j)
  ∧ (∀ (s : State) (req : Fin 10) (mask : Nat), s.coreRuns → s.dev.domUp 5 = true →
    Runs (.adcCntClr req mask) s fun d => d.adcCntClr mask)
  ∧ (∀ (s : State) (m : Fin 8) (a b i : Bool) (hold : Nat × Nat × Nat) (stamp : Nat), s.coreRuns → s.dev.encMode m = 1 →
    Runs (.encCountChange m (.quad a b i hold stamp)) s fun d =>
      let x := d.advance (stamp + d.get (F.ENC_CFG_FLT m))
      x.encQuad m (x.encLine m 0 a hold.1) (x.encLine m 1 b hold.2.1) (x.encLine m 2 i hold.2.2) stamp)
  ∧ (∀ (s : State) (m : Fin 8) (sine cosine : Int) (stamp : Nat), s.coreRuns → s.dev.encMode m = 2 →
    Runs (.encCountChange m (.sincos sine cosine stamp)) s fun d => (d.advance stamp).encSample m sine cosine stamp)
  ∧ (∀ (s : State) (m : Fin 8), s.coreRuns → s.dev.encMode m = 2 →
    Runs (.ampErr m) s fun d => d.encAmp m)
  ∧ (∀ (s : State) (m : Fin 8) (ab : Nat), s.coreRuns → s.dev.get (F.ENC_STAT_LVL m) % 4 = ab → s.dev.encMode m ≠ 0 →
      s.dev.flag (F.ENC_CFG_IDXEN m) = true → (s.dev.encMode m = 1 → ab = s.dev.get (F.ENC_CFG_IDXAB m)) →
    Runs (.encIndexEdge m) s fun d => (d.put (F.ENC_STAT_LVL m) (ab + 4 * b2n (d.flag (F.ENC_CFG_IPOL m)))).encIdx m d.now)
  ∧ (∀ (s : State) (m : Fin 8) (pair : Fin 3), s.coreRuns → (s.dev.advance (s.dev.now + tickMicro * max 1 (s.dev.get (F.ENC_CFG_WTIME m)))).encMode m ≠ 0 →
      (s.dev.advance (s.dev.now + tickMicro * max 1 (s.dev.get (F.ENC_CFG_WTIME m)))).flag (wireFld m pair) = false →
    Runs (.wire m pair) s fun d0 =>
      let d := d0.advance (d0.now + tickMicro * max 1 (d0.get (F.ENC_CFG_WTIME m)))
      (((d.put (wireFld m pair) 1).incSat (F.ENC_ECNT_WIRE m)).causeOn 5 0 m 2).encError m)
  ∧ (∀ (s : State) (m : Fin 8) (sw : Bool), s.coreRuns →
    Runs (.encLatch m sw) s fun d => d.encLatch m sw)
  ∧ (∀ (s : State) (req : Fin 10) (m : Fin 8), s.coreRuns →
    Runs (.encPosRead req m) s fun d => d.encPosRead req m)
  ∧ (∀ (s : State) (req : Fin 10) (m : Fin 8), s.coreRuns →
    Runs (.encLatCntRead req m) s fun d => d.encLatRead req m)
  ∧ (∀ (s : State) (req : Fin 10) (mask : Nat), s.coreRuns →
    Runs (.encCntClr req mask) s fun d => d.encCntClr mask)
  ∧ (∀ (s : State) (req : Fin 10) (mask : Nat), s.coreRuns →
    Runs (.cmpCntClr req mask) s fun d => d.cmpCntClr mask)
  ∧ (∀ (s : State) (req : Fin 10), s.coreRuns →
    Runs (.ertSwpulse req) s fun d => d.route 141)
  ∧ (∀ (s : State) (i : Fin 32), s.coreRuns →
    Runs (.angleMark i) s fun d => d.amTimed (32 + i.val))
  ∧ (∀ (s : State) (n : Fin 32) (x : Dev), s.coreRuns → s.dev.tmrSeek n (2 ^ 64) = some x → Runs (.tmrMatch n) s fun _ => x)
  ∧ (∀ (s : State) (req : Fin 10) (n : Fin 32) (data : Nat), s.coreRuns →
    Runs (.tmrCmpLoWrite req n data) s fun d => d.setOwn req (R.TMR_CMP_LO n) (BitVec.ofNat 32 data))
  ∧ (∀ (s : State) (req : Fin 10) (n : Fin 32) (data : Nat), s.coreRuns →
    Runs (.tmrCmpHiWrite req n data) s fun d => d.tmrCmpHi req n data)
  ∧ (∀ (s : State) (req : Fin 10) (n : Fin 32) (data : Nat), s.coreRuns →
    Runs (.tmrCntHiWrite req n data) s fun d => d.tmrCntHi req n data)
  ∧ (∀ (s : State) (req : Fin 10) (n : Fin 32) (data : Nat), s.coreRuns →
    Runs (.tmrEnable req n data) s fun d => d.tmrCtlWrite n (Nat.lor data (2 ^ 31)))
  ∧ (∀ (s : State) (req : Fin 10) (n : Fin 32) (data : Nat), s.coreRuns →
    Runs (.tmrDisable req n data) s fun d => d.tmrCtlWrite n (data % 2 ^ 31))
  ∧ (∀ (s : State) (req : Fin 10), s.coreRuns →
    Runs (.go req) s fun d => d.tmrGctl 1)
  ∧ (∀ (s : State) (req : Fin 10), s.coreRuns →
    Runs (.stop req) s fun d => d.tmrGctl 2)
  ∧ (∀ (s : State) (pin : Fin 64) (level : Bool), s.coreRuns → s.dev.abit (R.SYS_GPIO_OE 0) pin = false →
    Runs (.gpioEdge pin level) s fun d => d.gpioBall pin level)
  ∧ (∀ (s : State) (req : Fin 10), s.coreRuns →
    Runs (.tmrCntClr req) s fun d => d.put F.TMR_CNT_WRREF 0)
  ∧ (∀ (s : State) (n : Fin 16), s.coreRuns →
    Runs (.rakReq n) s fun d => d.rakRequest n)
  ∧ (∀ (s : State) (n : Nat) (r : List Nat), s.coreRuns → s.dev.rak.running = none → s.dev.rak.queue = n :: r →
    Runs .rakTransferStart s fun d => (d.rakWait n).rakBegin)
  ∧ (∀ (s : State) (host : List Nat) (fail : Option Nat) (n : Nat), s.coreRuns → s.dev.rak.running = some n →
    Runs (.rakTransferEnd host fail) s fun d => (d.rakAwait n).rakMove n host fail (d.rakLeft n))
  ∧ (∀ (s : State) (req : Fin 10) (n : Fin 16), s.coreRuns → s.dev.flag (F.RK_CTL_EN n) = true →
    Runs (.rakDisable req n) s fun d => d.rakCatch.rakDisable n)
  ∧ (∀ (s : State) (req : Fin 10) (mask : Nat), s.coreRuns →
    Runs (.rakCntClr req mask) s fun d => d.rakCntClr mask)
  ∧ (∀ (s : State) (src : Fin 1024) (t : Nat) (c : Nat × Nat), s.coreRuns → s.dev.get (F.ICU_SRC_COALT src) = t →
      smGet s.dev.icu.coal (0, 0) src = c → t ≠ 0 → c.1 ≠ 0 →
    Runs (.icuCoalesceTimeout src) s fun d => (d.until (c.2 + 400 * 2 ^ t)).icuSetPend src)
  ∧ (∀ (s : State) (req : Fin 10) (w : Fin 32) (data : Nat), s.coreRuns →
    Runs (.icuPendWrite req w data) s fun d => d.icuPendWrite w data)
  ∧ (∀ (s : State) (req : Fin 10) (src : Fin 1024) (data : Nat), s.coreRuns →
    Runs (.icuSrcWrite req src data) s fun d => d.icuSrcWrite src data)
  ∧ (∀ (s : State) (req : Fin 10) (tgt : Fin 5), s.coreRuns →
    Runs (.icuClaim req tgt) s fun d => d.icuClaim req tgt)
  ∧ (∀ (s : State) (req : Fin 10) (tgt : Fin 5) (src : Nat), s.coreRuns →
    Runs (.icuComplete req tgt src) s fun d => d.icuComplete tgt src)
  ∧ (∀ (s : State) (req : Fin 10), s.coreRuns →
    Runs (.aclrAll req) s fun d => d.icuAclr (2 ^ 31 + d.get F.ICU_ACLR_SRC))
  ∧ (∀ (s : State) (req : Fin 10) (src : Fin 1024), s.coreRuns →
    Runs (.aclrOne req src) s fun d => d.icuAclr (2 ^ 30 + src))
  ∧ (∀ (s : State) (req : Fin 10), s.coreRuns →
    Runs (.icuCntClr req) s fun d => d.wr R.ICU_CNT 0)
  ∧ (∀ (s : State) (off : Nat), s.busRuns 9 → s.busDev.jlocked = false →
    Runs (.dbgaccRead off) s fun d => d.rakCatch.dbgacc 1 off 0 (fun x => x.busRead 9 off))
  ∧ (∀ (s : State) (off : Nat) (data : Nat), s.busRuns 9 → s.busDev.jlocked = false →
    Runs (.dbgaccWrite off data) s fun d => d.rakCatch.dbgacc 2 off data (fun x => x.busWrite 9 off data))
  ∧ (∀ (s : State) (off : Nat) (data : Nat), s.busRuns 9 → s.busDev.jlocked = false →
    Runs (.dbgaccCorkedWrite off data) s fun d => d.rakCatch.dbgacc 3 off data (fun x => (x.busWrite 9 off data).fabCycle.busWrite 9 (off + 4) (2 ^ 32 - 1 - data % 2 ^ 32)))
  ∧ (∀ (s : State) (req : Fin 10) (off : Nat) (data : Nat) (c a b : Nat), s.busRuns req → placeOf (off % 2 ^ 25) = .reg c → s.busDev.inReset c = false → off % 4 = 0 →
      s.busDev.isOff c = false → fltBlk c = none → corkBlk c = none → corkOf c = some a → corkBlk a = some b →
    Runs (.complementWordWrite req off data) s fun d => d.rakCatch.corkCompl b a req (data % 2 ^ 32))
  ∧ (∀ (s : State) (n : Fin 16), s.coreRuns → s.dev.lgOn n = true →
    Runs (.hop0LockGained n) s fun d => (d.put (F.TLK_STAT_LOCK n) 1).autoDiscover n 0)
  ∧ (∀ (s : State) (n : Fin 16) (p : Fin 4) (up : Bool) (skew : Int), s.coreRuns → s.dev.mirrors n p up = true →
    Runs (.spareTrained n p up skew) s fun d => ((d.laneOk n p up).setSkew n p up skew).setTrained n p d.mySide up true)
  ∧ (∀ (s : State) (lane : Fin 2) (f : Fld), s.coreRuns → f = (if lane = 0 then F.MIR_STAT_LOCK0 else F.MIR_STAT_LOCK1) →
      s.dev.flag f = false →
    Runs (.mirRxLaneLock lane true) s fun d =>
      let x := d.putB f true
      if x.flag F.MIR_STAT_LOCK0 && x.flag F.MIR_STAT_LOCK1 then x.causeOff 22 7 0 else x)
  ∧ (∀ (s : State) (lane : Fin 2) (f : Fld), s.coreRuns → f = (if lane = 0 then F.MIR_STAT_LOCK0 else F.MIR_STAT_LOCK1) →
      s.dev.flag f = true →
    Runs (.mirRxLaneLock lane false) s fun d => ((d.putB f false).incSat F.MIR_CNT2_LANEF).causeOn 22 7 0 1)
  ∧ (∀ (s : State) (speed : Fin 4) (width : Nat), s.coreRuns → s.dev.domState 6 = 2 → s.dev.rst.perst = false → speed.val ≠ 0 →
      (width = 1 ∨ width = 2 ∨ width = 4) →
    Runs (.pcieLinkUp speed width) s fun d => ((((d.put F.HIF_STAT_LINKUP 1).put F.HIF_STAT_SPEED speed).put F.HIF_STAT_WIDTH width).causeOff 14 0 0).msixSweep)
  ∧ (∀ (s : State) (m : Fin 8) (pair : Fin 3), s.coreRuns →
    Runs (.encWireHealthy m pair) s fun d =>
    let d1 := d.put (wireFld m pair) 0
    if d1.get ⟨R.ENC_STAT m, 30, 28⟩ = 0 then d1.causeOff 5 0 m else d1)
  ∧ ∀ (s : State) (m : Fin 8), s.coreRuns →
    Runs (.encAmpRecovery m) s fun d => d.encAmpOk m

/-- For every state in which no cork is overdue and, where the command's domain has a reset, that reset is released
(SYSTEM reset, VBAT reset), and for all operands, each command outside the core domain answers a next state: the state
it stands in with the device that the operation of its clause gives, a cork overdue by then refused (R62). A clause
has no further condition, or it names the condition on the state and the operands under which its rules give the
command this effect; for a reliable frame at a tile that the tile takes it (Dev.tileTakes: the ports before it are
open, its state takes the frame, and its SEQ is new). Operations are those of the model. -/
def Obligations.other_domain_commands_complete : Prop :=
  (∀ (s : State) (req : Fin 10), s.celRuns →
    Runs (.celIdataRead req) s fun d => d.celRead req.val)
  ∧ (∀ (s : State) (req : Fin 10) (data : Nat), s.celRuns →
    Runs (.celIdataWrite req data) s fun d => d.celStart (.write (BitVec.ofNat 32 data)))
  ∧ (∀ (s : State), s.celRuns → s.dev.cflag F.CEL_STAT_SLOWOK = true →
    Runs .celAccessDone s fun d => d.celDone)
  ∧ (∀ (s : State), s.celRuns → s.dev.cflag F.CEL_STAT_SLOWOK = true →
    Runs .fastCopyRefresh s fun d => d.fastCopy)
  ∧ (∀ (s : State), s.celRuns →
    Runs .slowStart s fun d => (d.cput F.CEL_STAT_SLOWOK 1).causeOff 3 1 0)
  ∧ (∀ (s : State), s.celRuns →
    Runs .slowStop s fun d => (d.cput F.CEL_STAT_SLOWOK 0).causeOn 3 1 0 2)
  ∧ (∀ (s : State) (pcie : Bool), s.dev.corksFresh → s.dev.rst.sys = false →
    Runs (.refLost pcie) s fun d => d.refLost pcie)
  ∧ (∀ (s : State) (pcie : Bool), s.dev.corksFresh → s.dev.rst.sys = true →
    Runs (.refLost pcie) s fun d => d.putB (if pcie then F.CLK_STAT_PGOOD else F.CLK_STAT_XGOOD) false)
  ∧ (∀ (s : State) (pcie : Bool), s.dev.corksFresh → s.dev.rst.sys = false →
    Runs (.refGood pcie) s fun d => d.refBack pcie)
  ∧ (∀ (s : State) (pcie : Bool), s.dev.corksFresh → s.dev.rst.sys = true →
    Runs (.refGood pcie) s fun d => d.putB (if pcie then F.CLK_STAT_PGOOD else F.CLK_STAT_XGOOD) true)
  ∧ (∀ (s : State), s.sysRuns →
    Runs .relockComplete s Dev.relocked)
  ∧ (∀ (s : State), s.sysRuns → s.dev.clkState = 3 →
    Runs .holdoffExpiry s fun d => (d.until d.holdoffEnd).clkSwitch 4)
  ∧ (∀ (s : State) (req : Fin 10) (ref : Fin 4), s.sysRuns →
    Runs (.clkRefSwitch req ref) s fun d => d.refSwitch ref.val)
  ∧ (∀ (s : State) (p : Fin 2), s.sysRuns →
    Runs (.pllUnlock p) s fun d => d.pllUnlock p)
  ∧ (∀ (s : State) (req : Fin 10), s.sysRuns →
    Runs (.clkCntClr req) s Dev.clkCntClr)
  ∧ (∀ (s : State) (t : Fin 64) (side : Bool) (seq : Nat) (handle : Nat) (vint : Nat) (rev : Bool) (pulses : List PulseEntry), s.dev.corksFresh →
      s.dev.tileTakes t side seq 3 →
    Runs (.commit t side .good seq handle vint rev pulses) s fun d =>
      Dev.tileEnd t side seq (d.commitApply t side handle pulses))
  ∧ (∀ (s : State) (t : Fin 64) (side : Bool) (seq : Nat) (handle : Nat) (vint : Nat) (rev : Bool) (pulses : List PulseEntry), s.dev.corksFresh →
      s.dev.passes t side = true →
    Runs (.commit t side .reserved seq handle vint rev pulses) s fun d => d.treserved t side)
  ∧ (∀ (s : State) (t : Fin 64) (side : Bool) (seq : Nat) (handle : Nat) (aver : Nat) (pmask : Nat) (times : List (Nat × Nat)), s.dev.corksFresh →
      s.dev.tileTakes t side seq 3 →
    Runs (.amend t side true seq handle aver pmask times) s fun d =>
      Dev.tileEnd t side seq (
      if !d.handleHeld t side handle then (d, 6, 0)
      else if !averNewer aver (smGet (d.ts t side).avers 0 handle) then (d, 9, 0)
      else
        let d1 := d.upTs t side (fun x => { x with avers := smSet x.avers 0 handle aver })
        let r := ((maskBits pmask).zip times).foldl (fun (a : Dev × Nat) e =>
          let q := a.1.amendPulse t side handle e.1 e.2
          (q.1, if q.2 then a.2 + 2 ^ e.1 else a.2)) (d1, 0)
        (r.1, if r.2 = 0 then 0 else 7, r.2)))
  ∧ (∀ (s : State) (t : Fin 64) (side : Bool) (seq : Nat) (handle : Nat) (pmask : Nat), s.dev.corksFresh →
      s.dev.tileTakes t side seq 3 →
    Runs (.cancel t side true seq handle pmask) s fun d =>
      Dev.tileEnd t side seq (
      if !d.handleHeld t side handle then (d, 6, 0)
      else
        let now := d.tlu t side
        let hit := fun (p : TPulse) => p.handle == handle && bitOf pmask p.pidx && decide (now + 64 ≤ p.start)
        let gone := (d.ts t side).pulses.filter hit
        let late := (maskBits pmask).foldl (fun a i =>
          if gone.any (fun p => p.pidx == i) || !((d.ts t side).pulses ++ d.driven t side).any (fun p => p.handle == handle && p.pidx == i) then a
          else a + 2 ^ i) 0
        (d.upTs t side (fun x => { x with pulses := x.pulses.filter (fun p => !hit p) }), if late = 0 then 0 else 8, late)))
  ∧ (∀ (s : State) (t : Fin 64) (side : Bool) (stamp : Nat), s.dev.corksFresh → s.dev.passes t side = true → 2 ≤ (s.dev.ts t side).st →
    Runs (.time t side true stamp) s fun d =>
      let terr : Int := 192 * stamp + d.tget t side F.TILE_DLY_DLY - (192 * d.now + (d.ts t side).off)
      let big := decide (384 < terr.natAbs)
      let adj := if big then terr else clampI (-24) 24 terr
      let d1 := d.upTs t side (fun x => { x with off := x.off + adj, tstep := x.tstep || big, fresh := true })
      (d1.tup t side 0x14 (d1.statusWords t side terr)).upTs t side (fun x => { x with tstep := false, wdrop := 0, cv0 := 0, cv1 := 0 }))
  ∧ (∀ (s : State) (t : Fin 64) (side : Bool) (seq : Nat) (stamp : Nat) (stepc : Bool) (dly : Nat), s.dev.corksFresh →
      s.dev.tileTakes t side seq 1 →
    Runs (.timeset t side true seq stamp stepc dly) s fun d =>
      Dev.tileEnd t side seq (
      let d1 := d.tput t side F.TILE_DLY_DLY dly
      (if stepc then d1.upTs t side (fun x => { x with off := 192 * stamp + (dly % 2 ^ 24 : Nat) - 192 * d.now, st := max x.st 2 }) else d1, 0, 0)))
  ∧ (∀ (s : State) (t : Fin 64) (side : Bool) (etag : Nat) (tt : Nat), s.dev.corksFresh → s.dev.passes t side = true →
      1 ≤ (s.dev.ts t side).st →
    Runs (.echoReq t side true etag tt) s fun d =>
      d.tup t side 0x12 [etag % 65536, tt % 2 ^ 24, 0])
  ∧ (∀ (s : State) (t : Fin 64) (side : Bool) (proto : Nat) (dside : Bool) (pos : Fin 4), s.dev.corksFresh →
      s.dev.passes t side = true →
    Runs (.discover t side true proto dside pos) s fun d => d.discoverAt side dside pos 4 t)
  ∧ (∀ (s : State) (t : Fin 64) (side : Bool) (seq : Nat) (addr : Nat) (data : Nat), s.dev.corksFresh → s.dev.tileTakes t side seq 1 →
    Runs (.regwr t side true seq addr data) s fun d =>
      Dev.tileEnd t side seq (match d.tileWrite t side (addr % 65536) data with | (x, r) => (x, r, 0)))
  ∧ (∀ (s : State) (t : Fin 64) (side : Bool) (addr : Nat), s.dev.corksFresh → s.dev.passes t side = true → 1 ≤ (s.dev.ts t side).st →
    Runs (.regrd t side true addr) s fun d =>
      let r := d.tileRead t side (addr % 65536)
      d.tup t side 0x17 [r.1 * 2 ^ 16 + addr % 65536, r.2])
  ∧ (∀ (s : State) (t : Fin 64) (side : Bool) (seq : Nat) (prf : Fin 256) (words : List Nat), s.dev.corksFresh →
      s.dev.tileTakes t side seq 2 →
    Runs (.prfset t side true seq prf words) s fun d =>
      Dev.tileEnd t side seq ((d.upTs t side (fun x => { x with profs := smSet x.profs [] prf words }), 0, 0)))
  ∧ (∀ (s : State) (t : Fin 64) (side : Bool) (seq : Nat) (w1 : Nat) (w2 : Nat), s.dev.corksFresh → s.dev.tileTakes t side seq 2 →
    Runs (.pwr t side true seq w1 w2) s fun d =>
      Dev.tileEnd t side seq (
      if w1 % 2 ^ 32 + w2 % 2 ^ 32 ≠ 2 ^ 32 - 1 then (d, 10, 0)
      else if bitOf w1 0 then (d.upTs t side (fun x => { x with st := 3 }), 0, 0)
      else if (d.ts t side).st = 3 then (d.sidePwrOff t side, 0, 0) else (d, 0, 0)))
  ∧ (∀ (s : State) (t : Fin 64) (side : Bool) (seq : Nat) (beyond : Bool), s.dev.corksFresh → s.dev.passes t side = true →
    Runs (.ctlReset t side true seq beyond) s fun d => forN 4 (fun (x : Dev) q => if q == t.val % 4 || (beyond && decide (t.val % 4 < q) && d.passes (t.val / 4 * 4 + q) side) then x.sideReset (t.val / 4 * 4 + q) side else x) d)
  ∧ (∀ (s : State) (t : Fin 64) (side : Bool) (seq : Nat), s.dev.corksFresh → s.dev.tileTakes t side seq 1 →
    Runs (.ctlDsopen t side true seq) s fun d =>
      Dev.tileEnd t side seq (d.dsPort t side (fun x => { x with dsopen := true }), 0, 0))
  ∧ (∀ (s : State) (t : Fin 64) (side : Bool) (seq : Nat), s.dev.corksFresh → s.dev.tileTakes t side seq 1 →
    Runs (.ctlDsclose t side true seq) s fun d =>
      Dev.tileEnd t side seq (d.dsPort t side (fun x => { x with dsopen := false }), 0, 0))
  ∧ (∀ (s : State) (t : Fin 64) (side : Bool) (seq : Nat), s.dev.corksFresh → s.dev.tileTakes t side seq 1 →
    Runs (.ctlSwapDn t side true seq) s fun d =>
      Dev.tileEnd t side seq (d.swapDn t side, 0, 0))
  ∧ (∀ (s : State) (t : Fin 64) (side : Bool) (seq : Nat), s.dev.corksFresh → s.dev.tileTakes t side seq 1 →
    Runs (.ctlSwapUp t side true seq) s fun d =>
      Dev.tileEnd t side seq (d.swapUp t side, 0, 0))
  ∧ (∀ (s : State) (t : Fin 64) (side : Bool) (seq : Nat) (on : Bool), s.dev.corksFresh → s.dev.tileTakes t side seq 1 →
    Runs (.ctlMirror t side true seq on) s fun d =>
      Dev.tileEnd t side seq (
      let d1 := d.setMirror t side on
      (if on then d1 else d1.unmirror t side, 0, 0)))
  ∧ (∀ (s : State) (t : Fin 64) (side : Bool), s.dev.corksFresh →
    Runs (.tileUpstreamLockLoss t side) s fun d => (d.sideLoss t side).dsPort t side (fun x => { x with locked := false }))
  ∧ (∀ (s : State) (t : Fin 64) (side : Bool), s.dev.corksFresh → 2 ≤ (s.dev.ts t side).st →
    Runs (.tileLinkWdog t side) s fun d => d.sideLoss t side)
  ∧ (∀ (s : State) (t : Fin 64), s.dev.corksFresh →
    Runs (.tilePowerOn t) s fun d => d.setTle t { tile0 with vrefAt := d.now, quiet := d.now })
  ∧ (∀ (s : State) (t : Fin 64) (side : Bool), s.dev.corksFresh →
    Runs (.dsLost t side) s fun d => (d.upTs t side (fun x => { x with dsPres := false })).tdiag t side true 0 0x01 0)
  ∧ (∀ (s : State) (t : Fin 64) (side : Bool), s.dev.corksFresh →
    Runs (.dsPres t side) s fun d => d.upTs t side (fun x => { x with dsPres := true }))
  ∧ (∀ (s : State) (t : Fin 64) (side : Bool), s.dev.corksFresh →
    Runs (.waveDrop t side) s fun d =>
    match (d.upRun t side).ts t side |>.lane.wave with
    | none => d.upRun t side
    | some i =>
      let d1 := ((d.upRun t side).advance (((i.at_ + 60000) / 6 : Nat) - d.fabOff).toNat).upRun t side
      if (d1.ts t side).lane.wait.contains i then
        d1.upTs t side (fun x => { x with up := if i.own then x.up.erase i.frame else x.up, lane := { x.lane with wait := x.lane.wait.erase i }, wdrop := min 255 (x.wdrop + 1) })
      else d1)
  ∧ (∀ (s : State) (t : Fin 64) (side : Bool) (handle : Nat) (pidx : Fin 8) (p : TPulse), s.dev.corksFresh →
      (s.dev.ts t side).pulses.find? (fun p => p.handle == handle && p.pidx == pidx.val) = some p →
      (s.dev.tle t).lease = some side → (s.dev.ts t side).st = 3 →
    Runs (.tilePulseStart t side handle pidx) s fun d => d.pulseStart t side p)
  ∧ (∀ (s : State) (t : Fin 64) (out : Fin 8) (cur : Nat) (v : Drive), s.dev.corksFresh → (s.dev.to t out).drv = some v →
    Runs (.tilePhaseAdvance t out cur) s fun d => d.phaseNext t out (v.see cur) cur)
  ∧ (∀ (s : State) (t : Fin 64) (out : Fin 8) (cur : Nat) (v : Drive), s.dev.corksFresh → (s.dev.to t out).drv = some v →
    Runs (.tileChopSwitch t out cur) s fun d => d.upDrv t out ((v.see cur).chop (d.tlu t v.side) cur))
  ∧ (∀ (s : State) (t : Fin 64) (out : Fin 8) (v : Drive), s.dev.corksFresh → (s.dev.to t out).drv = some v → v.phase ≠ .off →
    Runs (.electricalEnd t out) s fun d => (d.reachLu t v.side v.p.stop).drvEnd t out v (max v.p.stop (d.tlu t v.side)) 0 v.status)
  ∧ (∀ (s : State) (t : Fin 64) (out : Fin 8) (w : CWin), s.dev.corksFresh → (s.dev.to t out).win = some w →
    Runs (.closingWindowEnd t out) s fun d => (d.reachLu t w.side w.stop).winEnd t out w.stop)
  ∧ (∀ (s : State) (t : Fin 64) (out : Fin 8) (cur : Nat) (v : Drive), s.dev.corksFresh → (s.dev.to t out).drv = some v →
      v.phase ≠ .off → v.judged = false → v.start + 12800 ≤ v.p.stop →
    Runs (.openOnCheck t out cur) s fun d =>
      let x := (d.reachLu t v.side (v.start + 12800)).upDrv t out { v.see cur with judged := true }
      if cur < v.p.fld 5 27 16 then x.causeCome t out 0x18 cur else x.causeGone t out 0x18 cur)
  ∧ (∀ (s : State) (t : Fin 64) (out : Fin 8) (cur : Nat) (v : Drive), s.dev.corksFresh → (s.dev.to t out).drv = some v →
      v.phase ≠ .off → v.p.fld 5 11 0 ≤ cur →
    Runs (.overcurrentTrip t out cur) s fun d => (d.drvEnd t out (v.see cur) (d.tlu t v.side) cur 5).causeCome t out 0x19 (v.see cur).ipk)
  ∧ (∀ (s : State) (t : Fin 64) (data : Nat) (rail : Nat), s.dev.corksFresh →
    Runs (.boostSetWrite t data rail) s fun d => d.boostSet t data rail)
  ∧ (∀ (s : State) (t : Fin 64) (data : Nat), s.dev.corksFresh →
    Runs (.boostCtlWrite t data) s fun d => (d.boostCtlSet t data).1)
  ∧ (∀ (s : State) (t : Fin 64) (rail : Nat) (supply : Nat), s.dev.corksFresh → rail ≤ supply + 40 → s.dev.boostEn t = true →
      (s.dev.tle t).stopped = false →
    Runs (.boostFault t rail (.low supply)) s fun d => ((d.upTle t (fun x => { x with rail := rail })).boostStop t).boostJudge t)
  ∧ (∀ (s : State) (t : Fin 64) (rail : Nat), s.dev.corksFresh →
    Runs (.boostNrdy t rail) s fun d => (d.upTle t (fun x => { x with rail := rail })).boostJudge t)
  ∧ (∀ (s : State) (t : Fin 64) (mask : Nat), s.dev.corksFresh →
    Runs (.offtReq t mask) s fun d => d.offtReq t mask)
  ∧ (∀ (s : State) (t : Fin 64) (out : Fin 8), s.dev.corksFresh → (s.dev.to t out).offPend = true → (s.dev.to t out).drv = none →
      (s.dev.to t out).win = none → (s.dev.to t out).quiet + 4000 ≤ (s.dev.now : Int) → s.dev.offClear t false out = true →
      s.dev.offClear t true out = true → (s.dev.tle t).inhl = false →
    Runs (.offstateTestStart t out) s fun d => d.upTo t out (fun o => { o with offPend := false, offRun := some d.now }))
  ∧ (∀ (s : State) (t : Fin 64) (out : Fin 8) (von : Nat) (voff : Nat) (vsup : Nat) (at_ : Int), s.dev.corksFresh →
      (s.dev.to t out).offRun = some at_ →
    Runs (.offstateTestEnd t out von voff vsup) s fun d =>
      let x := (d.advance (at_ + 40000).toNat).upTo t out (fun o => { o with offRun := none })
      let y := if 80 < von then x.causeCome t out 0x1C von else x.causeGone t out 0x1C von
      let z := if von < 4 then y.causeCome t out 0x1D von else y.causeGone t out 0x1D von
      if vsup < voff + 20 then z.causeCome t out 0x1E voff else z.causeGone t out 0x1E voff)
  ∧ (∀ (s : State) (t : Fin 64), s.dev.corksFresh → (s.dev.tle t).inhl = false →
    Runs (.inhibitInput t) s fun d => ((forN 8 (fun (x : Dev) j => x.upTo t j (fun o => { o with offPend := false, offRun := none })) (d.upTle t (fun x => { x with inhp := true, inhl := true }))).cutDrives t 4 (fun _ => true)).tdiag2 t true 0 0x20 1)
  ∧ (∀ (s : State) (t : Fin 64), s.dev.corksFresh →
    Runs (.inhRearm t) s fun d => d.inhRearm t)
  ∧ (∀ (s : State) (t : Fin 64), s.dev.corksFresh → (s.dev.tle t).lease = none → s.dev.tEligible t false = true →
    Runs (.leaseGrant t) s fun d => d.leaseGain t false 0)
  ∧ (∀ (s : State) (t : Fin 64), s.dev.corksFresh → (s.dev.tle t).lease = none → s.dev.tEligible t false = false →
      s.dev.tEligible t true = true →
    Runs (.leaseGrant t) s fun d => d.leaseGain t true 0)
  ∧ (∀ (s : State) (t : Fin 64) (sd : Bool) (r : Nat), s.dev.corksFresh → (s.dev.tle t).lease = some sd →
      r = (if (s.dev.ts t sd).st < 3 then 1 else if s.dev.tget t sd F.TILE_DUP_ELIG = 0 then 2 else 0) →
    Runs (.leaseLapse t) s fun d =>
      let x := (if r = 0 then d.upTs t sd (fun s => { s with fresh := false }) else d).leaseLose t sd r
      if x.tEligible t (!sd) then x.leaseGain t (!sd) 1 else x.cutDrives t 7 (fun _ => true))
  ∧ (∀ (s : State) (t : Fin 64) (side : Bool) (data : Nat), s.dev.corksFresh →
    Runs (.dupAtWrite t side data) s fun d => (d.dupAt t side data).1)
  ∧ (∀ (s : State) (t : Fin 64) (sd : Bool) (at_ : Int), s.dev.corksFresh → (s.dev.tle t).lease = some sd →
      (s.dev.ts t sd).yieldAt = some at_ →
    Runs (.yieldDue t) s fun d =>
      let x := d.reachTick t sd at_
      if x.tEligible t (!sd) then (x.leaseLose t sd 3).leaseGain t (!sd) 2 else (x.upTs t sd (fun s => { s with yieldAt := none })).tdiag2 t true 0 0x0B 0)
  ∧ (∀ (s : State) (t : Fin 64) (side : Bool) (handle : Nat) (pidx : Fin 8) (p : TPulse), s.dev.corksFresh →
      (s.dev.ts t side).pulses.find? (fun p => p.handle == handle && p.pidx == pidx.val) = some p →
      (s.dev.tle t).lease ≠ some side →
    Runs (.shadowUnmatched t side handle pidx) s fun d => (((d.reachLu t side (p.start + 16)).upTs t side (fun s => s.drop p)).mismatch t p.out 0x7FFF).tdone t side p 8 p.start p.start 0 0)
  ∧ (∀ (s : State) (t : Fin 64) (side : Bool), s.dev.corksFresh →
    Runs (.tileDupcntClr t side) s fun d => d.twr t side R.TILE_DUPCNT 0)
  ∧ (∀ (s : State) (t : Fin 64) (side : Bool), s.dev.corksFresh →
    Runs (.tileCntClr t side) s fun d => d.twr t side R.TILE_CNT 0)
  ∧ (∀ (s : State) (m : Fin 8) (mv : Nat), s.celRuns →
    Runs (.cmpEvent m mv) s fun d => d.cmpInput m mv)
  ∧ (∀ (s : State), s.dev.corksFresh →
    Runs .vbatReset s Dev.vbatDown)
  ∧ (∀ (s : State), s.dev.corksFresh → s.dev.rst.vbat = true →
    Runs .vbatRelease s fun d => ({ d with rst := { d.rst with vbat := false } } : Dev).cellarCause 1)
  ∧ (∀ (s : State), s.celRuns →
    Runs .resetN s fun d => d.sysDown (some 2))
  ∧ (∀ (s : State), s.celRuns →
    Runs .brownout s fun d => d.sysDown (some 4))
  ∧ (∀ (s : State), s.dev.corksFresh →
    Runs .perstN s fun d => { d.pcieReset with rst := { d.rst with perst := true } })
  ∧ (∀ (s : State) (tmode : Fin 4) (good : Bool), s.celRuns →
      good = (if s.dev.flag F.CLK_REF_CFG_PREF then s.dev.flag F.CLK_STAT_PGOOD else s.dev.flag F.CLK_STAT_XGOOD) →
      s.dev.rst.sys = true → s.dev.mgs.pllHold = false → s.dev.cflag F.CEL_STAT_COREEN = true →
      (s.dev.flag F.CLK_STAT_PGOOD || s.dev.flag F.CLK_STAT_XGOOD) = true →
    Runs (.systemResetRelease tmode) s fun d => ((({ d with rst := { d.rst with sys := false } } : Dev).put F.CLK_STAT_STATE (if good then 0 else 2)).put F.DBG_STAT_TMODE (if tmode.val = 1 then 1 else 0)))
  ∧ (∀ (s : State), s.sysRuns → s.dev.mgs.running = false → s.dev.boardTest = false →
    Runs .boot s fun d =>
      let x := d.pllBoot.mgBoot.bankCheck.bist.coreUp.imgBoot
      { x with mgs := { x.mgs with running := true, bootAt := x.fab } })
  ∧ (∀ (s : State) (req : Fin 10), s.sysRuns →
    Runs (.corerst req) s fun d => d.coreRst req.val)
  ∧ (∀ (s : State) (req : Fin 10), s.sysRuns →
    Runs (.confirm req) s fun d => d.confirm req.val true)
  ∧ (∀ (s : State), s.sysRuns → s.dev.flag F.MGS_STAT_TRIAL = true →
    Runs .trialTimeout s fun d => (d.until (d.mgs.bootAt + 10 * 400000000)).sysDown none)
  ∧ (∀ (s : State) (req : Fin 10) (bank : Bool), s.sysRuns →
    Runs (.mgsBankSw req bank) s fun d => d.bankSw bank)
  ∧ (∀ (s : State) (req : Fin 10), s.sysRuns →
    Runs (.kick req) s fun d => d.kick req.val)
  ∧ (∀ (s : State), s.sysRuns →
    Runs .wdogExpiry s fun d => (d.until d.wdogEnd).sysDown (some 3))
  ∧ (∀ (s : State) (temps : List Int), s.sysRuns →
    Runs (.tempSample temps) s fun d => (forN 8 (fun x k => x.tempOne k (tempList temps k)) d).thermal temps)
  ∧ (∀ (s : State) (v : Fin 24) (mv : Nat), s.sysRuns →
    Runs (.voltSample v mv) s fun d => let d1 := d.voltOne v mv; if v.val = 18 then d1.vbatLow mv else d1)
  ∧ (∀ (s : State) (degr : List Int), s.sysRuns →
    Runs (.agingMeasure degr) s fun d => forN 35 (fun x a => x.agingOne a (tempList degr a)) d)
  ∧ (∀ (s : State) (sector : Fin 1024) (ue : Bool), s.sysRuns →
    Runs (.mramEccError sector ue) s fun d => d.mramError sector ue)
  ∧ (∀ (s : State) (row : Fin 4096) (ue : Bool) (word : Nat), s.sysRuns →
    Runs (.caskEccError row ue word) s fun d => d.caskError row ue word)
  ∧ (∀ (s : State) (req : Fin 10) (unit : Nat), s.sysRuns →
    Runs (.spareSwapPe req unit) s fun d => d.spareSwap 1 unit)
  ∧ (∀ (s : State) (req : Fin 10) (unit : Nat), s.sysRuns →
    Runs (.spareSwapCaskRow req unit) s fun d => d.spareSwap 2 unit)
  ∧ (∀ (s : State) (req : Fin 10) (unit : Nat), s.sysRuns →
    Runs (.spareSwapPll req unit) s fun d => d.spareSwap 3 unit)
  ∧ (∀ (s : State) (req : Fin 10) (unit : Nat), s.sysRuns →
    Runs (.spareSwapMramSector req unit) s fun d => d.spareSwap 4 unit)
  ∧ (∀ (s : State) (req : Fin 10) (dom : Fin 8), s.sysRuns →
    Runs (.pwrDomUp req dom) s fun d => d.domCork dom.val true)
  ∧ (∀ (s : State) (dom : Fin 8) (up : Bool), s.sysRuns →
    Runs (.domRampDone dom up) s fun d => d.rampDone dom.val up)
  ∧ (∀ (s : State) (req : Fin 10) (dom : Fin 8), s.sysRuns →
    Runs (.pwrDomDrain req dom) s fun d => d.domCork dom.val false)
  ∧ (∀ (s : State) (dom : Fin 8), s.sysRuns → s.dev.domState dom = 3 → Runs (.drainEnd dom) s fun d => (d.drainWait dom).rakCatch.drainEnd dom)
  ∧ (∀ (s : State) (req : Fin 10), s.sysRuns →
    Runs (.pwrSleep req) s fun d => d.rakCatch.sleepReq req.val)
  ∧ (∀ (s : State), s.celRuns → s.dev.cflag F.CEL_STAT_SLOWOK = true →
    Runs .wakePin s fun d => d.wakeSrc 16)
  ∧ (∀ (s : State) (n : Nat), s.celRuns → s.dev.cget F.CEL_WTIMER_N = n → s.dev.cflag F.CEL_STAT_SLOWOK = true → n ≠ 0 →
      s.dev.cget F.CEL_STAT_PSTATE = 2 →
    Runs .wakeTimerExpiry s fun d => ({ d with clr := { d.clr with low := max d.clr.low n } } : Dev).wakeSrc 17)
  ∧ (∀ (s : State) (w : Fin 2) (level : Bool), s.celRuns →
    Runs (.movementWatchSample w level) s fun d => d.mwSample w level)
  ∧ (∀ (s : State), s.celRuns → s.dev.cget F.CEL_STAT_PSTATE = 2 → s.dev.clr.held ≠ 0 →
    Runs .wake s fun d => d.wakeUp)
  ∧ (∀ (s : State) (req : Fin 10), s.celRuns →
    Runs (.celRstcauseClr req) s Dev.rstCauseClr)
  ∧ (∀ (s : State) (req : Fin 10), s.celRuns →
    Runs (.celMwstatClr req) s Dev.mwStatClr)
  ∧ (∀ (s : State) (req : Fin 10), s.sysRuns →
    Runs (.pwrCntClr req) s Dev.pwrCntClr)
  ∧ (∀ (s : State), s.dev.corksFresh →
    Runs .tapReset s fun d => d.tapIr irIdcode)
  ∧ (∀ (s : State), s.dev.corksFresh →
    Runs .idcode s fun d => (d.tapIr irIdcode).ret 9 0x0951256F)
  ∧ (∀ (s : State), s.dev.corksFresh →
    Runs .samplePreload s fun d => (d.tapIr 0x02).bsrUpdate)
  ∧ (∀ (s : State), s.dev.corksFresh →
    Runs .extest s fun d => d.tapScan 0x03)
  ∧ (∀ (s : State), s.dev.corksFresh →
    Runs .clamp s fun d => d.tapBoard 0x04)
  ∧ (∀ (s : State), s.dev.corksFresh →
    Runs .highz s fun d => d.tapBoard 0x05)
  ∧ (∀ (s : State), s.dev.corksFresh →
    Runs .extestPulse s fun d => d.tapScan 0x06)
  ∧ (∀ (s : State), s.dev.corksFresh →
    Runs .extestTrain s fun d => d.tapScan 0x07)
  ∧ (∀ (s : State), s.dev.corksFresh → s.dev.jlocked = false →
    Runs .dtmcs s fun d => (d.tapIr 0x10).ret 9 (Config.dmiWord 0).toNat)
  ∧ (∀ (s : State), s.dev.corksFresh → s.dev.jlocked = true →
    Runs .dtmcs s fun d => d.tapIr irBypass)
  ∧ (∀ (s : State), s.dev.corksFresh →
    Runs .dmi s fun d => let d1 := d.tapIr 0x11; if d.jlocked then d1.ret 9 2 else let r := d1.drawFree; r.2.ret 9 (Config.dmiWord r.1.toNat).toNat)
  ∧ (∀ (s : State), s.dev.corksFresh →
    Runs .bypass s fun d => d.tapIr irBypass)
  ∧ (∀ (s : State) (req : Fin 10), s.sysRuns →
    Runs (.jlock req) s fun d => (if req.val = 9 then d.tapAccess else d).dbgCtl 1)
  ∧ (∀ (s : State) (req : Fin 10), s.sysRuns →
    Runs (.dbgDirectOn req) s fun d => d.dbgDirect true)
  ∧ (∀ (s : State) (req : Fin 10), s.sysRuns →
    Runs (.dbgDirectOff req) s fun d => d.dbgDirect false)
  ∧ (∀ (s : State) (req : Fin 10) (data : Nat), s.sysRuns →
    Runs (.prbsCtlWrite req data) s fun d => d.prbsCtl data)
  ∧ (∀ (s : State) (req : Fin 10), s.sysRuns →
    Runs (.dbgStatClr req) s Dev.dbgStatClr)
  ∧ (∀ (s : State) (req : Fin 10) (b : Fin 2) (data : Nat), s.sysRuns →
    Runs (.atbSelWrite req b data) s fun d => d.atbSel b data)
  ∧ (∀ (s : State) (req : Fin 10), s.sysRuns →
    Runs (.atbStatClr req) s fun d => d.put F.ATB_STAT_REF 0)
  ∧ (∀ (s : State) (t : Fin 64) (side : Bool), s.dev.corksFresh →
    Runs (.tileUpstreamLockGained t side) s fun d => d.dsPort t side (fun x => { x with locked := true }))
  ∧ (∀ (s : State), s.dev.corksFresh →
    Runs .perstNRelease s fun d => { d with rst := { d.rst with perst := false } })
  ∧ (∀ (s : State) (t : Fin 64), s.dev.corksFresh → (s.dev.tle t).inhp = true →
    Runs (.inhibitInputRelease t) s fun d => d.upTle t (fun x => { x with inhp := false, quiet := d.now }))
  ∧ (∀ (s : State) (p : Fin 2), s.dev.corksFresh →
    Runs (.pllLocked p) s fun d =>
    { (d.put (F.CLK_PLL_STAT_LOCK p) 1).causeOff 1 2 p with mgs := { d.mgs with pllHold := false } })
  ∧ (∀ (s : State) (t : Fin 64) (side : Bool), s.dev.corksFresh → (s.dev.tle t).lease ≠ some side →
    Runs (.freshExpiry t side) s fun d => d.upTs t side (fun x => { x with fresh := false }))
  ∧ (∀ (s : State) (t : Fin 64) (hot : Bool) (temp : Nat), s.dev.corksFresh →
    Runs (.tileOvertemp t hot temp) s fun d =>
    let d1 := d.upTle t (fun x => { x with temp := min temp 255, hot := hot })
    if hot == (d.tle t).hot then d1 else d1.tdiag2 t hot 0 0x28 (min temp 255))
  ∧ (∀ (s : State) (t : Fin 64) (rail : Nat), s.dev.corksFresh → (s.dev.upTle t (fun x => { x with rail := rail })).railHigh t = true → s.dev.boostEn t = true →
      (s.dev.tle t).stopped = false →
    Runs (.boostFault t rail .high) s fun d => ((d.upTle t (fun x => { x with rail := rail })).boostStop t).boostJudge t)
end

