-- ==== Sys2Proof/Laws/Maps.lean ====
section
/-! SUPPORT. What the sparse maps and memories do: a read after a write, reads elsewhere, and the canonical form that every
write keeps. -/

namespace Sys2Proof.Machine

set_option Elab.async false

variable {α : Type}

theorem smGet_smDel_same (m : SMap α) (z : α) (k : Nat) : smGet (smDel m k) z k = z := by
  induction m with
  | nil => rfl
  | cons p r ih =>
    obtain ⟨j, v⟩ := p
    by_cases h : j = k
    · simp [smDel, h, ih]
    · simp [smDel, smGet, h, ih]

theorem smGet_smDel_ne (m : SMap α) (z : α) {j k : Nat} (h : j ≠ k) : smGet (smDel m k) z j = smGet m z j := by
  induction m with
  | nil => rfl
  | cons p r ih =>
    obtain ⟨i, v⟩ := p
    by_cases hi : i = k
    · subst hi
      simp [smDel, smGet, ih, Ne.symm h]
    · simp [smDel, smGet, hi, ih]

theorem smGet_smIns_same (m : SMap α) (z : α) (k : Nat) (v : α) : smGet (smIns m k v) z k = v := by
  induction m with
  | nil => simp [smIns, smGet]
  | cons p r ih =>
    obtain ⟨j, u⟩ := p
    by_cases h : j = k
    · simp [smIns, smGet, h]
    · by_cases hl : k < j
      · simp [smIns, smGet, h, hl]
      · simp [smIns, smGet, h, hl, ih]

theorem smGet_smIns_ne (m : SMap α) (z : α) {j k : Nat} (v : α) (h : j ≠ k) : smGet (smIns m k v) z j = smGet m z j := by
  induction m with
  | nil => simp [smIns, smGet, Ne.symm h]
  | cons p r ih =>
    obtain ⟨i, u⟩ := p
    by_cases hi : i = k
    · subst hi
      simp [smIns, smGet, Ne.symm h]
    · by_cases hl : k < i
      · simp [smIns, smGet, hi, hl, Ne.symm h]
      · simp [smIns, smGet, hi, hl, ih]

/-- A write is read back. -/
@[simp] theorem smGet_smSet_same [DecidableEq α] (m : SMap α) (z : α) (k : Nat) (v : α) : smGet (smSet m z k v) z k = v := by
  unfold smSet
  split
  · next h => rw [smGet_smDel_same, h]
  · exact smGet_smIns_same m z k v

/-- A write leaves every other key alone. -/
theorem smGet_smSet_ne [DecidableEq α] (m : SMap α) (z z' : α) {j k : Nat} (v : α) (h : j ≠ k) :
    smGet (smSet m z k v) z' j = smGet m z' j := by
  unfold smSet
  split
  · exact smGet_smDel_ne m z' h
  · exact smGet_smIns_ne m z' v h

/-! ### Canonical form -/

theorem smSorted_weaken (m : SMap α) {l l' : Nat} (h : l' ≤ l) (hs : smSorted (some l) m = true) : smSorted (some l') m = true := by
  cases m with
  | nil => rfl
  | cons p r =>
    obtain ⟨j, v⟩ := p
    simp only [smSorted, Bool.and_eq_true, decide_eq_true_eq] at hs ⊢
    exact ⟨by omega, hs.2⟩

theorem smSorted_none (m : SMap α) {l : Nat} (hs : smSorted (some l) m = true) : smSorted none m = true := by
  cases m with
  | nil => rfl
  | cons p r =>
    obtain ⟨j, v⟩ := p
    simp only [smSorted, Bool.and_eq_true] at hs ⊢
    exact hs.2

theorem smSorted_smDel (m : SMap α) (k : Nat) : ∀ l : Nat, smSorted (some l) m = true → smSorted (some l) (smDel m k) = true := by
  induction m with
  | nil => intro l _; rfl
  | cons p r ih =>
    obtain ⟨j, v⟩ := p
    intro l hs
    simp only [smSorted, Bool.and_eq_true, decide_eq_true_eq] at hs
    by_cases h : j = k
    · simp only [smDel, h, if_true]
      exact ih l (smSorted_weaken r (Nat.le_of_lt hs.1) hs.2)
    · simp only [smDel, h, if_false, smSorted, Bool.and_eq_true, decide_eq_true_eq]
      exact ⟨hs.1, ih j hs.2⟩

theorem smSorted_smIns (m : SMap α) (k : Nat) (v : α) :
    ∀ l : Nat, l < k → smSorted (some l) m = true → smSorted (some l) (smIns m k v) = true := by
  induction m with
  | nil => intro l hl _; simp [smIns, smSorted, hl]
  | cons p r ih =>
    obtain ⟨j, u⟩ := p
    intro l hl hs
    simp only [smSorted, Bool.and_eq_true, decide_eq_true_eq] at hs
    by_cases h : j = k
    · subst h
      simp only [smIns, if_true, smSorted, Bool.and_eq_true, decide_eq_true_eq]
      exact hs
    · by_cases hk : k < j
      · simp only [smIns, h, if_false, hk, if_true, smSorted, Bool.and_eq_true, decide_eq_true_eq]
        exact ⟨hl, trivial, hs.2⟩
      · simp only [smIns, h, if_false, hk, smSorted, Bool.and_eq_true, decide_eq_true_eq]
        exact ⟨hs.1, ih j (by omega) hs.2⟩

/-- Every write of a map keeps its keys rising. -/
theorem smSorted_smSet [DecidableEq α] (m : SMap α) (z : α) (k : Nat) (v : α) (hs : smSorted none m = true) :
    smSorted none (smSet m z k v) = true := by
  unfold smSet
  cases m with
  | nil => split <;> rfl
  | cons p r =>
    obtain ⟨j, u⟩ := p
    simp only [smSorted] at hs
    split
    · by_cases h : j = k
      · simp only [smDel, h, if_true]
        subst h
        exact smSorted_none _ (smSorted_smDel r j j hs)
      · simp only [smDel, h, if_false, smSorted]
        exact smSorted_smDel r k j hs
    · by_cases h : j = k
      · subst h
        simpa only [smIns, if_true, smSorted] using hs
      · by_cases hk : k < j
        · simp only [smIns, h, if_false, hk, if_true, smSorted, Bool.and_eq_true, decide_eq_true_eq]
          exact ⟨trivial, hs⟩
        · simp only [smIns, h, if_false, hk, smSorted]
          exact smSorted_smIns r k v j (by omega) hs

theorem mem_smDel (m : SMap α) (k : Nat) {p : Nat × α} (h : p ∈ smDel m k) : p ∈ m := by
  induction m with
  | nil => exact h
  | cons q r ih =>
    obtain ⟨j, v⟩ := q
    by_cases hj : j = k
    · simp only [smDel, hj, if_true] at h
      exact List.mem_cons_of_mem _ (ih h)
    · simp only [smDel, hj, if_false, List.mem_cons] at h ⊢
      exact h.imp id ih

theorem mem_smIns (m : SMap α) (k : Nat) (v : α) {p : Nat × α} (h : p ∈ smIns m k v) : p = (k, v) ∨ p ∈ m := by
  induction m with
  | nil => simpa [smIns] using h
  | cons q r ih =>
    obtain ⟨j, u⟩ := q
    by_cases hj : j = k
    · simp only [smIns, hj, if_true, List.mem_cons] at h ⊢
      exact h.imp id Or.inr
    · by_cases hk : k < j
      · simpa only [smIns, hj, if_false, hk, if_true, List.mem_cons] using h
      · simp only [smIns, hj, if_false, hk, List.mem_cons] at h ⊢
        rcases h with h | h
        · exact Or.inr (Or.inl h)
        · exact (ih h).imp id Or.inr

/-! ### Memories -/

@[simp] theorem memGet_memSet_same (m : List Host.Cell) (a : Nat) (b : BitVec 8) : memGet (memSet m a b) a = b :=
  smGet_smSet_same m memDefault a b

theorem memGet_memSet_ne (m : List Host.Cell) {a x : Nat} (b : BitVec 8) (h : x ≠ a) : memGet (memSet m a b) x = memGet m x :=
  smGet_smSet_ne m memDefault memDefault b h

/-- One written byte keeps the canonical form. -/
theorem memSet_wf (m : List Host.Cell) (a : Nat) (b : BitVec 8) (h : Memory.wf m = true) : Memory.wf (memSet m a b) = true := by
  unfold Memory.wf at h ⊢
  simp only [Bool.and_eq_true, List.all_eq_true, decide_eq_true_eq] at h ⊢
  refine ⟨smSorted_smSet m memDefault a b h.1, fun c hc => ?_⟩
  unfold memSet smSet at hc
  split at hc
  · exact h.2 c (mem_smDel m a hc)
  · next hb =>
    rcases mem_smIns m a b hc with e | e
    · rw [e]; exact hb
    · exact h.2 c e

/-- A value written in bytes keeps the canonical form. -/
theorem memWrite_wf (k : Nat) : ∀ (m : List Host.Cell) (a v : Nat), Memory.wf m = true → Memory.wf (memWrite m a k v) = true := by
  induction k with
  | zero => intro m a v h; exact h
  | succ k ih => intro m a v h; exact ih _ _ _ (memSet_wf m a _ h)

/-- A list of bytes written keeps the canonical form. -/
theorem memWriteBytes_wf (l : List Nat) : ∀ (m : List Host.Cell) (a : Nat), Memory.wf m = true → Memory.wf (memWriteBytes m a l) = true := by
  induction l with
  | nil => intro m a h; exact h
  | cons b r ih => intro m a h; exact ih _ _ (memSet_wf m a _ h)

/-- Bytes outside the k written ones read as before. -/
theorem memGet_memWrite_out (k : Nat) :
    ∀ (m : List Host.Cell) (a v x : Nat), x < a ∨ a + k ≤ x → memGet (memWrite m a k v) x = memGet m x := by
  induction k with
  | zero => intro m a v x _; rfl
  | succ k ih =>
    intro m a v x h
    simp only [memWrite]
    rw [ih _ _ _ _ (by omega), memGet_memSet_ne m _ (by omega)]

/-- A written value is read back. -/
theorem memRead_memWrite (k : Nat) : ∀ (m : List Host.Cell) (a v : Nat), memRead (memWrite m a k v) a k = v % 256 ^ k := by
  induction k with
  | zero => intro m a v; simp [memRead, Nat.mod_one]
  | succ k ih =>
    intro m a v
    simp only [memRead, memWrite]
    rw [ih, memGet_memWrite_out _ _ _ _ _ (Or.inl (Nat.lt_succ_self a)), memGet_memSet_same]
    simp only [BitVec.toNat_ofNat]
    rw [show (2 ^ 8 : Nat) = 256 from rfl, Nat.pow_succ, Nat.mul_comm (256 ^ k) 256, Nat.mod_mul]

end Sys2Proof.Machine
end

