-- ==== Sys2Proof/Laws/State.lean ====
section
/-! SUPPORT. One lemma per field of the device and per update of it: what the field then holds. -/

namespace Sys2Proof.Machine

set_option Elab.async false

/-! ### Dev.wr -/

@[simp] theorem Dev.wr_now (d : Dev) (a : Nat) (w : Word) : (d.wr a w).now = d.now := rfl
@[simp] theorem Dev.wr_fab (d : Dev) (a : Nat) (w : Word) : (d.wr a w).fab = d.fab := rfl
@[simp] theorem Dev.wr_draw (d : Dev) (a : Nat) (w : Word) : (d.wr a w).draw = d.draw := rfl
@[simp] theorem Dev.wr_shd (d : Dev) (a : Nat) (w : Word) : (d.wr a w).shd = d.shd := rfl
@[simp] theorem Dev.wr_preq (d : Dev) (a : Nat) (w : Word) : (d.wr a w).preq = d.preq := rfl
@[simp] theorem Dev.wr_cel (d : Dev) (a : Nat) (w : Word) : (d.wr a w).cel = d.cel := rfl
@[simp] theorem Dev.wr_corks (d : Dev) (a : Nat) (w : Word) : (d.wr a w).corks = d.corks := rfl
@[simp] theorem Dev.wr_causes (d : Dev) (a : Nat) (w : Word) : (d.wr a w).causes = d.causes := rfl
@[simp] theorem Dev.wr_fltNew (d : Dev) (a : Nat) (w : Word) : (d.wr a w).fltNew = d.fltNew := rfl
@[simp] theorem Dev.wr_kept (d : Dev) (a : Nat) (w : Word) : (d.wr a w).kept = d.kept := rfl
@[simp] theorem Dev.wr_mem (d : Dev) (a : Nat) (w : Word) : (d.wr a w).mem = d.mem := rfl
@[simp] theorem Dev.wr_cmem (d : Dev) (a : Nat) (w : Word) : (d.wr a w).cmem = d.cmem := rfl
@[simp] theorem Dev.wr_mram (d : Dev) (a : Nat) (w : Word) : (d.wr a w).mram = d.mram := rfl
@[simp] theorem Dev.wr_out (d : Dev) (a : Nat) (w : Word) : (d.wr a w).out = d.out := rfl
@[simp] theorem Dev.wr_bus (d : Dev) (a : Nat) (w : Word) : (d.wr a w).bus = d.bus := rfl
@[simp] theorem Dev.wr_rst (d : Dev) (a : Nat) (w : Word) : (d.wr a w).rst = d.rst := rfl
@[simp] theorem Dev.wr_clk (d : Dev) (a : Nat) (w : Word) : (d.wr a w).clk = d.clk := rfl
@[simp] theorem Dev.wr_icu (d : Dev) (a : Nat) (w : Word) : (d.wr a w).icu = d.icu := rfl
@[simp] theorem Dev.wr_tmr (d : Dev) (a : Nat) (w : Word) : (d.wr a w).tmr = d.tmr := rfl
@[simp] theorem Dev.wr_tmrEv (d : Dev) (a : Nat) (w : Word) : (d.wr a w).tmrEv = d.tmrEv := rfl
@[simp] theorem Dev.wr_rak (d : Dev) (a : Nat) (w : Word) : (d.wr a w).rak = d.rak := rfl
@[simp] theorem Dev.wr_hif (d : Dev) (a : Nat) (w : Word) : (d.wr a w).hif = d.hif := rfl
@[simp] theorem Dev.wr_qmg (d : Dev) (a : Nat) (w : Word) : (d.wr a w).qmg = d.qmg := rfl
@[simp] theorem Dev.wr_mgs (d : Dev) (a : Nat) (w : Word) : (d.wr a w).mgs = d.mgs := rfl
@[simp] theorem Dev.wr_logq (d : Dev) (a : Nat) (w : Word) : (d.wr a w).logq = d.logq := rfl
@[simp] theorem Dev.wr_clr (d : Dev) (a : Nat) (w : Word) : (d.wr a w).clr = d.clr := rfl
@[simp] theorem Dev.wr_dbg (d : Dev) (a : Nat) (w : Word) : (d.wr a w).dbg = d.dbg := rfl
@[simp] theorem Dev.wr_sns (d : Dev) (a : Nat) (w : Word) : (d.wr a w).sns = d.sns := rfl
@[simp] theorem Dev.wr_trk (d : Dev) (a : Nat) (w : Word) : (d.wr a w).trk = d.trk := rfl
@[simp] theorem Dev.wr_prd (d : Dev) (a : Nat) (w : Word) : (d.wr a w).prd = d.prd := rfl
@[simp] theorem Dev.wr_qry (d : Dev) (a : Nat) (w : Word) : (d.wr a w).qry = d.qry := rfl
@[simp] theorem Dev.wr_sch (d : Dev) (a : Nat) (w : Word) : (d.wr a w).sch = d.sch := rfl
@[simp] theorem Dev.wr_prs (d : Dev) (a : Nat) (w : Word) : (d.wr a w).prs = d.prs := rfl
@[simp] theorem Dev.wr_lnk (d : Dev) (a : Nat) (w : Word) : (d.wr a w).lnk = d.lnk := rfl
@[simp] theorem Dev.wr_tile (d : Dev) (a : Nat) (w : Word) : (d.wr a w).tile = d.tile := rfl
@[simp] theorem Dev.wr_cdt (d : Dev) (a : Nat) (w : Word) : (d.wr a w).cdt = d.cdt := rfl
@[simp] theorem Dev.wr_mir (d : Dev) (a : Nat) (w : Word) : (d.wr a w).mir = d.mir := rfl
@[simp] theorem Dev.wr_adc (d : Dev) (a : Nat) (w : Word) : (d.wr a w).adc = d.adc := rfl
@[simp] theorem Dev.wr_enc (d : Dev) (a : Nat) (w : Word) : (d.wr a w).enc = d.enc := rfl
@[simp] theorem Dev.wr_tlog (d : Dev) (a : Nat) (w : Word) : (d.wr a w).tlog = d.tlog := rfl
@[simp] theorem Dev.wr_amark (d : Dev) (a : Nat) (w : Word) : (d.wr a w).amark = d.amark := rfl
@[simp] theorem Dev.wr_ertDiv (d : Dev) (a : Nat) (w : Word) : (d.wr a w).ertDiv = d.ertDiv := rfl

/-! ### Dev.put -/

@[simp] theorem Dev.put_now (d : Dev) (f : Fld) (v : Nat) : (d.put f v).now = d.now := rfl
@[simp] theorem Dev.put_fab (d : Dev) (f : Fld) (v : Nat) : (d.put f v).fab = d.fab := rfl
@[simp] theorem Dev.put_draw (d : Dev) (f : Fld) (v : Nat) : (d.put f v).draw = d.draw := rfl
@[simp] theorem Dev.put_shd (d : Dev) (f : Fld) (v : Nat) : (d.put f v).shd = d.shd := rfl
@[simp] theorem Dev.put_preq (d : Dev) (f : Fld) (v : Nat) : (d.put f v).preq = d.preq := rfl
@[simp] theorem Dev.put_cel (d : Dev) (f : Fld) (v : Nat) : (d.put f v).cel = d.cel := rfl
@[simp] theorem Dev.put_corks (d : Dev) (f : Fld) (v : Nat) : (d.put f v).corks = d.corks := rfl
@[simp] theorem Dev.put_causes (d : Dev) (f : Fld) (v : Nat) : (d.put f v).causes = d.causes := rfl
@[simp] theorem Dev.put_fltNew (d : Dev) (f : Fld) (v : Nat) : (d.put f v).fltNew = d.fltNew := rfl
@[simp] theorem Dev.put_kept (d : Dev) (f : Fld) (v : Nat) : (d.put f v).kept = d.kept := rfl
@[simp] theorem Dev.put_mem (d : Dev) (f : Fld) (v : Nat) : (d.put f v).mem = d.mem := rfl
@[simp] theorem Dev.put_cmem (d : Dev) (f : Fld) (v : Nat) : (d.put f v).cmem = d.cmem := rfl
@[simp] theorem Dev.put_mram (d : Dev) (f : Fld) (v : Nat) : (d.put f v).mram = d.mram := rfl
@[simp] theorem Dev.put_out (d : Dev) (f : Fld) (v : Nat) : (d.put f v).out = d.out := rfl
@[simp] theorem Dev.put_bus (d : Dev) (f : Fld) (v : Nat) : (d.put f v).bus = d.bus := rfl
@[simp] theorem Dev.put_rst (d : Dev) (f : Fld) (v : Nat) : (d.put f v).rst = d.rst := rfl
@[simp] theorem Dev.put_clk (d : Dev) (f : Fld) (v : Nat) : (d.put f v).clk = d.clk := rfl
@[simp] theorem Dev.put_icu (d : Dev) (f : Fld) (v : Nat) : (d.put f v).icu = d.icu := rfl
@[simp] theorem Dev.put_tmr (d : Dev) (f : Fld) (v : Nat) : (d.put f v).tmr = d.tmr := rfl
@[simp] theorem Dev.put_tmrEv (d : Dev) (f : Fld) (v : Nat) : (d.put f v).tmrEv = d.tmrEv := rfl
@[simp] theorem Dev.put_rak (d : Dev) (f : Fld) (v : Nat) : (d.put f v).rak = d.rak := rfl
@[simp] theorem Dev.put_hif (d : Dev) (f : Fld) (v : Nat) : (d.put f v).hif = d.hif := rfl
@[simp] theorem Dev.put_qmg (d : Dev) (f : Fld) (v : Nat) : (d.put f v).qmg = d.qmg := rfl
@[simp] theorem Dev.put_mgs (d : Dev) (f : Fld) (v : Nat) : (d.put f v).mgs = d.mgs := rfl
@[simp] theorem Dev.put_logq (d : Dev) (f : Fld) (v : Nat) : (d.put f v).logq = d.logq := rfl
@[simp] theorem Dev.put_clr (d : Dev) (f : Fld) (v : Nat) : (d.put f v).clr = d.clr := rfl
@[simp] theorem Dev.put_dbg (d : Dev) (f : Fld) (v : Nat) : (d.put f v).dbg = d.dbg := rfl
@[simp] theorem Dev.put_sns (d : Dev) (f : Fld) (v : Nat) : (d.put f v).sns = d.sns := rfl
@[simp] theorem Dev.put_trk (d : Dev) (f : Fld) (v : Nat) : (d.put f v).trk = d.trk := rfl
@[simp] theorem Dev.put_prd (d : Dev) (f : Fld) (v : Nat) : (d.put f v).prd = d.prd := rfl
@[simp] theorem Dev.put_qry (d : Dev) (f : Fld) (v : Nat) : (d.put f v).qry = d.qry := rfl
@[simp] theorem Dev.put_sch (d : Dev) (f : Fld) (v : Nat) : (d.put f v).sch = d.sch := rfl
@[simp] theorem Dev.put_prs (d : Dev) (f : Fld) (v : Nat) : (d.put f v).prs = d.prs := rfl
@[simp] theorem Dev.put_lnk (d : Dev) (f : Fld) (v : Nat) : (d.put f v).lnk = d.lnk := rfl
@[simp] theorem Dev.put_tile (d : Dev) (f : Fld) (v : Nat) : (d.put f v).tile = d.tile := rfl
@[simp] theorem Dev.put_cdt (d : Dev) (f : Fld) (v : Nat) : (d.put f v).cdt = d.cdt := rfl
@[simp] theorem Dev.put_mir (d : Dev) (f : Fld) (v : Nat) : (d.put f v).mir = d.mir := rfl
@[simp] theorem Dev.put_adc (d : Dev) (f : Fld) (v : Nat) : (d.put f v).adc = d.adc := rfl
@[simp] theorem Dev.put_enc (d : Dev) (f : Fld) (v : Nat) : (d.put f v).enc = d.enc := rfl
@[simp] theorem Dev.put_tlog (d : Dev) (f : Fld) (v : Nat) : (d.put f v).tlog = d.tlog := rfl
@[simp] theorem Dev.put_amark (d : Dev) (f : Fld) (v : Nat) : (d.put f v).amark = d.amark := rfl
@[simp] theorem Dev.put_ertDiv (d : Dev) (f : Fld) (v : Nat) : (d.put f v).ertDiv = d.ertDiv := rfl

/-! ### Dev.setBit -/

@[simp] theorem Dev.setBit_now (d : Dev) (a i : Nat) (b : Bool) : (d.setBit a i b).now = d.now := rfl
@[simp] theorem Dev.setBit_fab (d : Dev) (a i : Nat) (b : Bool) : (d.setBit a i b).fab = d.fab := rfl
@[simp] theorem Dev.setBit_draw (d : Dev) (a i : Nat) (b : Bool) : (d.setBit a i b).draw = d.draw := rfl
@[simp] theorem Dev.setBit_shd (d : Dev) (a i : Nat) (b : Bool) : (d.setBit a i b).shd = d.shd := rfl
@[simp] theorem Dev.setBit_preq (d : Dev) (a i : Nat) (b : Bool) : (d.setBit a i b).preq = d.preq := rfl
@[simp] theorem Dev.setBit_cel (d : Dev) (a i : Nat) (b : Bool) : (d.setBit a i b).cel = d.cel := rfl
@[simp] theorem Dev.setBit_corks (d : Dev) (a i : Nat) (b : Bool) : (d.setBit a i b).corks = d.corks := rfl
@[simp] theorem Dev.setBit_causes (d : Dev) (a i : Nat) (b : Bool) : (d.setBit a i b).causes = d.causes := rfl
@[simp] theorem Dev.setBit_fltNew (d : Dev) (a i : Nat) (b : Bool) : (d.setBit a i b).fltNew = d.fltNew := rfl
@[simp] theorem Dev.setBit_kept (d : Dev) (a i : Nat) (b : Bool) : (d.setBit a i b).kept = d.kept := rfl
@[simp] theorem Dev.setBit_mem (d : Dev) (a i : Nat) (b : Bool) : (d.setBit a i b).mem = d.mem := rfl
@[simp] theorem Dev.setBit_cmem (d : Dev) (a i : Nat) (b : Bool) : (d.setBit a i b).cmem = d.cmem := rfl
@[simp] theorem Dev.setBit_mram (d : Dev) (a i : Nat) (b : Bool) : (d.setBit a i b).mram = d.mram := rfl
@[simp] theorem Dev.setBit_out (d : Dev) (a i : Nat) (b : Bool) : (d.setBit a i b).out = d.out := rfl
@[simp] theorem Dev.setBit_bus (d : Dev) (a i : Nat) (b : Bool) : (d.setBit a i b).bus = d.bus := rfl
@[simp] theorem Dev.setBit_rst (d : Dev) (a i : Nat) (b : Bool) : (d.setBit a i b).rst = d.rst := rfl
@[simp] theorem Dev.setBit_clk (d : Dev) (a i : Nat) (b : Bool) : (d.setBit a i b).clk = d.clk := rfl
@[simp] theorem Dev.setBit_icu (d : Dev) (a i : Nat) (b : Bool) : (d.setBit a i b).icu = d.icu := rfl
@[simp] theorem Dev.setBit_tmr (d : Dev) (a i : Nat) (b : Bool) : (d.setBit a i b).tmr = d.tmr := rfl
@[simp] theorem Dev.setBit_tmrEv (d : Dev) (a i : Nat) (b : Bool) : (d.setBit a i b).tmrEv = d.tmrEv := rfl
@[simp] theorem Dev.setBit_rak (d : Dev) (a i : Nat) (b : Bool) : (d.setBit a i b).rak = d.rak := rfl
@[simp] theorem Dev.setBit_hif (d : Dev) (a i : Nat) (b : Bool) : (d.setBit a i b).hif = d.hif := rfl
@[simp] theorem Dev.setBit_qmg (d : Dev) (a i : Nat) (b : Bool) : (d.setBit a i b).qmg = d.qmg := rfl
@[simp] theorem Dev.setBit_mgs (d : Dev) (a i : Nat) (b : Bool) : (d.setBit a i b).mgs = d.mgs := rfl
@[simp] theorem Dev.setBit_logq (d : Dev) (a i : Nat) (b : Bool) : (d.setBit a i b).logq = d.logq := rfl
@[simp] theorem Dev.setBit_clr (d : Dev) (a i : Nat) (b : Bool) : (d.setBit a i b).clr = d.clr := rfl
@[simp] theorem Dev.setBit_dbg (d : Dev) (a i : Nat) (b : Bool) : (d.setBit a i b).dbg = d.dbg := rfl
@[simp] theorem Dev.setBit_sns (d : Dev) (a i : Nat) (b : Bool) : (d.setBit a i b).sns = d.sns := rfl
@[simp] theorem Dev.setBit_trk (d : Dev) (a i : Nat) (b : Bool) : (d.setBit a i b).trk = d.trk := rfl
@[simp] theorem Dev.setBit_prd (d : Dev) (a i : Nat) (b : Bool) : (d.setBit a i b).prd = d.prd := rfl
@[simp] theorem Dev.setBit_qry (d : Dev) (a i : Nat) (b : Bool) : (d.setBit a i b).qry = d.qry := rfl
@[simp] theorem Dev.setBit_sch (d : Dev) (a i : Nat) (b : Bool) : (d.setBit a i b).sch = d.sch := rfl
@[simp] theorem Dev.setBit_prs (d : Dev) (a i : Nat) (b : Bool) : (d.setBit a i b).prs = d.prs := rfl
@[simp] theorem Dev.setBit_lnk (d : Dev) (a i : Nat) (b : Bool) : (d.setBit a i b).lnk = d.lnk := rfl
@[simp] theorem Dev.setBit_tile (d : Dev) (a i : Nat) (b : Bool) : (d.setBit a i b).tile = d.tile := rfl
@[simp] theorem Dev.setBit_cdt (d : Dev) (a i : Nat) (b : Bool) : (d.setBit a i b).cdt = d.cdt := rfl
@[simp] theorem Dev.setBit_mir (d : Dev) (a i : Nat) (b : Bool) : (d.setBit a i b).mir = d.mir := rfl
@[simp] theorem Dev.setBit_adc (d : Dev) (a i : Nat) (b : Bool) : (d.setBit a i b).adc = d.adc := rfl
@[simp] theorem Dev.setBit_enc (d : Dev) (a i : Nat) (b : Bool) : (d.setBit a i b).enc = d.enc := rfl
@[simp] theorem Dev.setBit_tlog (d : Dev) (a i : Nat) (b : Bool) : (d.setBit a i b).tlog = d.tlog := rfl
@[simp] theorem Dev.setBit_amark (d : Dev) (a i : Nat) (b : Bool) : (d.setBit a i b).amark = d.amark := rfl
@[simp] theorem Dev.setBit_ertDiv (d : Dev) (a i : Nat) (b : Bool) : (d.setBit a i b).ertDiv = d.ertDiv := rfl

/-! ### Dev.wrS -/

@[simp] theorem Dev.wrS_now (d : Dev) (a : Nat) (w : Word) : (d.wrS a w).now = d.now := rfl
@[simp] theorem Dev.wrS_fab (d : Dev) (a : Nat) (w : Word) : (d.wrS a w).fab = d.fab := rfl
@[simp] theorem Dev.wrS_draw (d : Dev) (a : Nat) (w : Word) : (d.wrS a w).draw = d.draw := rfl
@[simp] theorem Dev.wrS_reg (d : Dev) (a : Nat) (w : Word) : (d.wrS a w).reg = d.reg := rfl
@[simp] theorem Dev.wrS_preq (d : Dev) (a : Nat) (w : Word) : (d.wrS a w).preq = d.preq := rfl
@[simp] theorem Dev.wrS_cel (d : Dev) (a : Nat) (w : Word) : (d.wrS a w).cel = d.cel := rfl
@[simp] theorem Dev.wrS_corks (d : Dev) (a : Nat) (w : Word) : (d.wrS a w).corks = d.corks := rfl
@[simp] theorem Dev.wrS_causes (d : Dev) (a : Nat) (w : Word) : (d.wrS a w).causes = d.causes := rfl
@[simp] theorem Dev.wrS_fltNew (d : Dev) (a : Nat) (w : Word) : (d.wrS a w).fltNew = d.fltNew := rfl
@[simp] theorem Dev.wrS_kept (d : Dev) (a : Nat) (w : Word) : (d.wrS a w).kept = d.kept := rfl
@[simp] theorem Dev.wrS_mem (d : Dev) (a : Nat) (w : Word) : (d.wrS a w).mem = d.mem := rfl
@[simp] theorem Dev.wrS_cmem (d : Dev) (a : Nat) (w : Word) : (d.wrS a w).cmem = d.cmem := rfl
@[simp] theorem Dev.wrS_mram (d : Dev) (a : Nat) (w : Word) : (d.wrS a w).mram = d.mram := rfl
@[simp] theorem Dev.wrS_out (d : Dev) (a : Nat) (w : Word) : (d.wrS a w).out = d.out := rfl
@[simp] theorem Dev.wrS_bus (d : Dev) (a : Nat) (w : Word) : (d.wrS a w).bus = d.bus := rfl
@[simp] theorem Dev.wrS_rst (d : Dev) (a : Nat) (w : Word) : (d.wrS a w).rst = d.rst := rfl
@[simp] theorem Dev.wrS_clk (d : Dev) (a : Nat) (w : Word) : (d.wrS a w).clk = d.clk := rfl
@[simp] theorem Dev.wrS_icu (d : Dev) (a : Nat) (w : Word) : (d.wrS a w).icu = d.icu := rfl
@[simp] theorem Dev.wrS_tmr (d : Dev) (a : Nat) (w : Word) : (d.wrS a w).tmr = d.tmr := rfl
@[simp] theorem Dev.wrS_tmrEv (d : Dev) (a : Nat) (w : Word) : (d.wrS a w).tmrEv = d.tmrEv := rfl
@[simp] theorem Dev.wrS_rak (d : Dev) (a : Nat) (w : Word) : (d.wrS a w).rak = d.rak := rfl
@[simp] theorem Dev.wrS_hif (d : Dev) (a : Nat) (w : Word) : (d.wrS a w).hif = d.hif := rfl
@[simp] theorem Dev.wrS_qmg (d : Dev) (a : Nat) (w : Word) : (d.wrS a w).qmg = d.qmg := rfl
@[simp] theorem Dev.wrS_mgs (d : Dev) (a : Nat) (w : Word) : (d.wrS a w).mgs = d.mgs := rfl
@[simp] theorem Dev.wrS_logq (d : Dev) (a : Nat) (w : Word) : (d.wrS a w).logq = d.logq := rfl
@[simp] theorem Dev.wrS_clr (d : Dev) (a : Nat) (w : Word) : (d.wrS a w).clr = d.clr := rfl
@[simp] theorem Dev.wrS_dbg (d : Dev) (a : Nat) (w : Word) : (d.wrS a w).dbg = d.dbg := rfl
@[simp] theorem Dev.wrS_sns (d : Dev) (a : Nat) (w : Word) : (d.wrS a w).sns = d.sns := rfl
@[simp] theorem Dev.wrS_trk (d : Dev) (a : Nat) (w : Word) : (d.wrS a w).trk = d.trk := rfl
@[simp] theorem Dev.wrS_prd (d : Dev) (a : Nat) (w : Word) : (d.wrS a w).prd = d.prd := rfl
@[simp] theorem Dev.wrS_qry (d : Dev) (a : Nat) (w : Word) : (d.wrS a w).qry = d.qry := rfl
@[simp] theorem Dev.wrS_sch (d : Dev) (a : Nat) (w : Word) : (d.wrS a w).sch = d.sch := rfl
@[simp] theorem Dev.wrS_prs (d : Dev) (a : Nat) (w : Word) : (d.wrS a w).prs = d.prs := rfl
@[simp] theorem Dev.wrS_lnk (d : Dev) (a : Nat) (w : Word) : (d.wrS a w).lnk = d.lnk := rfl
@[simp] theorem Dev.wrS_tile (d : Dev) (a : Nat) (w : Word) : (d.wrS a w).tile = d.tile := rfl
@[simp] theorem Dev.wrS_cdt (d : Dev) (a : Nat) (w : Word) : (d.wrS a w).cdt = d.cdt := rfl
@[simp] theorem Dev.wrS_mir (d : Dev) (a : Nat) (w : Word) : (d.wrS a w).mir = d.mir := rfl
@[simp] theorem Dev.wrS_adc (d : Dev) (a : Nat) (w : Word) : (d.wrS a w).adc = d.adc := rfl
@[simp] theorem Dev.wrS_enc (d : Dev) (a : Nat) (w : Word) : (d.wrS a w).enc = d.enc := rfl
@[simp] theorem Dev.wrS_tlog (d : Dev) (a : Nat) (w : Word) : (d.wrS a w).tlog = d.tlog := rfl
@[simp] theorem Dev.wrS_amark (d : Dev) (a : Nat) (w : Word) : (d.wrS a w).amark = d.amark := rfl
@[simp] theorem Dev.wrS_ertDiv (d : Dev) (a : Nat) (w : Word) : (d.wrS a w).ertDiv = d.ertDiv := rfl

/-! ### Dev.cwr -/

@[simp] theorem Dev.cwr_now (d : Dev) (a : Nat) (w : Word) : (d.cwr a w).now = d.now := rfl
@[simp] theorem Dev.cwr_fab (d : Dev) (a : Nat) (w : Word) : (d.cwr a w).fab = d.fab := rfl
@[simp] theorem Dev.cwr_draw (d : Dev) (a : Nat) (w : Word) : (d.cwr a w).draw = d.draw := rfl
@[simp] theorem Dev.cwr_reg (d : Dev) (a : Nat) (w : Word) : (d.cwr a w).reg = d.reg := rfl
@[simp] theorem Dev.cwr_shd (d : Dev) (a : Nat) (w : Word) : (d.cwr a w).shd = d.shd := rfl
@[simp] theorem Dev.cwr_preq (d : Dev) (a : Nat) (w : Word) : (d.cwr a w).preq = d.preq := rfl
@[simp] theorem Dev.cwr_corks (d : Dev) (a : Nat) (w : Word) : (d.cwr a w).corks = d.corks := rfl
@[simp] theorem Dev.cwr_causes (d : Dev) (a : Nat) (w : Word) : (d.cwr a w).causes = d.causes := rfl
@[simp] theorem Dev.cwr_fltNew (d : Dev) (a : Nat) (w : Word) : (d.cwr a w).fltNew = d.fltNew := rfl
@[simp] theorem Dev.cwr_kept (d : Dev) (a : Nat) (w : Word) : (d.cwr a w).kept = d.kept := rfl
@[simp] theorem Dev.cwr_mem (d : Dev) (a : Nat) (w : Word) : (d.cwr a w).mem = d.mem := rfl
@[simp] theorem Dev.cwr_cmem (d : Dev) (a : Nat) (w : Word) : (d.cwr a w).cmem = d.cmem := rfl
@[simp] theorem Dev.cwr_mram (d : Dev) (a : Nat) (w : Word) : (d.cwr a w).mram = d.mram := rfl
@[simp] theorem Dev.cwr_out (d : Dev) (a : Nat) (w : Word) : (d.cwr a w).out = d.out := rfl
@[simp] theorem Dev.cwr_bus (d : Dev) (a : Nat) (w : Word) : (d.cwr a w).bus = d.bus := rfl
@[simp] theorem Dev.cwr_rst (d : Dev) (a : Nat) (w : Word) : (d.cwr a w).rst = d.rst := rfl
@[simp] theorem Dev.cwr_clk (d : Dev) (a : Nat) (w : Word) : (d.cwr a w).clk = d.clk := rfl
@[simp] theorem Dev.cwr_icu (d : Dev) (a : Nat) (w : Word) : (d.cwr a w).icu = d.icu := rfl
@[simp] theorem Dev.cwr_tmr (d : Dev) (a : Nat) (w : Word) : (d.cwr a w).tmr = d.tmr := rfl
@[simp] theorem Dev.cwr_tmrEv (d : Dev) (a : Nat) (w : Word) : (d.cwr a w).tmrEv = d.tmrEv := rfl
@[simp] theorem Dev.cwr_rak (d : Dev) (a : Nat) (w : Word) : (d.cwr a w).rak = d.rak := rfl
@[simp] theorem Dev.cwr_hif (d : Dev) (a : Nat) (w : Word) : (d.cwr a w).hif = d.hif := rfl
@[simp] theorem Dev.cwr_qmg (d : Dev) (a : Nat) (w : Word) : (d.cwr a w).qmg = d.qmg := rfl
@[simp] theorem Dev.cwr_mgs (d : Dev) (a : Nat) (w : Word) : (d.cwr a w).mgs = d.mgs := rfl
@[simp] theorem Dev.cwr_logq (d : Dev) (a : Nat) (w : Word) : (d.cwr a w).logq = d.logq := rfl
@[simp] theorem Dev.cwr_clr (d : Dev) (a : Nat) (w : Word) : (d.cwr a w).clr = d.clr := rfl
@[simp] theorem Dev.cwr_dbg (d : Dev) (a : Nat) (w : Word) : (d.cwr a w).dbg = d.dbg := rfl
@[simp] theorem Dev.cwr_sns (d : Dev) (a : Nat) (w : Word) : (d.cwr a w).sns = d.sns := rfl
@[simp] theorem Dev.cwr_trk (d : Dev) (a : Nat) (w : Word) : (d.cwr a w).trk = d.trk := rfl
@[simp] theorem Dev.cwr_prd (d : Dev) (a : Nat) (w : Word) : (d.cwr a w).prd = d.prd := rfl
@[simp] theorem Dev.cwr_qry (d : Dev) (a : Nat) (w : Word) : (d.cwr a w).qry = d.qry := rfl
@[simp] theorem Dev.cwr_sch (d : Dev) (a : Nat) (w : Word) : (d.cwr a w).sch = d.sch := rfl
@[simp] theorem Dev.cwr_prs (d : Dev) (a : Nat) (w : Word) : (d.cwr a w).prs = d.prs := rfl
@[simp] theorem Dev.cwr_lnk (d : Dev) (a : Nat) (w : Word) : (d.cwr a w).lnk = d.lnk := rfl
@[simp] theorem Dev.cwr_tile (d : Dev) (a : Nat) (w : Word) : (d.cwr a w).tile = d.tile := rfl
@[simp] theorem Dev.cwr_cdt (d : Dev) (a : Nat) (w : Word) : (d.cwr a w).cdt = d.cdt := rfl
@[simp] theorem Dev.cwr_mir (d : Dev) (a : Nat) (w : Word) : (d.cwr a w).mir = d.mir := rfl
@[simp] theorem Dev.cwr_adc (d : Dev) (a : Nat) (w : Word) : (d.cwr a w).adc = d.adc := rfl
@[simp] theorem Dev.cwr_enc (d : Dev) (a : Nat) (w : Word) : (d.cwr a w).enc = d.enc := rfl
@[simp] theorem Dev.cwr_tlog (d : Dev) (a : Nat) (w : Word) : (d.cwr a w).tlog = d.tlog := rfl
@[simp] theorem Dev.cwr_amark (d : Dev) (a : Nat) (w : Word) : (d.cwr a w).amark = d.amark := rfl
@[simp] theorem Dev.cwr_ertDiv (d : Dev) (a : Nat) (w : Word) : (d.cwr a w).ertDiv = d.ertDiv := rfl

/-! ### Dev.cput -/

@[simp] theorem Dev.cput_now (d : Dev) (f : Fld) (v : Nat) : (d.cput f v).now = d.now := rfl
@[simp] theorem Dev.cput_fab (d : Dev) (f : Fld) (v : Nat) : (d.cput f v).fab = d.fab := rfl
@[simp] theorem Dev.cput_draw (d : Dev) (f : Fld) (v : Nat) : (d.cput f v).draw = d.draw := rfl
@[simp] theorem Dev.cput_reg (d : Dev) (f : Fld) (v : Nat) : (d.cput f v).reg = d.reg := rfl
@[simp] theorem Dev.cput_shd (d : Dev) (f : Fld) (v : Nat) : (d.cput f v).shd = d.shd := rfl
@[simp] theorem Dev.cput_preq (d : Dev) (f : Fld) (v : Nat) : (d.cput f v).preq = d.preq := rfl
@[simp] theorem Dev.cput_corks (d : Dev) (f : Fld) (v : Nat) : (d.cput f v).corks = d.corks := rfl
@[simp] theorem Dev.cput_causes (d : Dev) (f : Fld) (v : Nat) : (d.cput f v).causes = d.causes := rfl
@[simp] theorem Dev.cput_fltNew (d : Dev) (f : Fld) (v : Nat) : (d.cput f v).fltNew = d.fltNew := rfl
@[simp] theorem Dev.cput_kept (d : Dev) (f : Fld) (v : Nat) : (d.cput f v).kept = d.kept := rfl
@[simp] theorem Dev.cput_mem (d : Dev) (f : Fld) (v : Nat) : (d.cput f v).mem = d.mem := rfl
@[simp] theorem Dev.cput_cmem (d : Dev) (f : Fld) (v : Nat) : (d.cput f v).cmem = d.cmem := rfl
@[simp] theorem Dev.cput_mram (d : Dev) (f : Fld) (v : Nat) : (d.cput f v).mram = d.mram := rfl
@[simp] theorem Dev.cput_out (d : Dev) (f : Fld) (v : Nat) : (d.cput f v).out = d.out := rfl
@[simp] theorem Dev.cput_bus (d : Dev) (f : Fld) (v : Nat) : (d.cput f v).bus = d.bus := rfl
@[simp] theorem Dev.cput_rst (d : Dev) (f : Fld) (v : Nat) : (d.cput f v).rst = d.rst := rfl
@[simp] theorem Dev.cput_clk (d : Dev) (f : Fld) (v : Nat) : (d.cput f v).clk = d.clk := rfl
@[simp] theorem Dev.cput_icu (d : Dev) (f : Fld) (v : Nat) : (d.cput f v).icu = d.icu := rfl
@[simp] theorem Dev.cput_tmr (d : Dev) (f : Fld) (v : Nat) : (d.cput f v).tmr = d.tmr := rfl
@[simp] theorem Dev.cput_tmrEv (d : Dev) (f : Fld) (v : Nat) : (d.cput f v).tmrEv = d.tmrEv := rfl
@[simp] theorem Dev.cput_rak (d : Dev) (f : Fld) (v : Nat) : (d.cput f v).rak = d.rak := rfl
@[simp] theorem Dev.cput_hif (d : Dev) (f : Fld) (v : Nat) : (d.cput f v).hif = d.hif := rfl
@[simp] theorem Dev.cput_qmg (d : Dev) (f : Fld) (v : Nat) : (d.cput f v).qmg = d.qmg := rfl
@[simp] theorem Dev.cput_mgs (d : Dev) (f : Fld) (v : Nat) : (d.cput f v).mgs = d.mgs := rfl
@[simp] theorem Dev.cput_logq (d : Dev) (f : Fld) (v : Nat) : (d.cput f v).logq = d.logq := rfl
@[simp] theorem Dev.cput_clr (d : Dev) (f : Fld) (v : Nat) : (d.cput f v).clr = d.clr := rfl
@[simp] theorem Dev.cput_dbg (d : Dev) (f : Fld) (v : Nat) : (d.cput f v).dbg = d.dbg := rfl
@[simp] theorem Dev.cput_sns (d : Dev) (f : Fld) (v : Nat) : (d.cput f v).sns = d.sns := rfl
@[simp] theorem Dev.cput_trk (d : Dev) (f : Fld) (v : Nat) : (d.cput f v).trk = d.trk := rfl
@[simp] theorem Dev.cput_prd (d : Dev) (f : Fld) (v : Nat) : (d.cput f v).prd = d.prd := rfl
@[simp] theorem Dev.cput_qry (d : Dev) (f : Fld) (v : Nat) : (d.cput f v).qry = d.qry := rfl
@[simp] theorem Dev.cput_sch (d : Dev) (f : Fld) (v : Nat) : (d.cput f v).sch = d.sch := rfl
@[simp] theorem Dev.cput_prs (d : Dev) (f : Fld) (v : Nat) : (d.cput f v).prs = d.prs := rfl
@[simp] theorem Dev.cput_lnk (d : Dev) (f : Fld) (v : Nat) : (d.cput f v).lnk = d.lnk := rfl
@[simp] theorem Dev.cput_tile (d : Dev) (f : Fld) (v : Nat) : (d.cput f v).tile = d.tile := rfl
@[simp] theorem Dev.cput_cdt (d : Dev) (f : Fld) (v : Nat) : (d.cput f v).cdt = d.cdt := rfl
@[simp] theorem Dev.cput_mir (d : Dev) (f : Fld) (v : Nat) : (d.cput f v).mir = d.mir := rfl
@[simp] theorem Dev.cput_adc (d : Dev) (f : Fld) (v : Nat) : (d.cput f v).adc = d.adc := rfl
@[simp] theorem Dev.cput_enc (d : Dev) (f : Fld) (v : Nat) : (d.cput f v).enc = d.enc := rfl
@[simp] theorem Dev.cput_tlog (d : Dev) (f : Fld) (v : Nat) : (d.cput f v).tlog = d.tlog := rfl
@[simp] theorem Dev.cput_amark (d : Dev) (f : Fld) (v : Nat) : (d.cput f v).amark = d.amark := rfl
@[simp] theorem Dev.cput_ertDiv (d : Dev) (f : Fld) (v : Nat) : (d.cput f v).ertDiv = d.ertDiv := rfl

/-! ### Dev.setOwn -/

@[simp] theorem Dev.setOwn_now (d : Dev) (req a : Nat) (w : Word) : (d.setOwn req a w).now = d.now := rfl
@[simp] theorem Dev.setOwn_fab (d : Dev) (req a : Nat) (w : Word) : (d.setOwn req a w).fab = d.fab := rfl
@[simp] theorem Dev.setOwn_draw (d : Dev) (req a : Nat) (w : Word) : (d.setOwn req a w).draw = d.draw := rfl
@[simp] theorem Dev.setOwn_reg (d : Dev) (req a : Nat) (w : Word) : (d.setOwn req a w).reg = d.reg := rfl
@[simp] theorem Dev.setOwn_shd (d : Dev) (req a : Nat) (w : Word) : (d.setOwn req a w).shd = d.shd := rfl
@[simp] theorem Dev.setOwn_cel (d : Dev) (req a : Nat) (w : Word) : (d.setOwn req a w).cel = d.cel := rfl
@[simp] theorem Dev.setOwn_corks (d : Dev) (req a : Nat) (w : Word) : (d.setOwn req a w).corks = d.corks := rfl
@[simp] theorem Dev.setOwn_causes (d : Dev) (req a : Nat) (w : Word) : (d.setOwn req a w).causes = d.causes := rfl
@[simp] theorem Dev.setOwn_fltNew (d : Dev) (req a : Nat) (w : Word) : (d.setOwn req a w).fltNew = d.fltNew := rfl
@[simp] theorem Dev.setOwn_kept (d : Dev) (req a : Nat) (w : Word) : (d.setOwn req a w).kept = d.kept := rfl
@[simp] theorem Dev.setOwn_mem (d : Dev) (req a : Nat) (w : Word) : (d.setOwn req a w).mem = d.mem := rfl
@[simp] theorem Dev.setOwn_cmem (d : Dev) (req a : Nat) (w : Word) : (d.setOwn req a w).cmem = d.cmem := rfl
@[simp] theorem Dev.setOwn_mram (d : Dev) (req a : Nat) (w : Word) : (d.setOwn req a w).mram = d.mram := rfl
@[simp] theorem Dev.setOwn_out (d : Dev) (req a : Nat) (w : Word) : (d.setOwn req a w).out = d.out := rfl
@[simp] theorem Dev.setOwn_bus (d : Dev) (req a : Nat) (w : Word) : (d.setOwn req a w).bus = d.bus := rfl
@[simp] theorem Dev.setOwn_rst (d : Dev) (req a : Nat) (w : Word) : (d.setOwn req a w).rst = d.rst := rfl
@[simp] theorem Dev.setOwn_clk (d : Dev) (req a : Nat) (w : Word) : (d.setOwn req a w).clk = d.clk := rfl
@[simp] theorem Dev.setOwn_icu (d : Dev) (req a : Nat) (w : Word) : (d.setOwn req a w).icu = d.icu := rfl
@[simp] theorem Dev.setOwn_tmr (d : Dev) (req a : Nat) (w : Word) : (d.setOwn req a w).tmr = d.tmr := rfl
@[simp] theorem Dev.setOwn_tmrEv (d : Dev) (req a : Nat) (w : Word) : (d.setOwn req a w).tmrEv = d.tmrEv := rfl
@[simp] theorem Dev.setOwn_rak (d : Dev) (req a : Nat) (w : Word) : (d.setOwn req a w).rak = d.rak := rfl
@[simp] theorem Dev.setOwn_hif (d : Dev) (req a : Nat) (w : Word) : (d.setOwn req a w).hif = d.hif := rfl
@[simp] theorem Dev.setOwn_qmg (d : Dev) (req a : Nat) (w : Word) : (d.setOwn req a w).qmg = d.qmg := rfl
@[simp] theorem Dev.setOwn_mgs (d : Dev) (req a : Nat) (w : Word) : (d.setOwn req a w).mgs = d.mgs := rfl
@[simp] theorem Dev.setOwn_logq (d : Dev) (req a : Nat) (w : Word) : (d.setOwn req a w).logq = d.logq := rfl
@[simp] theorem Dev.setOwn_clr (d : Dev) (req a : Nat) (w : Word) : (d.setOwn req a w).clr = d.clr := rfl
@[simp] theorem Dev.setOwn_dbg (d : Dev) (req a : Nat) (w : Word) : (d.setOwn req a w).dbg = d.dbg := rfl
@[simp] theorem Dev.setOwn_sns (d : Dev) (req a : Nat) (w : Word) : (d.setOwn req a w).sns = d.sns := rfl
@[simp] theorem Dev.setOwn_trk (d : Dev) (req a : Nat) (w : Word) : (d.setOwn req a w).trk = d.trk := rfl
@[simp] theorem Dev.setOwn_prd (d : Dev) (req a : Nat) (w : Word) : (d.setOwn req a w).prd = d.prd := rfl
@[simp] theorem Dev.setOwn_qry (d : Dev) (req a : Nat) (w : Word) : (d.setOwn req a w).qry = d.qry := rfl
@[simp] theorem Dev.setOwn_sch (d : Dev) (req a : Nat) (w : Word) : (d.setOwn req a w).sch = d.sch := rfl
@[simp] theorem Dev.setOwn_prs (d : Dev) (req a : Nat) (w : Word) : (d.setOwn req a w).prs = d.prs := rfl
@[simp] theorem Dev.setOwn_lnk (d : Dev) (req a : Nat) (w : Word) : (d.setOwn req a w).lnk = d.lnk := rfl
@[simp] theorem Dev.setOwn_tile (d : Dev) (req a : Nat) (w : Word) : (d.setOwn req a w).tile = d.tile := rfl
@[simp] theorem Dev.setOwn_cdt (d : Dev) (req a : Nat) (w : Word) : (d.setOwn req a w).cdt = d.cdt := rfl
@[simp] theorem Dev.setOwn_mir (d : Dev) (req a : Nat) (w : Word) : (d.setOwn req a w).mir = d.mir := rfl
@[simp] theorem Dev.setOwn_adc (d : Dev) (req a : Nat) (w : Word) : (d.setOwn req a w).adc = d.adc := rfl
@[simp] theorem Dev.setOwn_enc (d : Dev) (req a : Nat) (w : Word) : (d.setOwn req a w).enc = d.enc := rfl
@[simp] theorem Dev.setOwn_tlog (d : Dev) (req a : Nat) (w : Word) : (d.setOwn req a w).tlog = d.tlog := rfl
@[simp] theorem Dev.setOwn_amark (d : Dev) (req a : Nat) (w : Word) : (d.setOwn req a w).amark = d.amark := rfl
@[simp] theorem Dev.setOwn_ertDiv (d : Dev) (req a : Nat) (w : Word) : (d.setOwn req a w).ertDiv = d.ertDiv := rfl

/-! ### Dev.emit -/

@[simp] theorem Dev.emit_now (d : Dev) (o : HostOut) : (d.emit o).now = d.now := rfl
@[simp] theorem Dev.emit_fab (d : Dev) (o : HostOut) : (d.emit o).fab = d.fab := rfl
@[simp] theorem Dev.emit_draw (d : Dev) (o : HostOut) : (d.emit o).draw = d.draw := rfl
@[simp] theorem Dev.emit_reg (d : Dev) (o : HostOut) : (d.emit o).reg = d.reg := rfl
@[simp] theorem Dev.emit_shd (d : Dev) (o : HostOut) : (d.emit o).shd = d.shd := rfl
@[simp] theorem Dev.emit_preq (d : Dev) (o : HostOut) : (d.emit o).preq = d.preq := rfl
@[simp] theorem Dev.emit_cel (d : Dev) (o : HostOut) : (d.emit o).cel = d.cel := rfl
@[simp] theorem Dev.emit_corks (d : Dev) (o : HostOut) : (d.emit o).corks = d.corks := rfl
@[simp] theorem Dev.emit_causes (d : Dev) (o : HostOut) : (d.emit o).causes = d.causes := rfl
@[simp] theorem Dev.emit_fltNew (d : Dev) (o : HostOut) : (d.emit o).fltNew = d.fltNew := rfl
@[simp] theorem Dev.emit_kept (d : Dev) (o : HostOut) : (d.emit o).kept = d.kept := rfl
@[simp] theorem Dev.emit_mem (d : Dev) (o : HostOut) : (d.emit o).mem = d.mem := rfl
@[simp] theorem Dev.emit_cmem (d : Dev) (o : HostOut) : (d.emit o).cmem = d.cmem := rfl
@[simp] theorem Dev.emit_mram (d : Dev) (o : HostOut) : (d.emit o).mram = d.mram := rfl
@[simp] theorem Dev.emit_bus (d : Dev) (o : HostOut) : (d.emit o).bus = d.bus := rfl
@[simp] theorem Dev.emit_rst (d : Dev) (o : HostOut) : (d.emit o).rst = d.rst := rfl
@[simp] theorem Dev.emit_clk (d : Dev) (o : HostOut) : (d.emit o).clk = d.clk := rfl
@[simp] theorem Dev.emit_icu (d : Dev) (o : HostOut) : (d.emit o).icu = d.icu := rfl
@[simp] theorem Dev.emit_tmr (d : Dev) (o : HostOut) : (d.emit o).tmr = d.tmr := rfl
@[simp] theorem Dev.emit_tmrEv (d : Dev) (o : HostOut) : (d.emit o).tmrEv = d.tmrEv := rfl
@[simp] theorem Dev.emit_rak (d : Dev) (o : HostOut) : (d.emit o).rak = d.rak := rfl
@[simp] theorem Dev.emit_hif (d : Dev) (o : HostOut) : (d.emit o).hif = d.hif := rfl
@[simp] theorem Dev.emit_qmg (d : Dev) (o : HostOut) : (d.emit o).qmg = d.qmg := rfl
@[simp] theorem Dev.emit_mgs (d : Dev) (o : HostOut) : (d.emit o).mgs = d.mgs := rfl
@[simp] theorem Dev.emit_logq (d : Dev) (o : HostOut) : (d.emit o).logq = d.logq := rfl
@[simp] theorem Dev.emit_clr (d : Dev) (o : HostOut) : (d.emit o).clr = d.clr := rfl
@[simp] theorem Dev.emit_dbg (d : Dev) (o : HostOut) : (d.emit o).dbg = d.dbg := rfl
@[simp] theorem Dev.emit_sns (d : Dev) (o : HostOut) : (d.emit o).sns = d.sns := rfl
@[simp] theorem Dev.emit_trk (d : Dev) (o : HostOut) : (d.emit o).trk = d.trk := rfl
@[simp] theorem Dev.emit_prd (d : Dev) (o : HostOut) : (d.emit o).prd = d.prd := rfl
@[simp] theorem Dev.emit_qry (d : Dev) (o : HostOut) : (d.emit o).qry = d.qry := rfl
@[simp] theorem Dev.emit_sch (d : Dev) (o : HostOut) : (d.emit o).sch = d.sch := rfl
@[simp] theorem Dev.emit_prs (d : Dev) (o : HostOut) : (d.emit o).prs = d.prs := rfl
@[simp] theorem Dev.emit_lnk (d : Dev) (o : HostOut) : (d.emit o).lnk = d.lnk := rfl
@[simp] theorem Dev.emit_tile (d : Dev) (o : HostOut) : (d.emit o).tile = d.tile := rfl
@[simp] theorem Dev.emit_cdt (d : Dev) (o : HostOut) : (d.emit o).cdt = d.cdt := rfl
@[simp] theorem Dev.emit_mir (d : Dev) (o : HostOut) : (d.emit o).mir = d.mir := rfl
@[simp] theorem Dev.emit_adc (d : Dev) (o : HostOut) : (d.emit o).adc = d.adc := rfl
@[simp] theorem Dev.emit_enc (d : Dev) (o : HostOut) : (d.emit o).enc = d.enc := rfl
@[simp] theorem Dev.emit_tlog (d : Dev) (o : HostOut) : (d.emit o).tlog = d.tlog := rfl
@[simp] theorem Dev.emit_amark (d : Dev) (o : HostOut) : (d.emit o).amark = d.amark := rfl
@[simp] theorem Dev.emit_ertDiv (d : Dev) (o : HostOut) : (d.emit o).ertDiv = d.ertDiv := rfl

/-! ### Dev.causeOff -/

@[simp] theorem Dev.causeOff_now (d : Dev) (b c i : Nat) : (d.causeOff b c i).now = d.now := rfl
@[simp] theorem Dev.causeOff_fab (d : Dev) (b c i : Nat) : (d.causeOff b c i).fab = d.fab := rfl
@[simp] theorem Dev.causeOff_draw (d : Dev) (b c i : Nat) : (d.causeOff b c i).draw = d.draw := rfl
@[simp] theorem Dev.causeOff_reg (d : Dev) (b c i : Nat) : (d.causeOff b c i).reg = d.reg := rfl
@[simp] theorem Dev.causeOff_shd (d : Dev) (b c i : Nat) : (d.causeOff b c i).shd = d.shd := rfl
@[simp] theorem Dev.causeOff_preq (d : Dev) (b c i : Nat) : (d.causeOff b c i).preq = d.preq := rfl
@[simp] theorem Dev.causeOff_cel (d : Dev) (b c i : Nat) : (d.causeOff b c i).cel = d.cel := rfl
@[simp] theorem Dev.causeOff_corks (d : Dev) (b c i : Nat) : (d.causeOff b c i).corks = d.corks := rfl
@[simp] theorem Dev.causeOff_fltNew (d : Dev) (b c i : Nat) : (d.causeOff b c i).fltNew = d.fltNew := rfl
@[simp] theorem Dev.causeOff_kept (d : Dev) (b c i : Nat) : (d.causeOff b c i).kept = d.kept := rfl
@[simp] theorem Dev.causeOff_mem (d : Dev) (b c i : Nat) : (d.causeOff b c i).mem = d.mem := rfl
@[simp] theorem Dev.causeOff_cmem (d : Dev) (b c i : Nat) : (d.causeOff b c i).cmem = d.cmem := rfl
@[simp] theorem Dev.causeOff_mram (d : Dev) (b c i : Nat) : (d.causeOff b c i).mram = d.mram := rfl
@[simp] theorem Dev.causeOff_out (d : Dev) (b c i : Nat) : (d.causeOff b c i).out = d.out := rfl
@[simp] theorem Dev.causeOff_bus (d : Dev) (b c i : Nat) : (d.causeOff b c i).bus = d.bus := rfl
@[simp] theorem Dev.causeOff_rst (d : Dev) (b c i : Nat) : (d.causeOff b c i).rst = d.rst := rfl
@[simp] theorem Dev.causeOff_clk (d : Dev) (b c i : Nat) : (d.causeOff b c i).clk = d.clk := rfl
@[simp] theorem Dev.causeOff_icu (d : Dev) (b c i : Nat) : (d.causeOff b c i).icu = d.icu := rfl
@[simp] theorem Dev.causeOff_tmr (d : Dev) (b c i : Nat) : (d.causeOff b c i).tmr = d.tmr := rfl
@[simp] theorem Dev.causeOff_tmrEv (d : Dev) (b c i : Nat) : (d.causeOff b c i).tmrEv = d.tmrEv := rfl
@[simp] theorem Dev.causeOff_rak (d : Dev) (b c i : Nat) : (d.causeOff b c i).rak = d.rak := rfl
@[simp] theorem Dev.causeOff_hif (d : Dev) (b c i : Nat) : (d.causeOff b c i).hif = d.hif := rfl
@[simp] theorem Dev.causeOff_qmg (d : Dev) (b c i : Nat) : (d.causeOff b c i).qmg = d.qmg := rfl
@[simp] theorem Dev.causeOff_mgs (d : Dev) (b c i : Nat) : (d.causeOff b c i).mgs = d.mgs := rfl
@[simp] theorem Dev.causeOff_logq (d : Dev) (b c i : Nat) : (d.causeOff b c i).logq = d.logq := rfl
@[simp] theorem Dev.causeOff_clr (d : Dev) (b c i : Nat) : (d.causeOff b c i).clr = d.clr := rfl
@[simp] theorem Dev.causeOff_dbg (d : Dev) (b c i : Nat) : (d.causeOff b c i).dbg = d.dbg := rfl
@[simp] theorem Dev.causeOff_sns (d : Dev) (b c i : Nat) : (d.causeOff b c i).sns = d.sns := rfl
@[simp] theorem Dev.causeOff_trk (d : Dev) (b c i : Nat) : (d.causeOff b c i).trk = d.trk := rfl
@[simp] theorem Dev.causeOff_prd (d : Dev) (b c i : Nat) : (d.causeOff b c i).prd = d.prd := rfl
@[simp] theorem Dev.causeOff_qry (d : Dev) (b c i : Nat) : (d.causeOff b c i).qry = d.qry := rfl
@[simp] theorem Dev.causeOff_sch (d : Dev) (b c i : Nat) : (d.causeOff b c i).sch = d.sch := rfl
@[simp] theorem Dev.causeOff_prs (d : Dev) (b c i : Nat) : (d.causeOff b c i).prs = d.prs := rfl
@[simp] theorem Dev.causeOff_lnk (d : Dev) (b c i : Nat) : (d.causeOff b c i).lnk = d.lnk := rfl
@[simp] theorem Dev.causeOff_tile (d : Dev) (b c i : Nat) : (d.causeOff b c i).tile = d.tile := rfl
@[simp] theorem Dev.causeOff_cdt (d : Dev) (b c i : Nat) : (d.causeOff b c i).cdt = d.cdt := rfl
@[simp] theorem Dev.causeOff_mir (d : Dev) (b c i : Nat) : (d.causeOff b c i).mir = d.mir := rfl
@[simp] theorem Dev.causeOff_adc (d : Dev) (b c i : Nat) : (d.causeOff b c i).adc = d.adc := rfl
@[simp] theorem Dev.causeOff_enc (d : Dev) (b c i : Nat) : (d.causeOff b c i).enc = d.enc := rfl
@[simp] theorem Dev.causeOff_tlog (d : Dev) (b c i : Nat) : (d.causeOff b c i).tlog = d.tlog := rfl
@[simp] theorem Dev.causeOff_amark (d : Dev) (b c i : Nat) : (d.causeOff b c i).amark = d.amark := rfl
@[simp] theorem Dev.causeOff_ertDiv (d : Dev) (b c i : Nat) : (d.causeOff b c i).ertDiv = d.ertDiv := rfl

/-! ### Dev.corkEnd -/

@[simp] theorem Dev.corkEnd_now (d : Dev) (a : Nat) : (d.corkEnd a).now = d.now := rfl
@[simp] theorem Dev.corkEnd_fab (d : Dev) (a : Nat) : (d.corkEnd a).fab = d.fab := rfl
@[simp] theorem Dev.corkEnd_draw (d : Dev) (a : Nat) : (d.corkEnd a).draw = d.draw := rfl
@[simp] theorem Dev.corkEnd_reg (d : Dev) (a : Nat) : (d.corkEnd a).reg = d.reg := rfl
@[simp] theorem Dev.corkEnd_shd (d : Dev) (a : Nat) : (d.corkEnd a).shd = d.shd := rfl
@[simp] theorem Dev.corkEnd_preq (d : Dev) (a : Nat) : (d.corkEnd a).preq = d.preq := rfl
@[simp] theorem Dev.corkEnd_cel (d : Dev) (a : Nat) : (d.corkEnd a).cel = d.cel := rfl
@[simp] theorem Dev.corkEnd_causes (d : Dev) (a : Nat) : (d.corkEnd a).causes = d.causes := rfl
@[simp] theorem Dev.corkEnd_fltNew (d : Dev) (a : Nat) : (d.corkEnd a).fltNew = d.fltNew := rfl
@[simp] theorem Dev.corkEnd_kept (d : Dev) (a : Nat) : (d.corkEnd a).kept = d.kept := rfl
@[simp] theorem Dev.corkEnd_mem (d : Dev) (a : Nat) : (d.corkEnd a).mem = d.mem := rfl
@[simp] theorem Dev.corkEnd_cmem (d : Dev) (a : Nat) : (d.corkEnd a).cmem = d.cmem := rfl
@[simp] theorem Dev.corkEnd_mram (d : Dev) (a : Nat) : (d.corkEnd a).mram = d.mram := rfl
@[simp] theorem Dev.corkEnd_out (d : Dev) (a : Nat) : (d.corkEnd a).out = d.out := rfl
@[simp] theorem Dev.corkEnd_bus (d : Dev) (a : Nat) : (d.corkEnd a).bus = d.bus := rfl
@[simp] theorem Dev.corkEnd_rst (d : Dev) (a : Nat) : (d.corkEnd a).rst = d.rst := rfl
@[simp] theorem Dev.corkEnd_clk (d : Dev) (a : Nat) : (d.corkEnd a).clk = d.clk := rfl
@[simp] theorem Dev.corkEnd_icu (d : Dev) (a : Nat) : (d.corkEnd a).icu = d.icu := rfl
@[simp] theorem Dev.corkEnd_tmr (d : Dev) (a : Nat) : (d.corkEnd a).tmr = d.tmr := rfl
@[simp] theorem Dev.corkEnd_tmrEv (d : Dev) (a : Nat) : (d.corkEnd a).tmrEv = d.tmrEv := rfl
@[simp] theorem Dev.corkEnd_rak (d : Dev) (a : Nat) : (d.corkEnd a).rak = d.rak := rfl
@[simp] theorem Dev.corkEnd_hif (d : Dev) (a : Nat) : (d.corkEnd a).hif = d.hif := rfl
@[simp] theorem Dev.corkEnd_qmg (d : Dev) (a : Nat) : (d.corkEnd a).qmg = d.qmg := rfl
@[simp] theorem Dev.corkEnd_mgs (d : Dev) (a : Nat) : (d.corkEnd a).mgs = d.mgs := rfl
@[simp] theorem Dev.corkEnd_logq (d : Dev) (a : Nat) : (d.corkEnd a).logq = d.logq := rfl
@[simp] theorem Dev.corkEnd_clr (d : Dev) (a : Nat) : (d.corkEnd a).clr = d.clr := rfl
@[simp] theorem Dev.corkEnd_dbg (d : Dev) (a : Nat) : (d.corkEnd a).dbg = d.dbg := rfl
@[simp] theorem Dev.corkEnd_sns (d : Dev) (a : Nat) : (d.corkEnd a).sns = d.sns := rfl
@[simp] theorem Dev.corkEnd_trk (d : Dev) (a : Nat) : (d.corkEnd a).trk = d.trk := rfl
@[simp] theorem Dev.corkEnd_prd (d : Dev) (a : Nat) : (d.corkEnd a).prd = d.prd := rfl
@[simp] theorem Dev.corkEnd_qry (d : Dev) (a : Nat) : (d.corkEnd a).qry = d.qry := rfl
@[simp] theorem Dev.corkEnd_sch (d : Dev) (a : Nat) : (d.corkEnd a).sch = d.sch := rfl
@[simp] theorem Dev.corkEnd_prs (d : Dev) (a : Nat) : (d.corkEnd a).prs = d.prs := rfl
@[simp] theorem Dev.corkEnd_lnk (d : Dev) (a : Nat) : (d.corkEnd a).lnk = d.lnk := rfl
@[simp] theorem Dev.corkEnd_tile (d : Dev) (a : Nat) : (d.corkEnd a).tile = d.tile := rfl
@[simp] theorem Dev.corkEnd_cdt (d : Dev) (a : Nat) : (d.corkEnd a).cdt = d.cdt := rfl
@[simp] theorem Dev.corkEnd_mir (d : Dev) (a : Nat) : (d.corkEnd a).mir = d.mir := rfl
@[simp] theorem Dev.corkEnd_adc (d : Dev) (a : Nat) : (d.corkEnd a).adc = d.adc := rfl
@[simp] theorem Dev.corkEnd_enc (d : Dev) (a : Nat) : (d.corkEnd a).enc = d.enc := rfl
@[simp] theorem Dev.corkEnd_tlog (d : Dev) (a : Nat) : (d.corkEnd a).tlog = d.tlog := rfl
@[simp] theorem Dev.corkEnd_amark (d : Dev) (a : Nat) : (d.corkEnd a).amark = d.amark := rfl
@[simp] theorem Dev.corkEnd_ertDiv (d : Dev) (a : Nat) : (d.corkEnd a).ertDiv = d.ertDiv := rfl

/-! ### Dev.ret -/

@[simp] theorem Dev.ret_now (d : Dev) (req data : Nat) : (d.ret req data).now = d.now := rfl
@[simp] theorem Dev.ret_fab (d : Dev) (req data : Nat) : (d.ret req data).fab = d.fab := rfl
@[simp] theorem Dev.ret_draw (d : Dev) (req data : Nat) : (d.ret req data).draw = d.draw := rfl
@[simp] theorem Dev.ret_reg (d : Dev) (req data : Nat) : (d.ret req data).reg = d.reg := rfl
@[simp] theorem Dev.ret_shd (d : Dev) (req data : Nat) : (d.ret req data).shd = d.shd := rfl
@[simp] theorem Dev.ret_preq (d : Dev) (req data : Nat) : (d.ret req data).preq = d.preq := rfl
@[simp] theorem Dev.ret_cel (d : Dev) (req data : Nat) : (d.ret req data).cel = d.cel := rfl
@[simp] theorem Dev.ret_corks (d : Dev) (req data : Nat) : (d.ret req data).corks = d.corks := rfl
@[simp] theorem Dev.ret_causes (d : Dev) (req data : Nat) : (d.ret req data).causes = d.causes := rfl
@[simp] theorem Dev.ret_fltNew (d : Dev) (req data : Nat) : (d.ret req data).fltNew = d.fltNew := rfl
@[simp] theorem Dev.ret_kept (d : Dev) (req data : Nat) : (d.ret req data).kept = d.kept := rfl
@[simp] theorem Dev.ret_mem (d : Dev) (req data : Nat) : (d.ret req data).mem = d.mem := rfl
@[simp] theorem Dev.ret_cmem (d : Dev) (req data : Nat) : (d.ret req data).cmem = d.cmem := rfl
@[simp] theorem Dev.ret_mram (d : Dev) (req data : Nat) : (d.ret req data).mram = d.mram := rfl
@[simp] theorem Dev.ret_out (d : Dev) (req data : Nat) : (d.ret req data).out = d.out := rfl
@[simp] theorem Dev.ret_rst (d : Dev) (req data : Nat) : (d.ret req data).rst = d.rst := rfl
@[simp] theorem Dev.ret_clk (d : Dev) (req data : Nat) : (d.ret req data).clk = d.clk := rfl
@[simp] theorem Dev.ret_icu (d : Dev) (req data : Nat) : (d.ret req data).icu = d.icu := rfl
@[simp] theorem Dev.ret_tmr (d : Dev) (req data : Nat) : (d.ret req data).tmr = d.tmr := rfl
@[simp] theorem Dev.ret_tmrEv (d : Dev) (req data : Nat) : (d.ret req data).tmrEv = d.tmrEv := rfl
@[simp] theorem Dev.ret_rak (d : Dev) (req data : Nat) : (d.ret req data).rak = d.rak := rfl
@[simp] theorem Dev.ret_hif (d : Dev) (req data : Nat) : (d.ret req data).hif = d.hif := rfl
@[simp] theorem Dev.ret_qmg (d : Dev) (req data : Nat) : (d.ret req data).qmg = d.qmg := rfl
@[simp] theorem Dev.ret_mgs (d : Dev) (req data : Nat) : (d.ret req data).mgs = d.mgs := rfl
@[simp] theorem Dev.ret_logq (d : Dev) (req data : Nat) : (d.ret req data).logq = d.logq := rfl
@[simp] theorem Dev.ret_clr (d : Dev) (req data : Nat) : (d.ret req data).clr = d.clr := rfl
@[simp] theorem Dev.ret_dbg (d : Dev) (req data : Nat) : (d.ret req data).dbg = d.dbg := rfl
@[simp] theorem Dev.ret_sns (d : Dev) (req data : Nat) : (d.ret req data).sns = d.sns := rfl
@[simp] theorem Dev.ret_trk (d : Dev) (req data : Nat) : (d.ret req data).trk = d.trk := rfl
@[simp] theorem Dev.ret_prd (d : Dev) (req data : Nat) : (d.ret req data).prd = d.prd := rfl
@[simp] theorem Dev.ret_qry (d : Dev) (req data : Nat) : (d.ret req data).qry = d.qry := rfl
@[simp] theorem Dev.ret_sch (d : Dev) (req data : Nat) : (d.ret req data).sch = d.sch := rfl
@[simp] theorem Dev.ret_prs (d : Dev) (req data : Nat) : (d.ret req data).prs = d.prs := rfl
@[simp] theorem Dev.ret_lnk (d : Dev) (req data : Nat) : (d.ret req data).lnk = d.lnk := rfl
@[simp] theorem Dev.ret_tile (d : Dev) (req data : Nat) : (d.ret req data).tile = d.tile := rfl
@[simp] theorem Dev.ret_cdt (d : Dev) (req data : Nat) : (d.ret req data).cdt = d.cdt := rfl
@[simp] theorem Dev.ret_mir (d : Dev) (req data : Nat) : (d.ret req data).mir = d.mir := rfl
@[simp] theorem Dev.ret_adc (d : Dev) (req data : Nat) : (d.ret req data).adc = d.adc := rfl
@[simp] theorem Dev.ret_enc (d : Dev) (req data : Nat) : (d.ret req data).enc = d.enc := rfl
@[simp] theorem Dev.ret_tlog (d : Dev) (req data : Nat) : (d.ret req data).tlog = d.tlog := rfl
@[simp] theorem Dev.ret_amark (d : Dev) (req data : Nat) : (d.ret req data).amark = d.amark := rfl
@[simp] theorem Dev.ret_ertDiv (d : Dev) (req data : Nat) : (d.ret req data).ertDiv = d.ertDiv := rfl

/-! ### Dev.setTk -/

@[simp] theorem Dev.setTk_now (d : Dev) (k : Nat) (t : Trk) : (d.setTk k t).now = d.now := rfl
@[simp] theorem Dev.setTk_fab (d : Dev) (k : Nat) (t : Trk) : (d.setTk k t).fab = d.fab := rfl
@[simp] theorem Dev.setTk_draw (d : Dev) (k : Nat) (t : Trk) : (d.setTk k t).draw = d.draw := rfl
@[simp] theorem Dev.setTk_reg (d : Dev) (k : Nat) (t : Trk) : (d.setTk k t).reg = d.reg := rfl
@[simp] theorem Dev.setTk_shd (d : Dev) (k : Nat) (t : Trk) : (d.setTk k t).shd = d.shd := rfl
@[simp] theorem Dev.setTk_preq (d : Dev) (k : Nat) (t : Trk) : (d.setTk k t).preq = d.preq := rfl
@[simp] theorem Dev.setTk_cel (d : Dev) (k : Nat) (t : Trk) : (d.setTk k t).cel = d.cel := rfl
@[simp] theorem Dev.setTk_corks (d : Dev) (k : Nat) (t : Trk) : (d.setTk k t).corks = d.corks := rfl
@[simp] theorem Dev.setTk_causes (d : Dev) (k : Nat) (t : Trk) : (d.setTk k t).causes = d.causes := rfl
@[simp] theorem Dev.setTk_fltNew (d : Dev) (k : Nat) (t : Trk) : (d.setTk k t).fltNew = d.fltNew := rfl
@[simp] theorem Dev.setTk_kept (d : Dev) (k : Nat) (t : Trk) : (d.setTk k t).kept = d.kept := rfl
@[simp] theorem Dev.setTk_mem (d : Dev) (k : Nat) (t : Trk) : (d.setTk k t).mem = d.mem := rfl
@[simp] theorem Dev.setTk_cmem (d : Dev) (k : Nat) (t : Trk) : (d.setTk k t).cmem = d.cmem := rfl
@[simp] theorem Dev.setTk_mram (d : Dev) (k : Nat) (t : Trk) : (d.setTk k t).mram = d.mram := rfl
@[simp] theorem Dev.setTk_out (d : Dev) (k : Nat) (t : Trk) : (d.setTk k t).out = d.out := rfl
@[simp] theorem Dev.setTk_bus (d : Dev) (k : Nat) (t : Trk) : (d.setTk k t).bus = d.bus := rfl
@[simp] theorem Dev.setTk_rst (d : Dev) (k : Nat) (t : Trk) : (d.setTk k t).rst = d.rst := rfl
@[simp] theorem Dev.setTk_clk (d : Dev) (k : Nat) (t : Trk) : (d.setTk k t).clk = d.clk := rfl
@[simp] theorem Dev.setTk_icu (d : Dev) (k : Nat) (t : Trk) : (d.setTk k t).icu = d.icu := rfl
@[simp] theorem Dev.setTk_tmr (d : Dev) (k : Nat) (t : Trk) : (d.setTk k t).tmr = d.tmr := rfl
@[simp] theorem Dev.setTk_tmrEv (d : Dev) (k : Nat) (t : Trk) : (d.setTk k t).tmrEv = d.tmrEv := rfl
@[simp] theorem Dev.setTk_rak (d : Dev) (k : Nat) (t : Trk) : (d.setTk k t).rak = d.rak := rfl
@[simp] theorem Dev.setTk_hif (d : Dev) (k : Nat) (t : Trk) : (d.setTk k t).hif = d.hif := rfl
@[simp] theorem Dev.setTk_qmg (d : Dev) (k : Nat) (t : Trk) : (d.setTk k t).qmg = d.qmg := rfl
@[simp] theorem Dev.setTk_mgs (d : Dev) (k : Nat) (t : Trk) : (d.setTk k t).mgs = d.mgs := rfl
@[simp] theorem Dev.setTk_logq (d : Dev) (k : Nat) (t : Trk) : (d.setTk k t).logq = d.logq := rfl
@[simp] theorem Dev.setTk_clr (d : Dev) (k : Nat) (t : Trk) : (d.setTk k t).clr = d.clr := rfl
@[simp] theorem Dev.setTk_dbg (d : Dev) (k : Nat) (t : Trk) : (d.setTk k t).dbg = d.dbg := rfl
@[simp] theorem Dev.setTk_sns (d : Dev) (k : Nat) (t : Trk) : (d.setTk k t).sns = d.sns := rfl
@[simp] theorem Dev.setTk_prd (d : Dev) (k : Nat) (t : Trk) : (d.setTk k t).prd = d.prd := rfl
@[simp] theorem Dev.setTk_qry (d : Dev) (k : Nat) (t : Trk) : (d.setTk k t).qry = d.qry := rfl
@[simp] theorem Dev.setTk_sch (d : Dev) (k : Nat) (t : Trk) : (d.setTk k t).sch = d.sch := rfl
@[simp] theorem Dev.setTk_prs (d : Dev) (k : Nat) (t : Trk) : (d.setTk k t).prs = d.prs := rfl
@[simp] theorem Dev.setTk_lnk (d : Dev) (k : Nat) (t : Trk) : (d.setTk k t).lnk = d.lnk := rfl
@[simp] theorem Dev.setTk_tile (d : Dev) (k : Nat) (t : Trk) : (d.setTk k t).tile = d.tile := rfl
@[simp] theorem Dev.setTk_cdt (d : Dev) (k : Nat) (t : Trk) : (d.setTk k t).cdt = d.cdt := rfl
@[simp] theorem Dev.setTk_mir (d : Dev) (k : Nat) (t : Trk) : (d.setTk k t).mir = d.mir := rfl
@[simp] theorem Dev.setTk_adc (d : Dev) (k : Nat) (t : Trk) : (d.setTk k t).adc = d.adc := rfl
@[simp] theorem Dev.setTk_enc (d : Dev) (k : Nat) (t : Trk) : (d.setTk k t).enc = d.enc := rfl
@[simp] theorem Dev.setTk_tlog (d : Dev) (k : Nat) (t : Trk) : (d.setTk k t).tlog = d.tlog := rfl
@[simp] theorem Dev.setTk_amark (d : Dev) (k : Nat) (t : Trk) : (d.setTk k t).amark = d.amark := rfl
@[simp] theorem Dev.setTk_ertDiv (d : Dev) (k : Nat) (t : Trk) : (d.setTk k t).ertDiv = d.ertDiv := rfl

/-! ### Dev.setPs -/

@[simp] theorem Dev.setPs_now (d : Dev) (k : Nat) (p : Prs) : (d.setPs k p).now = d.now := rfl
@[simp] theorem Dev.setPs_fab (d : Dev) (k : Nat) (p : Prs) : (d.setPs k p).fab = d.fab := rfl
@[simp] theorem Dev.setPs_draw (d : Dev) (k : Nat) (p : Prs) : (d.setPs k p).draw = d.draw := rfl
@[simp] theorem Dev.setPs_reg (d : Dev) (k : Nat) (p : Prs) : (d.setPs k p).reg = d.reg := rfl
@[simp] theorem Dev.setPs_shd (d : Dev) (k : Nat) (p : Prs) : (d.setPs k p).shd = d.shd := rfl
@[simp] theorem Dev.setPs_preq (d : Dev) (k : Nat) (p : Prs) : (d.setPs k p).preq = d.preq := rfl
@[simp] theorem Dev.setPs_cel (d : Dev) (k : Nat) (p : Prs) : (d.setPs k p).cel = d.cel := rfl
@[simp] theorem Dev.setPs_corks (d : Dev) (k : Nat) (p : Prs) : (d.setPs k p).corks = d.corks := rfl
@[simp] theorem Dev.setPs_causes (d : Dev) (k : Nat) (p : Prs) : (d.setPs k p).causes = d.causes := rfl
@[simp] theorem Dev.setPs_fltNew (d : Dev) (k : Nat) (p : Prs) : (d.setPs k p).fltNew = d.fltNew := rfl
@[simp] theorem Dev.setPs_kept (d : Dev) (k : Nat) (p : Prs) : (d.setPs k p).kept = d.kept := rfl
@[simp] theorem Dev.setPs_mem (d : Dev) (k : Nat) (p : Prs) : (d.setPs k p).mem = d.mem := rfl
@[simp] theorem Dev.setPs_cmem (d : Dev) (k : Nat) (p : Prs) : (d.setPs k p).cmem = d.cmem := rfl
@[simp] theorem Dev.setPs_mram (d : Dev) (k : Nat) (p : Prs) : (d.setPs k p).mram = d.mram := rfl
@[simp] theorem Dev.setPs_out (d : Dev) (k : Nat) (p : Prs) : (d.setPs k p).out = d.out := rfl
@[simp] theorem Dev.setPs_bus (d : Dev) (k : Nat) (p : Prs) : (d.setPs k p).bus = d.bus := rfl
@[simp] theorem Dev.setPs_rst (d : Dev) (k : Nat) (p : Prs) : (d.setPs k p).rst = d.rst := rfl
@[simp] theorem Dev.setPs_clk (d : Dev) (k : Nat) (p : Prs) : (d.setPs k p).clk = d.clk := rfl
@[simp] theorem Dev.setPs_icu (d : Dev) (k : Nat) (p : Prs) : (d.setPs k p).icu = d.icu := rfl
@[simp] theorem Dev.setPs_tmr (d : Dev) (k : Nat) (p : Prs) : (d.setPs k p).tmr = d.tmr := rfl
@[simp] theorem Dev.setPs_tmrEv (d : Dev) (k : Nat) (p : Prs) : (d.setPs k p).tmrEv = d.tmrEv := rfl
@[simp] theorem Dev.setPs_rak (d : Dev) (k : Nat) (p : Prs) : (d.setPs k p).rak = d.rak := rfl
@[simp] theorem Dev.setPs_hif (d : Dev) (k : Nat) (p : Prs) : (d.setPs k p).hif = d.hif := rfl
@[simp] theorem Dev.setPs_qmg (d : Dev) (k : Nat) (p : Prs) : (d.setPs k p).qmg = d.qmg := rfl
@[simp] theorem Dev.setPs_mgs (d : Dev) (k : Nat) (p : Prs) : (d.setPs k p).mgs = d.mgs := rfl
@[simp] theorem Dev.setPs_logq (d : Dev) (k : Nat) (p : Prs) : (d.setPs k p).logq = d.logq := rfl
@[simp] theorem Dev.setPs_clr (d : Dev) (k : Nat) (p : Prs) : (d.setPs k p).clr = d.clr := rfl
@[simp] theorem Dev.setPs_dbg (d : Dev) (k : Nat) (p : Prs) : (d.setPs k p).dbg = d.dbg := rfl
@[simp] theorem Dev.setPs_sns (d : Dev) (k : Nat) (p : Prs) : (d.setPs k p).sns = d.sns := rfl
@[simp] theorem Dev.setPs_trk (d : Dev) (k : Nat) (p : Prs) : (d.setPs k p).trk = d.trk := rfl
@[simp] theorem Dev.setPs_prd (d : Dev) (k : Nat) (p : Prs) : (d.setPs k p).prd = d.prd := rfl
@[simp] theorem Dev.setPs_qry (d : Dev) (k : Nat) (p : Prs) : (d.setPs k p).qry = d.qry := rfl
@[simp] theorem Dev.setPs_sch (d : Dev) (k : Nat) (p : Prs) : (d.setPs k p).sch = d.sch := rfl
@[simp] theorem Dev.setPs_lnk (d : Dev) (k : Nat) (p : Prs) : (d.setPs k p).lnk = d.lnk := rfl
@[simp] theorem Dev.setPs_tile (d : Dev) (k : Nat) (p : Prs) : (d.setPs k p).tile = d.tile := rfl
@[simp] theorem Dev.setPs_cdt (d : Dev) (k : Nat) (p : Prs) : (d.setPs k p).cdt = d.cdt := rfl
@[simp] theorem Dev.setPs_mir (d : Dev) (k : Nat) (p : Prs) : (d.setPs k p).mir = d.mir := rfl
@[simp] theorem Dev.setPs_adc (d : Dev) (k : Nat) (p : Prs) : (d.setPs k p).adc = d.adc := rfl
@[simp] theorem Dev.setPs_enc (d : Dev) (k : Nat) (p : Prs) : (d.setPs k p).enc = d.enc := rfl
@[simp] theorem Dev.setPs_tlog (d : Dev) (k : Nat) (p : Prs) : (d.setPs k p).tlog = d.tlog := rfl
@[simp] theorem Dev.setPs_amark (d : Dev) (k : Nat) (p : Prs) : (d.setPs k p).amark = d.amark := rfl
@[simp] theorem Dev.setPs_ertDiv (d : Dev) (k : Nat) (p : Prs) : (d.setPs k p).ertDiv = d.ertDiv := rfl

/-! ### Dev.setTm -/

@[simp] theorem Dev.setTm_now (d : Dev) (n : Nat) (t : Tmr) : (d.setTm n t).now = d.now := rfl
@[simp] theorem Dev.setTm_fab (d : Dev) (n : Nat) (t : Tmr) : (d.setTm n t).fab = d.fab := rfl
@[simp] theorem Dev.setTm_draw (d : Dev) (n : Nat) (t : Tmr) : (d.setTm n t).draw = d.draw := rfl
@[simp] theorem Dev.setTm_reg (d : Dev) (n : Nat) (t : Tmr) : (d.setTm n t).reg = d.reg := rfl
@[simp] theorem Dev.setTm_shd (d : Dev) (n : Nat) (t : Tmr) : (d.setTm n t).shd = d.shd := rfl
@[simp] theorem Dev.setTm_preq (d : Dev) (n : Nat) (t : Tmr) : (d.setTm n t).preq = d.preq := rfl
@[simp] theorem Dev.setTm_cel (d : Dev) (n : Nat) (t : Tmr) : (d.setTm n t).cel = d.cel := rfl
@[simp] theorem Dev.setTm_corks (d : Dev) (n : Nat) (t : Tmr) : (d.setTm n t).corks = d.corks := rfl
@[simp] theorem Dev.setTm_causes (d : Dev) (n : Nat) (t : Tmr) : (d.setTm n t).causes = d.causes := rfl
@[simp] theorem Dev.setTm_fltNew (d : Dev) (n : Nat) (t : Tmr) : (d.setTm n t).fltNew = d.fltNew := rfl
@[simp] theorem Dev.setTm_kept (d : Dev) (n : Nat) (t : Tmr) : (d.setTm n t).kept = d.kept := rfl
@[simp] theorem Dev.setTm_mem (d : Dev) (n : Nat) (t : Tmr) : (d.setTm n t).mem = d.mem := rfl
@[simp] theorem Dev.setTm_cmem (d : Dev) (n : Nat) (t : Tmr) : (d.setTm n t).cmem = d.cmem := rfl
@[simp] theorem Dev.setTm_mram (d : Dev) (n : Nat) (t : Tmr) : (d.setTm n t).mram = d.mram := rfl
@[simp] theorem Dev.setTm_out (d : Dev) (n : Nat) (t : Tmr) : (d.setTm n t).out = d.out := rfl
@[simp] theorem Dev.setTm_bus (d : Dev) (n : Nat) (t : Tmr) : (d.setTm n t).bus = d.bus := rfl
@[simp] theorem Dev.setTm_rst (d : Dev) (n : Nat) (t : Tmr) : (d.setTm n t).rst = d.rst := rfl
@[simp] theorem Dev.setTm_clk (d : Dev) (n : Nat) (t : Tmr) : (d.setTm n t).clk = d.clk := rfl
@[simp] theorem Dev.setTm_icu (d : Dev) (n : Nat) (t : Tmr) : (d.setTm n t).icu = d.icu := rfl
@[simp] theorem Dev.setTm_tmrEv (d : Dev) (n : Nat) (t : Tmr) : (d.setTm n t).tmrEv = d.tmrEv := rfl
@[simp] theorem Dev.setTm_rak (d : Dev) (n : Nat) (t : Tmr) : (d.setTm n t).rak = d.rak := rfl
@[simp] theorem Dev.setTm_hif (d : Dev) (n : Nat) (t : Tmr) : (d.setTm n t).hif = d.hif := rfl
@[simp] theorem Dev.setTm_qmg (d : Dev) (n : Nat) (t : Tmr) : (d.setTm n t).qmg = d.qmg := rfl
@[simp] theorem Dev.setTm_mgs (d : Dev) (n : Nat) (t : Tmr) : (d.setTm n t).mgs = d.mgs := rfl
@[simp] theorem Dev.setTm_logq (d : Dev) (n : Nat) (t : Tmr) : (d.setTm n t).logq = d.logq := rfl
@[simp] theorem Dev.setTm_clr (d : Dev) (n : Nat) (t : Tmr) : (d.setTm n t).clr = d.clr := rfl
@[simp] theorem Dev.setTm_dbg (d : Dev) (n : Nat) (t : Tmr) : (d.setTm n t).dbg = d.dbg := rfl
@[simp] theorem Dev.setTm_sns (d : Dev) (n : Nat) (t : Tmr) : (d.setTm n t).sns = d.sns := rfl
@[simp] theorem Dev.setTm_trk (d : Dev) (n : Nat) (t : Tmr) : (d.setTm n t).trk = d.trk := rfl
@[simp] theorem Dev.setTm_prd (d : Dev) (n : Nat) (t : Tmr) : (d.setTm n t).prd = d.prd := rfl
@[simp] theorem Dev.setTm_qry (d : Dev) (n : Nat) (t : Tmr) : (d.setTm n t).qry = d.qry := rfl
@[simp] theorem Dev.setTm_sch (d : Dev) (n : Nat) (t : Tmr) : (d.setTm n t).sch = d.sch := rfl
@[simp] theorem Dev.setTm_prs (d : Dev) (n : Nat) (t : Tmr) : (d.setTm n t).prs = d.prs := rfl
@[simp] theorem Dev.setTm_lnk (d : Dev) (n : Nat) (t : Tmr) : (d.setTm n t).lnk = d.lnk := rfl
@[simp] theorem Dev.setTm_tile (d : Dev) (n : Nat) (t : Tmr) : (d.setTm n t).tile = d.tile := rfl
@[simp] theorem Dev.setTm_cdt (d : Dev) (n : Nat) (t : Tmr) : (d.setTm n t).cdt = d.cdt := rfl
@[simp] theorem Dev.setTm_mir (d : Dev) (n : Nat) (t : Tmr) : (d.setTm n t).mir = d.mir := rfl
@[simp] theorem Dev.setTm_adc (d : Dev) (n : Nat) (t : Tmr) : (d.setTm n t).adc = d.adc := rfl
@[simp] theorem Dev.setTm_enc (d : Dev) (n : Nat) (t : Tmr) : (d.setTm n t).enc = d.enc := rfl
@[simp] theorem Dev.setTm_tlog (d : Dev) (n : Nat) (t : Tmr) : (d.setTm n t).tlog = d.tlog := rfl
@[simp] theorem Dev.setTm_amark (d : Dev) (n : Nat) (t : Tmr) : (d.setTm n t).amark = d.amark := rfl
@[simp] theorem Dev.setTm_ertDiv (d : Dev) (n : Nat) (t : Tmr) : (d.setTm n t).ertDiv = d.ertDiv := rfl

/-! ### Dev.setTle -/

@[simp] theorem Dev.setTle_now (d : Dev) (t : Nat) (x : Tile) : (d.setTle t x).now = d.now := rfl
@[simp] theorem Dev.setTle_fab (d : Dev) (t : Nat) (x : Tile) : (d.setTle t x).fab = d.fab := rfl
@[simp] theorem Dev.setTle_draw (d : Dev) (t : Nat) (x : Tile) : (d.setTle t x).draw = d.draw := rfl
@[simp] theorem Dev.setTle_reg (d : Dev) (t : Nat) (x : Tile) : (d.setTle t x).reg = d.reg := rfl
@[simp] theorem Dev.setTle_shd (d : Dev) (t : Nat) (x : Tile) : (d.setTle t x).shd = d.shd := rfl
@[simp] theorem Dev.setTle_preq (d : Dev) (t : Nat) (x : Tile) : (d.setTle t x).preq = d.preq := rfl
@[simp] theorem Dev.setTle_cel (d : Dev) (t : Nat) (x : Tile) : (d.setTle t x).cel = d.cel := rfl
@[simp] theorem Dev.setTle_corks (d : Dev) (t : Nat) (x : Tile) : (d.setTle t x).corks = d.corks := rfl
@[simp] theorem Dev.setTle_causes (d : Dev) (t : Nat) (x : Tile) : (d.setTle t x).causes = d.causes := rfl
@[simp] theorem Dev.setTle_fltNew (d : Dev) (t : Nat) (x : Tile) : (d.setTle t x).fltNew = d.fltNew := rfl
@[simp] theorem Dev.setTle_kept (d : Dev) (t : Nat) (x : Tile) : (d.setTle t x).kept = d.kept := rfl
@[simp] theorem Dev.setTle_mem (d : Dev) (t : Nat) (x : Tile) : (d.setTle t x).mem = d.mem := rfl
@[simp] theorem Dev.setTle_cmem (d : Dev) (t : Nat) (x : Tile) : (d.setTle t x).cmem = d.cmem := rfl
@[simp] theorem Dev.setTle_mram (d : Dev) (t : Nat) (x : Tile) : (d.setTle t x).mram = d.mram := rfl
@[simp] theorem Dev.setTle_out (d : Dev) (t : Nat) (x : Tile) : (d.setTle t x).out = d.out := rfl
@[simp] theorem Dev.setTle_bus (d : Dev) (t : Nat) (x : Tile) : (d.setTle t x).bus = d.bus := rfl
@[simp] theorem Dev.setTle_rst (d : Dev) (t : Nat) (x : Tile) : (d.setTle t x).rst = d.rst := rfl
@[simp] theorem Dev.setTle_clk (d : Dev) (t : Nat) (x : Tile) : (d.setTle t x).clk = d.clk := rfl
@[simp] theorem Dev.setTle_icu (d : Dev) (t : Nat) (x : Tile) : (d.setTle t x).icu = d.icu := rfl
@[simp] theorem Dev.setTle_tmr (d : Dev) (t : Nat) (x : Tile) : (d.setTle t x).tmr = d.tmr := rfl
@[simp] theorem Dev.setTle_tmrEv (d : Dev) (t : Nat) (x : Tile) : (d.setTle t x).tmrEv = d.tmrEv := rfl
@[simp] theorem Dev.setTle_rak (d : Dev) (t : Nat) (x : Tile) : (d.setTle t x).rak = d.rak := rfl
@[simp] theorem Dev.setTle_hif (d : Dev) (t : Nat) (x : Tile) : (d.setTle t x).hif = d.hif := rfl
@[simp] theorem Dev.setTle_qmg (d : Dev) (t : Nat) (x : Tile) : (d.setTle t x).qmg = d.qmg := rfl
@[simp] theorem Dev.setTle_mgs (d : Dev) (t : Nat) (x : Tile) : (d.setTle t x).mgs = d.mgs := rfl
@[simp] theorem Dev.setTle_logq (d : Dev) (t : Nat) (x : Tile) : (d.setTle t x).logq = d.logq := rfl
@[simp] theorem Dev.setTle_clr (d : Dev) (t : Nat) (x : Tile) : (d.setTle t x).clr = d.clr := rfl
@[simp] theorem Dev.setTle_dbg (d : Dev) (t : Nat) (x : Tile) : (d.setTle t x).dbg = d.dbg := rfl
@[simp] theorem Dev.setTle_sns (d : Dev) (t : Nat) (x : Tile) : (d.setTle t x).sns = d.sns := rfl
@[simp] theorem Dev.setTle_trk (d : Dev) (t : Nat) (x : Tile) : (d.setTle t x).trk = d.trk := rfl
@[simp] theorem Dev.setTle_prd (d : Dev) (t : Nat) (x : Tile) : (d.setTle t x).prd = d.prd := rfl
@[simp] theorem Dev.setTle_qry (d : Dev) (t : Nat) (x : Tile) : (d.setTle t x).qry = d.qry := rfl
@[simp] theorem Dev.setTle_sch (d : Dev) (t : Nat) (x : Tile) : (d.setTle t x).sch = d.sch := rfl
@[simp] theorem Dev.setTle_prs (d : Dev) (t : Nat) (x : Tile) : (d.setTle t x).prs = d.prs := rfl
@[simp] theorem Dev.setTle_lnk (d : Dev) (t : Nat) (x : Tile) : (d.setTle t x).lnk = d.lnk := rfl
@[simp] theorem Dev.setTle_cdt (d : Dev) (t : Nat) (x : Tile) : (d.setTle t x).cdt = d.cdt := rfl
@[simp] theorem Dev.setTle_mir (d : Dev) (t : Nat) (x : Tile) : (d.setTle t x).mir = d.mir := rfl
@[simp] theorem Dev.setTle_adc (d : Dev) (t : Nat) (x : Tile) : (d.setTle t x).adc = d.adc := rfl
@[simp] theorem Dev.setTle_enc (d : Dev) (t : Nat) (x : Tile) : (d.setTle t x).enc = d.enc := rfl
@[simp] theorem Dev.setTle_tlog (d : Dev) (t : Nat) (x : Tile) : (d.setTle t x).tlog = d.tlog := rfl
@[simp] theorem Dev.setTle_amark (d : Dev) (t : Nat) (x : Tile) : (d.setTle t x).amark = d.amark := rfl
@[simp] theorem Dev.setTle_ertDiv (d : Dev) (t : Nat) (x : Tile) : (d.setTle t x).ertDiv = d.ertDiv := rfl

/-! ### Dev.setPr -/

@[simp] theorem Dev.setPr_now (d : Dev) (k : Nat) (p : Prd) : (d.setPr k p).now = d.now := rfl
@[simp] theorem Dev.setPr_fab (d : Dev) (k : Nat) (p : Prd) : (d.setPr k p).fab = d.fab := rfl
@[simp] theorem Dev.setPr_draw (d : Dev) (k : Nat) (p : Prd) : (d.setPr k p).draw = d.draw := rfl
@[simp] theorem Dev.setPr_reg (d : Dev) (k : Nat) (p : Prd) : (d.setPr k p).reg = d.reg := rfl
@[simp] theorem Dev.setPr_shd (d : Dev) (k : Nat) (p : Prd) : (d.setPr k p).shd = d.shd := rfl
@[simp] theorem Dev.setPr_preq (d : Dev) (k : Nat) (p : Prd) : (d.setPr k p).preq = d.preq := rfl
@[simp] theorem Dev.setPr_cel (d : Dev) (k : Nat) (p : Prd) : (d.setPr k p).cel = d.cel := rfl
@[simp] theorem Dev.setPr_corks (d : Dev) (k : Nat) (p : Prd) : (d.setPr k p).corks = d.corks := rfl
@[simp] theorem Dev.setPr_causes (d : Dev) (k : Nat) (p : Prd) : (d.setPr k p).causes = d.causes := rfl
@[simp] theorem Dev.setPr_fltNew (d : Dev) (k : Nat) (p : Prd) : (d.setPr k p).fltNew = d.fltNew := rfl
@[simp] theorem Dev.setPr_kept (d : Dev) (k : Nat) (p : Prd) : (d.setPr k p).kept = d.kept := rfl
@[simp] theorem Dev.setPr_mem (d : Dev) (k : Nat) (p : Prd) : (d.setPr k p).mem = d.mem := rfl
@[simp] theorem Dev.setPr_cmem (d : Dev) (k : Nat) (p : Prd) : (d.setPr k p).cmem = d.cmem := rfl
@[simp] theorem Dev.setPr_mram (d : Dev) (k : Nat) (p : Prd) : (d.setPr k p).mram = d.mram := rfl
@[simp] theorem Dev.setPr_out (d : Dev) (k : Nat) (p : Prd) : (d.setPr k p).out = d.out := rfl
@[simp] theorem Dev.setPr_bus (d : Dev) (k : Nat) (p : Prd) : (d.setPr k p).bus = d.bus := rfl
@[simp] theorem Dev.setPr_rst (d : Dev) (k : Nat) (p : Prd) : (d.setPr k p).rst = d.rst := rfl
@[simp] theorem Dev.setPr_clk (d : Dev) (k : Nat) (p : Prd) : (d.setPr k p).clk = d.clk := rfl
@[simp] theorem Dev.setPr_icu (d : Dev) (k : Nat) (p : Prd) : (d.setPr k p).icu = d.icu := rfl
@[simp] theorem Dev.setPr_tmr (d : Dev) (k : Nat) (p : Prd) : (d.setPr k p).tmr = d.tmr := rfl
@[simp] theorem Dev.setPr_tmrEv (d : Dev) (k : Nat) (p : Prd) : (d.setPr k p).tmrEv = d.tmrEv := rfl
@[simp] theorem Dev.setPr_rak (d : Dev) (k : Nat) (p : Prd) : (d.setPr k p).rak = d.rak := rfl
@[simp] theorem Dev.setPr_hif (d : Dev) (k : Nat) (p : Prd) : (d.setPr k p).hif = d.hif := rfl
@[simp] theorem Dev.setPr_qmg (d : Dev) (k : Nat) (p : Prd) : (d.setPr k p).qmg = d.qmg := rfl
@[simp] theorem Dev.setPr_mgs (d : Dev) (k : Nat) (p : Prd) : (d.setPr k p).mgs = d.mgs := rfl
@[simp] theorem Dev.setPr_logq (d : Dev) (k : Nat) (p : Prd) : (d.setPr k p).logq = d.logq := rfl
@[simp] theorem Dev.setPr_clr (d : Dev) (k : Nat) (p : Prd) : (d.setPr k p).clr = d.clr := rfl
@[simp] theorem Dev.setPr_dbg (d : Dev) (k : Nat) (p : Prd) : (d.setPr k p).dbg = d.dbg := rfl
@[simp] theorem Dev.setPr_sns (d : Dev) (k : Nat) (p : Prd) : (d.setPr k p).sns = d.sns := rfl
@[simp] theorem Dev.setPr_qry (d : Dev) (k : Nat) (p : Prd) : (d.setPr k p).qry = d.qry := rfl
@[simp] theorem Dev.setPr_sch (d : Dev) (k : Nat) (p : Prd) : (d.setPr k p).sch = d.sch := rfl
@[simp] theorem Dev.setPr_prs (d : Dev) (k : Nat) (p : Prd) : (d.setPr k p).prs = d.prs := rfl
@[simp] theorem Dev.setPr_lnk (d : Dev) (k : Nat) (p : Prd) : (d.setPr k p).lnk = d.lnk := rfl
@[simp] theorem Dev.setPr_tile (d : Dev) (k : Nat) (p : Prd) : (d.setPr k p).tile = d.tile := rfl
@[simp] theorem Dev.setPr_cdt (d : Dev) (k : Nat) (p : Prd) : (d.setPr k p).cdt = d.cdt := rfl
@[simp] theorem Dev.setPr_mir (d : Dev) (k : Nat) (p : Prd) : (d.setPr k p).mir = d.mir := rfl
@[simp] theorem Dev.setPr_adc (d : Dev) (k : Nat) (p : Prd) : (d.setPr k p).adc = d.adc := rfl
@[simp] theorem Dev.setPr_enc (d : Dev) (k : Nat) (p : Prd) : (d.setPr k p).enc = d.enc := rfl
@[simp] theorem Dev.setPr_tlog (d : Dev) (k : Nat) (p : Prd) : (d.setPr k p).tlog = d.tlog := rfl
@[simp] theorem Dev.setPr_amark (d : Dev) (k : Nat) (p : Prd) : (d.setPr k p).amark = d.amark := rfl
@[simp] theorem Dev.setPr_ertDiv (d : Dev) (k : Nat) (p : Prd) : (d.setPr k p).ertDiv = d.ertDiv := rfl
@[simp] theorem Dev.setPr_trk (d : Dev) (k : Nat) (p : Prd) : (d.setPr k p).trk = d.trk := rfl

/-! ### Dev.setScht -/

@[simp] theorem Dev.setScht_now (d : Dev) (k : Nat) (s : SchT) : (d.setScht k s).now = d.now := rfl
@[simp] theorem Dev.setScht_fab (d : Dev) (k : Nat) (s : SchT) : (d.setScht k s).fab = d.fab := rfl
@[simp] theorem Dev.setScht_draw (d : Dev) (k : Nat) (s : SchT) : (d.setScht k s).draw = d.draw := rfl
@[simp] theorem Dev.setScht_reg (d : Dev) (k : Nat) (s : SchT) : (d.setScht k s).reg = d.reg := rfl
@[simp] theorem Dev.setScht_shd (d : Dev) (k : Nat) (s : SchT) : (d.setScht k s).shd = d.shd := rfl
@[simp] theorem Dev.setScht_preq (d : Dev) (k : Nat) (s : SchT) : (d.setScht k s).preq = d.preq := rfl
@[simp] theorem Dev.setScht_cel (d : Dev) (k : Nat) (s : SchT) : (d.setScht k s).cel = d.cel := rfl
@[simp] theorem Dev.setScht_corks (d : Dev) (k : Nat) (s : SchT) : (d.setScht k s).corks = d.corks := rfl
@[simp] theorem Dev.setScht_causes (d : Dev) (k : Nat) (s : SchT) : (d.setScht k s).causes = d.causes := rfl
@[simp] theorem Dev.setScht_fltNew (d : Dev) (k : Nat) (s : SchT) : (d.setScht k s).fltNew = d.fltNew := rfl
@[simp] theorem Dev.setScht_kept (d : Dev) (k : Nat) (s : SchT) : (d.setScht k s).kept = d.kept := rfl
@[simp] theorem Dev.setScht_mem (d : Dev) (k : Nat) (s : SchT) : (d.setScht k s).mem = d.mem := rfl
@[simp] theorem Dev.setScht_cmem (d : Dev) (k : Nat) (s : SchT) : (d.setScht k s).cmem = d.cmem := rfl
@[simp] theorem Dev.setScht_mram (d : Dev) (k : Nat) (s : SchT) : (d.setScht k s).mram = d.mram := rfl
@[simp] theorem Dev.setScht_out (d : Dev) (k : Nat) (s : SchT) : (d.setScht k s).out = d.out := rfl
@[simp] theorem Dev.setScht_bus (d : Dev) (k : Nat) (s : SchT) : (d.setScht k s).bus = d.bus := rfl
@[simp] theorem Dev.setScht_rst (d : Dev) (k : Nat) (s : SchT) : (d.setScht k s).rst = d.rst := rfl
@[simp] theorem Dev.setScht_clk (d : Dev) (k : Nat) (s : SchT) : (d.setScht k s).clk = d.clk := rfl
@[simp] theorem Dev.setScht_icu (d : Dev) (k : Nat) (s : SchT) : (d.setScht k s).icu = d.icu := rfl
@[simp] theorem Dev.setScht_tmr (d : Dev) (k : Nat) (s : SchT) : (d.setScht k s).tmr = d.tmr := rfl
@[simp] theorem Dev.setScht_tmrEv (d : Dev) (k : Nat) (s : SchT) : (d.setScht k s).tmrEv = d.tmrEv := rfl
@[simp] theorem Dev.setScht_rak (d : Dev) (k : Nat) (s : SchT) : (d.setScht k s).rak = d.rak := rfl
@[simp] theorem Dev.setScht_hif (d : Dev) (k : Nat) (s : SchT) : (d.setScht k s).hif = d.hif := rfl
@[simp] theorem Dev.setScht_qmg (d : Dev) (k : Nat) (s : SchT) : (d.setScht k s).qmg = d.qmg := rfl
@[simp] theorem Dev.setScht_mgs (d : Dev) (k : Nat) (s : SchT) : (d.setScht k s).mgs = d.mgs := rfl
@[simp] theorem Dev.setScht_logq (d : Dev) (k : Nat) (s : SchT) : (d.setScht k s).logq = d.logq := rfl
@[simp] theorem Dev.setScht_clr (d : Dev) (k : Nat) (s : SchT) : (d.setScht k s).clr = d.clr := rfl
@[simp] theorem Dev.setScht_dbg (d : Dev) (k : Nat) (s : SchT) : (d.setScht k s).dbg = d.dbg := rfl
@[simp] theorem Dev.setScht_sns (d : Dev) (k : Nat) (s : SchT) : (d.setScht k s).sns = d.sns := rfl
@[simp] theorem Dev.setScht_prd (d : Dev) (k : Nat) (s : SchT) : (d.setScht k s).prd = d.prd := rfl
@[simp] theorem Dev.setScht_qry (d : Dev) (k : Nat) (s : SchT) : (d.setScht k s).qry = d.qry := rfl
@[simp] theorem Dev.setScht_prs (d : Dev) (k : Nat) (s : SchT) : (d.setScht k s).prs = d.prs := rfl
@[simp] theorem Dev.setScht_lnk (d : Dev) (k : Nat) (s : SchT) : (d.setScht k s).lnk = d.lnk := rfl
@[simp] theorem Dev.setScht_tile (d : Dev) (k : Nat) (s : SchT) : (d.setScht k s).tile = d.tile := rfl
@[simp] theorem Dev.setScht_cdt (d : Dev) (k : Nat) (s : SchT) : (d.setScht k s).cdt = d.cdt := rfl
@[simp] theorem Dev.setScht_mir (d : Dev) (k : Nat) (s : SchT) : (d.setScht k s).mir = d.mir := rfl
@[simp] theorem Dev.setScht_adc (d : Dev) (k : Nat) (s : SchT) : (d.setScht k s).adc = d.adc := rfl
@[simp] theorem Dev.setScht_enc (d : Dev) (k : Nat) (s : SchT) : (d.setScht k s).enc = d.enc := rfl
@[simp] theorem Dev.setScht_tlog (d : Dev) (k : Nat) (s : SchT) : (d.setScht k s).tlog = d.tlog := rfl
@[simp] theorem Dev.setScht_amark (d : Dev) (k : Nat) (s : SchT) : (d.setScht k s).amark = d.amark := rfl
@[simp] theorem Dev.setScht_ertDiv (d : Dev) (k : Nat) (s : SchT) : (d.setScht k s).ertDiv = d.ertDiv := rfl
@[simp] theorem Dev.setScht_trk (d : Dev) (k : Nat) (s : SchT) : (d.setScht k s).trk = d.trk := rfl

/-! ### Dev.setLk -/

@[simp] theorem Dev.setLk_now (d : Dev) (n : Nat) (l : Link) : (d.setLk n l).now = d.now := rfl
@[simp] theorem Dev.setLk_fab (d : Dev) (n : Nat) (l : Link) : (d.setLk n l).fab = d.fab := rfl
@[simp] theorem Dev.setLk_draw (d : Dev) (n : Nat) (l : Link) : (d.setLk n l).draw = d.draw := rfl
@[simp] theorem Dev.setLk_reg (d : Dev) (n : Nat) (l : Link) : (d.setLk n l).reg = d.reg := rfl
@[simp] theorem Dev.setLk_shd (d : Dev) (n : Nat) (l : Link) : (d.setLk n l).shd = d.shd := rfl
@[simp] theorem Dev.setLk_preq (d : Dev) (n : Nat) (l : Link) : (d.setLk n l).preq = d.preq := rfl
@[simp] theorem Dev.setLk_cel (d : Dev) (n : Nat) (l : Link) : (d.setLk n l).cel = d.cel := rfl
@[simp] theorem Dev.setLk_corks (d : Dev) (n : Nat) (l : Link) : (d.setLk n l).corks = d.corks := rfl
@[simp] theorem Dev.setLk_causes (d : Dev) (n : Nat) (l : Link) : (d.setLk n l).causes = d.causes := rfl
@[simp] theorem Dev.setLk_fltNew (d : Dev) (n : Nat) (l : Link) : (d.setLk n l).fltNew = d.fltNew := rfl
@[simp] theorem Dev.setLk_kept (d : Dev) (n : Nat) (l : Link) : (d.setLk n l).kept = d.kept := rfl
@[simp] theorem Dev.setLk_mem (d : Dev) (n : Nat) (l : Link) : (d.setLk n l).mem = d.mem := rfl
@[simp] theorem Dev.setLk_cmem (d : Dev) (n : Nat) (l : Link) : (d.setLk n l).cmem = d.cmem := rfl
@[simp] theorem Dev.setLk_mram (d : Dev) (n : Nat) (l : Link) : (d.setLk n l).mram = d.mram := rfl
@[simp] theorem Dev.setLk_out (d : Dev) (n : Nat) (l : Link) : (d.setLk n l).out = d.out := rfl
@[simp] theorem Dev.setLk_bus (d : Dev) (n : Nat) (l : Link) : (d.setLk n l).bus = d.bus := rfl
@[simp] theorem Dev.setLk_rst (d : Dev) (n : Nat) (l : Link) : (d.setLk n l).rst = d.rst := rfl
@[simp] theorem Dev.setLk_clk (d : Dev) (n : Nat) (l : Link) : (d.setLk n l).clk = d.clk := rfl
@[simp] theorem Dev.setLk_icu (d : Dev) (n : Nat) (l : Link) : (d.setLk n l).icu = d.icu := rfl
@[simp] theorem Dev.setLk_tmr (d : Dev) (n : Nat) (l : Link) : (d.setLk n l).tmr = d.tmr := rfl
@[simp] theorem Dev.setLk_tmrEv (d : Dev) (n : Nat) (l : Link) : (d.setLk n l).tmrEv = d.tmrEv := rfl
@[simp] theorem Dev.setLk_rak (d : Dev) (n : Nat) (l : Link) : (d.setLk n l).rak = d.rak := rfl
@[simp] theorem Dev.setLk_hif (d : Dev) (n : Nat) (l : Link) : (d.setLk n l).hif = d.hif := rfl
@[simp] theorem Dev.setLk_qmg (d : Dev) (n : Nat) (l : Link) : (d.setLk n l).qmg = d.qmg := rfl
@[simp] theorem Dev.setLk_mgs (d : Dev) (n : Nat) (l : Link) : (d.setLk n l).mgs = d.mgs := rfl
@[simp] theorem Dev.setLk_logq (d : Dev) (n : Nat) (l : Link) : (d.setLk n l).logq = d.logq := rfl
@[simp] theorem Dev.setLk_clr (d : Dev) (n : Nat) (l : Link) : (d.setLk n l).clr = d.clr := rfl
@[simp] theorem Dev.setLk_dbg (d : Dev) (n : Nat) (l : Link) : (d.setLk n l).dbg = d.dbg := rfl
@[simp] theorem Dev.setLk_sns (d : Dev) (n : Nat) (l : Link) : (d.setLk n l).sns = d.sns := rfl
@[simp] theorem Dev.setLk_prd (d : Dev) (n : Nat) (l : Link) : (d.setLk n l).prd = d.prd := rfl
@[simp] theorem Dev.setLk_qry (d : Dev) (n : Nat) (l : Link) : (d.setLk n l).qry = d.qry := rfl
@[simp] theorem Dev.setLk_sch (d : Dev) (n : Nat) (l : Link) : (d.setLk n l).sch = d.sch := rfl
@[simp] theorem Dev.setLk_prs (d : Dev) (n : Nat) (l : Link) : (d.setLk n l).prs = d.prs := rfl
@[simp] theorem Dev.setLk_tile (d : Dev) (n : Nat) (l : Link) : (d.setLk n l).tile = d.tile := rfl
@[simp] theorem Dev.setLk_cdt (d : Dev) (n : Nat) (l : Link) : (d.setLk n l).cdt = d.cdt := rfl
@[simp] theorem Dev.setLk_mir (d : Dev) (n : Nat) (l : Link) : (d.setLk n l).mir = d.mir := rfl
@[simp] theorem Dev.setLk_adc (d : Dev) (n : Nat) (l : Link) : (d.setLk n l).adc = d.adc := rfl
@[simp] theorem Dev.setLk_enc (d : Dev) (n : Nat) (l : Link) : (d.setLk n l).enc = d.enc := rfl
@[simp] theorem Dev.setLk_tlog (d : Dev) (n : Nat) (l : Link) : (d.setLk n l).tlog = d.tlog := rfl
@[simp] theorem Dev.setLk_amark (d : Dev) (n : Nat) (l : Link) : (d.setLk n l).amark = d.amark := rfl
@[simp] theorem Dev.setLk_ertDiv (d : Dev) (n : Nat) (l : Link) : (d.setLk n l).ertDiv = d.ertDiv := rfl
@[simp] theorem Dev.setLk_trk (d : Dev) (n : Nat) (l : Link) : (d.setLk n l).trk = d.trk := rfl

/-! ### Dev.upMir -/

@[simp] theorem Dev.upMir_now (d : Dev) (f : Mir → Mir) : (d.upMir f).now = d.now := rfl
@[simp] theorem Dev.upMir_fab (d : Dev) (f : Mir → Mir) : (d.upMir f).fab = d.fab := rfl
@[simp] theorem Dev.upMir_draw (d : Dev) (f : Mir → Mir) : (d.upMir f).draw = d.draw := rfl
@[simp] theorem Dev.upMir_reg (d : Dev) (f : Mir → Mir) : (d.upMir f).reg = d.reg := rfl
@[simp] theorem Dev.upMir_shd (d : Dev) (f : Mir → Mir) : (d.upMir f).shd = d.shd := rfl
@[simp] theorem Dev.upMir_preq (d : Dev) (f : Mir → Mir) : (d.upMir f).preq = d.preq := rfl
@[simp] theorem Dev.upMir_cel (d : Dev) (f : Mir → Mir) : (d.upMir f).cel = d.cel := rfl
@[simp] theorem Dev.upMir_corks (d : Dev) (f : Mir → Mir) : (d.upMir f).corks = d.corks := rfl
@[simp] theorem Dev.upMir_causes (d : Dev) (f : Mir → Mir) : (d.upMir f).causes = d.causes := rfl
@[simp] theorem Dev.upMir_fltNew (d : Dev) (f : Mir → Mir) : (d.upMir f).fltNew = d.fltNew := rfl
@[simp] theorem Dev.upMir_kept (d : Dev) (f : Mir → Mir) : (d.upMir f).kept = d.kept := rfl
@[simp] theorem Dev.upMir_mem (d : Dev) (f : Mir → Mir) : (d.upMir f).mem = d.mem := rfl
@[simp] theorem Dev.upMir_cmem (d : Dev) (f : Mir → Mir) : (d.upMir f).cmem = d.cmem := rfl
@[simp] theorem Dev.upMir_mram (d : Dev) (f : Mir → Mir) : (d.upMir f).mram = d.mram := rfl
@[simp] theorem Dev.upMir_out (d : Dev) (f : Mir → Mir) : (d.upMir f).out = d.out := rfl
@[simp] theorem Dev.upMir_bus (d : Dev) (f : Mir → Mir) : (d.upMir f).bus = d.bus := rfl
@[simp] theorem Dev.upMir_rst (d : Dev) (f : Mir → Mir) : (d.upMir f).rst = d.rst := rfl
@[simp] theorem Dev.upMir_clk (d : Dev) (f : Mir → Mir) : (d.upMir f).clk = d.clk := rfl
@[simp] theorem Dev.upMir_icu (d : Dev) (f : Mir → Mir) : (d.upMir f).icu = d.icu := rfl
@[simp] theorem Dev.upMir_tmr (d : Dev) (f : Mir → Mir) : (d.upMir f).tmr = d.tmr := rfl
@[simp] theorem Dev.upMir_tmrEv (d : Dev) (f : Mir → Mir) : (d.upMir f).tmrEv = d.tmrEv := rfl
@[simp] theorem Dev.upMir_rak (d : Dev) (f : Mir → Mir) : (d.upMir f).rak = d.rak := rfl
@[simp] theorem Dev.upMir_hif (d : Dev) (f : Mir → Mir) : (d.upMir f).hif = d.hif := rfl
@[simp] theorem Dev.upMir_qmg (d : Dev) (f : Mir → Mir) : (d.upMir f).qmg = d.qmg := rfl
@[simp] theorem Dev.upMir_mgs (d : Dev) (f : Mir → Mir) : (d.upMir f).mgs = d.mgs := rfl
@[simp] theorem Dev.upMir_logq (d : Dev) (f : Mir → Mir) : (d.upMir f).logq = d.logq := rfl
@[simp] theorem Dev.upMir_clr (d : Dev) (f : Mir → Mir) : (d.upMir f).clr = d.clr := rfl
@[simp] theorem Dev.upMir_dbg (d : Dev) (f : Mir → Mir) : (d.upMir f).dbg = d.dbg := rfl
@[simp] theorem Dev.upMir_sns (d : Dev) (f : Mir → Mir) : (d.upMir f).sns = d.sns := rfl
@[simp] theorem Dev.upMir_prd (d : Dev) (f : Mir → Mir) : (d.upMir f).prd = d.prd := rfl
@[simp] theorem Dev.upMir_qry (d : Dev) (f : Mir → Mir) : (d.upMir f).qry = d.qry := rfl
@[simp] theorem Dev.upMir_sch (d : Dev) (f : Mir → Mir) : (d.upMir f).sch = d.sch := rfl
@[simp] theorem Dev.upMir_prs (d : Dev) (f : Mir → Mir) : (d.upMir f).prs = d.prs := rfl
@[simp] theorem Dev.upMir_lnk (d : Dev) (f : Mir → Mir) : (d.upMir f).lnk = d.lnk := rfl
@[simp] theorem Dev.upMir_tile (d : Dev) (f : Mir → Mir) : (d.upMir f).tile = d.tile := rfl
@[simp] theorem Dev.upMir_cdt (d : Dev) (f : Mir → Mir) : (d.upMir f).cdt = d.cdt := rfl
@[simp] theorem Dev.upMir_mir (d : Dev) (f : Mir → Mir) : (d.upMir f).mir = f d.mir := rfl
@[simp] theorem Dev.upMir_adc (d : Dev) (f : Mir → Mir) : (d.upMir f).adc = d.adc := rfl
@[simp] theorem Dev.upMir_enc (d : Dev) (f : Mir → Mir) : (d.upMir f).enc = d.enc := rfl
@[simp] theorem Dev.upMir_tlog (d : Dev) (f : Mir → Mir) : (d.upMir f).tlog = d.tlog := rfl
@[simp] theorem Dev.upMir_amark (d : Dev) (f : Mir → Mir) : (d.upMir f).amark = d.amark := rfl
@[simp] theorem Dev.upMir_ertDiv (d : Dev) (f : Mir → Mir) : (d.upMir f).ertDiv = d.ertDiv := rfl
@[simp] theorem Dev.upMir_trk (d : Dev) (f : Mir → Mir) : (d.upMir f).trk = d.trk := rfl

/-! ### Dev.upQmg -/

@[simp] theorem Dev.upQmg_now (d : Dev) (f : Qmg → Qmg) : (d.upQmg f).now = d.now := rfl
@[simp] theorem Dev.upQmg_fab (d : Dev) (f : Qmg → Qmg) : (d.upQmg f).fab = d.fab := rfl
@[simp] theorem Dev.upQmg_draw (d : Dev) (f : Qmg → Qmg) : (d.upQmg f).draw = d.draw := rfl
@[simp] theorem Dev.upQmg_reg (d : Dev) (f : Qmg → Qmg) : (d.upQmg f).reg = d.reg := rfl
@[simp] theorem Dev.upQmg_shd (d : Dev) (f : Qmg → Qmg) : (d.upQmg f).shd = d.shd := rfl
@[simp] theorem Dev.upQmg_preq (d : Dev) (f : Qmg → Qmg) : (d.upQmg f).preq = d.preq := rfl
@[simp] theorem Dev.upQmg_cel (d : Dev) (f : Qmg → Qmg) : (d.upQmg f).cel = d.cel := rfl
@[simp] theorem Dev.upQmg_corks (d : Dev) (f : Qmg → Qmg) : (d.upQmg f).corks = d.corks := rfl
@[simp] theorem Dev.upQmg_causes (d : Dev) (f : Qmg → Qmg) : (d.upQmg f).causes = d.causes := rfl
@[simp] theorem Dev.upQmg_fltNew (d : Dev) (f : Qmg → Qmg) : (d.upQmg f).fltNew = d.fltNew := rfl
@[simp] theorem Dev.upQmg_kept (d : Dev) (f : Qmg → Qmg) : (d.upQmg f).kept = d.kept := rfl
@[simp] theorem Dev.upQmg_mem (d : Dev) (f : Qmg → Qmg) : (d.upQmg f).mem = d.mem := rfl
@[simp] theorem Dev.upQmg_cmem (d : Dev) (f : Qmg → Qmg) : (d.upQmg f).cmem = d.cmem := rfl
@[simp] theorem Dev.upQmg_mram (d : Dev) (f : Qmg → Qmg) : (d.upQmg f).mram = d.mram := rfl
@[simp] theorem Dev.upQmg_out (d : Dev) (f : Qmg → Qmg) : (d.upQmg f).out = d.out := rfl
@[simp] theorem Dev.upQmg_bus (d : Dev) (f : Qmg → Qmg) : (d.upQmg f).bus = d.bus := rfl
@[simp] theorem Dev.upQmg_rst (d : Dev) (f : Qmg → Qmg) : (d.upQmg f).rst = d.rst := rfl
@[simp] theorem Dev.upQmg_clk (d : Dev) (f : Qmg → Qmg) : (d.upQmg f).clk = d.clk := rfl
@[simp] theorem Dev.upQmg_icu (d : Dev) (f : Qmg → Qmg) : (d.upQmg f).icu = d.icu := rfl
@[simp] theorem Dev.upQmg_tmr (d : Dev) (f : Qmg → Qmg) : (d.upQmg f).tmr = d.tmr := rfl
@[simp] theorem Dev.upQmg_tmrEv (d : Dev) (f : Qmg → Qmg) : (d.upQmg f).tmrEv = d.tmrEv := rfl
@[simp] theorem Dev.upQmg_rak (d : Dev) (f : Qmg → Qmg) : (d.upQmg f).rak = d.rak := rfl
@[simp] theorem Dev.upQmg_hif (d : Dev) (f : Qmg → Qmg) : (d.upQmg f).hif = d.hif := rfl
@[simp] theorem Dev.upQmg_qmg (d : Dev) (f : Qmg → Qmg) : (d.upQmg f).qmg = f d.qmg := rfl
@[simp] theorem Dev.upQmg_mgs (d : Dev) (f : Qmg → Qmg) : (d.upQmg f).mgs = d.mgs := rfl
@[simp] theorem Dev.upQmg_logq (d : Dev) (f : Qmg → Qmg) : (d.upQmg f).logq = d.logq := rfl
@[simp] theorem Dev.upQmg_clr (d : Dev) (f : Qmg → Qmg) : (d.upQmg f).clr = d.clr := rfl
@[simp] theorem Dev.upQmg_dbg (d : Dev) (f : Qmg → Qmg) : (d.upQmg f).dbg = d.dbg := rfl
@[simp] theorem Dev.upQmg_sns (d : Dev) (f : Qmg → Qmg) : (d.upQmg f).sns = d.sns := rfl
@[simp] theorem Dev.upQmg_prd (d : Dev) (f : Qmg → Qmg) : (d.upQmg f).prd = d.prd := rfl
@[simp] theorem Dev.upQmg_qry (d : Dev) (f : Qmg → Qmg) : (d.upQmg f).qry = d.qry := rfl
@[simp] theorem Dev.upQmg_sch (d : Dev) (f : Qmg → Qmg) : (d.upQmg f).sch = d.sch := rfl
@[simp] theorem Dev.upQmg_prs (d : Dev) (f : Qmg → Qmg) : (d.upQmg f).prs = d.prs := rfl
@[simp] theorem Dev.upQmg_lnk (d : Dev) (f : Qmg → Qmg) : (d.upQmg f).lnk = d.lnk := rfl
@[simp] theorem Dev.upQmg_tile (d : Dev) (f : Qmg → Qmg) : (d.upQmg f).tile = d.tile := rfl
@[simp] theorem Dev.upQmg_cdt (d : Dev) (f : Qmg → Qmg) : (d.upQmg f).cdt = d.cdt := rfl
@[simp] theorem Dev.upQmg_mir (d : Dev) (f : Qmg → Qmg) : (d.upQmg f).mir = d.mir := rfl
@[simp] theorem Dev.upQmg_adc (d : Dev) (f : Qmg → Qmg) : (d.upQmg f).adc = d.adc := rfl
@[simp] theorem Dev.upQmg_enc (d : Dev) (f : Qmg → Qmg) : (d.upQmg f).enc = d.enc := rfl
@[simp] theorem Dev.upQmg_tlog (d : Dev) (f : Qmg → Qmg) : (d.upQmg f).tlog = d.tlog := rfl
@[simp] theorem Dev.upQmg_amark (d : Dev) (f : Qmg → Qmg) : (d.upQmg f).amark = d.amark := rfl
@[simp] theorem Dev.upQmg_ertDiv (d : Dev) (f : Qmg → Qmg) : (d.upQmg f).ertDiv = d.ertDiv := rfl
@[simp] theorem Dev.upQmg_trk (d : Dev) (f : Qmg → Qmg) : (d.upQmg f).trk = d.trk := rfl

/-! ### Dev.setSq -/

@[simp] theorem Dev.setSq_now (d : Dev) (n : Nat) (x : Sq) : (d.setSq n x).now = d.now := rfl
@[simp] theorem Dev.setSq_fab (d : Dev) (n : Nat) (x : Sq) : (d.setSq n x).fab = d.fab := rfl
@[simp] theorem Dev.setSq_draw (d : Dev) (n : Nat) (x : Sq) : (d.setSq n x).draw = d.draw := rfl
@[simp] theorem Dev.setSq_reg (d : Dev) (n : Nat) (x : Sq) : (d.setSq n x).reg = d.reg := rfl
@[simp] theorem Dev.setSq_shd (d : Dev) (n : Nat) (x : Sq) : (d.setSq n x).shd = d.shd := rfl
@[simp] theorem Dev.setSq_preq (d : Dev) (n : Nat) (x : Sq) : (d.setSq n x).preq = d.preq := rfl
@[simp] theorem Dev.setSq_cel (d : Dev) (n : Nat) (x : Sq) : (d.setSq n x).cel = d.cel := rfl
@[simp] theorem Dev.setSq_corks (d : Dev) (n : Nat) (x : Sq) : (d.setSq n x).corks = d.corks := rfl
@[simp] theorem Dev.setSq_causes (d : Dev) (n : Nat) (x : Sq) : (d.setSq n x).causes = d.causes := rfl
@[simp] theorem Dev.setSq_fltNew (d : Dev) (n : Nat) (x : Sq) : (d.setSq n x).fltNew = d.fltNew := rfl
@[simp] theorem Dev.setSq_kept (d : Dev) (n : Nat) (x : Sq) : (d.setSq n x).kept = d.kept := rfl
@[simp] theorem Dev.setSq_mem (d : Dev) (n : Nat) (x : Sq) : (d.setSq n x).mem = d.mem := rfl
@[simp] theorem Dev.setSq_cmem (d : Dev) (n : Nat) (x : Sq) : (d.setSq n x).cmem = d.cmem := rfl
@[simp] theorem Dev.setSq_mram (d : Dev) (n : Nat) (x : Sq) : (d.setSq n x).mram = d.mram := rfl
@[simp] theorem Dev.setSq_out (d : Dev) (n : Nat) (x : Sq) : (d.setSq n x).out = d.out := rfl
@[simp] theorem Dev.setSq_bus (d : Dev) (n : Nat) (x : Sq) : (d.setSq n x).bus = d.bus := rfl
@[simp] theorem Dev.setSq_rst (d : Dev) (n : Nat) (x : Sq) : (d.setSq n x).rst = d.rst := rfl
@[simp] theorem Dev.setSq_clk (d : Dev) (n : Nat) (x : Sq) : (d.setSq n x).clk = d.clk := rfl
@[simp] theorem Dev.setSq_icu (d : Dev) (n : Nat) (x : Sq) : (d.setSq n x).icu = d.icu := rfl
@[simp] theorem Dev.setSq_tmr (d : Dev) (n : Nat) (x : Sq) : (d.setSq n x).tmr = d.tmr := rfl
@[simp] theorem Dev.setSq_tmrEv (d : Dev) (n : Nat) (x : Sq) : (d.setSq n x).tmrEv = d.tmrEv := rfl
@[simp] theorem Dev.setSq_rak (d : Dev) (n : Nat) (x : Sq) : (d.setSq n x).rak = d.rak := rfl
@[simp] theorem Dev.setSq_qmg (d : Dev) (n : Nat) (x : Sq) : (d.setSq n x).qmg = d.qmg := rfl
@[simp] theorem Dev.setSq_mgs (d : Dev) (n : Nat) (x : Sq) : (d.setSq n x).mgs = d.mgs := rfl
@[simp] theorem Dev.setSq_logq (d : Dev) (n : Nat) (x : Sq) : (d.setSq n x).logq = d.logq := rfl
@[simp] theorem Dev.setSq_clr (d : Dev) (n : Nat) (x : Sq) : (d.setSq n x).clr = d.clr := rfl
@[simp] theorem Dev.setSq_dbg (d : Dev) (n : Nat) (x : Sq) : (d.setSq n x).dbg = d.dbg := rfl
@[simp] theorem Dev.setSq_sns (d : Dev) (n : Nat) (x : Sq) : (d.setSq n x).sns = d.sns := rfl
@[simp] theorem Dev.setSq_prd (d : Dev) (n : Nat) (x : Sq) : (d.setSq n x).prd = d.prd := rfl
@[simp] theorem Dev.setSq_qry (d : Dev) (n : Nat) (x : Sq) : (d.setSq n x).qry = d.qry := rfl
@[simp] theorem Dev.setSq_sch (d : Dev) (n : Nat) (x : Sq) : (d.setSq n x).sch = d.sch := rfl
@[simp] theorem Dev.setSq_prs (d : Dev) (n : Nat) (x : Sq) : (d.setSq n x).prs = d.prs := rfl
@[simp] theorem Dev.setSq_lnk (d : Dev) (n : Nat) (x : Sq) : (d.setSq n x).lnk = d.lnk := rfl
@[simp] theorem Dev.setSq_tile (d : Dev) (n : Nat) (x : Sq) : (d.setSq n x).tile = d.tile := rfl
@[simp] theorem Dev.setSq_cdt (d : Dev) (n : Nat) (x : Sq) : (d.setSq n x).cdt = d.cdt := rfl
@[simp] theorem Dev.setSq_mir (d : Dev) (n : Nat) (x : Sq) : (d.setSq n x).mir = d.mir := rfl
@[simp] theorem Dev.setSq_adc (d : Dev) (n : Nat) (x : Sq) : (d.setSq n x).adc = d.adc := rfl
@[simp] theorem Dev.setSq_enc (d : Dev) (n : Nat) (x : Sq) : (d.setSq n x).enc = d.enc := rfl
@[simp] theorem Dev.setSq_tlog (d : Dev) (n : Nat) (x : Sq) : (d.setSq n x).tlog = d.tlog := rfl
@[simp] theorem Dev.setSq_amark (d : Dev) (n : Nat) (x : Sq) : (d.setSq n x).amark = d.amark := rfl
@[simp] theorem Dev.setSq_ertDiv (d : Dev) (n : Nat) (x : Sq) : (d.setSq n x).ertDiv = d.ertDiv := rfl
@[simp] theorem Dev.setSq_trk (d : Dev) (n : Nat) (x : Sq) : (d.setSq n x).trk = d.trk := rfl

/-! ### Dev.setCq -/

@[simp] theorem Dev.setCq_now (d : Dev) (n : Nat) (x : Cq) : (d.setCq n x).now = d.now := rfl
@[simp] theorem Dev.setCq_fab (d : Dev) (n : Nat) (x : Cq) : (d.setCq n x).fab = d.fab := rfl
@[simp] theorem Dev.setCq_draw (d : Dev) (n : Nat) (x : Cq) : (d.setCq n x).draw = d.draw := rfl
@[simp] theorem Dev.setCq_reg (d : Dev) (n : Nat) (x : Cq) : (d.setCq n x).reg = d.reg := rfl
@[simp] theorem Dev.setCq_shd (d : Dev) (n : Nat) (x : Cq) : (d.setCq n x).shd = d.shd := rfl
@[simp] theorem Dev.setCq_preq (d : Dev) (n : Nat) (x : Cq) : (d.setCq n x).preq = d.preq := rfl
@[simp] theorem Dev.setCq_cel (d : Dev) (n : Nat) (x : Cq) : (d.setCq n x).cel = d.cel := rfl
@[simp] theorem Dev.setCq_corks (d : Dev) (n : Nat) (x : Cq) : (d.setCq n x).corks = d.corks := rfl
@[simp] theorem Dev.setCq_causes (d : Dev) (n : Nat) (x : Cq) : (d.setCq n x).causes = d.causes := rfl
@[simp] theorem Dev.setCq_fltNew (d : Dev) (n : Nat) (x : Cq) : (d.setCq n x).fltNew = d.fltNew := rfl
@[simp] theorem Dev.setCq_kept (d : Dev) (n : Nat) (x : Cq) : (d.setCq n x).kept = d.kept := rfl
@[simp] theorem Dev.setCq_mem (d : Dev) (n : Nat) (x : Cq) : (d.setCq n x).mem = d.mem := rfl
@[simp] theorem Dev.setCq_cmem (d : Dev) (n : Nat) (x : Cq) : (d.setCq n x).cmem = d.cmem := rfl
@[simp] theorem Dev.setCq_mram (d : Dev) (n : Nat) (x : Cq) : (d.setCq n x).mram = d.mram := rfl
@[simp] theorem Dev.setCq_out (d : Dev) (n : Nat) (x : Cq) : (d.setCq n x).out = d.out := rfl
@[simp] theorem Dev.setCq_bus (d : Dev) (n : Nat) (x : Cq) : (d.setCq n x).bus = d.bus := rfl
@[simp] theorem Dev.setCq_rst (d : Dev) (n : Nat) (x : Cq) : (d.setCq n x).rst = d.rst := rfl
@[simp] theorem Dev.setCq_clk (d : Dev) (n : Nat) (x : Cq) : (d.setCq n x).clk = d.clk := rfl
@[simp] theorem Dev.setCq_icu (d : Dev) (n : Nat) (x : Cq) : (d.setCq n x).icu = d.icu := rfl
@[simp] theorem Dev.setCq_tmr (d : Dev) (n : Nat) (x : Cq) : (d.setCq n x).tmr = d.tmr := rfl
@[simp] theorem Dev.setCq_tmrEv (d : Dev) (n : Nat) (x : Cq) : (d.setCq n x).tmrEv = d.tmrEv := rfl
@[simp] theorem Dev.setCq_rak (d : Dev) (n : Nat) (x : Cq) : (d.setCq n x).rak = d.rak := rfl
@[simp] theorem Dev.setCq_qmg (d : Dev) (n : Nat) (x : Cq) : (d.setCq n x).qmg = d.qmg := rfl
@[simp] theorem Dev.setCq_mgs (d : Dev) (n : Nat) (x : Cq) : (d.setCq n x).mgs = d.mgs := rfl
@[simp] theorem Dev.setCq_logq (d : Dev) (n : Nat) (x : Cq) : (d.setCq n x).logq = d.logq := rfl
@[simp] theorem Dev.setCq_clr (d : Dev) (n : Nat) (x : Cq) : (d.setCq n x).clr = d.clr := rfl
@[simp] theorem Dev.setCq_dbg (d : Dev) (n : Nat) (x : Cq) : (d.setCq n x).dbg = d.dbg := rfl
@[simp] theorem Dev.setCq_sns (d : Dev) (n : Nat) (x : Cq) : (d.setCq n x).sns = d.sns := rfl
@[simp] theorem Dev.setCq_prd (d : Dev) (n : Nat) (x : Cq) : (d.setCq n x).prd = d.prd := rfl
@[simp] theorem Dev.setCq_qry (d : Dev) (n : Nat) (x : Cq) : (d.setCq n x).qry = d.qry := rfl
@[simp] theorem Dev.setCq_sch (d : Dev) (n : Nat) (x : Cq) : (d.setCq n x).sch = d.sch := rfl
@[simp] theorem Dev.setCq_prs (d : Dev) (n : Nat) (x : Cq) : (d.setCq n x).prs = d.prs := rfl
@[simp] theorem Dev.setCq_lnk (d : Dev) (n : Nat) (x : Cq) : (d.setCq n x).lnk = d.lnk := rfl
@[simp] theorem Dev.setCq_tile (d : Dev) (n : Nat) (x : Cq) : (d.setCq n x).tile = d.tile := rfl
@[simp] theorem Dev.setCq_cdt (d : Dev) (n : Nat) (x : Cq) : (d.setCq n x).cdt = d.cdt := rfl
@[simp] theorem Dev.setCq_mir (d : Dev) (n : Nat) (x : Cq) : (d.setCq n x).mir = d.mir := rfl
@[simp] theorem Dev.setCq_adc (d : Dev) (n : Nat) (x : Cq) : (d.setCq n x).adc = d.adc := rfl
@[simp] theorem Dev.setCq_enc (d : Dev) (n : Nat) (x : Cq) : (d.setCq n x).enc = d.enc := rfl
@[simp] theorem Dev.setCq_tlog (d : Dev) (n : Nat) (x : Cq) : (d.setCq n x).tlog = d.tlog := rfl
@[simp] theorem Dev.setCq_amark (d : Dev) (n : Nat) (x : Cq) : (d.setCq n x).amark = d.amark := rfl
@[simp] theorem Dev.setCq_ertDiv (d : Dev) (n : Nat) (x : Cq) : (d.setCq n x).ertDiv = d.ertDiv := rfl
@[simp] theorem Dev.setCq_trk (d : Dev) (n : Nat) (x : Cq) : (d.setCq n x).trk = d.trk := rfl

/-! ### Dev.setStm -/

@[simp] theorem Dev.setStm_now (d : Dev) (n : Nat) (x : Stm) : (d.setStm n x).now = d.now := rfl
@[simp] theorem Dev.setStm_fab (d : Dev) (n : Nat) (x : Stm) : (d.setStm n x).fab = d.fab := rfl
@[simp] theorem Dev.setStm_draw (d : Dev) (n : Nat) (x : Stm) : (d.setStm n x).draw = d.draw := rfl
@[simp] theorem Dev.setStm_reg (d : Dev) (n : Nat) (x : Stm) : (d.setStm n x).reg = d.reg := rfl
@[simp] theorem Dev.setStm_shd (d : Dev) (n : Nat) (x : Stm) : (d.setStm n x).shd = d.shd := rfl
@[simp] theorem Dev.setStm_preq (d : Dev) (n : Nat) (x : Stm) : (d.setStm n x).preq = d.preq := rfl
@[simp] theorem Dev.setStm_cel (d : Dev) (n : Nat) (x : Stm) : (d.setStm n x).cel = d.cel := rfl
@[simp] theorem Dev.setStm_corks (d : Dev) (n : Nat) (x : Stm) : (d.setStm n x).corks = d.corks := rfl
@[simp] theorem Dev.setStm_causes (d : Dev) (n : Nat) (x : Stm) : (d.setStm n x).causes = d.causes := rfl
@[simp] theorem Dev.setStm_fltNew (d : Dev) (n : Nat) (x : Stm) : (d.setStm n x).fltNew = d.fltNew := rfl
@[simp] theorem Dev.setStm_kept (d : Dev) (n : Nat) (x : Stm) : (d.setStm n x).kept = d.kept := rfl
@[simp] theorem Dev.setStm_mem (d : Dev) (n : Nat) (x : Stm) : (d.setStm n x).mem = d.mem := rfl
@[simp] theorem Dev.setStm_cmem (d : Dev) (n : Nat) (x : Stm) : (d.setStm n x).cmem = d.cmem := rfl
@[simp] theorem Dev.setStm_mram (d : Dev) (n : Nat) (x : Stm) : (d.setStm n x).mram = d.mram := rfl
@[simp] theorem Dev.setStm_out (d : Dev) (n : Nat) (x : Stm) : (d.setStm n x).out = d.out := rfl
@[simp] theorem Dev.setStm_bus (d : Dev) (n : Nat) (x : Stm) : (d.setStm n x).bus = d.bus := rfl
@[simp] theorem Dev.setStm_rst (d : Dev) (n : Nat) (x : Stm) : (d.setStm n x).rst = d.rst := rfl
@[simp] theorem Dev.setStm_clk (d : Dev) (n : Nat) (x : Stm) : (d.setStm n x).clk = d.clk := rfl
@[simp] theorem Dev.setStm_icu (d : Dev) (n : Nat) (x : Stm) : (d.setStm n x).icu = d.icu := rfl
@[simp] theorem Dev.setStm_tmr (d : Dev) (n : Nat) (x : Stm) : (d.setStm n x).tmr = d.tmr := rfl
@[simp] theorem Dev.setStm_tmrEv (d : Dev) (n : Nat) (x : Stm) : (d.setStm n x).tmrEv = d.tmrEv := rfl
@[simp] theorem Dev.setStm_rak (d : Dev) (n : Nat) (x : Stm) : (d.setStm n x).rak = d.rak := rfl
@[simp] theorem Dev.setStm_qmg (d : Dev) (n : Nat) (x : Stm) : (d.setStm n x).qmg = d.qmg := rfl
@[simp] theorem Dev.setStm_mgs (d : Dev) (n : Nat) (x : Stm) : (d.setStm n x).mgs = d.mgs := rfl
@[simp] theorem Dev.setStm_logq (d : Dev) (n : Nat) (x : Stm) : (d.setStm n x).logq = d.logq := rfl
@[simp] theorem Dev.setStm_clr (d : Dev) (n : Nat) (x : Stm) : (d.setStm n x).clr = d.clr := rfl
@[simp] theorem Dev.setStm_dbg (d : Dev) (n : Nat) (x : Stm) : (d.setStm n x).dbg = d.dbg := rfl
@[simp] theorem Dev.setStm_sns (d : Dev) (n : Nat) (x : Stm) : (d.setStm n x).sns = d.sns := rfl
@[simp] theorem Dev.setStm_prd (d : Dev) (n : Nat) (x : Stm) : (d.setStm n x).prd = d.prd := rfl
@[simp] theorem Dev.setStm_qry (d : Dev) (n : Nat) (x : Stm) : (d.setStm n x).qry = d.qry := rfl
@[simp] theorem Dev.setStm_sch (d : Dev) (n : Nat) (x : Stm) : (d.setStm n x).sch = d.sch := rfl
@[simp] theorem Dev.setStm_prs (d : Dev) (n : Nat) (x : Stm) : (d.setStm n x).prs = d.prs := rfl
@[simp] theorem Dev.setStm_lnk (d : Dev) (n : Nat) (x : Stm) : (d.setStm n x).lnk = d.lnk := rfl
@[simp] theorem Dev.setStm_tile (d : Dev) (n : Nat) (x : Stm) : (d.setStm n x).tile = d.tile := rfl
@[simp] theorem Dev.setStm_cdt (d : Dev) (n : Nat) (x : Stm) : (d.setStm n x).cdt = d.cdt := rfl
@[simp] theorem Dev.setStm_mir (d : Dev) (n : Nat) (x : Stm) : (d.setStm n x).mir = d.mir := rfl
@[simp] theorem Dev.setStm_adc (d : Dev) (n : Nat) (x : Stm) : (d.setStm n x).adc = d.adc := rfl
@[simp] theorem Dev.setStm_enc (d : Dev) (n : Nat) (x : Stm) : (d.setStm n x).enc = d.enc := rfl
@[simp] theorem Dev.setStm_tlog (d : Dev) (n : Nat) (x : Stm) : (d.setStm n x).tlog = d.tlog := rfl
@[simp] theorem Dev.setStm_amark (d : Dev) (n : Nat) (x : Stm) : (d.setStm n x).amark = d.amark := rfl
@[simp] theorem Dev.setStm_ertDiv (d : Dev) (n : Nat) (x : Stm) : (d.setStm n x).ertDiv = d.ertDiv := rfl
@[simp] theorem Dev.setStm_trk (d : Dev) (n : Nat) (x : Stm) : (d.setStm n x).trk = d.trk := rfl

/-! ### Dev.setCan -/

@[simp] theorem Dev.setCan_now (d : Dev) (p : Nat) (x : Can) : (d.setCan p x).now = d.now := rfl
@[simp] theorem Dev.setCan_fab (d : Dev) (p : Nat) (x : Can) : (d.setCan p x).fab = d.fab := rfl
@[simp] theorem Dev.setCan_draw (d : Dev) (p : Nat) (x : Can) : (d.setCan p x).draw = d.draw := rfl
@[simp] theorem Dev.setCan_reg (d : Dev) (p : Nat) (x : Can) : (d.setCan p x).reg = d.reg := rfl
@[simp] theorem Dev.setCan_shd (d : Dev) (p : Nat) (x : Can) : (d.setCan p x).shd = d.shd := rfl
@[simp] theorem Dev.setCan_preq (d : Dev) (p : Nat) (x : Can) : (d.setCan p x).preq = d.preq := rfl
@[simp] theorem Dev.setCan_cel (d : Dev) (p : Nat) (x : Can) : (d.setCan p x).cel = d.cel := rfl
@[simp] theorem Dev.setCan_corks (d : Dev) (p : Nat) (x : Can) : (d.setCan p x).corks = d.corks := rfl
@[simp] theorem Dev.setCan_causes (d : Dev) (p : Nat) (x : Can) : (d.setCan p x).causes = d.causes := rfl
@[simp] theorem Dev.setCan_fltNew (d : Dev) (p : Nat) (x : Can) : (d.setCan p x).fltNew = d.fltNew := rfl
@[simp] theorem Dev.setCan_kept (d : Dev) (p : Nat) (x : Can) : (d.setCan p x).kept = d.kept := rfl
@[simp] theorem Dev.setCan_mem (d : Dev) (p : Nat) (x : Can) : (d.setCan p x).mem = d.mem := rfl
@[simp] theorem Dev.setCan_cmem (d : Dev) (p : Nat) (x : Can) : (d.setCan p x).cmem = d.cmem := rfl
@[simp] theorem Dev.setCan_mram (d : Dev) (p : Nat) (x : Can) : (d.setCan p x).mram = d.mram := rfl
@[simp] theorem Dev.setCan_out (d : Dev) (p : Nat) (x : Can) : (d.setCan p x).out = d.out := rfl
@[simp] theorem Dev.setCan_bus (d : Dev) (p : Nat) (x : Can) : (d.setCan p x).bus = d.bus := rfl
@[simp] theorem Dev.setCan_rst (d : Dev) (p : Nat) (x : Can) : (d.setCan p x).rst = d.rst := rfl
@[simp] theorem Dev.setCan_clk (d : Dev) (p : Nat) (x : Can) : (d.setCan p x).clk = d.clk := rfl
@[simp] theorem Dev.setCan_icu (d : Dev) (p : Nat) (x : Can) : (d.setCan p x).icu = d.icu := rfl
@[simp] theorem Dev.setCan_tmr (d : Dev) (p : Nat) (x : Can) : (d.setCan p x).tmr = d.tmr := rfl
@[simp] theorem Dev.setCan_tmrEv (d : Dev) (p : Nat) (x : Can) : (d.setCan p x).tmrEv = d.tmrEv := rfl
@[simp] theorem Dev.setCan_rak (d : Dev) (p : Nat) (x : Can) : (d.setCan p x).rak = d.rak := rfl
@[simp] theorem Dev.setCan_qmg (d : Dev) (p : Nat) (x : Can) : (d.setCan p x).qmg = d.qmg := rfl
@[simp] theorem Dev.setCan_mgs (d : Dev) (p : Nat) (x : Can) : (d.setCan p x).mgs = d.mgs := rfl
@[simp] theorem Dev.setCan_logq (d : Dev) (p : Nat) (x : Can) : (d.setCan p x).logq = d.logq := rfl
@[simp] theorem Dev.setCan_clr (d : Dev) (p : Nat) (x : Can) : (d.setCan p x).clr = d.clr := rfl
@[simp] theorem Dev.setCan_dbg (d : Dev) (p : Nat) (x : Can) : (d.setCan p x).dbg = d.dbg := rfl
@[simp] theorem Dev.setCan_sns (d : Dev) (p : Nat) (x : Can) : (d.setCan p x).sns = d.sns := rfl
@[simp] theorem Dev.setCan_prd (d : Dev) (p : Nat) (x : Can) : (d.setCan p x).prd = d.prd := rfl
@[simp] theorem Dev.setCan_qry (d : Dev) (p : Nat) (x : Can) : (d.setCan p x).qry = d.qry := rfl
@[simp] theorem Dev.setCan_sch (d : Dev) (p : Nat) (x : Can) : (d.setCan p x).sch = d.sch := rfl
@[simp] theorem Dev.setCan_prs (d : Dev) (p : Nat) (x : Can) : (d.setCan p x).prs = d.prs := rfl
@[simp] theorem Dev.setCan_lnk (d : Dev) (p : Nat) (x : Can) : (d.setCan p x).lnk = d.lnk := rfl
@[simp] theorem Dev.setCan_tile (d : Dev) (p : Nat) (x : Can) : (d.setCan p x).tile = d.tile := rfl
@[simp] theorem Dev.setCan_cdt (d : Dev) (p : Nat) (x : Can) : (d.setCan p x).cdt = d.cdt := rfl
@[simp] theorem Dev.setCan_mir (d : Dev) (p : Nat) (x : Can) : (d.setCan p x).mir = d.mir := rfl
@[simp] theorem Dev.setCan_adc (d : Dev) (p : Nat) (x : Can) : (d.setCan p x).adc = d.adc := rfl
@[simp] theorem Dev.setCan_enc (d : Dev) (p : Nat) (x : Can) : (d.setCan p x).enc = d.enc := rfl
@[simp] theorem Dev.setCan_tlog (d : Dev) (p : Nat) (x : Can) : (d.setCan p x).tlog = d.tlog := rfl
@[simp] theorem Dev.setCan_amark (d : Dev) (p : Nat) (x : Can) : (d.setCan p x).amark = d.amark := rfl
@[simp] theorem Dev.setCan_ertDiv (d : Dev) (p : Nat) (x : Can) : (d.setCan p x).ertDiv = d.ertDiv := rfl
@[simp] theorem Dev.setCan_trk (d : Dev) (p : Nat) (x : Can) : (d.setCan p x).trk = d.trk := rfl

/-! ### Dev.setTl -/

@[simp] theorem Dev.setTl_now (d : Dev) (k : Nat) (x : TLog) : (d.setTl k x).now = d.now := rfl
@[simp] theorem Dev.setTl_fab (d : Dev) (k : Nat) (x : TLog) : (d.setTl k x).fab = d.fab := rfl
@[simp] theorem Dev.setTl_draw (d : Dev) (k : Nat) (x : TLog) : (d.setTl k x).draw = d.draw := rfl
@[simp] theorem Dev.setTl_reg (d : Dev) (k : Nat) (x : TLog) : (d.setTl k x).reg = d.reg := rfl
@[simp] theorem Dev.setTl_shd (d : Dev) (k : Nat) (x : TLog) : (d.setTl k x).shd = d.shd := rfl
@[simp] theorem Dev.setTl_preq (d : Dev) (k : Nat) (x : TLog) : (d.setTl k x).preq = d.preq := rfl
@[simp] theorem Dev.setTl_cel (d : Dev) (k : Nat) (x : TLog) : (d.setTl k x).cel = d.cel := rfl
@[simp] theorem Dev.setTl_corks (d : Dev) (k : Nat) (x : TLog) : (d.setTl k x).corks = d.corks := rfl
@[simp] theorem Dev.setTl_causes (d : Dev) (k : Nat) (x : TLog) : (d.setTl k x).causes = d.causes := rfl
@[simp] theorem Dev.setTl_fltNew (d : Dev) (k : Nat) (x : TLog) : (d.setTl k x).fltNew = d.fltNew := rfl
@[simp] theorem Dev.setTl_kept (d : Dev) (k : Nat) (x : TLog) : (d.setTl k x).kept = d.kept := rfl
@[simp] theorem Dev.setTl_mem (d : Dev) (k : Nat) (x : TLog) : (d.setTl k x).mem = d.mem := rfl
@[simp] theorem Dev.setTl_cmem (d : Dev) (k : Nat) (x : TLog) : (d.setTl k x).cmem = d.cmem := rfl
@[simp] theorem Dev.setTl_mram (d : Dev) (k : Nat) (x : TLog) : (d.setTl k x).mram = d.mram := rfl
@[simp] theorem Dev.setTl_out (d : Dev) (k : Nat) (x : TLog) : (d.setTl k x).out = d.out := rfl
@[simp] theorem Dev.setTl_bus (d : Dev) (k : Nat) (x : TLog) : (d.setTl k x).bus = d.bus := rfl
@[simp] theorem Dev.setTl_rst (d : Dev) (k : Nat) (x : TLog) : (d.setTl k x).rst = d.rst := rfl
@[simp] theorem Dev.setTl_clk (d : Dev) (k : Nat) (x : TLog) : (d.setTl k x).clk = d.clk := rfl
@[simp] theorem Dev.setTl_icu (d : Dev) (k : Nat) (x : TLog) : (d.setTl k x).icu = d.icu := rfl
@[simp] theorem Dev.setTl_tmr (d : Dev) (k : Nat) (x : TLog) : (d.setTl k x).tmr = d.tmr := rfl
@[simp] theorem Dev.setTl_tmrEv (d : Dev) (k : Nat) (x : TLog) : (d.setTl k x).tmrEv = d.tmrEv := rfl
@[simp] theorem Dev.setTl_rak (d : Dev) (k : Nat) (x : TLog) : (d.setTl k x).rak = d.rak := rfl
@[simp] theorem Dev.setTl_hif (d : Dev) (k : Nat) (x : TLog) : (d.setTl k x).hif = d.hif := rfl
@[simp] theorem Dev.setTl_qmg (d : Dev) (k : Nat) (x : TLog) : (d.setTl k x).qmg = d.qmg := rfl
@[simp] theorem Dev.setTl_mgs (d : Dev) (k : Nat) (x : TLog) : (d.setTl k x).mgs = d.mgs := rfl
@[simp] theorem Dev.setTl_logq (d : Dev) (k : Nat) (x : TLog) : (d.setTl k x).logq = d.logq := rfl
@[simp] theorem Dev.setTl_clr (d : Dev) (k : Nat) (x : TLog) : (d.setTl k x).clr = d.clr := rfl
@[simp] theorem Dev.setTl_dbg (d : Dev) (k : Nat) (x : TLog) : (d.setTl k x).dbg = d.dbg := rfl
@[simp] theorem Dev.setTl_sns (d : Dev) (k : Nat) (x : TLog) : (d.setTl k x).sns = d.sns := rfl
@[simp] theorem Dev.setTl_prd (d : Dev) (k : Nat) (x : TLog) : (d.setTl k x).prd = d.prd := rfl
@[simp] theorem Dev.setTl_qry (d : Dev) (k : Nat) (x : TLog) : (d.setTl k x).qry = d.qry := rfl
@[simp] theorem Dev.setTl_sch (d : Dev) (k : Nat) (x : TLog) : (d.setTl k x).sch = d.sch := rfl
@[simp] theorem Dev.setTl_prs (d : Dev) (k : Nat) (x : TLog) : (d.setTl k x).prs = d.prs := rfl
@[simp] theorem Dev.setTl_lnk (d : Dev) (k : Nat) (x : TLog) : (d.setTl k x).lnk = d.lnk := rfl
@[simp] theorem Dev.setTl_tile (d : Dev) (k : Nat) (x : TLog) : (d.setTl k x).tile = d.tile := rfl
@[simp] theorem Dev.setTl_cdt (d : Dev) (k : Nat) (x : TLog) : (d.setTl k x).cdt = d.cdt := rfl
@[simp] theorem Dev.setTl_mir (d : Dev) (k : Nat) (x : TLog) : (d.setTl k x).mir = d.mir := rfl
@[simp] theorem Dev.setTl_adc (d : Dev) (k : Nat) (x : TLog) : (d.setTl k x).adc = d.adc := rfl
@[simp] theorem Dev.setTl_enc (d : Dev) (k : Nat) (x : TLog) : (d.setTl k x).enc = d.enc := rfl
@[simp] theorem Dev.setTl_amark (d : Dev) (k : Nat) (x : TLog) : (d.setTl k x).amark = d.amark := rfl
@[simp] theorem Dev.setTl_ertDiv (d : Dev) (k : Nat) (x : TLog) : (d.setTl k x).ertDiv = d.ertDiv := rfl
@[simp] theorem Dev.setTl_trk (d : Dev) (k : Nat) (x : TLog) : (d.setTl k x).trk = d.trk := rfl

/-! ### Dev.setAm -/

@[simp] theorem Dev.setAm_now (d : Dev) (i : Nat) (x : AMark) : (d.setAm i x).now = d.now := rfl
@[simp] theorem Dev.setAm_fab (d : Dev) (i : Nat) (x : AMark) : (d.setAm i x).fab = d.fab := rfl
@[simp] theorem Dev.setAm_draw (d : Dev) (i : Nat) (x : AMark) : (d.setAm i x).draw = d.draw := rfl
@[simp] theorem Dev.setAm_reg (d : Dev) (i : Nat) (x : AMark) : (d.setAm i x).reg = d.reg := rfl
@[simp] theorem Dev.setAm_shd (d : Dev) (i : Nat) (x : AMark) : (d.setAm i x).shd = d.shd := rfl
@[simp] theorem Dev.setAm_preq (d : Dev) (i : Nat) (x : AMark) : (d.setAm i x).preq = d.preq := rfl
@[simp] theorem Dev.setAm_cel (d : Dev) (i : Nat) (x : AMark) : (d.setAm i x).cel = d.cel := rfl
@[simp] theorem Dev.setAm_corks (d : Dev) (i : Nat) (x : AMark) : (d.setAm i x).corks = d.corks := rfl
@[simp] theorem Dev.setAm_causes (d : Dev) (i : Nat) (x : AMark) : (d.setAm i x).causes = d.causes := rfl
@[simp] theorem Dev.setAm_fltNew (d : Dev) (i : Nat) (x : AMark) : (d.setAm i x).fltNew = d.fltNew := rfl
@[simp] theorem Dev.setAm_kept (d : Dev) (i : Nat) (x : AMark) : (d.setAm i x).kept = d.kept := rfl
@[simp] theorem Dev.setAm_mem (d : Dev) (i : Nat) (x : AMark) : (d.setAm i x).mem = d.mem := rfl
@[simp] theorem Dev.setAm_cmem (d : Dev) (i : Nat) (x : AMark) : (d.setAm i x).cmem = d.cmem := rfl
@[simp] theorem Dev.setAm_mram (d : Dev) (i : Nat) (x : AMark) : (d.setAm i x).mram = d.mram := rfl
@[simp] theorem Dev.setAm_out (d : Dev) (i : Nat) (x : AMark) : (d.setAm i x).out = d.out := rfl
@[simp] theorem Dev.setAm_bus (d : Dev) (i : Nat) (x : AMark) : (d.setAm i x).bus = d.bus := rfl
@[simp] theorem Dev.setAm_rst (d : Dev) (i : Nat) (x : AMark) : (d.setAm i x).rst = d.rst := rfl
@[simp] theorem Dev.setAm_clk (d : Dev) (i : Nat) (x : AMark) : (d.setAm i x).clk = d.clk := rfl
@[simp] theorem Dev.setAm_icu (d : Dev) (i : Nat) (x : AMark) : (d.setAm i x).icu = d.icu := rfl
@[simp] theorem Dev.setAm_tmr (d : Dev) (i : Nat) (x : AMark) : (d.setAm i x).tmr = d.tmr := rfl
@[simp] theorem Dev.setAm_tmrEv (d : Dev) (i : Nat) (x : AMark) : (d.setAm i x).tmrEv = d.tmrEv := rfl
@[simp] theorem Dev.setAm_rak (d : Dev) (i : Nat) (x : AMark) : (d.setAm i x).rak = d.rak := rfl
@[simp] theorem Dev.setAm_hif (d : Dev) (i : Nat) (x : AMark) : (d.setAm i x).hif = d.hif := rfl
@[simp] theorem Dev.setAm_qmg (d : Dev) (i : Nat) (x : AMark) : (d.setAm i x).qmg = d.qmg := rfl
@[simp] theorem Dev.setAm_mgs (d : Dev) (i : Nat) (x : AMark) : (d.setAm i x).mgs = d.mgs := rfl
@[simp] theorem Dev.setAm_logq (d : Dev) (i : Nat) (x : AMark) : (d.setAm i x).logq = d.logq := rfl
@[simp] theorem Dev.setAm_clr (d : Dev) (i : Nat) (x : AMark) : (d.setAm i x).clr = d.clr := rfl
@[simp] theorem Dev.setAm_dbg (d : Dev) (i : Nat) (x : AMark) : (d.setAm i x).dbg = d.dbg := rfl
@[simp] theorem Dev.setAm_sns (d : Dev) (i : Nat) (x : AMark) : (d.setAm i x).sns = d.sns := rfl
@[simp] theorem Dev.setAm_prd (d : Dev) (i : Nat) (x : AMark) : (d.setAm i x).prd = d.prd := rfl
@[simp] theorem Dev.setAm_qry (d : Dev) (i : Nat) (x : AMark) : (d.setAm i x).qry = d.qry := rfl
@[simp] theorem Dev.setAm_sch (d : Dev) (i : Nat) (x : AMark) : (d.setAm i x).sch = d.sch := rfl
@[simp] theorem Dev.setAm_prs (d : Dev) (i : Nat) (x : AMark) : (d.setAm i x).prs = d.prs := rfl
@[simp] theorem Dev.setAm_lnk (d : Dev) (i : Nat) (x : AMark) : (d.setAm i x).lnk = d.lnk := rfl
@[simp] theorem Dev.setAm_tile (d : Dev) (i : Nat) (x : AMark) : (d.setAm i x).tile = d.tile := rfl
@[simp] theorem Dev.setAm_cdt (d : Dev) (i : Nat) (x : AMark) : (d.setAm i x).cdt = d.cdt := rfl
@[simp] theorem Dev.setAm_mir (d : Dev) (i : Nat) (x : AMark) : (d.setAm i x).mir = d.mir := rfl
@[simp] theorem Dev.setAm_adc (d : Dev) (i : Nat) (x : AMark) : (d.setAm i x).adc = d.adc := rfl
@[simp] theorem Dev.setAm_enc (d : Dev) (i : Nat) (x : AMark) : (d.setAm i x).enc = d.enc := rfl
@[simp] theorem Dev.setAm_tlog (d : Dev) (i : Nat) (x : AMark) : (d.setAm i x).tlog = d.tlog := rfl
@[simp] theorem Dev.setAm_ertDiv (d : Dev) (i : Nat) (x : AMark) : (d.setAm i x).ertDiv = d.ertDiv := rfl
@[simp] theorem Dev.setAm_trk (d : Dev) (i : Nat) (x : AMark) : (d.setAm i x).trk = d.trk := rfl

end Sys2Proof.Machine
end

