-- ==== Sys2Proof/Laws/Ops.lean ====
section
/-! SUPPORT. What the shared operations do: registers and fields, fault records and interrupts, corks, and the shape every
command has. -/

namespace Sys2Proof.Machine

set_option Elab.async false

/-! ### Registers -/

@[simp] theorem Dev.rd_wr_same (d : Dev) (a : Nat) (w : Word) : (d.wr a w).rd a = w := smGet_smSet_same _ _ _ _

theorem Dev.rd_wr_ne (d : Dev) {a b : Nat} (w : Word) (h : b ≠ a) : (d.wr a w).rd b = d.rd b := smGet_smSet_ne _ _ _ _ h

@[simp] theorem Dev.crd_cwr_same (d : Dev) (a : Nat) (w : Word) : (d.cwr a w).crd a = w := smGet_smSet_same _ _ _ _

theorem Dev.crd_cwr_ne (d : Dev) {a b : Nat} (w : Word) (h : b ≠ a) : (d.cwr a w).crd b = d.crd b := smGet_smSet_ne _ _ _ _ h

@[simp] theorem Dev.own_setOwn_same (d : Dev) (r a : Nat) (w : Word) : (d.setOwn r a w).own r a = w := smGet_smSet_same _ _ _ _

/-- A read depends on the register store only. -/
theorem Dev.rd_congr {d e : Dev} (h : d.reg = e.reg) (a : Nat) : d.rd a = e.rd a := by simp [Dev.rd, h]

theorem Dev.get_congr {d e : Dev} (h : d.reg = e.reg) (f : Fld) : d.get f = e.get f := by simp [Dev.get, Dev.rd_congr h]

/-! ### Fields -/

/-- A field of a word that it lies in, after that field was set. -/
theorem fldGet_fldPut_same (f : Fld) (w : Word) (v : Nat) (hf : f.lo ≤ f.hi ∧ f.hi < 32) :
    fldGet f (fldPut f w v) = v % 2 ^ (f.hi + 1 - f.lo) := by
  obtain ⟨hl, hh⟩ := hf
  unfold fldGet fldPut
  simp only [BitVec.toNat_ofNat]
  generalize w.toNat = n
  have hsplit : 2 ^ (f.hi + 1) = 2 ^ f.lo * 2 ^ (f.hi + 1 - f.lo) := by rw [← Nat.pow_add]; congr 1; omega
  have h32 : 2 ^ 32 = 2 ^ f.lo * (2 ^ (f.hi + 1 - f.lo) * 2 ^ (32 - (f.hi + 1))) := by
    rw [← Nat.pow_add, ← Nat.pow_add]; congr 1; omega
  have hp : 0 < 2 ^ f.lo := Nat.two_pow_pos _
  generalize hA : 2 ^ f.lo = A at *
  generalize hB : 2 ^ (f.hi + 1 - f.lo) = B at *
  generalize hC : 2 ^ (32 - (f.hi + 1)) = C at *
  generalize n / 2 ^ (f.hi + 1) = m
  rw [hsplit, h32, Nat.mod_mul_right_div_self,
    show n % A + v % B * A + m * (A * B) = n % A + A * (v % B + m * B) by ring,
    Nat.add_mul_div_left _ _ hp, Nat.div_eq_of_lt (Nat.mod_lt _ hp), Nat.zero_add, Nat.mod_mul_right_mod]
  simp

/-- A field that does not overlap the one that was set. -/
theorem fldGet_fldPut_ne (f g : Fld) (w : Word) (v : Nat) (hf : f.lo ≤ f.hi) (hg : g.lo ≤ g.hi ∧ g.hi < 32)
    (h : g.hi < f.lo ∨ f.hi < g.lo) : fldGet g (fldPut f w v) = fldGet g w := by
  obtain ⟨gl, gh⟩ := hg
  unfold fldGet fldPut
  simp only [BitVec.toNat_ofNat]
  generalize w.toNat = n
  have h32 : 2 ^ 32 = 2 ^ g.lo * (2 ^ (g.hi + 1 - g.lo) * 2 ^ (32 - (g.hi + 1))) := by
    rw [← Nat.pow_add, ← Nat.pow_add]; congr 1; omega
  rw [h32, Nat.mod_mul_right_div_self, Nat.mod_mul_right_mod]
  have hsplit : 2 ^ (f.hi + 1) = 2 ^ f.lo * 2 ^ (f.hi + 1 - f.lo) := by rw [← Nat.pow_add]; congr 1; omega
  have hpf : 0 < 2 ^ f.lo := Nat.two_pow_pos _
  have hpg : 0 < 2 ^ g.lo := Nat.two_pow_pos _
  rcases h with h | h
  · -- below
    have hlo : 2 ^ f.lo = 2 ^ g.lo * (2 ^ (g.hi + 1 - g.lo) * 2 ^ (f.lo - (g.hi + 1))) := by
      rw [← Nat.pow_add, ← Nat.pow_add]; congr 1; omega
    rw [hsplit]
    generalize v % 2 ^ (f.hi + 1 - f.lo) = x
    generalize hB : 2 ^ (f.hi + 1 - f.lo) = B
    generalize n / (2 ^ f.lo * B) = m
    rw [show n % 2 ^ f.lo + x * 2 ^ f.lo + m * (2 ^ f.lo * B) = n % 2 ^ f.lo + 2 ^ f.lo * (x + m * B) by ring]
    generalize x + m * B = y
    rw [hlo]
    generalize 2 ^ g.lo = G at *
    generalize 2 ^ (g.hi + 1 - g.lo) = H
    generalize 2 ^ (f.lo - (g.hi + 1)) = K
    rw [show n % (G * (H * K)) + G * (H * K) * y = n % (G * (H * K)) + G * (H * K * y) by ring, Nat.add_mul_div_left _ _ hpg,
      Nat.mod_mul_right_div_self, show H * K * y = H * (K * y) by ring, Nat.add_mul_mod_self_left, Nat.mod_mul_right_mod]
  · -- above
    have hglo : 2 ^ g.lo = 2 ^ (f.hi + 1) * 2 ^ (g.lo - (f.hi + 1)) := by rw [← Nat.pow_add]; congr 1; omega
    have hlow : n % 2 ^ f.lo + v % 2 ^ (f.hi + 1 - f.lo) * 2 ^ f.lo < 2 ^ (f.hi + 1) := by
      have h1 : n % 2 ^ f.lo < 2 ^ f.lo := Nat.mod_lt _ hpf
      have h2 : v % 2 ^ (f.hi + 1 - f.lo) + 1 ≤ 2 ^ (f.hi + 1 - f.lo) := Nat.mod_lt _ (Nat.two_pow_pos _)
      rw [hsplit]
      calc n % 2 ^ f.lo + v % 2 ^ (f.hi + 1 - f.lo) * 2 ^ f.lo < 2 ^ f.lo + v % 2 ^ (f.hi + 1 - f.lo) * 2 ^ f.lo := by omega
        _ = 2 ^ f.lo * (v % 2 ^ (f.hi + 1 - f.lo) + 1) := by ring
        _ ≤ 2 ^ f.lo * 2 ^ (f.hi + 1 - f.lo) := Nat.mul_le_mul_left _ h2
    generalize n % 2 ^ f.lo + v % 2 ^ (f.hi + 1 - f.lo) * 2 ^ f.lo = l at *
    have hp : 0 < 2 ^ (f.hi + 1) := Nat.two_pow_pos _
    rw [hglo, ← Nat.div_div_eq_div_mul, ← Nat.div_div_eq_div_mul, show l + n / 2 ^ (f.hi + 1) * 2 ^ (f.hi + 1) = l + 2 ^ (f.hi + 1) * (n / 2 ^ (f.hi + 1)) by ring,
      Nat.add_mul_div_left _ _ hp, Nat.div_eq_of_lt hlow, Nat.zero_add]

theorem Dev.get_put_same (d : Dev) (f : Fld) (v : Nat) (hf : f.lo ≤ f.hi ∧ f.hi < 32) :
    (d.put f v).get f = v % 2 ^ (f.hi + 1 - f.lo) := by
  simp only [Dev.get, Dev.put, Dev.rd_wr_same]
  exact fldGet_fldPut_same f _ v hf

/-- A field of another register. -/
theorem Dev.get_put_ne (d : Dev) (f g : Fld) (v : Nat) (h : g.addr ≠ f.addr) : (d.put f v).get g = d.get g := by
  simp only [Dev.get, Dev.put, Dev.rd_wr_ne d _ h]

/-- Another field, of the same register or of another one. -/
theorem Dev.get_put_apart (d : Dev) (f g : Fld) (v : Nat) (hf : f.lo ≤ f.hi) (hg : g.lo ≤ g.hi ∧ g.hi < 32)
    (h : g.hi < f.lo ∨ f.hi < g.lo) : (d.put f v).get g = d.get g := by
  by_cases ha : g.addr = f.addr
  · simp only [Dev.get, Dev.put, ha, Dev.rd_wr_same]
    exact fldGet_fldPut_ne f g _ v hf hg h
  · exact Dev.get_put_ne d f g v ha

theorem Dev.rd_put_ne (d : Dev) (f : Fld) (v : Nat) {a : Nat} (h : a ≠ f.addr) : (d.put f v).rd a = d.rd a := Dev.rd_wr_ne d _ h

theorem Dev.cget_cput_same (d : Dev) (f : Fld) (v : Nat) (hf : f.lo ≤ f.hi ∧ f.hi < 32) :
    (d.cput f v).cget f = v % 2 ^ (f.hi + 1 - f.lo) := by
  simp only [Dev.cget, Dev.cput, Dev.crd_cwr_same]
  exact fldGet_fldPut_same f _ v hf

theorem Dev.crd_cput_ne (d : Dev) (f : Fld) (v : Nat) {a : Nat} (h : a ≠ f.addr) : (d.cput f v).crd a = d.crd a := Dev.crd_cwr_ne d _ h

/-! ### Reports: fault records, interrupts, messages and log entries leave the rest of the device alone -/

@[simp] theorem Dev.wr_still (d : Dev) (a : Nat) (w : Word) : (d.wr a w).still = d.still := rfl
@[simp] theorem Dev.emit_still (d : Dev) (o : HostOut) : (d.emit o).still = d.still := rfl
@[simp] theorem Dev.causeOff_still (d : Dev) (b c i : Nat) : (d.causeOff b c i).still = d.still := rfl
@[simp] theorem Dev.icu_still (d : Dev) (x : Icu) : ({ d with icu := x } : Dev).still = d.still := rfl
@[simp] theorem Dev.logq_still (d : Dev) (x : List (List Nat)) : ({ d with logq := x } : Dev).still = d.still := rfl
@[simp] theorem Dev.fltNew_still (d : Dev) (x : List (Nat × Nat)) : ({ d with fltNew := x } : Dev).still = d.still := rfl
@[simp] theorem Dev.kept_still (d : Dev) (x : List Kept) : ({ d with kept := x } : Dev).still = d.still := rfl
@[simp] theorem Dev.causes_still (d : Dev) (x : List Cause) : ({ d with causes := x } : Dev).still = d.still := rfl
theorem Dev.fltNew_kept_still (d : Dev) (x : List (Nat × Nat)) (y : List Kept) : ({ d with fltNew := x, kept := y } : Dev).still = d.still := rfl
@[simp] theorem Dev.markNew_still (d : Dev) (m : Nat) : (d.markNew m).still = d.still := Dev.fltNew_still _ _
@[simp] theorem Dev.put_still (d : Dev) (f : Fld) (v : Nat) : (d.put f v).still = d.still := Dev.wr_still _ _ _
@[simp] theorem Dev.putB_still (d : Dev) (f : Fld) (b : Bool) : (d.putB f b).still = d.still := Dev.put_still _ _ _
@[simp] theorem Dev.incSat_still (d : Dev) (f : Fld) : (d.incSat f).still = d.still := Dev.put_still _ _ _
@[simp] theorem Dev.putMax_still (d : Dev) (f : Fld) (v : Nat) : (d.putMax f v).still = d.still := Dev.put_still _ _ _
@[simp] theorem Dev.setBit_still (d : Dev) (a i : Nat) (b : Bool) : (d.setBit a i b).still = d.still := Dev.put_still _ _ _
@[simp] theorem Dev.setAbit_still (d : Dev) (a n : Nat) (b : Bool) : (d.setAbit a n b).still = d.still := Dev.setBit_still _ _ _ _
@[simp] theorem Dev.icuPend_still (d : Dev) (s : Nat) (b : Bool) : (d.icuPend s b).still = d.still := Dev.setAbit_still _ _ _ _

@[simp] theorem Dev.put64_still (d : Dev) (a b v : Nat) : (d.put64 a b v).still = d.still := by
  unfold Dev.put64
  rw [Dev.wr_still, Dev.wr_still]

@[simp] theorem Dev.fltFirst_still (d : Dev) (b c i s : Nat) : (d.fltFirst b c i s).still = d.still := by
  unfold Dev.fltFirst
  rw [Dev.put64_still, Dev.put_still, Dev.put_still, Dev.put_still, Dev.put_still]

@[simp] theorem Dev.msix_still (d : Dev) (v : Nat) : (d.msix v).still = d.still := by
  unfold Dev.msix
  dsimp only
  split
  · rfl
  · split
    · exact Dev.setAbit_still _ _ _ _
    · exact Dev.emit_still _ _

@[simp] theorem Dev.icuCount_still (d : Dev) (s : Nat) : (d.icuCount s).still = d.still := by
  unfold Dev.icuCount
  dsimp only
  split
  · rw [Dev.icuPend_still, Dev.icu_still]
  · rw [Dev.icu_still]

/-- The arrival without its message. -/
def Dev.icuStep (x : Dev) (s : Nat) (off level srv : Bool) : Dev :=
  if off then x
  else if level then (if srv then x else x.icuPend s true)
  else if srv then { x with icu := { x.icu with again := smSet x.icu.again 0 s (smGet x.icu.again 0 s + 1) } }
  else x.icuCount s

theorem Dev.icuStep_still (x : Dev) (s : Nat) (off level srv : Bool) : (x.icuStep s off level srv).still = x.still := by
  unfold Dev.icuStep
  split
  · rfl
  · split
    · split
      · rfl
      · exact Dev.icuPend_still _ _ _
    · split
      · exact Dev.icu_still _ _
      · exact Dev.icuCount_still _ _

@[simp] theorem Dev.icuArrive_still (d : Dev) (s : Nat) : (d.icuArrive s).still = d.still := by
  unfold Dev.icuArrive
  split
  · rfl
  · dsimp only
    generalize hx : d.incSat ⟨R.ICU_ARR (s / 4), 8 * (s % 4) + 7, 8 * (s % 4)⟩ = x
    have hx' : x.still = d.still := by rw [← hx, Dev.incSat_still]
    rw [← hx', ← Dev.icuStep_still x s (!d.flag (F.ICU_SRC_EN s)) (d.icuLevel s) (d.icuInSrv s)]
    unfold Dev.icuStep
    split
    · exact Dev.msix_still _ _
    · rfl

@[simp] theorem Dev.log_still (d : Dev) (b k c s : Nat) (l : List Nat) : (d.log b k c s l).still = d.still := by
  unfold Dev.log
  split
  · exact Dev.logq_still _ _
  · exact Dev.incSat_still _ _

theorem Dev.foldl_still {β : Type} (f : Dev → β → Dev) (hf : ∀ x b, (f x b).still = x.still) (l : List β) :
    ∀ d : Dev, (l.foldl f d).still = d.still := by
  induction l with
  | nil => intro d; rfl
  | cons a r ih => intro d; simp only [List.foldl_cons]; rw [ih, hf]

@[simp] theorem Dev.fltIrq_still (d : Dev) (b : Nat) : (d.fltIrq b).still = d.still := Dev.icuArrive_still d b

/-- A cause that arises (R72, R73) changes registers and reports only. -/
@[simp] theorem Dev.arise_still (d : Dev) (b c i s : Nat) : (d.arise b c i s).still = d.still := by
  unfold Dev.arise
  dsimp only
  split
  · rfl
  · split
    · split
      · exact Dev.markNew_still _ _
      · rw [Dev.log_still, Dev.fltIrq_still, Dev.foldl_still _ (fun x b => Dev.setBit_still x _ _ _), Dev.markNew_still, Dev.put_still, Dev.fltFirst_still]
    · split
      · split
        · split
          · rw [Dev.putMax_still, Dev.fltFirst_still]
          · rw [Dev.setBit_still, Dev.setBit_still, Dev.putMax_still, Dev.fltFirst_still]
        · split
          · rfl
          · exact Dev.setBit_still _ _ _ _
      · split
        · rw [Dev.log_still, Dev.fltIrq_still, Dev.put_still, Dev.incSat_still, Dev.setBit_still]
        · rw [Dev.incSat_still, Dev.setBit_still]

@[simp] theorem Dev.raise_still (d : Dev) (b c i s : Nat) : (d.raise b c i s).still = d.still := by
  unfold Dev.raise
  dsimp only
  rw [Dev.arise_still]
  split
  · exact Dev.kept_still _ _
  · rfl

@[simp] theorem Dev.causeOn_still (d : Dev) (b c i s : Nat) : (d.causeOn b c i s).still = d.still := by
  unfold Dev.causeOn
  split
  · rfl
  · rw [Dev.arise_still, Dev.causes_still]

@[simp] theorem Dev.cause_still (d : Dev) (b c i s : Nat) (on : Bool) : (d.cause b c i s on).still = d.still := by
  unfold Dev.cause
  split
  · exact Dev.causeOn_still d b c i s
  · exact Dev.causeOff_still d b c i

theorem Dev.foldl_fold_still {β : Type} (f : Dev → β → Dev) (hf : ∀ x b, (f x b).still = x.still) (l : List β) (d e : Dev)
    (h : d.still = e.still) : (l.foldl f d).still = e.still := (Dev.foldl_still f hf l d).trans h

/-- A closed record (R74) changes registers and reports only. -/
@[simp] theorem Dev.fltClose_still (d : Dev) (b : Nat) : (d.fltClose b).still = d.still := by
  unfold Dev.fltClose
  dsimp only
  refine Dev.foldl_fold_still (fun (x : Dev) (c : Cause) => x.arise b c.code c.inst c.sev) (fun x c => Dev.arise_still x b c.code c.inst c.sev) _ _ _ ?_
  rw [Dev.fltNew_kept_still, Dev.put_still, Dev.wr_still, Dev.put_still]

/-! ### Corks (R59, R62) -/

@[simp] theorem Dev.corkRefuse_still (d : Dev) (b a q r : Nat) : (d.corkRefuse b a q r).still = d.still := by
  unfold Dev.corkRefuse
  rw [Dev.raise_still, Dev.put_still, Dev.put_still, Dev.put_still]

/-- Two devices with the same rest agree in every field that is no report. -/
theorem Dev.still_corks {d e : Dev} (h : d.still = e.still) : d.corks = e.corks := show d.still.corks = e.still.corks from congrArg Dev.corks h
theorem Dev.still_fab {d e : Dev} (h : d.still = e.still) : d.fab = e.fab := show d.still.fab = e.still.fab from congrArg Dev.fab h
theorem Dev.still_mem {d e : Dev} (h : d.still = e.still) : d.mem = e.mem := show d.still.mem = e.still.mem from congrArg Dev.mem h
theorem Dev.still_cel {d e : Dev} (h : d.still = e.still) : d.cel = e.cel := show d.still.cel = e.still.cel from congrArg Dev.cel h

/-- With no cork overdue, nothing happens. -/
theorem Dev.corkTick_fresh (d : Dev) (h : d.corksFresh) : d.corkTick = d := by
  unfold Dev.corkTick
  have key : ∀ l : List Cork, (∀ c ∈ l, d.fab ≤ c.opened + corkCycles) →
      l.foldl (fun (x : Dev) c =>
        if c.opened + corkCycles < x.fab then (x.corkEnd c.addr).corkRefuse ((corkBlk c.addr).getD 0) c.addr c.req 2 else x) d = d := by
    intro l
    induction l with
    | nil => intro _; rfl
    | cons c r ih =>
      intro hl
      have hc : ¬ (c.opened + corkCycles < d.fab) := by
        have := hl c (List.mem_cons_self ..)
        omega
      simp only [List.foldl_cons, hc, if_false]
      exact ih (fun x hx => hl x (List.mem_cons_of_mem _ hx))
  exact key d.corks h

/-! ### The shape of every command -/

/-- A command of the core domain, in a state of the invariant, where its effect leaves corks and the count of cycles alone. -/
theorem State.run_eq (s : State) (f : Dev → Dev) (hs : s.coreRuns)
    (hc : (f s.dev).corks = s.dev.corks) (hf : (f s.dev).fab = s.dev.fab) :
    s.run f = .next { s with dev := f s.dev } := by
  have hcore : s.dev.rst.core = false := hs.2
  unfold State.run State.runAny
  simp only [hcore]
  rw [if_neg (by simp)]
  rw [Dev.corkTick_fresh]
  intro c hcm
  rw [hf]
  exact hs.1 c (hc ▸ hcm)

/-- A command of any domain, in a state of the invariant, where its effect leaves corks and the count of cycles alone. -/
theorem State.runAny_eq (s : State) (f : Dev → Dev) (hs : s.dev.corksFresh)
    (hc : (f s.dev).corks = s.dev.corks) (hf : (f s.dev).fab = s.dev.fab) :
    s.runAny f = .next { s with dev := f s.dev } := by
  unfold State.runAny
  rw [Dev.corkTick_fresh]
  intro c hcm
  rw [hf]
  exact hs c (hc ▸ hcm)

/-- Completion of a command of the core domain: its meaning is s.run f, and the rest is about f. -/
theorem completes_run {c : Instr} {s : State} {p : Dev → Prop} (f : Dev → Dev) (hx : exec c s = s.run f) (hs : s.coreRuns)
    (hc : (f s.start).corks = s.dev.corks) (hf : (f s.start).fab = s.dev.fab) (hp : p (f s.start)) : Completes c s p :=
  ⟨_, hx.trans (State.run_eq s f hs hc hf), rfl, hp⟩

/-- A command of the SYSTEM domain. -/
theorem completes_sys {c : Instr} {s : State} {p : Dev → Prop} (f : Dev → Dev) (hx : exec c s = s.runSys f) (hs : s.sysRuns)
    (hc : (f s.start).corks = s.dev.corks) (hf : (f s.start).fab = s.dev.fab) (hp : p (f s.start)) : Completes c s p := by
  have e : (fun d : Dev => if d.rst.sys then d else f d) s.start = f s.start := by
    have h : s.start.rst.sys = false := hs.2
    simp only [h]
    rfl
  have r := State.runAny_eq s (fun d : Dev => if d.rst.sys then d else f d) hs.1 ((congrArg Dev.corks e).trans hc) ((congrArg Dev.fab e).trans hf)
  exact ⟨{ s with dev := f s.start }, hx.trans (r.trans (congrArg (fun x => Host.Outcome.next { s with dev := x }) e)), rfl, hp⟩

/-- A command of the Cellar. -/
theorem completes_cel {c : Instr} {s : State} {p : Dev → Prop} (f : Dev → Dev) (hx : exec c s = s.runCel f) (hs : s.celRuns)
    (hc : (f s.start).corks = s.dev.corks) (hf : (f s.start).fab = s.dev.fab) (hp : p (f s.start)) : Completes c s p := by
  have e : (fun d : Dev => if d.rst.vbat then d else f d) s.start = f s.start := by
    have h : s.start.rst.vbat = false := hs.2
    simp only [h]
    rfl
  have r := State.runAny_eq s (fun d : Dev => if d.rst.vbat then d else f d) hs.1 ((congrArg Dev.corks e).trans hc) ((congrArg Dev.fab e).trans hf)
  exact ⟨{ s with dev := f s.start }, hx.trans (r.trans (congrArg (fun x => Host.Outcome.next { s with dev := x }) e)), rfl, hp⟩

/-- The effect of a command of a domain that is out of reset. -/
theorem runs_core {c : Instr} {s : State} (f : Dev → Dev) (hx : exec c s = s.run f) (hs : s.coreRuns) : Runs c s f := by
  have h : s.dev.rst.core = false := hs.2
  unfold Runs
  rw [hx]
  unfold State.run State.runAny State.start
  simp [h]

theorem runs_sys {c : Instr} {s : State} (f : Dev → Dev) (hx : exec c s = s.runSys f) (hs : s.sysRuns) : Runs c s f := by
  have h : s.dev.rst.sys = false := hs.2
  unfold Runs
  rw [hx]
  unfold State.runSys State.runAny State.start
  simp [h]

theorem runs_cel {c : Instr} {s : State} (f : Dev → Dev) (hx : exec c s = s.runCel f) (hs : s.celRuns) : Runs c s f := by
  have h : s.dev.rst.vbat = false := hs.2
  unfold Runs
  rw [hx]
  unfold State.runCel State.runAny State.start
  simp [h]

/-- Two effects that agree on the device at hand. -/
theorem runs_congr {c : Instr} {s : State} {f g : Dev → Dev} (h : Runs c s f) (e : f s.start = g s.start) : Runs c s g := by
  unfold Runs at h ⊢
  rw [h, e]

/-- The same for a command whose meaning is s.runAny f. -/
theorem completes_any {c : Instr} {s : State} {p : Dev → Prop} (f : Dev → Dev) (hx : exec c s = s.runAny f) (hs : s.dev.corksFresh)
    (hc : (f s.start).corks = s.dev.corks) (hf : (f s.start).fab = s.dev.fab) (hp : p (f s.start)) : Completes c s p :=
  ⟨_, hx.trans (State.runAny_eq s f hs hc hf), rfl, hp⟩

theorem runs_any {c : Instr} {s : State} (f : Dev → Dev) (hx : exec c s = s.runAny f) : Runs c s f := by
  unfold Runs; rw [hx]; rfl

/-- A command that takes its entry runs its operation on the device without that entry, and completes. -/
theorem Dev.runOp_takes {d : Dev} {h : CmdHdr} {op : Nat} {buf : Bool} {ps : List Par} {x : Sq} {e : Ent} {f : Dev → Dev × OpRes}
    (ht : d.opTakes h op buf ps x e) : d.runOp h op buf ps f = Dev.opEnd h op x e (f (d.opStart h op x)) := by
  unfold Dev.runOp
  rw [ht.1]
  simp [ht.2.1, ht.2.2.1, ht.2.2.2]

/-- A reliable frame that a side takes is acted on and acknowledged. -/
theorem Dev.trel_takes {d : Dev} {t : Nat} {sd : Bool} {seq low : Nat} {f : Dev → Dev × Nat × Nat} (h : d.tileTakes t sd seq low) :
    d.trel t sd true seq low f = Dev.tileEnd t sd seq (f d) := by
  unfold Dev.trel
  simp [h.1, h.2.2, Nat.not_lt.mpr h.2.1]

/-- A frame without acknowledgement that a side takes is acted on. -/
theorem Dev.tun_takes {d : Dev} {t : Nat} {sd : Bool} {low : Nat} {f : Dev → Dev} (hp : d.passes t sd = true) (hl : low ≤ (d.ts t sd).st) :
    d.tun t sd true low f = f d := by
  unfold Dev.tun
  simp [hp, Nat.not_lt.mpr hl]

/-- A mirror frame that is taken has its effect. -/
theorem Dev.mirRx_takes {d : Dev} {seq : Nat} {f : Dev → Dev} (h : d.mirTakes seq) : d.mirRx true seq f = f (d.mirSeen seq) := by
  have h2 := h.2
  unfold Dev.mirRx
  simp at h2
  simp [h.1, h2]

/-! ### Deadlines -/

/-- A deadline that has come lets no time pass. -/
@[simp] theorem Dev.until_past {d : Dev} {t : Nat} (h : t ≤ d.fab) : d.until t = d := by simp [Dev.until, h]

/-- A deadline ahead lets the FAB cycles up to it pass. -/
theorem Dev.until_ahead {d : Dev} {t : Nat} (h : d.fab < t) : d.until t = d.pass (t - d.fab) := by
  simp [Dev.until, Nat.not_le.mpr h]

/-! ### Accesses (R34-R37) -/

/-- An access of a requester that reaches the bus. -/
theorem runs_bus {c : Instr} {s : State} {req : Nat} (f : Dev → Dev) (hx : exec c s = s.runBus req f) (hs : s.busRuns req) :
    Runs c s fun d => f d.rakCatch := by
  have h : s.dev.rst.sys = false := hs.2.1
  have g : (s.dev.rst.core && req != 7 && req != 9) = false := by
    cases hc : s.dev.rst.core
    · rfl
    · rcases hs.2.2 hc with rfl | rfl <;> rfl
  unfold Runs
  rw [hx]
  unfold State.runBus State.runSys State.runAny State.start
  simp [h, g]

/-- An aligned write of 4 bytes to a register whose domain is on and out of reset. -/
theorem Dev.access_write {d : Dev} {req off data c : Nat} (hp : placeOf (off % 2 ^ 25) = .reg c) (ha : off % 4 = 0) (ho : d.isOff c = false)
    (hr : d.inReset c = false) :
    d.access req off 4 true data = d.regWrite req c data := by
  have h4 : off % 2 ^ 25 % 4 = 0 := by omega
  unfold Dev.access Dev.busWriteN Dev.wordWrite
  simp only [hp, h4, ho, hr]; simp [sizeOk]

/-- An aligned read of 4 bytes of a register whose domain is on and out of reset. -/
theorem Dev.access_read {d : Dev} {req off c : Nat} (hp : placeOf (off % 2 ^ 25) = .reg c) (ha : off % 4 = 0) (ho : d.isOff c = false)
    (hr : d.inReset c = false) :
    d.access req off 4 false 0 = d.regRead req c := by
  have h4 : off % 2 ^ 25 % 4 = 0 := by omega
  have h5 : off % 2 ^ 25 / 4 * 4 = off % 2 ^ 25 := by omega
  unfold Dev.access Dev.busReadN Dev.wordRead
  simp only [hp, h4, ho, h5, hr]; simp [sizeOk]

/-- An aligned access to a register in reset: it reads its reset value, and a write does nothing. -/
theorem Dev.access_reset {d : Dev} {req off data c : Nat} {wr : Bool} (hp : placeOf (off % 2 ^ 25) = .reg c) (ha : off % 4 = 0)
    (ho : d.isOff c = false) (hr : d.inReset c = true) : d.access req off 4 wr data = if wr then d else d.ret req (regReset c).toNat := by
  have h4 : off % 2 ^ 25 % 4 = 0 := by omega
  have h5 : off % 2 ^ 25 / 4 * 4 = off % 2 ^ 25 := by omega
  unfold Dev.access Dev.busReadN Dev.busWriteN Dev.wordRead Dev.wordWrite
  simp only [hp, h4, h5, ho, hr]; cases wr <;> simp [sizeOk]

/-- An aligned access to a register whose domain is off. -/
theorem Dev.access_off {d : Dev} {req off data c : Nat} {wr : Bool} (hp : placeOf (off % 2 ^ 25) = .reg c) (ha : off % 4 = 0)
    (ho : d.isOff c = true) : d.access req off 4 wr data = d.pwrOffAccess req wr := by
  have h4 : off % 2 ^ 25 % 4 = 0 := by omega
  unfold Dev.access Dev.busReadN Dev.busWriteN
  simp only [hp, h4, ho]; cases wr <;> simp [sizeOk]

/-- An access outside every span. -/
theorem Dev.access_out {d : Dev} {req off data size : Nat} {wr : Bool} (hs : sizeOk size = true) (hp : placeOf (off % 2 ^ 25) = .out) :
    d.access req off size wr data = if wr then d.hifInc F.HIF_CNT0_OUTSPAN else (d.hifInc F.HIF_CNT0_OUTSPAN).ret req 0 := by
  unfold Dev.access Dev.busReadN Dev.busWriteN
  simp only [hs, hp]; cases wr <;> rfl

/-- A misaligned access, or a write of fewer than 4 bytes, in a register window. -/
theorem Dev.access_narrow {d : Dev} {req off data size : Nat} {wr : Bool} (hs : sizeOk size = true) (hp : inWindow off = true)
    (hn : off % size ≠ 0 ∨ (wr = true ∧ size < 4)) : d.access req off size wr data = d.narrow req wr := by
  have hm : off % 2 ^ 25 % size = off % size := by
    have : size = 1 ∨ size = 2 ∨ size = 4 ∨ size = 8 := by simpa [sizeOk, or_assoc] using hs
    rcases this with rfl | rfl | rfl | rfl <;> omega
  unfold Dev.access Dev.busReadN Dev.busWriteN
  unfold inWindow at hp
  rw [hm]
  cases hq : placeOf (off % 2 ^ 25) <;> rw [hq] at hp <;> cases wr <;> simp_all

/-- An access of a memory. -/
theorem Dev.access_mem {d : Dev} {req off data size a : Nat} {wr : Bool} (hs : sizeOk size = true) (hp : placeOf (off % 2 ^ 25) = .mem a)
    (hc : d.rst.core = false) :
    d.access req off size wr data =
      if wr then d.memPieces 8 a size data else (d.memGather 8 a size).1.ret64 req (d.memGather 8 a size).2 := by
  unfold Dev.access Dev.busReadN Dev.busWriteN
  simp only [hs, hp, hc]; cases wr <;> simp

/-- Racking moves nothing where no transfer runs. -/
@[simp] theorem Dev.rakCatch_idle {d : Dev} (h : d.rak.running = none) : d.rakCatch = d := by simp [Dev.rakCatch, h]

/-- The host memory of a transfer answers at its end alone. -/
theorem Dev.rakCatch_host {d : Dev} {n : Nat} (h : d.rak.running = some n) (hh : d.rakHost n = true) : d.rakCatch = d := by
  simp [Dev.rakCatch, h, hh]

/-- What a command on the registers of HIF does: its effect, none in the reset of their domain, or a refused access. -/
theorem Dev.hifReach_cases (d : Dev) (req : Nat) (f : Dev → Dev) :
    (d.domUp 6 = true ∧ d.rst.perst = false ∧ d.hifReach req f = f d) ∨
    (d.domUp 6 = true ∧ d.rst.perst = true ∧ d.hifReach req f = d) ∨
    (d.domUp 6 = false ∧ d.hifReach req f = d.pwrOffAccess req true) := by
  cases h : d.domUp 6 <;> cases hp : d.rst.perst <;> simp [Dev.hifReach, h, hp]

end Sys2Proof.Machine
end

