-- ==== Sys2Proof/WellFormed.lean ====
section
/-! DEFINITION. Which commands are well formed: every operand fits the word, offset, time or field that carries it
(R5, R13, R33, R243, R335, R381). The meanings are total on any operands. -/

namespace Sys2Proof

/-- A natural number that fits n bits. -/
def fits (n x : Nat) : Bool := decide (x < 2 ^ n)

/-- A signed number that fits 64 bits. -/
def fitsI (x : Int) : Bool := decide (-(2 ^ 63) ≤ x) && decide (x < 2 ^ 63)

/-- The sizes of a BAR0 access in bytes (R35). -/
def sizeFits (n : Nat) : Bool := n == 1 || n == 2 || n == 4 || n == 8

/-- Every word fits 32 bits. -/
def wordList (l : List Nat) : Bool := l.all (fits 32)

def ints (l : List Int) : Bool := l.all fitsI

def optFits (o : Option Nat) : Bool := o.all (fits 32)

def pairs (l : List (Nat × Nat)) : Bool := l.all (fun p => fits 32 p.1 && fits 64 p.2)

/-- A command header (R381): a source below 258, a 16-bit CID, a 64-bit address, a 24-bit length. -/
def hdr (h : CmdHdr) : Bool := decide (h.src < 258) && fits 16 h.cid && fits 64 h.daddr && fits 24 h.dlen

/-- Who uses the bus as master (R393). -/
def user : BusUser → Bool
  | .command h got => hdr h && wordList got
  | .fetch _ => true
  | .stream _ => true
  | .racking => true

/-- Pulse entries of a COMMIT (R243): at most eight, with times of 48 bits. -/
def pulsesFit (l : List PulseEntry) : Bool := decide (l.length ≤ 8) && l.all (fun p => fits 48 p.start && fits 48 p.stop)

/-- The fields of a mirror HELLO (R335). -/
def hello (f : MirHello) : Bool :=
  fits 8 f.seq && fits 8 f.proto && fits 3 f.pstate && fits 16 f.dver && fits 32 f.fwrel && fits 16 f.image && fits 16 f.cur && fits 64 f.serial

/-- The fields of a mirror TOOTH (R335). -/
def tooth (f : MirTooth) : Bool := fits 9 f.pos && fits 32 f.span && fitsI f.cyc && fits 24 f.ang && fits 64 f.stamp

/-- The fields of a mirror DECIDE (R335). -/
def decFits (f : MirDecide) : Bool :=
  fits 32 f.stroke && fitsI f.cyc && fits 24 f.ang && fitsI f.acc && fits 8 f.ci && fits 8 f.cw && fits 16 f.lfsr && fits 17 f.dem

/-- An encoder event (R434, R436). -/
def encEv : EncEvent → Bool
  | .quad _ _ _ hold stamp => fits 64 hold.1 && fits 64 hold.2.1 && fits 64 hold.2.2 && fits 64 stamp
  | .sincos sine cosine stamp => fitsI sine && fitsI cosine && fits 64 stamp

/-- A well-formed command. -/
def wellFormed : Instr → Bool
  | .registerWrite _ off size data => fits 25 off && sizeFits size && fits 64 data
  | .outspanAccess _ off _ => fits 25 off
  | .narrowAccess _ off size _ => fits 25 off && sizeFits size
  | .pwroffAccess _ off _ => fits 25 off
  | .apertureAccess _ off size _ data => fits 25 off && sizeFits size && fits 64 data
  | .lowWordRead _ rd => fits 25 rd.off
  | .sysUpdStrobe _ grp => fits 32 grp
  | .rwsShadowWrite _ off data => fits 25 off && fits 32 data
  | .trackerSwap _ => true
  | .updTimeout _ => true
  | .sysUpdStatClr _ => true
  | .corkValueWrite _ off data => fits 25 off && fits 32 data
  | .corkTimeout off => fits 25 off
  | .bitAliasWrite _ off data => fits 25 off && fits 32 data
  | .celIdataRead _ => true
  | .celIdataWrite _ data => fits 32 data
  | .celAccessDone => true
  | .fastCopyRefresh => true
  | .slowStart => true
  | .slowStop => true
  | .fltClose _ _ => true
  | .refLost _ => true
  | .refGood _ => true
  | .relockComplete => true
  | .holdoffExpiry => true
  | .clkRefSwitch _ _ => true
  | .pllUnlock _ => true
  | .clkCntClr _ => true
  | .snsVrCrossing _ _ peak hold stamp => fits 32 peak && fits 32 hold && fits 64 stamp
  | .snsHallTransition _ _ hold stamp => fits 32 hold && fits 64 stamp
  | .snsOpenShort _ _ _ => true
  | .snsCfgWrite _ _ _ data => fits 32 data
  | .snsCntClr _ mask => fits 32 mask
  | .supplyOc _ _ => true
  | .trkPrimaryEdge _ => true
  | .synthToothDeadline _ => true
  | .pwidthDirection _ width => fits 32 width
  | .phaseEdge _ => true
  | .phaseWindowMiss _ => true
  | .trkStall _ => true
  | .stopRecordWrite _ => true
  | .trkEnable _ _ => true
  | .trkDisable _ _ => true
  | .trkCntClr _ mask => fits 32 mask
  | .toothRecord _ => true
  | .eventFreeze uid _ => fits 32 uid
  | .prdLmapWrite _ _ data => fits 32 data
  | .prdTableWrite _ _ _ idx data => fits 32 idx && fits 32 data
  | .clrTe _ _ => true
  | .clrRip1 _ _ => true
  | .clrRip0 _ _ => true
  | .prdQueryStart _ _ _ ang => fits 32 ang
  | .prdQueryDone _ => true
  | .prdQueryRead _ _ => true
  | .peSpareSwap _ _ _ => true
  | .peBackgroundCheck _ => true
  | .prdCntClr _ data => fits 32 data
  | .descWrite _ _ idx _ data => fits 32 idx && fits 32 data
  | .rangePrepDone _ => true
  | .schTrkEnable _ _ => true
  | .schTrkDisable _ _ => true
  | .schChenWrite _ _ data => fits 32 data
  | .rearm _ _ => true
  | .schCntClr _ data => fits 32 data
  | .pressDecision _ _ => true
  | .pressPostWrite _ _ data => fits 32 data
  | .pressReset _ _ => true
  | .prsCntClr _ data => fits 32 data
  | .commit _ _ _ seq handle vint _ pulses => fits 8 seq && fits 32 handle && fits 16 vint && pulsesFit pulses
  | .amend _ _ _ seq handle aver pmask times => fits 8 seq && fits 32 handle && fits 32 aver && fits 32 pmask && pairs times
  | .cancel _ _ _ seq handle pmask => fits 8 seq && fits 32 handle && fits 32 pmask
  | .time _ _ _ stamp => fits 64 stamp
  | .timeset _ _ _ seq stamp _ dly => fits 8 seq && fits 64 stamp && fits 32 dly
  | .echoReq _ _ _ etag tt => fits 16 etag && fits 32 tt
  | .discover _ _ _ proto _ _ => fits 32 proto
  | .regwr _ _ _ seq addr data => fits 8 seq && fits 32 addr && fits 32 data
  | .regrd _ _ _ addr => fits 32 addr
  | .prfset _ _ _ seq _ words => fits 8 seq && wordList words
  | .pwr _ _ _ seq w1 w2 => fits 8 seq && fits 32 w1 && fits 32 w2
  | .ctlReset _ _ _ seq _ => fits 8 seq
  | .ctlDsopen _ _ _ seq => fits 8 seq
  | .ctlDsclose _ _ _ seq => fits 8 seq
  | .ctlSwapDn _ _ _ seq => fits 8 seq
  | .ctlSwapUp _ _ _ seq => fits 8 seq
  | .ctlMirror _ _ _ seq _ => fits 8 seq
  | .ack _ _ _ seq result pmask arr => fits 8 seq && fits 32 result && fits 32 pmask && fits 32 arr
  | .echoRsp _ _ _ etag tt res rtt => fits 16 etag && fits 32 tt && fits 32 res && fits 32 rtt
  | .done _ _ _ handle _ _ status start stop ipk i2t => fits 32 handle && fits 32 status && fits 32 start && fits 32 stop && fits 32 ipk && fits 32 i2t
  | .status _ _ _ w1 w2 w3 => fits 32 w1 && fits 32 w2 && fits 32 w3
  | .diag _ _ _ _ _ code data => fits 32 code && fits 32 data
  | .ident _ _ _ vendor type rev proto nout _ _ slots serial fwdlat => fits 32 vendor && fits 32 type && fits 32 rev && fits 32 proto && fits 32 nout && fits 32 slots && fits 32 serial && fits 32 fwdlat
  | .regdata _ _ _ result addr data => fits 32 result && fits 32 addr && fits 32 data
  | .wave _ _ _ handle wseq kind _ t0 samples => fits 32 handle && fits 32 wseq && fits 32 kind && fits 64 t0 && ints samples
  | .ackTimeout _ _ seq => fits 8 seq
  | .timePeriod _ => true
  | .echoPeriod _ _ => true
  | .identTimeout _ _ => true
  | .discoverRetry _ _ => true
  | .lockLost _ => true
  | .statusTimeout _ _ => true
  | .tlkTpwrEn _ _ value => fits 32 value
  | .redisc _ _ => true
  | .swdn _ _ _ => true
  | .swup _ _ _ => true
  | .autoSwap _ _ ms => fits 32 ms.cv
  | .lswap _ _ _ => true
  | .workingLaneLoss _ _ _ => true
  | .laneFail _ _ _ => true
  | .tlkCntClr _ mask => fits 32 mask
  | .tilDataRead _ _ => true
  | .tilDataWrite _ _ data => fits 32 data
  | .tilTimeout _ => true
  | .tileUpstreamLockLoss _ _ => true
  | .tileLinkWdog _ _ => true
  | .tilePowerOn _ => true
  | .dsLost _ _ => true
  | .dsPres _ _ => true
  | .waveDrop _ _ => true
  | .tilePulseStart _ _ handle _ => fits 32 handle
  | .tilePhaseAdvance _ _ cur => fits 32 cur
  | .tileChopSwitch _ _ cur => fits 32 cur
  | .electricalEnd _ _ => true
  | .closingWindowEnd _ _ => true
  | .openOnCheck _ _ cur => fits 32 cur
  | .overcurrentTrip _ _ cur => fits 32 cur
  | .boostSetWrite _ data rail => fits 32 data && fits 32 rail
  | .boostCtlWrite _ data => fits 32 data
  | .boostFault _ rail cause => fits 32 rail && (match cause with | .high => true | .low supply => fits 32 supply)
  | .boostNrdy _ rail => fits 32 rail
  | .cdtBoostEn _ _ value => fits 32 value
  | .offtCommand _ => true
  | .offtReq _ mask => fits 32 mask
  | .offstateTestStart _ _ => true
  | .offstateTestEnd _ _ von voff vsup => fits 32 von && fits 32 voff && fits 32 vsup
  | .inhibitInput _ => true
  | .inhRearm _ => true
  | .cdtRearm _ _ mask => fits 32 mask
  | .closingDetect _ => true
  | .cresReadyClear _ => true
  | .cresLoRead _ _ => true
  | .thermalStep => true
  | .chforceOff _ _ => true
  | .chforceOn _ _ _ => true
  | .chforceRelease _ _ => true
  | .cdtCntClr _ => true
  | .mirLaneLockLoss => true
  | .mtimeTimeout => true
  | .helloTimeout => true
  | .helloPeriod => true
  | .mtimePeriod => true
  | .mirEchoPeriod => true
  | .mirHello f => hello f
  | .mirMtime _ seq stamp => fits 8 seq && fits 64 stamp
  | .mirEchoReq _ seq etag tt => fits 8 seq && fits 16 etag && fits 32 tt
  | .mirEchoRsp _ seq etag tt rtt => fits 8 seq && fits 16 etag && fits 32 tt && fits 32 rtt
  | .mirTooth _ seq f => fits 8 seq && tooth f
  | .mirDecide _ seq f => fits 8 seq && decFits f
  | .mirStrobe _ seq vint grp => fits 8 seq && fits 16 vint && fits 32 grp
  | .mirDigest _ seq _ vint cyc crc => fits 8 seq && fits 16 vint && fitsI cyc && fits 32 crc
  | .mirSnap _ seq _ chunk nchunk cyc words => fits 8 seq && fits 32 chunk && fits 32 nchunk && fits 32 cyc && wordList words
  | .mirTake _ seq mode tat => fits 8 seq && fits 32 mode && fits 32 tat
  | .timeDiv => true
  | .soloWaitExpiry => true
  | .alignHold => true
  | .mirEnable _ => true
  | .mirDisable _ => true
  | .resync _ => true
  | .mirTakeoverTake _ => true
  | .mirTakeoverGive _ => true
  | .takeoverAt => true
  | .mirCntClr _ => true
  | .leaseGrant _ => true
  | .leaseLapse _ => true
  | .dupAtWrite _ _ data => fits 32 data
  | .yieldDue _ => true
  | .shadowUnmatched _ _ handle _ => fits 32 handle
  | .tileDupcntClr _ _ => true
  | .tileCntClr _ _ => true
  | .sqDoorbell _ value => fits 32 value
  | .cqDoorbell _ value => fits 32 value
  | .streamRpDoorbell _ value => fits 32 value
  | .sqEntryFetch _ entry => wordList entry
  | .fetchRetry _ => true
  | .nop h => hdr h
  | .identify h => hdr h
  | .regRd h off cnt => hdr h && fits 32 off && fits 32 cnt
  | .regWr h off cnt data => hdr h && fits 32 off && fits 32 cnt && wordList data
  | .regCork h off value => hdr h && fits 32 off && fits 32 value
  | .descWr h _ idx cnt data => hdr h && fits 32 idx && fits 32 cnt && wordList data
  | .descRd h _ idx cnt => hdr h && fits 32 idx && fits 32 cnt
  | .strobe h grp => hdr h && fits 32 grp
  | .imageLoad h image => hdr h && wordList image
  | .fwStage h off _ piece => hdr h && fits 32 off && wordList piece
  | .logRd h idx cnt => hdr h && fits 32 idx && fits 32 cnt
  | .demand h _ dem _ tag => hdr h && fits 32 dem && fits 32 tag
  | .predQ h _ ang => hdr h && fits 32 ang
  | .tileRd h _ _ addr => hdr h && fits 32 addr
  | .tileWr h _ _ addr data => hdr h && fits 32 addr && fits 32 data
  | .memWr h off data => hdr h && fits 32 off && wordList data
  | .memRd h off => hdr h && fits 32 off
  | .acCtlHalt h cores => hdr h && fits 32 cores
  | .acCtlStart h cores addr => hdr h && fits 32 cores && fits 32 addr
  | .acCtlReset h cores => hdr h && fits 32 cores
  | .createSq h sq base entries cq owner prio _ win => hdr h && fits 32 sq && fits 64 base && fits 32 entries && fits 32 cq && fits 32 owner && fits 32 prio && fits 32 win
  | .deleteSq h sq => hdr h && fits 32 sq
  | .createCq h cq base entries vec cthr ctime => hdr h && fits 32 cq && fits 64 base && fits 32 entries && fits 32 vec && fits 32 cthr && fits 32 ctime
  | .deleteCq h cq => hdr h && fits 32 cq
  | .bufPut h off len data => hdr h && fits 32 off && fits 32 len && wordList data
  | .completionWrite _ => true
  | .cqCoalesceTimeout _ => true
  | .cqStall _ => true
  | .cplTimeout who => user who
  | .dmaErr who => user who
  | .streamFlush _ => true
  | .streamEnable _ _ data => fits 32 data
  | .hifEnable _ => true
  | .hifDisable _ => true
  | .functionLevelReset => true
  | .linkDown => true
  | .hifCntClr _ => true
  | .canCommandFrame _ _ _ id entry => fits 29 id && wordList entry
  | .canBusoff _ => true
  | .canBusoffRecovery _ => true
  | .canErrpass _ _ => true
  | .canCntClr _ _ => true
  | .qmgAlloc _ => true
  | .qmgFree _ cask => fits 32 cask
  | .qmgPush _ queue cask => fits 32 queue && fits 32 cask
  | .qmgPop _ => true
  | .qmgOwnselWrite _ owner => fits 32 owner
  | .qmgCwinAccess _ _ _ data => fits 32 data
  | .qmgQcfgWrite _ data => fits 32 data
  | .qmgReclaim _ owner => fits 32 owner
  | .qmgCntClr _ => true
  | .trkTlogClr _ mask => fits 32 mask
  | .adcAngleTrigger _ => true
  | .swtrig _ _ => true
  | .adcSequenceStart _ => true
  | .adcConversionDone _ value => fits 32 value
  | .ainResRead _ _ => true
  | .adcCntClr _ mask => fits 32 mask
  | .encCountChange _ ev => encEv ev
  | .ampErr _ => true
  | .encIndexEdge _ => true
  | .wire _ _ => true
  | .encLatch _ _ => true
  | .encPosRead _ _ => true
  | .encLatCntRead _ _ => true
  | .encCntClr _ mask => fits 32 mask
  | .cmpEvent _ mv => fits 32 mv
  | .cmpCntClr _ mask => fits 32 mask
  | .ertSwpulse _ => true
  | .angleMark _ => true
  | .tmrMatch _ => true
  | .tmrCmpLoWrite _ _ data => fits 32 data
  | .tmrCmpHiWrite _ _ data => fits 32 data
  | .tmrCntHiWrite _ _ data => fits 32 data
  | .tmrEnable _ _ data => fits 32 data
  | .tmrDisable _ _ data => fits 32 data
  | .go _ => true
  | .stop _ => true
  | .gpioEdge _ _ => true
  | .tmrCntClr _ => true
  | .rakReq _ => true
  | .rakTransferStart => true
  | .rakTransferEnd host fail => wordList host && optFits fail
  | .rakDisable _ _ => true
  | .rakCntClr _ mask => fits 32 mask
  | .icuCoalesceTimeout _ => true
  | .icuPendWrite _ _ data => fits 32 data
  | .icuSrcWrite _ _ data => fits 32 data
  | .icuClaim _ _ => true
  | .icuComplete _ _ src => fits 32 src
  | .aclrAll _ => true
  | .aclrOne _ _ => true
  | .icuCntClr _ => true
  | .vbatReset => true
  | .vbatRelease => true
  | .resetN => true
  | .brownout => true
  | .perstN => true
  | .systemResetRelease _ => true
  | .boot => true
  | .corerst _ => true
  | .confirm _ => true
  | .trialTimeout => true
  | .mgsBankSw _ _ => true
  | .kick _ => true
  | .wdogExpiry => true
  | .tempSample temps => ints temps
  | .voltSample _ mv => fits 32 mv
  | .agingMeasure degr => ints degr
  | .mramEccError _ _ => true
  | .caskEccError _ _ word => fits 32 word
  | .spareSwapPe _ unit => fits 32 unit
  | .spareSwapCaskRow _ unit => fits 32 unit
  | .spareSwapPll _ unit => fits 32 unit
  | .spareSwapMramSector _ unit => fits 32 unit
  | .pwrDomUp _ _ => true
  | .domRampDone _ _ => true
  | .pwrDomDrain _ _ => true
  | .drainEnd _ => true
  | .pwrSleep _ => true
  | .wakePin => true
  | .wakeTimerExpiry => true
  | .movementWatchSample _ _ => true
  | .wake => true
  | .celRstcauseClr _ => true
  | .celMwstatClr _ => true
  | .pwrCntClr _ => true
  | .tapReset => true
  | .idcode => true
  | .samplePreload => true
  | .extest => true
  | .clamp => true
  | .highz => true
  | .extestPulse => true
  | .extestTrain => true
  | .dtmcs => true
  | .dmi => true
  | .bypass => true
  | .dbgaccRead off => fits 25 off
  | .dbgaccWrite off data => fits 25 off && fits 32 data
  | .dbgaccCorkedWrite off data => fits 25 off && fits 32 data
  | .jlock _ => true
  | .dbgDirectOn _ => true
  | .dbgDirectOff _ => true
  | .prbsCtlWrite _ data => fits 32 data
  | .dbgStatClr _ => true
  | .atbSelWrite _ _ data => fits 32 data
  | .atbStatClr _ => true
  | .complementWordWrite _ off data => fits 25 off && fits 32 data
  | .hop0LockGained _ => true
  | .tileUpstreamLockGained _ _ => true
  | .spareTrained _ _ _ skew => fitsI skew
  | .mirRxLaneLock _ _ => true
  | .pcieLinkUp _ width => fits 32 width
  | .perstNRelease => true
  | .inhibitInputRelease _ => true
  | .encWireHealthy _ _ => true
  | .encAmpRecovery _ => true
  | .pllLocked _ => true
  | .freshExpiry _ _ => true
  | .tileOvertemp _ _ temp => fits 32 temp

end Sys2Proof
end

