-- ==== Sys2Proof/Laws/PerInstr.lean ====
section
/-! SUPPORT. Laws of every command as syntax. HeaderKept: a well-formed command that carries a packet's header carries one
that fits the fields of a submission entry (R381). -/

namespace Sys2Proof.Laws.HeaderKept

set_option Elab.async false

/-- The packet header a command carries, if it is an operation of a command packet (R390, R391). -/
def headerOf : Instr → Option CmdHdr
  | .nop h => some h
  | .identify h => some h
  | .regRd h _ _ => some h
  | .regWr h _ _ _ => some h
  | .regCork h _ _ => some h
  | .descWr h _ _ _ _ => some h
  | .descRd h _ _ _ => some h
  | .strobe h _ => some h
  | .imageLoad h _ => some h
  | .fwStage h _ _ _ => some h
  | .logRd h _ _ => some h
  | .demand h _ _ _ _ => some h
  | .predQ h _ _ => some h
  | .tileRd h _ _ _ => some h
  | .tileWr h _ _ _ _ => some h
  | .memWr h _ _ => some h
  | .memRd h _ => some h
  | .acCtlHalt h _ => some h
  | .acCtlStart h _ _ => some h
  | .acCtlReset h _ => some h
  | .createSq h _ _ _ _ _ _ _ _ => some h
  | .deleteSq h _ => some h
  | .createCq h _ _ _ _ _ _ => some h
  | .deleteCq h _ => some h
  | .bufPut h _ _ _ => some h
  | _ => none

def Statement (i : Instr) : Prop :=
  ∀ h, headerOf i = some h → wellFormed i = true → h.src < 258 ∧ h.cid < 2 ^ 16 ∧ h.daddr < 2 ^ 64 ∧ h.dlen < 2 ^ 24

/-- A command without a header. -/
theorem of_none {i : Instr} (hi : headerOf i = none) : Statement i := by
  intro h hh; rw [hi] at hh; cases hh

/-- A header that is checked fits. -/
theorem of_hdr {i : Instr} {g : CmdHdr} (hi : headerOf i = some g) (hw : wellFormed i = true → hdr g = true) : Statement i := by
  intro h hh hi'
  rw [hi] at hh; cases hh
  have := hw hi'
  simp only [hdr, fits, Bool.and_eq_true, decide_eq_true_eq] at this
  omega

/-- The first of two checks that both pass. -/
theorem first {a b : Bool} (h : (a && b) = true) : a = true := by cases a <;> simp_all

theorem registerWrite (x0 : Fin 10) (x1 : Nat) (x2 : Nat) (x3 : Nat) : Statement (.registerWrite x0 x1 x2 x3) := of_none rfl
theorem outspanAccess (x0 : Fin 10) (x1 : Nat) (x2 : Bool) : Statement (.outspanAccess x0 x1 x2) := of_none rfl
theorem narrowAccess (x0 : Fin 10) (x1 : Nat) (x2 : Nat) (x3 : Bool) : Statement (.narrowAccess x0 x1 x2 x3) := of_none rfl
theorem pwroffAccess (x0 : Fin 10) (x1 : Nat) (x2 : Bool) : Statement (.pwroffAccess x0 x1 x2) := of_none rfl
theorem apertureAccess (x0 : Fin 10) (x1 : Nat) (x2 : Nat) (x3 : Bool) (x4 : Nat) : Statement (.apertureAccess x0 x1 x2 x3 x4) := of_none rfl
theorem lowWordRead (x0 : Fin 10) (x1 : WordRead) : Statement (.lowWordRead x0 x1) := of_none rfl
theorem sysUpdStrobe (x0 : Fin 10) (x1 : Nat) : Statement (.sysUpdStrobe x0 x1) := of_none rfl
theorem rwsShadowWrite (x0 : Fin 10) (x1 : Nat) (x2 : Nat) : Statement (.rwsShadowWrite x0 x1 x2) := of_none rfl
theorem trackerSwap (x0 : Fin 16) : Statement (.trackerSwap x0) := of_none rfl
theorem updTimeout (x0 : Fin 16) : Statement (.updTimeout x0) := of_none rfl
theorem sysUpdStatClr (x0 : Fin 10) : Statement (.sysUpdStatClr x0) := of_none rfl
theorem corkValueWrite (x0 : Fin 10) (x1 : Nat) (x2 : Nat) : Statement (.corkValueWrite x0 x1 x2) := of_none rfl
theorem corkTimeout (x0 : Nat) : Statement (.corkTimeout x0) := of_none rfl
theorem bitAliasWrite (x0 : Fin 10) (x1 : Nat) (x2 : Nat) : Statement (.bitAliasWrite x0 x1 x2) := of_none rfl
theorem celIdataRead (x0 : Fin 10) : Statement (.celIdataRead x0) := of_none rfl
theorem celIdataWrite (x0 : Fin 10) (x1 : Nat) : Statement (.celIdataWrite x0 x1) := of_none rfl
theorem celAccessDone : Statement .celAccessDone := of_none rfl
theorem fastCopyRefresh : Statement .fastCopyRefresh := of_none rfl
theorem slowStart : Statement .slowStart := of_none rfl
theorem slowStop : Statement .slowStop := of_none rfl
theorem fltClose (x0 : Fin 10) (x1 : Fin 25) : Statement (.fltClose x0 x1) := of_none rfl
theorem refLost (x0 : Bool) : Statement (.refLost x0) := of_none rfl
theorem refGood (x0 : Bool) : Statement (.refGood x0) := of_none rfl
theorem relockComplete : Statement .relockComplete := of_none rfl
theorem holdoffExpiry : Statement .holdoffExpiry := of_none rfl
theorem clkRefSwitch (x0 : Fin 10) (x1 : Fin 4) : Statement (.clkRefSwitch x0 x1) := of_none rfl
theorem pllUnlock (x0 : Fin 2) : Statement (.pllUnlock x0) := of_none rfl
theorem clkCntClr (x0 : Fin 10) : Statement (.clkCntClr x0) := of_none rfl
theorem snsVrCrossing (x0 : Fin 32) (x1 : Bool) (x2 : Nat) (x3 : Nat) (x4 : Nat) : Statement (.snsVrCrossing x0 x1 x2 x3 x4) := of_none rfl
theorem snsHallTransition (x0 : Fin 32) (x1 : Bool) (x2 : Nat) (x3 : Nat) : Statement (.snsHallTransition x0 x1 x2 x3) := of_none rfl
theorem snsOpenShort (x0 : Fin 32) (x1 : Bool) (x2 : Bool) : Statement (.snsOpenShort x0 x1 x2) := of_none rfl
theorem snsCfgWrite (x0 : Fin 10) (x1 : Fin 32) (x2 : Bool) (x3 : Nat) : Statement (.snsCfgWrite x0 x1 x2 x3) := of_none rfl
theorem snsCntClr (x0 : Fin 10) (x1 : Nat) : Statement (.snsCntClr x0 x1) := of_none rfl
theorem supplyOc (x0 : Fin 4) (x1 : Bool) : Statement (.supplyOc x0 x1) := of_none rfl
theorem trkPrimaryEdge (x0 : Fin 16) : Statement (.trkPrimaryEdge x0) := of_none rfl
theorem synthToothDeadline (x0 : Fin 16) : Statement (.synthToothDeadline x0) := of_none rfl
theorem pwidthDirection (x0 : Fin 16) (x1 : Nat) : Statement (.pwidthDirection x0 x1) := of_none rfl
theorem phaseEdge (x0 : Fin 16) : Statement (.phaseEdge x0) := of_none rfl
theorem phaseWindowMiss (x0 : Fin 16) : Statement (.phaseWindowMiss x0) := of_none rfl
theorem trkStall (x0 : Fin 16) : Statement (.trkStall x0) := of_none rfl
theorem stopRecordWrite (x0 : Fin 16) : Statement (.stopRecordWrite x0) := of_none rfl
theorem trkEnable (x0 : Fin 10) (x1 : Fin 16) : Statement (.trkEnable x0 x1) := of_none rfl
theorem trkDisable (x0 : Fin 10) (x1 : Fin 16) : Statement (.trkDisable x0 x1) := of_none rfl
theorem trkCntClr (x0 : Fin 10) (x1 : Nat) : Statement (.trkCntClr x0 x1) := of_none rfl
theorem toothRecord (x0 : Fin 16) : Statement (.toothRecord x0) := of_none rfl
theorem eventFreeze (x0 : Nat) (x1 : Bool) : Statement (.eventFreeze x0 x1) := of_none rfl
theorem prdLmapWrite (x0 : Fin 10) (x1 : Fin 32) (x2 : Nat) : Statement (.prdLmapWrite x0 x1 x2) := of_none rfl
theorem prdTableWrite (x0 : Fin 10) (x1 : Fin 16) (x2 : Bool) (x3 : Nat) (x4 : Nat) : Statement (.prdTableWrite x0 x1 x2 x3 x4) := of_none rfl
theorem clrTe (x0 : Fin 10) (x1 : Fin 16) : Statement (.clrTe x0 x1) := of_none rfl
theorem clrRip1 (x0 : Fin 10) (x1 : Fin 16) : Statement (.clrRip1 x0 x1) := of_none rfl
theorem clrRip0 (x0 : Fin 10) (x1 : Fin 16) : Statement (.clrRip0 x0 x1) := of_none rfl
theorem prdQueryStart (x0 : Fin 10) (x1 : Fin 8) (x2 : Fin 16) (x3 : Nat) : Statement (.prdQueryStart x0 x1 x2 x3) := of_none rfl
theorem prdQueryDone (x0 : Fin 8) : Statement (.prdQueryDone x0) := of_none rfl
theorem prdQueryRead (x0 : Fin 10) (x1 : Fin 8) : Statement (.prdQueryRead x0 x1) := of_none rfl
theorem peSpareSwap (x0 : Fin 32) (x1 : Fin 36) (x2 : Bool) : Statement (.peSpareSwap x0 x1 x2) := of_none rfl
theorem peBackgroundCheck (x0 : Bool) : Statement (.peBackgroundCheck x0) := of_none rfl
theorem prdCntClr (x0 : Fin 10) (x1 : Nat) : Statement (.prdCntClr x0 x1) := of_none rfl
theorem descWrite (x0 : Fin 10) (x1 : Bool) (x2 : Nat) (x3 : Fin 8) (x4 : Nat) : Statement (.descWrite x0 x1 x2 x3 x4) := of_none rfl
theorem rangePrepDone (x0 : Fin 16) : Statement (.rangePrepDone x0) := of_none rfl
theorem schTrkEnable (x0 : Fin 10) (x1 : Fin 16) : Statement (.schTrkEnable x0 x1) := of_none rfl
theorem schTrkDisable (x0 : Fin 10) (x1 : Fin 16) : Statement (.schTrkDisable x0 x1) := of_none rfl
theorem schChenWrite (x0 : Fin 10) (x1 : Fin 16) (x2 : Nat) : Statement (.schChenWrite x0 x1 x2) := of_none rfl
theorem rearm (x0 : Fin 10) (x1 : Fin 16) : Statement (.rearm x0 x1) := of_none rfl
theorem schCntClr (x0 : Fin 10) (x1 : Nat) : Statement (.schCntClr x0 x1) := of_none rfl
theorem pressDecision (x0 : Fin 16) (x1 : Fin 64) : Statement (.pressDecision x0 x1) := of_none rfl
theorem pressPostWrite (x0 : Fin 10) (x1 : Fin 16) (x2 : Nat) : Statement (.pressPostWrite x0 x1 x2) := of_none rfl
theorem pressReset (x0 : Fin 10) (x1 : Fin 16) : Statement (.pressReset x0 x1) := of_none rfl
theorem prsCntClr (x0 : Fin 10) (x1 : Nat) : Statement (.prsCntClr x0 x1) := of_none rfl
theorem commit (x0 : Fin 64) (x1 : Bool) (x2 : Rx) (x3 : Nat) (x4 : Nat) (x5 : Nat) (x6 : Bool) (x7 : List PulseEntry) : Statement (.commit x0 x1 x2 x3 x4 x5 x6 x7) := of_none rfl
theorem amend (x0 : Fin 64) (x1 : Bool) (x2 : Bool) (x3 : Nat) (x4 : Nat) (x5 : Nat) (x6 : Nat) (x7 : List (Nat × Nat)) : Statement (.amend x0 x1 x2 x3 x4 x5 x6 x7) := of_none rfl
theorem cancel (x0 : Fin 64) (x1 : Bool) (x2 : Bool) (x3 : Nat) (x4 : Nat) (x5 : Nat) : Statement (.cancel x0 x1 x2 x3 x4 x5) := of_none rfl
theorem time (x0 : Fin 64) (x1 : Bool) (x2 : Bool) (x3 : Nat) : Statement (.time x0 x1 x2 x3) := of_none rfl
theorem timeset (x0 : Fin 64) (x1 : Bool) (x2 : Bool) (x3 : Nat) (x4 : Nat) (x5 : Bool) (x6 : Nat) : Statement (.timeset x0 x1 x2 x3 x4 x5 x6) := of_none rfl
theorem echoReq (x0 : Fin 64) (x1 : Bool) (x2 : Bool) (x3 : Nat) (x4 : Nat) : Statement (.echoReq x0 x1 x2 x3 x4) := of_none rfl
theorem discover (x0 : Fin 64) (x1 : Bool) (x2 : Bool) (x3 : Nat) (x4 : Bool) (x5 : Fin 4) : Statement (.discover x0 x1 x2 x3 x4 x5) := of_none rfl
theorem regwr (x0 : Fin 64) (x1 : Bool) (x2 : Bool) (x3 : Nat) (x4 : Nat) (x5 : Nat) : Statement (.regwr x0 x1 x2 x3 x4 x5) := of_none rfl
theorem regrd (x0 : Fin 64) (x1 : Bool) (x2 : Bool) (x3 : Nat) : Statement (.regrd x0 x1 x2 x3) := of_none rfl
theorem prfset (x0 : Fin 64) (x1 : Bool) (x2 : Bool) (x3 : Nat) (x4 : Fin 256) (x5 : List Nat) : Statement (.prfset x0 x1 x2 x3 x4 x5) := of_none rfl
theorem pwr (x0 : Fin 64) (x1 : Bool) (x2 : Bool) (x3 : Nat) (x4 : Nat) (x5 : Nat) : Statement (.pwr x0 x1 x2 x3 x4 x5) := of_none rfl
theorem ctlReset (x0 : Fin 64) (x1 : Bool) (x2 : Bool) (x3 : Nat) (x4 : Bool) : Statement (.ctlReset x0 x1 x2 x3 x4) := of_none rfl
theorem ctlDsopen (x0 : Fin 64) (x1 : Bool) (x2 : Bool) (x3 : Nat) : Statement (.ctlDsopen x0 x1 x2 x3) := of_none rfl
theorem ctlDsclose (x0 : Fin 64) (x1 : Bool) (x2 : Bool) (x3 : Nat) : Statement (.ctlDsclose x0 x1 x2 x3) := of_none rfl
theorem ctlSwapDn (x0 : Fin 64) (x1 : Bool) (x2 : Bool) (x3 : Nat) : Statement (.ctlSwapDn x0 x1 x2 x3) := of_none rfl
theorem ctlSwapUp (x0 : Fin 64) (x1 : Bool) (x2 : Bool) (x3 : Nat) : Statement (.ctlSwapUp x0 x1 x2 x3) := of_none rfl
theorem ctlMirror (x0 : Fin 64) (x1 : Bool) (x2 : Bool) (x3 : Nat) (x4 : Bool) : Statement (.ctlMirror x0 x1 x2 x3 x4) := of_none rfl
theorem ack (x0 : Fin 16) (x1 : Fin 4) (x2 : Bool) (x3 : Nat) (x4 : Nat) (x5 : Nat) (x6 : Nat) : Statement (.ack x0 x1 x2 x3 x4 x5 x6) := of_none rfl
theorem echoRsp (x0 : Fin 16) (x1 : Fin 4) (x2 : Bool) (x3 : Nat) (x4 : Nat) (x5 : Nat) (x6 : Nat) : Statement (.echoRsp x0 x1 x2 x3 x4 x5 x6) := of_none rfl
theorem done (x0 : Fin 16) (x1 : Fin 4) (x2 : Bool) (x3 : Nat) (x4 : Fin 8) (x5 : Fin 8) (x6 : Nat) (x7 : Nat) (x8 : Nat) (x9 : Nat) (x10 : Nat) : Statement (.done x0 x1 x2 x3 x4 x5 x6 x7 x8 x9 x10) := of_none rfl
theorem status (x0 : Fin 16) (x1 : Fin 4) (x2 : Bool) (x3 : Nat) (x4 : Nat) (x5 : Nat) : Statement (.status x0 x1 x2 x3 x4 x5) := of_none rfl
theorem diag (x0 : Fin 16) (x1 : Fin 4) (x2 : Bool) (x3 : Bool) (x4 : Fin 8) (x5 : Nat) (x6 : Nat) : Statement (.diag x0 x1 x2 x3 x4 x5 x6) := of_none rfl
theorem ident (x0 : Fin 16) (x1 : Fin 4) (x2 : Bool) (x3 : Nat) (x4 : Nat) (x5 : Nat) (x6 : Nat) (x7 : Nat) (x8 : Bool) (x9 : Bool) (x10 : Nat) (x11 : Nat) (x12 : Nat) : Statement (.ident x0 x1 x2 x3 x4 x5 x6 x7 x8 x9 x10 x11 x12) := of_none rfl
theorem regdata (x0 : Fin 16) (x1 : Fin 4) (x2 : Bool) (x3 : Nat) (x4 : Nat) (x5 : Nat) : Statement (.regdata x0 x1 x2 x3 x4 x5) := of_none rfl
theorem wave (x0 : Fin 16) (x1 : Fin 4) (x2 : Bool) (x3 : Nat) (x4 : Nat) (x5 : Nat) (x6 : Fin 8) (x7 : Nat) (x8 : List Int) : Statement (.wave x0 x1 x2 x3 x4 x5 x6 x7 x8) := of_none rfl
theorem ackTimeout (x0 : Fin 16) (x1 : Fin 4) (x2 : Nat) : Statement (.ackTimeout x0 x1 x2) := of_none rfl
theorem timePeriod (x0 : Fin 16) : Statement (.timePeriod x0) := of_none rfl
theorem echoPeriod (x0 : Fin 16) (x1 : Fin 4) : Statement (.echoPeriod x0 x1) := of_none rfl
theorem identTimeout (x0 : Fin 16) (x1 : Fin 4) : Statement (.identTimeout x0 x1) := of_none rfl
theorem discoverRetry (x0 : Fin 16) (x1 : Fin 4) : Statement (.discoverRetry x0 x1) := of_none rfl
theorem lockLost (x0 : Fin 16) : Statement (.lockLost x0) := of_none rfl
theorem statusTimeout (x0 : Fin 16) (x1 : Fin 4) : Statement (.statusTimeout x0 x1) := of_none rfl
theorem tlkTpwrEn (x0 : Fin 10) (x1 : Fin 2) (x2 : Nat) : Statement (.tlkTpwrEn x0 x1 x2) := of_none rfl
theorem redisc (x0 : Fin 10) (x1 : Fin 16) : Statement (.redisc x0 x1) := of_none rfl
theorem swdn (x0 : Fin 10) (x1 : Fin 16) (x2 : Fin 4) : Statement (.swdn x0 x1 x2) := of_none rfl
theorem swup (x0 : Fin 10) (x1 : Fin 16) (x2 : Fin 4) : Statement (.swup x0 x1 x2) := of_none rfl
theorem autoSwap (x0 : Fin 16) (x1 : Fin 4) (x2 : LaneSpan) : Statement (.autoSwap x0 x1 x2) := of_none rfl
theorem lswap (x0 : Fin 16) (x1 : Fin 4) (x2 : Bool) : Statement (.lswap x0 x1 x2) := of_none rfl
theorem workingLaneLoss (x0 : Fin 16) (x1 : Fin 4) (x2 : Bool) : Statement (.workingLaneLoss x0 x1 x2) := of_none rfl
theorem laneFail (x0 : Fin 16) (x1 : Fin 4) (x2 : Bool) : Statement (.laneFail x0 x1 x2) := of_none rfl
theorem tlkCntClr (x0 : Fin 10) (x1 : Nat) : Statement (.tlkCntClr x0 x1) := of_none rfl
theorem tilDataRead (x0 : Fin 10) (x1 : Fin 16) : Statement (.tilDataRead x0 x1) := of_none rfl
theorem tilDataWrite (x0 : Fin 10) (x1 : Fin 16) (x2 : Nat) : Statement (.tilDataWrite x0 x1 x2) := of_none rfl
theorem tilTimeout (x0 : Fin 16) : Statement (.tilTimeout x0) := of_none rfl
theorem tileUpstreamLockLoss (x0 : Fin 64) (x1 : Bool) : Statement (.tileUpstreamLockLoss x0 x1) := of_none rfl
theorem tileLinkWdog (x0 : Fin 64) (x1 : Bool) : Statement (.tileLinkWdog x0 x1) := of_none rfl
theorem tilePowerOn (x0 : Fin 64) : Statement (.tilePowerOn x0) := of_none rfl
theorem dsLost (x0 : Fin 64) (x1 : Bool) : Statement (.dsLost x0 x1) := of_none rfl
theorem dsPres (x0 : Fin 64) (x1 : Bool) : Statement (.dsPres x0 x1) := of_none rfl
theorem waveDrop (x0 : Fin 64) (x1 : Bool) : Statement (.waveDrop x0 x1) := of_none rfl
theorem tilePulseStart (x0 : Fin 64) (x1 : Bool) (x2 : Nat) (x3 : Fin 8) : Statement (.tilePulseStart x0 x1 x2 x3) := of_none rfl
theorem tilePhaseAdvance (x0 : Fin 64) (x1 : Fin 8) (x2 : Nat) : Statement (.tilePhaseAdvance x0 x1 x2) := of_none rfl
theorem tileChopSwitch (x0 : Fin 64) (x1 : Fin 8) (x2 : Nat) : Statement (.tileChopSwitch x0 x1 x2) := of_none rfl
theorem electricalEnd (x0 : Fin 64) (x1 : Fin 8) : Statement (.electricalEnd x0 x1) := of_none rfl
theorem closingWindowEnd (x0 : Fin 64) (x1 : Fin 8) : Statement (.closingWindowEnd x0 x1) := of_none rfl
theorem openOnCheck (x0 : Fin 64) (x1 : Fin 8) (x2 : Nat) : Statement (.openOnCheck x0 x1 x2) := of_none rfl
theorem overcurrentTrip (x0 : Fin 64) (x1 : Fin 8) (x2 : Nat) : Statement (.overcurrentTrip x0 x1 x2) := of_none rfl
theorem boostSetWrite (x0 : Fin 64) (x1 : Nat) (x2 : Nat) : Statement (.boostSetWrite x0 x1 x2) := of_none rfl
theorem boostCtlWrite (x0 : Fin 64) (x1 : Nat) : Statement (.boostCtlWrite x0 x1) := of_none rfl
theorem boostFault (x0 : Fin 64) (x1 : Nat) (x2 : BoostCause) : Statement (.boostFault x0 x1 x2) := of_none rfl
theorem boostNrdy (x0 : Fin 64) (x1 : Nat) : Statement (.boostNrdy x0 x1) := of_none rfl
theorem cdtBoostEn (x0 : Fin 10) (x1 : Fin 2) (x2 : Nat) : Statement (.cdtBoostEn x0 x1 x2) := of_none rfl
theorem offtCommand (x0 : Fin 512) : Statement (.offtCommand x0) := of_none rfl
theorem offtReq (x0 : Fin 64) (x1 : Nat) : Statement (.offtReq x0 x1) := of_none rfl
theorem offstateTestStart (x0 : Fin 64) (x1 : Fin 8) : Statement (.offstateTestStart x0 x1) := of_none rfl
theorem offstateTestEnd (x0 : Fin 64) (x1 : Fin 8) (x2 : Nat) (x3 : Nat) (x4 : Nat) : Statement (.offstateTestEnd x0 x1 x2 x3 x4) := of_none rfl
theorem inhibitInput (x0 : Fin 64) : Statement (.inhibitInput x0) := of_none rfl
theorem inhRearm (x0 : Fin 64) : Statement (.inhRearm x0) := of_none rfl
theorem cdtRearm (x0 : Fin 10) (x1 : Fin 2) (x2 : Nat) : Statement (.cdtRearm x0 x1 x2) := of_none rfl
theorem closingDetect (x0 : Fin 512) : Statement (.closingDetect x0) := of_none rfl
theorem cresReadyClear (x0 : Fin 512) : Statement (.cresReadyClear x0) := of_none rfl
theorem cresLoRead (x0 : Fin 10) (x1 : Fin 512) : Statement (.cresLoRead x0 x1) := of_none rfl
theorem thermalStep : Statement .thermalStep := of_none rfl
theorem chforceOff (x0 : Fin 10) (x1 : Fin 512) : Statement (.chforceOff x0 x1) := of_none rfl
theorem chforceOn (x0 : Fin 10) (x1 : Fin 512) (x2 : Fin 256) : Statement (.chforceOn x0 x1 x2) := of_none rfl
theorem chforceRelease (x0 : Fin 10) (x1 : Fin 512) : Statement (.chforceRelease x0 x1) := of_none rfl
theorem cdtCntClr (x0 : Fin 10) : Statement (.cdtCntClr x0) := of_none rfl
theorem mirLaneLockLoss : Statement .mirLaneLockLoss := of_none rfl
theorem mtimeTimeout : Statement .mtimeTimeout := of_none rfl
theorem helloTimeout : Statement .helloTimeout := of_none rfl
theorem helloPeriod : Statement .helloPeriod := of_none rfl
theorem mtimePeriod : Statement .mtimePeriod := of_none rfl
theorem mirEchoPeriod : Statement .mirEchoPeriod := of_none rfl
theorem mirHello (x0 : MirHello) : Statement (.mirHello x0) := of_none rfl
theorem mirMtime (x0 : Bool) (x1 : Nat) (x2 : Nat) : Statement (.mirMtime x0 x1 x2) := of_none rfl
theorem mirEchoReq (x0 : Bool) (x1 : Nat) (x2 : Nat) (x3 : Nat) : Statement (.mirEchoReq x0 x1 x2 x3) := of_none rfl
theorem mirEchoRsp (x0 : Bool) (x1 : Nat) (x2 : Nat) (x3 : Nat) (x4 : Nat) : Statement (.mirEchoRsp x0 x1 x2 x3 x4) := of_none rfl
theorem mirTooth (x0 : Bool) (x1 : Nat) (x2 : MirTooth) : Statement (.mirTooth x0 x1 x2) := of_none rfl
theorem mirDecide (x0 : Bool) (x1 : Nat) (x2 : MirDecide) : Statement (.mirDecide x0 x1 x2) := of_none rfl
theorem mirStrobe (x0 : Bool) (x1 : Nat) (x2 : Nat) (x3 : Nat) : Statement (.mirStrobe x0 x1 x2 x3) := of_none rfl
theorem mirDigest (x0 : Bool) (x1 : Nat) (x2 : Fin 16) (x3 : Nat) (x4 : Int) (x5 : Nat) : Statement (.mirDigest x0 x1 x2 x3 x4 x5) := of_none rfl
theorem mirSnap (x0 : Bool) (x1 : Nat) (x2 : Fin 16) (x3 : Nat) (x4 : Nat) (x5 : Nat) (x6 : List Nat) : Statement (.mirSnap x0 x1 x2 x3 x4 x5 x6) := of_none rfl
theorem mirTake (x0 : Bool) (x1 : Nat) (x2 : Nat) (x3 : Nat) : Statement (.mirTake x0 x1 x2 x3) := of_none rfl
theorem timeDiv : Statement .timeDiv := of_none rfl
theorem soloWaitExpiry : Statement .soloWaitExpiry := of_none rfl
theorem alignHold : Statement .alignHold := of_none rfl
theorem mirEnable (x0 : Fin 10) : Statement (.mirEnable x0) := of_none rfl
theorem mirDisable (x0 : Fin 10) : Statement (.mirDisable x0) := of_none rfl
theorem resync (x0 : Fin 10) : Statement (.resync x0) := of_none rfl
theorem mirTakeoverTake (x0 : Fin 10) : Statement (.mirTakeoverTake x0) := of_none rfl
theorem mirTakeoverGive (x0 : Fin 10) : Statement (.mirTakeoverGive x0) := of_none rfl
theorem takeoverAt : Statement .takeoverAt := of_none rfl
theorem mirCntClr (x0 : Fin 10) : Statement (.mirCntClr x0) := of_none rfl
theorem leaseGrant (x0 : Fin 64) : Statement (.leaseGrant x0) := of_none rfl
theorem leaseLapse (x0 : Fin 64) : Statement (.leaseLapse x0) := of_none rfl
theorem dupAtWrite (x0 : Fin 64) (x1 : Bool) (x2 : Nat) : Statement (.dupAtWrite x0 x1 x2) := of_none rfl
theorem yieldDue (x0 : Fin 64) : Statement (.yieldDue x0) := of_none rfl
theorem shadowUnmatched (x0 : Fin 64) (x1 : Bool) (x2 : Nat) (x3 : Fin 8) : Statement (.shadowUnmatched x0 x1 x2 x3) := of_none rfl
theorem tileDupcntClr (x0 : Fin 64) (x1 : Bool) : Statement (.tileDupcntClr x0 x1) := of_none rfl
theorem tileCntClr (x0 : Fin 64) (x1 : Bool) : Statement (.tileCntClr x0 x1) := of_none rfl
theorem sqDoorbell (x0 : Fin 256) (x1 : Nat) : Statement (.sqDoorbell x0 x1) := of_none rfl
theorem cqDoorbell (x0 : Fin 256) (x1 : Nat) : Statement (.cqDoorbell x0 x1) := of_none rfl
theorem streamRpDoorbell (x0 : Fin 8) (x1 : Nat) : Statement (.streamRpDoorbell x0 x1) := of_none rfl
theorem sqEntryFetch (x0 : Fin 256) (x1 : List Nat) : Statement (.sqEntryFetch x0 x1) := of_none rfl
theorem fetchRetry (x0 : Fin 256) : Statement (.fetchRetry x0) := of_none rfl
theorem nop (x0 : CmdHdr) : Statement (.nop x0) := of_hdr rfl (fun w => w)
theorem identify (x0 : CmdHdr) : Statement (.identify x0) := of_hdr rfl (fun w => w)
theorem regRd (x0 : CmdHdr) (x1 : Nat) (x2 : Nat) : Statement (.regRd x0 x1 x2) := of_hdr rfl (fun w => first (first w))
theorem regWr (x0 : CmdHdr) (x1 : Nat) (x2 : Nat) (x3 : List Nat) : Statement (.regWr x0 x1 x2 x3) := of_hdr rfl (fun w => first (first (first w)))
theorem regCork (x0 : CmdHdr) (x1 : Nat) (x2 : Nat) : Statement (.regCork x0 x1 x2) := of_hdr rfl (fun w => first (first w))
theorem descWr (x0 : CmdHdr) (x1 : Bool) (x2 : Nat) (x3 : Nat) (x4 : List Nat) : Statement (.descWr x0 x1 x2 x3 x4) := of_hdr rfl (fun w => first (first (first w)))
theorem descRd (x0 : CmdHdr) (x1 : Bool) (x2 : Nat) (x3 : Nat) : Statement (.descRd x0 x1 x2 x3) := of_hdr rfl (fun w => first (first w))
theorem strobe (x0 : CmdHdr) (x1 : Nat) : Statement (.strobe x0 x1) := of_hdr rfl (fun w => first w)
theorem imageLoad (x0 : CmdHdr) (x1 : List Nat) : Statement (.imageLoad x0 x1) := of_hdr rfl (fun w => first w)
theorem fwStage (x0 : CmdHdr) (x1 : Nat) (x2 : Bool) (x3 : List Nat) : Statement (.fwStage x0 x1 x2 x3) := of_hdr rfl (fun w => first (first w))
theorem logRd (x0 : CmdHdr) (x1 : Nat) (x2 : Nat) : Statement (.logRd x0 x1 x2) := of_hdr rfl (fun w => first (first w))
theorem demand (x0 : CmdHdr) (x1 : Fin 16) (x2 : Nat) (x3 : Bool) (x4 : Nat) : Statement (.demand x0 x1 x2 x3 x4) := of_hdr rfl (fun w => first (first w))
theorem predQ (x0 : CmdHdr) (x1 : Fin 16) (x2 : Nat) : Statement (.predQ x0 x1 x2) := of_hdr rfl (fun w => first w)
theorem tileRd (x0 : CmdHdr) (x1 : Fin 16) (x2 : Fin 4) (x3 : Nat) : Statement (.tileRd x0 x1 x2 x3) := of_hdr rfl (fun w => first w)
theorem tileWr (x0 : CmdHdr) (x1 : Fin 16) (x2 : Fin 4) (x3 : Nat) (x4 : Nat) : Statement (.tileWr x0 x1 x2 x3 x4) := of_hdr rfl (fun w => first (first w))
theorem memWr (x0 : CmdHdr) (x1 : Nat) (x2 : List Nat) : Statement (.memWr x0 x1 x2) := of_hdr rfl (fun w => first (first w))
theorem memRd (x0 : CmdHdr) (x1 : Nat) : Statement (.memRd x0 x1) := of_hdr rfl (fun w => first w)
theorem acCtlHalt (x0 : CmdHdr) (x1 : Nat) : Statement (.acCtlHalt x0 x1) := of_hdr rfl (fun w => first w)
theorem acCtlStart (x0 : CmdHdr) (x1 : Nat) (x2 : Nat) : Statement (.acCtlStart x0 x1 x2) := of_hdr rfl (fun w => first (first w))
theorem acCtlReset (x0 : CmdHdr) (x1 : Nat) : Statement (.acCtlReset x0 x1) := of_hdr rfl (fun w => first w)
theorem createSq (x0 : CmdHdr) (x1 : Nat) (x2 : Nat) (x3 : Nat) (x4 : Nat) (x5 : Nat) (x6 : Nat) (x7 : Bool) (x8 : Nat) : Statement (.createSq x0 x1 x2 x3 x4 x5 x6 x7 x8) := of_hdr rfl (fun w => first (first (first (first (first (first (first w)))))))
theorem deleteSq (x0 : CmdHdr) (x1 : Nat) : Statement (.deleteSq x0 x1) := of_hdr rfl (fun w => first w)
theorem createCq (x0 : CmdHdr) (x1 : Nat) (x2 : Nat) (x3 : Nat) (x4 : Nat) (x5 : Nat) (x6 : Nat) : Statement (.createCq x0 x1 x2 x3 x4 x5 x6) := of_hdr rfl (fun w => first (first (first (first (first (first w))))))
theorem deleteCq (x0 : CmdHdr) (x1 : Nat) : Statement (.deleteCq x0 x1) := of_hdr rfl (fun w => first w)
theorem bufPut (x0 : CmdHdr) (x1 : Nat) (x2 : Nat) (x3 : List Nat) : Statement (.bufPut x0 x1 x2 x3) := of_hdr rfl (fun w => first (first (first w)))
theorem completionWrite (x0 : Fin 256) : Statement (.completionWrite x0) := of_none rfl
theorem cqCoalesceTimeout (x0 : Fin 256) : Statement (.cqCoalesceTimeout x0) := of_none rfl
theorem cqStall (x0 : Fin 256) : Statement (.cqStall x0) := of_none rfl
theorem cplTimeout (x0 : BusUser) : Statement (.cplTimeout x0) := of_none rfl
theorem dmaErr (x0 : BusUser) : Statement (.dmaErr x0) := of_none rfl
theorem streamFlush (x0 : Fin 8) : Statement (.streamFlush x0) := of_none rfl
theorem streamEnable (x0 : Fin 10) (x1 : Fin 8) (x2 : Nat) : Statement (.streamEnable x0 x1 x2) := of_none rfl
theorem hifEnable (x0 : Fin 10) : Statement (.hifEnable x0) := of_none rfl
theorem hifDisable (x0 : Fin 10) : Statement (.hifDisable x0) := of_none rfl
theorem functionLevelReset : Statement .functionLevelReset := of_none rfl
theorem linkDown : Statement .linkDown := of_none rfl
theorem hifCntClr (x0 : Fin 10) : Statement (.hifCntClr x0) := of_none rfl
theorem canCommandFrame (x0 : Fin 2) (x1 : CanFmt) (x2 : Bool) (x3 : Nat) (x4 : List Nat) : Statement (.canCommandFrame x0 x1 x2 x3 x4) := of_none rfl
theorem canBusoff (x0 : Fin 2) : Statement (.canBusoff x0) := of_none rfl
theorem canBusoffRecovery (x0 : Fin 2) : Statement (.canBusoffRecovery x0) := of_none rfl
theorem canErrpass (x0 : Fin 2) (x1 : Bool) : Statement (.canErrpass x0 x1) := of_none rfl
theorem canCntClr (x0 : Fin 10) (x1 : Fin 2) : Statement (.canCntClr x0 x1) := of_none rfl
theorem qmgAlloc (x0 : Fin 10) : Statement (.qmgAlloc x0) := of_none rfl
theorem qmgFree (x0 : Fin 10) (x1 : Nat) : Statement (.qmgFree x0 x1) := of_none rfl
theorem qmgPush (x0 : Fin 10) (x1 : Nat) (x2 : Nat) : Statement (.qmgPush x0 x1 x2) := of_none rfl
theorem qmgPop (x0 : Fin 10) : Statement (.qmgPop x0) := of_none rfl
theorem qmgOwnselWrite (x0 : Fin 10) (x1 : Nat) : Statement (.qmgOwnselWrite x0 x1) := of_none rfl
theorem qmgCwinAccess (x0 : Fin 10) (x1 : Fin 16) (x2 : Bool) (x3 : Nat) : Statement (.qmgCwinAccess x0 x1 x2 x3) := of_none rfl
theorem qmgQcfgWrite (x0 : Fin 10) (x1 : Nat) : Statement (.qmgQcfgWrite x0 x1) := of_none rfl
theorem qmgReclaim (x0 : Fin 10) (x1 : Nat) : Statement (.qmgReclaim x0 x1) := of_none rfl
theorem qmgCntClr (x0 : Fin 10) : Statement (.qmgCntClr x0) := of_none rfl
theorem trkTlogClr (x0 : Fin 10) (x1 : Nat) : Statement (.trkTlogClr x0 x1) := of_none rfl
theorem adcAngleTrigger (x0 : Fin 32) : Statement (.adcAngleTrigger x0) := of_none rfl
theorem swtrig (x0 : Fin 10) (x1 : Fin 4) : Statement (.swtrig x0 x1) := of_none rfl
theorem adcSequenceStart (x0 : Fin 4) : Statement (.adcSequenceStart x0) := of_none rfl
theorem adcConversionDone (x0 : Fin 4) (x1 : Nat) : Statement (.adcConversionDone x0 x1) := of_none rfl
theorem ainResRead (x0 : Fin 10) (x1 : Fin 64) : Statement (.ainResRead x0 x1) := of_none rfl
theorem adcCntClr (x0 : Fin 10) (x1 : Nat) : Statement (.adcCntClr x0 x1) := of_none rfl
theorem encCountChange (x0 : Fin 8) (x1 : EncEvent) : Statement (.encCountChange x0 x1) := of_none rfl
theorem ampErr (x0 : Fin 8) : Statement (.ampErr x0) := of_none rfl
theorem encIndexEdge (x0 : Fin 8) : Statement (.encIndexEdge x0) := of_none rfl
theorem wire (x0 : Fin 8) (x1 : Fin 3) : Statement (.wire x0 x1) := of_none rfl
theorem encLatch (x0 : Fin 8) (x1 : Bool) : Statement (.encLatch x0 x1) := of_none rfl
theorem encPosRead (x0 : Fin 10) (x1 : Fin 8) : Statement (.encPosRead x0 x1) := of_none rfl
theorem encLatCntRead (x0 : Fin 10) (x1 : Fin 8) : Statement (.encLatCntRead x0 x1) := of_none rfl
theorem encCntClr (x0 : Fin 10) (x1 : Nat) : Statement (.encCntClr x0 x1) := of_none rfl
theorem cmpEvent (x0 : Fin 8) (x1 : Nat) : Statement (.cmpEvent x0 x1) := of_none rfl
theorem cmpCntClr (x0 : Fin 10) (x1 : Nat) : Statement (.cmpCntClr x0 x1) := of_none rfl
theorem ertSwpulse (x0 : Fin 10) : Statement (.ertSwpulse x0) := of_none rfl
theorem angleMark (x0 : Fin 32) : Statement (.angleMark x0) := of_none rfl
theorem tmrMatch (x0 : Fin 32) : Statement (.tmrMatch x0) := of_none rfl
theorem tmrCmpLoWrite (x0 : Fin 10) (x1 : Fin 32) (x2 : Nat) : Statement (.tmrCmpLoWrite x0 x1 x2) := of_none rfl
theorem tmrCmpHiWrite (x0 : Fin 10) (x1 : Fin 32) (x2 : Nat) : Statement (.tmrCmpHiWrite x0 x1 x2) := of_none rfl
theorem tmrCntHiWrite (x0 : Fin 10) (x1 : Fin 32) (x2 : Nat) : Statement (.tmrCntHiWrite x0 x1 x2) := of_none rfl
theorem tmrEnable (x0 : Fin 10) (x1 : Fin 32) (x2 : Nat) : Statement (.tmrEnable x0 x1 x2) := of_none rfl
theorem tmrDisable (x0 : Fin 10) (x1 : Fin 32) (x2 : Nat) : Statement (.tmrDisable x0 x1 x2) := of_none rfl
theorem go (x0 : Fin 10) : Statement (.go x0) := of_none rfl
theorem stop (x0 : Fin 10) : Statement (.stop x0) := of_none rfl
theorem gpioEdge (x0 : Fin 64) (x1 : Bool) : Statement (.gpioEdge x0 x1) := of_none rfl
theorem tmrCntClr (x0 : Fin 10) : Statement (.tmrCntClr x0) := of_none rfl
theorem rakReq (x0 : Fin 16) : Statement (.rakReq x0) := of_none rfl
theorem rakTransferStart : Statement .rakTransferStart := of_none rfl
theorem rakTransferEnd (x0 : List Nat) (x1 : Option Nat) : Statement (.rakTransferEnd x0 x1) := of_none rfl
theorem rakDisable (x0 : Fin 10) (x1 : Fin 16) : Statement (.rakDisable x0 x1) := of_none rfl
theorem rakCntClr (x0 : Fin 10) (x1 : Nat) : Statement (.rakCntClr x0 x1) := of_none rfl
theorem icuCoalesceTimeout (x0 : Fin 1024) : Statement (.icuCoalesceTimeout x0) := of_none rfl
theorem icuPendWrite (x0 : Fin 10) (x1 : Fin 32) (x2 : Nat) : Statement (.icuPendWrite x0 x1 x2) := of_none rfl
theorem icuSrcWrite (x0 : Fin 10) (x1 : Fin 1024) (x2 : Nat) : Statement (.icuSrcWrite x0 x1 x2) := of_none rfl
theorem icuClaim (x0 : Fin 10) (x1 : Fin 5) : Statement (.icuClaim x0 x1) := of_none rfl
theorem icuComplete (x0 : Fin 10) (x1 : Fin 5) (x2 : Nat) : Statement (.icuComplete x0 x1 x2) := of_none rfl
theorem aclrAll (x0 : Fin 10) : Statement (.aclrAll x0) := of_none rfl
theorem aclrOne (x0 : Fin 10) (x1 : Fin 1024) : Statement (.aclrOne x0 x1) := of_none rfl
theorem icuCntClr (x0 : Fin 10) : Statement (.icuCntClr x0) := of_none rfl
theorem vbatReset : Statement .vbatReset := of_none rfl
theorem vbatRelease : Statement .vbatRelease := of_none rfl
theorem resetN : Statement .resetN := of_none rfl
theorem brownout : Statement .brownout := of_none rfl
theorem perstN : Statement .perstN := of_none rfl
theorem systemResetRelease (x0 : Fin 4) : Statement (.systemResetRelease x0) := of_none rfl
theorem boot : Statement .boot := of_none rfl
theorem corerst (x0 : Fin 10) : Statement (.corerst x0) := of_none rfl
theorem confirm (x0 : Fin 10) : Statement (.confirm x0) := of_none rfl
theorem trialTimeout : Statement .trialTimeout := of_none rfl
theorem mgsBankSw (x0 : Fin 10) (x1 : Bool) : Statement (.mgsBankSw x0 x1) := of_none rfl
theorem kick (x0 : Fin 10) : Statement (.kick x0) := of_none rfl
theorem wdogExpiry : Statement .wdogExpiry := of_none rfl
theorem tempSample (x0 : List Int) : Statement (.tempSample x0) := of_none rfl
theorem voltSample (x0 : Fin 24) (x1 : Nat) : Statement (.voltSample x0 x1) := of_none rfl
theorem agingMeasure (x0 : List Int) : Statement (.agingMeasure x0) := of_none rfl
theorem mramEccError (x0 : Fin 1024) (x1 : Bool) : Statement (.mramEccError x0 x1) := of_none rfl
theorem caskEccError (x0 : Fin 4096) (x1 : Bool) (x2 : Nat) : Statement (.caskEccError x0 x1 x2) := of_none rfl
theorem spareSwapPe (x0 : Fin 10) (x1 : Nat) : Statement (.spareSwapPe x0 x1) := of_none rfl
theorem spareSwapCaskRow (x0 : Fin 10) (x1 : Nat) : Statement (.spareSwapCaskRow x0 x1) := of_none rfl
theorem spareSwapPll (x0 : Fin 10) (x1 : Nat) : Statement (.spareSwapPll x0 x1) := of_none rfl
theorem spareSwapMramSector (x0 : Fin 10) (x1 : Nat) : Statement (.spareSwapMramSector x0 x1) := of_none rfl
theorem pwrDomUp (x0 : Fin 10) (x1 : Fin 8) : Statement (.pwrDomUp x0 x1) := of_none rfl
theorem domRampDone (x0 : Fin 8) (x1 : Bool) : Statement (.domRampDone x0 x1) := of_none rfl
theorem pwrDomDrain (x0 : Fin 10) (x1 : Fin 8) : Statement (.pwrDomDrain x0 x1) := of_none rfl
theorem drainEnd (x0 : Fin 8) : Statement (.drainEnd x0) := of_none rfl
theorem pwrSleep (x0 : Fin 10) : Statement (.pwrSleep x0) := of_none rfl
theorem wakePin : Statement .wakePin := of_none rfl
theorem wakeTimerExpiry : Statement .wakeTimerExpiry := of_none rfl
theorem movementWatchSample (x0 : Fin 2) (x1 : Bool) : Statement (.movementWatchSample x0 x1) := of_none rfl
theorem wake : Statement .wake := of_none rfl
theorem celRstcauseClr (x0 : Fin 10) : Statement (.celRstcauseClr x0) := of_none rfl
theorem celMwstatClr (x0 : Fin 10) : Statement (.celMwstatClr x0) := of_none rfl
theorem pwrCntClr (x0 : Fin 10) : Statement (.pwrCntClr x0) := of_none rfl
theorem tapReset : Statement .tapReset := of_none rfl
theorem idcode : Statement .idcode := of_none rfl
theorem samplePreload : Statement .samplePreload := of_none rfl
theorem extest : Statement .extest := of_none rfl
theorem clamp : Statement .clamp := of_none rfl
theorem highz : Statement .highz := of_none rfl
theorem extestPulse : Statement .extestPulse := of_none rfl
theorem extestTrain : Statement .extestTrain := of_none rfl
theorem dtmcs : Statement .dtmcs := of_none rfl
theorem dmi : Statement .dmi := of_none rfl
theorem bypass : Statement .bypass := of_none rfl
theorem dbgaccRead (x0 : Nat) : Statement (.dbgaccRead x0) := of_none rfl
theorem dbgaccWrite (x0 : Nat) (x1 : Nat) : Statement (.dbgaccWrite x0 x1) := of_none rfl
theorem dbgaccCorkedWrite (x0 : Nat) (x1 : Nat) : Statement (.dbgaccCorkedWrite x0 x1) := of_none rfl
theorem jlock (x0 : Fin 10) : Statement (.jlock x0) := of_none rfl
theorem dbgDirectOn (x0 : Fin 10) : Statement (.dbgDirectOn x0) := of_none rfl
theorem dbgDirectOff (x0 : Fin 10) : Statement (.dbgDirectOff x0) := of_none rfl
theorem prbsCtlWrite (x0 : Fin 10) (x1 : Nat) : Statement (.prbsCtlWrite x0 x1) := of_none rfl
theorem dbgStatClr (x0 : Fin 10) : Statement (.dbgStatClr x0) := of_none rfl
theorem atbSelWrite (x0 : Fin 10) (x1 : Fin 2) (x2 : Nat) : Statement (.atbSelWrite x0 x1 x2) := of_none rfl
theorem atbStatClr (x0 : Fin 10) : Statement (.atbStatClr x0) := of_none rfl
theorem complementWordWrite (x0 : Fin 10) (x1 : Nat) (x2 : Nat) : Statement (.complementWordWrite x0 x1 x2) := of_none rfl
theorem hop0LockGained (x0 : Fin 16) : Statement (.hop0LockGained x0) := of_none rfl
theorem tileUpstreamLockGained (x0 : Fin 64) (x1 : Bool) : Statement (.tileUpstreamLockGained x0 x1) := of_none rfl
theorem spareTrained (x0 : Fin 16) (x1 : Fin 4) (x2 : Bool) (x3 : Int) : Statement (.spareTrained x0 x1 x2 x3) := of_none rfl
theorem mirRxLaneLock (x0 : Fin 2) (x1 : Bool) : Statement (.mirRxLaneLock x0 x1) := of_none rfl
theorem pcieLinkUp (x0 : Fin 4) (x1 : Nat) : Statement (.pcieLinkUp x0 x1) := of_none rfl
theorem perstNRelease : Statement .perstNRelease := of_none rfl
theorem inhibitInputRelease (x0 : Fin 64) : Statement (.inhibitInputRelease x0) := of_none rfl
theorem encWireHealthy (x0 : Fin 8) (x1 : Fin 3) : Statement (.encWireHealthy x0 x1) := of_none rfl
theorem encAmpRecovery (x0 : Fin 8) : Statement (.encAmpRecovery x0) := of_none rfl
theorem pllLocked (x0 : Fin 2) : Statement (.pllLocked x0) := of_none rfl
theorem freshExpiry (x0 : Fin 64) (x1 : Bool) : Statement (.freshExpiry x0 x1) := of_none rfl
theorem tileOvertemp (x0 : Fin 64) (x1 : Bool) (x2 : Nat) : Statement (.tileOvertemp x0 x1 x2) := of_none rfl

end Sys2Proof.Laws.HeaderKept
end

