-- ==== Sys2Proof/Tests/Slice0.lean ====
section
/-! SUPPORT. The model's own tests: ill-formed commands that wellFormed refuses, the numbers of the spec's worked examples,
small steps, and for every statement with hypotheses states and operands that meet them. -/

namespace Sys2Proof.Tests

set_option Elab.async false

open Sys2Proof.Machine

/-! ### Ill-formed commands -/

def hdrOk : CmdHdr := ⟨257, 1, 0xFFFF, false, 0xFFFFFFFFFFFFFFFC, 0xFFFFFF⟩

theorem test_wellFormed_accesses :
    wellFormed (.registerWrite 9 0x1FFFFFF 8 0xFFFFFFFFFFFFFFFF) = true
    ∧ wellFormed (.registerWrite 9 0x2000000 4 0) = false ∧ wellFormed (.registerWrite 9 0 3 0) = false
    ∧ wellFormed (.registerWrite 9 0 8 (2 ^ 64)) = false ∧ wellFormed (.rwsShadowWrite 0 0 (2 ^ 32)) = false := by decide +kernel

theorem test_wellFormed_headers :
    wellFormed (.nop hdrOk) = true ∧ wellFormed (.nop { hdrOk with src := 258 }) = false
    ∧ wellFormed (.nop { hdrOk with cid := 0x10000 }) = false ∧ wellFormed (.nop { hdrOk with daddr := 2 ^ 64 }) = false
    ∧ wellFormed (.nop { hdrOk with dlen := 2 ^ 24 }) = false
    ∧ wellFormed (.dmaErr (.command { hdrOk with src := 258 } [])) = false ∧ wellFormed (.dmaErr (.stream 7)) = true
    ∧ wellFormed (.regWr hdrOk 0 1 [2 ^ 32]) = false := by decide +kernel

theorem test_wellFormed_frames :
    wellFormed (.commit 0 false .good 255 5 0xFFFF false [⟨0, 2 ^ 48 - 1, 0, false, 0, 0⟩]) = true
    ∧ wellFormed (.commit 0 false .good 256 5 0 false []) = false
    ∧ wellFormed (.commit 0 false .good 0 5 0x10000 false []) = false
    ∧ wellFormed (.commit 0 false .good 0 5 0 false [⟨2 ^ 48, 0, 0, false, 0, 0⟩]) = false
    ∧ wellFormed (.commit 0 false .good 0 5 0 false (List.replicate 9 ⟨0, 0, 0, false, 0, 0⟩)) = false
    ∧ wellFormed (.amend 0 false true 0 5 0 0 [(0, 2 ^ 64)]) = false
    ∧ wellFormed (.echoReq 0 false true 0x10000 0) = false
    ∧ wellFormed (.wave 0 0 true 0 0 0 0 0 [2 ^ 63]) = false := by decide +kernel

theorem test_wellFormed_mirror :
    wellFormed (.mirHello ⟨true, 255, 1, 7, false, false, 0, 0, 0, 0, 1⟩) = true
    ∧ wellFormed (.mirHello ⟨true, 256, 1, 7, false, false, 0, 0, 0, 0, 1⟩) = false
    ∧ wellFormed (.mirHello ⟨true, 0, 1, 8, false, false, 0, 0, 0, 0, 1⟩) = false
    ∧ wellFormed (.mirTooth true 0 ⟨0, 0, false, false, false, 0, 512, 0, 0, 0, 0⟩) = false
    ∧ wellFormed (.mirDecide true 0 ⟨0, 0, true, false, 0, false, 0, 0, 2 ^ 24, 0, 0, 0, 0, 0⟩) = false
    ∧ wellFormed (.mirDigest true 0 0 0 (2 ^ 63) 0) = false := by decide +kernel

theorem test_wellFormed_measurement :
    wellFormed (.encCountChange 0 (.quad true false false (0, 0, 0) (2 ^ 64))) = false
    ∧ wellFormed (.encCountChange 0 (.sincos (2 ^ 63) 0 0)) = false
    ∧ wellFormed (.tempSample [-(2 ^ 63) - 1]) = false ∧ wellFormed (.rakTransferEnd [] (some (2 ^ 32))) = false
    ∧ wellFormed (.canCommandFrame 0 .fd true (2 ^ 29) []) = false := by decide +kernel

/-! ### Numbers of the spec -/

/-- The table of channel numbers in 00_scope.md. -/
theorem test_channel_numbers : tileOfCh 137 = 17 ∧ tileNo 4 1 = 17 ∧ tileOfCh 511 = 63 ∧ tileNo 15 3 = 63 := by decide +kernel

/-- A compare across the wrap, 12_timers_racking_interrupts.md. -/
theorem test_timer_far :
    (Tmr.far { tmr0 with cnt := 0xFFFFFFFFFF00, cmp := 0x2E8 }) = false
    ∧ (Tmr.far { tmr0 with cnt := 0x300, cmp := 0x2E8 }) = true := by decide +kernel

/-- Decisions 4, 5, 7, 9 and 10 of the half-load example, 06_press_stroke_decisions.md. -/
theorem test_spreading :
    periodic false 5 1 4 = true ∧ periodic false 3 1 4 = false ∧ periodic true 1 1 4 = false
    ∧ periodic true 2 1 4 = true ∧ periodic true 4 1 4 = false := by decide +kernel

/-- Learning of the cranking example, 04_angle_prediction.md: 4,096 becomes 4,143 in R0[11]. -/
theorem test_ripple_learning :
    (((({ dev0 with prd := [] } : Dev).puti (F.PRD_RM_R0 0 11) 4096).put (F.PRD_RIP_RIP_SH 0) 3
      |>.put (F.PRD_RLIM_RIP_OUT 0) 0x7FFF |>.put (F.PRD_RLIM_RIP_CLAMP 0) 0x7FFF).learnRip 0 4479 [11]).geti (F.PRD_RM_R0 0 11) = 4143 := by
  decide +kernel

/-- The compensation of the closing example, 08_current_shaping_and_closing.md: COMP0 becomes -3,334. -/
theorem test_compensation :
    ((dev0.put (F.CDT_CH_CCFG_STEPMAX 0) 5000 |>.put (F.CDT_CH_CAUTH_AUTH 0) 10000 |>.put (F.CDT_CH_CCFG_GAIN 0) 128).compUpdate 0 0 6667).geti
      (F.CDT_CH_COMP_COMP 0 0) = -3334 := by decide +kernel

/-- SHA-256 of the three bytes of abc (FIPS 180-4, which R500 names). -/
theorem test_sha256 : beNat (sha256 [0x61, 0x62, 0x63]) = 0xba7816bf8f01cfea414140de5dae2223b00361a396177a9cb410ff61f20015ad := by
  decide +kernel

/-- The check value of CRC-32 (IEEE 802.3, which R238 names): the bytes of 123456789. -/
theorem test_crc32 : crc32 [0x31, 0x32, 0x33, 0x34, 0x35, 0x36, 0x37, 0x38, 0x39] = 0xCBF43926 := by decide +kernel

/-- Code groups of IEEE 802.3 clause 36 (R232): K28.5 at either disparity, and D10.2. -/
theorem test_code_groups :
    (chIdle.code false).1 = 0b0011111010 ∧ (chIdle.code true).1 = 0b1100000101 ∧ ((Chr.d 0x4A).code true).1 = 0b0101010101
    ∧ (chSof.code false).1 = 0b1101101000 := by decide +kernel

/-! ### Steps -/

/-- The device after the next step. -/
def after (c : Instr) (f : Dev → Dev) : Dev :=
  match step { State.reset with pending := [c], dev := f State.reset.dev } with
  | .next t => t.dev
  | _ => State.reset.dev

/-- R64: a naturally aligned write of a register's low half. -/
theorem test_register_write : (after (.registerWrite 0 0x48 4 0x1234) id).get F.SYS_UPD_CFG_TIMEOUT = 0x1234 := by decide +kernel

/-- R39: an unaligned access is refused whole. -/
theorem test_unaligned_write : (after (.registerWrite 0 0x4A 4 0x1234) id).reg.filter (fun p => p.1 == 0x48) = [] := by decide +kernel

/-- R50: a strobe takes the next vintage; R51: 0 is skipped. -/
theorem test_strobe_vintage :
    (after (.sysUpdStrobe 0 2) (fun d => d.put F.SYS_VINTAGE_CUR 0x41)).get F.SYS_VINTAGE_CUR = 0x42
    ∧ (after (.sysUpdStrobe 0 2) (fun d => d.put F.SYS_VINTAGE_CUR 0xFFFF)).get F.SYS_VINTAGE_CUR = 1 := by decide +kernel

/-- R59: the complement of another requester does not end a cork. -/
theorem test_cork_owner :
    (after (.complementWordWrite 2 0xE2004 0xFFFFFFFE) (fun d => { d with corks := [⟨0xE2000, 0, 1, 0⟩] })).corks = [⟨0xE2000, 0, 1, 0⟩] := by
  decide +kernel

/-- R458: when a write sets both GO and STOP, only STOP is taken. -/
theorem test_stop_over_go :
    ((after (.registerWrite 0 R.TMR_GCTL 4 3) (fun d => (d.setTm 1 { d.tm 1 with wait := true }).setTm 2 { d.tm 2 with run := true }
      |>.put (F.TMR_CTL_GSYNC 2) 1)).tm 1).run = false := by decide +kernel

/-- R476: a claim answers the pending source of highest priority and marks it in service. -/
theorem test_claim :
    (after (.icuClaim 3 0) (fun d => (d.setAbit (R.ICU_PEND 0) 5 true).setAbit (R.ICU_PEND 0) 40 true |>.put (F.ICU_SRC_EN 5) 1
      |>.put (F.ICU_SRC_TGT 5) 1 |>.put (F.ICU_SRC_PRIO 5) 3 |>.put (F.ICU_SRC_EN 40) 1 |>.put (F.ICU_SRC_TGT 40) 1
      |>.put (F.ICU_SRC_PRIO 40) 9)).bus = ⟨3, 40⟩ := by decide +kernel

/-- R250: a repeated SEQ answers the stored result and acts no second time. -/
theorem test_repeated_frame :
    ((after (.ctlDsopen 0 false true 9) (fun d => d.upTs 0 false (fun y => { y with st := 1, seqs := [(9, 3, 0)] }))).ts 0 false).dsopen = false := by
  decide +kernel

/-- R379: a doorbell value outside the ring is counted and discarded. -/
theorem test_bad_doorbell :
    ((after (.sqDoorbell 1 16) (fun d => (d.put (F.PWR_DOM_STAT_STATE 6) 2 |>.put F.HIF_STAT_LINKUP 1).setSq 1 (newSq 4096 16 1 0 0 false 16))).get
      F.HIF_CNT0_DBBAD) = 1 := by decide +kernel

/-- R509: SLEEP from a requester other than MG is refused and counted. -/
theorem test_sleep_refused : (after (.pwrSleep 0) id).get F.PWR_STAT_SLPREF = 1 ∧ (after (.pwrSleep 7) id).cget F.CEL_STAT_PSTATE = 2 := by
  decide +kernel

/-- R370: the answer of the former primary settles the takeover that is pending. -/
theorem test_take_accepted :
    let e := after (.mirTake true 1 3 100) (fun d => (d.put F.MIR_STAT_STATE 6).upMir (fun m => { m with tk := some (none, 100) }))
    e.mir.tk = some (some false, 100) := by decide +kernel

/-- R500: a bank switch that is refused leaves MGS_BANK_SW.BANK as it stands. -/
theorem test_refused_bank_switch : (after (.mgsBankSw 7 true) id).flag F.MGS_BANK_SW_BANK = false := by decide +kernel

/-- On an empty queue the step lets one FAB cycle pass (log entry 2). -/
theorem test_idle : (match step State.reset with
    | .next t => t.dev.fab == 1
    | _ => false) = true := by decide +kernel

/-! ### States and operands that meet the statements' hypotheses -/

/-- A state that differs from the state after reset as f says. -/
def wst (f : Dev → Dev) : State := { State.reset with dev := f State.reset.dev }
def whdr : CmdHdr := ⟨1, 0, 7, false, 4096, 4096⟩
def wsq : Sq := newSq 4096 16 1 0 0 false 16
def went : Ent := wsq.freshEnt 0 whdr
def wcq : Cq := ⟨8192, 16, 0, 4, 0, 0, 0, true, 0, [], 0, 0, false⟩
def wprf : List Nat := List.replicate 8 0
def wpul : TPulse := ⟨5, 2, 0, 1, false, 1000000, 2000000, wprf⟩
def wdrv (ph : Phase) : Drive := ⟨false, wpul, none, ph, 0, 0, none, 256, .supply, 0, 0, 0, false, false⟩
def wfr : DFrame := ⟨1, 3, 9, [0], 0, 0, 0, 0, 0⟩
def wedge : Machine.Edge := ⟨0, false, false⟩
def wopu : OPulse := ⟨2, 0, 3, 1, 0, none, 0, false, 0, 0, 0, 100, 200, 0, 0, none, none, 0⟩
def wocc (ps : List OPulse) : Occ := ⟨1, 0, false, 0, 0, false, 0, none, 0, [(0, 5)], 0, false, false, false, false, false, 0, false, ps⟩
def wwin (gap : Bool) (done : Option Nat) : CdtWin := ⟨5, 1, 2, 0, 0, 0, false, 0, 0, 0, 0, 0, [], false, gap, done⟩
def whdr0 : CmdHdr := ⟨0, 0, 7, false, 4096, 4096⟩
def whdrC : CmdHdr := ⟨256, 0, 7, true, 0, 0⟩
def wcpl : Cpl := ⟨0, 0, 0, 1, 7, false, 0, 0, []⟩

theorem test_witness_step_runs_front_command :
    (∃ (s : State) (c : Instr) (r : List Instr), s.pending = c :: r)
    ∧ (∃ (s : State), s.pending = []) :=
  ⟨⟨⟨[.nop whdr], State.reset.dev⟩, .nop whdr, [], by decide +kernel⟩,
    ⟨State.reset, by decide +kernel⟩⟩

theorem test_witness_core_reset_silences_core_commands :
    (∃ (s : State) (c : Instr), s.dev.corksFresh ∧ s.dev.rst.core = true ∧ ofCore c = true)
    ∧ (∃ (s : State) (c : Instr) (q : Nat), s.dev.corksFresh ∧ s.dev.rst.core = true ∧ busReq c = some q ∧ q ≠ 7 ∧ q ≠ 9) :=
  ⟨⟨wst fun d => { d with rst := { d.rst with core := true } }, .nop whdr, by simp only [Dev.corksFresh]; decide +kernel⟩,
    ⟨wst fun d => { d with rst := { d.rst with core := true } }, .registerWrite 0 0x48 4 0, 0, by simp only [Dev.corksFresh]; decide +kernel⟩⟩

theorem test_witness_bus_accesses_take_effect :
    (∃ (s : State) (req : Fin 10), s.busRuns req ∧ s.busDev.rst.core = false)
    ∧ (∃ (s : State) (req : Fin 10) (off : Nat) (c : Nat), s.busRuns req ∧ placeOf (off % 2 ^ 25) = .reg c ∧ s.busDev.inReset c = false ∧ off % 4 = 0 ∧ s.busDev.isOff c = false)
    ∧ (∃ (s : State) (req : Fin 10) (off : Nat) (data : Nat) (c : Nat) (b : Nat), s.busRuns req ∧ placeOf (off % 2 ^ 25) = .reg c ∧ s.busDev.inReset c = false ∧ (s.busDev.regWrite req c (data % 2 ^ 32)).inReset b = false ∧ placeOf (off % 2 ^ 25 + 4) = .reg b ∧ off % 8 = 0 ∧ s.busDev.isOff c = false)
    ∧ (∃ (s : State) (req : Fin 10) (off : Nat) (c : Nat) (b : Nat), s.busRuns req ∧ placeOf (off % 2 ^ 25) = .reg c ∧ s.busDev.inReset c = false ∧ (s.busDev.regRead req c).inReset b = false ∧ placeOf (off % 2 ^ 25 + 4) = .reg b ∧ off % 8 = 0 ∧ s.busDev.isOff c = false)
    ∧ (∃ (s : State) (req : Fin 10) (off : Nat) (size : Nat) (a : Nat), s.busRuns req ∧ placeOf (off % 2 ^ 25) = .mem a ∧ s.busDev.rst.core = false ∧ sizeOk size = true)
    ∧ (∃ (s : State) (req : Fin 10) (a : Nat), s.busRuns req ∧ s.busDev.rst.core = false ∧ 0x1000000 ≤ a ∧ a < 0x1200000 ∧ a % 4 = 0)
    ∧ (∃ (s : State) (req : Fin 10) (off : Nat), s.busRuns req ∧ placeOf (off % 2 ^ 25) = .out ∧ s.busDev.pcieOn = true ∧ s.busDev.rst.core = false ∧ s.busDev.rst.perst = false)
    ∧ (∃ (s : State) (req : Fin 10) (off : Nat) (size : Nat) (wr : Bool), s.busRuns req ∧ inWindow off = true ∧ sizeOk size = true ∧ (off % size ≠ 0 ∨ (wr = true ∧ size < 4)) ∧ s.busDev.pcieOn = true ∧ s.busDev.rst.core = false ∧ s.busDev.rst.perst = false)
    ∧ (∃ (s : State) (req : Fin 10) (off : Nat) (c : Nat), s.busRuns req ∧ placeOf (off % 2 ^ 25) = .reg c ∧ s.busDev.inReset c = true ∧ off % 4 = 0 ∧ s.busDev.isOff c = false)
    ∧ (∃ (s : State) (req : Fin 10) (off : Nat) (c : Nat), s.busRuns req ∧ placeOf (off % 2 ^ 25) = .reg c ∧ off % 4 = 0 ∧ s.busDev.isOff c = true) :=
  ⟨⟨State.reset, 0, by simp only [Dev.corksFresh, State.busRuns, State.busDev]; decide +kernel⟩,
    ⟨State.reset, 0, 0, 0, by simp only [Dev.corksFresh, State.busRuns, State.busDev]; decide +kernel⟩,
    ⟨State.reset, 0, 0x48, 0, 0x48, 0x4C, by simp only [Dev.corksFresh, State.busRuns, State.busDev]; decide +kernel⟩,
    ⟨State.reset, 0, 0x48, 0x48, 0x4C, by simp only [Dev.corksFresh, State.busRuns, State.busDev]; decide +kernel⟩,
    ⟨State.reset, 0, 0x200003, 8, 0x200003, by simp only [Dev.corksFresh, State.busRuns, State.busDev]; decide +kernel⟩,
    ⟨State.reset, 0, 0x11FFFFC, by simp only [Dev.corksFresh, State.busRuns, State.busDev]; decide +kernel⟩,
    ⟨wst fun d => d.put (F.PWR_DOM_STAT_STATE 6) 2, 0, 0x280000, by simp only [Dev.corksFresh, State.busRuns, State.busDev]; decide +kernel⟩,
    ⟨wst fun d => d.put (F.PWR_DOM_STAT_STATE 6) 2, 0, 0x4A, 4, false, by simp only [Dev.corksFresh, State.busRuns, State.busDev]; decide +kernel⟩,
    ⟨wst fun d => { d with rst := { d.rst with core := true } }, 7, 0x48, 0x48, by simp only [Dev.corksFresh, State.busRuns, State.busDev]; decide +kernel⟩,
    ⟨State.reset, 0, R.ADC_CTL 0, R.ADC_CTL 0, by simp only [Dev.corksFresh, State.busRuns, State.busDev]; decide +kernel⟩⟩

theorem test_witness_strobes_and_swaps :
    (∃ (s : State) (req : Fin 10) (k : Fin 16), s.busRuns req ∧ s.busDev.rst.core = false ∧ s.busDev.rwsBusy (0x60010 + 0x1000 * k) = false ∧ s.busDev.direct = false)
    ∧ (∃ (s : State) (req : Fin 10) (off : Nat) (c : Nat), s.busRuns req ∧ placeOf (off % 2 ^ 25) = .reg c ∧ s.busDev.inReset c = false ∧ off % 4 = 0 ∧ s.busDev.isOff c = false)
    ∧ (∃ (s : State) (grp : Nat), s.coreRuns ∧ grp % 256 ≠ 0 ∧ s.dev.following = false ∧ s.dev.strobeBusy (grp % 256) = false)
    ∧ (∃ (s : State) (grp : Nat), s.coreRuns ∧ grp % 256 ≠ 0 ∧ s.dev.following = false ∧ s.dev.strobeBusy (grp % 256) = true)
    ∧ (∃ (s : State) (k : Fin 16) (p : PendSwap), s.coreRuns ∧ (s.dev.tk k).pend = some p ∧ (if p.rev then (s.dev.tk k).lin ≤ p.bound else p.bound ≤ (s.dev.tk k).lin))
    ∧ (∃ (s : State) (k : Fin 16) (q : PendSwap) (p : PendSwap), s.coreRuns ∧ (s.dev.tk k).pend = some q ∧ ((s.dev.until (s.dev.updEnd q)).tk k).pend = some p) :=
  ⟨⟨State.reset, 0, 0, by simp only [Dev.corksFresh, State.busRuns, State.busDev]; decide +kernel⟩,
    ⟨State.reset, 0, 0, 0, by simp only [Dev.corksFresh, State.busRuns, State.busDev]; decide +kernel⟩,
    ⟨State.reset, 1, by simp only [State.coreRuns, Dev.corksFresh]; decide +kernel⟩,
    ⟨wst fun d => d.put F.SYS_UPD_PEND_GRP_PEND 1, 1, by simp only [State.coreRuns, Dev.corksFresh]; decide +kernel⟩,
    ⟨wst fun d => d.upTk 0 (fun y => { y with pend := some (⟨1, 0, false, 0⟩ : PendSwap) }), 0, ⟨1, 0, false, 0⟩, by simp only [State.coreRuns, Dev.corksFresh]; decide +kernel⟩,
    ⟨wst fun d => { d with fab := 100000000000 } |>.upTk 0 (fun y => { y with pend := some (⟨1, 0, false, 0⟩ : PendSwap) }), 0, ⟨1, 0, false, 0⟩, ⟨1, 0, false, 0⟩, by simp only [State.coreRuns, Dev.corksFresh]; decide +kernel⟩⟩

theorem test_witness_corks_open_and_take :
    (∃ (s : State) (req : Fin 10) (a : Nat), s.busRuns req ∧ a ∈ corkedWords ∧ s.busDev.inReset a = false ∧ (∀ c, s.busDev.corkAt a = some c → c.req = req))
    ∧ (∃ (s : State) (req : Fin 10) (a : Nat) (b : Nat) (c : Cork), s.busRuns req ∧ a ∈ corkedWords ∧ s.busDev.inReset a = false ∧ corkBlk a = some b ∧ s.busDev.corkAt a = some c ∧ c.req ≠ req)
    ∧ (∃ (s : State) (req : Fin 10) (a : Nat) (data : Nat) (c : Cork), s.busRuns req ∧ a ∈ corkedWords ∧ s.busDev.inReset a = false ∧ s.busDev.corkAt a = some c ∧ c.opened ≠ s.busDev.fab ∧ c.req = req ∧ data % 2 ^ 32 + c.value = 2 ^ 32 - 1)
    ∧ (∃ (s : State) (req : Fin 10) (a : Nat) (data : Nat) (c : Cork), s.busRuns req ∧ a ∈ corkedWords ∧ s.busDev.inReset a = false ∧ s.busDev.corkAt a = some c ∧ c.opened = s.busDev.fab ∧ s.busDev.fabCycle.corkAt a = some c ∧ c.req = req ∧ data % 2 ^ 32 + c.value = 2 ^ 32 - 1)
    ∧ (∃ (s : State) (req : Fin 10) (a : Nat) (b : Nat) (data : Nat) (c : Cork), s.busRuns req ∧ a ∈ corkedWords ∧ s.busDev.inReset a = false ∧ corkBlk a = some b ∧ s.busDev.corkAt a = some c ∧ c.opened ≠ s.busDev.fab ∧ c.req = req ∧ data % 2 ^ 32 + c.value ≠ 2 ^ 32 - 1)
    ∧ (∃ (s : State) (req : Fin 10) (a : Nat) (b : Nat) (c : Cork), s.busRuns req ∧ a ∈ corkedWords ∧ s.busDev.inReset a = false ∧ corkBlk a = some b ∧ s.busDev.corkAt a = some c ∧ c.opened ≠ s.busDev.fab ∧ c.req ≠ req)
    ∧ (∃ (s : State) (req : Fin 10) (a : Nat) (b : Nat), s.busRuns req ∧ a ∈ corkedWords ∧ s.busDev.inReset a = false ∧ corkBlk a = some b ∧ s.busDev.corkAt a = none)
    ∧ (∃ (s : State) (a : Nat) (c : Cork), s.coreRuns ∧ a ∈ corkedWords ∧ s.dev.corkAt a = some c)
    ∧ (∃ (s : State) (req : Fin 10), s.busRuns req ∧ s.busDev.rst.core = false)
    ∧ (∃ (s : State) (req : Fin 10) (off : Nat) (o : Nat), s.busRuns req ∧ placeOf (off % 2 ^ 25) = .bitWord o ∧ s.busDev.rst.core = false ∧ off % 4 = 0) :=
  ⟨⟨State.reset, 0, 0xE2000, by simp only [Dev.corksFresh, State.busRuns, State.busDev]; decide +kernel, by decide +kernel, by decide +kernel, by decide +kernel⟩,
    ⟨wst fun d => { d with fab := 9, corks := [(⟨0xE2000, 1, 1, 5⟩ : Cork)] }, 0, 0xE2000, 10, ⟨0xE2000, 1, 1, 5⟩, by simp only [Dev.corksFresh, State.busRuns, State.busDev]; decide +kernel⟩,
    ⟨wst fun d => { d with fab := 9, corks := [(⟨0xE2000, 0, 1, 5⟩ : Cork)] }, 0, 0xE2000, 0xFFFFFFFE, ⟨0xE2000, 0, 1, 5⟩, by simp only [Dev.corksFresh, State.busRuns, State.busDev]; decide +kernel⟩,
    ⟨wst fun d => { d with fab := 9, corks := [(⟨0xE2000, 0, 1, 9⟩ : Cork)] }, 0, 0xE2000, 0xFFFFFFFE, ⟨0xE2000, 0, 1, 9⟩, by simp only [Dev.corksFresh, State.busRuns, State.busDev]; decide +kernel⟩,
    ⟨wst fun d => { d with fab := 9, corks := [(⟨0xE2000, 0, 1, 5⟩ : Cork)] }, 0, 0xE2000, 10, 0, ⟨0xE2000, 0, 1, 5⟩, by simp only [Dev.corksFresh, State.busRuns, State.busDev]; decide +kernel⟩,
    ⟨wst fun d => { d with fab := 9, corks := [(⟨0xE2000, 1, 1, 5⟩ : Cork)] }, 0, 0xE2000, 10, ⟨0xE2000, 1, 1, 5⟩, by simp only [Dev.corksFresh, State.busRuns, State.busDev]; decide +kernel⟩,
    ⟨State.reset, 0, 0xE2000, 10, by simp only [Dev.corksFresh, State.busRuns, State.busDev]; decide +kernel⟩,
    ⟨wst fun d => { d with fab := 9, corks := [(⟨0xE2000, 1, 1, 0⟩ : Cork)] }, 0xE2000, ⟨0xE2000, 1, 1, 0⟩, by simp only [State.coreRuns, Dev.corksFresh]; decide +kernel⟩,
    ⟨State.reset, 0, by simp only [Dev.corksFresh, State.busRuns, State.busDev]; decide +kernel⟩,
    ⟨State.reset, 0, 0x1E0000, 0, by simp only [Dev.corksFresh, State.busRuns, State.busDev]; decide +kernel⟩⟩

theorem test_witness_cellar_access :
    (∃ (s : State), s.celRuns ∧ s.dev.flag F.CEL_IADDR_BUSY = false)
    ∧ (∃ (s : State), s.celRuns ∧ s.dev.cflag F.CEL_STAT_SLOWOK = true)
    ∧ (∃ (s : State) (w : Word), s.celRuns ∧ s.dev.cflag F.CEL_STAT_SLOWOK = true ∧ s.dev.clr.ind = some (.write w) ∧ s.dev.get F.CEL_IADDR_ADDR = 0x10)
    ∧ (∃ (s : State) (req : Fin 10) (b : Fin 25), s.busRuns req ∧ s.busDev.isOff (fltBase b + 0x18) = false ∧ s.busDev.inReset (fltBase b + 0x18) = false ∧ fltNone b = false ∧ (∀ c ∈ s.busDev.causes, c.blk ≠ b))
    ∧ (∃ (s : State) (req : Fin 10) (b : Fin 25), s.busRuns req ∧ s.busDev.isOff (fltBase b + 0x18) = false ∧ s.busDev.inReset (fltBase b + 0x18) = false ∧ fltNone b = false) :=
  ⟨⟨wst fun d => d.put F.CEL_IADDR_BUSY 0, by simp only [State.celRuns, Dev.corksFresh]; decide +kernel⟩,
    ⟨wst fun d => d.cput F.CEL_STAT_SLOWOK 1, by simp only [State.celRuns, Dev.corksFresh]; decide +kernel⟩,
    ⟨wst fun d => d.cput F.CEL_STAT_SLOWOK 1 |> fun d => { d with clr := { d.clr with ind := some (.write 0) } } |>.put F.CEL_IADDR_ADDR 0x10, 0, by simp only [State.celRuns, Dev.corksFresh]; decide +kernel⟩,
    ⟨State.reset, 0, 0, by simp only [Dev.corksFresh, State.busRuns, State.busDev]; decide +kernel⟩,
    ⟨State.reset, 0, 0, by simp only [Dev.corksFresh, State.busRuns, State.busDev]; decide +kernel⟩⟩

theorem test_witness_clock_references :
    (∃ (s : State), s.dev.corksFresh ∧ s.dev.rst.sys = true)
    ∧ (∃ (s : State), s.sysRuns ∧ s.dev.clkState = 4)
    ∧ (∃ (s : State), s.sysRuns ∧ s.dev.clkState = 3)
    ∧ (∃ (s : State), s.dev.corksFresh ∧ s.dev.mgs.pllHold = false) :=
  ⟨⟨wst fun d => { d with rst := { d.rst with sys := true } }, by simp only [Dev.corksFresh]; decide +kernel⟩,
    ⟨wst fun d => d.put F.CLK_STAT_STATE 4, by simp only [State.sysRuns, Dev.corksFresh]; decide +kernel⟩,
    ⟨wst fun d => d.put F.CLK_STAT_STATE 3, by simp only [State.sysRuns, Dev.corksFresh]; decide +kernel⟩,
    ⟨wst fun d => { d with mgs := { d.mgs with pllHold := false } }, by simp only [Dev.corksFresh]; decide +kernel⟩⟩

theorem test_witness_sensor_inputs :
    (∃ (s : State) (n : Fin 32) (rising : Bool) (hold : Nat) (stamp : Nat), s.coreRuns ∧ fldGet (F.SNS_CFG_TYPE n) (s.dev.snsEff n).1 = 1 ∧ fldGet (F.SNS_CFG_EN n) (s.dev.snsEff n).1 = 0 ∧ fldGet (F.SNS_FLT_FLT n) (s.dev.snsEff n).2 ≤ hold ∧ stamp + fldGet (F.SNS_FLT_FLT n) (s.dev.snsEff n).2 + snsDelay ≤ s.dev.now ∧ s.dev.flag (F.SNS_STAT_LEVEL n) = !rising)
    ∧ (∃ (s : State) (n : Fin 32) (hold : Nat) (stamp : Nat), s.coreRuns ∧ fldGet (F.SNS_CFG_TYPE n) (s.dev.snsEff n).1 = 0 ∧ fldGet (F.SNS_CFG_EN n) (s.dev.snsEff n).1 = 1 ∧ hold < fldGet (F.SNS_FLT_FLT n) (s.dev.snsEff n).2 ∧ stamp + fldGet (F.SNS_FLT_FLT n) (s.dev.snsEff n).2 + snsDelay ≤ s.dev.now)
    ∧ (∃ (s : State) (n : Fin 32), s.coreRuns ∧ s.dev.flag (F.SNS_CFG_EN n) = false)
    ∧ (∃ (s : State) (n : Fin 32) (short : Bool), s.coreRuns ∧ (short || !s.dev.snsHall n) = true) :=
  ⟨⟨wst fun d => d.put (F.SNS_CFG_TYPE 0) 1 |>.put (F.SNS_CFG_EN 0) 0 |>.put (F.SNS_FLT_FLT 0) 1 |> fun d => { d with now := 100000 }, 0, true, 1, 0, by simp only [State.coreRuns, Dev.corksFresh]; decide +kernel⟩,
    ⟨wst fun d => d.put (F.SNS_CFG_TYPE 0) 0 |>.put (F.SNS_CFG_EN 0) 1 |>.put (F.SNS_FLT_FLT 0) 1 |> fun d => { d with now := 100000 }, 0, 0, 0, by simp only [State.coreRuns, Dev.corksFresh]; decide +kernel⟩,
    ⟨wst fun d => d.put (F.SNS_CFG_EN 0) 0, 0, by simp only [State.coreRuns, Dev.corksFresh]; decide +kernel⟩,
    ⟨State.reset, 0, false, by simp only [State.coreRuns, Dev.corksFresh]; decide +kernel⟩⟩

theorem test_witness_accesses_outside_the_map :
    (∃ (s : State) (req : Fin 10) (off : Nat), s.busRuns req ∧ s.busDev.pcieOn = true ∧ s.busDev.rst.core = false ∧ s.busDev.rst.perst = false ∧ placeOf (off % 2 ^ 25) = .out)
    ∧ (∃ (s : State) (req : Fin 10) (off : Nat), s.busRuns req ∧ placeOf (off % 2 ^ 25) = .out) :=
  ⟨⟨wst fun d => d.put (F.PWR_DOM_STAT_STATE 6) 2, 0, 0x280000, by simp only [Dev.corksFresh, State.busRuns, State.busDev]; decide +kernel⟩,
    ⟨State.reset, 0, 0x280000, by simp only [Dev.corksFresh, State.busRuns, State.busDev]; decide +kernel⟩⟩

theorem test_witness_cellar_address_increments :
    ∃ (s : State) (i : IndAcc), s.celRuns ∧ s.dev.cflag F.CEL_STAT_SLOWOK = true ∧ s.dev.clr.ind = some i ∧ s.dev.flag F.CEL_IADDR_AINC = true :=
  ⟨wst fun d => d.cput F.CEL_STAT_SLOWOK 1 |> fun d => { d with clr := { d.clr with ind := some (.write 7) } } |>.put F.CEL_IADDR_AINC 1, .write 7, by simp only [State.celRuns, Dev.corksFresh]; decide +kernel⟩

theorem test_witness_prediction_table_writes :
    (∃ (s : State) (k : Fin 16) (te : Bool), s.coreRuns ∧ s.dev.flag (if te then F.PRD_LRN_TE_LRN k else F.PRD_LRN_RIP_LRN k) = true)
    ∧ (∃ (s : State) (k : Fin 16), s.coreRuns ∧ s.dev.flag (F.PRD_LRN_RIP_LRN k) = false)
    ∧ (∃ (s : State) (k : Fin 16) (idx : Nat), s.coreRuns ∧ s.dev.flag (F.PRD_LRN_TE_LRN k) = false ∧ idx % 512 ≠ 0) :=
  ⟨⟨wst fun d => d.put (if false then F.PRD_LRN_TE_LRN 0 else F.PRD_LRN_RIP_LRN 0) 1, 0, false, by simp only [State.coreRuns, Dev.corksFresh]; decide +kernel⟩,
    ⟨wst fun d => d.put (F.PRD_LRN_RIP_LRN 0) 0, 0, by simp only [State.coreRuns, Dev.corksFresh]; decide +kernel⟩,
    ⟨wst fun d => d.put (F.PRD_LRN_TE_LRN 0) 0, 0, 511, by simp only [State.coreRuns, Dev.corksFresh]; decide +kernel⟩⟩

theorem test_witness_cask_window :
    (∃ (s : State) (req : Fin 10), s.coreRuns ∧ s.dev.qmg.cask ((s.dev.own req R.QMG_CSEL).toNat % caskTotal) = some ⟨false, s.dev.qOwner req⟩)
    ∧ (∃ (s : State) (req : Fin 10), s.coreRuns ∧ s.dev.qmg.cask ((s.dev.own req R.QMG_CSEL).toNat % caskTotal) ≠ some ⟨false, s.dev.qOwner req⟩) :=
  ⟨⟨wst fun d => d.upQmg (fun q => { q with casks := [(0, ⟨false, 0⟩)] }), 0, by simp only [State.coreRuns, Dev.corksFresh]; decide +kernel⟩,
    ⟨State.reset, 0, by simp only [State.coreRuns, Dev.corksFresh]; decide +kernel⟩⟩

theorem test_witness_casks_reclaimed :
    (∃ (s : State) (owner : Nat), s.coreRuns ∧ 16 ≤ owner % 256 ∧ bits (s.dev.qmg.ocfgOf (owner % 256)).toNat 9 0 = 0)
    ∧ (∃ (s : State) (owner : Nat), s.coreRuns ∧ (owner % 256 < 16 ∨ bits (s.dev.qmg.ocfgOf (owner % 256)).toNat 9 0 ≠ 0))
    ∧ (∃ (s : State) (req : Fin 10) (c : Nat) (r : List Nat), s.coreRuns ∧ s.dev.qGranted req = true ∧ qCons (s.dev.qmg.qcfgOf ((s.dev.own req R.QMG_QSEL).toNat % 2 ^ 15)) = s.dev.qOwner req ∧ s.dev.qmg.queue ((s.dev.own req R.QMG_QSEL).toNat % 2 ^ 15) = c :: r) :=
  ⟨⟨State.reset, 16, by simp only [State.coreRuns, Dev.corksFresh]; decide +kernel⟩,
    ⟨State.reset, 15, by simp only [State.coreRuns, Dev.corksFresh]; decide +kernel⟩,
    ⟨wst fun d => d.upQmg (fun q => { q with ocfg := [(0, 0x3FF)] }) |>.upQmg (fun q => { q with queues := [(0, [5])] }), 0, 5, [], by simp only [State.coreRuns, Dev.corksFresh]; decide +kernel⟩⟩

theorem test_witness_timers_go_and_stop :
    ∃ (s : State) (req : Fin 10), s.busRuns req ∧ s.busDev.rst.core = false :=
  ⟨State.reset, 0, by simp only [Dev.corksFresh, State.busRuns, State.busDev]; decide +kernel⟩

theorem test_witness_sleep_is_taken_or_refused :
    (∃ (s : State), s.sysRuns ∧ (∀ k, k < 16 → s.busDev.tstate k = 0 ∨ s.busDev.tstate k = 1) ∧ (s.busDev.mirState = 0 ∨ s.busDev.mirState = 2) ∧ (∀ k, k < 8 → s.busDev.domState k ≠ 1 ∧ s.busDev.domState k ≠ 3) ∧ s.busDev.mgs.sleeping = false)
    ∧ (∃ (s : State) (req : Fin 10), s.sysRuns ∧ req.val ≠ 7)
    ∧ (∃ (s : State) (k : Nat), s.sysRuns ∧ k < 16 ∧ 2 ≤ s.busDev.tstate k)
    ∧ (∃ (s : State), s.sysRuns ∧ s.busDev.mirState ≠ 0 ∧ s.busDev.mirState ≠ 2)
    ∧ (∃ (s : State) (k : Nat), s.sysRuns ∧ k < 8 ∧ (s.busDev.domState k = 1 ∨ s.busDev.domState k = 3)) :=
  ⟨⟨wst fun d => d.put F.MIR_STAT_STATE 0 |> fun d => { d with mgs := { d.mgs with sleeping := false } }, by simp only [State.sysRuns, Dev.corksFresh]; decide +kernel⟩,
    ⟨State.reset, 0, by simp only [State.sysRuns, Dev.corksFresh]; decide +kernel⟩,
    ⟨wst fun d => d.put (F.TRK_STAT_STATE 15) 2, 15, by simp only [State.sysRuns, Dev.corksFresh]; decide +kernel⟩,
    ⟨wst fun d => d.put F.MIR_STAT_STATE 1, by simp only [State.sysRuns, Dev.corksFresh]; decide +kernel⟩,
    ⟨wst fun d => d.put (F.PWR_DOM_STAT_STATE 7) 1, 7, by simp only [State.sysRuns, Dev.corksFresh]; decide +kernel⟩⟩

theorem test_witness_memories_stay_canonical :
    ∃ (s : State), s.coreRuns ∧ s.sysRuns ∧ s.busRuns 0 ∧ s.dev.memWf ∧ s.busDev.memWf ∧ s.busDev.rst.core = false ∧ s.dev.spareAuto 2 = false :=
  ⟨wst fun d => d.put F.MGS_SPARE_CFG_AUTO 0, by simp only [State.coreRuns, State.sysRuns, Dev.corksFresh, Dev.memWf, State.busRuns, State.busDev]; decide +kernel⟩

theorem test_witness_opcodes_in_every_form :
    (∃ (s : State) (h : CmdHdr) (x : Sq) (e : Ent) (off : Nat) (cnt : Nat), s.coreRuns ∧ s.dev.opTakes h 2 (decide (2 < cnt)) [par 0 off, par 1 cnt] x e)
    ∧ (∃ (s : State) (h : CmdHdr) (x : Sq) (e : Ent) (off : Nat) (cnt : Nat) (data : List Nat), s.coreRuns ∧ s.dev.opTakes h 3 true (par 0 off :: par 1 cnt :: if cnt ≤ 9 then parWords 2 (padWords cnt data) else []) x e)
    ∧ (∃ (s : State) (h : CmdHdr) (x : Sq) (e : Ent) (off : Nat) (value : Nat), s.coreRuns ∧ s.dev.opTakes h 4 true [par 0 off, par 1 value] x e)
    ∧ (∃ (s : State) (h : CmdHdr) (x : Sq) (e : Ent) (bank : Bool) (idx : Nat) (cnt : Nat), s.coreRuns ∧ s.dev.opTakes h 5 true [parBits 0 13 13 (b2n bank), parBits 0 12 0 idx, par 1 cnt] x e)
    ∧ (∃ (s : State) (h : CmdHdr) (x : Sq) (e : Ent) (grp : Nat), s.coreRuns ∧ s.dev.opTakes h 7 true [parBits 0 7 0 grp] x e)
    ∧ (∃ (s : State) (h : CmdHdr) (x : Sq) (e : Ent), s.coreRuns ∧ s.dev.opTakes h 8 true [] x e)
    ∧ (∃ (s : State) (h : CmdHdr) (x : Sq) (e : Ent) (off : Nat) (last : Bool), s.coreRuns ∧ s.dev.opTakes h 9 true [par 0 off, parBits 1 0 0 (b2n last)] x e)
    ∧ (∃ (s : State) (h : CmdHdr) (x : Sq) (e : Ent) (idx : Nat) (cnt : Nat), s.coreRuns ∧ s.dev.opTakes h 0xA true [par 0 idx, par 1 cnt] x e)
    ∧ (∃ (s : State) (h : CmdHdr) (x : Sq) (e : Ent) (k : Fin 16) (ang : Nat), s.coreRuns ∧ s.dev.opTakes h 0xC true [parBits 0 3 0 k, parBits 1 23 0 ang] x e)
    ∧ (∃ (s : State) (h : CmdHdr) (x : Sq) (e : Ent) (sq : Nat), s.coreRuns ∧ s.dev.opTakes h 0x15 true [par 0 sq] x e)
    ∧ (∃ (s : State) (h : CmdHdr) (x : Sq) (e : Ent) (off : Nat) (len : Nat) (data : List Nat), s.coreRuns ∧ s.dev.opTakes h 0x19 true (par 0 off :: par 1 len :: parWords 2 (padWords 9 data)) x e)
    ∧ (∃ (s : State) (h : CmdHdr) (x : Sq) (e : Ent) (mach : Fin 16) (dem : Nat) (tag : Nat), s.coreRuns ∧ s.dev.opTakes h 0xB true [parBits 0 3 0 mach, parBits 1 16 0 dem, parBits 2 8 8 (b2n true), parBits 2 7 0 tag] x e)
    ∧ (∃ (s : State) (h : CmdHdr) (x : Sq) (e : Ent) (bank : Bool) (idx : Nat) (cnt : Nat), s.coreRuns ∧ s.dev.opTakes h 6 true [parBits 0 13 13 (b2n bank), parBits 0 12 0 idx, par 1 cnt] x e ∧ descArgs h idx cnt = false)
    ∧ (∃ (s : State) (h : CmdHdr) (x : Sq) (e : Ent) (off : Nat), s.coreRuns ∧ s.dev.opTakes h 0xF true [par 0 off] x e ∧ coreMem off h.dlen = false)
    ∧ (∃ (s : State) (h : CmdHdr) (x : Sq) (e : Ent) (off : Nat), s.coreRuns ∧ s.dev.opTakes h 0x10 true [par 0 off] x e ∧ coreMem off h.dlen = false)
    ∧ (∃ (s : State) (h : CmdHdr) (x : Sq) (e : Ent) (n : Fin 16) (p : Fin 4) (addr : Nat) (r : Nat), s.coreRuns ∧ s.dev.opTakes h 0xD true [parBits 0 3 0 n, parBits 0 9 8 p, par 1 addr] x e ∧ (s.start.opStart h 0xD x).tileStop n p = some r)
    ∧ (∃ (s : State) (h : CmdHdr) (x : Sq) (e : Ent) (n : Fin 16) (p : Fin 4) (addr : Nat) (data : Nat) (r : Nat), s.coreRuns ∧ s.dev.opTakes h 0xE true [parBits 0 3 0 n, parBits 0 9 8 p, par 1 addr, par 2 data] x e ∧ (s.start.opStart h 0xE x).tileStop n p = some r) :=
  ⟨⟨wst fun d => d.setSq whdr.src wsq |>.setCq 1 wcq |>.put (F.PWR_DOM_STAT_STATE 6) 2 |>.put F.HIF_STAT_LINKUP 1, whdr, wsq, wsq.freshEnt 2 whdr, 0, 0, by simp only [State.coreRuns, Dev.corksFresh, Dev.opTakes]; decide +kernel⟩,
    ⟨wst fun d => d.setSq whdr.src wsq |>.setCq 1 wcq |>.put (F.PWR_DOM_STAT_STATE 6) 2 |>.put F.HIF_STAT_LINKUP 1, whdr, wsq, wsq.freshEnt 3 whdr, 0, 0, [], by simp only [State.coreRuns, Dev.corksFresh, Dev.opTakes]; decide +kernel⟩,
    ⟨wst fun d => d.setSq whdr.src wsq |>.setCq 1 wcq |>.put (F.PWR_DOM_STAT_STATE 6) 2 |>.put F.HIF_STAT_LINKUP 1, whdr, wsq, wsq.freshEnt 4 whdr, 0, 0, by simp only [State.coreRuns, Dev.corksFresh, Dev.opTakes]; decide +kernel⟩,
    ⟨wst fun d => d.setSq whdr.src wsq |>.setCq 1 wcq |>.put (F.PWR_DOM_STAT_STATE 6) 2 |>.put F.HIF_STAT_LINKUP 1, whdr, wsq, wsq.freshEnt 5 whdr, false, 0, 0, by simp only [State.coreRuns, Dev.corksFresh, Dev.opTakes]; decide +kernel⟩,
    ⟨wst fun d => d.setSq whdr.src wsq |>.setCq 1 wcq |>.put (F.PWR_DOM_STAT_STATE 6) 2 |>.put F.HIF_STAT_LINKUP 1, whdr, wsq, wsq.freshEnt 7 whdr, 0, by simp only [State.coreRuns, Dev.corksFresh, Dev.opTakes]; decide +kernel⟩,
    ⟨wst fun d => d.setSq whdr.src wsq |>.setCq 1 wcq |>.put (F.PWR_DOM_STAT_STATE 6) 2 |>.put F.HIF_STAT_LINKUP 1, whdr, wsq, wsq.freshEnt 8 whdr, by simp only [State.coreRuns, Dev.corksFresh, Dev.opTakes]; decide +kernel⟩,
    ⟨wst fun d => d.setSq whdr.src wsq |>.setCq 1 wcq |>.put (F.PWR_DOM_STAT_STATE 6) 2 |>.put F.HIF_STAT_LINKUP 1, whdr, wsq, wsq.freshEnt 9 whdr, 0, false, by simp only [State.coreRuns, Dev.corksFresh, Dev.opTakes]; decide +kernel⟩,
    ⟨wst fun d => d.setSq whdr.src wsq |>.setCq 1 wcq |>.put (F.PWR_DOM_STAT_STATE 6) 2 |>.put F.HIF_STAT_LINKUP 1, whdr, wsq, wsq.freshEnt 10 whdr, 0, 0, by simp only [State.coreRuns, Dev.corksFresh, Dev.opTakes]; decide +kernel⟩,
    ⟨wst fun d => d.setSq whdr.src wsq |>.setCq 1 wcq |>.put (F.PWR_DOM_STAT_STATE 6) 2 |>.put F.HIF_STAT_LINKUP 1, whdr, wsq, wsq.freshEnt 12 whdr, 0, 0, by simp only [State.coreRuns, Dev.corksFresh, Dev.opTakes]; decide +kernel⟩,
    ⟨wst fun d => d.setSq whdr0.src wsq |>.setCq 1 wcq |>.put (F.PWR_DOM_STAT_STATE 6) 2 |>.put F.HIF_STAT_LINKUP 1, whdr0, wsq, wsq.freshEnt 21 whdr0, 0, by simp only [State.coreRuns, Dev.corksFresh, Dev.opTakes]; decide +kernel⟩,
    ⟨wst fun d => d.setSq whdrC.src can0.cmd |>.setCq 1 wcq |>.put (F.PWR_DOM_STAT_STATE 6) 2 |>.put F.HIF_STAT_LINKUP 1 |>.put (F.CAN_CTL_EN 0) 1, whdrC, can0.cmd, can0.cmd.freshEnt 25 whdrC, 0, 0, [], by simp only [State.coreRuns, Dev.corksFresh, Dev.opTakes]; decide +kernel⟩,
    ⟨wst fun d => d.setSq whdr.src wsq |>.setCq 1 wcq |>.put (F.PWR_DOM_STAT_STATE 6) 2 |>.put F.HIF_STAT_LINKUP 1, whdr, wsq, wsq.freshEnt 11 whdr, 0, 0, 0, by simp only [State.coreRuns, Dev.corksFresh, Dev.opTakes]; decide +kernel⟩,
    ⟨wst fun d => d.setSq whdr.src wsq |>.setCq 1 wcq |>.put (F.PWR_DOM_STAT_STATE 6) 2 |>.put F.HIF_STAT_LINKUP 1, whdr, wsq, wsq.freshEnt 6 whdr, false, 0, 0, by simp only [State.coreRuns, Dev.corksFresh, Dev.opTakes]; decide +kernel⟩,
    ⟨wst fun d => d.setSq whdr.src wsq |>.setCq 1 wcq |>.put (F.PWR_DOM_STAT_STATE 6) 2 |>.put F.HIF_STAT_LINKUP 1, whdr, wsq, wsq.freshEnt 15 whdr, 0, by simp only [State.coreRuns, Dev.corksFresh, Dev.opTakes]; decide +kernel⟩,
    ⟨wst fun d => d.setSq whdr.src wsq |>.setCq 1 wcq |>.put (F.PWR_DOM_STAT_STATE 6) 2 |>.put F.HIF_STAT_LINKUP 1, whdr, wsq, wsq.freshEnt 16 whdr, 0, by simp only [State.coreRuns, Dev.corksFresh, Dev.opTakes]; decide +kernel⟩,
    ⟨wst fun d => d.setSq whdr.src wsq |>.setCq 1 wcq |>.put (F.PWR_DOM_STAT_STATE 6) 2 |>.put F.HIF_STAT_LINKUP 1, whdr, wsq, wsq.freshEnt 13 whdr, 0, 0, 0, 8, by simp only [State.coreRuns, Dev.corksFresh, Dev.opTakes]; decide +kernel⟩,
    ⟨wst fun d => d.setSq whdr.src wsq |>.setCq 1 wcq |>.put (F.PWR_DOM_STAT_STATE 6) 2 |>.put F.HIF_STAT_LINKUP 1, whdr, wsq, wsq.freshEnt 14 whdr, 0, 0, 0, 0, 8, by simp only [State.coreRuns, Dev.corksFresh, Dev.opTakes]; decide +kernel⟩⟩

theorem test_witness_tracker_edges :
    (∃ (s : State) (k : Fin 16) (e : Machine.Edge) (r : List Machine.Edge), s.coreRuns ∧ (s.dev.tk k).priQ = e :: r ∧ s.dev.get (F.TRK_CFG_DIR_SRC k) = 1)
    ∧ (∃ (s : State) (k : Fin 16) (e : Machine.Edge) (r : List Machine.Edge), s.coreRuns ∧ (s.dev.tk k).priQ = e :: r ∧ s.dev.get (F.TRK_CFG_DIR_SRC k) = 2)
    ∧ (∃ (s : State) (k : Fin 16) (e : Machine.Edge) (r : List Machine.Edge), s.coreRuns ∧ (s.dev.tk k).priQ = e :: r ∧ s.dev.get (F.TRK_CFG_DIR_SRC k) ≠ 1 ∧ s.dev.get (F.TRK_CFG_DIR_SRC k) ≠ 2)
    ∧ (∃ (s : State) (k : Fin 16) (e : Machine.Edge) (r : List Machine.Edge), s.coreRuns ∧ (s.dev.tk k).pwQ = e :: r)
    ∧ (∃ (s : State) (k : Fin 16) (n : Nat), s.coreRuns ∧ 3 ≤ s.dev.tstate k ∧ s.dev.tstate k ≤ 5 ∧ s.dev.flag (F.TRK_CFG_KIND k) = false ∧ (s.dev.tk k).skip = false ∧ (s.dev.tk k).qsFirst = false ∧ s.dev.synFast k = true ∧ whSpan (s.dev.tk k).wheel ((s.dev.geo k).pos (s.dev.tk k).bnd) (s.dev.tk k).rev = n ∧ ((s.dev.tk k).pwQ ++ (s.dev.tk k).priQ).any (fun e => decide (e.stamp ≤ (s.dev.tk k).lastT + (s.dev.get (F.TRK_TOL_TOL_HI k) * (n * (s.dev.tk k).pn) + 31) / 32)) = false)
    ∧ (∃ (s : State) (k : Fin 16) (e : Machine.Edge) (r : List Machine.Edge), s.coreRuns ∧ (s.dev.tk k).phQ = e :: r)
    ∧ (∃ (s : State) (k : Fin 16) (a : Int), s.coreRuns ∧ (s.dev.tk k).phNext = some a ∧ 5 ≤ s.dev.tstate k)
    ∧ (∃ (s : State) (k : Fin 16) (r : ToothRec) (q : List ToothRec) (x : Dev) (y : Dev), s.coreRuns ∧ (s.dev.tk k).recs = r :: q ∧ s.dev.setTk k { s.dev.tk k with recs := q } = x ∧ x.mirTooth k (match r.kind with | .real => 0 | .synth => 1 | .phase => 2) r.rev r.dchg r.span ((x.geo k).pos r.bnd) r.lin r.stamp = y ∧ y.follows k = false) :=
  ⟨⟨wst fun d => d.upTk 0 (fun y => { y with priQ := wedge :: ([]) }) |>.put (F.TRK_CFG_DIR_SRC 0) 1, 0, wedge, [], by simp only [State.coreRuns, Dev.corksFresh]; decide +kernel⟩,
    ⟨wst fun d => d.upTk 0 (fun y => { y with priQ := wedge :: ([]) }) |>.put (F.TRK_CFG_DIR_SRC 0) 2, 0, wedge, [], by simp only [State.coreRuns, Dev.corksFresh]; decide +kernel⟩,
    ⟨wst fun d => d.upTk 0 (fun y => { y with priQ := wedge :: ([]) }), 0, wedge, [], by simp only [State.coreRuns, Dev.corksFresh]; decide +kernel⟩,
    ⟨wst fun d => d.upTk 0 (fun y => { y with pwQ := wedge :: ([]) }), 0, wedge, [], by simp only [State.coreRuns, Dev.corksFresh]; decide +kernel⟩,
    ⟨wst fun d => d.put (F.TRK_STAT_STATE 0) 3 |>.put (F.TRK_CFG_KIND 0) 0 |>.upTk 0 (fun y => { y with skip := false }) |>.upTk 0 (fun y => { y with qsFirst := false }), 0, 0, by simp only [State.coreRuns, Dev.corksFresh]; decide +kernel⟩,
    ⟨wst fun d => d.upTk 0 (fun y => { y with phQ := wedge :: ([]) }), 0, wedge, [], by simp only [State.coreRuns, Dev.corksFresh]; decide +kernel⟩,
    ⟨wst fun d => d.upTk 0 (fun y => { y with phNext := some 0 }) |>.put (F.TRK_STAT_STATE 0) 5, 0, 0, by simp only [State.coreRuns, Dev.corksFresh]; decide +kernel⟩,
    ⟨wst fun d => d.upTk 0 (fun y => { y with recs := (⟨100, 5, 1, 1, false, .real, false, false, false⟩ : ToothRec) :: ([]) }), 0, ⟨100, 5, 1, 1, false, .real, false, false, false⟩, [], (wst fun d => d.upTk 0 (fun y => { y with recs := (⟨100, 5, 1, 1, false, .real, false, false, false⟩ : ToothRec) :: ([]) })).dev.setTk 0 { (wst fun d => d.upTk 0 (fun y => { y with recs := (⟨100, 5, 1, 1, false, .real, false, false, false⟩ : ToothRec) :: ([]) })).dev.tk 0 with recs := ([]) }, ((wst fun d => d.upTk 0 (fun y => { y with recs := (⟨100, 5, 1, 1, false, .real, false, false, false⟩ : ToothRec) :: ([]) })).dev.setTk 0 { (wst fun d => d.upTk 0 (fun y => { y with recs := (⟨100, 5, 1, 1, false, .real, false, false, false⟩ : ToothRec) :: ([]) })).dev.tk 0 with recs := ([]) }).mirTooth 0 (match (⟨100, 5, 1, 1, false, .real, false, false, false⟩ : ToothRec).kind with | .real => 0 | .synth => 1 | .phase => 2) (⟨100, 5, 1, 1, false, .real, false, false, false⟩ : ToothRec).rev (⟨100, 5, 1, 1, false, .real, false, false, false⟩ : ToothRec).dchg (⟨100, 5, 1, 1, false, .real, false, false, false⟩ : ToothRec).span ((((wst fun d => d.upTk 0 (fun y => { y with recs := (⟨100, 5, 1, 1, false, .real, false, false, false⟩ : ToothRec) :: ([]) })).dev.setTk 0 { (wst fun d => d.upTk 0 (fun y => { y with recs := (⟨100, 5, 1, 1, false, .real, false, false, false⟩ : ToothRec) :: ([]) })).dev.tk 0 with recs := ([]) }).geo 0).pos (⟨100, 5, 1, 1, false, .real, false, false, false⟩ : ToothRec).bnd) (⟨100, 5, 1, 1, false, .real, false, false, false⟩ : ToothRec).lin (⟨100, 5, 1, 1, false, .real, false, false, false⟩ : ToothRec).stamp, by simp only [State.coreRuns, Dev.corksFresh]; decide +kernel⟩⟩

theorem test_witness_tracker_control :
    (∃ (s : State) (k : Fin 16), s.coreRuns ∧ s.dev.flag (F.TRK_CTL_EN k) = false)
    ∧ (∃ (s : State) (k : Fin 16), s.coreRuns ∧ s.dev.flag (F.TRK_CTL_EN k) = true)
    ∧ (∃ (s : State) (k : Fin 16) (st : Nat), s.coreRuns ∧ s.dev.tstate k = st ∧ 2 ≤ st)
    ∧ (∃ (s : State) (k : Fin 16) (w : Word × Word), s.coreRuns ∧ (s.dev.tk k).stop = some w ∧ s.dev.cflag F.CEL_STAT_SLOWOK = true) :=
  ⟨⟨wst fun d => d.put (F.TRK_CTL_EN 0) 0, 0, by simp only [State.coreRuns, Dev.corksFresh]; decide +kernel⟩,
    ⟨wst fun d => d.put (F.TRK_CTL_EN 0) 1, 0, by simp only [State.coreRuns, Dev.corksFresh]; decide +kernel⟩,
    ⟨wst fun d => d.put (F.TRK_STAT_STATE 0) 2, 0, 2, by simp only [State.coreRuns, Dev.corksFresh]; decide +kernel, by decide +kernel, by decide +kernel⟩,
    ⟨wst fun d => d.upTk 0 (fun y => { y with stop := some ((1, 2)) }) |>.cput F.CEL_STAT_SLOWOK 1, 0, (1, 2), by simp only [State.coreRuns, Dev.corksFresh]; decide +kernel⟩⟩

theorem test_witness_prediction_tables :
    (∃ (s : State) (l : Fin 32) (data : Nat), s.coreRuns ∧ s.dev.flag (F.TRK_STAT_ARM_OK (s.dev.get (F.PRD_LMAP_TRK l))) = false ∧ s.dev.flag (F.TRK_STAT_ARM_OK (data % 16)) = false)
    ∧ (∃ (s : State) (l : Fin 32) (data : Nat), s.coreRuns ∧ (s.dev.flag (F.TRK_STAT_ARM_OK (s.dev.get (F.PRD_LMAP_TRK l))) || s.dev.flag (F.TRK_STAT_ARM_OK (data % 16))) = true)
    ∧ (∃ (s : State) (k : Fin 16), s.coreRuns ∧ s.dev.flag (F.PRD_LRN_RIP_LRN k) = false)
    ∧ (∃ (s : State) (q : Fin 8), s.coreRuns ∧ s.dev.qry? q = none)
    ∧ (∃ (s : State) (q : Fin 8) (x : Qry) (t : Int), s.coreRuns ∧ s.dev.qry? q = some x ∧ x.res = .time t)
    ∧ (∃ (s : State) (l : Fin 32) (spare : Fin 36), s.coreRuns ∧ s.dev.flag (F.PE_STAT_SPARE spare) = true ∧ s.dev.shadowed l = false ∧ s.dev.sch.shadows.any (fun x => x.log == l && x.spare == spare && x.use == .swap) = false)
    ∧ (∃ (s : State) (m : Nat) (x : Dev), s.coreRuns ∧ s.dev.mgs.suspect = none ∧ s.dev.flag F.PRD_CHK_EN = true ∧ s.dev.until (s.dev.sch.chkAt + 400000 * max 1 (s.dev.get F.PRD_CHK_PERIOD)) = x ∧ x.sch.shadows.any (fun y => y.use != .swap) = false ∧ x.mgs.suspect = none ∧ x.freePe none = some m ∧ x.flag F.PRD_CHK_EN = true ∧ x.shadowed x.sch.chk = false)
    ∧ (∃ (s : State), s.coreRuns ∧ (s.dev.mgs.suspect ≠ none ∨ s.dev.flag F.PRD_CHK_EN = false)) :=
  ⟨⟨wst fun d => d.put (F.TRK_STAT_ARM_OK (0 % 16)) 0, 0, 0, by simp only [State.coreRuns, Dev.corksFresh]; decide +kernel⟩,
    ⟨wst fun d => d.put (F.TRK_STAT_ARM_OK 0) 1, 0, 0, by simp only [State.coreRuns, Dev.corksFresh]; decide +kernel⟩,
    ⟨wst fun d => d.put (F.PRD_LRN_RIP_LRN 0) 0, 0, by simp only [State.coreRuns, Dev.corksFresh]; decide +kernel⟩,
    ⟨State.reset, 0, by simp only [State.coreRuns, Dev.corksFresh]; decide +kernel⟩,
    ⟨wst fun d => { d with qry := [(0, (⟨0, .time 0, false, 0⟩ : Qry))] }, 0, ⟨0, .time 0, false, 0⟩, 0, by simp only [State.coreRuns, Dev.corksFresh]; decide +kernel⟩,
    ⟨wst fun d => d.put (F.PE_STAT_SPARE 0) 1, 0, 0, by simp only [State.coreRuns, Dev.corksFresh]; decide +kernel⟩,
    ⟨wst fun d => { d with mgs := { d.mgs with suspect := none } } |>.put F.PRD_CHK_EN 1 |>.put F.PRD_CHK_EN 1 |>.put (F.PE_STAT_SPARE 0) 1, 0, (wst fun d => { d with mgs := { d.mgs with suspect := none } } |>.put F.PRD_CHK_EN 1 |>.put F.PRD_CHK_EN 1 |>.put (F.PE_STAT_SPARE 0) 1).dev.until ((wst fun d => { d with mgs := { d.mgs with suspect := none } } |>.put F.PRD_CHK_EN 1 |>.put F.PRD_CHK_EN 1 |>.put (F.PE_STAT_SPARE 0) 1).dev.sch.chkAt + 400000 * max 1 ((wst fun d => { d with mgs := { d.mgs with suspect := none } } |>.put F.PRD_CHK_EN 1 |>.put F.PRD_CHK_EN 1 |>.put (F.PE_STAT_SPARE 0) 1).dev.get F.PRD_CHK_PERIOD)), by simp only [State.coreRuns, Dev.corksFresh]; decide +kernel⟩,
    ⟨wst fun d => d.put F.PRD_CHK_EN 0, by simp only [State.coreRuns, Dev.corksFresh]; decide +kernel⟩⟩

theorem test_witness_scheduler_commands :
    (∃ (s : State) (bank : Bool) (idx : Nat), s.coreRuns ∧ s.dev.descLive bank (idx % 8192) = false ∧ s.dev.descBusy bank (idx % 8192) = false)
    ∧ (∃ (s : State) (bank : Bool) (idx : Nat), s.coreRuns ∧ s.dev.descLive bank (idx % 8192) = true)
    ∧ (∃ (s : State) (bank : Bool) (idx : Nat), s.coreRuns ∧ s.dev.descLive bank (idx % 8192) = false ∧ s.dev.descBusy bank (idx % 8192) = true)
    ∧ (∃ (s : State) (bank : Bool) (idx : Nat) (word : Fin 8), s.coreRuns ∧ s.dev.descLive bank (idx % 8192) = false ∧ s.dev.descBusy bank (idx % 8192) = false ∧ word.val ≠ 0 ∧ s.dev.direct = false)
    ∧ (∃ (s : State) (k : Fin 16), s.coreRuns ∧ ((s.dev.scht k).prep || (s.dev.scht k).prepIn) = true)
    ∧ (∃ (s : State) (k : Fin 16), s.coreRuns ∧ s.dev.flag (F.SCH_TRK_CTL_EN k) = false)
    ∧ (∃ (s : State) (k : Fin 16), s.coreRuns ∧ s.dev.flag (F.SCH_TRK_CTL_EN k) = true)
    ∧ (∃ (s : State) (uid : Nat) (o : Occ) (p : OPulse), s.coreRuns ∧ s.dev.occ? uid = some o ∧ o.head = some p)
    ∧ (∃ (s : State) (uid : Nat) (endOnly : Bool) (o : Occ) (p : OPulse), s.coreRuns ∧ s.dev.occ? uid = some o ∧ o.head = some p ∧ (fdiv (if endOnly then p.stop else p.start) 8 - 100).toNat ≤ s.dev.now) :=
  ⟨⟨State.reset, false, 0, by simp only [State.coreRuns, Dev.corksFresh]; decide +kernel⟩,
    ⟨wst fun d => d.put (F.SCH_TRK_CTL_EN 0) 1 |>.put (F.SCH_TRK_RANGE_COUNT 0) 8, false, 0, by simp only [State.coreRuns, Dev.corksFresh]; decide +kernel⟩,
    ⟨wst fun d => d.upTk 0 (fun y => { y with pend := some ⟨1, 0, false, 0⟩ }) |>.put (F.SCH_TRK_RANGE_COUNT 0) 8, true, 0, by simp only [State.coreRuns, Dev.corksFresh]; decide +kernel⟩,
    ⟨State.reset, false, 0, 7, by simp only [State.coreRuns, Dev.corksFresh]; decide +kernel⟩,
    ⟨wst fun d => d.setScht 0 { d.scht 0 with prep := true }, 0, by simp only [State.coreRuns, Dev.corksFresh]; decide +kernel⟩,
    ⟨wst fun d => d.put (F.SCH_TRK_CTL_EN 0) 0, 0, by simp only [State.coreRuns, Dev.corksFresh]; decide +kernel⟩,
    ⟨wst fun d => d.put (F.SCH_TRK_CTL_EN 0) 1, 0, by simp only [State.coreRuns, Dev.corksFresh]; decide +kernel⟩,
    ⟨wst fun d => { d with sch := { d.sch with occs := [(wocc [wopu])] } }, 1, wocc [wopu], wopu, by simp only [State.coreRuns, Dev.corksFresh]; decide +kernel⟩,
    ⟨wst fun d => { d with sch := { d.sch with occs := [(wocc [wopu])] } }, 1, false, wocc [wopu], wopu, by simp only [State.coreRuns, Dev.corksFresh]; decide +kernel⟩⟩

theorem test_witness_press_commands :
    ∃ (s : State) (k : Fin 16) (sp : Fin 64) (a : Int) (rev : Bool) (at_ : Nat), s.coreRuns ∧ (s.dev.prsReady k).prsNext = some (k.val, (sp.val, a, rev, at_)) :=
  ⟨wst fun d => d.setPs 0 { d.ps 0 with queue := [(0, 0, false, 0)] }, 0, 0, 0, false, 0, by simp only [State.coreRuns, Dev.corksFresh]; decide +kernel⟩

theorem test_witness_tile_reliable_frames :
    (∃ (s : State) (t : Fin 64) (sd : Bool) (seq : Nat), s.dev.corksFresh ∧ s.dev.tileTakes t sd seq 1)
    ∧ (∃ (s : State) (t : Fin 64) (sd : Bool) (seq : Nat), s.dev.corksFresh ∧ s.dev.tileTakes t sd seq 2)
    ∧ (∃ (s : State) (t : Fin 64) (sd : Bool) (seq : Nat) (w1 : Nat) (w2 : Nat), s.dev.corksFresh ∧ s.dev.tileTakes t sd seq 2 ∧ w1 % 2 ^ 32 + w2 % 2 ^ 32 = 2 ^ 32 - 1 ∧ bitOf w1 0 = true)
    ∧ (∃ (s : State) (t : Fin 64) (sd : Bool) (seq : Nat) (w1 : Nat) (w2 : Nat), s.dev.corksFresh ∧ s.dev.tileTakes t sd seq 2 ∧ w1 % 2 ^ 32 + w2 % 2 ^ 32 ≠ 2 ^ 32 - 1) :=
  ⟨⟨wst fun d => d.upTs 0 false (fun y => { y with st := 3 }), 0, false, 0, by simp only [Dev.corksFresh, Dev.tileTakes]; decide +kernel⟩,
    ⟨wst fun d => d.upTs 0 false (fun y => { y with st := 3 }), 0, false, 0, by simp only [Dev.corksFresh, Dev.tileTakes]; decide +kernel⟩,
    ⟨wst fun d => d.upTs 0 false (fun y => { y with st := 3 }), 0, false, 0, 1, 0xFFFFFFFE, by simp only [Dev.corksFresh, Dev.tileTakes]; decide +kernel⟩,
    ⟨wst fun d => d.upTs 0 false (fun y => { y with st := 3 }), 0, false, 0, 0, 0, by simp only [Dev.corksFresh, Dev.tileTakes]; decide +kernel⟩⟩

theorem test_witness_tile_pulse_frames :
    (∃ (s : State) (t : Fin 64) (sd : Bool) (seq : Nat) (handle : Nat) (pulses : List PulseEntry), s.dev.corksFresh ∧ s.dev.tileTakes t sd seq 3 ∧ s.dev.commitCheck t sd handle (pulses.map ((s.dev.ts t sd).entry (s.dev.tlu t sd) handle)) ≠ 0)
    ∧ (∃ (s : State) (t : Fin 64) (sd : Bool), s.dev.corksFresh ∧ s.dev.passes t sd = true)
    ∧ (∃ (s : State) (t : Fin 64) (sd : Bool) (seq : Nat) (handle : Nat) (pulses : List PulseEntry), s.dev.corksFresh ∧ s.dev.tileTakes t sd seq 3 ∧ s.dev.commitCheck t sd handle (pulses.map ((s.dev.ts t sd).entry (s.dev.tlu t sd) handle)) = 0)
    ∧ (∃ (s : State) (t : Fin 64) (sd : Bool) (seq : Nat) (handle : Nat) (aver : Nat) (pmask : Nat), s.dev.corksFresh ∧ s.dev.tileTakes t sd seq 3 ∧ s.dev.handleHeld t sd handle = true ∧ averNewer aver (smGet (s.dev.ts t sd).avers 0 handle) = true ∧ maskBits pmask = [])
    ∧ (∃ (s : State) (t : Fin 64) (sd : Bool) (seq : Nat) (handle : Nat) (pmask : Nat), s.dev.corksFresh ∧ s.dev.tileTakes t sd seq 3 ∧ s.dev.handleHeld t sd handle = true ∧ maskBits pmask = [])
    ∧ (∃ (s : State) (t : Fin 64) (sd : Bool) (seq : Nat) (handle : Nat), s.dev.corksFresh ∧ s.dev.tileTakes t sd seq 3 ∧ s.dev.handleHeld t sd handle = false) :=
  ⟨⟨wst fun d => d.upTs 0 false (fun y => { y with st := 3 }) |>.upTs 0 false (fun y => { y with pulses := [wpul] }), 0, false, 0, 5, [], by simp only [Dev.corksFresh, Dev.tileTakes]; decide +kernel⟩,
    ⟨State.reset, 0, false, by simp only [Dev.corksFresh]; decide +kernel⟩,
    ⟨wst fun d => d.upTs 0 false (fun y => { y with st := 3 }), 0, false, 0, 0, [], by simp only [Dev.corksFresh, Dev.tileTakes]; decide +kernel⟩,
    ⟨wst fun d => d.upTs 0 false (fun y => { y with st := 3 }) |>.upTs 0 false (fun y => { y with pulses := [wpul] }), 0, false, 0, 5, 1, 0, by simp only [Dev.corksFresh, Dev.tileTakes]; decide +kernel⟩,
    ⟨wst fun d => d.upTs 0 false (fun y => { y with st := 3 }) |>.upTs 0 false (fun y => { y with pulses := [wpul] }), 0, false, 0, 5, 0, by simp only [Dev.corksFresh, Dev.tileTakes]; decide +kernel⟩,
    ⟨wst fun d => d.upTs 0 false (fun y => { y with st := 3 }), 0, false, 0, 0, by simp only [Dev.corksFresh, Dev.tileTakes]; decide +kernel⟩⟩

theorem test_witness_tile_other_frames :
    (∃ (s : State) (t : Fin 64) (sd : Bool), s.dev.corksFresh ∧ s.dev.passes t sd = true ∧ 1 ≤ (s.dev.ts t sd).st)
    ∧ (∃ (s : State) (t : Fin 64) (sd : Bool), s.dev.corksFresh ∧ s.dev.passes t sd = true ∧ (s.dev.ts t sd).st = 0)
    ∧ (∃ (s : State) (t : Fin 64) (sd : Bool) (seq : Nat), s.dev.corksFresh ∧ s.dev.tileTakes t sd seq 1)
    ∧ (∃ (s : State) (t : Fin 64) (sd : Bool), s.dev.corksFresh ∧ s.dev.passes t sd = true ∧ 2 ≤ (s.dev.ts t sd).st)
    ∧ (∃ (s : State) (t : Fin 64) (sd : Bool), s.dev.corksFresh ∧ s.dev.passes t sd = true) :=
  ⟨⟨wst fun d => d.upTs 0 false (fun y => { y with st := 1 }), 0, false, by simp only [Dev.corksFresh]; decide +kernel⟩,
    ⟨wst fun d => d.upTs 0 false (fun y => { y with st := 0 }), 0, false, by simp only [Dev.corksFresh]; decide +kernel⟩,
    ⟨wst fun d => d.upTs 0 false (fun y => { y with st := 3 }), 0, false, 0, by simp only [Dev.corksFresh, Dev.tileTakes]; decide +kernel⟩,
    ⟨wst fun d => d.upTs 0 false (fun y => { y with st := 2 }), 0, false, by simp only [Dev.corksFresh]; decide +kernel⟩,
    ⟨State.reset, 0, false, by simp only [Dev.corksFresh]; decide +kernel⟩⟩

theorem test_witness_damaged_link_frames_are_discarded :
    (∃ (s : State) (c : Instr) (n : Fin 16) (p : Fin 4), s.coreRuns ∧ ((∃ seq result pmask arr, c = .ack n p false seq result pmask arr) ∨ (∃ etag tt res rtt, c = .echoRsp n p false etag tt res rtt) ∨ (∃ handle pidx out status start stop ipk i2t, c = .done n p false handle pidx out status start stop ipk i2t) ∨ (∃ w1 w2 w3, c = .status n p false w1 w2 w3) ∨ (∃ level out code data, c = .diag n p false level out code data) ∨ (∃ vendor type rev proto nout iv two slots serial fwdlat, c = .ident n p false vendor type rev proto nout iv two slots serial fwdlat) ∨ (∃ result addr data, c = .regdata n p false result addr data) ∨ ∃ handle wseq kind out t0 samples, c = .wave n p false handle wseq kind out t0 samples))
    ∧ (∃ (s : State) (c : Instr) (t : Fin 64) (sd : Bool), s.dev.corksFresh ∧ ((∃ seq handle vint rev pulses, c = .commit t sd .damaged seq handle vint rev pulses) ∨ (∃ seq handle aver pmask times, c = .amend t sd false seq handle aver pmask times) ∨ (∃ seq handle pmask, c = .cancel t sd false seq handle pmask) ∨ (∃ stamp, c = .time t sd false stamp) ∨ (∃ seq stamp stepc dly, c = .timeset t sd false seq stamp stepc dly) ∨ (∃ etag tt, c = .echoReq t sd false etag tt) ∨ (∃ proto dside pos, c = .discover t sd false proto dside pos) ∨ (∃ seq addr data, c = .regwr t sd false seq addr data) ∨ (∃ addr, c = .regrd t sd false addr) ∨ (∃ seq prf words, c = .prfset t sd false seq prf words) ∨ (∃ seq w1 w2, c = .pwr t sd false seq w1 w2) ∨ (∃ seq beyond, c = .ctlReset t sd false seq beyond) ∨ (∃ seq, c = .ctlDsopen t sd false seq) ∨ (∃ seq, c = .ctlDsclose t sd false seq) ∨ (∃ seq, c = .ctlSwapDn t sd false seq) ∨ (∃ seq, c = .ctlSwapUp t sd false seq) ∨ ∃ seq on, c = .ctlMirror t sd false seq on)) :=
  ⟨⟨State.reset, .ack 0 0 false 0 0 0 0, 0, 0, by simp only [State.coreRuns, Dev.corksFresh]; decide +kernel, Or.inl ⟨0, 0, 0, 0, rfl⟩⟩,
    ⟨State.reset, .commit 0 false .damaged 0 0 0 false [], 0, false, by simp only [Dev.corksFresh]; decide +kernel, Or.inl ⟨0, 0, 0, false, [], rfl⟩⟩⟩

theorem test_witness_tile_frames_at_the_link :
    (∃ (s : State) (n : Fin 16) (p : Fin 4) (seq : Nat) (f : DFrame), s.coreRuns ∧ (s.dev.lp n p).unack.find? (fun g => g.seq == seq) = some f)
    ∧ (∃ (s : State) (n : Fin 16) (p : Fin 4) (seq : Nat), s.coreRuns ∧ (s.dev.lp n p).unack.find? (fun g => g.seq == seq) = none)
    ∧ (∃ (s : State) (n : Fin 16) (p : Fin 4), s.coreRuns ∧ s.dev.reached n p = true ∧ s.dev.linkUp n = true ∧ (s.dev.lp n p).echo.length + 1 < s.dev.echon n)
    ∧ (∃ (s : State) (n : Fin 16) (p : Fin 4), s.coreRuns ∧ s.dev.reached n p = true ∧ s.dev.linkUp n = true ∧ (s.dev.lp n p).echo.length + 1 = s.dev.echon n ∧ (s.dev.lp n p).stage = 2)
    ∧ (∃ (s : State) (n : Fin 16) (p : Fin 4) (handle : Nat) (pidx : Fin 8) (out : Fin 8), s.coreRuns ∧ s.dev.byHandle (tileNo n p) handle (fun q => q.pidx == pidx.val) = none ∧ s.dev.flag (F.CDT_CH_CFG_TEN (8 * tileNo n p + out.val)) = false)
    ∧ (∃ (s : State) (n : Fin 16) (p : Fin 4) (handle : Nat) (pidx : Fin 8) (x : Occ × OPulse), s.coreRuns ∧ s.dev.byHandle (tileNo n p) handle (fun q => q.pidx == pidx.val) = some x)
    ∧ (∃ (s : State) (n : Fin 16) (p : Fin 4), s.coreRuns ∧ s.dev.reached n p = true ∧ s.dev.linkUp n = true)
    ∧ (∃ (s : State) (n : Fin 16) (p : Fin 4) (code : Nat), s.coreRuns ∧ s.dev.reached n p = true ∧ s.dev.linkUp n = true ∧ (code < 0x08 ∨ 0x0B < code))
    ∧ (∃ (s : State) (n : Fin 16) (p : Fin 4) (slots : Nat), s.coreRuns ∧ (s.dev.lp n p).stage = 1 ∧ s.dev.linkUp n = true ∧ 16 ≤ slots)
    ∧ (∃ (s : State) (n : Fin 16) (p : Fin 4) (proto : Nat), s.coreRuns ∧ (s.dev.lp n p).stage = 1 ∧ s.dev.linkUp n = true ∧ proto ≠ 1)
    ∧ (∃ (s : State) (n : Fin 16) (p : Fin 4) (addr : Nat), s.coreRuns ∧ s.dev.flag (F.TIL_STAT_BUSY n) = true ∧ (s.dev.lk n).tilWr = false ∧ (s.dev.lk n).tilPos = p.val ∧ (s.dev.lk n).tilAddr = addr % 65536)
    ∧ (∃ (s : State) (n : Fin 16) (p : Fin 4) (handle : Nat) (wseq : Nat) (kind : Nat) (out : Fin 8) (t0 : Nat) (samples : List Int), s.coreRuns ∧ s.dev.flag F.CDT_CAP_EN = false ∧ ((s.dev.winsUpTo handle (8 * tileNo n p + out.val) (nearest 32 s.dev.tLink t0)).waveJoin (8 * tileNo n p + out.val) handle (wseq % 256) (nearest 32 s.dev.tLink t0) (voltages kind samples)).flag F.CDT_CAP_EN = false) :=
  ⟨⟨wst fun d => d.upLp 0 0 (fun y => { y with unack := [wfr] }), 0, 0, 9, wfr, by simp only [State.coreRuns, Dev.corksFresh]; decide +kernel⟩,
    ⟨State.reset, 0, 0, 0, by simp only [State.coreRuns, Dev.corksFresh]; decide +kernel⟩,
    ⟨wst fun d => d.put (F.TLK_POS_STATE 0 0) 1 |>.put (F.PWR_DOM_STAT_STATE (1 + 0 / 4)) 2 |>.put (F.TLK_CTL_EN 0) 1, 0, 0, by simp only [State.coreRuns, Dev.corksFresh]; decide +kernel⟩,
    ⟨wst fun d => d.put (F.TLK_POS_STATE 0 0) 1 |>.put (F.PWR_DOM_STAT_STATE (1 + 0 / 4)) 2 |>.put (F.TLK_CTL_EN 0) 1 |>.upLp 0 0 (fun y => { y with stage := 2 }) |>.put (F.TLK_CFG_ECHON 0) 1, 0, 0, by simp only [State.coreRuns, Dev.corksFresh]; decide +kernel⟩,
    ⟨wst fun d => d.put (F.CDT_CH_CFG_TEN (8 * tileNo 0 0 + 0)) 0, 0, 0, 0, 0, 0, by simp only [State.coreRuns, Dev.corksFresh]; decide +kernel⟩,
    ⟨wst fun d => { d with sch := { d.sch with occs := [wocc [wopu]] } }, 0, 0, 5, 2, (wocc [wopu], wopu), by simp only [State.coreRuns, Dev.corksFresh]; decide +kernel⟩,
    ⟨wst fun d => d.put (F.TLK_POS_STATE 0 0) 1 |>.put (F.PWR_DOM_STAT_STATE (1 + 0 / 4)) 2 |>.put (F.TLK_CTL_EN 0) 1, 0, 0, by simp only [State.coreRuns, Dev.corksFresh]; decide +kernel⟩,
    ⟨wst fun d => d.put (F.TLK_POS_STATE 0 0) 1 |>.put (F.PWR_DOM_STAT_STATE (1 + 0 / 4)) 2 |>.put (F.TLK_CTL_EN 0) 1, 0, 0, 0, by simp only [State.coreRuns, Dev.corksFresh]; decide +kernel⟩,
    ⟨wst fun d => d.upLp 0 0 (fun y => { y with stage := 1 }) |>.put (F.PWR_DOM_STAT_STATE (1 + 0 / 4)) 2 |>.put (F.TLK_CTL_EN 0) 1, 0, 0, 16, by simp only [State.coreRuns, Dev.corksFresh]; decide +kernel⟩,
    ⟨wst fun d => d.upLp 0 0 (fun y => { y with stage := 1 }) |>.put (F.PWR_DOM_STAT_STATE (1 + 0 / 4)) 2 |>.put (F.TLK_CTL_EN 0) 1, 0, 0, 0, by simp only [State.coreRuns, Dev.corksFresh]; decide +kernel⟩,
    ⟨wst fun d => d.put (F.TIL_STAT_BUSY 0) 1 |>.upLk 0 (fun y => { y with tilWr := false }) |>.upLk 0 (fun y => { y with tilPos := 0 }) |>.upLk 0 (fun y => { y with tilAddr := 0 % 65536 }), 0, 0, 0, by simp only [State.coreRuns, Dev.corksFresh]; decide +kernel⟩,
    ⟨wst fun d => d.put F.CDT_CAP_EN 0, 0, 0, 0, 0, 0, 0, 0, [], by simp only [State.coreRuns, Dev.corksFresh]; decide +kernel⟩⟩

theorem test_witness_link_periods_and_losses :
    (∃ (s : State) (n : Fin 16) (p : Fin 4) (seq : Nat) (f : DFrame), s.coreRuns ∧ (s.dev.lp n p).unack.find? (fun g => g.seq == seq) = some f ∧ f.retr < s.dev.get (F.TLK_CFG_RETRY n))
    ∧ (∃ (s : State) (n : Fin 16) (p : Fin 4) (seq : Nat) (f : DFrame), s.coreRuns ∧ (s.dev.lp n p).unack.find? (fun g => g.seq == seq) = some f ∧ s.dev.get (F.TLK_CFG_RETRY n) ≤ f.retr)
    ∧ (∃ (s : State) (n : Fin 16), s.coreRuns ∧ s.dev.linkUp n = true)
    ∧ (∃ (s : State) (n : Fin 16) (p : Fin 4), s.coreRuns ∧ s.dev.linkUp n = true ∧ s.dev.reached n p = true ∧ s.dev.silent = true)
    ∧ (∃ (s : State) (n : Fin 16) (p : Fin 4), s.coreRuns ∧ s.dev.linkUp n = true ∧ s.dev.reached n p = true)
    ∧ (∃ (s : State) (n : Fin 16) (p : Fin 4), s.coreRuns ∧ (s.dev.lp n p).stage = 1)
    ∧ (∃ (s : State) (n : Fin 16), s.coreRuns ∧ s.dev.flag (F.TLK_CTL_AUTODISC n) = true)
    ∧ (∃ (s : State) (n : Fin 16), s.coreRuns ∧ s.dev.lgOn n = true ∧ s.dev.flag (F.TLK_CTL_AUTODISC n) = false)
    ∧ (∃ (s : State) (n : Fin 16), s.coreRuns ∧ s.dev.flag (F.TLK_STAT_LOCK n) = true)
    ∧ (∃ (s : State) (n : Fin 16) (p : Fin 4), s.coreRuns ∧ s.dev.reached n p = true)
    ∧ (∃ (s : State) (n : Fin 16), s.coreRuns ∧ s.dev.lgOn n = true) :=
  ⟨⟨wst fun d => d.upLp 0 0 (fun y => { y with unack := [wfr] }) |>.put (F.TLK_CFG_RETRY 0) 1, 0, 0, 9, wfr, by simp only [State.coreRuns, Dev.corksFresh]; decide +kernel⟩,
    ⟨wst fun d => d.upLp 0 0 (fun y => { y with unack := [wfr] }) |>.put (F.TLK_CFG_RETRY 0) 0, 0, 0, 9, wfr, by simp only [State.coreRuns, Dev.corksFresh]; decide +kernel⟩,
    ⟨wst fun d => d.put (F.PWR_DOM_STAT_STATE (1 + 0 / 4)) 2 |>.put (F.TLK_CTL_EN 0) 1, 0, by simp only [State.coreRuns, Dev.corksFresh]; decide +kernel⟩,
    ⟨wst fun d => d.put (F.PWR_DOM_STAT_STATE (1 + 0 / 4)) 2 |>.put (F.TLK_CTL_EN 0) 1 |>.put (F.TLK_POS_STATE 0 0) 1 |> fun d => { d with clk := ⟨true, 0⟩ }, 0, 0, by simp only [State.coreRuns, Dev.corksFresh]; decide +kernel⟩,
    ⟨wst fun d => d.put (F.PWR_DOM_STAT_STATE (1 + 0 / 4)) 2 |>.put (F.TLK_CTL_EN 0) 1 |>.put (F.TLK_POS_STATE 0 0) 1, 0, 0, by simp only [State.coreRuns, Dev.corksFresh]; decide +kernel⟩,
    ⟨wst fun d => d.upLp 0 0 (fun y => { y with stage := 1 }), 0, 0, by simp only [State.coreRuns, Dev.corksFresh]; decide +kernel⟩,
    ⟨wst fun d => d.put (F.TLK_CTL_AUTODISC 0) 1, 0, by simp only [State.coreRuns, Dev.corksFresh]; decide +kernel⟩,
    ⟨wst fun d => d.put (F.PWR_DOM_STAT_STATE (1 + 0 / 4)) 2 |>.put (F.TLK_CTL_AUTODISC 0) 0, 0, by simp only [State.coreRuns, Dev.corksFresh]; decide +kernel⟩,
    ⟨wst fun d => d.put (F.TLK_STAT_LOCK 0) 1, 0, by simp only [State.coreRuns, Dev.corksFresh]; decide +kernel⟩,
    ⟨wst fun d => d.put (F.TLK_POS_STATE 0 0) 1, 0, 0, by simp only [State.coreRuns, Dev.corksFresh]; decide +kernel⟩,
    ⟨wst fun d => d.put (F.PWR_DOM_STAT_STATE (1 + 0 / 4)) 2, 0, by simp only [State.coreRuns, Dev.corksFresh]; decide +kernel⟩⟩

theorem test_witness_link_lanes :
    (∃ (s : State) (n : Fin 16), s.coreRuns ∧ s.dev.lgOn n = true ∧ s.dev.linkUp n = true ∧ s.dev.sok n 0 false = true)
    ∧ (∃ (s : State) (n : Fin 16) (p : Fin 4), s.coreRuns ∧ s.dev.lgOn n = true ∧ s.dev.linkUp n = true ∧ s.dev.sok n p false = true ∧ p.val ≠ 0)
    ∧ (∃ (s : State) (n : Fin 16) (p : Fin 4), s.coreRuns ∧ s.dev.lgOn n = true ∧ s.dev.linkUp n = true ∧ s.dev.sok n p true = true)
    ∧ (∃ (s : State) (n : Fin 16) (p : Fin 4), s.coreRuns ∧ s.dev.flag (F.TLK_LANE_AUTO n) = true ∧ s.dev.get (F.TLK_LANE_BERTH n) < (s.dev.lp n p).cvD)
    ∧ (∃ (s : State) (n : Fin 16) (cv : Nat), s.coreRuns ∧ s.dev.flag (F.TLK_LANE_AUTO n) = true ∧ s.dev.get (F.TLK_LANE_BERTH n) < cv)
    ∧ (∃ (s : State) (n : Fin 16), s.coreRuns ∧ s.dev.flag (F.TLK_LANE_AUTO n) = false)
    ∧ (∃ (s : State) (n : Fin 16) (p : Fin 4), s.coreRuns ∧ s.dev.lgOn n = true ∧ s.dev.linkUp n = true ∧ s.dev.sok n p false = false)
    ∧ (∃ (s : State) (n : Fin 16) (p : Fin 4), s.coreRuns ∧ s.dev.lgOn n = true ∧ s.dev.linkUp n = true ∧ s.dev.sok n p true = false)
    ∧ (∃ (s : State) (n : Fin 16) (p : Fin 4) (up : Bool), s.coreRuns ∧ s.dev.trained n p up = true)
    ∧ (∃ (s : State) (n : Fin 16) (p : Fin 4) (up : Bool), s.coreRuns ∧ (if up then (s.dev.lp n p).failU else (s.dev.lp n p).failD) = true)
    ∧ (∃ (s : State) (n : Fin 16) (p : Fin 4) (up : Bool), s.coreRuns ∧ s.dev.mirrors n p up = true)
    ∧ (∃ (s : State) (n : Fin 16), s.coreRuns ∧ s.dev.causes = [] ∧ s.dev.mirrors n 0 true = true) :=
  ⟨⟨wst fun d => d.put (F.PWR_DOM_STAT_STATE (1 + 0 / 4)) 2 |>.put (F.TLK_CTL_EN 0) 1 |>.upLp 0 0 (fun y => { y with sokD := true }), 0, by simp only [State.coreRuns, Dev.corksFresh]; decide +kernel⟩,
    ⟨wst fun d => d.put (F.PWR_DOM_STAT_STATE (1 + 0 / 4)) 2 |>.put (F.TLK_CTL_EN 0) 1 |>.upLp 0 1 (fun y => { y with sokD := true }), 0, 1, by simp only [State.coreRuns, Dev.corksFresh]; decide +kernel⟩,
    ⟨wst fun d => d.put (F.PWR_DOM_STAT_STATE (1 + 0 / 4)) 2 |>.put (F.TLK_CTL_EN 0) 1 |>.upLp 0 1 (fun y => { y with sokU := true }), 0, 1, by simp only [State.coreRuns, Dev.corksFresh]; decide +kernel⟩,
    ⟨wst fun d => d.put (F.TLK_LANE_AUTO 0) 1 |>.put (F.TLK_LANE_AUTO 0) 1 |>.upLp 0 1 (fun y => { y with cvD := 256 }), 0, 1, by simp only [State.coreRuns, Dev.corksFresh]; decide +kernel⟩,
    ⟨wst fun d => d.put (F.TLK_LANE_AUTO 0) 1, 0, 256, by simp only [State.coreRuns, Dev.corksFresh]; decide +kernel⟩,
    ⟨wst fun d => d.put (F.TLK_LANE_AUTO 0) 0, 0, by simp only [State.coreRuns, Dev.corksFresh]; decide +kernel⟩,
    ⟨wst fun d => d.put (F.PWR_DOM_STAT_STATE (1 + 0 / 4)) 2 |>.put (F.TLK_CTL_EN 0) 1, 0, 0, by simp only [State.coreRuns, Dev.corksFresh]; decide +kernel⟩,
    ⟨wst fun d => d.put (F.PWR_DOM_STAT_STATE (1 + 0 / 4)) 2 |>.put (F.TLK_CTL_EN 0) 1, 0, 0, by simp only [State.coreRuns, Dev.corksFresh]; decide +kernel⟩,
    ⟨wst fun d => d.upTs (tileNo 0 0) d.mySide (fun y => { y with sokD := true }), 0, 0, false, by simp only [State.coreRuns, Dev.corksFresh]; decide +kernel⟩,
    ⟨wst fun d => d.upLp 0 0 (fun y => { y with failD := true, failU := true }), 0, 0, false, by simp only [State.coreRuns, Dev.corksFresh]; decide +kernel⟩,
    ⟨State.reset, 0, 0, false, by simp only [State.coreRuns, Dev.corksFresh]; decide +kernel⟩,
    ⟨wst fun d => d.upTs (tileNo 0 0) d.mySide (fun y => { y with mirror := true }), 0, by simp only [State.coreRuns, Dev.corksFresh]; decide +kernel⟩⟩

theorem test_witness_tile_register_access :
    (∃ (s : State) (n : Fin 16), s.coreRuns ∧ s.dev.lgOn n = true ∧ s.dev.flag (F.TIL_STAT_BUSY n) = true)
    ∧ (∃ (s : State) (n : Fin 16), s.coreRuns ∧ s.dev.lgOn n = true ∧ s.dev.flag (F.TIL_STAT_BUSY n) = false ∧ s.dev.linkUp n = true ∧ s.dev.reached n (s.dev.get (F.TIL_ADDR_POS n)) = true ∧ s.dev.silent = true)
    ∧ (∃ (s : State) (n : Fin 16), s.coreRuns ∧ s.dev.lgOn n = true ∧ s.dev.flag (F.TIL_STAT_BUSY n) = false ∧ s.dev.linkUp n = true ∧ s.dev.reached n (s.dev.get (F.TIL_ADDR_POS n)) = true)
    ∧ (∃ (s : State) (n : Fin 16), s.coreRuns ∧ s.dev.lgOn n = true ∧ s.dev.flag (F.TIL_STAT_BUSY n) = false ∧ s.dev.reached n (s.dev.get (F.TIL_ADDR_POS n)) = false)
    ∧ (∃ (s : State) (n : Fin 16), s.coreRuns ∧ s.dev.flag (F.TIL_STAT_BUSY n) = true) :=
  ⟨⟨wst fun d => d.put (F.PWR_DOM_STAT_STATE (1 + 0 / 4)) 2 |>.put (F.TIL_STAT_BUSY 0) 1, 0, by simp only [State.coreRuns, Dev.corksFresh]; decide +kernel⟩,
    ⟨wst fun d => d.put (F.PWR_DOM_STAT_STATE (1 + 0 / 4)) 2 |>.put (F.TIL_STAT_BUSY 0) 0 |>.put (F.TLK_CTL_EN 0) 1 |>.put (F.TIL_ADDR_POS 0) 0 |>.put (F.TLK_POS_STATE 0 0) 1 |> fun d => { d with clk := ⟨true, 0⟩ }, 0, by simp only [State.coreRuns, Dev.corksFresh]; decide +kernel⟩,
    ⟨wst fun d => d.put (F.PWR_DOM_STAT_STATE (1 + 0 / 4)) 2 |>.put (F.TIL_STAT_BUSY 0) 0 |>.put (F.TLK_CTL_EN 0) 1 |>.put (F.TIL_ADDR_POS 0) 0 |>.put (F.TLK_POS_STATE 0 0) 1, 0, by simp only [State.coreRuns, Dev.corksFresh]; decide +kernel⟩,
    ⟨wst fun d => d.put (F.PWR_DOM_STAT_STATE (1 + 0 / 4)) 2 |>.put (F.TIL_STAT_BUSY 0) 0, 0, by simp only [State.coreRuns, Dev.corksFresh]; decide +kernel⟩,
    ⟨wst fun d => d.put (F.TIL_STAT_BUSY 0) 1, 0, by simp only [State.coreRuns, Dev.corksFresh]; decide +kernel⟩⟩

theorem test_witness_tile_link_events :
    (∃ (s : State) (t : Fin 64) (sd : Bool), s.dev.corksFresh ∧ 2 ≤ (s.dev.ts t sd).st)
    ∧ (∃ (s : State) (t : Fin 64) (sd : Bool), s.dev.corksFresh ∧ (s.dev.ts t sd).st < 2)
    ∧ (∃ (s : State) (t : Fin 64) (sd : Bool) (i : UItem) (x : Dev) (y : Dev), s.dev.corksFresh ∧ s.start.upRun t sd = x ∧ (x.ts t sd).lane.wave = some i ∧ (x.advance (((i.at_ + 60000) / 6 : Nat) - s.start.fabOff).toNat).upRun t sd = y ∧ (y.ts t sd).lane.wait.contains i = true)
    ∧ (∃ (s : State) (t : Fin 64) (sd : Bool) (i : UItem) (x : Dev) (y : Dev), s.dev.corksFresh ∧ s.start.upRun t sd = x ∧ (x.ts t sd).lane.wave = some i ∧ (x.advance (((i.at_ + 60000) / 6 : Nat) - s.start.fabOff).toNat).upRun t sd = y ∧ (y.ts t sd).lane.wait.contains i = false)
    ∧ (∃ (s : State) (t : Fin 64) (sd : Bool), s.dev.corksFresh ∧ (s.dev.tle t).lease ≠ some sd) :=
  ⟨⟨wst fun d => d.upTs 0 false (fun y => { y with st := 2 }), 0, false, by simp only [Dev.corksFresh]; decide +kernel⟩,
    ⟨State.reset, 0, false, by simp only [Dev.corksFresh]; decide +kernel⟩,
    ⟨wst fun d => d.upTs 0 false (fun y => { y with lane := { y.lane with wait := [(⟨⟨0x18, [0], 0⟩, true, 0⟩ : UItem)], wk := { y.lane.wk with free := 1000000000 } } }), 0, false, ⟨⟨0x18, [0], 0⟩, true, 0⟩, (wst fun d => d.upTs 0 false (fun y => { y with lane := { y.lane with wait := [(⟨⟨0x18, [0], 0⟩, true, 0⟩ : UItem)], wk := { y.lane.wk with free := 1000000000 } } })).dev.upRun 0 false, (((wst fun d => d.upTs 0 false (fun y => { y with lane := { y.lane with wait := [(⟨⟨0x18, [0], 0⟩, true, 0⟩ : UItem)], wk := { y.lane.wk with free := 1000000000 } } })).dev.upRun 0 false).advance ((((⟨⟨0x18, [0], 0⟩, true, 0⟩ : UItem).at_ + 60000) / 6 : Nat) - (wst fun d => d.upTs 0 false (fun y => { y with lane := { y.lane with wait := [(⟨⟨0x18, [0], 0⟩, true, 0⟩ : UItem)], wk := { y.lane.wk with free := 1000000000 } } })).dev.fabOff).toNat).upRun 0 false, by simp only [Dev.corksFresh]; decide +kernel⟩,
    ⟨wst fun d => d.upTs 0 false (fun y => { y with lane := { y.lane with wait := [(⟨⟨0x18, [0], 0⟩, true, 0⟩ : UItem)], wk := { y.lane.wk with free := 30000 } } }), 0, false, ⟨⟨0x18, [0], 0⟩, true, 0⟩, (wst fun d => d.upTs 0 false (fun y => { y with lane := { y.lane with wait := [(⟨⟨0x18, [0], 0⟩, true, 0⟩ : UItem)], wk := { y.lane.wk with free := 30000 } } })).dev.upRun 0 false, (((wst fun d => d.upTs 0 false (fun y => { y with lane := { y.lane with wait := [(⟨⟨0x18, [0], 0⟩, true, 0⟩ : UItem)], wk := { y.lane.wk with free := 30000 } } })).dev.upRun 0 false).advance ((((⟨⟨0x18, [0], 0⟩, true, 0⟩ : UItem).at_ + 60000) / 6 : Nat) - (wst fun d => d.upTs 0 false (fun y => { y with lane := { y.lane with wait := [(⟨⟨0x18, [0], 0⟩, true, 0⟩ : UItem)], wk := { y.lane.wk with free := 30000 } } })).dev.fabOff).toNat).upRun 0 false, by simp only [Dev.corksFresh]; decide +kernel⟩,
    ⟨State.reset, 0, false, by simp only [Dev.corksFresh]; decide +kernel⟩⟩

theorem test_witness_tile_drive :
    (∃ (s : State) (t : Fin 64) (sd : Bool) (handle : Nat) (pidx : Fin 8) (p : TPulse), s.dev.corksFresh ∧ (s.dev.ts t sd).pulses.find? (fun p => p.handle == handle && p.pidx == pidx.val) = some p ∧ (s.dev.tle t).lease = some sd ∧ (s.dev.ts t sd).st = 3)
    ∧ (∃ (s : State) (t : Fin 64) (out : Fin 8) (cur : Nat) (v : Drive), s.dev.corksFresh ∧ (s.dev.to t out).drv = some v ∧ v.phase = .dec1 ∧ cur ≤ v.hold1)
    ∧ (∃ (s : State) (t : Fin 64) (out : Fin 8) (v : Drive) (lim : Int), s.dev.corksFresh ∧ (s.dev.to t out).drv = some v ∧ (v.phase = .peak ∨ v.phase = .hold1) ∧ v.limit = some lim ∧ lim < v.p.stop)
    ∧ (∃ (s : State) (t : Fin 64) (out : Fin 8) (v : Drive), s.dev.corksFresh ∧ (s.dev.to t out).drv = some v)
    ∧ (∃ (s : State) (t : Fin 64) (out : Fin 8) (cur : Nat) (x : Nat) (v : Drive), s.dev.corksFresh ∧ (s.dev.to t out).drv = some v ∧ v.level = some x ∧ x ≤ cur ∧ v.src = .supply)
    ∧ (∃ (s : State) (t : Fin 64) (out : Fin 8) (v : Drive), s.dev.corksFresh ∧ (s.dev.to t out).drv = some v ∧ v.phase ≠ .off)
    ∧ (∃ (s : State) (t : Fin 64) (out : Fin 8) (w : CWin), s.dev.corksFresh ∧ (s.dev.to t out).win = some w)
    ∧ (∃ (s : State) (t : Fin 64) (out : Fin 8) (cur : Nat) (v : Drive), s.dev.corksFresh ∧ (s.dev.to t out).drv = some v ∧ v.phase ≠ .off ∧ v.judged = false ∧ v.start + 12800 ≤ v.p.stop ∧ cur < v.p.fld 5 27 16)
    ∧ (∃ (s : State) (t : Fin 64) (out : Fin 8) (cur : Nat) (v : Drive), s.dev.corksFresh ∧ (s.dev.to t out).drv = some v ∧ v.phase ≠ .off ∧ v.judged = false ∧ v.start + 12800 ≤ v.p.stop ∧ v.p.fld 5 27 16 ≤ cur)
    ∧ (∃ (s : State) (t : Fin 64) (out : Fin 8) (v : Drive), s.dev.corksFresh ∧ (s.dev.to t out).drv = some v ∧ v.p.stop < v.start + 12800)
    ∧ (∃ (s : State) (t : Fin 64) (out : Fin 8) (cur : Nat) (v : Drive), s.dev.corksFresh ∧ (s.dev.to t out).drv = some v ∧ v.phase ≠ .off ∧ v.p.fld 5 11 0 ≤ cur) :=
  ⟨⟨wst fun d => d.setTle 0 { d.tle 0 with lease := some false } |>.upTs 0 false (fun y => { y with st := 3 }) |>.upTs 0 false (fun y => { y with pulses := [wpul] }), 0, false, 5, 2, wpul, by simp only [Dev.corksFresh]; decide +kernel⟩,
    ⟨wst fun d => d.upDrv 0 0 (wdrv .dec1), 0, 0, 0, wdrv .dec1, by simp only [Dev.corksFresh]; decide +kernel⟩,
    ⟨wst fun d => d.upDrv 0 0 ({ wdrv .peak with zero := false, p := { wpul with rcd := [0, 0, 0, 1, 0, 0, 0, 0] } }), 0, 0, { wdrv .peak with zero := false, p := { wpul with rcd := [0, 0, 0, 1, 0, 0, 0, 0] } }, 0, by simp only [Dev.corksFresh]; decide +kernel⟩,
    ⟨wst fun d => d.upDrv 0 0 (wdrv .peak), 0, 0, wdrv .peak, by simp only [Dev.corksFresh]; decide +kernel⟩,
    ⟨wst fun d => d.upDrv 0 0 (wdrv .peak), 0, 0, 0, 0, wdrv .peak, by simp only [Dev.corksFresh]; decide +kernel⟩,
    ⟨wst fun d => d.upDrv 0 0 (wdrv .peak), 0, 0, wdrv .peak, by simp only [Dev.corksFresh]; decide +kernel⟩,
    ⟨wst fun d => d.upTo 0 0 (fun y => { y with win := some (⟨false, 0, 0, 0, 0, 0⟩ : CWin) }), 0, 0, ⟨false, 0, 0, 0, 0, 0⟩, by simp only [Dev.corksFresh]; decide +kernel⟩,
    ⟨wst fun d => d.upDrv 0 0 ({ wdrv .peak with p := { wpul with rcd := [0, 0, 0, 0, 0, 65536, 0, 0] } }), 0, 0, 0, { wdrv .peak with p := { wpul with rcd := [0, 0, 0, 0, 0, 65536, 0, 0] } }, by simp only [Dev.corksFresh]; decide +kernel⟩,
    ⟨wst fun d => d.upDrv 0 0 (wdrv .peak), 0, 0, 0, wdrv .peak, by simp only [Dev.corksFresh]; decide +kernel⟩,
    ⟨wst fun d => d.upDrv 0 0 ({ wdrv .peak with p := { wpul with stop := 12799 } }), 0, 0, { wdrv .peak with p := { wpul with stop := 12799 } }, by simp only [Dev.corksFresh]; decide +kernel⟩,
    ⟨wst fun d => d.upDrv 0 0 (wdrv .peak), 0, 0, 0, wdrv .peak, by simp only [Dev.corksFresh]; decide +kernel⟩⟩

theorem test_witness_tile_protection :
    (∃ (s : State) (data : Nat), s.dev.corksFresh ∧ bits data 31 16 + bits data 15 0 = 0xFFFF)
    ∧ (∃ (s : State) (data : Nat), s.dev.corksFresh ∧ bits data 31 16 + bits data 15 0 ≠ 0xFFFF)
    ∧ (∃ (s : State) (t : Fin 64) (rail : Nat) (supply : Nat), s.dev.corksFresh ∧ rail ≤ supply + 40 ∧ (s.dev.tle t).stopped = false ∧ s.dev.boostEn t = true)
    ∧ (∃ (s : State) (t : Fin 64), s.dev.corksFresh ∧ (s.dev.tle t).inhl = false)
    ∧ (∃ (s : State) (t : Fin 64) (out : Fin 8), s.dev.corksFresh ∧ (s.dev.to t out).offPend = true ∧ (s.dev.to t out).drv = none ∧ (s.dev.to t out).win = none ∧ (s.dev.to t out).quiet + 4000 ≤ s.dev.now ∧ s.dev.offClear t false out = true ∧ s.dev.offClear t true out = true ∧ (s.dev.tle t).inhl = false)
    ∧ (∃ (s : State) (t : Fin 64) (out : Fin 8) (at_ : Int), s.dev.corksFresh ∧ (s.dev.to t out).offRun = some at_)
    ∧ (∃ (s : State) (t : Fin 64), s.dev.corksFresh ∧ (s.dev.tle t).inhp = true)
    ∧ (∃ (s : State) (t : Fin 64), s.dev.corksFresh ∧ (s.dev.tle t).inhp = false ∧ (s.dev.tle t).inhl = true ∧ (s.dev.tle t).quiet + 20000 ≤ s.dev.now) :=
  ⟨⟨State.reset, 0xFFFF, by simp only [Dev.corksFresh]; decide +kernel⟩,
    ⟨State.reset, 0, by simp only [Dev.corksFresh]; decide +kernel⟩,
    ⟨wst fun d => d.setTle 0 { d.tle 0 with stopped := false } |>.tput 0 false F.TDRV_BOOST_CTL_EN 1, 0, 0, 0, by simp only [Dev.corksFresh]; decide +kernel⟩,
    ⟨wst fun d => d.setTle 0 { d.tle 0 with inhl := false }, 0, by simp only [Dev.corksFresh]; decide +kernel⟩,
    ⟨wst fun d => d.upTo 0 0 (fun y => { y with offPend := true }) |>.upTo 0 0 (fun y => { y with drv := none }) |>.upTo 0 0 (fun y => { y with win := none }) |> fun d => d.setTle 0 { d.tle 0 with inhl := false } |> fun d => { d with now := 4000 }, 0, 0, by simp only [Dev.corksFresh]; decide +kernel⟩,
    ⟨wst fun d => d.upTo 0 0 (fun y => { y with offRun := some 0 }), 0, 0, 0, by simp only [Dev.corksFresh]; decide +kernel⟩,
    ⟨wst fun d => d.setTle 0 { d.tle 0 with inhp := true }, 0, by simp only [Dev.corksFresh]; decide +kernel⟩,
    ⟨wst fun d => d.setTle 0 { d.tle 0 with inhp := false } |> fun d => d.setTle 0 { d.tle 0 with inhl := true } |> fun d => { d with now := 20000 }, 0, by simp only [Dev.corksFresh]; decide +kernel⟩⟩

theorem test_witness_tile_leases :
    (∃ (s : State) (t : Fin 64), s.dev.corksFresh ∧ (s.dev.tle t).lease = none ∧ s.dev.tEligible t false = true)
    ∧ (∃ (s : State) (t : Fin 64), s.dev.corksFresh ∧ (s.dev.tle t).lease = none ∧ s.dev.tEligible t false = false ∧ s.dev.tEligible t true = true)
    ∧ (∃ (s : State) (t : Fin 64) (sd : Bool), s.dev.corksFresh ∧ (s.dev.tle t).lease = some sd)
    ∧ (∃ (s : State) (t : Fin 64) (sd : Bool), s.dev.corksFresh ∧ (s.dev.tle t).lease = some sd ∧ (s.dev.ts t sd).st < 3 ∧ (s.dev.leaseLose t sd 1).tEligible t (!sd) = true)
    ∧ (∃ (s : State) (t : Fin 64) (sd : Bool) (at_ : Int), s.dev.corksFresh ∧ (s.dev.tle t).lease = some sd ∧ (s.dev.ts t sd).yieldAt = some at_ ∧ (s.dev.reachTick t sd at_).tEligible t (!sd) = true)
    ∧ (∃ (s : State) (t : Fin 64) (sd : Bool) (at_ : Int), s.dev.corksFresh ∧ (s.dev.tle t).lease = some sd ∧ (s.dev.ts t sd).yieldAt = some at_ ∧ (s.dev.reachTick t sd at_).tEligible t (!sd) = false)
    ∧ (∃ (s : State) (t : Fin 64) (sd : Bool) (handle : Nat) (pidx : Fin 8) (p : TPulse), s.dev.corksFresh ∧ (s.dev.ts t sd).pulses.find? (fun p => p.handle == handle && p.pidx == pidx.val) = some p ∧ (s.dev.tle t).lease ≠ some sd) :=
  ⟨⟨wst fun d => d.setTle 0 { d.tle 0 with lease := none } |>.tput 0 false F.TILE_DUP_ELIG 1 |>.upTs 0 false (fun y => { y with st := 3, fresh := true }), 0, by simp only [Dev.corksFresh]; decide +kernel⟩,
    ⟨wst fun d => d.setTle 0 { d.tle 0 with lease := none } |>.tput 0 true F.TILE_DUP_ELIG 1 |>.upTs 0 true (fun y => { y with st := 3, fresh := true }), 0, by simp only [Dev.corksFresh]; decide +kernel⟩,
    ⟨wst fun d => d.setTle 0 { d.tle 0 with lease := some false }, 0, false, by simp only [Dev.corksFresh]; decide +kernel⟩,
    ⟨wst fun d => d.setTle 0 { d.tle 0 with lease := some false } |>.tput 0 true F.TILE_DUP_ELIG 1 |>.upTs 0 true (fun y => { y with st := 3, fresh := true }), 0, false, by simp only [Dev.corksFresh]; decide +kernel⟩,
    ⟨wst fun d => d.setTle 0 { d.tle 0 with lease := some false } |>.upTs 0 false (fun y => { y with yieldAt := some 0 }) |>.tput 0 true F.TILE_DUP_ELIG 1 |>.upTs 0 true (fun y => { y with st := 3, fresh := true }), 0, false, 0, by simp only [Dev.corksFresh]; decide +kernel⟩,
    ⟨wst fun d => d.setTle 0 { d.tle 0 with lease := some false } |>.upTs 0 false (fun y => { y with yieldAt := some 0 }), 0, false, 0, by simp only [Dev.corksFresh]; decide +kernel⟩,
    ⟨wst fun d => d.upTs 0 false (fun y => { y with pulses := [wpul] }), 0, false, 5, 2, wpul, by simp only [Dev.corksFresh]; decide +kernel⟩⟩

theorem test_witness_coil_channels :
    (∃ (s : State) (ch : Fin 512), s.coreRuns ∧ s.dev.get (F.CDT_CH_CFG_OFFT_CYC ch) ≠ 0 ∧ s.dev.get (F.CDT_CH_CFG_OFFT_CYC ch) ≤ (s.dev.cc ch).cyc)
    ∧ (∃ (s : State) (ch : Fin 512) (w : CdtWin) (r : List CdtWin), s.coreRuns ∧ (s.dev.cc ch).wins = w :: r ∧ w.gap = true)
    ∧ (∃ (s : State) (ch : Fin 512) (w : CdtWin) (r : List CdtWin), s.coreRuns ∧ (s.dev.cc ch).wins = w :: r ∧ w.gap = false ∧ w.done = some 0 ∧ kink (s.dev.detCfg ch) w.samples = .noKink)
    ∧ (∃ (s : State) (ch : Fin 512) (o : Occ) (p : OPulse), s.coreRuns ∧ s.dev.sch.occs = [o] ∧ o.pulses = [p] ∧ p.ch = ch ∧ p.clen = true ∧ p.status = none ∧ (s.dev.cc ch).begun.contains (o.uid, p.pidx) = false)
    ∧ (∃ (s : State), s.coreRuns ∧ (∀ ch, ch < 512 → s.dev.flag (F.CDT_CH_CFG_TEN ch) = false))
    ∧ (∃ (s : State), s.coreRuns ∧ s.dev.sch.occs = [])
    ∧ (∃ (s : State) (ch : Fin 512), s.coreRuns ∧ s.dev.abit (R.CDT_FOFF 0) ch = true)
    ∧ (∃ (s : State) (ch : Fin 512), s.coreRuns ∧ s.dev.abit (R.SCH_CHEN 0) ch = false ∧ s.dev.tilePresent (tileOfCh ch) = true ∧ s.dev.abit (R.CDT_FOFF 0) ch = false ∧ s.dev.flag (F.CDT_CH_STAT_BLK ch) = false ∧ (s.dev.freeHandle (tileOfCh ch / 4)).isSome = true) :=
  ⟨⟨wst fun d => d.put (F.CDT_CH_CFG_OFFT_CYC 0) 1 |> fun d => d.setCc 0 { d.cc 0 with cyc := 1 }, 0, by simp only [State.coreRuns, Dev.corksFresh]; decide +kernel⟩,
    ⟨wst fun d => d.setCc 0 { d.cc 0 with wins := (wwin true none) :: ([]) }, 0, wwin true none, [], by simp only [State.coreRuns, Dev.corksFresh]; decide +kernel⟩,
    ⟨wst fun d => d.setCc 0 { d.cc 0 with wins := (wwin false (some 0)) :: ([]) }, 0, wwin false (some 0), [], by simp only [State.coreRuns, Dev.corksFresh]; decide +kernel⟩,
    ⟨wst fun d => { d with sch := { d.sch with occs := [(wocc [{ wopu with clen := true }])] } }, 3, wocc [{ wopu with clen := true }], { wopu with clen := true }, by simp only [State.coreRuns, Dev.corksFresh]; decide +kernel⟩,
    ⟨State.reset, by simp only [State.coreRuns, Dev.corksFresh]; decide +kernel⟩,
    ⟨State.reset, by simp only [State.coreRuns, Dev.corksFresh]; decide +kernel⟩,
    ⟨wst fun d => d.setAbit (R.CDT_FOFF 0) 511 true, 511, by simp only [State.coreRuns, Dev.corksFresh]; decide +kernel⟩,
    ⟨wst fun d => d.put (F.CDT_CH_STAT_BLK 0) 0 |>.setAbit (R.TLK_ATTACHED 0) 0 true |>.put (F.PWR_DOM_STAT_STATE 1) 2, 0, by simp only [State.coreRuns, Dev.corksFresh]; decide +kernel⟩⟩

theorem test_witness_mirror_frames :
    (∃ (s : State) (f : MirHello), s.coreRuns ∧ f.ok = true ∧ s.dev.mirTakes f.seq)
    ∧ (∃ (s : State) (seq : Nat), s.coreRuns ∧ s.dev.mirState = 5 ∧ s.dev.mirTakes seq ∧ (∀ r, s.dev.mir.rx = some r → (seq % 256 + 256 - r) % 256 < 128))
    ∧ (∃ (s : State) (seq : Nat), s.coreRuns ∧ s.dev.mirTakes seq)
    ∧ (∃ (s : State) (seq : Nat), s.coreRuns ∧ s.dev.mirState = 5 ∧ s.dev.mirTakes seq ∧ s.dev.silent = false ∧ s.dev.mir.tx < 256)
    ∧ (∃ (s : State) (seq : Nat), s.coreRuns ∧ s.dev.mirState = 5 ∧ s.dev.mirTakes seq ∧ s.dev.mir.echo = [])
    ∧ (∃ (s : State) (seq : Nat) (f : MirTooth), s.coreRuns ∧ s.dev.mirTakes seq ∧ (s.dev.mirSeen seq).follows f.trk = true)
    ∧ (∃ (s : State) (seq : Nat) (f : MirDecide), s.coreRuns ∧ s.dev.mirTakes seq ∧ (s.dev.mirSeen seq).follows f.mach = true)
    ∧ (∃ (s : State) (seq : Nat), s.coreRuns ∧ s.dev.mirTakes seq ∧ (s.dev.mirSeen seq).following = true)
    ∧ (∃ (s : State) (seq : Nat), s.coreRuns ∧ s.dev.mirState = 5 ∧ s.dev.mirTakes seq ∧ s.dev.mir.own = [])
    ∧ (∃ (s : State) (seq : Nat) (chunk : Nat) (nchunk : Nat) (cyc : Nat) (k : Fin 16) (words : List Nat) (x : Dev) (got : List (Nat × List Nat)), s.coreRuns ∧ s.dev.mirTakes seq ∧ s.dev.mirSeen seq = x ∧ x.mirState = 4 ∧ x.mir.held = true ∧ x.mir.applied.contains k.val = false ∧ (x.snap k).part = some (cyc % 2 ^ 32, got) ∧ (insChunk (chunk, words) got).length < nchunk)
    ∧ (∃ (s : State) (seq : Nat) (chunk : Nat) (nchunk : Nat) (cyc : Nat) (k : Fin 16) (words : List Nat) (x : Dev) (got : List (Nat × List Nat)), s.coreRuns ∧ s.dev.mirTakes seq ∧ s.dev.mirSeen seq = x ∧ x.mirState = 4 ∧ x.mir.held = true ∧ x.mir.applied.contains k.val = false ∧ (x.snap k).part = some (cyc % 2 ^ 32, got) ∧ nchunk ≤ (insChunk (chunk, words) got).length)
    ∧ (∃ (s : State) (seq : Nat) (cyc : Nat) (k : Fin 16) (x : Dev), s.coreRuns ∧ s.dev.mirTakes seq ∧ s.dev.mirSeen seq = x ∧ x.mirState = 4 ∧ x.mir.held = true ∧ x.mir.applied.contains k.val = false ∧ (x.snap k).part = none ∧ (x.snapCut k (cyc % 2 ^ 32)).isSome = true)
    ∧ (∃ (s : State) (seq : Nat), s.coreRuns ∧ s.dev.mirState = 5 ∧ s.dev.mirTakes seq ∧ s.dev.mir.tk = none)
    ∧ (∃ (s : State) (seq : Nat), s.coreRuns ∧ s.dev.mirState = 6 ∧ s.dev.mirTakes seq ∧ (∀ r, s.dev.mir.rx = some r → (r + 1) % 256 = seq % 256) ∧ s.dev.mir.tk = none)
    ∧ (∃ (s : State), s.coreRuns ∧ s.dev.mirState ≠ 0) :=
  ⟨⟨wst fun d => d.put F.MIR_STAT_STATE 5 |>.upMir (fun y => { y with rx := none }), ⟨true, 0, 1, 2, false, false, 0, 0, 0, 0, 1⟩, by simp only [State.coreRuns, Dev.corksFresh, Dev.mirTakes]; decide +kernel⟩,
    ⟨wst fun d => d.put F.MIR_STAT_STATE 5 |>.upMir (fun y => { y with rx := none }), 0, by simp only [State.coreRuns, Dev.corksFresh, Dev.mirTakes]; decide +kernel⟩,
    ⟨wst fun d => d.put F.MIR_STAT_STATE 5 |>.upMir (fun y => { y with rx := none }), 0, by simp only [State.coreRuns, Dev.corksFresh, Dev.mirTakes]; decide +kernel⟩,
    ⟨wst fun d => d.put F.MIR_STAT_STATE 5 |>.upMir (fun y => { y with rx := none }), 0, by simp only [State.coreRuns, Dev.corksFresh, Dev.mirTakes]; decide +kernel⟩,
    ⟨wst fun d => d.put F.MIR_STAT_STATE 5 |>.upMir (fun y => { y with rx := none }) |>.upMir (fun y => { y with echo := [] }), 0, by simp only [State.coreRuns, Dev.corksFresh, Dev.mirTakes]; decide +kernel⟩,
    ⟨wst fun d => d.put F.MIR_STAT_STATE 5 |>.upMir (fun y => { y with rx := none }) |>.put F.MIR_STAT_STATE 6, 0, ⟨0, 0, false, false, true, 5, 0, 1, 0, 0, 0⟩, by simp only [State.coreRuns, Dev.corksFresh, Dev.mirTakes]; decide +kernel⟩,
    ⟨wst fun d => d.put F.MIR_STAT_STATE 5 |>.upMir (fun y => { y with rx := none }) |>.put F.MIR_STAT_STATE 6, 0, ⟨0, 0, false, false, 0, false, 0, 0, 0, 0, 0, 0, 0, 0⟩, by simp only [State.coreRuns, Dev.corksFresh, Dev.mirTakes]; decide +kernel⟩,
    ⟨wst fun d => d.put F.MIR_STAT_STATE 5 |>.upMir (fun y => { y with rx := none }) |>.put F.MIR_STAT_STATE 6, 0, by simp only [State.coreRuns, Dev.corksFresh, Dev.mirTakes]; decide +kernel⟩,
    ⟨wst fun d => d.put F.MIR_STAT_STATE 5 |>.upMir (fun y => { y with rx := none }) |>.upMir (fun y => { y with own := [] }), 0, by simp only [State.coreRuns, Dev.corksFresh, Dev.mirTakes]; decide +kernel⟩,
    ⟨wst fun d => d.put F.MIR_STAT_STATE 5 |>.upMir (fun y => { y with rx := none }) |> fun d => d.upMir (fun y => { y with held := true }) |>.put F.MIR_STAT_STATE 4 |> fun d => d.setSnap 0 { d.snap 0 with part := some (0, [(1, [])]) }, 0, 0, 3, 0, 0, [], (wst fun d => d.put F.MIR_STAT_STATE 5 |>.upMir (fun y => { y with rx := none }) |> fun d => d.upMir (fun y => { y with held := true }) |>.put F.MIR_STAT_STATE 4 |> fun d => d.setSnap 0 { d.snap 0 with part := some (0, [(1, [])]) }).dev.mirSeen 0, [(1, [])], by simp only [State.coreRuns, Dev.corksFresh, Dev.mirTakes]; decide +kernel⟩,
    ⟨wst fun d => d.put F.MIR_STAT_STATE 5 |>.upMir (fun y => { y with rx := none }) |> fun d => d.upMir (fun y => { y with held := true }) |>.put F.MIR_STAT_STATE 4 |> fun d => d.setSnap 0 { d.snap 0 with part := some (0, [(1, [])]) }, 0, 0, 2, 0, 0, [], (wst fun d => d.put F.MIR_STAT_STATE 5 |>.upMir (fun y => { y with rx := none }) |> fun d => d.upMir (fun y => { y with held := true }) |>.put F.MIR_STAT_STATE 4 |> fun d => d.setSnap 0 { d.snap 0 with part := some (0, [(1, [])]) }).dev.mirSeen 0, [(1, [])], by simp only [State.coreRuns, Dev.corksFresh, Dev.mirTakes]; decide +kernel⟩,
    ⟨wst fun d => d.put F.MIR_STAT_STATE 5 |>.upMir (fun y => { y with rx := none }) |> fun d => d.upMir (fun y => { y with held := true }) |>.put F.MIR_STAT_STATE 4 |> fun d => d.setSnap 0 { d.snap 0 with held := [⟨0, 0, false, false, true, 5, 0, 1, 0, 0, 0⟩] }, 0, 0, 0, (wst fun d => d.put F.MIR_STAT_STATE 5 |>.upMir (fun y => { y with rx := none }) |> fun d => d.upMir (fun y => { y with held := true }) |>.put F.MIR_STAT_STATE 4 |> fun d => d.setSnap 0 { d.snap 0 with held := [⟨0, 0, false, false, true, 5, 0, 1, 0, 0, 0⟩] }).dev.mirSeen 0, by simp only [State.coreRuns, Dev.corksFresh, Dev.mirTakes]; decide +kernel⟩,
    ⟨wst fun d => d.put F.MIR_STAT_STATE 5 |>.upMir (fun y => { y with rx := none }) |>.upMir (fun y => { y with tk := none }), 0, by simp only [State.coreRuns, Dev.corksFresh, Dev.mirTakes]; decide +kernel⟩,
    ⟨wst fun d => d.put F.MIR_STAT_STATE 6 |>.put F.MIR_STAT_STATE 5 |>.upMir (fun y => { y with rx := none }) |>.upMir (fun y => { y with tk := none }) |>.put F.MIR_STAT_STATE 6, 0, by simp only [State.coreRuns, Dev.corksFresh, Dev.mirTakes]; decide +kernel⟩,
    ⟨wst fun d => d.put F.MIR_STAT_STATE 1, by simp only [State.coreRuns, Dev.corksFresh]; decide +kernel⟩⟩

theorem test_witness_mirror_roles :
    (∃ (s : State), s.coreRuns ∧ s.dev.flag F.MIR_STAT_PARTNER = false)
    ∧ (∃ (s : State), s.coreRuns ∧ s.dev.mirState = 6 ∧ s.dev.flag F.MIR_STAT_PARTNER = true)
    ∧ (∃ (s : State), s.coreRuns ∧ s.dev.flag F.MIR_STAT_PARTNER = true ∧ s.dev.mirState = 5 ∧ s.dev.mir.tk = none)
    ∧ (∃ (s : State), s.coreRuns ∧ s.dev.mirState = 5 ∧ s.dev.silent = false ∧ s.dev.mir.tx < 256)
    ∧ (∃ (s : State), s.coreRuns ∧ s.dev.mirState ≠ 0 ∧ s.dev.silent = false ∧ s.dev.mir.tx < 256)
    ∧ (∃ (s : State), s.coreRuns ∧ s.dev.mirState = 6 ∧ 307 < (s.dev.geti F.MIR_OFS_OFS).natAbs)
    ∧ (∃ (s : State), s.coreRuns ∧ s.dev.mirState = 1 ∧ s.dev.flag F.MIR_STAT_PARTNER = false)
    ∧ (∃ (s : State), s.coreRuns ∧ s.dev.mirState = 4 ∧ s.dev.flag F.MIR_STAT_ALIGNED = true ∧ s.dev.checked 0 = true ∧ s.dev.mir.applied = [])
    ∧ (∃ (s : State), s.coreRuns ∧ s.dev.flag F.MIR_CTL_EN = false)
    ∧ (∃ (s : State), s.coreRuns ∧ s.dev.flag F.MIR_CTL_EN = true)
    ∧ (∃ (s : State), s.coreRuns ∧ s.dev.flag F.MIR_CTL_EN = true ∧ s.dev.mirState = 6)
    ∧ (∃ (s : State), s.coreRuns ∧ s.dev.mir.tk = none ∧ s.dev.flag F.MIR_STAT_PARTNER = true ∧ s.dev.mirState = 6)
    ∧ (∃ (s : State), s.coreRuns ∧ s.dev.mir.tk = none ∧ s.dev.flag F.MIR_STAT_PARTNER = true ∧ s.dev.mirState = 5 ∧ s.dev.get F.MIR_STAT_PSTATE = 6)
    ∧ (∃ (s : State), s.coreRuns ∧ s.dev.mir.tk = none ∧ s.dev.flag F.MIR_STAT_PARTNER = false)
    ∧ (∃ (s : State) (tat : Nat) (x : Dev), s.coreRuns ∧ s.dev.mir.tk = some (some true, tat) ∧ ((s.start.advance tat).put F.MIR_TK_STAT_RESULT (if (s.start.advance tat).get F.MIR_TK_STAT_NREF = 0 then 2 else 3)).upMir (fun m => { m with tk := none }) = x ∧ x.mirState = 5)
    ∧ (∃ (s : State) (tat : Nat) (x : Dev), s.coreRuns ∧ s.dev.mir.tk = some (some false, tat) ∧ ((s.start.advance tat).put F.MIR_TK_STAT_RESULT (if (s.start.advance tat).get F.MIR_TK_STAT_NREF = 0 then 2 else 3)).upMir (fun m => { m with tk := none }) = x ∧ x.mirState = 6)
    ∧ (∃ (s : State), s.coreRuns ∧ s.dev.flag F.MIR_STAT_LOCK0 = false ∧ s.dev.flag F.MIR_STAT_LOCK1 = false)
    ∧ (∃ (s : State), s.coreRuns ∧ s.dev.flag F.MIR_STAT_LOCK0 = true ∧ s.dev.flag F.MIR_STAT_LOCK1 = true) :=
  ⟨⟨wst fun d => d.put F.MIR_STAT_PARTNER 0, by simp only [State.coreRuns, Dev.corksFresh]; decide +kernel⟩,
    ⟨wst fun d => d.put F.MIR_STAT_STATE 6 |>.put F.MIR_STAT_PARTNER 1, by simp only [State.coreRuns, Dev.corksFresh]; decide +kernel⟩,
    ⟨wst fun d => d.put F.MIR_STAT_PARTNER 1 |>.put F.MIR_STAT_STATE 5 |>.upMir (fun y => { y with tk := none }), by simp only [State.coreRuns, Dev.corksFresh]; decide +kernel⟩,
    ⟨wst fun d => d.put F.MIR_STAT_STATE 5, by simp only [State.coreRuns, Dev.corksFresh]; decide +kernel⟩,
    ⟨wst fun d => d.put F.MIR_STAT_STATE 1, by simp only [State.coreRuns, Dev.corksFresh]; decide +kernel⟩,
    ⟨wst fun d => d.put F.MIR_STAT_STATE 6 |>.put F.MIR_OFS_OFS 308, by simp only [State.coreRuns, Dev.corksFresh]; decide +kernel⟩,
    ⟨wst fun d => d.put F.MIR_STAT_STATE 1 |>.put F.MIR_STAT_PARTNER 0, by simp only [State.coreRuns, Dev.corksFresh]; decide +kernel⟩,
    ⟨wst fun d => d.put F.MIR_STAT_STATE 4 |>.put F.MIR_STAT_ALIGNED 1 |>.upMir (fun y => { y with applied := [] }) |>.put (F.SCH_TRK_CTL_EN 0) 1, by simp only [State.coreRuns, Dev.corksFresh]; decide +kernel⟩,
    ⟨wst fun d => d.put F.MIR_CTL_EN 0, by simp only [State.coreRuns, Dev.corksFresh]; decide +kernel⟩,
    ⟨wst fun d => d.put F.MIR_CTL_EN 1, by simp only [State.coreRuns, Dev.corksFresh]; decide +kernel⟩,
    ⟨wst fun d => d.put F.MIR_CTL_EN 1 |>.put F.MIR_STAT_STATE 6, by simp only [State.coreRuns, Dev.corksFresh]; decide +kernel⟩,
    ⟨wst fun d => d.upMir (fun y => { y with tk := none }) |>.put F.MIR_STAT_PARTNER 1 |>.put F.MIR_STAT_STATE 6, by simp only [State.coreRuns, Dev.corksFresh]; decide +kernel⟩,
    ⟨wst fun d => d.upMir (fun y => { y with tk := none }) |>.put F.MIR_STAT_PARTNER 1 |>.put F.MIR_STAT_STATE 5 |>.put F.MIR_STAT_PSTATE 6, by simp only [State.coreRuns, Dev.corksFresh]; decide +kernel⟩,
    ⟨wst fun d => d.upMir (fun y => { y with tk := none }) |>.put F.MIR_STAT_PARTNER 0, by simp only [State.coreRuns, Dev.corksFresh]; decide +kernel⟩,
    ⟨wst fun d => d.upMir (fun y => { y with tk := some (some true, 0) }) |> fun d => d.upMir (fun y => { y with tk := some (true, 0) }) |>.put F.MIR_STAT_STATE 5, 0, (((wst fun d => d.upMir (fun y => { y with tk := some (some true, 0) }) |> fun d => d.upMir (fun y => { y with tk := some (true, 0) }) |>.put F.MIR_STAT_STATE 5).dev.advance 0).put F.MIR_TK_STAT_RESULT 2).upMir (fun m => { m with tk := none }), by simp only [State.coreRuns, Dev.corksFresh]; decide +kernel⟩,
    ⟨wst fun d => d.upMir (fun y => { y with tk := some (some false, 0) }) |> fun d => d.upMir (fun y => { y with tk := some (some false, 0) }) |>.put F.MIR_STAT_STATE 6, 0, (((wst fun d => d.upMir (fun y => { y with tk := some (some false, 0) }) |> fun d => d.upMir (fun y => { y with tk := some (some false, 0) }) |>.put F.MIR_STAT_STATE 6).dev.advance 0).put F.MIR_TK_STAT_RESULT 2).upMir (fun m => { m with tk := none }), by simp only [State.coreRuns, Dev.corksFresh]; decide +kernel⟩,
    ⟨wst fun d => d.put F.MIR_STAT_LOCK0 0 |>.put F.MIR_STAT_LOCK1 0, by simp only [State.coreRuns, Dev.corksFresh]; decide +kernel⟩,
    ⟨wst fun d => d.put F.MIR_STAT_LOCK0 1 |>.put F.MIR_STAT_LOCK1 1, by simp only [State.coreRuns, Dev.corksFresh]; decide +kernel⟩⟩

theorem test_witness_doorbells_and_fetch :
    (∃ (off : Nat), off % 0x100 ≠ 0 ∧ off % 0x100 ≠ 4 ∧ off % 0x100 ≠ 8)
    ∧ (∃ (size : Nat), size < 4)
    ∧ (∃ (s : State) (n : Fin 256) (value : Nat) (x : Sq), s.coreRuns ∧ s.dev.bar2 = true ∧ s.dev.sq? n = some x ∧ value < x.size ∧ value < 2 ^ 32)
    ∧ (∃ (s : State) (n : Fin 256) (value : Nat) (x : Sq), s.coreRuns ∧ s.dev.bar2 = true ∧ s.dev.sq? n = some x ∧ x.size ≤ value ∧ value < 2 ^ 32)
    ∧ (∃ (s : State) (n : Fin 256) (value : Nat) (c : Cq), s.coreRuns ∧ s.dev.bar2 = true ∧ s.dev.cq? n = some c ∧ value < c.size ∧ value < 2 ^ 32 ∧ (value + c.size - c.head) % c.size ≤ c.held)
    ∧ (∃ (s : State) (n : Fin 256), s.coreRuns ∧ s.dev.bar2 = true ∧ s.dev.cq? n = none)
    ∧ (∃ (s : State) (n : Fin 8) (value : Nat), s.coreRuns ∧ s.dev.bar2 = true ∧ s.dev.flag (F.STM_CFG_EN n) = true ∧ value < s.dev.stmSize n ∧ value < 2 ^ 32 ∧ (value + s.dev.stmSize n - (s.dev.stmOf n).rp) % s.dev.stmSize n ≤ ((s.dev.stmOf n).wp + s.dev.stmSize n - (s.dev.stmOf n).rp) % s.dev.stmSize n)
    ∧ (∃ (s : State) (n : Fin 256) (entry : List Nat) (x : Sq), s.coreRuns ∧ s.dev.sq? n = some x ∧ s.dev.fetching = true ∧ x.stuck = none ∧ x.head ≠ x.tail ∧ x.ents = [] ∧ (s.start.caskIn 0 n (entry16 entry)).isSome = true)
    ∧ (∃ (s : State) (n : Fin 256) (entry : List Nat) (x : Sq), s.coreRuns ∧ s.dev.sq? n = some x ∧ s.dev.fetching = true ∧ x.stuck = none ∧ x.head ≠ x.tail ∧ x.ents = [] ∧ s.start.caskIn 0 n (entry16 entry) = none)
    ∧ (∃ (s : State) (n : Fin 256) (w : List Nat) (x : Sq), s.coreRuns ∧ s.dev.sq? n = some x ∧ s.dev.flag F.HIF_CTL_EN = true ∧ s.dev.domUp 6 = true ∧ x.stuck = some w ∧ x.stuckAt + 400 ≤ s.dev.fab ∧ (s.start.caskIn 0 n w).isSome = true)
    ∧ (∃ (s : State) (n : Fin 256) (x : Sq), s.coreRuns ∧ s.dev.sq? n = some x ∧ x.stuck.isSome = true)
    ∧ (∃ (s : State) (cq : Fin 256) (c : Cq) (e : Cpl) (r : List Cpl), s.coreRuns ∧ s.dev.cq? cq = some c ∧ c.wait = e :: r ∧ c.full = false ∧ c.closing = false ∧ s.dev.pcieGo = true ∧ e.data = [] ∧ c.tail + 1 < c.size ∧ c.unsig + 1 < c.cthr)
    ∧ (∃ (s : State) (cq : Fin 256) (c : Cq), s.coreRuns ∧ s.dev.cq? cq = some c ∧ c.ctime ≠ 0 ∧ c.unsig ≠ 0)
    ∧ (∃ (s : State) (cq : Fin 256) (c : Cq), s.coreRuns ∧ s.dev.cq? cq = some c ∧ c.full = true) :=
  ⟨⟨0xC, by decide +kernel⟩,
    ⟨0, by decide +kernel⟩,
    ⟨wst fun d => d.put (F.PWR_DOM_STAT_STATE 6) 2 |>.put F.HIF_STAT_LINKUP 1 |>.setSq 0 wsq, 0, 0, wsq, by simp only [State.coreRuns, Dev.corksFresh]; decide +kernel⟩,
    ⟨wst fun d => d.put (F.PWR_DOM_STAT_STATE 6) 2 |>.put F.HIF_STAT_LINKUP 1 |>.setSq 0 wsq, 0, 16, wsq, by simp only [State.coreRuns, Dev.corksFresh]; decide +kernel⟩,
    ⟨wst fun d => d.put (F.PWR_DOM_STAT_STATE 6) 2 |>.put F.HIF_STAT_LINKUP 1 |>.setCq 0 wcq, 0, 0, wcq, by simp only [State.coreRuns, Dev.corksFresh]; decide +kernel⟩,
    ⟨wst fun d => d.put (F.PWR_DOM_STAT_STATE 6) 2 |>.put F.HIF_STAT_LINKUP 1, 0, by simp only [State.coreRuns, Dev.corksFresh]; decide +kernel⟩,
    ⟨wst fun d => d.put (F.PWR_DOM_STAT_STATE 6) 2 |>.put F.HIF_STAT_LINKUP 1 |>.put (F.STM_CFG_EN 0) 1, 0, 0, by simp only [State.coreRuns, Dev.corksFresh]; decide +kernel⟩,
    ⟨wst fun d => d.setSq 0 ({ wsq with tail := 1 }) |>.put (F.PWR_DOM_STAT_STATE 6) 2 |>.put F.HIF_STAT_LINKUP 1 |>.put F.HIF_CTL_EN 1 |>.upQmg (fun q => { q with qcfg := [(0, 0x00800010)] }), 0, [], { wsq with tail := 1 }, by simp only [State.coreRuns, Dev.corksFresh]; decide +kernel⟩,
    ⟨wst fun d => d.setSq 0 ({ wsq with tail := 1 }) |>.put (F.PWR_DOM_STAT_STATE 6) 2 |>.put F.HIF_STAT_LINKUP 1 |>.put F.HIF_CTL_EN 1, 0, [], { wsq with tail := 1 }, by simp only [State.coreRuns, Dev.corksFresh]; decide +kernel⟩,
    ⟨wst fun d => d.setSq 0 ({ wsq with tail := 1, stuck := some [] }) |>.put F.HIF_CTL_EN 1 |>.put (F.PWR_DOM_STAT_STATE 6) 2 |>.upQmg (fun q => { q with qcfg := [(0, 0x00800010)] }) |> fun d => { d with fab := 100000000000 }, 0, [], { wsq with tail := 1, stuck := some [] }, by simp only [State.coreRuns, Dev.corksFresh]; decide +kernel⟩,
    ⟨wst fun d => d.setSq 0 ({ wsq with stuck := some [] }), 0, { wsq with stuck := some [] }, by simp only [State.coreRuns, Dev.corksFresh]; decide +kernel⟩,
    ⟨wst fun d => d.setCq 0 ({ wcq with wait := [wcpl] }) |>.put (F.PWR_DOM_STAT_STATE 6) 2 |>.put F.HIF_STAT_LINKUP 1, 0, { wcq with wait := [wcpl] }, wcpl, [], by simp only [State.coreRuns, Dev.corksFresh]; decide +kernel⟩,
    ⟨wst fun d => d.setCq 0 ({ wcq with ctime := 1, unsig := 1 }), 0, { wcq with ctime := 1, unsig := 1 }, by simp only [State.coreRuns, Dev.corksFresh]; decide +kernel⟩,
    ⟨wst fun d => d.setCq 0 ({ wcq with tail := 15 }), 0, { wcq with tail := 15 }, by simp only [State.coreRuns, Dev.corksFresh]; decide +kernel⟩⟩

theorem test_witness_opcodes_of_the_host :
    (∃ (s : State) (h : CmdHdr) (x : Sq) (e : Ent), s.coreRuns ∧ s.dev.opTakes h 0 true [] x e)
    ∧ (∃ (s : State) (h : CmdHdr) (x : Sq) (e : Ent), s.coreRuns ∧ s.dev.opTakes h 1 true [] x e)
    ∧ (∃ (s : State) (h : CmdHdr) (x : Sq) (e : Ent) (off : Nat), s.coreRuns ∧ s.dev.opTakes h 2 false [par 0 off, par 1 1] x e ∧ off % 4 = 0 ∧ off + 4 ≤ 2 ^ 25 ∧ (s.start.opStart h 2 x).offAt off = false)
    ∧ (∃ (s : State) (h : CmdHdr) (x : Sq) (e : Ent) (off : Nat) (cnt : Nat) (data : List Nat), s.coreRuns ∧ s.dev.opTakes h 3 true (par 0 off :: par 1 cnt :: if cnt ≤ 9 then parWords 2 (padWords cnt data) else []) x e ∧ 1 ≤ cnt ∧ cnt ≤ 9 ∧ off % 4 = 0 ∧ off + 4 * cnt ≤ 2 ^ 25)
    ∧ (∃ (s : State) (h : CmdHdr) (x : Sq) (e : Ent) (off : Nat) (value : Nat), s.coreRuns ∧ s.dev.opTakes h 4 true [par 0 off, par 1 value] x e ∧ off < 2 ^ 25 ∧ corkPlace off false = true)
    ∧ (∃ (s : State) (h : CmdHdr) (x : Sq) (e : Ent) (bank : Bool) (idx : Nat) (cnt : Nat), s.coreRuns ∧ s.dev.opTakes h 5 true [parBits 0 13 13 (b2n bank), parBits 0 12 0 idx, par 1 cnt] x e ∧ h.src < 256 ∧ 1 ≤ cnt ∧ idx + cnt ≤ 8192 ∧ 32 * cnt ≤ h.dlen)
    ∧ (∃ (s : State) (h : CmdHdr) (x : Sq) (e : Ent) (bank : Bool) (idx : Nat) (cnt : Nat), s.coreRuns ∧ s.dev.opTakes h 6 true [parBits 0 13 13 (b2n bank), parBits 0 12 0 idx, par 1 cnt] x e ∧ 1 ≤ cnt ∧ idx + cnt ≤ 8192 ∧ 32 * cnt ≤ h.dlen)
    ∧ (∃ (s : State) (h : CmdHdr) (x : Sq) (e : Ent) (grp : Nat), s.coreRuns ∧ s.dev.opTakes h 7 true [parBits 0 7 0 grp] x e ∧ grp % 256 ≠ 0 ∧ (s.start.opStart h 7 x).following = false ∧ (s.start.opStart h 7 x).strobeBusy (grp % 256) = false)
    ∧ (∃ (s : State) (h : CmdHdr) (x : Sq) (e : Ent), s.coreRuns ∧ s.dev.opTakes h 8 true [] x e ∧ h.src < 256 ∧ (s.start.opStart h 8 x).get F.SYS_UPD_PEND_GRP_PEND = 0 ∧ (s.start.opStart h 8 x).following = false)
    ∧ (∃ (s : State) (h : CmdHdr) (x : Sq) (e : Ent) (off : Nat), s.coreRuns ∧ s.dev.opTakes h 9 true [par 0 off, parBits 1 0 0 (b2n false)] x e ∧ h.src < 256 ∧ off + h.dlen ≤ 2 ^ 20)
    ∧ (∃ (s : State) (h : CmdHdr) (x : Sq) (e : Ent) (idx : Nat) (cnt : Nat), s.coreRuns ∧ s.dev.opTakes h 0xA true [par 0 idx, par 1 cnt] x e ∧ 1 ≤ cnt ∧ cnt ≤ 16384 ∧ 32 * cnt ≤ h.dlen)
    ∧ (∃ (s : State) (h : CmdHdr) (x : Sq) (e : Ent) (mach : Fin 16) (dem : Nat) (tag : Nat), s.coreRuns ∧ s.dev.opTakes h 0xB true [parBits 0 3 0 mach, parBits 1 16 0 dem, parBits 2 8 8 (b2n false), parBits 2 7 0 tag] x e)
    ∧ (∃ (s : State) (h : CmdHdr) (x : Sq) (e : Ent) (k : Fin 16) (ang : Nat) (t : Int), s.coreRuns ∧ s.dev.opTakes h 0xC true [parBits 0 3 0 k, parBits 1 23 0 ang] x e ∧ (s.start.opStart h 0xC x).queryRes k (ang % 2 ^ 24) = .time t)
    ∧ (∃ (s : State) (h : CmdHdr) (x : Sq) (e : Ent) (n : Fin 16) (p : Fin 4) (addr : Nat), s.coreRuns ∧ s.dev.opTakes h 0xD true [parBits 0 3 0 n, parBits 0 9 8 p, par 1 addr] x e ∧ (s.start.opStart h 0xD x).tileStop n p = none ∧ (s.start.opStart h 0xD x).tileSilent n p true = false)
    ∧ (∃ (s : State) (h : CmdHdr) (x : Sq) (e : Ent) (n : Fin 16) (p : Fin 4) (addr : Nat) (data : Nat), s.coreRuns ∧ s.dev.opTakes h 0xE true [parBits 0 3 0 n, parBits 0 9 8 p, par 1 addr, par 2 data] x e ∧ (s.start.opStart h 0xE x).tileStop n p = none ∧ (s.start.opStart h 0xE x).tileSilent n p false = false ∧ ((s.start.opStart h 0xE x).ts (tileNo n p) (s.start.opStart h 0xE x).mySide).st ≠ 0)
    ∧ (∃ (s : State) (h : CmdHdr) (x : Sq) (e : Ent) (off : Nat), s.coreRuns ∧ s.dev.opTakes h 0xF true [par 0 off] x e ∧ coreMem off h.dlen = true)
    ∧ (∃ (s : State) (h : CmdHdr) (x : Sq) (e : Ent) (off : Nat), s.coreRuns ∧ s.dev.opTakes h 0x10 true [par 0 off] x e ∧ coreMem off h.dlen = true) :=
  ⟨⟨wst fun d => d.setSq whdr.src wsq |>.setCq 1 wcq |>.put (F.PWR_DOM_STAT_STATE 6) 2 |>.put F.HIF_STAT_LINKUP 1, whdr, wsq, wsq.freshEnt 0 whdr, by simp only [State.coreRuns, Dev.corksFresh, Dev.opTakes]; decide +kernel⟩,
    ⟨wst fun d => d.setSq whdr.src wsq |>.setCq 1 wcq |>.put (F.PWR_DOM_STAT_STATE 6) 2 |>.put F.HIF_STAT_LINKUP 1, whdr, wsq, wsq.freshEnt 1 whdr, by simp only [State.coreRuns, Dev.corksFresh, Dev.opTakes]; decide +kernel⟩,
    ⟨wst fun d => d.setSq whdr.src wsq |>.setCq 1 wcq |>.put (F.PWR_DOM_STAT_STATE 6) 2 |>.put F.HIF_STAT_LINKUP 1, whdr, wsq, wsq.freshEnt 2 whdr, 0x48, by simp only [State.coreRuns, Dev.corksFresh, Dev.opTakes]; decide +kernel⟩,
    ⟨wst fun d => d.setSq whdr.src wsq |>.setCq 1 wcq |>.put (F.PWR_DOM_STAT_STATE 6) 2 |>.put F.HIF_STAT_LINKUP 1, whdr, wsq, wsq.freshEnt 3 whdr, 0x48, 9, [], by simp only [State.coreRuns, Dev.corksFresh, Dev.opTakes]; decide +kernel⟩,
    ⟨wst fun d => d.setSq whdr.src wsq |>.setCq 1 wcq |>.put (F.PWR_DOM_STAT_STATE 6) 2 |>.put F.HIF_STAT_LINKUP 1, whdr, wsq, wsq.freshEnt 4 whdr, 0xE2000, 0, by simp only [State.coreRuns, Dev.corksFresh, Dev.opTakes]; decide +kernel⟩,
    ⟨wst fun d => d.setSq whdr.src wsq |>.setCq 1 wcq |>.put (F.PWR_DOM_STAT_STATE 6) 2 |>.put F.HIF_STAT_LINKUP 1, whdr, wsq, wsq.freshEnt 5 whdr, false, 0, 128, by simp only [State.coreRuns, Dev.corksFresh, Dev.opTakes]; decide +kernel⟩,
    ⟨wst fun d => d.setSq whdr.src wsq |>.setCq 1 wcq |>.put (F.PWR_DOM_STAT_STATE 6) 2 |>.put F.HIF_STAT_LINKUP 1, whdr, wsq, wsq.freshEnt 6 whdr, false, 0, 128, by simp only [State.coreRuns, Dev.corksFresh, Dev.opTakes]; decide +kernel⟩,
    ⟨wst fun d => d.setSq whdr.src wsq |>.setCq 1 wcq |>.put (F.PWR_DOM_STAT_STATE 6) 2 |>.put F.HIF_STAT_LINKUP 1, whdr, wsq, wsq.freshEnt 7 whdr, 1, by simp only [State.coreRuns, Dev.corksFresh, Dev.opTakes]; decide +kernel⟩,
    ⟨wst fun d => d.setSq whdr.src wsq |>.setCq 1 wcq |>.put (F.PWR_DOM_STAT_STATE 6) 2 |>.put F.HIF_STAT_LINKUP 1, whdr, wsq, wsq.freshEnt 8 whdr, by simp only [State.coreRuns, Dev.corksFresh, Dev.opTakes]; decide +kernel⟩,
    ⟨wst fun d => d.setSq whdr.src wsq |>.setCq 1 wcq |>.put (F.PWR_DOM_STAT_STATE 6) 2 |>.put F.HIF_STAT_LINKUP 1, whdr, wsq, wsq.freshEnt 9 whdr, 0, by simp only [State.coreRuns, Dev.corksFresh, Dev.opTakes]; decide +kernel⟩,
    ⟨wst fun d => d.setSq whdr.src wsq |>.setCq 1 wcq |>.put (F.PWR_DOM_STAT_STATE 6) 2 |>.put F.HIF_STAT_LINKUP 1, whdr, wsq, wsq.freshEnt 10 whdr, 0, 128, by simp only [State.coreRuns, Dev.corksFresh, Dev.opTakes]; decide +kernel⟩,
    ⟨wst fun d => d.setSq whdr.src wsq |>.setCq 1 wcq |>.put (F.PWR_DOM_STAT_STATE 6) 2 |>.put F.HIF_STAT_LINKUP 1, whdr, wsq, wsq.freshEnt 11 whdr, 0, 0, 0, by simp only [State.coreRuns, Dev.corksFresh, Dev.opTakes]; decide +kernel⟩,
    ⟨wst fun d => d.setSq whdr.src wsq |>.setCq 1 wcq |>.put (F.PWR_DOM_STAT_STATE 6) 2 |>.put F.HIF_STAT_LINKUP 1 |> fun d => d.setPr 0 { d.pr 0 with nint := 2 } |>.put (F.TRK_STAT_STATE 0) 3 |>.put (F.TRK_WHEEL_N 0) 60, whdr, wsq, wsq.freshEnt 12 whdr, 0, 0, 0, by simp only [State.coreRuns, Dev.corksFresh, Dev.opTakes]; decide +kernel⟩,
    ⟨wst fun d => d.setSq whdr.src wsq |>.setCq 1 wcq |>.put (F.PWR_DOM_STAT_STATE 6) 2 |>.put F.HIF_STAT_LINKUP 1 |>.put (F.PWR_DOM_STAT_STATE 1) 2 |>.put (F.TLK_CTL_EN 0) 1 |>.put (F.TLK_POS_STATE 0 0) 1 |> fun d => d.upTs 0 d.mySide (fun y => { y with st := 3 }), whdr, wsq, wsq.freshEnt 13 whdr, 0, 0, 0, by simp only [State.coreRuns, Dev.corksFresh, Dev.opTakes]; decide +kernel⟩,
    ⟨wst fun d => d.setSq whdr.src wsq |>.setCq 1 wcq |>.put (F.PWR_DOM_STAT_STATE 6) 2 |>.put F.HIF_STAT_LINKUP 1 |>.put (F.PWR_DOM_STAT_STATE 1) 2 |>.put (F.TLK_CTL_EN 0) 1 |>.put (F.TLK_POS_STATE 0 0) 1 |> fun d => d.upTs 0 d.mySide (fun y => { y with st := 3 }), whdr, wsq, wsq.freshEnt 14 whdr, 0, 0, 0, 0, by simp only [State.coreRuns, Dev.corksFresh, Dev.opTakes]; decide +kernel⟩,
    ⟨wst fun d => d.setSq whdr.src wsq |>.setCq 1 wcq |>.put (F.PWR_DOM_STAT_STATE 6) 2 |>.put F.HIF_STAT_LINKUP 1, whdr, wsq, wsq.freshEnt 15 whdr, 0x11FF000, by simp only [State.coreRuns, Dev.corksFresh, Dev.opTakes]; decide +kernel⟩,
    ⟨wst fun d => d.setSq whdr.src wsq |>.setCq 1 wcq |>.put (F.PWR_DOM_STAT_STATE 6) 2 |>.put F.HIF_STAT_LINKUP 1, whdr, wsq, wsq.freshEnt 16 whdr, 0x11FF000, by simp only [State.coreRuns, Dev.corksFresh, Dev.opTakes]; decide +kernel⟩⟩

theorem test_witness_opcodes_of_rings_and_cores :
    (∃ (s : State) (h : CmdHdr) (x : Sq) (e : Ent) (cores : Nat), s.coreRuns ∧ s.dev.opTakes h 0x11 true [parBits 0 3 0 cores, par 1 1] x e)
    ∧ (∃ (s : State) (h : CmdHdr) (x : Sq) (e : Ent) (cores : Nat) (addr : Nat), s.coreRuns ∧ s.dev.opTakes h 0x11 true [parBits 0 3 0 cores, par 1 2, par 2 addr] x e)
    ∧ (∃ (s : State) (h : CmdHdr) (x : Sq) (e : Ent) (cores : Nat), s.coreRuns ∧ s.dev.opTakes h 0x11 true [parBits 0 3 0 cores, par 1 3] x e)
    ∧ (∃ (s : State) (h : CmdHdr) (x : Sq) (e : Ent) (sq : Nat) (base : Nat) (entries : Nat) (cq : Nat) (owner : Nat) (prio : Nat) (core : Bool) (win : Nat) (c : Cq), s.coreRuns ∧ s.dev.opTakes h 0x14 true ([par 0 sq, par 1 (base % 2 ^ 32), par 2 (base / 2 ^ 32), par 3 entries, par 4 cq] ++ [parBits 5 7 0 owner, parBits 5 9 8 prio, parBits 5 10 10 (b2n core), parBits 5 21 16 win]) x e ∧ ringArgs sq base entries = true ∧ owner < 256 ∧ prio < 4 ∧ 1 ≤ win ∧ win ≤ 64 ∧ (s.start.opStart h 0x14 x).sq? sq = none ∧ (s.start.opStart h 0x14 x).cqLive? cq = some c)
    ∧ (∃ (s : State) (h : CmdHdr) (x : Sq) (y : Sq) (e : Ent) (sq : Nat), s.coreRuns ∧ s.dev.opTakes h 0x15 true [par 0 sq] x e ∧ sq ≠ 0 ∧ (s.start.opStart h 0x15 x).sq? sq = some y)
    ∧ (∃ (s : State) (h : CmdHdr) (x : Sq) (e : Ent) (cq : Nat) (base : Nat) (entries : Nat) (vec : Nat) (cthr : Nat) (ctime : Nat), s.coreRuns ∧ s.dev.opTakes h 0x16 true ([par 0 cq, par 1 (base % 2 ^ 32), par 2 (base / 2 ^ 32), par 3 entries] ++ [parBits 4 9 0 vec, parBits 5 7 0 cthr, parBits 5 23 8 ctime]) x e ∧ ringArgs cq base entries = true ∧ vec < 1024 ∧ cthr < 256 ∧ ctime < 65536 ∧ (s.start.opStart h 0x16 x).cq? cq = none)
    ∧ (∃ (s : State) (h : CmdHdr) (x : Sq) (e : Ent) (cq : Nat) (c : Cq), s.coreRuns ∧ s.dev.opTakes h 0x17 true [par 0 cq] x e ∧ cq ≠ 0 ∧ (s.start.opStart h 0x17 x).cqLive? cq = some c ∧ (s.start.opStart h 0x17 x).hif.sqs.any (fun p => p.2.cq == cq) = false)
    ∧ (∃ (s : State) (h : CmdHdr) (x : Sq) (e : Ent) (off : Nat) (len : Nat) (data : List Nat), s.coreRuns ∧ s.dev.opTakes h 0x19 true (par 0 off :: par 1 len :: parWords 2 (padWords 9 data)) x e ∧ len ≠ 0 ∧ len ≤ 36 ∧ off + len ≤ 2 ^ 20 ∧ ((s.start.opStart h 0x19 x).stageGrow (h.src - 256) ((off + len + 63) / 64) 16385).isSome = true) :=
  ⟨⟨wst fun d => d.setSq whdr.src wsq |>.setCq 1 wcq |>.put (F.PWR_DOM_STAT_STATE 6) 2 |>.put F.HIF_STAT_LINKUP 1, whdr, wsq, wsq.freshEnt 17 whdr, 0, by simp only [State.coreRuns, Dev.corksFresh, Dev.opTakes]; decide +kernel⟩,
    ⟨wst fun d => d.setSq whdr.src wsq |>.setCq 1 wcq |>.put (F.PWR_DOM_STAT_STATE 6) 2 |>.put F.HIF_STAT_LINKUP 1, whdr, wsq, wsq.freshEnt 17 whdr, 0, 0, by simp only [State.coreRuns, Dev.corksFresh, Dev.opTakes]; decide +kernel⟩,
    ⟨wst fun d => d.setSq whdr.src wsq |>.setCq 1 wcq |>.put (F.PWR_DOM_STAT_STATE 6) 2 |>.put F.HIF_STAT_LINKUP 1, whdr, wsq, wsq.freshEnt 17 whdr, 0, by simp only [State.coreRuns, Dev.corksFresh, Dev.opTakes]; decide +kernel⟩,
    ⟨wst fun d => d.setSq whdr0.src wsq |>.setCq 1 wcq |>.put (F.PWR_DOM_STAT_STATE 6) 2 |>.put F.HIF_STAT_LINKUP 1, whdr0, wsq, wsq.freshEnt 20 whdr0, 255, 4096, 2, 1, 0, 0, false, 64, wcq, by simp only [State.coreRuns, Dev.corksFresh, Dev.opTakes]; decide +kernel⟩,
    ⟨wst fun d => d.setSq whdr0.src wsq |>.setCq 1 wcq |>.put (F.PWR_DOM_STAT_STATE 6) 2 |>.put F.HIF_STAT_LINKUP 1 |>.setSq 2 wsq, whdr0, wsq, wsq, wsq.freshEnt 21 whdr0, 2, by simp only [State.coreRuns, Dev.corksFresh, Dev.opTakes]; decide +kernel⟩,
    ⟨wst fun d => d.setSq whdr0.src wsq |>.setCq 1 wcq |>.put (F.PWR_DOM_STAT_STATE 6) 2 |>.put F.HIF_STAT_LINKUP 1, whdr0, wsq, wsq.freshEnt 22 whdr0, 255, 4096, 4096, 0, 0, 0, by simp only [State.coreRuns, Dev.corksFresh, Dev.opTakes]; decide +kernel⟩,
    ⟨wst fun d => d.setSq whdr0.src wsq |>.setCq 1 wcq |>.put (F.PWR_DOM_STAT_STATE 6) 2 |>.put F.HIF_STAT_LINKUP 1 |>.setCq 2 wcq, whdr0, wsq, wsq.freshEnt 23 whdr0, 2, wcq, by simp only [State.coreRuns, Dev.corksFresh, Dev.opTakes]; decide +kernel⟩,
    ⟨wst fun d => d.put (F.CAN_CTL_EN 0) 1, whdrC, can0.cmd, can0.cmd.freshEnt 25 whdrC, 0, 36, [], by simp only [State.coreRuns, Dev.corksFresh, Dev.opTakes]; decide +kernel⟩⟩

theorem test_witness_host_link_and_streams :
    (∃ (s : State), s.coreRuns ∧ s.dev.pcieOn = true ∧ s.dev.rst.perst = false)
    ∧ (∃ (s : State) (n : Fin 8), s.coreRuns ∧ s.dev.flag (F.STM_CFG_EN n) = true ∧ s.dev.flag (F.STM_STAT_ERR n) = false ∧ s.dev.pcieGo = true ∧ (s.dev.stmOf n).chunk ≠ [] ∧ (s.dev.stmOf n).chunk.length ≤ (s.dev.stmSize n - (s.dev.stmOf n).flushed) / 4 ∧ (s.dev.stmOf n).since + 400 * 2 ^ s.dev.get (F.STM_CFG_FLUSH n) ≤ s.dev.fab)
    ∧ (∃ (s : State) (n : Fin 8), s.coreRuns ∧ s.dev.flag (F.STM_CFG_EN n) = true ∧ s.dev.flag (F.STM_STAT_ERR n) = false ∧ (s.dev.stmOf n).chunk ≠ [])
    ∧ (∃ (s : State) (n : Fin 8) (data : Nat), s.coreRuns ∧ s.dev.domUp 6 = true ∧ s.dev.rst.perst = false ∧ s.dev.flag (F.STM_CFG_EN n) = false ∧ bits data 30 28 = 0)
    ∧ (∃ (s : State), s.coreRuns ∧ s.dev.domUp 6 = true ∧ s.dev.rst.perst = false ∧ s.dev.flag F.HIF_CTL_EN = false)
    ∧ (∃ (s : State), s.coreRuns ∧ s.dev.domUp 6 = true ∧ s.dev.rst.perst = false ∧ s.dev.flag F.HIF_CTL_EN = true)
    ∧ (∃ (s : State), s.coreRuns ∧ s.dev.cfgUp = true)
    ∧ (∃ (s : State), s.coreRuns ∧ s.dev.pcieOn = true ∧ s.dev.flag F.HIF_STAT_LINKUP = true)
    ∧ (∃ (s : State) (speed : Fin 4), s.coreRuns ∧ s.dev.domState 6 = 2 ∧ s.dev.rst.perst = false ∧ speed.val ≠ 0)
    ∧ (∃ (s : State), s.coreRuns ∧ s.dev.domUp 6 = true ∧ s.dev.rst.perst = false) :=
  ⟨⟨wst fun d => d.put (F.PWR_DOM_STAT_STATE 6) 2, by simp only [State.coreRuns, Dev.corksFresh]; decide +kernel⟩,
    ⟨wst fun d => d.put (F.STM_CFG_EN 0) 1 |>.put (F.STM_STAT_ERR 0) 0 |>.put (F.PWR_DOM_STAT_STATE 6) 2 |>.put F.HIF_STAT_LINKUP 1 |> fun d => d.setStm 0 { d.stmOf 0 with chunk := [1] } |> fun d => { d with fab := 100000000000 }, 0, by simp only [State.coreRuns, Dev.corksFresh]; decide +kernel⟩,
    ⟨wst fun d => d.put (F.STM_CFG_EN 0) 1 |>.put (F.STM_STAT_ERR 0) 0 |> fun d => d.setStm 0 { d.stmOf 0 with chunk := [1] }, 0, by simp only [State.coreRuns, Dev.corksFresh]; decide +kernel⟩,
    ⟨wst fun d => d.put (F.PWR_DOM_STAT_STATE 6) 2 |>.put (F.STM_CFG_EN 0) 0, 0, 0, by simp only [State.coreRuns, Dev.corksFresh]; decide +kernel⟩,
    ⟨wst fun d => d.put (F.PWR_DOM_STAT_STATE 6) 2 |>.put F.HIF_CTL_EN 0, by simp only [State.coreRuns, Dev.corksFresh]; decide +kernel⟩,
    ⟨wst fun d => d.put (F.PWR_DOM_STAT_STATE 6) 2 |>.put F.HIF_CTL_EN 1, by simp only [State.coreRuns, Dev.corksFresh]; decide +kernel⟩,
    ⟨wst fun d => d.put (F.PWR_DOM_STAT_STATE 6) 2 |>.put F.HIF_STAT_LINKUP 1, by simp only [State.coreRuns, Dev.corksFresh]; decide +kernel⟩,
    ⟨wst fun d => d.put (F.PWR_DOM_STAT_STATE 6) 2 |>.put F.HIF_STAT_LINKUP 1, by simp only [State.coreRuns, Dev.corksFresh]; decide +kernel⟩,
    ⟨wst fun d => d.put (F.PWR_DOM_STAT_STATE 6) 2, 1, by simp only [State.coreRuns, Dev.corksFresh]; decide +kernel⟩,
    ⟨wst fun d => d.put (F.PWR_DOM_STAT_STATE 6) 2, by simp only [State.coreRuns, Dev.corksFresh]; decide +kernel⟩⟩

theorem test_witness_can_ports :
    (∃ (s : State) (port : Fin 2) (xtd : Bool) (id : Nat), s.coreRuns ∧ s.dev.flag (F.CAN_CTL_EN port) = true ∧ s.dev.flag (F.CAN_STAT_BUSOFF port) = false ∧ (s.start.canGood port true).canMine port xtd id = true)
    ∧ (∃ (s : State) (port : Fin 2), s.coreRuns ∧ s.dev.flag (F.CAN_CTL_EN port) = true ∧ s.dev.flag (F.CAN_STAT_BUSOFF port) = false)
    ∧ (∃ (s : State) (port : Fin 2) (xtd : Bool) (id : Nat) (entry : List Nat) (x : Dev), s.coreRuns ∧ s.dev.flag (F.CAN_CTL_EN port) = true ∧ s.dev.flag (F.CAN_STAT_BUSOFF port) = false ∧ s.start.canGood port true = x ∧ x.canMine port xtd id = true ∧ entry.length = 16 ∧ (x.qmg.queue (256 + port.val)).length < 16 ∧ (x.caskIn (1 + port) (256 + port.val) (entry16 entry)).isSome = true)
    ∧ (∃ (s : State) (port : Fin 2), s.coreRuns ∧ s.dev.flag (F.CAN_STAT_BUSOFF port) = true ∧ (s.dev.canOf port).tx = [])
    ∧ (∃ (s : State) (port : Fin 2), s.coreRuns ∧ s.dev.flag (F.CAN_CTL_EN port) = true ∧ s.dev.flag (F.CAN_STAT_ERRPASS port) = true)
    ∧ (∃ (s : State) (port : Fin 2), s.coreRuns ∧ s.dev.flag (F.CAN_CTL_EN port) = true ∧ s.dev.flag (F.CAN_STAT_ERRPASS port) = false) :=
  ⟨⟨wst fun d => d.put (F.CAN_CTL_EN 0) 1 |>.put (F.CAN_STAT_BUSOFF 0) 0 |>.put (F.CAN_IDRX_XTD 0) 0 |>.put (F.CAN_IDRX_ID 0) 5, 0, false, 5, by simp only [State.coreRuns, Dev.corksFresh]; decide +kernel⟩,
    ⟨wst fun d => d.put (F.CAN_CTL_EN 0) 1 |>.put (F.CAN_STAT_BUSOFF 0) 0, 0, by simp only [State.coreRuns, Dev.corksFresh]; decide +kernel⟩,
    ⟨wst fun d => d.put (F.CAN_CTL_EN 0) 1 |>.put (F.CAN_STAT_BUSOFF 0) 0 |>.upQmg (fun q => { q with qcfg := [(256, 0x01800010)] }) |>.put (F.CAN_IDRX_XTD 0) 0 |>.put (F.CAN_IDRX_ID 0) 5, 0, false, 5, List.replicate 16 0, (wst fun d => d.put (F.CAN_CTL_EN 0) 1 |>.put (F.CAN_STAT_BUSOFF 0) 0 |>.upQmg (fun q => { q with qcfg := [(256, 0x01800010)] }) |>.put (F.CAN_IDRX_XTD 0) 0 |>.put (F.CAN_IDRX_ID 0) 5).dev.canGood 0 true, by simp only [State.coreRuns, Dev.corksFresh]; decide +kernel⟩,
    ⟨wst fun d => d.put (F.CAN_STAT_BUSOFF 0) 1, 0, by simp only [State.coreRuns, Dev.corksFresh]; decide +kernel⟩,
    ⟨wst fun d => d.put (F.CAN_CTL_EN 0) 1 |>.put (F.CAN_STAT_ERRPASS 0) 1, 0, by simp only [State.coreRuns, Dev.corksFresh]; decide +kernel⟩,
    ⟨wst fun d => d.put (F.CAN_CTL_EN 0) 1 |>.put (F.CAN_STAT_ERRPASS 0) 0, 0, by simp only [State.coreRuns, Dev.corksFresh]; decide +kernel⟩⟩

theorem test_witness_queue_manager :
    (∃ (s : State) (req : Fin 10), s.coreRuns ∧ s.dev.qGranted req = true ∧ s.dev.qmg.free ≠ 0 ∧ s.dev.qmg.limit (s.dev.qOwner req) = none)
    ∧ (∃ (s : State) (req : Fin 10), s.coreRuns ∧ s.dev.qGranted req = false)
    ∧ (∃ (s : State) (req : Fin 10), s.coreRuns ∧ s.dev.qGranted req = true ∧ s.dev.qmg.free = 0)
    ∧ (∃ (s : State) (req : Fin 10) (cask : Nat), s.coreRuns ∧ s.dev.qGranted req = true ∧ s.dev.qmg.holds (s.dev.qOwner req) (cask % caskTotal) = .ok)
    ∧ (∃ (s : State) (req : Fin 10) (queue : Nat) (cask : Nat), s.coreRuns ∧ s.dev.qGranted req = true ∧ s.dev.qmg.holds (s.dev.qOwner req) (cask % caskTotal) = .ok ∧ qEn (s.dev.qmg.qcfgOf (queue % 2 ^ 15)) = true ∧ qDepth (s.dev.qmg.qcfgOf (queue % 2 ^ 15)) = 0)
    ∧ (∃ (s : State) (req : Fin 10) (c : Nat) (r : List Nat), s.coreRuns ∧ s.dev.qGranted req = true ∧ qCons (s.dev.qmg.qcfgOf ((s.dev.own req R.QMG_QSEL).toNat % 2 ^ 15)) = s.dev.qOwner req ∧ s.dev.qmg.queue ((s.dev.own req R.QMG_QSEL).toNat % 2 ^ 15) = c :: r)
    ∧ (∃ (s : State) (req : Fin 10) (owner : Nat), s.coreRuns ∧ s.dev.qmg.granted (owner % 256) req = true)
    ∧ (∃ (s : State) (req : Fin 10) (owner : Nat), s.coreRuns ∧ s.dev.qmg.granted (owner % 256) req = false)
    ∧ (∃ (s : State) (req : Fin 10) (c : Nat), s.coreRuns ∧ s.dev.qWindow req = some c)
    ∧ (∃ (s : State) (req : Fin 10), s.coreRuns ∧ s.dev.qWindow req = none)
    ∧ (∃ (s : State) (req : Fin 10), s.coreRuns ∧ 512 ≤ (s.dev.own req R.QMG_QSEL).toNat % 2 ^ 15 ∧ s.dev.qmg.queue ((s.dev.own req R.QMG_QSEL).toNat % 2 ^ 15) = [])
    ∧ (∃ (s : State) (owner : Nat), s.coreRuns ∧ 16 ≤ owner % 256 ∧ bits (s.dev.qmg.ocfgOf (owner % 256)).toNat 9 0 = 0) :=
  ⟨⟨wst fun d => d.upQmg (fun q => { q with ocfg := [(0, 0x3FF)] }), 0, by simp only [State.coreRuns, Dev.corksFresh]; decide +kernel⟩,
    ⟨State.reset, 0, by simp only [State.coreRuns, Dev.corksFresh]; decide +kernel⟩,
    ⟨wst fun d => d.upQmg (fun q => { q with ocfg := [(0, 0x3FF)] }) |>.upQmg (fun q => { q with casks := (List.range 0x10000).map fun c => (c, ⟨false, 0⟩) }), 0, by simp only [State.coreRuns, Dev.corksFresh]; decide +kernel, by decide +kernel, by simp [wst, Dev.upQmg, Qmg.free, caskTotal]⟩,
    ⟨wst fun d => d.upQmg (fun q => { q with ocfg := [(0, 0x3FF)] }) |>.upQmg (fun q => { q with casks := [(0, ⟨false, 0⟩)] }), 0, 0, by simp only [State.coreRuns, Dev.corksFresh]; decide +kernel⟩,
    ⟨wst fun d => d.upQmg (fun q => { q with ocfg := [(0, 0x3FF)] }) |>.upQmg (fun q => { q with casks := [(0, ⟨false, 0⟩)] }) |>.upQmg (fun q => { q with qcfg := [(0, 0x00800000)] }), 0, 0, 0, by simp only [State.coreRuns, Dev.corksFresh]; decide +kernel⟩,
    ⟨wst fun d => d.upQmg (fun q => { q with ocfg := [(0, 0x3FF)] }) |>.upQmg (fun q => { q with queues := [(0, [5])] }), 0, 5, [], by simp only [State.coreRuns, Dev.corksFresh]; decide +kernel⟩,
    ⟨wst fun d => d.upQmg (fun q => { q with ocfg := [(0, 0x3FF)] }), 0, 0, by simp only [State.coreRuns, Dev.corksFresh]; decide +kernel⟩,
    ⟨State.reset, 0, 0, by simp only [State.coreRuns, Dev.corksFresh]; decide +kernel⟩,
    ⟨wst fun d => d.upQmg (fun q => { q with casks := [(0, ⟨false, 0⟩)] }), 0, 0, by simp only [State.coreRuns, Dev.corksFresh]; decide +kernel⟩,
    ⟨State.reset, 0, by simp only [State.coreRuns, Dev.corksFresh]; decide +kernel⟩,
    ⟨wst fun d => d.setOwn 0 R.QMG_QSEL 512, 0, by simp only [State.coreRuns, Dev.corksFresh]; decide +kernel⟩,
    ⟨State.reset, 16, by simp only [State.coreRuns, Dev.corksFresh]; decide +kernel⟩⟩

theorem test_witness_analog_measurement :
    (∃ (s : State) (m : Fin 4), s.coreRuns ∧ s.dev.get (F.PWR_DOM_STAT_STATE 5) = 2 ∧ s.dev.flag (F.ADC_CTL_EN m) = true ∧ (s.dev.ad m).wait = [])
    ∧ (∃ (s : State) (i : Fin 32) (u : Int) (a : Int) (t : Int) (m : AMark), s.coreRuns ∧ (s.dev.am i).upTo = some u ∧ (s.dev.geo (s.dev.am i).trk).nextOcc (if (s.dev.pr (s.dev.am i).trk).rev then u - 1 else u + 1) (s.dev.am i).ang (s.dev.pr (s.dev.am i).trk).rev = a ∧ s.dev.amAble (s.dev.am i) (s.dev.pr (s.dev.am i).trk).rev = true ∧ s.dev.pv (s.dev.am i).trk = true ∧ s.dev.dist (s.dev.am i).trk a < 2 * 65536 ∧ s.dev.timeOf (s.dev.am i).trk a = .time t ∧ t ≤ 8 * (s.dev.now : Int) ∧ (s.dev.setAm i { s.dev.am i with upTo := some a }).am i = m ∧ m.fired.contains a = false)
    ∧ (∃ (s : State) (m : Fin 4) (t : AdcTrig) (r : List AdcTrig), s.coreRuns ∧ s.dev.domUp 5 = true ∧ (s.dev.ad m).run = none ∧ (s.dev.ad m).wait = t :: r)
    ∧ (∃ (s : State) (m : Fin 4) (t : AdcTrig), s.coreRuns ∧ s.dev.domUp 5 = true ∧ (s.dev.ad m).run = some t ∧ 1 < t.left ∧ (s.dev.ad m).cur < 64 ∧ (s.dev.ad m).ends ≤ s.dev.fab)
    ∧ (∃ (s : State) (m : Fin 4) (t : AdcTrig), s.coreRuns ∧ s.dev.domUp 5 = true ∧ (s.dev.ad m).run = some t ∧ (s.dev.ad m).ends ≤ s.dev.fab ∧ t.left ≤ 1)
    ∧ (∃ (s : State) (m : Fin 4), s.coreRuns ∧ s.dev.domUp 5 = true ∧ (s.dev.ad m).run.isSome = true)
    ∧ (∃ (s : State), s.coreRuns ∧ s.dev.domUp 5 = true) :=
  ⟨⟨wst fun d => d.put (F.PWR_DOM_STAT_STATE 5) 2 |>.put (F.ADC_CTL_EN 0) 1 |> fun d => d.setAd 0 { d.ad 0 with wait := [] }, 0, by simp only [State.coreRuns, Dev.corksFresh]; decide +kernel⟩,
    ⟨wst fun d => d.setAm 0 { d.am 0 with upTo := some 0 } |> fun d => d.setAm 0 { d.am 0 with upTo := some 0, a := 0x80000000, b := 2 } |> fun d => d.setPr 0 { d.pr 0 with nint := 2, bref := 60 } |>.putB (F.TRK_STAT_ARM_OK 0) true |>.put (F.TRK_WHEEL_N 0) 60, 0, 0, 5898240, 0, ((wst fun d => d.setAm 0 { d.am 0 with upTo := some 0 } |> fun d => d.setAm 0 { d.am 0 with upTo := some 0, a := 0x80000000, b := 2 } |> fun d => d.setPr 0 { d.pr 0 with nint := 2, bref := 60 } |>.putB (F.TRK_STAT_ARM_OK 0) true |>.put (F.TRK_WHEEL_N 0) 60).dev.setAm 0 { (wst fun d => d.setAm 0 { d.am 0 with upTo := some 0 } |> fun d => d.setAm 0 { d.am 0 with upTo := some 0, a := 0x80000000, b := 2 } |> fun d => d.setPr 0 { d.pr 0 with nint := 2, bref := 60 } |>.putB (F.TRK_STAT_ARM_OK 0) true |>.put (F.TRK_WHEEL_N 0) 60).dev.am 0 with upTo := some 5898240 }).am 0, by simp only [State.coreRuns, Dev.corksFresh]; decide +kernel⟩,
    ⟨wst fun d => d.put (F.PWR_DOM_STAT_STATE 5) 2 |> fun d => d.setAd 0 { d.ad 0 with run := none } |> fun d => d.setAd 0 { d.ad 0 with wait := (⟨0, 0, 0, 0, 1⟩ : AdcTrig) :: ([]) }, 0, ⟨0, 0, 0, 0, 1⟩, [], by simp only [State.coreRuns, Dev.corksFresh]; decide +kernel⟩,
    ⟨wst fun d => d.put (F.PWR_DOM_STAT_STATE 5) 2 |> fun d => d.setAd 0 { d.ad 0 with run := some (⟨0, 0, 0, 0, 2⟩ : AdcTrig) } |> fun d => { d with fab := 100000000000 }, 0, ⟨0, 0, 0, 0, 2⟩, by simp only [State.coreRuns, Dev.corksFresh]; decide +kernel⟩,
    ⟨wst fun d => d.put (F.PWR_DOM_STAT_STATE 5) 2 |> fun d => d.setAd 0 { d.ad 0 with run := some (⟨0, 0, 0, 0, 1⟩ : AdcTrig) } |> fun d => { d with fab := 100000000000 }, 0, ⟨0, 0, 0, 0, 1⟩, by simp only [State.coreRuns, Dev.corksFresh]; decide +kernel⟩,
    ⟨wst fun d => d.put (F.PWR_DOM_STAT_STATE 5) 2 |> fun d => d.setAd 0 { d.ad 0 with run := some ⟨0, 0, 0, 0, 1⟩ }, 0, by simp only [State.coreRuns, Dev.corksFresh]; decide +kernel⟩,
    ⟨wst fun d => d.put (F.PWR_DOM_STAT_STATE 5) 2, by simp only [State.coreRuns, Dev.corksFresh]; decide +kernel⟩⟩

theorem test_witness_encoders :
    (∃ (s : State) (m : Fin 8) (a : Bool) (b : Bool) (hold : Nat × Nat × Nat) (stamp : Nat), s.coreRuns ∧ s.dev.encMode m = 1 ∧ stamp + s.dev.get (F.ENC_CFG_FLT m) ≤ s.dev.now ∧ s.dev.get (F.ENC_CFG_FLT m) ≤ hold.1 ∧ s.dev.get (F.ENC_CFG_FLT m) ≤ hold.2.1 ∧ s.dev.get (F.ENC_CFG_FLT m) ≤ hold.2.2 ∧ s.dev.flag (F.ENC_CFG_IDXEN m) = false ∧ s.dev.flag (F.ENC_CFG_INV m) = false ∧ (∀ k, k < 16 → s.dev.flag (F.TRK_CFG_KIND k) = false) ∧ (quadPhase a b + 4 - quadPhase (bitOf (s.dev.get (F.ENC_STAT_LVL m)) 0) (bitOf (s.dev.get (F.ENC_STAT_LVL m)) 1)) % 4 = 1)
    ∧ (∃ (s : State) (m : Fin 8), s.coreRuns ∧ s.dev.encMode m = 2)
    ∧ (∃ (s : State) (m : Fin 8), s.coreRuns ∧ s.dev.encMode m = 2 ∧ s.dev.flag (F.ENC_STAT_AMP m) = false)
    ∧ (∃ (s : State) (m : Fin 8), s.coreRuns ∧ s.dev.encMode m = 2 ∧ s.dev.flag (F.ENC_CFG_IDXEN m) = true)
    ∧ (∃ (s : State) (m : Fin 8) (pair : Fin 3) (x : Dev), s.coreRuns ∧ s.dev.advance (s.dev.now + tickMicro * max 1 (s.dev.get (F.ENC_CFG_WTIME m))) = x ∧ x.encMode m ≠ 0 ∧ x.flag (wireFld m pair) = false)
    ∧ (∃ (s : State) (m : Fin 8) (pair : Fin 3), s.coreRuns ∧ (∀ q : Fin 3, q ≠ pair → s.dev.flag (wireFld m q) = false)) :=
  ⟨⟨wst fun d => d.put (F.ENC_CFG_MODE 0) 1 |>.put (F.ENC_CFG_IDXEN 0) 0 |>.put (F.ENC_CFG_INV 0) 0 |> fun d => { d with now := 100000 }, 0, true, false, (9999, 9999, 9999), 0, by simp only [State.coreRuns, Dev.corksFresh]; decide +kernel⟩,
    ⟨wst fun d => d.put (F.ENC_CFG_MODE 0) 2, 0, by simp only [State.coreRuns, Dev.corksFresh]; decide +kernel⟩,
    ⟨wst fun d => d.put (F.ENC_CFG_MODE 0) 2 |>.put (F.ENC_STAT_AMP 0) 0, 0, by simp only [State.coreRuns, Dev.corksFresh]; decide +kernel⟩,
    ⟨wst fun d => d.put (F.ENC_CFG_MODE 0) 2 |>.put (F.ENC_CFG_IDXEN 0) 1, 0, by simp only [State.coreRuns, Dev.corksFresh]; decide +kernel⟩,
    ⟨wst fun d => d.put (F.ENC_CFG_MODE 0) 1, 0, 0, (wst fun d => d.put (F.ENC_CFG_MODE 0) 1).dev.advance ((wst fun d => d.put (F.ENC_CFG_MODE 0) 1).dev.now + tickMicro * max 1 ((wst fun d => d.put (F.ENC_CFG_MODE 0) 1).dev.get (F.ENC_CFG_WTIME 0))), by simp only [State.coreRuns, Dev.corksFresh]; decide +kernel⟩,
    ⟨State.reset, 0, 0, by simp only [State.coreRuns, Dev.corksFresh]; decide +kernel⟩⟩

theorem test_witness_comparators_and_routing :
    (∃ (s : State) (m : Fin 8) (mv : Nat) (x : Dev), s.celRuns ∧ s.dev.cflag (F.CMP_CFG_EN m) = true ∧ s.dev.cflag F.CEL_STAT_SLOWOK = true ∧ ({ s.start with clr := { s.start.clr with cin := smSet s.start.clr.cin 0 m mv } } : Dev) = x)
    ∧ (∃ (s : State) (m : Fin 8), s.celRuns ∧ s.dev.cflag (F.CMP_CFG_EN m) = false)
    ∧ (∃ (s : State) (i : Fin 32) (u : Int) (a : Int) (t : Int) (m : AMark), s.coreRuns ∧ (s.dev.am (32 + i.val)).upTo = some u ∧ (s.dev.geo (s.dev.am (32 + i.val)).trk).nextOcc (if (s.dev.pr (s.dev.am (32 + i.val)).trk).rev then u - 1 else u + 1) (s.dev.am (32 + i.val)).ang (s.dev.pr (s.dev.am (32 + i.val)).trk).rev = a ∧ s.dev.amAble (s.dev.am (32 + i.val)) (s.dev.pr (s.dev.am (32 + i.val)).trk).rev = true ∧ s.dev.pv (s.dev.am (32 + i.val)).trk = true ∧ s.dev.dist (s.dev.am (32 + i.val)).trk a < 2 * 65536 ∧ s.dev.timeOf (s.dev.am (32 + i.val)).trk a = .time t ∧ t ≤ 8 * (s.dev.now : Int) ∧ (s.dev.setAm (32 + i.val) { s.dev.am (32 + i.val) with upTo := some a }).am (32 + i.val) = m ∧ m.fired.contains a = false)
    ∧ (∃ (s : State) (pin : Fin 64) (level : Bool), s.coreRuns ∧ s.dev.abit (R.SYS_GPIO_OE 0) pin = false ∧ s.dev.abit (R.SYS_GPIO_IN 0) pin ≠ level)
    ∧ (∃ (s : State) (pin : Fin 64), s.coreRuns ∧ s.dev.abit (R.SYS_GPIO_OE 0) pin = true) :=
  ⟨⟨wst fun d => d.cput (F.CMP_CFG_EN 0) 1 |>.cput F.CEL_STAT_SLOWOK 1 |>.cput (F.CMP_CFG_EN 0) 1 |>.cput F.CEL_STAT_SLOWOK 1, 0, 500, ({ (wst fun d => d.cput (F.CMP_CFG_EN 0) 1 |>.cput F.CEL_STAT_SLOWOK 1 |>.cput (F.CMP_CFG_EN 0) 1 |>.cput F.CEL_STAT_SLOWOK 1).dev with clr := { (wst fun d => d.cput (F.CMP_CFG_EN 0) 1 |>.cput F.CEL_STAT_SLOWOK 1 |>.cput (F.CMP_CFG_EN 0) 1 |>.cput F.CEL_STAT_SLOWOK 1).dev.clr with cin := smSet (wst fun d => d.cput (F.CMP_CFG_EN 0) 1 |>.cput F.CEL_STAT_SLOWOK 1 |>.cput (F.CMP_CFG_EN 0) 1 |>.cput F.CEL_STAT_SLOWOK 1).dev.clr.cin 0 0 500 } } : Dev), by simp only [State.celRuns, Dev.corksFresh]; decide +kernel⟩,
    ⟨wst fun d => d.cput (F.CMP_CFG_EN 0) 0, 0, by simp only [State.celRuns, Dev.corksFresh]; decide +kernel⟩,
    ⟨wst fun d => d.setAm (32 + 0) { d.am (32 + 0) with upTo := some 0 } |> fun d => d.setAm (32 + 0) { d.am (32 + 0) with upTo := some 0, a := 0x80000000, b := 2 } |> fun d => d.setPr 0 { d.pr 0 with nint := 2, bref := 60 } |>.putB (F.TRK_STAT_ARM_OK 0) true |>.put (F.TRK_WHEEL_N 0) 60, 0, 0, 5898240, 0, ((wst fun d => d.setAm (32 + 0) { d.am (32 + 0) with upTo := some 0 } |> fun d => d.setAm (32 + 0) { d.am (32 + 0) with upTo := some 0, a := 0x80000000, b := 2 } |> fun d => d.setPr 0 { d.pr 0 with nint := 2, bref := 60 } |>.putB (F.TRK_STAT_ARM_OK 0) true |>.put (F.TRK_WHEEL_N 0) 60).dev.setAm (32 + 0) { (wst fun d => d.setAm (32 + 0) { d.am (32 + 0) with upTo := some 0 } |> fun d => d.setAm (32 + 0) { d.am (32 + 0) with upTo := some 0, a := 0x80000000, b := 2 } |> fun d => d.setPr 0 { d.pr 0 with nint := 2, bref := 60 } |>.putB (F.TRK_STAT_ARM_OK 0) true |>.put (F.TRK_WHEEL_N 0) 60).dev.am (32 + 0) with upTo := some 5898240 }).am (32 + 0), by simp only [State.coreRuns, Dev.corksFresh]; decide +kernel⟩,
    ⟨State.reset, 0, true, by simp only [State.coreRuns, Dev.corksFresh]; decide +kernel⟩,
    ⟨wst fun d => d.setAbit (R.SYS_GPIO_OE 0) 0 true, 0, by simp only [State.coreRuns, Dev.corksFresh]; decide +kernel⟩⟩

theorem test_witness_timers :
    (∃ (s : State) (n : Fin 32), s.coreRuns ∧ s.dev.tmrFed 32 n = true ∧ s.dev.fabCycle.tmrEv.contains n.val = true)
    ∧ (∃ (s : State) (n : Fin 32), s.coreRuns ∧ (s.dev.tmrSeek n (2 ^ 64)).isSome = true)
    ∧ (∃ (o : Dev) (n : Fin 32), (o.tm n).wait = false ∧ (o.tm n).run = true ∧ o.tmrSlv n = 0 ∧ o.tmrSrc n = 1 ∧ (o.tm n).inq = 0 ∧ max 0x100 (o.get (F.TMR_CFG_PS n)) ≤ (o.tm n).acc + 0x100)
    ∧ (∃ (d : Dev) (n : Nat), d.flag (F.TMR_CTL_AUTO n) = false)
    ∧ (∃ (s : State) (n : Fin 32), s.coreRuns ∧ (s.dev.tm n).run = false)
    ∧ (∃ (s : State) (n : Fin 32), s.coreRuns ∧ (s.dev.tm n).run = true)
    ∧ (∃ (s : State) (n : Fin 32) (data : Nat), s.coreRuns ∧ n.val < 16 ∧ s.dev.flag (F.TMR_CTL_EN n) = false ∧ bitOf data 30 = false)
    ∧ (∃ (s : State) (n : Fin 32) (data : Nat), s.coreRuns ∧ n.val < 16 ∧ s.dev.flag (F.TMR_CTL_EN n) = false ∧ bitOf data 30 = true)
    ∧ (∃ (s : State) (n : Fin 32), s.coreRuns ∧ s.dev.flag (F.TMR_CTL_EN n) = true ∧ (∀ p, (s.dev.tm n).load = some p → p.1 ≠ s.dev.fab))
    ∧ (∃ (s : State) (n : Fin 32) (v : Nat) (counted : Bool), s.coreRuns ∧ s.dev.flag (F.TMR_CTL_EN n) = true ∧ (s.dev.tm n).load = some (s.dev.fab, v, counted)) :=
  ⟨⟨wst fun d => d.setTm 0 { d.tm 0 with run := true, cmp := 1, acc := 0 } |>.put (F.TMR_CFG_SRC 0) 1 |>.put (F.TMR_CFG_PS 0) 0x100, 0, by simp only [State.coreRuns, Dev.corksFresh]; decide +kernel⟩,
    ⟨wst fun d => d.setTm 0 { d.tm 0 with run := true, cmp := 1, acc := 0 } |>.put (F.TMR_CFG_SRC 0) 1 |>.put (F.TMR_CFG_PS 0) 0x100, 0, by simp only [State.coreRuns, Dev.corksFresh]; decide +kernel⟩,
    ⟨((State.reset.dev.setTm 0 { State.reset.dev.tm 0 with run := true }).put (F.TMR_CFG_SRC 0) 1), 0, by decide +kernel⟩,
    ⟨State.reset.dev, 0, by decide +kernel⟩,
    ⟨wst fun d => d.setTm 0 { d.tm 0 with run := false }, 0, by simp only [State.coreRuns, Dev.corksFresh]; decide +kernel⟩,
    ⟨wst fun d => d.setTm 0 { d.tm 0 with run := true }, 0, by simp only [State.coreRuns, Dev.corksFresh]; decide +kernel⟩,
    ⟨wst fun d => d.put (F.TMR_CTL_EN 0) 0, 0, 0, by simp only [State.coreRuns, Dev.corksFresh]; decide +kernel⟩,
    ⟨wst fun d => d.put (F.TMR_CTL_EN 15) 0, 15, 0x40000000, by simp only [State.coreRuns, Dev.corksFresh]; decide +kernel⟩,
    ⟨wst fun d => d.put (F.TMR_CTL_EN 0) 1, 0, by simp only [State.coreRuns, Dev.corksFresh]; decide +kernel⟩,
    ⟨wst fun d => d.put (F.TMR_CTL_EN 0) 1 |> fun d => d.setTm 0 { d.tm 0 with load := some (d.fab, 7, true) }, 0, 7, true, by simp only [State.coreRuns, Dev.corksFresh]; decide +kernel⟩⟩

theorem test_witness_racking_channels :
    (∃ (s : State) (n : Fin 16), s.coreRuns ∧ s.dev.flag (F.RK_CTL_EN n) = true ∧ s.dev.rak.queue.contains n.val = false)
    ∧ (∃ (s : State) (n : Fin 16), s.coreRuns ∧ s.dev.flag (F.RK_CTL_EN n) = true ∧ s.dev.rak.queue.contains n.val = true)
    ∧ (∃ (s : State) (n : Nat) (r : List Nat), s.coreRuns ∧ s.dev.rak.running = none ∧ s.dev.rak.queue = n :: r)
    ∧ (∃ (s : State) (n : Nat), s.coreRuns ∧ s.dev.rak.running = some n)
    ∧ (∃ (s : State) (n : Nat) (x : Dev), s.coreRuns ∧ s.dev.rak.running = some n ∧ s.dev.get (F.RK_REM_REM n) < s.dev.rakEsz n ∧ s.dev.rakAwait n = x ∧ x.rak.running = some n)
    ∧ (∃ (s : State) (n : Fin 16), s.coreRuns ∧ s.busDev.corksFresh ∧ s.dev.flag (F.RK_CTL_EN n) = true) :=
  ⟨⟨wst fun d => d.put (F.RK_CTL_EN 0) 1, 0, by simp only [State.coreRuns, Dev.corksFresh]; decide +kernel⟩,
    ⟨wst fun d => d.put (F.RK_CTL_EN 0) 1 |> fun d => { d with rak := { d.rak with queue := [0] } }, 0, by simp only [State.coreRuns, Dev.corksFresh]; decide +kernel⟩,
    ⟨wst fun d => { d with rak := { d.rak with running := none } } |> fun d => { d with rak := { d.rak with queue := 0 :: ([]) } }, 0, [], by simp only [State.coreRuns, Dev.corksFresh]; decide +kernel⟩,
    ⟨wst fun d => { d with rak := { d.rak with running := some 0 } }, 0, by simp only [State.coreRuns, Dev.corksFresh]; decide +kernel⟩,
    ⟨wst fun d => { d with rak := { d.rak with running := some 0 } } |> fun d => { d with rak := { d.rak with running := some 0 } }, 0, (wst fun d => { d with rak := { d.rak with running := some 0 } } |> fun d => { d with rak := { d.rak with running := some 0 } }).dev.rakAwait 0, by simp only [State.coreRuns, Dev.corksFresh]; decide +kernel⟩,
    ⟨wst fun d => d.put (F.RK_CTL_EN 0) 1, 0, by simp only [State.coreRuns, Dev.corksFresh, State.busDev]; decide +kernel⟩⟩

theorem test_witness_interrupt_controller :
    (∃ (s : State) (src : Fin 1024), s.coreRuns ∧ s.dev.get (F.ICU_SRC_COALT src) ≠ 0 ∧ (smGet s.dev.icu.coal (0, 0) src).1 ≠ 0 ∧ icuReserved src = false ∧ (smGet s.dev.icu.coal (0, 0) src).2 + 400 * 2 ^ s.dev.get (F.ICU_SRC_COALT src) ≤ s.dev.fab)
    ∧ (∃ (s : State) (src : Fin 1024), s.coreRuns ∧ s.dev.get (F.ICU_SRC_COALT src) ≠ 0 ∧ (smGet s.dev.icu.coal (0, 0) src).1 ≠ 0)
    ∧ (∃ (s : State) (src : Fin 1024) (data : Nat), s.coreRuns ∧ src.val < 25 ∧ bitOf data 31 = true)
    ∧ (∃ (s : State) (tgt : Fin 5) (src : Nat), s.coreRuns ∧ s.dev.icuBest tgt = some src ∧ src < 1024)
    ∧ (∃ (s : State) (tgt : Fin 5), s.coreRuns ∧ s.dev.icuBest tgt = none)
    ∧ (∃ (s : State) (tgt : Fin 5) (src : Fin 1024), s.coreRuns ∧ s.dev.icu.srv.any (fun e => e.1 == tgt.val && e.2.1 == src.val) = true ∧ s.dev.icuLevel src = false ∧ smGet s.dev.icu.again 0 src = 0)
    ∧ (∃ (s : State) (tgt : Fin 5) (src : Fin 1024), s.coreRuns ∧ s.dev.icu.srv.any (fun e => e.1 == tgt.val && e.2.1 == src.val) = false) :=
  ⟨⟨wst fun d => d.put (F.ICU_SRC_COALT 0) 1 |> fun d => { d with icu := { d.icu with coal := [(0, (1, 0))] } } |> fun d => { d with fab := 100000000000 }, 0, by simp only [State.coreRuns, Dev.corksFresh]; decide +kernel⟩,
    ⟨wst fun d => d.put (F.ICU_SRC_COALT 0) 1 |> fun d => { d with icu := { d.icu with coal := [(0, (1, 0))] } }, 0, by simp only [State.coreRuns, Dev.corksFresh]; decide +kernel⟩,
    ⟨State.reset, 24, 0x80000000, by simp only [State.coreRuns, Dev.corksFresh]; decide +kernel⟩,
    ⟨wst fun d => d.setAbit (R.ICU_PEND 0) 5 true |>.put (F.ICU_SRC_EN 5) 1 |>.put (F.ICU_SRC_TGT 5) 1 |>.put (F.ICU_SRC_PRIO 5) 15, 0, 5, by simp only [State.coreRuns, Dev.corksFresh]; decide +kernel⟩,
    ⟨State.reset, 0, by simp only [State.coreRuns, Dev.corksFresh]; decide +kernel⟩,
    ⟨wst fun d => { d with icu := { d.icu with srv := [(0, 0, 0)] } }, 0, 0, by simp only [State.coreRuns, Dev.corksFresh]; decide +kernel⟩,
    ⟨State.reset, 0, 0, by simp only [State.coreRuns, Dev.corksFresh]; decide +kernel⟩⟩

theorem test_witness_reset_inputs :
    (∃ (s : State), s.dev.corksFresh ∧ s.dev.rst.vbat = true)
    ∧ (∃ (s : State), s.celRuns ∧ s.dev.flag F.MGS_STAT_TRIAL = false)
    ∧ (∃ (s : State), s.celRuns ∧ s.dev.rst.sys = true ∧ s.dev.mgs.pllHold = false ∧ s.dev.cflag F.CEL_STAT_COREEN = true ∧ s.dev.flag F.CLK_STAT_XGOOD = true ∧ s.dev.flag F.CLK_REF_CFG_PREF = false)
    ∧ (∃ (s : State), s.celRuns ∧ s.dev.cflag F.CEL_STAT_COREEN = false) :=
  ⟨⟨wst fun d => { d with rst := { d.rst with vbat := true } }, by simp only [Dev.corksFresh]; decide +kernel⟩,
    ⟨wst fun d => d.put F.MGS_STAT_TRIAL 0, by simp only [State.celRuns, Dev.corksFresh]; decide +kernel⟩,
    ⟨wst fun d => { d with rst := { d.rst with sys := true } } |> fun d => { d with mgs := { d.mgs with pllHold := false } } |>.cput F.CEL_STAT_COREEN 1 |>.put F.CLK_STAT_XGOOD 1 |>.put F.CLK_REF_CFG_PREF 0, by simp only [State.celRuns, Dev.corksFresh]; decide +kernel⟩,
    ⟨wst fun d => d.cput F.CEL_STAT_COREEN 0, by simp only [State.celRuns, Dev.corksFresh]; decide +kernel⟩⟩

theorem test_witness_boot_and_banks :
    (∃ (s : State), s.sysRuns ∧ s.dev.mgs.running = false ∧ s.dev.boardTest = false)
    ∧ (∃ (s : State), s.sysRuns ∧ s.dev.mgs.running = true)
    ∧ (∃ (s : State), s.sysRuns ∧ s.dev.mgs.shutdown = false ∧ s.dev.boardTest = false ∧ s.dev.cget F.CEL_STAT_PSTATE ≠ 3)
    ∧ (∃ (s : State) (req : Fin 10), s.sysRuns ∧ req.val ≠ 7)
    ∧ (∃ (s : State), s.sysRuns ∧ s.dev.flag F.MGS_STAT_TRIAL = true)
    ∧ (∃ (s : State), s.sysRuns ∧ s.dev.flag F.MGS_STAT_TRIAL = true ∧ s.dev.mgs.bootAt + 10 * 400000000 ≤ s.dev.fab)
    ∧ (∃ (s : State), s.sysRuns ∧ s.dev.flag F.MGS_STAT_TRIAL = false)
    ∧ (∃ (s : State) (bank : Bool), s.sysRuns ∧ s.dev.flag F.MGS_FW_STAT_VERIFIED = true ∧ s.dev.flag F.MGS_STAT_BANK ≠ bank ∧ s.dev.flag F.MGS_STAT_TRIAL = false)
    ∧ (∃ (s : State), s.sysRuns ∧ s.dev.flag F.MGS_FW_STAT_VERIFIED = false)
    ∧ (∃ (s : State), s.dev.corksFresh ∧ s.dev.mgs.pllHold = false)
    ∧ (∃ (s : State), s.dev.corksFresh ∧ s.dev.mgs.pllHold = true) :=
  ⟨⟨wst fun d => { d with mgs := { d.mgs with running := false } }, by simp only [State.sysRuns, Dev.corksFresh]; decide +kernel⟩,
    ⟨wst fun d => { d with mgs := { d.mgs with running := true } }, by simp only [State.sysRuns, Dev.corksFresh]; decide +kernel⟩,
    ⟨wst fun d => { d with mgs := { d.mgs with shutdown := false } }, by simp only [State.sysRuns, Dev.corksFresh]; decide +kernel⟩,
    ⟨State.reset, 0, by simp only [State.sysRuns, Dev.corksFresh]; decide +kernel⟩,
    ⟨wst fun d => d.put F.MGS_STAT_TRIAL 1, by simp only [State.sysRuns, Dev.corksFresh]; decide +kernel⟩,
    ⟨wst fun d => d.put F.MGS_STAT_TRIAL 1 |> fun d => { d with fab := 100000000000 }, by simp only [State.sysRuns, Dev.corksFresh]; decide +kernel⟩,
    ⟨wst fun d => d.put F.MGS_STAT_TRIAL 0, by simp only [State.sysRuns, Dev.corksFresh]; decide +kernel⟩,
    ⟨wst fun d => d.put F.MGS_FW_STAT_VERIFIED 1 |>.put F.MGS_STAT_TRIAL 0, true, by simp only [State.sysRuns, Dev.corksFresh]; decide +kernel⟩,
    ⟨wst fun d => d.put F.MGS_FW_STAT_VERIFIED 0, by simp only [State.sysRuns, Dev.corksFresh]; decide +kernel⟩,
    ⟨wst fun d => { d with mgs := { d.mgs with pllHold := false } }, by simp only [Dev.corksFresh]; decide +kernel⟩,
    ⟨wst fun d => { d with mgs := { d.mgs with pllHold := true } }, by simp only [Dev.corksFresh]; decide +kernel⟩⟩

theorem test_witness_monitors_and_spares :
    (∃ (s : State) (v : Fin 24) (mv : Nat), s.sysRuns ∧ v.val ≠ 18 ∧ s.dev.get (F.MGS_VLIM_UVL v) ≤ mv ∧ mv ≤ s.dev.get (F.MGS_VLIM_OVL v))
    ∧ (∃ (s : State) (mv : Nat), s.sysRuns ∧ s.dev.get (F.MGS_VLIM_UVL 18) ≤ mv ∧ mv ≤ s.dev.get (F.MGS_VLIM_OVL 18) ∧ 2800 ≤ mv)
    ∧ (∃ (s : State), s.sysRuns ∧ s.dev.spareAuto 4 = false)
    ∧ (∃ (s : State) (sector : Fin 1024), s.sysRuns ∧ ((s.start.incSat F.MGS_ECC_MUE).sectorLost sector |>.raise 21 9 sector 2).spareAuto 4 = false)
    ∧ (∃ (s : State), s.sysRuns ∧ s.dev.spareAuto 2 = false)
    ∧ (∃ (s : State) (unit : Nat) (l : Nat), s.sysRuns ∧ s.dev.rst.core = false ∧ findN 32 (fun l => s.dev.get (F.PRD_PMAP_PE l) == unit) = some l)
    ∧ (∃ (s : State) (unit : Nat), s.sysRuns ∧ unit < 4096)
    ∧ (∃ (s : State) (unit : Nat), s.sysRuns ∧ unit < 960) :=
  ⟨⟨wst fun d => d.put (F.MGS_VLIM_UVL 0) 1000 |>.put (F.MGS_VLIM_OVL 0) 1000, 0, 1000, by simp only [State.sysRuns, Dev.corksFresh]; decide +kernel⟩,
    ⟨wst fun d => d.put (F.MGS_VLIM_UVL 18) 1000 |>.put (F.MGS_VLIM_OVL 18) 4000, 2800, by simp only [State.sysRuns, Dev.corksFresh]; decide +kernel⟩,
    ⟨wst fun d => d.put F.MGS_SPARE_CFG_AUTO 0, by simp only [State.sysRuns, Dev.corksFresh]; decide +kernel⟩,
    ⟨wst fun d => d.put F.MGS_SPARE_CFG_AUTO 0, 0, by simp only [State.sysRuns, Dev.corksFresh]; decide +kernel⟩,
    ⟨wst fun d => d.put F.MGS_SPARE_CFG_AUTO 0, by simp only [State.sysRuns, Dev.corksFresh]; decide +kernel⟩,
    ⟨State.reset, 0, 0, by simp only [State.sysRuns, Dev.corksFresh]; decide +kernel⟩,
    ⟨State.reset, 4095, by simp only [State.sysRuns, Dev.corksFresh]; decide +kernel⟩,
    ⟨State.reset, 959, by simp only [State.sysRuns, Dev.corksFresh]; decide +kernel⟩⟩

theorem test_witness_power_domains_and_sleep :
    (∃ (s : State) (dom : Fin 8), s.sysRuns ∧ 1 ≤ dom.val ∧ dom.val < 7 ∧ s.dev.domState dom = 0)
    ∧ (∃ (s : State) (dom : Fin 8), s.sysRuns ∧ (dom.val = 0 ∨ dom.val = 7))
    ∧ (∃ (s : State) (dom : Fin 8), s.sysRuns ∧ 1 ≤ dom.val ∧ dom.val < 7 ∧ s.dev.domState dom = 2)
    ∧ (∃ (s : State) (dom : Fin 8), s.sysRuns ∧ s.dev.domState dom = 1)
    ∧ (∃ (s : State) (dom : Fin 8), s.sysRuns ∧ s.dev.domState dom = 3)
    ∧ (∃ (s : State), s.sysRuns ∧ s.busDev.sleepOk = true ∧ (∀ k, k < 7 → k ≠ 0 → s.busDev.domState k ≠ 2))
    ∧ (∃ (s : State), s.sysRuns ∧ s.busDev.sleepOk = true)
    ∧ (∃ (s : State), s.sysRuns ∧ s.busDev.sleepOk = false)
    ∧ (∃ (s : State), s.celRuns ∧ s.dev.cflag F.CEL_STAT_SLOWOK = true ∧ (s.dev.crd R.CEL_WAKE_CFG).getLsbD 16 = true ∧ s.dev.cget F.CEL_STAT_PSTATE = 2 ∧ slowMs ≤ s.dev.clr.low)
    ∧ (∃ (s : State), s.celRuns ∧ s.dev.cflag F.CEL_STAT_SLOWOK = true ∧ s.dev.cget F.CEL_WTIMER_N ≠ 0 ∧ (s.dev.crd R.CEL_WAKE_CFG).getLsbD 17 = true ∧ s.dev.cget F.CEL_STAT_PSTATE = 2 ∧ s.dev.clr.low < slowMs ∧ s.dev.cget F.CEL_WTIMER_N < slowMs)
    ∧ (∃ (s : State) (w : Fin 2), s.celRuns ∧ s.dev.cflag (F.CEL_MWCFG_EN w) = true ∧ s.dev.cflag F.CEL_STAT_SLOWOK = true ∧ smGet s.dev.clr.mwRun 0 w = 0)
    ∧ (∃ (s : State), s.celRuns ∧ s.dev.cget F.CEL_STAT_PSTATE = 2 ∧ s.dev.clr.held ≠ 0) :=
  ⟨⟨wst fun d => d.put (F.PWR_DOM_STAT_STATE 6) 0, 6, by simp only [State.sysRuns, Dev.corksFresh]; decide +kernel⟩,
    ⟨State.reset, 0, by simp only [State.sysRuns, Dev.corksFresh]; decide +kernel⟩,
    ⟨wst fun d => d.put (F.PWR_DOM_STAT_STATE 6) 2, 6, by simp only [State.sysRuns, Dev.corksFresh]; decide +kernel⟩,
    ⟨wst fun d => d.put (F.PWR_DOM_STAT_STATE 0) 1, 0, by simp only [State.sysRuns, Dev.corksFresh]; decide +kernel⟩,
    ⟨wst fun d => d.put (F.PWR_DOM_STAT_STATE 0) 3, 0, by simp only [State.sysRuns, Dev.corksFresh]; decide +kernel⟩,
    ⟨wst fun d => d.put (F.PWR_DOM_STAT_STATE 1) 0 |>.put (F.PWR_DOM_STAT_STATE 2) 0 |>.put (F.PWR_DOM_STAT_STATE 3) 0 |>.put (F.PWR_DOM_STAT_STATE 4) 0 |>.put (F.PWR_DOM_STAT_STATE 5) 0 |>.put (F.PWR_DOM_STAT_STATE 6) 0, by simp only [State.sysRuns, Dev.corksFresh]; decide +kernel⟩,
    ⟨State.reset, by simp only [State.sysRuns, Dev.corksFresh]; decide +kernel⟩,
    ⟨wst fun d => d.put F.MIR_STAT_STATE 5, by simp only [State.sysRuns, Dev.corksFresh]; decide +kernel⟩,
    ⟨wst fun d => d.cput F.CEL_STAT_SLOWOK 1 |>.cput F.CEL_STAT_PSTATE 2 |>.cwr R.CEL_WAKE_CFG 0x10000 |> fun d => { d with clr := { d.clr with low := slowMs } }, by simp only [State.celRuns, Dev.corksFresh]; decide +kernel⟩,
    ⟨wst fun d => d.cput F.CEL_STAT_SLOWOK 1 |>.cput F.CEL_STAT_PSTATE 2 |>.cwr R.CEL_WTIMER 1 |>.cwr R.CEL_WAKE_CFG 0x20000, by simp only [State.celRuns, Dev.corksFresh]; decide +kernel⟩,
    ⟨wst fun d => d.cput (F.CEL_MWCFG_EN 0) 1 |>.cput F.CEL_STAT_SLOWOK 1, 0, by simp only [State.celRuns, Dev.corksFresh]; decide +kernel⟩,
    ⟨wst fun d => d.cput F.CEL_STAT_PSTATE 2 |> fun d => { d with clr := { d.clr with held := 1 } }, by simp only [State.celRuns, Dev.corksFresh]; decide +kernel⟩⟩

theorem test_witness_test_access_and_debug :
    (∃ (s : State), s.dev.corksFresh ∧ s.dev.jlocked = true)
    ∧ (∃ (s : State), s.dev.corksFresh ∧ s.dev.boardTest = true)
    ∧ (∃ (s : State), s.dev.corksFresh ∧ s.dev.boardTest = false)
    ∧ (∃ (s : State), s.dev.corksFresh ∧ s.dev.jlocked = false)
    ∧ (∃ (s : State), s.busRuns 9 ∧ s.busDev.jlocked = false)
    ∧ (∃ (s : State), s.busRuns 9 ∧ s.busDev.jlocked = true)
    ∧ (∃ (s : State) (req : Fin 10), s.sysRuns ∧ req.val ≠ 9)
    ∧ (∃ (s : State), s.sysRuns ∧ s.dev.mirState ≤ 3)
    ∧ (∃ (s : State), s.sysRuns ∧ 4 ≤ s.dev.mirState)
    ∧ (∃ (s : State) (data : Nat), s.sysRuns ∧ bitOf data 31 = true ∧ data % 64 < 34 ∧ s.dev.pairIdle (data % 64) = true)
    ∧ (∃ (s : State) (data : Nat), s.sysRuns ∧ bitOf data 31 = true ∧ data % 64 < 34 ∧ s.dev.pairIdle (data % 64) = false)
    ∧ (∃ (s : State) (data : Nat), s.sysRuns ∧ bitOf data 30 = false ∧ bitOf data 31 = false)
    ∧ (∃ (s : State) (data : Nat), s.sysRuns ∧ bitOf data 30 = true ∧ s.dev.get F.DBG_STAT_TMODE ≠ 2) :=
  ⟨⟨wst fun d => d.put F.DBG_CTL_JLOCK 1, by simp only [Dev.corksFresh]; decide +kernel⟩,
    ⟨wst fun d => d.put F.DBG_STAT_TMODE 1, by simp only [Dev.corksFresh]; decide +kernel⟩,
    ⟨State.reset, by simp only [Dev.corksFresh]; decide +kernel⟩,
    ⟨wst fun d => d.put F.DBG_CTL_JLOCK 0, by simp only [Dev.corksFresh]; decide +kernel⟩,
    ⟨wst fun d => d.put F.DBG_CTL_JLOCK 0, by simp only [Dev.corksFresh, State.busRuns, State.busDev]; decide +kernel⟩,
    ⟨wst fun d => d.put F.DBG_CTL_JLOCK 1, by simp only [Dev.corksFresh, State.busRuns, State.busDev]; decide +kernel⟩,
    ⟨State.reset, 0, by simp only [State.sysRuns, Dev.corksFresh]; decide +kernel⟩,
    ⟨State.reset, by simp only [State.sysRuns, Dev.corksFresh]; decide +kernel⟩,
    ⟨wst fun d => d.put F.MIR_STAT_STATE 4, by simp only [State.sysRuns, Dev.corksFresh]; decide +kernel⟩,
    ⟨wst fun d => d.put (F.PWR_DOM_STAT_STATE 1) 2 |>.put (F.TLK_CTL_EN 0) 0, 0x80000000, by simp only [State.sysRuns, Dev.corksFresh]; decide +kernel⟩,
    ⟨wst fun d => d.put F.MIR_CTL_EN 1, 0x80000021, by simp only [State.sysRuns, Dev.corksFresh]; decide +kernel⟩,
    ⟨State.reset, 0, by simp only [State.sysRuns, Dev.corksFresh]; decide +kernel⟩,
    ⟨State.reset, 0x40000000, by simp only [State.sysRuns, Dev.corksFresh]; decide +kernel⟩⟩

theorem test_witness_core_domain_commands_complete_1 :
    (∃ (s : State) (req : Fin 10) (off : Nat) (c : Nat), s.busRuns req ∧ placeOf (off % 2 ^ 25) = .reg c ∧ s.busDev.inReset c = false ∧ off % 4 = 0 ∧ s.busDev.isOff c = false)
    ∧ (∃ (s : State) (req : Fin 10) (off : Nat) (data : Nat) (c : Nat) (b : Nat), s.busRuns req ∧ placeOf (off % 2 ^ 25) = .reg c ∧ s.busDev.inReset c = false ∧ (s.busDev.regWrite req c (data % 2 ^ 32)).inReset b = false ∧ placeOf (off % 2 ^ 25 + 4) = .reg b ∧ off % 8 = 0 ∧ s.busDev.isOff c = false)
    ∧ (∃ (s : State) (req : Fin 10) (off : Nat), s.busRuns req ∧ placeOf (off % 2 ^ 25) = .out)
    ∧ (∃ (s : State) (req : Fin 10) (off : Nat) (size : Nat) (wr : Bool), s.busRuns req ∧ inWindow off = true ∧ sizeOk size = true ∧ (off % size ≠ 0 ∨ (wr = true ∧ size < 4)))
    ∧ (∃ (s : State) (req : Fin 10) (off : Nat) (c : Nat), s.busRuns req ∧ placeOf (off % 2 ^ 25) = .reg c ∧ off % 4 = 0 ∧ s.busDev.isOff c = true)
    ∧ (∃ (s : State) (req : Fin 10) (off : Nat) (size : Nat) (a : Nat), s.busRuns req ∧ placeOf (off % 2 ^ 25) = .mem a ∧ s.busDev.rst.core = false ∧ sizeOk size = true)
    ∧ (∃ (s : State) (req : Fin 10) (off : Nat) (c : Nat) (b : Nat), s.busRuns req ∧ placeOf (off % 2 ^ 25) = .reg c ∧ s.busDev.inReset c = false ∧ (s.busDev.regRead req c).inReset b = false ∧ placeOf (off % 2 ^ 25 + 4) = .reg b ∧ off % 8 = 0 ∧ s.busDev.isOff c = false)
    ∧ (∃ (s : State) (grp : Nat), s.coreRuns ∧ grp % 256 ≠ 0 ∧ s.dev.following = false ∧ s.dev.strobeBusy (grp % 256) = false)
    ∧ (∃ (s : State) (grp : Nat), s.coreRuns ∧ grp % 256 ≠ 0 ∧ s.dev.following = false ∧ s.dev.strobeBusy (grp % 256) = true)
    ∧ (∃ (s : State) (k : Fin 16) (p : PendSwap), s.coreRuns ∧ (s.dev.tk k).pend = some p ∧ (if p.rev then (s.dev.tk k).lin ≤ p.bound else p.bound ≤ (s.dev.tk k).lin))
    ∧ (∃ (s : State) (k : Fin 16) (q : PendSwap) (p : PendSwap), s.coreRuns ∧ (s.dev.tk k).pend = some q ∧ ((s.dev.until (s.dev.updEnd q)).tk k).pend = some p)
    ∧ (∃ (s : State) (req : Fin 10) (off : Nat) (c : Nat) (b : Nat), s.busRuns req ∧ placeOf (off % 2 ^ 25) = .reg c ∧ s.busDev.inReset c = false ∧ off % 4 = 0 ∧ s.busDev.isOff c = false ∧ fltBlk c = none ∧ corkBlk c = some b)
    ∧ (∃ (s : State) (off : Nat) (a : Nat) (c : Cork), s.coreRuns ∧ placeOf (off % 2 ^ 25) = .reg a ∧ s.dev.corkAt a = some c)
    ∧ (∃ (s : State) (req : Fin 10) (off : Nat) (o : Nat), s.busRuns req ∧ placeOf (off % 2 ^ 25) = .bitWord o ∧ s.busDev.rst.core = false ∧ off % 4 = 0)
    ∧ (∃ (s : State) (req : Fin 10) (blk : Fin 25), s.busRuns req ∧ s.busDev.isOff (fltBase blk + 0x18) = false ∧ s.busDev.inReset (fltBase blk + 0x18) = false ∧ fltNone blk = false)
    ∧ (∃ (s : State) (k : Fin 16) (e : Machine.Edge) (r : List Machine.Edge), s.coreRuns ∧ (s.dev.tk k).priQ = e :: r ∧ s.dev.get (F.TRK_CFG_DIR_SRC k) = 1)
    ∧ (∃ (s : State) (k : Fin 16) (e : Machine.Edge) (r : List Machine.Edge), s.coreRuns ∧ (s.dev.tk k).priQ = e :: r ∧ s.dev.get (F.TRK_CFG_DIR_SRC k) = 2)
    ∧ (∃ (s : State) (k : Fin 16) (e : Machine.Edge) (r : List Machine.Edge), s.coreRuns ∧ (s.dev.tk k).priQ = e :: r ∧ s.dev.get (F.TRK_CFG_DIR_SRC k) ≠ 1 ∧ s.dev.get (F.TRK_CFG_DIR_SRC k) ≠ 2)
    ∧ (∃ (s : State) (k : Fin 16) (n : Nat), s.coreRuns ∧ 3 ≤ s.dev.tstate k ∧ s.dev.tstate k ≤ 5 ∧ s.dev.flag (F.TRK_CFG_KIND k) = false ∧ (s.dev.tk k).skip = false ∧ (s.dev.tk k).qsFirst = false ∧ s.dev.synFast k = true ∧ whSpan (s.dev.tk k).wheel ((s.dev.geo k).pos (s.dev.tk k).bnd) (s.dev.tk k).rev = n ∧ ((s.dev.tk k).pwQ ++ (s.dev.tk k).priQ).any (fun e => decide (e.stamp ≤ (s.dev.tk k).lastT + (s.dev.get (F.TRK_TOL_TOL_HI k) * (n * (s.dev.tk k).pn) + 31) / 32)) = false)
    ∧ (∃ (s : State) (k : Fin 16) (e : Machine.Edge) (r : List Machine.Edge), s.coreRuns ∧ (s.dev.tk k).pwQ = e :: r) :=
  ⟨⟨State.reset, 0, 0, 0, by simp only [Dev.corksFresh, State.busRuns, State.busDev]; decide +kernel⟩,
    ⟨State.reset, 0, 0x48, 0, 0x48, 0x4C, by simp only [Dev.corksFresh, State.busRuns, State.busDev]; decide +kernel⟩,
    ⟨State.reset, 0, 0x280000, by simp only [Dev.corksFresh, State.busRuns, State.busDev]; decide +kernel⟩,
    ⟨State.reset, 0, 0x4A, 4, false, by simp only [Dev.corksFresh, State.busRuns, State.busDev]; decide +kernel⟩,
    ⟨State.reset, 0, R.ADC_CTL 0, R.ADC_CTL 0, by simp only [Dev.corksFresh, State.busRuns, State.busDev]; decide +kernel⟩,
    ⟨State.reset, 0, 0x200003, 8, 0x200003, by simp only [Dev.corksFresh, State.busRuns, State.busDev]; decide +kernel⟩,
    ⟨State.reset, 0, 0x48, 0x48, 0x4C, by simp only [Dev.corksFresh, State.busRuns, State.busDev]; decide +kernel⟩,
    ⟨State.reset, 1, by simp only [State.coreRuns, Dev.corksFresh]; decide +kernel⟩,
    ⟨wst fun d => d.put F.SYS_UPD_PEND_GRP_PEND 1, 1, by simp only [State.coreRuns, Dev.corksFresh]; decide +kernel⟩,
    ⟨wst fun d => d.upTk 0 (fun y => { y with pend := some (⟨1, 0, false, 0⟩ : PendSwap) }), 0, ⟨1, 0, false, 0⟩, by simp only [State.coreRuns, Dev.corksFresh]; decide +kernel⟩,
    ⟨wst fun d => { d with fab := 100000000000 } |>.upTk 0 (fun y => { y with pend := some (⟨1, 0, false, 0⟩ : PendSwap) }), 0, ⟨1, 0, false, 0⟩, ⟨1, 0, false, 0⟩, by simp only [State.coreRuns, Dev.corksFresh]; decide +kernel⟩,
    ⟨State.reset, 0, 0xE2000, 0xE2000, 10, by simp only [Dev.corksFresh, State.busRuns, State.busDev]; decide +kernel⟩,
    ⟨wst fun d => { d with fab := 9, corks := [(⟨0xE2000, 1, 1, 0⟩ : Cork)] }, 0xE2000, 0xE2000, ⟨0xE2000, 1, 1, 0⟩, by simp only [State.coreRuns, Dev.corksFresh]; decide +kernel⟩,
    ⟨State.reset, 0, 0x1E0000, 0, by simp only [Dev.corksFresh, State.busRuns, State.busDev]; decide +kernel⟩,
    ⟨State.reset, 0, 0, by simp only [Dev.corksFresh, State.busRuns, State.busDev]; decide +kernel⟩,
    ⟨wst fun d => d.upTk 0 (fun y => { y with priQ := wedge :: ([]) }) |>.put (F.TRK_CFG_DIR_SRC 0) 1, 0, wedge, [], by simp only [State.coreRuns, Dev.corksFresh]; decide +kernel⟩,
    ⟨wst fun d => d.upTk 0 (fun y => { y with priQ := wedge :: ([]) }) |>.put (F.TRK_CFG_DIR_SRC 0) 2, 0, wedge, [], by simp only [State.coreRuns, Dev.corksFresh]; decide +kernel⟩,
    ⟨wst fun d => d.upTk 0 (fun y => { y with priQ := wedge :: ([]) }), 0, wedge, [], by simp only [State.coreRuns, Dev.corksFresh]; decide +kernel⟩,
    ⟨wst fun d => d.put (F.TRK_STAT_STATE 0) 3 |>.put (F.TRK_CFG_KIND 0) 0 |>.upTk 0 (fun y => { y with skip := false }) |>.upTk 0 (fun y => { y with qsFirst := false }), 0, 0, by simp only [State.coreRuns, Dev.corksFresh]; decide +kernel⟩,
    ⟨wst fun d => d.upTk 0 (fun y => { y with pwQ := wedge :: ([]) }), 0, wedge, [], by simp only [State.coreRuns, Dev.corksFresh]; decide +kernel⟩⟩

theorem test_witness_core_domain_commands_complete_2 :
    (∃ (s : State) (k : Fin 16) (e : Machine.Edge) (r : List Machine.Edge), s.coreRuns ∧ (s.dev.tk k).phQ = e :: r)
    ∧ (∃ (s : State) (k : Fin 16) (a : Int), s.coreRuns ∧ (s.dev.tk k).phNext = some a ∧ 5 ≤ s.dev.tstate k)
    ∧ (∃ (s : State) (k : Fin 16) (st : Nat), s.coreRuns ∧ s.dev.tstate k = st ∧ 2 ≤ st)
    ∧ (∃ (s : State) (k : Fin 16) (w : Word × Word), s.celRuns ∧ (s.dev.tk k).stop = some w ∧ s.dev.cflag F.CEL_STAT_SLOWOK = true)
    ∧ (∃ (s : State) (k : Fin 16) (r : ToothRec) (q : List ToothRec) (kind : Nat), s.coreRuns ∧ (s.dev.tk k).recs = r :: q ∧ kind = (match r.kind with | .real => 0 | .synth => 1 | .phase => 2) ∧ s.dev.follows k = false ∧ ((s.dev.setTk k { s.dev.tk k with recs := q }).mirTooth k kind r.rev r.dchg r.span (((s.dev.setTk k { s.dev.tk k with recs := q }).geo k).pos r.bnd) r.lin r.stamp).follows k = false)
    ∧ (∃ (s : State) (uid : Nat) (o : Occ) (p : OPulse), s.coreRuns ∧ s.dev.occ? uid = some o ∧ o.head = some p)
    ∧ (∃ (s : State) (k : Fin 16), s.coreRuns ∧ ((s.dev.scht k).prep || (s.dev.scht k).prepIn) = true)
    ∧ (∃ (s : State) (k : Fin 16) (sp : Fin 64) (a : Int) (rev : Bool) (at_ : Nat), s.coreRuns ∧ (s.dev.prsReady k).prsNext = some (k.val, (sp.val, a, rev, at_)))
    ∧ (∃ (s : State) (n : Fin 16) (p : Fin 4) (seq : Nat) (f : DFrame), s.coreRuns ∧ (s.dev.lp n p).unack.find? (fun f => f.seq == seq) = some f)
    ∧ (∃ (s : State) (n : Fin 16) (p : Fin 4) (tt : Nat) (res : Nat) (rtt : Nat) (l : List Int), s.coreRuns ∧ s.dev.reached n p = true ∧ s.dev.linkUp n = true ∧ (s.dev.lp n p).echo ++ [(rtt : Int) - tt - res] = l ∧ l.length < s.dev.echon n)
    ∧ (∃ (s : State) (n : Fin 16) (p : Fin 4) (tt : Nat) (res : Nat) (rtt : Nat) (l : List Int) (m : List Int), s.coreRuns ∧ s.dev.reached n p = true ∧ s.dev.linkUp n = true ∧ (s.dev.lp n p).echo ++ [(rtt : Int) - tt - res] = l ∧ s.dev.echon n ≤ l.length ∧ l.drop (l.length - s.dev.echon n) = m)
    ∧ (∃ (s : State) (n : Fin 16) (p : Fin 4) (handle : Nat) (pidx : Fin 8) (x : Occ × OPulse), s.coreRuns ∧ s.dev.byHandle (tileNo n p) handle (fun q => q.pidx == pidx.val) = some x)
    ∧ (∃ (s : State) (n : Fin 16) (p : Fin 4) (handle : Nat) (pidx : Fin 8), s.coreRuns ∧ s.dev.byHandle (tileNo n p) handle (fun q => q.pidx == pidx.val) = none)
    ∧ (∃ (s : State) (n : Fin 16) (p : Fin 4), s.coreRuns ∧ s.dev.reached n p = true ∧ s.dev.linkUp n = true)
    ∧ (∃ (s : State) (n : Fin 16) (p : Fin 4) (code : Nat), s.coreRuns ∧ s.dev.reached n p = true ∧ s.dev.linkUp n = true ∧ (code < 0x08 ∨ 0x0B < code))
    ∧ (∃ (s : State) (n : Fin 16) (p : Fin 4) (code : Nat), s.coreRuns ∧ s.dev.reached n p = true ∧ s.dev.linkUp n = true ∧ 0x08 ≤ code ∧ code ≤ 0x0B)
    ∧ (∃ (s : State) (n : Fin 16) (p : Fin 4) (proto : Nat) (nout : Nat) (slots : Nat), s.coreRuns ∧ (s.dev.lp n p).stage = 1 ∧ s.dev.linkUp n = true ∧ proto = 1 ∧ nout = 8 ∧ 16 ≤ slots)
    ∧ (∃ (s : State) (n : Fin 16) (p : Fin 4) (proto : Nat) (nout : Nat) (slots : Nat), s.coreRuns ∧ (s.dev.lp n p).stage = 1 ∧ s.dev.linkUp n = true ∧ (proto ≠ 1 ∨ nout ≠ 8 ∨ slots < 16))
    ∧ (∃ (s : State) (n : Fin 16) (p : Fin 4) (addr : Nat), s.coreRuns ∧ s.dev.flag (F.TIL_STAT_BUSY n) = true ∧ (s.dev.lk n).tilWr = false ∧ (s.dev.lk n).tilPos = p.val ∧ (s.dev.lk n).tilAddr = addr % 65536)
    ∧ (∃ (s : State) (n : Fin 16) (p : Fin 4) (handle : Nat) (wseq : Nat) (kind : Nat) (out : Fin 8) (t0 : Nat) (samples : List Int), s.coreRuns ∧ s.dev.flag F.CDT_CAP_EN = false ∧ (((s.dev.winsUpTo handle (8 * tileNo n p + out.val) (nearest 32 s.dev.tLink t0)).waveJoin (8 * tileNo n p + out.val) handle (wseq % 256) (nearest 32 s.dev.tLink t0) (voltages kind samples))).flag F.CDT_CAP_EN = false) :=
  ⟨⟨wst fun d => d.upTk 0 (fun y => { y with phQ := wedge :: ([]) }), 0, wedge, [], by simp only [State.coreRuns, Dev.corksFresh]; decide +kernel⟩,
    ⟨wst fun d => d.upTk 0 (fun y => { y with phNext := some 0 }) |>.put (F.TRK_STAT_STATE 0) 5, 0, 0, by simp only [State.coreRuns, Dev.corksFresh]; decide +kernel⟩,
    ⟨wst fun d => d.put (F.TRK_STAT_STATE 0) 2, 0, 2, by simp only [State.coreRuns, Dev.corksFresh]; decide +kernel⟩,
    ⟨wst fun d => d.upTk 0 (fun y => { y with stop := some ((1, 2)) }) |>.cput F.CEL_STAT_SLOWOK 1, 0, (1, 2), by simp only [State.celRuns, Dev.corksFresh]; decide +kernel⟩,
    ⟨wst fun d => d.upTk 0 (fun y => { y with recs := (⟨100, 5, 1, 1, false, .real, false, false, false⟩ : ToothRec) :: ([]) }), 0, ⟨100, 5, 1, 1, false, .real, false, false, false⟩, [], 0, by simp only [State.coreRuns, Dev.corksFresh]; decide +kernel⟩,
    ⟨wst fun d => { d with sch := { d.sch with occs := [(wocc [wopu])] } }, 1, wocc [wopu], wopu, by simp only [State.coreRuns, Dev.corksFresh]; decide +kernel⟩,
    ⟨wst fun d => d.setScht 0 { d.scht 0 with prep := true }, 0, by simp only [State.coreRuns, Dev.corksFresh]; decide +kernel⟩,
    ⟨wst fun d => d.setPs 0 { d.ps 0 with queue := [(0, 0, false, 0)] }, 0, 0, 0, false, 0, by simp only [State.coreRuns, Dev.corksFresh]; decide +kernel⟩,
    ⟨wst fun d => d.upLp 0 0 (fun y => { y with unack := [wfr] }), 0, 0, 9, wfr, by simp only [State.coreRuns, Dev.corksFresh]; decide +kernel⟩,
    ⟨wst fun d => d.put (F.TLK_POS_STATE 0 0) 1 |>.put (F.PWR_DOM_STAT_STATE (1 + 0 / 4)) 2 |>.put (F.TLK_CTL_EN 0) 1, 0, 0, 0, 0, 0, [0], by simp only [State.coreRuns, Dev.corksFresh]; decide +kernel⟩,
    ⟨wst fun d => d.put (F.TLK_POS_STATE 0 0) 1 |>.put (F.PWR_DOM_STAT_STATE (1 + 0 / 4)) 2 |>.put (F.TLK_CTL_EN 0) 1 |>.put (F.TLK_CFG_ECHON 0) 1, 0, 0, 0, 0, 0, [0], [0], by simp only [State.coreRuns, Dev.corksFresh]; decide +kernel⟩,
    ⟨wst fun d => { d with sch := { d.sch with occs := [wocc [wopu]] } }, 0, 0, 5, 2, (wocc [wopu], wopu), by simp only [State.coreRuns, Dev.corksFresh]; decide +kernel⟩,
    ⟨State.reset, 0, 0, 0, 0, by simp only [State.coreRuns, Dev.corksFresh]; decide +kernel⟩,
    ⟨wst fun d => d.put (F.TLK_POS_STATE 0 0) 1 |>.put (F.PWR_DOM_STAT_STATE (1 + 0 / 4)) 2 |>.put (F.TLK_CTL_EN 0) 1, 0, 0, by simp only [State.coreRuns, Dev.corksFresh]; decide +kernel⟩,
    ⟨wst fun d => d.put (F.TLK_POS_STATE 0 0) 1 |>.put (F.PWR_DOM_STAT_STATE (1 + 0 / 4)) 2 |>.put (F.TLK_CTL_EN 0) 1, 0, 0, 0, by simp only [State.coreRuns, Dev.corksFresh]; decide +kernel⟩,
    ⟨wst fun d => d.put (F.TLK_POS_STATE 0 0) 1 |>.put (F.PWR_DOM_STAT_STATE (1 + 0 / 4)) 2 |>.put (F.TLK_CTL_EN 0) 1, 0, 0, 8, by simp only [State.coreRuns, Dev.corksFresh]; decide +kernel⟩,
    ⟨wst fun d => d.upLp 0 0 (fun y => { y with stage := 1 }) |>.put (F.PWR_DOM_STAT_STATE (1 + 0 / 4)) 2 |>.put (F.TLK_CTL_EN 0) 1, 0, 0, 1, 8, 16, by simp only [State.coreRuns, Dev.corksFresh]; decide +kernel⟩,
    ⟨wst fun d => d.upLp 0 0 (fun y => { y with stage := 1 }) |>.put (F.PWR_DOM_STAT_STATE (1 + 0 / 4)) 2 |>.put (F.TLK_CTL_EN 0) 1, 0, 0, 0, 0, 0, by simp only [State.coreRuns, Dev.corksFresh]; decide +kernel⟩,
    ⟨wst fun d => d.put (F.TIL_STAT_BUSY 0) 1 |>.upLk 0 (fun y => { y with tilWr := false }) |>.upLk 0 (fun y => { y with tilPos := 0 }) |>.upLk 0 (fun y => { y with tilAddr := 0 % 65536 }), 0, 0, 0, by simp only [State.coreRuns, Dev.corksFresh]; decide +kernel⟩,
    ⟨wst fun d => d.put F.CDT_CAP_EN 0, 0, 0, 0, 0, 0, 0, 0, [], by simp only [State.coreRuns, Dev.corksFresh]; decide +kernel⟩⟩

theorem test_witness_core_domain_commands_complete_3 :
    (∃ (s : State) (n : Fin 16) (p : Fin 4) (seq : Nat) (f : DFrame), s.coreRuns ∧ (s.dev.lp n p).unack.find? (fun f => f.seq == seq) = some f ∧ f.retr < s.dev.get (F.TLK_CFG_RETRY n))
    ∧ (∃ (s : State) (n : Fin 16) (p : Fin 4) (seq : Nat) (f : DFrame), s.coreRuns ∧ (s.dev.lp n p).unack.find? (fun f => f.seq == seq) = some f ∧ s.dev.get (F.TLK_CFG_RETRY n) ≤ f.retr)
    ∧ (∃ (s : State) (n : Fin 16), s.coreRuns ∧ s.dev.linkUp n = true)
    ∧ (∃ (s : State) (n : Fin 16) (p : Fin 4), s.coreRuns ∧ s.dev.linkUp n = true ∧ s.dev.reached n p = true)
    ∧ (∃ (s : State) (n : Fin 16) (p : Fin 4), s.coreRuns ∧ (s.dev.lp n p).stage = 1)
    ∧ (∃ (s : State) (n : Fin 16), s.coreRuns ∧ s.dev.flag (F.TLK_STAT_LOCK n) = true)
    ∧ (∃ (s : State) (n : Fin 16) (p : Fin 4), s.coreRuns ∧ s.dev.reached n p = true)
    ∧ (∃ (s : State) (n : Fin 16), s.coreRuns ∧ s.dev.lgOn n = true)
    ∧ (∃ (s : State) (n : Fin 16) (p : Fin 4) (up : Bool), s.coreRuns ∧ s.dev.trained n p up = true)
    ∧ (∃ (s : State) (n : Fin 16), s.coreRuns ∧ s.dev.flag (F.TIL_STAT_BUSY n) = true)
    ∧ (∃ (s : State) (ch : Fin 512) (lim : Nat), s.coreRuns ∧ s.dev.get (F.CDT_CH_CFG_OFFT_CYC ch) = lim ∧ lim ≠ 0 ∧ (cntOf s.dev.sch.owner ch = 0 ∨ lim ≤ (s.dev.cc ch).cyc))
    ∧ (∃ (s : State) (ch : Fin 512) (w : CdtWin) (r : List CdtWin), s.coreRuns ∧ (s.dev.cc ch).wins = w :: r)
    ∧ (∃ (s : State) (ch : Fin 512) (x : Occ × OPulse) (r : List (Occ × OPulse)), s.coreRuns ∧ s.dev.sch.occs.flatMap (fun o => (o.pulses.filter (fun p => (p.ch == ch.val && p.clen && p.status.isNone) && !(s.dev.cc ch).begun.contains (o.uid, p.pidx))).map (fun p => (o, p))) = x :: r)
    ∧ (∃ (s : State), s.coreRuns ∧ (s.dev.mirState = 4 ∨ s.dev.mirState = 6))
    ∧ (∃ (s : State) (ask : Bool) (rel : Word), s.coreRuns ∧ s.dev.mirState ≠ 0 ∧ ask = (s.dev.mirState == 4 && s.dev.mir.held && !s.dev.allApplied) ∧ rel = (if s.dev.flag F.MGS_STAT_BANK then s.dev.rd R.MGS_FWREL_B else s.dev.rd R.MGS_FWREL_A))
    ∧ (∃ (s : State), s.coreRuns ∧ (s.dev.mirState = 5 ∨ (s.dev.mirState = 2 ∧ s.dev.flag F.MIR_STAT_PARTNER = true)))
    ∧ (∃ (s : State), s.coreRuns ∧ s.dev.mirState ≠ 0)
    ∧ (∃ (s : State) (f : MirHello), s.coreRuns ∧ f.ok = true ∧ s.dev.mirTakes f.seq)
    ∧ (∃ (s : State) (seq : Nat), s.coreRuns ∧ s.dev.mirTakes seq)
    ∧ (∃ (s : State), s.coreRuns ∧ s.dev.mirState = 6 ∧ 307 < (s.dev.geti F.MIR_OFS_OFS).natAbs) :=
  ⟨⟨wst fun d => d.upLp 0 0 (fun y => { y with unack := [wfr] }) |>.put (F.TLK_CFG_RETRY 0) 1, 0, 0, 9, wfr, by simp only [State.coreRuns, Dev.corksFresh]; decide +kernel⟩,
    ⟨wst fun d => d.upLp 0 0 (fun y => { y with unack := [wfr] }) |>.put (F.TLK_CFG_RETRY 0) 0, 0, 0, 9, wfr, by simp only [State.coreRuns, Dev.corksFresh]; decide +kernel⟩,
    ⟨wst fun d => d.put (F.PWR_DOM_STAT_STATE (1 + 0 / 4)) 2 |>.put (F.TLK_CTL_EN 0) 1, 0, by simp only [State.coreRuns, Dev.corksFresh]; decide +kernel⟩,
    ⟨wst fun d => d.put (F.PWR_DOM_STAT_STATE (1 + 0 / 4)) 2 |>.put (F.TLK_CTL_EN 0) 1 |>.put (F.TLK_POS_STATE 0 0) 1, 0, 0, by simp only [State.coreRuns, Dev.corksFresh]; decide +kernel⟩,
    ⟨wst fun d => d.upLp 0 0 (fun y => { y with stage := 1 }), 0, 0, by simp only [State.coreRuns, Dev.corksFresh]; decide +kernel⟩,
    ⟨wst fun d => d.put (F.TLK_STAT_LOCK 0) 1, 0, by simp only [State.coreRuns, Dev.corksFresh]; decide +kernel⟩,
    ⟨wst fun d => d.put (F.TLK_POS_STATE 0 0) 1, 0, 0, by simp only [State.coreRuns, Dev.corksFresh]; decide +kernel⟩,
    ⟨wst fun d => d.put (F.PWR_DOM_STAT_STATE (1 + 0 / 4)) 2, 0, by simp only [State.coreRuns, Dev.corksFresh]; decide +kernel⟩,
    ⟨wst fun d => d.upTs (tileNo 0 0) d.mySide (fun y => { y with sokD := true }), 0, 0, false, by simp only [State.coreRuns, Dev.corksFresh]; decide +kernel⟩,
    ⟨wst fun d => d.put (F.TIL_STAT_BUSY 0) 1, 0, by simp only [State.coreRuns, Dev.corksFresh]; decide +kernel⟩,
    ⟨wst fun d => d.put (F.CDT_CH_CFG_OFFT_CYC 0) 1 |>.put (F.CDT_CH_CFG_OFFT_CYC 0) 1, 0, 1, by simp only [State.coreRuns, Dev.corksFresh]; decide +kernel⟩,
    ⟨wst fun d => d.setCc 0 { d.cc 0 with wins := (wwin true none) :: ([]) }, 0, wwin true none, [], by simp only [State.coreRuns, Dev.corksFresh]; decide +kernel⟩,
    ⟨wst fun d => { d with sch := { d.sch with occs := [((wocc [{ wopu with clen := true }], { wopu with clen := true })).1] } }, 3, (wocc [{ wopu with clen := true }], { wopu with clen := true }), [], by simp only [State.coreRuns, Dev.corksFresh]; decide +kernel⟩,
    ⟨wst fun d => d.put F.MIR_STAT_STATE 6, by simp only [State.coreRuns, Dev.corksFresh]; decide +kernel⟩,
    ⟨wst fun d => d.put F.MIR_STAT_STATE 1, false, 0, by simp only [State.coreRuns, Dev.corksFresh]; decide +kernel⟩,
    ⟨wst fun d => d.put F.MIR_STAT_STATE 5, by simp only [State.coreRuns, Dev.corksFresh]; decide +kernel⟩,
    ⟨wst fun d => d.put F.MIR_STAT_STATE 1, by simp only [State.coreRuns, Dev.corksFresh]; decide +kernel⟩,
    ⟨wst fun d => d.put F.MIR_STAT_STATE 5 |>.upMir (fun y => { y with rx := none }), ⟨true, 0, 1, 2, false, false, 0, 0, 0, 0, 1⟩, by simp only [State.coreRuns, Dev.corksFresh, Dev.mirTakes]; decide +kernel⟩,
    ⟨wst fun d => d.put F.MIR_STAT_STATE 5 |>.upMir (fun y => { y with rx := none }), 0, by simp only [State.coreRuns, Dev.corksFresh, Dev.mirTakes]; decide +kernel⟩,
    ⟨wst fun d => d.put F.MIR_STAT_STATE 6 |>.put F.MIR_OFS_OFS 308, by simp only [State.coreRuns, Dev.corksFresh]; decide +kernel⟩⟩

theorem test_witness_core_domain_commands_complete_4 :
    (∃ (s : State), s.coreRuns ∧ s.dev.mirState = 1 ∧ s.dev.flag F.MIR_STAT_PARTNER = false)
    ∧ (∃ (s : State), s.coreRuns ∧ s.dev.mirState = 4 ∧ s.dev.flag F.MIR_STAT_ALIGNED = true)
    ∧ (∃ (s : State) (give : Bool) (tat : Nat) (x : Dev), s.coreRuns ∧ s.dev.mir.tk = some (some give, tat) ∧ ((s.dev.advance tat).put F.MIR_TK_STAT_RESULT (if (s.dev.advance tat).get F.MIR_TK_STAT_NREF = 0 then 2 else 3)).upMir (fun m => { m with tk := none }) = x)
    ∧ (∃ (s : State) (n : Fin 256) (value : Nat) (x : Sq), s.coreRuns ∧ s.dev.bar2 = true ∧ s.dev.sq? n = some x ∧ value < x.size ∧ value < 2 ^ 32)
    ∧ (∃ (s : State) (n : Fin 256) (value : Nat), s.coreRuns ∧ s.dev.bar2 = true ∧ (s.dev.sq? n).elim true (fun x => decide (x.size ≤ value)) = true ∧ value < 2 ^ 32)
    ∧ (∃ (s : State) (n : Fin 256) (value : Nat) (c : Cq), s.coreRuns ∧ s.dev.bar2 = true ∧ s.dev.cq? n = some c ∧ value < c.size ∧ value < 2 ^ 32 ∧ (value + c.size - c.head) % c.size ≤ c.held)
    ∧ (∃ (s : State) (n : Fin 256) (value : Nat), s.coreRuns ∧ s.dev.bar2 = true ∧ (s.dev.cq? n).elim true (fun c => !(decide (value < c.size) && decide ((value + c.size - c.head) % c.size ≤ c.held))) = true ∧ value < 2 ^ 32)
    ∧ (∃ (s : State) (n : Fin 8) (value : Nat), s.coreRuns ∧ s.dev.bar2 = true ∧ s.dev.flag (F.STM_CFG_EN n) = true ∧ value < s.dev.stmSize n ∧ value < 2 ^ 32 ∧ (value + s.dev.stmSize n - (s.dev.stmOf n).rp) % s.dev.stmSize n ≤ ((s.dev.stmOf n).wp + s.dev.stmSize n - (s.dev.stmOf n).rp) % s.dev.stmSize n)
    ∧ (∃ (s : State) (n : Fin 256) (x : Sq), s.coreRuns ∧ s.dev.sq? n = some x ∧ s.dev.arrives x = true ∧ x.stuck = none ∧ x.head ≠ x.tail ∧ x.ents.length < max 1 (s.dev.get F.HIF_CFG_FETCH))
    ∧ (∃ (s : State) (n : Fin 256) (x : Sq), s.coreRuns ∧ s.dev.sq? n = some x ∧ x.stuck.isSome = true)
    ∧ (∃ (s : State) (h : CmdHdr) (q : Sq) (e : Ent), s.coreRuns ∧ s.dev.opTakes h 0 true [] q e)
    ∧ (∃ (s : State) (h : CmdHdr) (q : Sq) (e : Ent), s.coreRuns ∧ s.dev.opTakes h 1 true [] q e)
    ∧ (∃ (s : State) (h : CmdHdr) (off : Nat) (cnt : Nat) (q : Sq) (e : Ent), s.coreRuns ∧ s.dev.opTakes h 2 (decide (2 < cnt)) [par 0 off, par 1 cnt] q e)
    ∧ (∃ (s : State) (h : CmdHdr) (off : Nat) (cnt : Nat) (data : List Nat) (q : Sq) (e : Ent), s.coreRuns ∧ s.dev.opTakes h 3 true (par 0 off :: par 1 cnt :: if cnt ≤ 9 then parWords 2 (padWords cnt data) else []) q e)
    ∧ (∃ (s : State) (h : CmdHdr) (off : Nat) (value : Nat) (q : Sq) (e : Ent), s.coreRuns ∧ s.dev.opTakes h 4 true [par 0 off, par 1 value] q e)
    ∧ (∃ (s : State) (h : CmdHdr) (bank : Bool) (idx : Nat) (cnt : Nat) (q : Sq) (e : Ent), s.coreRuns ∧ s.dev.opTakes h 5 true [parBits 0 13 13 (b2n bank), parBits 0 12 0 idx, par 1 cnt] q e)
    ∧ (∃ (s : State) (h : CmdHdr) (bank : Bool) (idx : Nat) (cnt : Nat) (q : Sq) (e : Ent), s.coreRuns ∧ s.dev.opTakes h 6 true [parBits 0 13 13 (b2n bank), parBits 0 12 0 idx, par 1 cnt] q e)
    ∧ (∃ (s : State) (h : CmdHdr) (grp : Nat) (q : Sq) (e : Ent), s.coreRuns ∧ s.dev.opTakes h 7 true [parBits 0 7 0 grp] q e)
    ∧ (∃ (s : State) (h : CmdHdr) (q : Sq) (e : Ent), s.coreRuns ∧ s.dev.opTakes h 8 true [] q e)
    ∧ (∃ (s : State) (h : CmdHdr) (off : Nat) (last : Bool) (q : Sq) (e : Ent), s.coreRuns ∧ s.dev.opTakes h 9 true [par 0 off, parBits 1 0 0 (b2n last)] q e) :=
  ⟨⟨wst fun d => d.put F.MIR_STAT_STATE 1 |>.put F.MIR_STAT_PARTNER 0, by simp only [State.coreRuns, Dev.corksFresh]; decide +kernel⟩,
    ⟨wst fun d => d.put F.MIR_STAT_STATE 4 |>.put F.MIR_STAT_ALIGNED 1, by simp only [State.coreRuns, Dev.corksFresh]; decide +kernel⟩,
    ⟨wst fun d => d.upMir (fun y => { y with tk := some (some false, 0) }) |> fun d => d.upMir (fun y => { y with tk := some (false, 0) }), false, 0, (((wst fun d => d.upMir (fun y => { y with tk := some (some false, 0) }) |> fun d => d.upMir (fun y => { y with tk := some (false, 0) })).dev.advance 0).put F.MIR_TK_STAT_RESULT 2).upMir (fun m => { m with tk := none }), by simp only [State.coreRuns, Dev.corksFresh]; decide +kernel⟩,
    ⟨wst fun d => d.put (F.PWR_DOM_STAT_STATE 6) 2 |>.put F.HIF_STAT_LINKUP 1 |>.setSq 0 wsq, 0, 0, wsq, by simp only [State.coreRuns, Dev.corksFresh]; decide +kernel⟩,
    ⟨wst fun d => d.put (F.PWR_DOM_STAT_STATE 6) 2 |>.put F.HIF_STAT_LINKUP 1, 0, 0, by simp only [State.coreRuns, Dev.corksFresh]; decide +kernel⟩,
    ⟨wst fun d => d.put (F.PWR_DOM_STAT_STATE 6) 2 |>.put F.HIF_STAT_LINKUP 1 |>.setCq 0 wcq, 0, 0, wcq, by simp only [State.coreRuns, Dev.corksFresh]; decide +kernel⟩,
    ⟨wst fun d => d.put (F.PWR_DOM_STAT_STATE 6) 2 |>.put F.HIF_STAT_LINKUP 1, 0, 0, by simp only [State.coreRuns, Dev.corksFresh]; decide +kernel⟩,
    ⟨wst fun d => d.put (F.PWR_DOM_STAT_STATE 6) 2 |>.put F.HIF_STAT_LINKUP 1 |>.put (F.STM_CFG_EN 0) 1, 0, 0, by simp only [State.coreRuns, Dev.corksFresh]; decide +kernel⟩,
    ⟨wst fun d => d.setSq 0 ({ wsq with tail := 1 }) |>.put (F.PWR_DOM_STAT_STATE 6) 2 |>.put F.HIF_STAT_LINKUP 1 |>.put F.HIF_CTL_EN 1, 0, { wsq with tail := 1 }, by simp only [State.coreRuns, Dev.corksFresh]; decide +kernel⟩,
    ⟨wst fun d => d.setSq 0 ({ wsq with stuck := some [] }), 0, { wsq with stuck := some [] }, by simp only [State.coreRuns, Dev.corksFresh]; decide +kernel⟩,
    ⟨wst fun d => d.setSq whdr.src wsq |>.setCq 1 wcq |>.put (F.PWR_DOM_STAT_STATE 6) 2 |>.put F.HIF_STAT_LINKUP 1, whdr, wsq, wsq.freshEnt 0 whdr, by simp only [State.coreRuns, Dev.corksFresh, Dev.opTakes]; decide +kernel⟩,
    ⟨wst fun d => d.setSq whdr.src wsq |>.setCq 1 wcq |>.put (F.PWR_DOM_STAT_STATE 6) 2 |>.put F.HIF_STAT_LINKUP 1, whdr, wsq, wsq.freshEnt 1 whdr, by simp only [State.coreRuns, Dev.corksFresh, Dev.opTakes]; decide +kernel⟩,
    ⟨wst fun d => d.setSq whdr.src wsq |>.setCq 1 wcq |>.put (F.PWR_DOM_STAT_STATE 6) 2 |>.put F.HIF_STAT_LINKUP 1, whdr, 0, 0, wsq, wsq.freshEnt 2 whdr, by simp only [State.coreRuns, Dev.corksFresh, Dev.opTakes]; decide +kernel⟩,
    ⟨wst fun d => d.setSq whdr.src wsq |>.setCq 1 wcq |>.put (F.PWR_DOM_STAT_STATE 6) 2 |>.put F.HIF_STAT_LINKUP 1, whdr, 0, 0, [], wsq, wsq.freshEnt 3 whdr, by simp only [State.coreRuns, Dev.corksFresh, Dev.opTakes]; decide +kernel⟩,
    ⟨wst fun d => d.setSq whdr.src wsq |>.setCq 1 wcq |>.put (F.PWR_DOM_STAT_STATE 6) 2 |>.put F.HIF_STAT_LINKUP 1, whdr, 0, 0, wsq, wsq.freshEnt 4 whdr, by simp only [State.coreRuns, Dev.corksFresh, Dev.opTakes]; decide +kernel⟩,
    ⟨wst fun d => d.setSq whdr.src wsq |>.setCq 1 wcq |>.put (F.PWR_DOM_STAT_STATE 6) 2 |>.put F.HIF_STAT_LINKUP 1, whdr, false, 0, 0, wsq, wsq.freshEnt 5 whdr, by simp only [State.coreRuns, Dev.corksFresh, Dev.opTakes]; decide +kernel⟩,
    ⟨wst fun d => d.setSq whdr.src wsq |>.setCq 1 wcq |>.put (F.PWR_DOM_STAT_STATE 6) 2 |>.put F.HIF_STAT_LINKUP 1, whdr, false, 0, 0, wsq, wsq.freshEnt 6 whdr, by simp only [State.coreRuns, Dev.corksFresh, Dev.opTakes]; decide +kernel⟩,
    ⟨wst fun d => d.setSq whdr.src wsq |>.setCq 1 wcq |>.put (F.PWR_DOM_STAT_STATE 6) 2 |>.put F.HIF_STAT_LINKUP 1, whdr, 0, wsq, wsq.freshEnt 7 whdr, by simp only [State.coreRuns, Dev.corksFresh, Dev.opTakes]; decide +kernel⟩,
    ⟨wst fun d => d.setSq whdr.src wsq |>.setCq 1 wcq |>.put (F.PWR_DOM_STAT_STATE 6) 2 |>.put F.HIF_STAT_LINKUP 1, whdr, wsq, wsq.freshEnt 8 whdr, by simp only [State.coreRuns, Dev.corksFresh, Dev.opTakes]; decide +kernel⟩,
    ⟨wst fun d => d.setSq whdr.src wsq |>.setCq 1 wcq |>.put (F.PWR_DOM_STAT_STATE 6) 2 |>.put F.HIF_STAT_LINKUP 1, whdr, 0, false, wsq, wsq.freshEnt 9 whdr, by simp only [State.coreRuns, Dev.corksFresh, Dev.opTakes]; decide +kernel⟩⟩

theorem test_witness_core_domain_commands_complete_5 :
    (∃ (s : State) (h : CmdHdr) (idx : Nat) (cnt : Nat) (q : Sq) (e : Ent), s.coreRuns ∧ s.dev.opTakes h 0xA true [par 0 idx, par 1 cnt] q e)
    ∧ (∃ (s : State) (h : CmdHdr) (mach : Fin 16) (dem : Nat) (post : Bool) (tag : Nat) (q : Sq) (e : Ent), s.coreRuns ∧ s.dev.opTakes h 0xB true [parBits 0 3 0 mach, parBits 1 16 0 dem, parBits 2 8 8 (b2n post), parBits 2 7 0 tag] q e)
    ∧ (∃ (s : State) (h : CmdHdr) (k : Fin 16) (ang : Nat) (q : Sq) (e : Ent), s.coreRuns ∧ s.dev.opTakes h 0xC true [parBits 0 3 0 k, parBits 1 23 0 ang] q e)
    ∧ (∃ (s : State) (h : CmdHdr) (n : Fin 16) (p : Fin 4) (addr : Nat) (q : Sq) (e : Ent), s.coreRuns ∧ s.dev.opTakes h 0xD true [parBits 0 3 0 n, parBits 0 9 8 p, par 1 addr] q e)
    ∧ (∃ (s : State) (h : CmdHdr) (n : Fin 16) (p : Fin 4) (addr : Nat) (data : Nat) (q : Sq) (e : Ent), s.coreRuns ∧ s.dev.opTakes h 0xE true [parBits 0 3 0 n, parBits 0 9 8 p, par 1 addr, par 2 data] q e)
    ∧ (∃ (s : State) (h : CmdHdr) (off : Nat) (q : Sq) (e : Ent), s.coreRuns ∧ s.dev.opTakes h 0xF true [par 0 off] q e)
    ∧ (∃ (s : State) (h : CmdHdr) (off : Nat) (q : Sq) (e : Ent), s.coreRuns ∧ s.dev.opTakes h 0x10 true [par 0 off] q e)
    ∧ (∃ (s : State) (h : CmdHdr) (cores : Nat) (q : Sq) (e : Ent), s.coreRuns ∧ s.dev.opTakes h 0x11 true [parBits 0 3 0 cores, par 1 1] q e)
    ∧ (∃ (s : State) (h : CmdHdr) (cores : Nat) (addr : Nat) (q : Sq) (e : Ent), s.coreRuns ∧ s.dev.opTakes h 0x11 true [parBits 0 3 0 cores, par 1 2, par 2 addr] q e)
    ∧ (∃ (s : State) (h : CmdHdr) (cores : Nat) (q : Sq) (e : Ent), s.coreRuns ∧ s.dev.opTakes h 0x11 true [parBits 0 3 0 cores, par 1 3] q e)
    ∧ (∃ (s : State) (h : CmdHdr) (sq : Nat) (base : Nat) (entries : Nat) (cq : Nat) (owner : Nat) (prio : Nat) (core : Bool) (win : Nat) (q : Sq) (e : Ent), s.coreRuns ∧ s.dev.opTakes h 0x14 true ([par 0 sq, par 1 (base % 2 ^ 32), par 2 (base / 2 ^ 32), par 3 entries, par 4 cq] ++ [parBits 5 7 0 owner, parBits 5 9 8 prio, parBits 5 10 10 (b2n core), parBits 5 21 16 win]) q e)
    ∧ (∃ (s : State) (h : CmdHdr) (sq : Nat) (q : Sq) (e : Ent), s.coreRuns ∧ s.dev.opTakes h 0x15 true [par 0 sq] q e)
    ∧ (∃ (s : State) (h : CmdHdr) (cq : Nat) (base : Nat) (entries : Nat) (vec : Nat) (cthr : Nat) (ctime : Nat) (q : Sq) (e : Ent), s.coreRuns ∧ s.dev.opTakes h 0x16 true ([par 0 cq, par 1 (base % 2 ^ 32), par 2 (base / 2 ^ 32), par 3 entries] ++ [parBits 4 9 0 vec, parBits 5 7 0 cthr, parBits 5 23 8 ctime]) q e)
    ∧ (∃ (s : State) (h : CmdHdr) (cq : Nat) (q : Sq) (e : Ent), s.coreRuns ∧ s.dev.opTakes h 0x17 true [par 0 cq] q e)
    ∧ (∃ (s : State) (h : CmdHdr) (off : Nat) (len : Nat) (data : List Nat) (q : Sq) (e : Ent), s.coreRuns ∧ s.dev.opTakes h 0x19 true (par 0 off :: par 1 len :: parWords 2 (padWords 9 data)) q e)
    ∧ (∃ (s : State) (cq : Fin 256) (c : Cq) (e : Cpl) (r : List Cpl), s.coreRuns ∧ s.dev.cq? cq = some c ∧ c.wait = e :: r ∧ c.full = false ∧ s.dev.pcieGo = true)
    ∧ (∃ (s : State) (cq : Fin 256) (c : Cq), s.coreRuns ∧ s.dev.cq? cq = some c ∧ c.ctime ≠ 0 ∧ c.unsig ≠ 0)
    ∧ (∃ (s : State) (cq : Fin 256) (c : Cq), s.coreRuns ∧ s.dev.cq? cq = some c ∧ c.full = true)
    ∧ (∃ (s : State) (n : Fin 8), s.coreRuns ∧ s.dev.flag (F.STM_CFG_EN n) = true ∧ s.dev.flag (F.STM_STAT_ERR n) = false ∧ (s.dev.stmOf n).chunk.isEmpty = false)
    ∧ (∃ (s : State), s.coreRuns ∧ s.dev.domUp 6 = true ∧ s.dev.rst.perst = false) :=
  ⟨⟨wst fun d => d.setSq whdr.src wsq |>.setCq 1 wcq |>.put (F.PWR_DOM_STAT_STATE 6) 2 |>.put F.HIF_STAT_LINKUP 1, whdr, 0, 0, wsq, wsq.freshEnt 10 whdr, by simp only [State.coreRuns, Dev.corksFresh, Dev.opTakes]; decide +kernel⟩,
    ⟨wst fun d => d.setSq whdr.src wsq |>.setCq 1 wcq |>.put (F.PWR_DOM_STAT_STATE 6) 2 |>.put F.HIF_STAT_LINKUP 1, whdr, 0, 0, false, 0, wsq, wsq.freshEnt 11 whdr, by simp only [State.coreRuns, Dev.corksFresh, Dev.opTakes]; decide +kernel⟩,
    ⟨wst fun d => d.setSq whdr.src wsq |>.setCq 1 wcq |>.put (F.PWR_DOM_STAT_STATE 6) 2 |>.put F.HIF_STAT_LINKUP 1, whdr, 0, 0, wsq, wsq.freshEnt 12 whdr, by simp only [State.coreRuns, Dev.corksFresh, Dev.opTakes]; decide +kernel⟩,
    ⟨wst fun d => d.setSq whdr.src wsq |>.setCq 1 wcq |>.put (F.PWR_DOM_STAT_STATE 6) 2 |>.put F.HIF_STAT_LINKUP 1, whdr, 0, 0, 0, wsq, wsq.freshEnt 13 whdr, by simp only [State.coreRuns, Dev.corksFresh, Dev.opTakes]; decide +kernel⟩,
    ⟨wst fun d => d.setSq whdr.src wsq |>.setCq 1 wcq |>.put (F.PWR_DOM_STAT_STATE 6) 2 |>.put F.HIF_STAT_LINKUP 1, whdr, 0, 0, 0, 0, wsq, wsq.freshEnt 14 whdr, by simp only [State.coreRuns, Dev.corksFresh, Dev.opTakes]; decide +kernel⟩,
    ⟨wst fun d => d.setSq whdr.src wsq |>.setCq 1 wcq |>.put (F.PWR_DOM_STAT_STATE 6) 2 |>.put F.HIF_STAT_LINKUP 1, whdr, 0, wsq, wsq.freshEnt 15 whdr, by simp only [State.coreRuns, Dev.corksFresh, Dev.opTakes]; decide +kernel⟩,
    ⟨wst fun d => d.setSq whdr.src wsq |>.setCq 1 wcq |>.put (F.PWR_DOM_STAT_STATE 6) 2 |>.put F.HIF_STAT_LINKUP 1, whdr, 0, wsq, wsq.freshEnt 16 whdr, by simp only [State.coreRuns, Dev.corksFresh, Dev.opTakes]; decide +kernel⟩,
    ⟨wst fun d => d.setSq whdr.src wsq |>.setCq 1 wcq |>.put (F.PWR_DOM_STAT_STATE 6) 2 |>.put F.HIF_STAT_LINKUP 1, whdr, 0, wsq, wsq.freshEnt 17 whdr, by simp only [State.coreRuns, Dev.corksFresh, Dev.opTakes]; decide +kernel⟩,
    ⟨wst fun d => d.setSq whdr.src wsq |>.setCq 1 wcq |>.put (F.PWR_DOM_STAT_STATE 6) 2 |>.put F.HIF_STAT_LINKUP 1, whdr, 0, 0, wsq, wsq.freshEnt 17 whdr, by simp only [State.coreRuns, Dev.corksFresh, Dev.opTakes]; decide +kernel⟩,
    ⟨wst fun d => d.setSq whdr.src wsq |>.setCq 1 wcq |>.put (F.PWR_DOM_STAT_STATE 6) 2 |>.put F.HIF_STAT_LINKUP 1, whdr, 0, wsq, wsq.freshEnt 17 whdr, by simp only [State.coreRuns, Dev.corksFresh, Dev.opTakes]; decide +kernel⟩,
    ⟨wst fun d => d.setSq whdr0.src wsq |>.setCq 1 wcq |>.put (F.PWR_DOM_STAT_STATE 6) 2 |>.put F.HIF_STAT_LINKUP 1, whdr0, 0, 0, 0, 0, 0, 0, false, 0, wsq, wsq.freshEnt 20 whdr0, by simp only [State.coreRuns, Dev.corksFresh, Dev.opTakes]; decide +kernel⟩,
    ⟨wst fun d => d.setSq whdr0.src wsq |>.setCq 1 wcq |>.put (F.PWR_DOM_STAT_STATE 6) 2 |>.put F.HIF_STAT_LINKUP 1, whdr0, 0, wsq, wsq.freshEnt 21 whdr0, by simp only [State.coreRuns, Dev.corksFresh, Dev.opTakes]; decide +kernel⟩,
    ⟨wst fun d => d.setSq whdr0.src wsq |>.setCq 1 wcq |>.put (F.PWR_DOM_STAT_STATE 6) 2 |>.put F.HIF_STAT_LINKUP 1, whdr0, 0, 0, 0, 0, 0, 0, wsq, wsq.freshEnt 22 whdr0, by simp only [State.coreRuns, Dev.corksFresh, Dev.opTakes]; decide +kernel⟩,
    ⟨wst fun d => d.setSq whdr0.src wsq |>.setCq 1 wcq |>.put (F.PWR_DOM_STAT_STATE 6) 2 |>.put F.HIF_STAT_LINKUP 1, whdr0, 0, wsq, wsq.freshEnt 23 whdr0, by simp only [State.coreRuns, Dev.corksFresh, Dev.opTakes]; decide +kernel⟩,
    ⟨wst fun d => d.setSq whdrC.src can0.cmd |>.setCq 1 wcq |>.put (F.PWR_DOM_STAT_STATE 6) 2 |>.put F.HIF_STAT_LINKUP 1 |>.put (F.CAN_CTL_EN 0) 1, whdrC, 0, 0, [], can0.cmd, can0.cmd.freshEnt 25 whdrC, by simp only [State.coreRuns, Dev.corksFresh, Dev.opTakes]; decide +kernel⟩,
    ⟨wst fun d => d.setCq 0 ({ wcq with wait := [wcpl] }) |>.put (F.PWR_DOM_STAT_STATE 6) 2 |>.put F.HIF_STAT_LINKUP 1, 0, { wcq with wait := [wcpl] }, wcpl, [], by simp only [State.coreRuns, Dev.corksFresh]; decide +kernel⟩,
    ⟨wst fun d => d.setCq 0 ({ wcq with ctime := 1, unsig := 1 }), 0, { wcq with ctime := 1, unsig := 1 }, by simp only [State.coreRuns, Dev.corksFresh]; decide +kernel⟩,
    ⟨wst fun d => d.setCq 0 ({ wcq with tail := 15 }), 0, { wcq with tail := 15 }, by simp only [State.coreRuns, Dev.corksFresh]; decide +kernel⟩,
    ⟨wst fun d => d.put (F.STM_CFG_EN 0) 1 |>.put (F.STM_STAT_ERR 0) 0 |> fun d => d.setStm 0 { d.stmOf 0 with chunk := [1] }, 0, by simp only [State.coreRuns, Dev.corksFresh]; decide +kernel⟩,
    ⟨wst fun d => d.put (F.PWR_DOM_STAT_STATE 6) 2, by simp only [State.coreRuns, Dev.corksFresh]; decide +kernel⟩⟩

theorem test_witness_core_domain_commands_complete_6 :
    (∃ (s : State), s.coreRuns ∧ s.dev.cfgUp = true)
    ∧ (∃ (s : State), s.coreRuns ∧ s.dev.pcieOn = true ∧ s.dev.flag F.HIF_STAT_LINKUP = true)
    ∧ (∃ (s : State) (port : Fin 2), s.coreRuns ∧ s.dev.flag (F.CAN_CTL_EN port) = true ∧ s.dev.flag (F.CAN_STAT_BUSOFF port) = false)
    ∧ (∃ (s : State) (port : Fin 2), s.coreRuns ∧ s.dev.flag (F.CAN_STAT_BUSOFF port) = true)
    ∧ (∃ (s : State) (port : Fin 2) (present : Bool), s.coreRuns ∧ s.dev.flag (F.CAN_CTL_EN port) = true ∧ s.dev.flag (F.CAN_STAT_ERRPASS port) = !present)
    ∧ (∃ (s : State), s.coreRuns ∧ s.dev.domUp 5 = true)
    ∧ (∃ (s : State) (m : Fin 4), s.coreRuns ∧ s.dev.domUp 5 = true ∧ (s.dev.ad m).run.isSome = true)
    ∧ (∃ (s : State) (m : Fin 8), s.coreRuns ∧ s.dev.encMode m = 1)
    ∧ (∃ (s : State) (m : Fin 8), s.coreRuns ∧ s.dev.encMode m = 2)
    ∧ (∃ (s : State) (m : Fin 8) (ab : Nat), s.coreRuns ∧ s.dev.get (F.ENC_STAT_LVL m) % 4 = ab ∧ s.dev.encMode m ≠ 0 ∧ s.dev.flag (F.ENC_CFG_IDXEN m) = true ∧ (s.dev.encMode m = 1 → ab = s.dev.get (F.ENC_CFG_IDXAB m)))
    ∧ (∃ (s : State) (m : Fin 8) (pair : Fin 3), s.coreRuns ∧ (s.dev.advance (s.dev.now + tickMicro * max 1 (s.dev.get (F.ENC_CFG_WTIME m)))).encMode m ≠ 0 ∧ (s.dev.advance (s.dev.now + tickMicro * max 1 (s.dev.get (F.ENC_CFG_WTIME m)))).flag (wireFld m pair) = false)
    ∧ (∃ (s : State) (n : Fin 32), s.coreRuns ∧ (s.dev.tmrSeek n (2 ^ 64)).isSome = true)
    ∧ (∃ (s : State) (pin : Fin 64), s.coreRuns ∧ s.dev.abit (R.SYS_GPIO_OE 0) pin = false)
    ∧ (∃ (s : State) (n : Nat) (r : List Nat), s.coreRuns ∧ s.dev.rak.running = none ∧ s.dev.rak.queue = n :: r)
    ∧ (∃ (s : State) (n : Nat), s.coreRuns ∧ s.dev.rak.running = some n)
    ∧ (∃ (s : State) (n : Fin 16), s.coreRuns ∧ s.dev.flag (F.RK_CTL_EN n) = true)
    ∧ (∃ (s : State) (src : Fin 1024) (t : Nat) (c : Nat × Nat), s.coreRuns ∧ s.dev.get (F.ICU_SRC_COALT src) = t ∧ smGet s.dev.icu.coal (0, 0) src = c ∧ t ≠ 0 ∧ c.1 ≠ 0)
    ∧ (∃ (s : State), s.busRuns 9 ∧ s.busDev.jlocked = false)
    ∧ (∃ (s : State) (req : Fin 10) (off : Nat) (c : Nat) (a : Nat) (b : Nat), s.busRuns req ∧ placeOf (off % 2 ^ 25) = .reg c ∧ s.busDev.inReset c = false ∧ off % 4 = 0 ∧ s.busDev.isOff c = false ∧ fltBlk c = none ∧ corkBlk c = none ∧ corkOf c = some a ∧ corkBlk a = some b)
    ∧ (∃ (s : State) (n : Fin 16) (p : Fin 4) (up : Bool), s.coreRuns ∧ s.dev.mirrors n p up = true) :=
  ⟨⟨wst fun d => d.put (F.PWR_DOM_STAT_STATE 6) 2 |>.put F.HIF_STAT_LINKUP 1, by simp only [State.coreRuns, Dev.corksFresh]; decide +kernel⟩,
    ⟨wst fun d => d.put (F.PWR_DOM_STAT_STATE 6) 2 |>.put F.HIF_STAT_LINKUP 1, by simp only [State.coreRuns, Dev.corksFresh]; decide +kernel⟩,
    ⟨wst fun d => d.put (F.CAN_CTL_EN 0) 1 |>.put (F.CAN_STAT_BUSOFF 0) 0 |>.upQmg (fun q => { q with qcfg := [(256, 0x01800010)] }) |>.put (F.CAN_IDRX_XTD 0) 0 |>.put (F.CAN_IDRX_ID 0) 5, 0, by simp only [State.coreRuns, Dev.corksFresh]; decide +kernel⟩,
    ⟨wst fun d => d.put (F.CAN_STAT_BUSOFF 0) 1, 0, by simp only [State.coreRuns, Dev.corksFresh]; decide +kernel⟩,
    ⟨wst fun d => d.put (F.CAN_CTL_EN 0) 1, 0, true, by simp only [State.coreRuns, Dev.corksFresh]; decide +kernel⟩,
    ⟨wst fun d => d.put (F.PWR_DOM_STAT_STATE 5) 2, by simp only [State.coreRuns, Dev.corksFresh]; decide +kernel⟩,
    ⟨wst fun d => d.put (F.PWR_DOM_STAT_STATE 5) 2 |> fun d => d.setAd 0 { d.ad 0 with run := some ⟨0, 0, 0, 0, 1⟩ }, 0, by simp only [State.coreRuns, Dev.corksFresh]; decide +kernel⟩,
    ⟨wst fun d => d.put (F.ENC_CFG_MODE 0) 1, 0, by simp only [State.coreRuns, Dev.corksFresh]; decide +kernel⟩,
    ⟨wst fun d => d.put (F.ENC_CFG_MODE 0) 2, 0, by simp only [State.coreRuns, Dev.corksFresh]; decide +kernel⟩,
    ⟨wst fun d => d.put (F.ENC_CFG_IDXEN 0) 1 |>.put (F.ENC_CFG_MODE 0) 1, 0, 0, by simp only [State.coreRuns, Dev.corksFresh]; decide +kernel⟩,
    ⟨wst fun d => d.put (F.ENC_CFG_MODE 0) 1, 0, 0, by simp only [State.coreRuns, Dev.corksFresh]; decide +kernel⟩,
    ⟨wst fun d => d.setTm 0 { d.tm 0 with run := true, cmp := 1, acc := 0 } |>.put (F.TMR_CFG_SRC 0) 1 |>.put (F.TMR_CFG_PS 0) 0x100, 0, by simp only [State.coreRuns, Dev.corksFresh]; decide +kernel⟩,
    ⟨State.reset, 0, by simp only [State.coreRuns, Dev.corksFresh]; decide +kernel⟩,
    ⟨wst fun d => { d with rak := { d.rak with running := none } } |> fun d => { d with rak := { d.rak with queue := 0 :: ([]) } }, 0, [], by simp only [State.coreRuns, Dev.corksFresh]; decide +kernel⟩,
    ⟨wst fun d => { d with rak := { d.rak with running := some 0 } }, 0, by simp only [State.coreRuns, Dev.corksFresh]; decide +kernel⟩,
    ⟨wst fun d => d.put (F.RK_CTL_EN 0) 1, 0, by simp only [State.coreRuns, Dev.corksFresh]; decide +kernel⟩,
    ⟨wst fun d => d.put (F.ICU_SRC_COALT 0) 1 |> fun d => { d with icu := { d.icu with coal := [(0, (1, 0))] } } |>.put (F.ICU_SRC_COALT 0) 1, 0, 1, (1, 0), by simp only [State.coreRuns, Dev.corksFresh]; decide +kernel⟩,
    ⟨wst fun d => d.put F.DBG_CTL_JLOCK 0, by simp only [Dev.corksFresh, State.busRuns, State.busDev]; decide +kernel⟩,
    ⟨State.reset, 0, 0xE2004, 0xE2004, 0xE2000, 10, by simp only [Dev.corksFresh, State.busRuns, State.busDev]; decide +kernel⟩,
    ⟨State.reset, 0, 0, false, by simp only [State.coreRuns, Dev.corksFresh]; decide +kernel⟩⟩

theorem test_witness_core_domain_commands_complete_7 :
    (∃ (s : State) (lane : Fin 2) (f : Fld), s.coreRuns ∧ f = (if lane = 0 then F.MIR_STAT_LOCK0 else F.MIR_STAT_LOCK1) ∧ s.dev.flag f = false)
    ∧ (∃ (s : State) (lane : Fin 2) (f : Fld), s.coreRuns ∧ f = (if lane = 0 then F.MIR_STAT_LOCK0 else F.MIR_STAT_LOCK1) ∧ s.dev.flag f = true)
    ∧ (∃ (s : State) (speed : Fin 4) (width : Nat), s.coreRuns ∧ s.dev.domState 6 = 2 ∧ s.dev.rst.perst = false ∧ speed.val ≠ 0 ∧ (width = 1 ∨ width = 2 ∨ width = 4)) :=
  ⟨⟨wst fun d => d.put F.MIR_STAT_LOCK0 0, 0, F.MIR_STAT_LOCK0, by simp only [State.coreRuns, Dev.corksFresh]; decide +kernel⟩,
    ⟨wst fun d => d.put F.MIR_STAT_LOCK0 1 |>.put F.MIR_STAT_LOCK0 1, 0, F.MIR_STAT_LOCK0, by simp only [State.coreRuns, Dev.corksFresh]; decide +kernel⟩,
    ⟨wst fun d => d.put (F.PWR_DOM_STAT_STATE 6) 2, 1, 4, by simp only [State.coreRuns, Dev.corksFresh]; decide +kernel⟩⟩


theorem test_witness_other_domain_commands_complete_1 :
    (∃ (s : State), s.celRuns ∧ s.dev.cflag F.CEL_STAT_SLOWOK = true)
    ∧ (∃ (s : State), s.dev.corksFresh ∧ s.dev.rst.sys = false)
    ∧ (∃ (s : State), s.dev.corksFresh ∧ s.dev.rst.sys = true)
    ∧ (∃ (s : State), s.sysRuns ∧ s.dev.clkState = 3)
    ∧ (∃ (s : State) (t : Fin 64) (side : Bool) (seq : Nat), s.dev.corksFresh ∧ s.dev.tileTakes t side seq 3)
    ∧ (∃ (s : State) (t : Fin 64) (side : Bool), s.dev.corksFresh ∧ s.dev.passes t side = true)
    ∧ (∃ (s : State) (t : Fin 64) (side : Bool), s.dev.corksFresh ∧ s.dev.passes t side = true ∧ 2 ≤ (s.dev.ts t side).st)
    ∧ (∃ (s : State) (t : Fin 64) (side : Bool) (seq : Nat), s.dev.corksFresh ∧ s.dev.tileTakes t side seq 1)
    ∧ (∃ (s : State) (t : Fin 64) (side : Bool), s.dev.corksFresh ∧ s.dev.passes t side = true ∧ 1 ≤ (s.dev.ts t side).st)
    ∧ (∃ (s : State) (t : Fin 64) (side : Bool) (seq : Nat), s.dev.corksFresh ∧ s.dev.tileTakes t side seq 2)
    ∧ (∃ (s : State) (t : Fin 64) (side : Bool), s.dev.corksFresh ∧ 2 ≤ (s.dev.ts t side).st)
    ∧ (∃ (s : State) (t : Fin 64) (side : Bool) (handle : Nat) (pidx : Fin 8) (p : TPulse), s.dev.corksFresh ∧ (s.dev.ts t side).pulses.find? (fun p => p.handle == handle && p.pidx == pidx.val) = some p ∧ (s.dev.tle t).lease = some side ∧ (s.dev.ts t side).st = 3)
    ∧ (∃ (s : State) (t : Fin 64) (out : Fin 8) (v : Drive), s.dev.corksFresh ∧ (s.dev.to t out).drv = some v)
    ∧ (∃ (s : State) (t : Fin 64) (out : Fin 8) (v : Drive), s.dev.corksFresh ∧ (s.dev.to t out).drv = some v ∧ v.phase ≠ .off)
    ∧ (∃ (s : State) (t : Fin 64) (out : Fin 8) (w : CWin), s.dev.corksFresh ∧ (s.dev.to t out).win = some w)
    ∧ (∃ (s : State) (t : Fin 64) (out : Fin 8) (v : Drive), s.dev.corksFresh ∧ (s.dev.to t out).drv = some v ∧ v.phase ≠ .off ∧ v.judged = false ∧ v.start + 12800 ≤ v.p.stop)
    ∧ (∃ (s : State) (t : Fin 64) (out : Fin 8) (cur : Nat) (v : Drive), s.dev.corksFresh ∧ (s.dev.to t out).drv = some v ∧ v.phase ≠ .off ∧ v.p.fld 5 11 0 ≤ cur)
    ∧ (∃ (s : State) (t : Fin 64) (rail : Nat) (supply : Nat), s.dev.corksFresh ∧ rail ≤ supply + 40 ∧ s.dev.boostEn t = true ∧ (s.dev.tle t).stopped = false)
    ∧ (∃ (s : State) (t : Fin 64) (out : Fin 8), s.dev.corksFresh ∧ (s.dev.to t out).offPend = true ∧ (s.dev.to t out).drv = none ∧ (s.dev.to t out).win = none ∧ (s.dev.to t out).quiet + 4000 ≤ (s.dev.now : Int) ∧ s.dev.offClear t false out = true ∧ s.dev.offClear t true out = true ∧ (s.dev.tle t).inhl = false)
    ∧ (∃ (s : State) (t : Fin 64) (out : Fin 8) (at_ : Int), s.dev.corksFresh ∧ (s.dev.to t out).offRun = some at_) :=
  ⟨⟨wst fun d => d.cput F.CEL_STAT_SLOWOK 1, by simp only [State.celRuns, Dev.corksFresh]; decide +kernel⟩,
    ⟨State.reset, by simp only [Dev.corksFresh]; decide +kernel⟩,
    ⟨wst fun d => { d with rst := { d.rst with sys := true } }, by simp only [Dev.corksFresh]; decide +kernel⟩,
    ⟨wst fun d => d.put F.CLK_STAT_STATE 3, by simp only [State.sysRuns, Dev.corksFresh]; decide +kernel⟩,
    ⟨wst fun d => d.upTs 0 false (fun y => { y with st := 3 }), 0, false, 0, by simp only [Dev.corksFresh, Dev.tileTakes]; decide +kernel⟩,
    ⟨State.reset, 0, false, by simp only [Dev.corksFresh]; decide +kernel⟩,
    ⟨wst fun d => d.upTs 0 false (fun y => { y with st := 3 }), 0, false, by simp only [Dev.corksFresh]; decide +kernel⟩,
    ⟨wst fun d => d.upTs 0 false (fun y => { y with st := 3 }), 0, false, 0, by simp only [Dev.corksFresh, Dev.tileTakes]; decide +kernel⟩,
    ⟨wst fun d => d.upTs 0 false (fun y => { y with st := 3 }), 0, false, by simp only [Dev.corksFresh]; decide +kernel⟩,
    ⟨wst fun d => d.upTs 0 false (fun y => { y with st := 3 }), 0, false, 0, by simp only [Dev.corksFresh, Dev.tileTakes]; decide +kernel⟩,
    ⟨wst fun d => d.upTs 0 false (fun y => { y with st := 3 }), 0, false, by simp only [Dev.corksFresh]; decide +kernel⟩,
    ⟨wst fun d => d.setTle 0 { d.tle 0 with lease := some false } |>.upTs 0 false (fun y => { y with st := 3 }) |>.upTs 0 false (fun y => { y with st := 3, pulses := [wpul] }), 0, false, 5, 2, wpul, by simp only [Dev.corksFresh]; decide +kernel⟩,
    ⟨wst fun d => d.upDrv 0 0 (wdrv .peak), 0, 0, wdrv .peak, by simp only [Dev.corksFresh]; decide +kernel⟩,
    ⟨wst fun d => d.upDrv 0 0 (wdrv .peak), 0, 0, wdrv .peak, by simp only [Dev.corksFresh]; decide +kernel⟩,
    ⟨wst fun d => d.upTo 0 0 (fun y => { y with win := some (⟨false, 0, 0, 0, 0, 0⟩ : CWin) }), 0, 0, ⟨false, 0, 0, 0, 0, 0⟩, by simp only [Dev.corksFresh]; decide +kernel⟩,
    ⟨wst fun d => d.upDrv 0 0 (wdrv .peak), 0, 0, wdrv .peak, by simp only [Dev.corksFresh]; decide +kernel⟩,
    ⟨wst fun d => d.upDrv 0 0 (wdrv .peak), 0, 0, 0, wdrv .peak, by simp only [Dev.corksFresh]; decide +kernel⟩,
    ⟨wst fun d => d.setTle 0 { d.tle 0 with stopped := false } |>.tput 0 false F.TDRV_BOOST_CTL_EN 1, 0, 0, 0, by simp only [Dev.corksFresh]; decide +kernel⟩,
    ⟨wst fun d => d.upTo 0 0 (fun y => { y with offPend := true }) |>.upTo 0 0 (fun y => { y with drv := none }) |>.upTo 0 0 (fun y => { y with win := none }) |> fun d => d.setTle 0 { d.tle 0 with inhl := false } |> fun d => { d with now := 4000 }, 0, 0, by simp only [Dev.corksFresh]; decide +kernel⟩,
    ⟨wst fun d => d.upTo 0 0 (fun y => { y with offRun := some 0 }), 0, 0, 0, by simp only [Dev.corksFresh]; decide +kernel⟩⟩

theorem test_witness_other_domain_commands_complete_2 :
    (∃ (s : State) (t : Fin 64), s.dev.corksFresh ∧ (s.dev.tle t).inhl = false)
    ∧ (∃ (s : State) (t : Fin 64), s.dev.corksFresh ∧ (s.dev.tle t).lease = none ∧ s.dev.tEligible t false = true)
    ∧ (∃ (s : State) (t : Fin 64), s.dev.corksFresh ∧ (s.dev.tle t).lease = none ∧ s.dev.tEligible t false = false ∧ s.dev.tEligible t true = true)
    ∧ (∃ (s : State) (t : Fin 64) (sd : Bool) (r : Nat), s.dev.corksFresh ∧ (s.dev.tle t).lease = some sd ∧ r = (if (s.dev.ts t sd).st < 3 then 1 else if s.dev.tget t sd F.TILE_DUP_ELIG = 0 then 2 else 0))
    ∧ (∃ (s : State) (t : Fin 64) (sd : Bool) (at_ : Int), s.dev.corksFresh ∧ (s.dev.tle t).lease = some sd ∧ (s.dev.ts t sd).yieldAt = some at_)
    ∧ (∃ (s : State) (t : Fin 64) (side : Bool) (handle : Nat) (pidx : Fin 8) (p : TPulse), s.dev.corksFresh ∧ (s.dev.ts t side).pulses.find? (fun p => p.handle == handle && p.pidx == pidx.val) = some p ∧ (s.dev.tle t).lease ≠ some side)
    ∧ (∃ (s : State), s.dev.corksFresh ∧ s.dev.rst.vbat = true)
    ∧ (∃ (s : State) (good : Bool), s.celRuns ∧ good = (if s.dev.flag F.CLK_REF_CFG_PREF then s.dev.flag F.CLK_STAT_PGOOD else s.dev.flag F.CLK_STAT_XGOOD) ∧ s.dev.rst.sys = true ∧ s.dev.mgs.pllHold = false ∧ s.dev.cflag F.CEL_STAT_COREEN = true ∧ (s.dev.flag F.CLK_STAT_PGOOD || s.dev.flag F.CLK_STAT_XGOOD) = true)
    ∧ (∃ (s : State), s.sysRuns ∧ s.dev.mgs.running = false ∧ s.dev.boardTest = false)
    ∧ (∃ (s : State), s.sysRuns ∧ s.dev.flag F.MGS_STAT_TRIAL = true)
    ∧ (∃ (s : State) (dom : Fin 8), s.sysRuns ∧ s.dev.domState dom = 3)
    ∧ (∃ (s : State) (n : Nat), s.celRuns ∧ s.dev.cget F.CEL_WTIMER_N = n ∧ s.dev.cflag F.CEL_STAT_SLOWOK = true ∧ n ≠ 0 ∧ s.dev.cget F.CEL_STAT_PSTATE = 2)
    ∧ (∃ (s : State), s.celRuns ∧ s.dev.cget F.CEL_STAT_PSTATE = 2 ∧ s.dev.clr.held ≠ 0)
    ∧ (∃ (s : State), s.dev.corksFresh ∧ s.dev.jlocked = false)
    ∧ (∃ (s : State), s.dev.corksFresh ∧ s.dev.jlocked = true)
    ∧ (∃ (s : State) (t : Fin 64), s.dev.corksFresh ∧ (s.dev.tle t).inhp = true)
    ∧ (∃ (s : State) (t : Fin 64) (side : Bool), s.dev.corksFresh ∧ (s.dev.tle t).lease ≠ some side)
    ∧ (∃ (s : State) (t : Fin 64) (rail : Nat), s.dev.corksFresh ∧ (s.dev.upTle t (fun x => { x with rail := rail })).railHigh t = true ∧ s.dev.boostEn t = true ∧ (s.dev.tle t).stopped = false) :=
  ⟨⟨wst fun d => d.setTle 0 { d.tle 0 with inhl := false }, 0, by simp only [Dev.corksFresh]; decide +kernel⟩,
    ⟨wst fun d => d.setTle 0 { d.tle 0 with lease := none } |>.tput 0 false F.TILE_DUP_ELIG 1 |>.upTs 0 false (fun y => { y with st := 3, fresh := true }), 0, by simp only [Dev.corksFresh]; decide +kernel⟩,
    ⟨wst fun d => d.setTle 0 { d.tle 0 with lease := none } |>.tput 0 true F.TILE_DUP_ELIG 1 |>.upTs 0 true (fun y => { y with st := 3, fresh := true }), 0, by simp only [Dev.corksFresh]; decide +kernel⟩,
    ⟨wst fun d => d.setTle 0 { d.tle 0 with lease := some false }, 0, false, 1, by simp only [Dev.corksFresh]; decide +kernel⟩,
    ⟨wst fun d => d.setTle 0 { d.tle 0 with lease := some false } |>.upTs 0 false (fun y => { y with yieldAt := some 0 }), 0, false, 0, by simp only [Dev.corksFresh]; decide +kernel⟩,
    ⟨wst fun d => d.upTs 0 false (fun y => { y with st := 3, pulses := [wpul] }), 0, false, 5, 2, wpul, by simp only [Dev.corksFresh]; decide +kernel⟩,
    ⟨wst fun d => { d with rst := { d.rst with vbat := true } }, by simp only [Dev.corksFresh]; decide +kernel⟩,
    ⟨wst fun d => { d with rst := { d.rst with sys := true } } |> fun d => { d with mgs := { d.mgs with pllHold := false } } |>.cput F.CEL_STAT_COREEN 1 |>.put F.CLK_STAT_XGOOD 1, true, by simp only [State.celRuns, Dev.corksFresh]; decide +kernel⟩,
    ⟨wst fun d => { d with mgs := { d.mgs with running := false } }, by simp only [State.sysRuns, Dev.corksFresh]; decide +kernel⟩,
    ⟨wst fun d => d.put F.MGS_STAT_TRIAL 1, by simp only [State.sysRuns, Dev.corksFresh]; decide +kernel⟩,
    ⟨wst fun d => d.put (F.PWR_DOM_STAT_STATE 0) 3, 0, by simp only [State.sysRuns, Dev.corksFresh]; decide +kernel⟩,
    ⟨wst fun d => d.cput F.CEL_STAT_SLOWOK 1 |>.cput F.CEL_STAT_PSTATE 2 |>.cput F.CEL_WTIMER_N 1, 1, by simp only [State.celRuns, Dev.corksFresh]; decide +kernel⟩,
    ⟨wst fun d => d.cput F.CEL_STAT_PSTATE 2 |> fun d => { d with clr := { d.clr with held := 1 } }, by simp only [State.celRuns, Dev.corksFresh]; decide +kernel⟩,
    ⟨wst fun d => d.put F.DBG_CTL_JLOCK 0, by simp only [Dev.corksFresh]; decide +kernel⟩,
    ⟨wst fun d => d.put F.DBG_CTL_JLOCK 1, by simp only [Dev.corksFresh]; decide +kernel⟩,
    ⟨wst fun d => d.setTle 0 { d.tle 0 with inhp := true }, 0, by simp only [Dev.corksFresh]; decide +kernel⟩,
    ⟨State.reset, 0, false, by simp only [Dev.corksFresh]; decide +kernel⟩,
    ⟨wst fun d => d.setTle 0 { d.tle 0 with stopped := false } |>.tput 0 false F.TDRV_BOOST_CTL_EN 1, 0, 60000, by simp only [Dev.corksFresh]; decide +kernel⟩⟩


theorem test_witness_step_keeps_corks_fresh : ∃ s t : State, s.Inv ∧ step s = .next t :=
  ⟨State.reset, _, by simp only [State.Inv, Dev.corksFresh]; decide +kernel, rfl⟩

end Sys2Proof.Tests
end

/-! PROOFS. BAR0 accesses outside every span (R34), on general rules for accesses that reach the bus and for the counters
that HIF keeps of them. -/

namespace Sys2Proof.Machine

/-! ### Commands that reach the bus -/

/-- Whether a cork is overdue depends on the open corks and on the count of FAB cycles alone. -/
theorem Dev.corksFresh_congr {d e : Dev} (hc : d.corks = e.corks) (hf : d.fab = e.fab) : d.corksFresh ↔ e.corksFresh := by
  simp [Dev.corksFresh, hc, hf]

/-- A command that runs completes with the device that its effect leaves, where that leaves no cork overdue. -/
theorem completes_of_runs {c : Instr} {s : State} {f : Dev → Dev} {p : Dev → Prop} (h : Runs c s f) (hf : (f s.start).corksFresh)
    (hp : p (f s.start)) : Completes c s p :=
  ⟨{ s with dev := f s.start }, h.trans (by rw [Dev.corkTick_fresh _ hf]), rfl, hp⟩

/-- Completion of an access that reaches the bus, where its effect leaves corks and the count of cycles alone. -/
theorem completes_bus {c : Instr} {s : State} {req : Nat} {p : Dev → Prop} (f : Dev → Dev) (hx : exec c s = s.runBus req f)
    (hs : s.busRuns req) (hc : (f s.busDev).corks = s.busDev.corks) (hf : (f s.busDev).fab = s.busDev.fab) (hp : p (f s.busDev)) :
    Completes c s p :=
  completes_of_runs (runs_bus f hx hs) ((Dev.corksFresh_congr hc hf).mpr hs.1) hp

/-- What the bus answers is no register. -/
@[simp] theorem Dev.ret_rd (d : Dev) (req data a : Nat) : (d.ret req data).rd a = d.rd a := rfl

@[simp] theorem Dev.ret_get (d : Dev) (req data : Nat) (f : Fld) : (d.ret req data).get f = d.get f := rfl

/-! ### The counters of HIF_CNT0 and HIF_CNT1 -/

/-- A saturating counter goes up by one, up to the greatest value of its field. -/
theorem Dev.get_incSat_same (d : Dev) (f : Fld) (hf : f.lo ≤ f.hi ∧ f.hi < 32) :
    (d.incSat f).get f = min (d.get f + 1) (2 ^ (f.hi + 1 - f.lo) - 1) := by
  have hlt : min (d.get f + 1) (2 ^ (f.hi + 1 - f.lo) - 1) < 2 ^ (f.hi + 1 - f.lo) :=
    lt_of_le_of_lt (min_le_right _ _) (Nat.sub_lt (Nat.two_pow_pos _) Nat.one_pos)
  exact (Dev.get_put_same d f _ hf).trans (Nat.mod_eq_of_lt hlt)

theorem Dev.rd_incSat_ne (d : Dev) (f : Fld) {a : Nat} (h : a ≠ f.addr) : (d.incSat f).rd a = d.rd a := Dev.rd_put_ne d f _ h

/-- A saturating counter changes the live register that it lies in and nothing else. -/
theorem Dev.incSat_onlyRegs (d : Dev) (f : Fld) : Dev.onlyRegs d (d.incSat f) [f.addr] :=
  ⟨rfl, fun _ ha => Dev.rd_incSat_ne d f (List.ne_of_not_mem_cons ha)⟩

/-- HIF counts while the PCIe domain is on and out of reset. -/
theorem Dev.hifInc_counts {d : Dev} (f : Fld) (hon : d.pcieOn = true) (hcore : d.rst.core = false) (hperst : d.rst.perst = false) :
    d.hifInc f = d.incSat f := by
  simp [Dev.hifInc, hon, hcore, hperst]

@[simp] theorem Dev.hifInc_corks (d : Dev) (f : Fld) : (d.hifInc f).corks = d.corks := by
  unfold Dev.hifInc
  split <;> rfl

@[simp] theorem Dev.hifInc_fab (d : Dev) (f : Fld) : (d.hifInc f).fab = d.fab := by
  unfold Dev.hifInc
  split <;> rfl

/-! ### Accesses outside every span (R34) -/

/-- An access outside every span is counted, and a read answers zero. -/
def Dev.outspan (d : Dev) (req : Nat) (wr : Bool) : Dev :=
  if wr then d.hifInc F.HIF_CNT0_OUTSPAN else (d.hifInc F.HIF_CNT0_OUTSPAN).ret req 0

/-- What OUTSPAN_ACCESS does at an offset that lies in no span. -/
theorem exec_outspanAccess {req : Fin 10} {off : Nat} {wr : Bool} {s : State} (hp : placeOf (off % 2 ^ 25) = .out) :
    exec (.outspanAccess req off wr) s = s.runBus req fun d => d.outspan req wr := by
  have hexec : exec (.outspanAccess req off wr) s = execOutspanAccess req off wr s := rfl
  rw [hexec, execOutspanAccess]
  simp only [hp, if_true, Dev.access_out (size := 4) rfl hp, Dev.outspan]

/-- An access outside every span completes with what Dev.outspan makes of the device that it meets. -/
theorem completes_outspanAccess {s : State} {req : Fin 10} {off : Nat} {wr : Bool} {p : Dev → Prop} (hs : s.busRuns req)
    (hp : placeOf (off % 2 ^ 25) = .out) (h : p (s.busDev.outspan req wr)) : Completes (.outspanAccess req off wr) s p :=
  completes_bus (fun d => d.outspan req wr) (exec_outspanAccess hp) hs (by cases wr <;> simp [Dev.outspan])
    (by cases wr <;> simp [Dev.outspan]) h

/-- The bus answers a read outside every span with zero, whether HIF counts it or not. -/
theorem Dev.outspan_read_bus (d : Dev) (req : Nat) : (d.outspan req false).bus = ⟨req, 0⟩ := rfl

/-- While HIF counts, a write outside every span counts OUTSPAN and does nothing more. -/
theorem Dev.outspan_write_counts {d : Dev} (req : Nat) (hon : d.pcieOn = true) (hcore : d.rst.core = false)
    (hperst : d.rst.perst = false) : d.outspan req true = d.incSat F.HIF_CNT0_OUTSPAN :=
  Dev.hifInc_counts _ hon hcore hperst

/-- While HIF counts, a read outside every span counts OUTSPAN and answers zero. -/
theorem Dev.outspan_read_counts {d : Dev} (req : Nat) (hon : d.pcieOn = true) (hcore : d.rst.core = false)
    (hperst : d.rst.perst = false) : d.outspan req false = (d.incSat F.HIF_CNT0_OUTSPAN).ret req 0 :=
  congrArg (fun x : Dev => x.ret req 0) (Dev.hifInc_counts _ hon hcore hperst)

/-- OUTSPAN has eight bits. -/
theorem Dev.get_incSat_outspan (d : Dev) :
    (d.incSat F.HIF_CNT0_OUTSPAN).get F.HIF_CNT0_OUTSPAN = min (d.get F.HIF_CNT0_OUTSPAN + 1) 255 :=
  Dev.get_incSat_same d F.HIF_CNT0_OUTSPAN (by decide)

/-- A counted read changes what the bus answers and the register that holds the counter. -/
theorem Dev.incSat_ret_rest (d : Dev) (f : Fld) (req data : Nat) :
    { (d.incSat f).ret req data with bus := d.bus, reg := d.reg, fltNew := d.fltNew } = d := rfl

/-- Settles O13, by what Dev.outspan makes of the device that the access meets: a read with HIF counting, a read in
whatever state, a write with HIF counting. -/
theorem accessesOutsideTheMap : Obligations.accesses_outside_the_map := by
  unfold Obligations.accesses_outside_the_map
  refine ⟨fun s req off hs hon hcore hperst hp => ?_, fun s req off hs hp => ?_, fun s req off hs hon hcore hperst hp => ?_⟩
  · refine completes_outspanAccess hs hp ?_
    have hbus := Dev.outspan_read_bus s.busDev req
    rw [Dev.outspan_read_counts req hon hcore hperst] at hbus ⊢
    refine ⟨hbus, ?_, fun a ha => ?_, Dev.incSat_ret_rest _ _ _ _⟩
    · rw [Dev.ret_get, Dev.get_incSat_outspan]
    · rw [Dev.ret_rd, Dev.rd_incSat_ne _ _ ha]
  · exact completes_outspanAccess hs hp (Dev.outspan_read_bus _ _)
  · refine completes_outspanAccess hs hp ?_
    rw [Dev.outspan_write_counts req hon hcore hperst]
    exact ⟨Dev.get_incSat_outspan _, Dev.incSat_onlyRegs _ _⟩

end Sys2Proof.Machine

/-! PROOFS. The address of the indirect Cellar access steps on when the access is done (R67), on rules for what the
write of a Cellar word and the access itself leave unchanged. -/

namespace Sys2Proof.Machine

/-! ### Fields, and writes of Cellar words -/

/-- A field is no greater than its width lets it be. -/
theorem Dev.get_lt (d : Dev) (f : Fld) : d.get f < 2 ^ (f.hi + 1 - f.lo) := Nat.mod_lt _ (Nat.two_pow_pos _)

/-- The device with the Cellar's own state at c. -/
def Dev.setClr (d : Dev) (c : Clr) : Dev := { d with clr := c }

@[simp] theorem Dev.setClr_corks (d : Dev) (c : Clr) : (d.setClr c).corks = d.corks := rfl
@[simp] theorem Dev.setClr_fab (d : Dev) (c : Clr) : (d.setClr c).fab = d.fab := rfl
@[simp] theorem Dev.setClr_get (d : Dev) (c : Clr) (f : Fld) : (d.setClr c).get f = d.get f := rfl

/-- Nothing but the Cellar words and the Cellar's own state differs, so no register of BAR0. -/
def Dev.onlyCellar (d e : Dev) : Prop := ∃ cel clr, e = { d with cel := cel, clr := clr }

theorem Dev.onlyCellar.refl (d : Dev) : d.onlyCellar d := ⟨d.cel, d.clr, rfl⟩

theorem Dev.onlyCellar.cwr {d e : Dev} (h : d.onlyCellar e) (a : Nat) (w : Word) : d.onlyCellar (e.cwr a w) := by
  obtain ⟨cel, clr, rfl⟩ := h
  exact ⟨_, clr, rfl⟩

theorem Dev.onlyCellar.cput {d e : Dev} (h : d.onlyCellar e) (f : Fld) (v : Nat) : d.onlyCellar (e.cput f v) := h.cwr _ _

theorem Dev.onlyCellar.setClr {d e : Dev} (h : d.onlyCellar e) (c : Clr) : d.onlyCellar (e.setClr c) := by
  obtain ⟨cel, clr, rfl⟩ := h
  exact ⟨cel, c, rfl⟩

theorem Dev.rstCauseClr_onlyCellar (d : Dev) : d.onlyCellar d.rstCauseClr := (Dev.onlyCellar.refl d).cput _ _

theorem Dev.mwStatClr_onlyCellar (d : Dev) : d.onlyCellar d.mwStatClr :=
  ((((Dev.onlyCellar.refl d).cput F.CEL_MWSTAT_DET 0).cput F.CEL_MWSTAT_CHG0 0).cput F.CEL_MWSTAT_CHG1 0).setClr _

/-- A write of a Cellar word stays within the Cellar. -/
theorem Dev.celWrite_onlyCellar (d : Dev) (a : Nat) (w : Word) : d.onlyCellar (d.celWrite a w) := by
  unfold Dev.celWrite
  split
  · split
    · exact d.rstCauseClr_onlyCellar
    · exact .refl d
  · split
    · split
      · exact d.mwStatClr_onlyCellar
      · exact .refl d
    · dsimp only
      split
      · exact ((Dev.onlyCellar.refl d).cwr a _).setClr _
      · exact (Dev.onlyCellar.refl d).cwr a _

@[simp] theorem Dev.celWrite_corks (d : Dev) (a : Nat) (w : Word) : (d.celWrite a w).corks = d.corks := by
  obtain ⟨cel, clr, h⟩ := d.celWrite_onlyCellar a w
  rw [h]

@[simp] theorem Dev.celWrite_fab (d : Dev) (a : Nat) (w : Word) : (d.celWrite a w).fab = d.fab := by
  obtain ⟨cel, clr, h⟩ := d.celWrite_onlyCellar a w
  rw [h]

@[simp] theorem Dev.celWrite_get (d : Dev) (a : Nat) (w : Word) (f : Fld) : (d.celWrite a w).get f = d.get f := by
  obtain ⟨cel, clr, h⟩ := d.celWrite_onlyCellar a w
  exact Dev.get_congr (by rw [h]) f

/-! ### The access that is done (R66, R67) -/

/-- The access acc completes, its address as it was: BUSY clears, and the word is read, with RDY set, or written. -/
def Dev.celMove (d : Dev) (acc : IndAcc) : Dev :=
  let d1 := (d.put F.CEL_IADDR_BUSY 0).setClr { d.clr with ind := none }
  match acc with
  | .read => (d1.put F.CEL_IADDR_RDY 1).setClr { d1.clr with lastRead := d1.crd (d.get F.CEL_IADDR_ADDR) }
  | .write w => d1.celWrite (d.get F.CEL_IADDR_ADDR) w

/-- Dev.celDone moves the word and then, with AINC set, steps the address on. -/
theorem Dev.celDone_eq {d : Dev} {acc : IndAcc} (h : d.clr.ind = some acc) :
    d.celDone = if (d.celMove acc).flag F.CEL_IADDR_AINC then (d.celMove acc).put F.CEL_IADDR_ADDR (d.get F.CEL_IADDR_ADDR + 1)
      else d.celMove acc := by
  unfold Dev.celDone
  rw [h]
  cases acc <;> rfl

/-! The next two lemmas rewrite by name: proved by unfolding, they have the kernel compare whole devices and so evaluate the
reset values of the registers. -/

@[simp] theorem Dev.celMove_corks (d : Dev) (acc : IndAcc) : (d.celMove acc).corks = d.corks := by
  cases acc with
  | read => rw [Dev.celMove, Dev.setClr_corks, Dev.put_corks, Dev.setClr_corks, Dev.put_corks]
  | write w => rw [Dev.celMove, Dev.celWrite_corks, Dev.setClr_corks, Dev.put_corks]

@[simp] theorem Dev.celMove_fab (d : Dev) (acc : IndAcc) : (d.celMove acc).fab = d.fab := by
  cases acc with
  | read => rw [Dev.celMove, Dev.setClr_fab, Dev.put_fab, Dev.setClr_fab, Dev.put_fab]
  | write w => rw [Dev.celMove, Dev.celWrite_fab, Dev.setClr_fab, Dev.put_fab]

/-- The fields of CEL_IADDR below BUSY and RDY stand through the access. -/
theorem Dev.celMove_get (d : Dev) (acc : IndAcc) {f : Fld} (hf : f.lo ≤ f.hi ∧ f.hi < 30) : (d.celMove acc).get f = d.get f := by
  have hput (e : Dev) {g : Fld} (v : Nat) (hg : g.lo ≤ g.hi ∧ 30 ≤ g.lo) : (e.put g v).get f = e.get f :=
    Dev.get_put_apart e g f v hg.1 ⟨hf.1, by omega⟩ (.inl (by omega))
  cases acc with
  | read => rw [Dev.celMove, Dev.setClr_get, hput _ 1 (by decide), Dev.setClr_get, hput _ 0 (by decide)]
  | write w => rw [Dev.celMove, Dev.celWrite_get, Dev.setClr_get, hput _ 0 (by decide)]

theorem Dev.celDone_corks (d : Dev) : d.celDone.corks = d.corks := by
  cases h : d.clr.ind with
  | none => simp [Dev.celDone, h]
  | some acc => rw [Dev.celDone_eq h]; split <;> simp

theorem Dev.celDone_fab (d : Dev) : d.celDone.fab = d.fab := by
  cases h : d.clr.ind with
  | none => simp [Dev.celDone, h]
  | some acc => rw [Dev.celDone_eq h]; split <;> simp

/-- With AINC set, a done access leaves the next address, in the 12 bits of its field. -/
theorem Dev.celDone_addr {d : Dev} {acc : IndAcc} (h : d.clr.ind = some acc) (hinc : d.flag F.CEL_IADDR_AINC = true) :
    d.celDone.get F.CEL_IADDR_ADDR = (d.get F.CEL_IADDR_ADDR + 1) % 2 ^ 12 := by
  have hflag : (d.celMove acc).flag F.CEL_IADDR_AINC = true := by
    rw [Dev.flag, Dev.celMove_get d acc (by decide)]
    exact hinc
  rw [Dev.celDone_eq h, if_pos hflag]
  exact Dev.get_put_same _ _ _ (by decide)

/-- What CEL_ACCESS_DONE does: nothing until SLOW runs. -/
theorem exec_celAccessDone (s : State) :
    exec .celAccessDone s = s.runCel fun d => if d.cflag F.CEL_STAT_SLOWOK then d.celDone else d := rfl

/-- While SLOW runs, CEL_ACCESS_DONE completes with what Dev.celDone makes of the device. -/
theorem completes_celAccessDone {s : State} {p : Dev → Prop} (hs : s.celRuns) (hslow : s.dev.cflag F.CEL_STAT_SLOWOK = true)
    (hp : p s.dev.celDone) : Completes .celAccessDone s p := by
  have hrun : Runs .celAccessDone s Dev.celDone := runs_congr (runs_cel _ (exec_celAccessDone s) hs) (if_pos hslow)
  exact completes_of_runs hrun ((Dev.corksFresh_congr (Dev.celDone_corks _) (Dev.celDone_fab _)).mpr hs.1) hp

/-- Settles O14, by the address that Dev.celDone leaves: the next one modulo 2 ^ 12, after a read and after a write. -/
theorem cellarAddressIncrements : Obligations.cellar_address_increments := by
  unfold Obligations.cellar_address_increments
  intro s i hs hslow hind hinc
  refine completes_celAccessDone hs hslow ?_
  have hlt : s.dev.get F.CEL_IADDR_ADDR < 2 ^ 12 := s.dev.get_lt F.CEL_IADDR_ADDR
  rw [Dev.celDone_addr hind hinc]
  split <;> omega

end Sys2Proof.Machine

/-! PROOFS. Casks reclaimed from an owner (R407) and the cask window (R404), on rules for what the queue manager's operations
do to its maps and for what its notices and pool causes leave unchanged. -/

namespace Sys2Proof.Machine

/-! ### Casks and queues -/

/-- The first entry of key k is the one inserted, whatever the order of the keys. -/
theorem find?_smIns_same {α : Type} (m : SMap α) (k : Nat) (v : α) : ((smIns m k v).find? fun p => p.1 == k) = some (k, v) := by
  induction m with
  | nil => simp [smIns]
  | cons p r ih =>
    obtain ⟨j, u⟩ := p
    by_cases hj : j = k
    · simp [smIns, hj]
    · by_cases hlt : k < j
      · simp [smIns, hj, hlt]
      · simp [smIns, hj, hlt, ih]

/-- What a command stores for a cask is the cask's state. -/
@[simp] theorem Qmg.cask_putCask_same (q : Qmg) (c : Nat) (k : Cask) : (q.putCask c k).cask c = some k := by
  simp [Qmg.cask, Qmg.putCask, find?_smIns_same]

@[simp] theorem Qmg.cask_setQueue (q : Qmg) (n : Nat) (l : List Nat) (c : Nat) : (q.setQueue n l).cask c = q.cask c := rfl

/-- An owner may act on a HELD cask that has its tag. -/
theorem Qmg.holds_of_cask {q : Qmg} {o c : Nat} (h : q.cask c = some ⟨false, o⟩) : q.holds o c = .ok := by
  simp [Qmg.holds, h]

/-- The consumer of a queue takes its head cask, which is then HELD with the consumer's tag. -/
theorem Qmg.pop_cons {q : Qmg} {o n c : Nat} {r : List Nat} (hcons : qCons (q.qcfgOf n) = o) (hq : q.queue n = c :: r) :
    q.pop o n = ((q.putCask c ⟨false, o⟩).setQueue n r, .ok, c) := by
  simp [Qmg.pop, hcons, hq]

/-- The HELD casks of owner o become FREE, and no others. -/
def Qmg.reclaim (q : Qmg) (o : Nat) : Qmg := { q with casks := q.casks.filter fun p => p.2.queued || p.2.tag != o }

/-! ### What pool causes, notices and results leave unchanged -/

/-- Two devices with the same rest have the same queue manager. -/
theorem Dev.still_qmg {d e : Dev} (h : d.still = e.still) : d.qmg = e.qmg := show d.still.qmg = e.still.qmg from congrArg Dev.qmg h

/-- POOL_LOW and POOL_EMPTY are reports. -/
@[simp] theorem Dev.poolCheck_still (d : Dev) : d.poolCheck.still = d.still := by
  unfold Dev.poolCheck
  rw [Dev.cause_still, Dev.cause_still]

@[simp] theorem Dev.icuSetLevel_still (d : Dev) (s : Nat) (b : Bool) : (d.icuSetLevel s b).still = d.still := by
  unfold Dev.icuSetLevel
  dsimp only
  split
  · rw [Dev.icuArrive_still, Dev.icu_still]
  · split
    · rw [Dev.icuPend_still, Dev.icu_still]
    · rfl

@[simp] theorem Dev.noteLine_still (d : Dev) (n : Nat) : (d.noteLine n).still = d.still := Dev.icuSetLevel_still _ _ _

/-- The notice of a queue is a report. -/
@[simp] theorem Dev.noteQ_still (d : Dev) (n : Nat) : (d.noteQ n).still = d.still := Dev.noteLine_still _ _

@[simp] theorem Dev.poolCheck_qmg (d : Dev) : d.poolCheck.qmg = d.qmg := Dev.still_qmg d.poolCheck_still
@[simp] theorem Dev.poolCheck_corks (d : Dev) : d.poolCheck.corks = d.corks := Dev.still_corks d.poolCheck_still
@[simp] theorem Dev.poolCheck_fab (d : Dev) : d.poolCheck.fab = d.fab := Dev.still_fab d.poolCheck_still

@[simp] theorem Dev.noteQ_qmg (d : Dev) (n : Nat) : (d.noteQ n).qmg = d.qmg := Dev.still_qmg (d.noteQ_still n)
@[simp] theorem Dev.noteQ_corks (d : Dev) (n : Nat) : (d.noteQ n).corks = d.corks := Dev.still_corks (d.noteQ_still n)
@[simp] theorem Dev.noteQ_fab (d : Dev) (n : Nat) : (d.noteQ n).fab = d.fab := Dev.still_fab (d.noteQ_still n)

@[simp] theorem Dev.qRes_qmg (d : Dev) (req op : Nat) (c : QCode) (k : Nat) : (d.qRes req op c k).qmg = d.qmg := Dev.setOwn_qmg _ _ _ _
@[simp] theorem Dev.qRes_corks (d : Dev) (req op : Nat) (c : QCode) (k : Nat) : (d.qRes req op c k).corks = d.corks := Dev.setOwn_corks _ _ _ _
@[simp] theorem Dev.qRes_fab (d : Dev) (req op : Nat) (c : QCode) (k : Nat) : (d.qRes req op c k).fab = d.fab := Dev.setOwn_fab _ _ _ _

/-- The requester finds the result of its operation in its copy of QMG_RES (R401). -/
@[simp] theorem Dev.qRes_own (d : Dev) (req op : Nat) (c : QCode) (k : Nat) :
    (d.qRes req op c k).own req R.QMG_RES = BitVec.ofNat 32 (qmgWord op c k) := Dev.own_setOwn_same _ _ _ _

/-! ### Reclaim and pop (R400, R407) -/

/-- RECLAIM of an owner from 16 on without a grant frees its HELD casks and answers their number. -/
theorem Dev.qmgReclaim_ungranted {d : Dev} (req : Nat) {owner : Nat} (hlow : 16 ≤ owner % 256)
    (hgrant : bits (d.qmg.ocfgOf (owner % 256)).toNat 9 0 = 0) :
    d.qmgReclaim req owner =
      ((d.put F.QMG_RECLAIM_OWNER (owner % 256)).upQmg fun q => q.reclaim (owner % 256)).poolCheck.qRes req 5 .ok
        (min (d.qmg.casks.filter fun p => !p.2.queued && p.2.tag == owner % 256).length 0xFFFF) := by
  have hkeep (p : Nat × Cask) : (!(!p.2.queued && p.2.tag == owner % 256)) = (p.2.queued || p.2.tag != owner % 256) := by
    simp [bne]
  have hgo : ¬(owner % 256 < 16 ∨ bits (d.qmg.ocfgOf (owner % 256)).toNat 9 0 ≠ 0) := by omega
  simp only [Dev.qmgReclaim, Qmg.reclaim, if_neg hgo, hkeep]

/-- RECLAIM of any other owner answers BUSY. -/
theorem Dev.qmgReclaim_busy {d : Dev} (req : Nat) {owner : Nat}
    (h : owner % 256 < 16 ∨ bits (d.qmg.ocfgOf (owner % 256)).toNat 9 0 ≠ 0) :
    d.qmgReclaim req owner = (d.put F.QMG_RECLAIM_OWNER (owner % 256)).qRes req 5 .busy 0 := if_pos h

/-- QMG_POP of a requester that is granted the consumer of the selected queue, the queue not empty. -/
theorem Dev.qmgPop_cons {d : Dev} {req c : Nat} {r : List Nat} (hg : d.qGranted req = true)
    (hcons : qCons (d.qmg.qcfgOf ((d.own req R.QMG_QSEL).toNat % 2 ^ 15)) = d.qOwner req)
    (hq : d.qmg.queue ((d.own req R.QMG_QSEL).toNat % 2 ^ 15) = c :: r) :
    d.qmgPop req =
      (((d.upQmg fun _ => (d.qmg.putCask c ⟨false, d.qOwner req⟩).setQueue ((d.own req R.QMG_QSEL).toNat % 2 ^ 15) r).noteQ
        ((d.own req R.QMG_QSEL).toNat % 2 ^ 15)).qRes req 4 .ok c).ret req (qmgWord 4 .ok c) := by
  simp only [Dev.qmgPop, hg, if_true, Qmg.pop_cons hcons hq]

/-- Completion of a command of the core domain whose effect makes x of the device at hand. -/
theorem completes_run_eq {c : Instr} {s : State} {p : Dev → Prop} {x : Dev} (f : Dev → Dev) (hx : exec c s = s.run f) (hs : s.coreRuns)
    (heq : f s.dev = x) (hc : x.corks = s.dev.corks) (hf : x.fab = s.dev.fab) (hp : p x) : Completes c s p := by
  subst heq
  exact completes_run f hx hs hc hf hp

/-- Settles O17, by the cases of Dev.qmgReclaim and by the cask that a pop stores for the consumer. -/
theorem casksReclaimed : Obligations.casks_reclaimed := by
  unfold Obligations.casks_reclaimed
  refine ⟨fun s req owner hs hlow hgrant => ?_, fun s req owner hs hbusy => ?_, fun s req c r hs hg hcons hq => ?_⟩
  · refine completes_run_eq (fun d => d.qmgReclaim req owner) rfl hs (Dev.qmgReclaim_ungranted req hlow hgrant) (by simp) (by simp) ?_
    exact ⟨by simp [Qmg.reclaim], Dev.qRes_own _ _ _ _ _⟩
  · refine completes_run_eq (fun d => d.qmgReclaim req owner) rfl hs (Dev.qmgReclaim_busy req hbusy) (by simp) (by simp) ?_
    exact ⟨by simp, Dev.qRes_own _ _ _ _ _⟩
  · refine completes_run_eq (fun d => d.qmgPop req) rfl hs (Dev.qmgPop_cons hg hcons hq) (by simp) (by simp) ?_
    exact Qmg.holds_of_cask (by simp)

/-! ### The cask window (R404) -/

/-- The device with its cask memory at m. -/
def Dev.setCmem (d : Dev) (m : List Host.Cell) : Dev := { d with cmem := m }

@[simp] theorem Dev.setCmem_corks (d : Dev) (m : List Host.Cell) : (d.setCmem m).corks = d.corks := rfl
@[simp] theorem Dev.setCmem_fab (d : Dev) (m : List Host.Cell) : (d.setCmem m).fab = d.fab := rfl
@[simp] theorem Dev.setCmem_cmem (d : Dev) (m : List Host.Cell) : (d.setCmem m).cmem = m := rfl

/-- Nothing but the cask memory differs. -/
theorem Dev.setCmem_rest (d : Dev) (m : List Host.Cell) : { d.setCmem m with cmem := d.cmem, fltNew := d.fltNew } = d := rfl

/-- Nothing but what the bus answers differs. -/
theorem Dev.ret_rest (d : Dev) (req data : Nat) : { d.ret req data with bus := d.bus, fltNew := d.fltNew } = d := rfl

/-- The window reaches the selected cask where it is HELD with the requester's tag. -/
theorem Dev.qWindow_held {d : Dev} {req : Nat}
    (h : d.qmg.cask ((d.own req R.QMG_CSEL).toNat % caskTotal) = some ⟨false, d.qOwner req⟩) :
    d.qWindow req = some ((d.own req R.QMG_CSEL).toNat % caskTotal) := by
  simp [Dev.qWindow, h]

/-- The window reaches no cask in any other state of the selected one. -/
theorem Dev.qWindow_other {d : Dev} {req : Nat}
    (h : d.qmg.cask ((d.own req R.QMG_CSEL).toNat % caskTotal) ≠ some ⟨false, d.qOwner req⟩) : d.qWindow req = none := by
  unfold Dev.qWindow
  dsimp only
  split
  · next k hk =>
    obtain ⟨queued, tag⟩ := k
    refine if_neg fun hmine => h ?_
    obtain ⟨hheld, htag⟩ : queued = false ∧ tag = d.qOwner req := by simpa using hmine
    rw [hk, hheld, htag]
  · rfl

/-- A window read of a cask that the window reaches answers the word. -/
theorem Dev.qmgCwin_read {d : Dev} {req c : Nat} (w : Fin 16) (data : Nat) (h : d.qWindow req = some c) :
    d.qmgCwin req w false data = d.ret req (memRead d.cmem (64 * c + 4 * w) 4) := by
  simp [Dev.qmgCwin, h, Nat.mod_eq_of_lt w.isLt]

/-- A window write to a cask that the window reaches stores the word. -/
theorem Dev.qmgCwin_write {d : Dev} {req c : Nat} (w : Fin 16) (data : Nat) (h : d.qWindow req = some c) :
    d.qmgCwin req w true data = d.setCmem (memWrite d.cmem (64 * c + 4 * w) 4 (data % 2 ^ 32)) := by
  simp [Dev.qmgCwin, Dev.setCmem, h, Nat.mod_eq_of_lt w.isLt]

/-- A window read that reaches no cask counts WINREF and answers zero. -/
theorem Dev.qmgCwin_read_refused {d : Dev} {req : Nat} (w data : Nat) (h : d.qWindow req = none) :
    d.qmgCwin req w false data = (d.incSat F.QMG_CNT_WINREF).ret req 0 := by
  simp [Dev.qmgCwin, h]

/-- A window write that reaches no cask counts WINREF and does nothing more. -/
theorem Dev.qmgCwin_write_refused {d : Dev} {req : Nat} (w data : Nat) (h : d.qWindow req = none) :
    d.qmgCwin req w true data = d.incSat F.QMG_CNT_WINREF := by
  simp [Dev.qmgCwin, h]

@[simp] theorem Dev.incSat_corks (d : Dev) (f : Fld) : (d.incSat f).corks = d.corks := Dev.still_corks (d.incSat_still f)
@[simp] theorem Dev.incSat_fab (d : Dev) (f : Fld) : (d.incSat f).fab = d.fab := Dev.still_fab (d.incSat_still f)

/-- An access of the window completes with what Dev.qmgCwin makes of the device. -/
theorem completes_qmgCwinAccess {s : State} {req : Fin 10} {w : Fin 16} {wr : Bool} {data : Nat} {p : Dev → Prop} {x : Dev}
    (hs : s.coreRuns) (heq : s.dev.qmgCwin req w wr data = x) (hc : x.corks = s.dev.corks) (hf : x.fab = s.dev.fab) (hp : p x) :
    Completes (.qmgCwinAccess req w wr data) s p :=
  completes_run_eq (fun d => d.qmgCwin req w wr data) rfl hs heq hc hf hp

/-- WINREF has eight bits. -/
theorem Dev.get_incSat_winref (d : Dev) :
    (d.incSat F.QMG_CNT_WINREF).get F.QMG_CNT_WINREF = min (d.get F.QMG_CNT_WINREF + 1) 255 :=
  Dev.get_incSat_same d F.QMG_CNT_WINREF (by decide)

/-- Settles O16, by what Dev.qmgCwin makes of the device: a read and a write where the window reaches the selected cask, a
read and a write where it reaches none. -/
theorem caskWindow : Obligations.cask_window := by
  unfold Obligations.cask_window
  refine ⟨fun s req w data hs h => ?_, fun s req w data hs h => ?_, fun s req w data hs h => ?_, fun s req w data hs h => ?_⟩
  · exact completes_qmgCwinAccess hs (Dev.qmgCwin_read w data (Dev.qWindow_held h)) (by simp) (by simp) ⟨rfl, Dev.ret_rest _ _ _⟩
  · refine completes_qmgCwinAccess hs (Dev.qmgCwin_write w data (Dev.qWindow_held h)) (by simp) (by simp) ?_
    refine ⟨?_, fun a ha => ?_, Dev.setCmem_rest _ _⟩
    · rw [Dev.setCmem_cmem, memRead_memWrite]
      exact Nat.mod_mod _ _
    · rw [Dev.setCmem_cmem, memGet_memWrite_out _ _ _ _ _ ha]
  · refine completes_qmgCwinAccess hs (Dev.qmgCwin_read_refused w data (Dev.qWindow_other h))
      ((Dev.ret_corks _ _ _).trans (Dev.incSat_corks _ _)) ((Dev.ret_fab _ _ _).trans (Dev.incSat_fab _ _)) ?_
    refine ⟨rfl, ?_, fun a ha => ?_, Dev.incSat_ret_rest _ _ _ _⟩
    · rw [Dev.ret_get, Dev.get_incSat_winref]
    · rw [Dev.ret_rd, Dev.rd_incSat_ne _ _ ha]
  · refine completes_qmgCwinAccess hs (Dev.qmgCwin_write_refused w data (Dev.qWindow_other h)) (Dev.incSat_corks _ _) (Dev.incSat_fab _ _) ?_
    exact ⟨Dev.get_incSat_winref _, Dev.incSat_onlyRegs _ _⟩

end Sys2Proof.Machine

/-! PROOFS. A write of TMR_GCTL (R458): what a pass over the first timers does to each of them, and what GO and STOP leave
unchanged of the rest. -/

namespace Sys2Proof.Machine

/-! ### Commands that reach the bus -/

/-- Completion of an access that reaches the bus, whose effect makes x of the device that it meets. -/
theorem completes_bus_eq {c : Instr} {s : State} {req : Nat} {p : Dev → Prop} {x : Dev} (f : Dev → Dev) (hx : exec c s = s.runBus req f)
    (hs : s.busRuns req) (heq : f s.busDev = x) (hc : x.corks = s.busDev.corks) (hf : x.fab = s.busDev.fab) (hp : p x) :
    Completes c s p := by
  subst heq
  exact completes_bus f hx hs hc hf hp

/-! ### Timers -/

/-- What a command stores for a timer is the timer's state. -/
@[simp] theorem Dev.tm_setTm_same (d : Dev) (n : Nat) (t : Tmr) : (d.setTm n t).tm n = t := smGet_smSet_same _ _ _ _

theorem Dev.tm_setTm_ne (d : Dev) {n m : Nat} (t : Tmr) (h : n ≠ m) : (d.setTm m t).tm n = d.tm n := smGet_smSet_ne _ _ _ _ h

@[simp] theorem Dev.setTm_flag (d : Dev) (n : Nat) (t : Tmr) (f : Fld) : (d.setTm n t).flag f = d.flag f := rfl

/-! ### A pass over the numbers below k -/

/-- Number k comes last. -/
theorem forN_succ (k : Nat) (f : Dev → Nat → Dev) (d : Dev) : forN (k + 1) f d = f (forN k f d) k := by
  simp [forN, List.range_succ]

/-- What every turn of a pass leaves alone stands after it. -/
theorem forN_keeps {β : Type} (r : Dev → β) {f : Dev → Nat → Dev} (h : ∀ x n, r (f x n) = r x) (k : Nat) (d : Dev) :
    r (forN k f d) = r d := by
  induction k with
  | zero => rfl
  | succ k ih => rw [forN_succ, h, ih]

/-- Of the timers below k, each that p holds of becomes g of it. -/
def Dev.tmrEach (d : Dev) (k : Nat) (p : Dev → Nat → Bool) (g : Tmr → Tmr) : Dev :=
  forN k (fun x n => if p x n then x.setTm n (g (x.tm n)) else x) d

section
variable (d : Dev) (k : Nat) {p : Dev → Nat → Bool} {g : Tmr → Tmr}

theorem Dev.tmrEach_succ :
    d.tmrEach (k + 1) p g = if p (d.tmrEach k p g) k then (d.tmrEach k p g).setTm k (g ((d.tmrEach k p g).tm k)) else d.tmrEach k p g :=
  forN_succ _ _ _

/-- A pass over timers leaves alone what no timer's state is part of. -/
theorem Dev.tmrEach_keeps {β : Type} (r : Dev → β) (h : ∀ x n t, r (Dev.setTm x n t) = r x) : r (d.tmrEach k p g) = r d := by
  refine forN_keeps r (fun x n => ?_) k d
  split
  · exact h _ _ _
  · rfl

@[simp] theorem Dev.tmrEach_corks : (d.tmrEach k p g).corks = d.corks := Dev.tmrEach_keeps d k Dev.corks Dev.setTm_corks

@[simp] theorem Dev.tmrEach_fab : (d.tmrEach k p g).fab = d.fab := Dev.tmrEach_keeps d k Dev.fab Dev.setTm_fab

/-- Where p looks at no timer but its own, a timer that the pass has still to reach is judged as at its start. -/
theorem Dev.tmrEach_ahead (hp : ∀ x n m t, n ≠ m → p (Dev.setTm x m t) n = p x n) {n : Nat} (h : k ≤ n) :
    p (d.tmrEach k p g) n = p d n := by
  induction k with
  | zero => rfl
  | succ k ih =>
    rw [Dev.tmrEach_succ]
    split
    · rw [hp _ _ _ _ (by omega), ih (by omega)]
    · exact ih (by omega)

/-- The timers after a pass: those below k that p held of at its start are changed, and no others. -/
theorem Dev.tm_tmrEach (hp : ∀ x n m t, n ≠ m → p (Dev.setTm x m t) n = p x n) (n : Nat) :
    (d.tmrEach k p g).tm n = if n < k ∧ p d n then g (d.tm n) else d.tm n := by
  induction k with
  | zero => simp [Dev.tmrEach, forN]
  | succ k ih =>
    rw [Dev.tmrEach_succ, Dev.tmrEach_ahead d k hp le_rfl]
    obtain rfl | hne := eq_or_ne n k
    · cases h : p d n <;> simp [h, ih]
    · have hlt : n < k + 1 ↔ n < k := by omega
      simp only [hlt, ← ih]
      split
      · exact Dev.tm_setTm_ne _ _ hne
      · rfl

end

/-! ### GO and STOP (R458) -/

/-- GO reaches a timer in WAIT, but for one enabled in the present FAB cycle (R460). -/
def Dev.goStarts (d : Dev) (n : Nat) : Bool := (d.tm n).wait && (d.tm n).since != d.fab

/-- STOP reaches a running timer with GSYNC. -/
def Dev.stopHolds (d : Dev) (n : Nat) : Bool := (d.tm n).run && d.flag (F.TMR_CTL_GSYNC n)

/-- A timer returns to WAIT. -/
def Tmr.hold (t : Tmr) : Tmr := { t with run := false, wait := true, inq := 0 }

theorem Dev.goStarts_setTm_ne (d : Dev) (n m : Nat) (t : Tmr) (h : n ≠ m) : (d.setTm m t).goStarts n = d.goStarts n := by
  simp [Dev.goStarts, Dev.tm_setTm_ne d t h]

theorem Dev.stopHolds_setTm_ne (d : Dev) (n m : Nat) (t : Tmr) (h : n ≠ m) : (d.setTm m t).stopHolds n = d.stopHolds n := by
  simp [Dev.stopHolds, Dev.tm_setTm_ne d t h]

/-- A write with STOP set, whatever its GO. -/
theorem Dev.tmrGctl_stop (d : Dev) {data : Nat} (h : bitOf data 1 = true) :
    d.tmrGctl data = d.tmrEach 16 Dev.stopHolds Tmr.hold := if_pos h

/-- A write with GO set and STOP clear. -/
theorem Dev.tmrGctl_go (d : Dev) {data : Nat} (hstop : bitOf data 1 = false) (hgo : bitOf data 0 = true) :
    d.tmrGctl data = d.tmrEach 16 Dev.goStarts Tmr.start := by
  rw [Dev.tmrGctl, hstop, if_neg Bool.false_ne_true, if_pos hgo]
  rfl

/-- GO starts the timers of TMR0-TMR15 that it reaches, and no others. -/
theorem Dev.tm_go (d : Dev) (n : Nat) :
    (d.tmrEach 16 Dev.goStarts Tmr.start).tm n =
      if n < 16 ∧ (d.tm n).wait = true ∧ (d.tm n).since ≠ d.fab then (d.tm n).start else d.tm n := by
  simp [Dev.tm_tmrEach d 16 Dev.goStarts_setTm_ne, Dev.goStarts]

/-- STOP returns the timers of TMR0-TMR15 that it reaches to WAIT, and no others. -/
theorem Dev.tm_stop (d : Dev) (n : Nat) :
    (d.tmrEach 16 Dev.stopHolds Tmr.hold).tm n =
      if n < 16 ∧ (d.tm n).run = true ∧ d.flag (F.TMR_CTL_GSYNC n) = true then { d.tm n with run := false, wait := true, inq := 0 }
      else d.tm n := by
  simp [Dev.tm_tmrEach d 16 Dev.stopHolds_setTm_ne, Dev.stopHolds, Tmr.hold]

/-! ### The register TMR_GCTL -/

/-- TMR_GCTL lies in the CORE domain, whose power is never off. -/
theorem Dev.isOff_tmrGctl (d : Dev) : d.isOff R.TMR_GCTL = false := rfl

theorem Dev.inReset_tmrGctl (d : Dev) : d.inReset R.TMR_GCTL = d.rst.core := rfl

/-- TMR_GCTL is in no fault set and takes no cork. -/
theorem Dev.regWrite_tmrGctl (d : Dev) (req data : Nat) : d.regWrite req R.TMR_GCTL data = d.tmrGctl (data % 2 ^ 32) := by
  have hflt : fltBlk R.TMR_GCTL = none := by decide
  have hblk : corkBlk R.TMR_GCTL = none := by decide
  have hcork : corkOf R.TMR_GCTL = none := by decide
  simp only [Dev.regWrite, hflt, hblk, hcork]
  rfl

/-- A write of TMR_GCTL with CORE reset released. -/
theorem Dev.access_tmrGctl {d : Dev} (req data : Nat) (h : d.rst.core = false) :
    d.access req R.TMR_GCTL 4 true data = d.tmrGctl (data % 2 ^ 32) := by
  have hplace : placeOf (R.TMR_GCTL % 2 ^ 25) = .reg R.TMR_GCTL := by decide
  rw [Dev.access_write hplace rfl d.isOff_tmrGctl (d.inReset_tmrGctl.trans h), Dev.regWrite_tmrGctl]

/-- Settles O18, by the pass over TMR0-TMR15 that a write of TMR_GCTL makes: with GO alone, with STOP alone, and with both,
where it is STOP's. -/
theorem timersGoAndStop : Obligations.timers_go_and_stop := by
  unfold Obligations.timers_go_and_stop
  refine ⟨fun s req hs => ?_, fun s req hs => ?_, fun s req hs hcore => ?_⟩
  · exact completes_run_eq (fun d => d.tmrGctl 1) rfl hs (Dev.tmrGctl_go _ rfl rfl) (by simp) (by simp) (Dev.tm_go _)
  · exact completes_run_eq (fun d => d.tmrGctl 2) rfl hs (Dev.tmrGctl_stop _ rfl) (by simp) (by simp) (Dev.tm_stop _)
  · have hboth : s.busDev.access req R.TMR_GCTL 4 true 3 = s.busDev.tmrEach 16 Dev.stopHolds Tmr.hold :=
      (Dev.access_tmrGctl req 3 hcore).trans (Dev.tmrGctl_stop _ rfl)
    exact completes_bus_eq (fun d => d.access req R.TMR_GCTL 4 true 3) rfl hs hboth (by simp) (by simp) (Dev.tm_stop _)

end Sys2Proof.Machine

/-! PROOFS. When PWR_SLEEP.GO is taken (R509), and where it leaves the Cellar while no domain is on (R510), on the lemmas that
say what Dev.sleepOk asks and what a sleep that waits for no drain ends in. -/

namespace Sys2Proof.Machine

/-! ### Words of the Cellar -/

/-- A field of the Cellar depends on the Cellar's words only. -/
theorem Dev.cget_congr {d e : Dev} (h : d.cel = e.cel) (f : Fld) : d.cget f = e.cget f := by simp [Dev.cget, Dev.crd, h]

@[simp] theorem Dev.setClr_cget (d : Dev) (c : Clr) (f : Fld) : (d.setClr c).cget f = d.cget f := Dev.cget_congr rfl f

@[simp] theorem Dev.corkRefuse_cel (d : Dev) (b a q r : Nat) : (d.corkRefuse b a q r).cel = d.cel :=
  Dev.still_cel (d.corkRefuse_still b a q r)

/-- Refusing the overdue corks leaves the Cellar alone. -/
@[simp] theorem Dev.corkTick_cel (d : Dev) : d.corkTick.cel = d.cel := by
  unfold Dev.corkTick
  refine List.foldlRecOn d.corks _ (motive := fun x : Dev => x.cel = d.cel) rfl fun x hx c _ => ?_
  split
  · rw [Dev.corkRefuse_cel, Dev.corkEnd_cel, hx]
  · exact hx

@[simp] theorem Dev.corkTick_cget (d : Dev) (f : Fld) : d.corkTick.cget f = d.cget f := Dev.cget_congr d.corkTick_cel f

/-- What a command's effect leaves in the Cellar stands in the state that it completes with, whatever cork is refused by then. -/
theorem completes_cget {c : Instr} {s : State} {f : Dev → Dev} {g : Fld} {v : Nat} (h : Runs c s f) (hv : (f s.start).cget g = v) :
    Completes c s fun e => e.cget g = v :=
  ⟨{ s with dev := (f s.start).corkTick }, h, rfl, (Dev.corkTick_cget _ g).trans hv⟩

/-! ### The request (R509) -/

/-- What a sleep request asks of the chip. -/
theorem Dev.sleepOk_iff (d : Dev) : d.sleepOk = true ↔
    d.mgs.sleeping = false ∧ (∀ k, k < 16 → d.tstate k ≤ 1) ∧ (d.mirState = 0 ∨ d.mirState = 2) ∧
      ∀ k, k < 8 → d.domState k ≠ 1 ∧ d.domState k ≠ 3 := by
  simp [Dev.sleepOk, and_assoc]

/-- What PWR_SLEEP does with GO. -/
theorem exec_pwrSleep (req : Fin 10) (s : State) :
    exec (.pwrSleep req) s = s.runSys fun d => d.rakCatch.sleepReq req.val := rfl

/-- A request of MG's that the chip is ready for begins a sleep. -/
theorem runs_pwrSleep_taken {s : State} (hs : s.sysRuns) (hok : s.busDev.sleepOk = true) :
    Runs (.pwrSleep 7) s fun d => d.rakCatch.sleep :=
  runs_congr (runs_sys _ (exec_pwrSleep 7 s) hs) (if_pos ⟨rfl, hok⟩)

/-- Any other request is refused, counted and reported. -/
theorem runs_pwrSleep_refused {s : State} {req : Fin 10} (hs : s.sysRuns) (hno : ¬ (req.val = 7 ∧ s.busDev.sleepOk = true)) :
    Runs (.pwrSleep req) s fun d => (d.rakCatch.incSat F.PWR_STAT_SLPREF).raise 2 2 0 1 :=
  runs_congr (runs_sys _ (exec_pwrSleep req s) hs) (if_neg hno)

/-- A request that the chip is not ready for is refused, whoever makes it. -/
theorem runs_pwrSleep_notReady {s : State} {req : Fin 10} (hs : s.sysRuns) (hno : ¬ s.busDev.sleepOk = true) :
    Runs (.pwrSleep req) s fun d => (d.rakCatch.incSat F.PWR_STAT_SLPREF).raise 2 2 0 1 :=
  runs_pwrSleep_refused hs fun h => hno h.2

/-! ### The end of a sleep (R510) -/

/-- The device with a sleep under way. -/
def Dev.sleepBegun (d : Dev) : Dev := { d with mgs := { d.mgs with sleeping := true } }

@[simp] theorem Dev.sleepBegun_sleeping (d : Dev) : d.sleepBegun.mgs.sleeping = true := rfl
@[simp] theorem Dev.sleepBegun_domState (d : Dev) (k : Nat) : d.sleepBegun.domState k = d.domState k := rfl

/-- With no domain in DRAIN, a sleep that is under way ends with the Cellar in SLEEP. -/
theorem Dev.sleepEnd_pstate {d : Dev} (hsleep : d.mgs.sleeping = true) (hdrain : ∀ k, k < 8 → d.domState k ≠ 3) :
    d.sleepEnd.cget F.CEL_STAT_PSTATE = 2 := by
  have hgo : ¬ ((!d.mgs.sleeping || (List.range 8).any fun k => d.domState k == 3) = true) := by simpa [hsleep] using hdrain
  rw [Dev.sleepEnd, if_neg hgo]
  -- By name: unfolding Dev.setClr_cget here has the kernel compare whole devices.
  change (Dev.setClr _ _).cget F.CEL_STAT_PSTATE = 2
  rw [Dev.setClr_cget]
  exact Dev.cget_cput_same _ F.CEL_STAT_PSTATE 2 (by decide)

/-- Where no domain is on, a sleep has nothing to drain. -/
theorem Dev.sleep_noneOn {d : Dev} (hoff : ∀ k, 1 ≤ k → k ≤ 6 → d.domState k ≠ 2) : d.sleep = d.sleepBegun.sleepEnd := by
  have hon : [1, 2, 3, 4, 5, 6].filter (fun k => d.domState k == 2) = [] := by
    refine List.filter_eq_nil_iff.mpr fun k hk => ?_
    have hrange : 1 ≤ k ∧ k ≤ 6 := by simp at hk; omega
    simpa using hoff k hrange.1 hrange.2
  simp only [Dev.sleep, hon, List.foldl_nil, Dev.sleepBegun]

/-- A sleep that meets no domain on, in RAMP or in DRAIN leaves the Cellar in SLEEP at once. -/
theorem Dev.sleep_pstate {d : Dev} (hdrain : ∀ k, k < 8 → d.domState k ≠ 3) (hoff : ∀ k, 1 ≤ k → k ≤ 6 → d.domState k ≠ 2) :
    d.sleep.cget F.CEL_STAT_PSTATE = 2 := by
  rw [Dev.sleep_noneOn hoff]
  exact Dev.sleepEnd_pstate d.sleepBegun_sleeping hdrain

/-- Settles O19, by the conditions of Dev.sleepOk: all of them met and MG asking, another requester, and each condition of
R509 failing in turn. -/
theorem sleepIsTakenOrRefused : Obligations.sleep_is_taken_or_refused := by
  unfold Obligations.sleep_is_taken_or_refused
  refine ⟨fun s hs htrk hmir hdom hidle => ?_, fun s req hs hreq => ?_, fun s k hs hk htrk => ?_, fun s hs hoff hsolo => ?_,
    fun s k hs hk hdom => ?_⟩
  · have hok : s.busDev.sleepOk = true := s.busDev.sleepOk_iff.mpr ⟨hidle, fun k hk => Nat.le_one_iff_eq_zero_or_eq_one.mpr (htrk k hk), hmir, hdom⟩
    have hrun := runs_pwrSleep_taken hs hok
    exact ⟨hrun, fun hoff => completes_cget hrun (Dev.sleep_pstate (fun k hk => (hdom k hk).2) hoff)⟩
  · exact runs_pwrSleep_refused hs fun h => hreq h.1
  · refine runs_pwrSleep_notReady hs fun hok => ?_
    obtain ⟨-, htrks, -, -⟩ := s.busDev.sleepOk_iff.mp hok
    have := htrks k hk
    omega
  · refine runs_pwrSleep_notReady hs fun hok => ?_
    obtain ⟨-, -, hmir, -⟩ := s.busDev.sleepOk_iff.mp hok
    omega
  · refine runs_pwrSleep_notReady hs fun hok => ?_
    obtain ⟨-, -, -, hdoms⟩ := s.busDev.sleepOk_iff.mp hok
    have := hdoms k hk
    omega

end Sys2Proof.Machine

/-! PROOFS. What every step keeps: the queue, the corks that R59 still allows, and the silence of the core domain in CORE
reset (R482). -/

namespace Sys2Proof.Machine

/-! ### Overdue corks are refused (R62) -/

@[simp] theorem Dev.corkRefuse_corks (d : Dev) (b a q r : Nat) : (d.corkRefuse b a q r).corks = d.corks :=
  Dev.still_corks (d.corkRefuse_still b a q r)

@[simp] theorem Dev.corkRefuse_fab (d : Dev) (b a q r : Nat) : (d.corkRefuse b a q r).fab = d.fab :=
  Dev.still_fab (d.corkRefuse_still b a q r)

/-- What the end of a command does about one cork: refused where its 64 FAB cycles are over. -/
def Dev.corkJudge (d : Dev) (c : Cork) : Dev :=
  if c.opened + corkCycles < d.fab then (d.corkEnd c.addr).corkRefuse ((corkBlk c.addr).getD 0) c.addr c.req 2 else d

theorem Dev.corkTick_eq (d : Dev) : d.corkTick = d.corks.foldl Dev.corkJudge d := rfl

theorem Dev.corkJudge_fab (d : Dev) (c : Cork) : (d.corkJudge c).fab = d.fab := by
  unfold Dev.corkJudge
  split <;> simp [Dev.corkEnd]

/-- Judging a cork opens none. -/
theorem Dev.mem_corkJudge {d : Dev} {c x : Cork} (h : x ∈ (d.corkJudge c).corks) : x ∈ d.corks := by
  unfold Dev.corkJudge at h
  split at h
  · rw [Dev.corkRefuse_corks] at h
    exact List.mem_of_mem_filter h
  · exact h

/-- A cork that is judged and stays open is not overdue. -/
theorem Dev.corkJudge_opened {d : Dev} {c : Cork} (h : c ∈ (d.corkJudge c).corks) : d.fab ≤ c.opened + corkCycles := by
  unfold Dev.corkJudge at h
  split at h
  · simp [Dev.corkEnd] at h
  · omega

/-- Of the corks judged, those left open are not overdue. -/
theorem Dev.foldl_corkJudge (l : List Cork) : ∀ (d : Dev) (x : Cork), x ∈ (l.foldl Dev.corkJudge d).corks →
    x ∈ d.corks ∧ (x ∈ l → d.fab ≤ x.opened + corkCycles) := by
  induction l with
  | nil => exact fun d x hx => ⟨hx, fun h => absurd h List.not_mem_nil⟩
  | cons c r ih =>
    intro d x hx
    obtain ⟨hopen, hrest⟩ := ih (d.corkJudge c) x hx
    rw [Dev.corkJudge_fab] at hrest
    refine ⟨Dev.mem_corkJudge hopen, fun hmem => ?_⟩
    rcases List.mem_cons.mp hmem with rfl | hr
    · exact Dev.corkJudge_opened hopen
    · exact hrest hr

theorem Dev.corkTick_fab (d : Dev) : d.corkTick.fab = d.fab :=
  List.foldlRecOn (motive := fun x : Dev => x.fab = d.fab) d.corks Dev.corkJudge rfl
    fun x hx c _ => (x.corkJudge_fab c).trans hx

/-- After the overdue corks are refused, none is left. -/
theorem Dev.corkTick_corksFresh (d : Dev) : d.corkTick.corksFresh := by
  intro c hc
  rw [Dev.corkTick_fab]
  rw [Dev.corkTick_eq] at hc
  obtain ⟨hopen, hdue⟩ := Dev.foldl_corkJudge d.corks d c hc
  exact hdue hopen

/-! ### The shape of every command -/

/-- Every command is an effect on the device, after which the overdue corks are refused (R62): none of the meanings ends in
a fault or a refusal, or touches the queue. -/
theorem exec_ticks (c : Instr) (s : State) : ∃ d : Dev, exec c s = .next { s with dev := d.corkTick } := by
  cases c
  all_goals exact ⟨_, rfl⟩

/-- The same of a step, which takes at most the front of the queue away. -/
theorem step_ticks (s : State) : ∃ d : Dev, step s = .next { pending := s.pending.tail, dev := d.corkTick } := by
  unfold step
  split
  next h => exact ⟨s.dev.fabCycle, by simp [State.runAny, h]⟩
  next c r h =>
    obtain ⟨d, hd⟩ := exec_ticks c { s with pending := r }
    exact ⟨d, by rw [hd, h, List.tail_cons]⟩

/-- Settles O1, by the two cases of step. -/
theorem stepRunsFrontCommand : Obligations.step_runs_front_command := by
  unfold Obligations.step_runs_front_command
  refine ⟨fun s c r h => ?_, fun s h => ?_⟩
  · unfold step
    rw [h]
  · simp only [step, h, State.runAny, State.start]

/-- Settles O2, by the shape of every command. -/
theorem everyCommandCompletes : Obligations.every_command_completes := by
  unfold Obligations.every_command_completes
  intro c s
  obtain ⟨d, hd⟩ := exec_ticks c s
  exact ⟨_, hd, rfl⟩

/-- n steps go on, and take n commands from the front of the queue. -/
theorem runSteps_pending (n : Nat) : ∀ s : State, ∃ t, runSteps n s = some t ∧ t.pending = s.pending.drop n := by
  induction n with
  | zero => exact fun s => ⟨s, rfl, rfl⟩
  | succ n ih =>
    intro s
    obtain ⟨d, hd⟩ := step_ticks s
    obtain ⟨t, hrun, hpend⟩ := ih { pending := s.pending.tail, dev := d.corkTick }
    refine ⟨t, ?_, hpend.trans List.drop_tail⟩
    rw [runSteps, hd]
    exact hrun

/-- Settles O3, by induction on the number of steps. -/
theorem queueDrainsInOrder : Obligations.queue_drains_in_order := by
  unfold Obligations.queue_drains_in_order
  intro s
  obtain ⟨t, hrun, hpend⟩ := runSteps_pending s.pending.length s
  exact ⟨t, hrun, hpend.trans List.drop_length⟩

/-- Settles O4, by evaluating the reset state: no cork, no memory cell and no command stands in it. -/
theorem resetMeetsInvariant : Obligations.reset_meets_invariant := by
  unfold Obligations.reset_meets_invariant
  have hcorks : State.reset.dev.corks = [] := rfl
  refine ⟨fun c hc => ?_, ⟨rfl, rfl, rfl⟩, rfl⟩
  rw [hcorks] at hc
  exact absurd hc List.not_mem_nil

/-- Settles O5: every step ends by refusing the overdue corks. -/
theorem stepKeepsCorksFresh : Obligations.step_keeps_corks_fresh := by
  unfold Obligations.step_keeps_corks_fresh
  intro s t _ hstep
  obtain ⟨d, hd⟩ := step_ticks s
  rw [hd] at hstep
  cases hstep
  exact d.corkTick_corksFresh

/-! ### CORE reset (R482) -/

/-- A command of the core domain does nothing in CORE reset, but that time is up for an overdue cork. -/
theorem State.run_reset {s : State} (h : s.dev.rst.core = true) (f : Dev → Dev) :
    s.run f = .next { s with dev := s.dev.corkTick } := by
  simp [State.run, State.runAny, h]

/-- An access does nothing in CORE reset, but for those of MG and of DBGACC. -/
theorem State.runBus_reset {s : State} {q : Nat} (h : s.dev.rst.core = true) (hmg : q ≠ 7) (hdbg : q ≠ 9) (f : Dev → Dev) :
    s.runBus q f = .next { s with dev := s.dev.corkTick } := by
  simp [State.runBus, State.runSys, State.runAny, h, hmg, hdbg]

/-- Every command that ofCore names is one of the core domain. -/
theorem exec_ofCore_reset {c : Instr} {s : State} (hc : ofCore c = true) (h : s.dev.rst.core = true) :
    exec c s = .next { s with dev := s.dev.corkTick } := by
  unfold exec
  split <;> cases hc
  all_goals exact State.run_reset h _

/-- Every command that busReq names is an access of that requester. -/
theorem exec_busReq_reset {c : Instr} {s : State} {q : Nat} (hc : busReq c = some q) (h : s.dev.rst.core = true)
    (hmg : q ≠ 7) (hdbg : q ≠ 9) : exec c s = .next { s with dev := s.dev.corkTick } := by
  unfold exec
  split <;> cases hc
  all_goals exact State.runBus_reset h hmg hdbg _

/-- Settles O6, by the kinds of the commands. -/
theorem coreResetSilencesCoreCommands : Obligations.core_reset_silences_core_commands := by
  unfold Obligations.core_reset_silences_core_commands
  refine ⟨fun s c hfresh hrst hc => ?_, fun s c q hfresh hrst hc hmg hdbg => ?_⟩
  · rw [exec_ofCore_reset hc hrst, Dev.corkTick_fresh _ hfresh, State.start]
  · rw [exec_busReq_reset hc hrst hmg hdbg, Dev.corkTick_fresh _ hfresh, State.start]

end Sys2Proof.Machine

/-! PROOFS. Accesses of BAR0 (R33-R37): one rule per command that reaches the bus, and what an access of one place leaves. -/

namespace Sys2Proof.Machine

/-! ### Fields of a mixed word -/

/-- A field all of whose bits the mask takes from the written word. -/
theorem fldGet_mix (f : Fld) (w s : Word) (m : Nat) (hf : f.hi < 32) (hm : ∀ i, f.lo ≤ i → i ≤ f.hi → m.testBit i = true) :
    fldGet f (mix w s m) = fldGet f s := by
  apply Nat.eq_of_testBit_eq
  intro i
  simp only [fldGet, Nat.testBit_mod_two_pow, Nat.testBit_div_two_pow, BitVec.testBit_toNat, mix]
  by_cases hi : i < f.hi + 1 - f.lo
  · have hlt : i + f.lo < 32 := by omega
    have hbit : (BitVec.ofNat 32 m)[i + f.lo] = true := by
      rw [BitVec.getElem_eq_testBit_toNat, BitVec.toNat_ofNat, Nat.testBit_mod_two_pow, decide_eq_true hlt, Bool.true_and]
      exact hm (i + f.lo) (by omega) (by omega)
    simp [hi, hlt, hbit]
  · simp [hi]

/-- An access that HIF counts with f answers zero to a read. -/
def Dev.counted (d : Dev) (f : Fld) (req : Nat) (wr : Bool) : Dev := if wr then d.hifInc f else (d.hifInc f).ret req 0

/-! ### Commands that are accesses -/

theorem runs_registerWrite_word {s : State} {req : Fin 10} {off data c : Nat} (hs : s.busRuns req)
    (hp : placeOf (off % 2 ^ 25) = .reg c) (hr : s.busDev.inReset c = false) (ha : off % 4 = 0) (ho : s.busDev.isOff c = false) :
    Runs (.registerWrite req off 4 data) s fun d => d.rakCatch.regWrite req c data :=
  runs_congr (runs_bus _ (show execRegisterWrite req off 4 data s = _ from rfl) hs) (Dev.access_write hp ha ho hr)

/-- An aligned write of 8 bytes writes the low word and then the high word (R35). -/
theorem Dev.access_write_wide {d : Dev} {req off data c b : Nat} (hp : placeOf (off % 2 ^ 25) = .reg c) (hr : d.inReset c = false)
    (hrb : (d.regWrite req c (data % 2 ^ 32)).inReset b = false) (hpb : placeOf (off % 2 ^ 25 + 4) = .reg b) (ha : off % 8 = 0)
    (ho : d.isOff c = false) :
    d.access req off 8 true data = (d.regWrite req c (data % 2 ^ 32)).regWrite req b (data / 2 ^ 32) := by
  have h8 : off % 2 ^ 25 % 8 = 0 := by omega
  unfold Dev.access Dev.busWriteN Dev.wordWrite
  simp only [hp, h8, ho, hr, hpb]
  generalize data % 2 ^ 32 = lo at hrb ⊢
  simp [sizeOk, hrb]

theorem runs_registerWrite_wide {s : State} {req : Fin 10} {off data c b : Nat} (hs : s.busRuns req)
    (hp : placeOf (off % 2 ^ 25) = .reg c) (hr : s.busDev.inReset c = false)
    (hrb : (s.busDev.regWrite req c (data % 2 ^ 32)).inReset b = false) (hpb : placeOf (off % 2 ^ 25 + 4) = .reg b)
    (ha : off % 8 = 0) (ho : s.busDev.isOff c = false) :
    Runs (.registerWrite req off 8 data) s fun d => (d.rakCatch.regWrite req c (data % 2 ^ 32)).regWrite req b (data / 2 ^ 32) :=
  runs_congr (runs_bus _ (show execRegisterWrite req off 8 data s = _ from rfl) hs) (Dev.access_write_wide hp hr hrb hpb ha ho)

theorem runs_lowWordRead_word {s : State} {req : Fin 10} {off c : Nat} (hs : s.busRuns req)
    (hp : placeOf (off % 2 ^ 25) = .reg c) (hr : s.busDev.inReset c = false) (ha : off % 4 = 0) (ho : s.busDev.isOff c = false) :
    Runs (.lowWordRead req ⟨off, false⟩) s fun d => d.rakCatch.regRead req c :=
  runs_congr (runs_bus _ (show execLowWordRead req ⟨off, false⟩ s = _ from rfl) hs) (Dev.access_read hp ha ho hr)

/-- The answer of a 64-bit read: the low word as it is read first, the high word as it stands after that (R35). -/
def Dev.readPair (d : Dev) (req c b : Nat) : Dev :=
  let lo := d.regRead req c
  let hi := lo.regRead req b
  hi.ret64 req (lo.bus.data % 2 ^ 32 + 2 ^ 32 * (hi.bus.data % 2 ^ 32))

theorem Dev.access_read_wide {d : Dev} {req off c b : Nat} (hp : placeOf (off % 2 ^ 25) = .reg c) (hr : d.inReset c = false)
    (hrb : (d.regRead req c).inReset b = false) (hpb : placeOf (off % 2 ^ 25 + 4) = .reg b) (ha : off % 8 = 0)
    (ho : d.isOff c = false) : d.access req off 8 false 0 = d.readPair req c b := by
  have h8 : off % 2 ^ 25 % 8 = 0 := by omega
  unfold Dev.access Dev.busReadN Dev.wordRead Dev.readPair
  simp only [hp, h8, ho, hr, hpb]
  simp [sizeOk, hrb]

theorem runs_lowWordRead_wide {s : State} {req : Fin 10} {off c b : Nat} (hs : s.busRuns req)
    (hp : placeOf (off % 2 ^ 25) = .reg c) (hr : s.busDev.inReset c = false) (hrb : (s.busDev.regRead req c).inReset b = false)
    (hpb : placeOf (off % 2 ^ 25 + 4) = .reg b) (ha : off % 8 = 0) (ho : s.busDev.isOff c = false) :
    Runs (.lowWordRead req ⟨off, true⟩) s fun d => d.rakCatch.readPair req c b :=
  runs_congr (runs_bus _ (show execLowWordRead req ⟨off, true⟩ s = _ from rfl) hs) (Dev.access_read_wide hp hr hrb hpb ha ho)

/-- A register in reset takes no write, and reads its reset value (R482). -/
theorem runs_registerWrite_reset {s : State} {req : Fin 10} {off data c : Nat} (hs : s.busRuns req)
    (hp : placeOf (off % 2 ^ 25) = .reg c) (hr : s.busDev.inReset c = true) (ha : off % 4 = 0) (ho : s.busDev.isOff c = false) :
    Runs (.registerWrite req off 4 data) s fun d => d.rakCatch :=
  runs_congr (runs_bus _ (show execRegisterWrite req off 4 data s = _ from rfl) hs) (Dev.access_reset hp ha ho hr)

theorem runs_lowWordRead_reset {s : State} {req : Fin 10} {off c : Nat} (hs : s.busRuns req)
    (hp : placeOf (off % 2 ^ 25) = .reg c) (hr : s.busDev.inReset c = true) (ha : off % 4 = 0) (ho : s.busDev.isOff c = false) :
    Runs (.lowWordRead req ⟨off, false⟩) s fun d => d.rakCatch.ret req (regReset c).toNat :=
  runs_congr (runs_bus _ (show execLowWordRead req ⟨off, false⟩ s = _ from rfl) hs) (Dev.access_reset hp ha ho hr)

theorem runs_outspanAccess {s : State} {req : Fin 10} {off : Nat} {wr : Bool} (hs : s.busRuns req) (hp : placeOf (off % 2 ^ 25) = .out) :
    Runs (.outspanAccess req off wr) s fun d => d.rakCatch.counted F.HIF_CNT0_OUTSPAN req wr :=
  runs_bus _ (exec_outspanAccess hp) hs

theorem runs_narrowAccess {s : State} {req : Fin 10} {off size : Nat} {wr : Bool} (hs : s.busRuns req) (hw : inWindow off = true)
    (hsz : sizeOk size = true) (hn : off % size ≠ 0 ∨ (wr = true ∧ size < 4)) :
    Runs (.narrowAccess req off size wr) s fun d => d.rakCatch.counted F.HIF_CNT0_NARROW req wr := by
  have hcond : inWindow off = true ∧ (off % size ≠ 0 ∨ size < 4) := ⟨hw, hn.imp id And.right⟩
  exact runs_congr (runs_bus _ (show execNarrowAccess req off size wr s = _ from rfl) hs) ((if_pos hcond).trans (Dev.access_narrow hsz hw hn))

theorem runs_pwroffAccess {s : State} {req : Fin 10} {off c : Nat} {wr : Bool} (hs : s.busRuns req)
    (hp : placeOf (off % 2 ^ 25) = .reg c) (ha : off % 4 = 0) (ho : s.busDev.isOff c = true) :
    Runs (.pwroffAccess req off wr) s fun d => d.rakCatch.counted F.HIF_CNT0_PWROFF req wr := by
  have hword : off / 4 * 4 = off := by omega
  refine runs_congr (runs_bus _ (show execPwroffAccess req off wr s = _ from rfl) hs) ?_
  rw [State.busDev] at ho
  simp only [State.start, hp, ho, hword, if_true]
  exact Dev.access_off hp ha ho

theorem runs_apertureAccess_write {s : State} {req : Fin 10} {off size data a : Nat} (hs : s.busRuns req)
    (hp : placeOf (off % 2 ^ 25) = .mem a) (hc : s.busDev.rst.core = false) (hsz : sizeOk size = true) :
    Runs (.apertureAccess req off size true data) s fun d => d.rakCatch.memPieces 8 a size data := by
  refine runs_congr (runs_bus _ (show execApertureAccess req off size true data s = _ from rfl) hs) ?_
  simp only [hp]
  exact Dev.access_mem hsz hp hc

theorem runs_apertureAccess_read {s : State} {req : Fin 10} {off size data a : Nat} (hs : s.busRuns req)
    (hp : placeOf (off % 2 ^ 25) = .mem a) (hc : s.busDev.rst.core = false) (hsz : sizeOk size = true) :
    Runs (.apertureAccess req off size false data) s fun d =>
      (d.rakCatch.memGather 8 a size).1.ret64 req (d.rakCatch.memGather 8 a size).2 := by
  refine runs_congr (runs_bus _ (show execApertureAccess req off size false data s = _ from rfl) hs) ?_
  simp only [hp]
  exact Dev.access_mem hsz hp hc

/-- A completed access that leaves x of the device it meets, with corks and the count of cycles as they were. -/
theorem completes_of_runs_bus {c : Instr} {s : State} {req : Nat} {f : Dev → Dev} {p : Dev → Prop} (x : Dev) (h : Runs c s f)
    (hs : s.busRuns req) (e : f s.start = x) (hc : x.corks = s.busDev.corks) (hf : x.fab = s.busDev.fab) (hp : p x) :
    Completes c s p := by
  subst e
  exact completes_of_runs h ((Dev.corksFresh_congr hc hf).mpr hs.1) hp

/-! ### Counters that HIF keeps of refused accesses -/

theorem Dev.hifInc_cases (d : Dev) (f : Fld) : d.hifInc f = d.incSat f ∨ d.hifInc f = d := by
  unfold Dev.hifInc
  split
  · exact Or.inl rfl
  · exact Or.inr rfl

@[simp] theorem Dev.counted_corks (d : Dev) (f : Fld) (req : Nat) (wr : Bool) : (d.counted f req wr).corks = d.corks := by
  cases wr <;> exact Dev.hifInc_corks d f

@[simp] theorem Dev.counted_fab (d : Dev) (f : Fld) (req : Nat) (wr : Bool) : (d.counted f req wr).fab = d.fab := by
  cases wr <;> exact Dev.hifInc_fab d f

theorem Dev.counted_bus (d : Dev) (f : Fld) (req : Nat) (wr : Bool) : (d.counted f req wr).bus = if wr then d.bus else ⟨req, 0⟩ := by
  cases wr
  · rfl
  · rcases d.hifInc_cases f with h | h <;> simp only [Dev.counted, h] <;> rfl

/-- Where HIF counts, and which accesses it then counts. -/
theorem Dev.counted_get (d : Dev) (f : Fld) (req : Nat) (wr : Bool) (hf : f.lo ≤ f.hi ∧ f.hi < 32) : (d.counted f req wr).get f =
    if d.pcieOn && !d.rst.core && !d.rst.perst then min (d.get f + 1) (2 ^ (f.hi + 1 - f.lo) - 1) else d.get f := by
  have h : (d.counted f req wr).get f = (d.hifInc f).get f := by cases wr <;> rfl
  rw [h, Dev.hifInc]
  split
  · exact Dev.get_incSat_same d f hf
  · rfl

theorem Dev.counted_rd_ne (d : Dev) (f : Fld) (req : Nat) (wr : Bool) {a : Nat} (h : a ≠ f.addr) : (d.counted f req wr).rd a = d.rd a := by
  have hrd : (d.counted f req wr).rd a = (d.hifInc f).rd a := by cases wr <;> rfl
  rw [hrd, Dev.hifInc]
  split
  · exact Dev.rd_incSat_ne d f h
  · rfl

/-- A counted access touches registers and the answer of the bus only. -/
theorem Dev.counted_rest (d : Dev) (f : Fld) (req : Nat) (wr : Bool) :
    { d.counted f req wr with bus := d.bus, reg := d.reg, fltNew := d.fltNew } = d := by
  rcases d.hifInc_cases f with h | h <;> cases wr <;> simp only [Dev.counted, h] <;> rfl

/-! ### One register, one word of memory -/

/-- SYS_UPD_CFG is a plain register of 16 bits. -/
theorem Dev.regWrite_updCfg (d : Dev) (req data : Nat) :
    d.regWrite req 0x48 data = d.wr 0x48 (mix (d.rd 0x48) (BitVec.ofNat 32 (data % 2 ^ 32)) 0xFFFF) := rfl

theorem Dev.regRead_updCfg (d : Dev) (req : Nat) : d.regRead req 0x48 = d.ret req (d.rd 0x48).toNat := rfl

theorem Dev.regWrite_updCfg_get (d : Dev) (req data : Nat) : (d.regWrite req 0x48 data).get F.SYS_UPD_CFG_TIMEOUT = data % 2 ^ 16 := by
  have hfield : ∀ i, 0 ≤ i → i ≤ 15 → Nat.testBit 0xFFFF i = true := by
    intro i _ hi
    interval_cases i <;> rfl
  rw [Dev.regWrite_updCfg]
  unfold Dev.get
  rw [show F.SYS_UPD_CFG_TIMEOUT.addr = 0x48 from rfl, Dev.rd_wr_same,
    fldGet_mix F.SYS_UPD_CFG_TIMEOUT _ _ _ (by decide) hfield]
  simp only [fldGet, BitVec.toNat_ofNat]
  omega

theorem winSpan_none {w : Nat} (h : 30 ≤ w) : winSpan w = none := by
  obtain ⟨k, rfl⟩ := Nat.exists_eq_add_of_le' h
  rfl

/-- Offsets of the core memories are their own place (R36). -/
theorem placeOf_coreMem {a : Nat} (hlo : 0x1000000 ≤ a) (hhi : a < 0x1200000) : placeOf (a % 2 ^ 25) = .mem a := by
  have hmod : a % 2 ^ 25 = a := Nat.mod_eq_of_lt (by omega)
  have hwin : winSpan (a / 0x10000) = none := winSpan_none (by omega)
  unfold placeOf
  rw [hmod, hwin]
  simp only [show ¬ a / 0x10000 = 30 by omega, if_false]
  rw [if_neg (by omega), if_pos ⟨hlo, hhi⟩]

/-- An aligned word is one piece. -/
theorem pieceLen_word {a : Nat} (h : a % 4 = 0) : pieceLen a 4 = 4 := by
  unfold pieceLen
  rw [if_neg (by omega), if_pos ⟨h, le_rfl⟩]

theorem Dev.memPieces_word (d : Dev) {a : Nat} (data : Nat) (hlo : 0x1000000 ≤ a) (hhi : a < 0x1200000) (ha : a % 4 = 0) :
    d.memPieces 8 a 4 data = { d with mem := memWrite d.mem a 4 data } := by
  simp only [Dev.memPieces, pieceLen_word ha, placeOf_coreMem hlo hhi, Nat.sub_self, if_true]
  simp [Dev.memPiece, show 0x280000 ≤ a by omega]

theorem Dev.memGather_word (d : Dev) {a : Nat} (hlo : 0x1000000 ≤ a) (hhi : a < 0x1200000) (ha : a % 4 = 0) :
    d.memGather 8 a 4 = (d, memRead d.mem a 4) := by
  simp only [Dev.memGather, pieceLen_word ha, placeOf_coreMem hlo hhi, Nat.sub_self, if_true]
  simp

/-- Settles O7: the rules of the accesses, and what each leaves of registers, memory and the bus. -/
theorem busAccessesTakeEffect : Obligations.bus_accesses_take_effect := by
  unfold Obligations.bus_accesses_take_effect
  refine ⟨fun s req data hs hcore => ?_, fun s req off data c hs hp hr ha ho => runs_registerWrite_word hs hp hr ha ho,
    fun s req off data c b hs hp hr hrb hpb ha ho => runs_registerWrite_wide hs hp hr hrb hpb ha ho,
    fun s req off c hs hp hr ha ho => runs_lowWordRead_word hs hp hr ha ho,
    fun s req off c b hs hp hr hrb hpb ha ho => runs_lowWordRead_wide hs hp hr hrb hpb ha ho,
    fun s req hs hcore => ?_, fun s req off size data a hs hp hc hsz => runs_apertureAccess_write hs hp hc hsz,
    fun s req off size data a hs hp hc hsz => runs_apertureAccess_read hs hp hc hsz,
    fun s req a data hs hc hlo hhi ha => ?_, fun s req a data hs hc hlo hhi ha => ?_,
    fun s req off wr hs hp hon hc hperst => ?_, fun s req off size wr hs hw hsz hn hon hc hperst => ?_,
    fun s req off data c hs hp hr ha ho => runs_registerWrite_reset hs hp hr ha ho,
    fun s req off c hs hp hr ha ho => runs_lowWordRead_reset hs hp hr ha ho,
    fun s req off c wr hs hp ha ho => ?_⟩
  · refine completes_of_runs_bus (s.busDev.regWrite req 0x48 data) (runs_registerWrite_word (c := 0x48) hs rfl hcore rfl rfl) hs rfl rfl rfl ?_
    exact ⟨Dev.regWrite_updCfg_get _ _ _, rfl, fun a ha => Dev.rd_wr_ne _ _ (List.ne_of_not_mem_cons ha)⟩
  · refine completes_of_runs_bus (s.busDev.regRead req 0x48) (runs_lowWordRead_word (c := 0x48) hs rfl hcore rfl rfl) hs rfl rfl rfl ?_
    rw [Dev.regRead_updCfg]
    exact ⟨congrArg _ (Nat.mod_eq_of_lt (BitVec.isLt _)), Dev.ret_rest _ _ _⟩
  · refine completes_of_runs_bus { s.busDev with mem := memWrite s.busDev.mem a 4 data }
      (runs_apertureAccess_write hs (placeOf_coreMem hlo hhi) hc rfl) hs (Dev.memPieces_word _ data hlo hhi ha) rfl rfl ?_
    exact ⟨memRead_memWrite 4 _ _ _, fun x hx => memGet_memWrite_out 4 _ _ _ x hx, rfl⟩
  · refine completes_of_runs_bus (s.busDev.ret64 req (memRead s.busDev.mem a 4))
      (runs_apertureAccess_read hs (placeOf_coreMem hlo hhi) hc rfl) hs ?_ rfl rfl ⟨rfl, rfl⟩
    simp only [State.start, State.busDev, Dev.memGather_word _ hlo hhi ha]
  · refine completes_of_runs_bus (s.busDev.counted F.HIF_CNT0_OUTSPAN req wr) (runs_outspanAccess hs hp) hs rfl (by simp) (by simp) ?_
    refine ⟨?_, Dev.counted_bus _ _ _ _, fun x hx => Dev.counted_rd_ne _ _ _ _ hx, Dev.counted_rest _ _ _ _⟩
    rw [Dev.counted_get _ _ _ _ (by decide), hon, hc, hperst]
    rfl
  · refine completes_of_runs_bus (s.busDev.counted F.HIF_CNT0_NARROW req wr) (runs_narrowAccess hs hw hsz hn) hs rfl (by simp) (by simp) ?_
    refine ⟨?_, Dev.counted_bus _ _ _ _, fun x hx => Dev.counted_rd_ne _ _ _ _ hx, Dev.counted_rest _ _ _ _⟩
    rw [Dev.counted_get _ _ _ _ (by decide), hon, hc, hperst]
    rfl
  · refine completes_of_runs_bus (s.busDev.counted F.HIF_CNT0_PWROFF req wr) (runs_pwroffAccess hs hp ha ho) hs rfl (by simp) (by simp) ?_
    exact ⟨Dev.counted_get _ _ _ _ (by decide), Dev.counted_bus _ _ _ _, fun x hx => Dev.counted_rd_ne _ _ _ _ hx, Dev.counted_rest _ _ _ _⟩

end Sys2Proof.Machine

/-! PROOFS. What a report touches: fault records, interrupts, log and messages live in words of their own (R69-R75, R375,
R472-R476, R489), so every other register stands through a cause that arises. -/

namespace Sys2Proof.Machine

/-- Completion of a command that leaves x, with corks and the count of cycles as they were. -/
theorem completes_runs_eq {c : Instr} {s : State} {f : Dev → Dev} {p : Dev → Prop} (x : Dev) (h : Runs c s f) (hs : s.dev.corksFresh)
    (e : f s.start = x) (hc : x.corks = s.dev.corks) (hf : x.fab = s.dev.fab) (hp : p x) : Completes c s p := by
  subst e
  exact completes_of_runs h ((Dev.corksFresh_congr hc hf).mpr hs) hp

/-! ### Words of the reports -/

/-- The words that reports are kept in: fault sets, the MSI-X table, the interrupt controller, the count of lost log entries. -/
def reportWord (a : Nat) : Bool :=
  (List.range 25).any (fun b => decide (fltBase b ≤ a) && decide (a < fltBase b + 0x40))
    || (decide (0x130000 ≤ a) && decide (a < 0x140000)) || (decide (0x150000 ≤ a) && decide (a < 0x160000)) || a == R.MGS_LOGLOST

theorem blkBase_past {b : Nat} (h : 24 ≤ b) : blkBase b = blkBase 24 := by
  obtain ⟨k, rfl⟩ := Nat.exists_eq_add_of_le' h
  rfl

/-- The word at offset k of a fault set. -/
theorem reportWord_flt (b : Nat) {k : Nat} (hk : k < 0x40) : reportWord (fltBase b + k) = true := by
  have hin : ∃ c, c < 25 ∧ fltBase c = fltBase b := by
    by_cases h : b < 25
    · exact ⟨b, h, rfl⟩
    · exact ⟨24, by decide, by rw [fltBase, fltBase, blkBase_past (b := b) (by omega)]⟩
  obtain ⟨c, hc, heq⟩ := hin
  have hany : (List.range 25).any (fun x => decide (fltBase x ≤ fltBase b + k) && decide (fltBase b + k < fltBase x + 0x40)) = true := by
    refine List.any_eq_true.mpr ⟨c, List.mem_range.mpr hc, ?_⟩
    simp [heq, hk]
  rw [reportWord, hany]
  rfl

theorem reportWord_msix {a : Nat} (hlo : 0x130000 ≤ a) (hhi : a < 0x140000) : reportWord a = true := by
  simp [reportWord, hlo, hhi]

theorem reportWord_icu {a : Nat} (hlo : 0x150000 ≤ a) (hhi : a < 0x160000) : reportWord a = true := by
  simp [reportWord, hlo, hhi]

theorem reportWord_ne {a b : Nat} (ha : reportWord a = false) (hb : reportWord b = true) : a ≠ b := by
  rintro rfl
  rw [ha] at hb
  cases hb

/-- From d to e only reports differ: what Dev.still leaves out but the lasting causes, and of the registers the words of reports. -/
structure Dev.Reported (d e : Dev) : Prop where
  still : e.still = d.still
  causes : e.causes = d.causes
  rd : ∀ a, reportWord a = false → e.rd a = d.rd a

theorem Dev.Reported.refl (d : Dev) : d.Reported d := ⟨rfl, rfl, fun _ _ => rfl⟩

theorem Dev.Reported.trans {d e f : Dev} (h : d.Reported e) (g : e.Reported f) : d.Reported f :=
  ⟨g.still.trans h.still, g.causes.trans h.causes, fun a ha => (g.rd a ha).trans (h.rd a ha)⟩

theorem Dev.Reported.wr {d e : Dev} (h : d.Reported e) {a : Nat} (w : Word) (ha : reportWord a = true) : d.Reported (e.wr a w) :=
  ⟨(Dev.wr_still e a w).trans h.still, h.causes, fun _ hx => (Dev.rd_wr_ne e w (reportWord_ne hx ha)).trans (h.rd _ hx)⟩

theorem Dev.Reported.put {d e : Dev} (h : d.Reported e) {f : Fld} (v : Nat) (ha : reportWord f.addr = true) : d.Reported (e.put f v) :=
  h.wr _ ha

/-- A field of another register than the reports'. -/
theorem Dev.Reported.get {d e : Dev} (h : d.Reported e) {f : Fld} (hf : reportWord f.addr = false) : e.get f = d.get f := by
  rw [Dev.get, Dev.get, h.rd _ hf]

theorem Dev.Reported.flag {d e : Dev} (h : d.Reported e) {f : Fld} (hf : reportWord f.addr = false) : e.flag f = d.flag f := by
  rw [Dev.flag, Dev.flag, h.get hf]

theorem Dev.Reported.corks {d e : Dev} (h : d.Reported e) : e.corks = d.corks := Dev.still_corks h.still
theorem Dev.Reported.fab {d e : Dev} (h : d.Reported e) : e.fab = d.fab := Dev.still_fab h.still
theorem Dev.Reported.hasCause {d e : Dev} (h : d.Reported e) (b c i : Nat) : e.hasCause b c i = d.hasCause b c i := by
  rw [Dev.hasCause, Dev.hasCause, h.causes]

theorem Dev.Reported.foldl {β : Type} {f : Dev → β → Dev} (hf : ∀ x b, Dev.Reported x (f x b)) (l : List β) (d : Dev) :
    d.Reported (l.foldl f d) :=
  List.foldlRecOn (motive := fun x => d.Reported x) l f (.refl d) fun x hx b _ => hx.trans (hf x b)

/-! ### Interrupts and messages -/

theorem Dev.Reported.of_icu {d e : Dev} (h : d.Reported e) (x : Icu) : d.Reported { e with icu := x } :=
  ⟨(Dev.icu_still e x).trans h.still, h.causes, h.rd⟩

/-- Words of pending bits: sources below 1024, and the vectors of MSI-X up to 2048. -/
theorem Dev.icuPend_reported (d : Dev) {s : Nat} (b : Bool) (hs : s < 1024) : d.Reported (d.icuPend s b) :=
  (Dev.Reported.refl d).put _ (reportWord_icu (by dsimp only [R.ICU_PEND]; omega) (by dsimp only [R.ICU_PEND]; omega))

theorem Dev.msix_reported (d : Dev) {v : Nat} (hv : v < 2048) : d.Reported (d.msix v) := by
  unfold Dev.msix
  dsimp only
  split
  · exact .refl d
  · split
    · exact (Dev.Reported.refl d).put _ (reportWord_msix (by dsimp only; omega) (by dsimp only; omega))
    · exact ⟨Dev.emit_still _ _, rfl, fun _ _ => rfl⟩

theorem Dev.icuCount_reported (d : Dev) {s : Nat} (hs : s < 1024) : d.Reported (d.icuCount s) := by
  unfold Dev.icuCount
  dsimp only
  split
  · exact ((Dev.Reported.refl d).of_icu _).trans (Dev.icuPend_reported _ true hs)
  · exact (Dev.Reported.refl d).of_icu _

theorem Dev.icuStep_reported (x : Dev) {s : Nat} (off level srv : Bool) (hs : s < 1024) : x.Reported (x.icuStep s off level srv) := by
  unfold Dev.icuStep
  split
  · exact .refl x
  · split
    · split
      · exact .refl x
      · exact x.icuPend_reported true hs
    · split
      · exact (Dev.Reported.refl x).of_icu _
      · exact x.icuCount_reported hs

/-- An arrival at the interrupt controller is counted, may pend and may send a message. -/
theorem Dev.icuArrive_reported (d : Dev) (s : Nat) : d.Reported (d.icuArrive s) := by
  unfold Dev.icuArrive
  split
  · exact .refl d
  · next h =>
    have hs : s < 1024 := by
      simp [icuReserved] at h
      omega
    dsimp only
    have hcount : d.Reported (d.incSat ⟨R.ICU_ARR (s / 4), 8 * (s % 4) + 7, 8 * (s % 4)⟩) :=
      (Dev.Reported.refl d).put _ (reportWord_icu (by dsimp only [R.ICU_ARR]; omega) (by dsimp only [R.ICU_ARR]; omega))
    generalize d.incSat ⟨R.ICU_ARR (s / 4), 8 * (s % 4) + 7, 8 * (s % 4)⟩ = x at hcount ⊢
    have hstep := hcount.trans (x.icuStep_reported (!d.flag (F.ICU_SRC_EN s)) (d.icuLevel s) (d.icuInSrv s) hs)
    split
    · exact hstep.trans (Dev.msix_reported _ (by omega))
    · exact hstep

theorem Dev.log_reported (d : Dev) (b k c s : Nat) (l : List Nat) : d.Reported (d.log b k c s l) := by
  unfold Dev.log
  split
  · exact ⟨Dev.logq_still _ _, rfl, fun _ _ => rfl⟩
  · exact (Dev.Reported.refl d).put _ (by decide)

/-! ### Causes -/

/-- A field of a fault set is written. -/
theorem Dev.Reported.fltPut {d e : Dev} (h : d.Reported e) {b k hi lo : Nat} (v : Nat) (hk : k < 0x40) :
    d.Reported (e.put ⟨fltBase b + k, hi, lo⟩ v) := h.put v (reportWord_flt b hk)

theorem Dev.fltFirst_reported (d : Dev) (b c i s : Nat) : d.Reported (d.fltFirst b c i s) := by
  have hfields : d.Reported ((((d.put (F.FLT_INST b) i).put (F.FLT_SEV b) s).put (F.FLT_CODE b) c).put (F.FLT_OPEN b) 1) :=
    ((((Dev.Reported.refl d).fltPut i (by decide)).fltPut s (by decide)).fltPut c (by decide)).fltPut 1 (by decide)
  unfold Dev.fltFirst Dev.put64
  exact (hfields.wr _ (reportWord_flt b (by decide))).wr _ (reportWord_flt b (by decide))

theorem Dev.markNew_reported (d : Dev) (m : Nat) : d.Reported (d.markNew m) := ⟨Dev.markNew_still _ _, rfl, fun _ _ => rfl⟩

theorem Dev.alsoBit_reported (d : Dev) (b c : Nat) (v : Bool) : d.Reported (d.setBit (R.FLT_ALSO b) c v) :=
  (Dev.Reported.refl d).put _ (reportWord_flt b (by decide))

theorem Dev.maxSev_reported (d : Dev) (b s : Nat) : d.Reported (d.putMax (F.FLT_MAXSEV b) s) :=
  (Dev.Reported.refl d).put _ (reportWord_flt b (by decide))

/-- The interrupt and the log entry of a record. -/
theorem Dev.notice_reported (d : Dev) (b k c s : Nat) (l : List Nat) : d.Reported ((d.fltIrq b).log b k c s l) :=
  (d.icuArrive_reported b).trans (Dev.log_reported _ _ _ _ _ _)

/-- A cause that arises (R72, R73) touches reports only. -/
theorem Dev.arise_reported (d : Dev) (b c i s : Nat) : d.Reported (d.arise b c i s) := by
  unfold Dev.arise
  dsimp only
  split
  · exact .refl d
  · split
    · split
      · exact d.markNew_reported _
      · have hfirst := ((d.fltFirst_reported b c i s).fltPut (b := b) (k := 4) (hi := 9) (lo := 8) s (by decide)).trans (Dev.markNew_reported _ b)
        have hearly := hfirst.trans (.foldl (fun x m => x.alsoBit_reported b m true)
          ((List.range 32).filter (fun m => d.isNew (maskedMark b m))) _)
        exact hearly.trans (Dev.notice_reported _ _ _ _ _ _)
    · split
      · split
        · have hmax := (d.fltFirst_reported b c i s).trans (Dev.maxSev_reported _ b s)
          split
          · exact hmax
          · exact (hmax.trans (Dev.alsoBit_reported _ b _ true)).trans (Dev.alsoBit_reported _ b c false)
        · split
          · exact .refl d
          · exact d.alsoBit_reported b c true
      · have hcount : d.Reported ((d.setBit (R.FLT_ALSO b) c true).incSat (F.FLT_COUNT b)) :=
          (d.alsoBit_reported b c true).fltPut _ (by decide)
        split
        · exact (hcount.fltPut s (by decide)).trans (Dev.notice_reported _ _ _ _ _ _)
        · exact hcount

theorem Dev.raise_reported (d : Dev) (b c i s : Nat) : d.Reported (d.raise b c i s) := by
  unfold Dev.raise
  dsimp only
  refine Dev.Reported.trans ?_ (Dev.arise_reported _ b c i s)
  split
  · exact ⟨Dev.kept_still _ _, rfl, fun _ _ => rfl⟩
  · exact .refl d

/-- A lasting cause that rises leaves every register but those of reports. -/
theorem Dev.causeOn_rd (d : Dev) (b c i s : Nat) {a : Nat} (ha : reportWord a = false) : (d.causeOn b c i s).rd a = d.rd a := by
  unfold Dev.causeOn
  split
  · rfl
  · exact (Dev.arise_reported _ b c i s).rd a ha

theorem Dev.cause_rd (d : Dev) (b c i s : Nat) (on : Bool) {a : Nat} (ha : reportWord a = false) : (d.cause b c i s on).rd a = d.rd a := by
  unfold Dev.cause
  split
  · exact d.causeOn_rd b c i s ha
  · rfl

theorem Dev.cause_get (d : Dev) (b c i s : Nat) (on : Bool) {f : Fld} (hf : reportWord f.addr = false) :
    (d.cause b c i s on).get f = d.get f := by
  rw [Dev.get, Dev.get, d.cause_rd b c i s on hf]

/-- A cause that rises is present. -/
theorem Dev.causeOn_hasCause (d : Dev) (b c i s : Nat) : (d.causeOn b c i s).hasCause b c i = true := by
  unfold Dev.causeOn
  split
  · next h => exact h
  · rw [(Dev.arise_reported _ b c i s).hasCause]
    simp [Dev.hasCause]

/-- A cause that goes away is absent. -/
theorem Dev.causeOff_hasCause (d : Dev) (b c i : Nat) : (d.causeOff b c i).hasCause b c i = false := by
  unfold Dev.causeOff Dev.hasCause
  refine List.any_eq_false.mpr fun c hc hmatch => ?_
  have hkept := (List.mem_filter.mp hc).2
  rw [hmatch] at hkept
  cases hkept

/-- Devices with the same rest hold the same memories. -/
theorem Dev.memSame_of_still {d e : Dev} (h : e.still = d.still) : Dev.memSame d e := by
  have hmem : e.mem = d.mem := Dev.still_mem h
  have hcmem : e.cmem = d.cmem := show e.still.cmem = d.still.cmem from congrArg Dev.cmem h
  have hmram : e.mram = d.mram := show e.still.mram = d.still.mram from congrArg Dev.mram h
  exact ⟨fun a => by rw [hmem], fun a => by rw [hcmem], fun a => by rw [hmram]⟩

end Sys2Proof.Machine

/-! PROOFS. Strobes and swaps (R50-R55), corks and the bit window (R59-R64), the Cellar window and fault records (R66-R74),
references and PLLs (R24-R30). -/

namespace Sys2Proof.Machine

/-! ### Strobes and swaps (R50-R55) -/

/-- TRKk_GAP is shadowed in its 24 bits, and has no live field of its own. -/
theorem descOf_trkGap (k : Fin 16) : (descOf (0x60010 + 0x1000 * k)).map (fun e => (e.rw, e.rws)) = some (0, 0xFFFFFF) := by
  decide +revert +kernel

theorem placeOf_trkGap (k : Fin 16) : placeOf ((0x60010 + 0x1000 * k) % 2 ^ 25) = .reg (0x60010 + 0x1000 * k) := by
  decide +revert +kernel

theorem regDom_trkGap (k : Fin 16) : regDom (0x60010 + 0x1000 * k) = .core := by
  decide +revert +kernel

/-- A write of TRKk_GAP is a plain one. -/
theorem Dev.regWrite_trkGap (d : Dev) (req : Nat) (k : Fin 16) (data : Nat) :
    d.regWrite req (0x60010 + 0x1000 * k) data = d.plainWrite (0x60010 + 0x1000 * k) (BitVec.ofNat 32 (data % 2 ^ 32)) := by
  have hflt : fltBlk (0x60010 + 0x1000 * k) = none := by decide +revert +kernel
  have hcork : corkBlk (0x60010 + 0x1000 * k) = none := by decide +revert +kernel
  have hcompl : corkOf (0x60010 + 0x1000 * k) = none := by decide +revert +kernel
  have hwin : (0x60010 + 0x1000 * k.val) / 0x10000 = 6 := by omega
  have hword : (0x60010 + 0x1000 * k.val) % 0x1000 ≠ 0 := by omega
  have hlow : 0x60010 + 0x1000 * k.val < 0x70000 := by omega
  unfold Dev.regWrite
  simp only [hflt, hcork, hcompl, Dev.blkWrite, hwin, Dev.trkWrite, hlow, hword, if_true, if_false]

/-- A shadowed register without live fields, its group not pending, out of direct-debug mode. -/
theorem Dev.plainWrite_shadow {d : Dev} {a m : Nat} (w : Word) (hd : (descOf a).map (fun e => (e.rw, e.rws)) = some (0, m)) (hm : m ≠ 0)
    (hbusy : d.rwsBusy a = false) (hdir : d.direct = false) : d.plainWrite a w = d.wrS a (mix (d.rdS a) w m) := by
  unfold Dev.plainWrite
  cases he : descOf a with
  | none => rw [he] at hd; cases hd
  | some e =>
    rw [he] at hd
    obtain ⟨hrw, hrws⟩ : e.rw = 0 ∧ e.rws = m := by simpa using hd
    simp [hrw, hrws, hm, Dev.rwsWrite, hbusy, hdir]

theorem Dev.wr_noRegs (d : Dev) (a : Nat) (w : Word) : (d.wr a w).noRegs = d.noRegs := rfl

theorem Dev.rdS_wrS_same (d : Dev) (a : Nat) (w : Word) : (d.wrS a w).rdS a = w := smGet_smSet_same _ _ _ _

theorem runs_rwsShadowWrite {s : State} {req : Fin 10} {off data c : Nat} (hs : s.busRuns req)
    (hp : placeOf (off % 2 ^ 25) = .reg c) (hr : s.busDev.inReset c = false) (ha : off % 4 = 0) (ho : s.busDev.isOff c = false) :
    Runs (.rwsShadowWrite req off data) s fun d => d.rakCatch.regWrite req c data :=
  runs_congr (runs_bus _ (show execRwsShadowWrite req off data s = _ from rfl) hs) (Dev.access_write hp ha ho hr)

theorem Dev.strobe_all {d : Dev} {grp : Nat} (hg : grp % 256 ≠ 0) (hf : d.following = false) (hb : d.strobeBusy (grp % 256) = false) :
    d.strobe grp = d.strobeAll (grp % 256) := by
  simp [Dev.strobe, hg, hf, hb]

theorem Dev.strobe_refused {d : Dev} {grp : Nat} (hg : grp % 256 ≠ 0) (hf : d.following = false) (hb : d.strobeBusy (grp % 256) = true) :
    d.strobe grp = d.incSat F.SYS_UPD_STAT_REFUSED := by
  simp [Dev.strobe, hg, hf, hb]

theorem runs_sysUpdStrobe {s : State} {req : Fin 10} {grp : Nat} (hs : s.coreRuns) {f : Dev → Dev} (h : s.dev.strobe grp = f s.dev) :
    Runs (.sysUpdStrobe req grp) s f :=
  runs_congr (runs_core (fun d => d.strobe grp) rfl hs) h

theorem runs_trackerSwap {s : State} {k : Fin 16} {p : PendSwap} (hs : s.coreRuns) (hp : (s.dev.tk k).pend = some p)
    (hb : if p.rev then (s.dev.tk k).lin ≤ p.bound else p.bound ≤ (s.dev.tk k).lin) :
    Runs (.trackerSwap k) s fun d => (d.outgoing k (d.tk k).lin (d.tk k).rev).trkSwap k p.vint p.bound p.rev := by
  refine runs_congr (runs_core _ (show execTrackerSwap k s = _ from rfl) hs) ?_
  simp only [State.start, hp]
  exact if_pos hb

/-- An update that times out is counted, raised and taken where it stands (R54). -/
def Dev.updLate (d : Dev) (k : Nat) (p : PendSwap) : Dev :=
  ((d.incSat F.SYS_UPD_STAT_TIMEOUTS).raise 0 0 k 1).trkSwap k p.vint (d.angNow k) p.rev

theorem runs_updTimeout {s : State} {k : Fin 16} {q p : PendSwap} (hs : s.coreRuns) (hq : (s.dev.tk k).pend = some q)
    (hp : ((s.dev.until (s.dev.updEnd q)).tk k).pend = some p) :
    Runs (.updTimeout k) s fun d => (d.until (d.updEnd q)).updLate k p := by
  refine runs_congr (runs_core _ (show execUpdTimeout k s = _ from rfl) hs) ?_
  simp only [State.start, hq, hp, Dev.updLate]

/-- Settles O8. -/
theorem strobesAndSwaps : Obligations.strobes_and_swaps := by
  unfold Obligations.strobes_and_swaps
  refine ⟨fun s req k data hs hc hbusy hdir => ?_, fun s req off data c hs hp hr ha ho => runs_rwsShadowWrite hs hp hr ha ho,
    fun s req grp hs hg hf hb => runs_sysUpdStrobe hs (Dev.strobe_all hg hf hb),
    fun s req grp hs hg hf hb => runs_sysUpdStrobe hs (Dev.strobe_refused hg hf hb),
    fun s k p hs hp hb => runs_trackerSwap hs hp hb, fun s k q p hs hq hp => runs_updTimeout hs hq hp, fun s req hs => ?_⟩
  · have hdom := regDom_trkGap k
    have hrun : Runs (.rwsShadowWrite req (0x60010 + 0x1000 * k) data) s fun d => d.rakCatch.regWrite req (0x60010 + 0x1000 * k) data :=
      runs_rwsShadowWrite hs (placeOf_trkGap k) (by simp [Dev.inReset, hdom, hc]) (by omega) (by simp [Dev.isOff, hdom, RDom.power])
    refine completes_of_runs_bus _ hrun hs
      ((Dev.regWrite_trkGap _ _ _ _).trans (Dev.plainWrite_shadow _ (descOf_trkGap k) (by decide) hbusy hdir))
      (Dev.wrS_corks _ _ _) (Dev.wrS_fab _ _ _) ?_
    exact ⟨Dev.rdS_wrS_same _ _ _, rfl⟩
  · refine completes_runs_eq (s.dev.wr R.SYS_UPD_STAT 0) (runs_core Dev.updStatClr rfl hs) hs.1 rfl (Dev.wr_corks _ _ _) (Dev.wr_fab _ _ _) ?_
    exact ⟨Dev.rd_wr_same _ _ _, Dev.wr_noRegs _ _ _, fun a ha => Dev.rd_wr_ne _ _ (List.ne_of_not_mem_cons ha)⟩

/-! ### Corks and the bit window (R59-R64) -/

/-- Where the value word of a corked register lies. -/
theorem corkedWords_value {a : Nat} (h : a ∈ corkedWords) :
    placeOf (a % 2 ^ 25) = .reg a ∧ a % 4 = 0 ∧ (regDom a).power = none ∧ fltBlk a = none ∧ (corkBlk a).isSome = true := by
  revert h a
  decide +kernel

/-- Where its complement word lies. -/
theorem corkedWords_compl {a : Nat} (h : a ∈ corkedWords) :
    placeOf ((a + 4) % 2 ^ 25) = .reg (a + 4) ∧ (a + 4) % 4 = 0 ∧ (regDom (a + 4)).power = none ∧ fltBlk (a + 4) = none
      ∧ corkBlk (a + 4) = none ∧ corkOf (a + 4) = some a ∧ regDom (a + 4) = regDom a := by
  revert h a
  decide +kernel

theorem Dev.isOff_none {d : Dev} {a : Nat} (h : (regDom a).power = none) : d.isOff a = false := by simp [Dev.isOff, h]

theorem Dev.inReset_congr (d : Dev) {a b : Nat} (h : regDom a = regDom b) : d.inReset a = d.inReset b := by simp [Dev.inReset, h]

theorem Dev.regWrite_corkValue {d : Dev} {req c data b : Nat} (hf : fltBlk c = none) (hb : corkBlk c = some b) :
    d.regWrite req c data = d.corkValue b c req (data % 2 ^ 32) := by
  simp only [Dev.regWrite, hf, hb]

theorem Dev.regWrite_corkCompl {d : Dev} {req a data b : Nat} (ha : a ∈ corkedWords) (hb : corkBlk a = some b) :
    d.regWrite req (a + 4) data = d.corkCompl b a req (data % 2 ^ 32) := by
  obtain ⟨-, -, -, hflt, hval, hcompl, -⟩ := corkedWords_compl ha
  simp only [Dev.regWrite, hflt, hval, hcompl, hb, Option.getD_some]

theorem runs_corkValueWrite {s : State} {req : Fin 10} {off data c b : Nat} (hs : s.busRuns req) (hp : placeOf (off % 2 ^ 25) = .reg c)
    (hr : s.busDev.inReset c = false) (ha : off % 4 = 0) (ho : s.busDev.isOff c = false) (hf : fltBlk c = none) (hb : corkBlk c = some b) :
    Runs (.corkValueWrite req off data) s fun d => d.rakCatch.corkValue b c req (data % 2 ^ 32) := by
  have hplace : corkPlace off false = true := by simp only [corkPlace, hp, hb]; rfl
  refine runs_congr (runs_bus _ (show execCorkValueWrite req off data s = _ from rfl) hs) ?_
  exact (if_pos hplace).trans ((Dev.access_write hp ha ho hr).trans (Dev.regWrite_corkValue hf hb))

/-- A value word in its own place. -/
theorem runs_corkValueWrite_at {s : State} {req : Fin 10} {a data b : Nat} (hs : s.busRuns req) (ha : a ∈ corkedWords)
    (hr : s.busDev.inReset a = false) (hb : corkBlk a = some b) :
    Runs (.corkValueWrite req a data) s fun d => d.rakCatch.corkValue b a req (data % 2 ^ 32) := by
  obtain ⟨hp, h4, hpow, hflt, -⟩ := corkedWords_value ha
  exact runs_corkValueWrite hs hp hr h4 (Dev.isOff_none hpow) hflt hb

theorem runs_complementWordWrite_at {s : State} {req : Fin 10} {a data b : Nat} (hs : s.busRuns req) (ha : a ∈ corkedWords)
    (hr : s.busDev.inReset a = false) (hb : corkBlk a = some b) :
    Runs (.complementWordWrite req (a + 4) data) s fun d => d.rakCatch.corkCompl b a req (data % 2 ^ 32) := by
  obtain ⟨hp, h4, hpow, -, -, hcompl, hdom⟩ := corkedWords_compl ha
  have hplace : corkPlace (a + 4) true = true := by simp only [corkPlace, hp, hcompl]; rfl
  refine runs_congr (runs_bus _ (show execComplementWordWrite req (a + 4) data s = _ from rfl) hs) ?_
  exact (if_pos hplace).trans ((Dev.access_write hp h4 (Dev.isOff_none hpow) ((Dev.inReset_congr _ hdom).trans hr)).trans
    (Dev.regWrite_corkCompl ha hb))

/-- A new cork of requester req on a, in place of one that was open there. -/
def Dev.corkOpen (d : Dev) (a req v : Nat) : Dev := { d.corkEnd a with corks := (d.corkEnd a).corks ++ [⟨a, req, v % 2 ^ 32, d.fab⟩] }

theorem Dev.corkValue_open {d : Dev} {b a req : Nat} (v : Nat) (h : ∀ c, d.corkAt a = some c → c.req = req) :
    d.corkValue b a req v = d.corkOpen a req v := by
  unfold Dev.corkValue Dev.corkOpen
  cases hc : d.corkAt a with
  | none => rfl
  | some c => exact if_pos (h c hc)

theorem Dev.corkValue_other {d : Dev} {b a req : Nat} {c : Cork} (v : Nat) (hc : d.corkAt a = some c) (hne : c.req ≠ req) :
    d.corkValue b a req v = d.corkRefuse b a req 4 := by
  simp only [Dev.corkValue, hc, if_neg hne]

theorem Dev.corkOpen_corkAt (d : Dev) (a req v : Nat) : (d.corkOpen a req v).corkAt a = some ⟨a, req, v % 2 ^ 32, d.fab⟩ := by
  have hnone : (d.corks.filter fun c => c.addr != a).find? (fun c => c.addr == a) = none := by
    simp
  simp only [Dev.corkAt, Dev.corkOpen, Dev.corkEnd, List.find?_append, hnone]
  simp

theorem Dev.corkOpen_rest (d : Dev) (a req v : Nat) : { d.corkOpen a req v with corks := d.corks, fltNew := d.fltNew } = d := rfl

/-- A cork that has just been opened is not overdue. -/
theorem Dev.corkOpen_corksFresh {d : Dev} (h : d.corksFresh) (a req v : Nat) : (d.corkOpen a req v).corksFresh := by
  intro c hc
  rcases List.mem_append.mp hc with hold | hnew
  · exact h c (List.mem_of_mem_filter hold)
  · rw [List.mem_singleton.mp hnew]
    exact Nat.le_add_right _ _

/-- The device in which a complement word on a stands (R59; log entry 102). -/
theorem Dev.corkCompl_late {d : Dev} {a : Nat} {c : Cork} (hc : d.corkAt a = some c) (hlate : c.opened ≠ d.fab) (b req v : Nat) :
    d.corkCompl b a req v =
      if c.req ≠ req then d.corkRefuse b a req 5
      else if v % 2 ^ 32 + c.value ≠ 2 ^ 32 - 1 then (d.corkEnd a).corkRefuse b a req 1
      else (d.corkEnd a).corkTake a c.value := by
  simp [Dev.corkCompl, hc, hlate]

theorem Dev.corkCompl_early {d : Dev} {a : Nat} {c : Cork} (hc : d.corkAt a = some c) (hnow : c.opened = d.fab)
    (hnext : d.fabCycle.corkAt a = some c) (b : Nat) {req v : Nat} (hq : c.req = req) (hv : v % 2 ^ 32 + c.value = 2 ^ 32 - 1) :
    d.corkCompl b a req v = (d.fabCycle.corkEnd a).corkTake a c.value := by
  have hadv : (d.corkAt a).elim false (fun x => x.opened == d.fab) = true := by simp [hc, hnow]
  simp only [Dev.corkCompl, hadv, if_true, hnext, hq, hv, ne_eq, not_true_eq_false, if_false]

theorem Dev.corkCompl_none {d : Dev} {a : Nat} (hc : d.corkAt a = none) (b req v : Nat) :
    d.corkCompl b a req v = d.corkRefuse b a req 3 := by
  simp [Dev.corkCompl, hc]

theorem runs_corkTimeout {s : State} {off a : Nat} {c : Cork} (hs : s.coreRuns) (hp : placeOf (off % 2 ^ 25) = .reg a)
    (hc : s.dev.corkAt a = some c) : Runs (.corkTimeout off) s fun d => d.until (c.opened + corkCycles + 1) := by
  refine runs_congr (runs_core _ (show execCorkTimeout off s = _ from rfl) hs) ?_
  simp only [State.start, hp, hc]

/-- An aligned write of a word of the bit window. -/
theorem Dev.access_bit {d : Dev} {req off data o : Nat} (hp : placeOf (off % 2 ^ 25) = .bitWord o) (ha : off % 4 = 0)
    (hc : d.rst.core = false) : d.access req off 4 true data = d.bitWrite o (bitOf data 0) := by
  have h4 : off % 2 ^ 25 % 4 = 0 := by omega
  unfold Dev.access Dev.busWriteN Dev.wordWrite
  simp only [hp, h4, hc]
  simp [sizeOk]

theorem runs_bitAliasWrite {s : State} {req : Fin 10} {off o data : Nat} (hs : s.busRuns req) (hp : placeOf (off % 2 ^ 25) = .bitWord o)
    (hc : s.busDev.rst.core = false) (ha : off % 4 = 0) :
    Runs (.bitAliasWrite req off data) s fun d => d.rakCatch.bitWrite o (bitOf data 0) := by
  refine runs_congr (runs_bus _ (show execBitAliasWrite req off data s = _ from rfl) hs) ?_
  simp only [hp]
  exact Dev.access_bit hp ha hc

theorem Dev.put_noRegs (d : Dev) (f : Fld) (v : Nat) : (d.put f v).noRegs = d.noRegs := rfl

/-! Single bits of registers, as fields of one bit. -/

theorem Dev.bit_eq_get (d : Dev) (a i : Nat) : d.bit a i = (d.get ⟨a, i, i⟩ == 1) := by
  have hone : (d.rd a).toNat / 2 ^ i % 2 = (Nat.testBit (d.rd a).toNat i).toNat := by
    rw [Nat.toNat_testBit]
  simp only [Dev.bit, Dev.get, fldGet, BitVec.getLsbD, show i + 1 - i = 1 by omega, Nat.pow_one, hone]
  cases Nat.testBit (d.rd a).toNat i <;> rfl

theorem b2n_mod (b : Bool) : b2n b % 2 = b2n b := by cases b <;> rfl

theorem Dev.bit_setBit_same (d : Dev) (a : Nat) {i : Nat} (b : Bool) (hi : i < 32) : (d.setBit a i b).bit a i = b := by
  rw [Dev.bit_eq_get, Dev.setBit, Dev.get_put_same _ _ _ ⟨le_rfl, hi⟩]
  simp only [show i + 1 - i = 1 by omega, Nat.pow_one, b2n_mod]
  cases b <;> rfl

theorem Dev.bit_setBit_ne (d : Dev) {a e i j : Nat} (b : Bool) (hj : j < 32) (h : e ≠ a ∨ j ≠ i) :
    (d.setBit a i b).bit e j = d.bit e j := by
  rw [Dev.bit_eq_get, Dev.bit_eq_get, Dev.setBit]
  rcases h with h | h
  · rw [Dev.get_put_ne _ _ _ _ h]
  · rw [Dev.get_put_apart _ _ _ _ le_rfl ⟨le_rfl, hj⟩ (by dsimp only; omega)]

theorem Dev.abit_setAbit_same (d : Dev) (a n : Nat) (b : Bool) : (d.setAbit a n b).abit a n = b :=
  Dev.bit_setBit_same d _ b (Nat.mod_lt _ (by decide))

theorem Dev.abit_setAbit_ne (d : Dev) (a : Nat) {n m : Nat} (b : Bool) (h : m ≠ n) : (d.setAbit a n b).abit a m = d.abit a m :=
  Dev.bit_setBit_ne d b (Nat.mod_lt _ (by decide)) (by omega)

/-- The words of the inhibit mask in the bit window. -/
theorem Dev.bitWrite_inhibit (d : Dev) (n : Fin 64) (b : Bool) : d.bitWrite (0x800 + 4 * n) b = d.setAbit 0x10C018 n b := by
  have htgt : bitTarget (0x800 + 4 * n.val) = some (0x10C018, n.val) := by
    simp only [bitTarget, show ¬ 0x800 + 4 * n.val < 0x800 by omega, show 0x800 + 4 * n.val < 0x900 by omega, if_true, if_false]
    congr 2
    omega
  simp only [Dev.bitWrite, htgt, show ¬ 0x800 + 4 * n.val < 0x800 by omega, show 0x800 + 4 * n.val < 0x900 by omega, if_true, if_false]

/-- A bit of the inhibit mask lies in one of its two words. -/
theorem Dev.setInhibit_onlyRegs (d : Dev) (n : Fin 64) (b : Bool) : Dev.onlyRegs d (d.setAbit 0x10C018 n b) [0x10C018, 0x10C01C] := by
  have hword : 0x10C018 + 4 * (n.val / 32) = 0x10C018 ∨ 0x10C018 + 4 * (n.val / 32) = 0x10C01C := by omega
  refine ⟨Dev.put_noRegs d ⟨0x10C018 + 4 * (n.val / 32), n.val % 32, n.val % 32⟩ (b2n b), fun a ha => ?_⟩
  refine Dev.rd_put_ne d ⟨0x10C018 + 4 * (n.val / 32), n.val % 32, n.val % 32⟩ (b2n b) ?_
  rintro rfl
  rcases hword with h | h <;> simp [h] at ha

theorem bitOf_b2n (b : Bool) : bitOf (b2n b) 0 = b := by cases b <;> rfl

/-- Settles O9. -/
theorem corksOpenAndTake : Obligations.corks_open_and_take := by
  unfold Obligations.corks_open_and_take
  refine ⟨fun s req a data hs ha hr hown => ?_, fun s req a b data c hs ha hr hb hc hne => ?_,
    fun s req a data c hs ha hr hc hlate hq hv => ?_, fun s req a data c hs ha hr hc hnow hnext hq hv => ?_,
    fun s req a b data c hs ha hr hb hc hlate hq hv => ?_, fun s req a b data c hs ha hr hb hc hlate hq => ?_,
    fun s req a b data hs ha hr hb hc => ?_, fun s a c hs ha hc => runs_corkTimeout hs (corkedWords_value ha).1 hc,
    fun s req n b hs hc => ?_, fun s req off o data hs hp hc ha => runs_bitAliasWrite hs hp hc ha⟩
  · obtain ⟨b, hb⟩ := Option.isSome_iff_exists.mp (corkedWords_value ha).2.2.2.2
    have hrun := runs_congr (runs_corkValueWrite_at (data := data) hs ha hr hb) (g := fun d => d.rakCatch.corkOpen a req (data % 2 ^ 32))
      (Dev.corkValue_open _ hown)
    refine completes_of_runs hrun (Dev.corkOpen_corksFresh hs.1 _ _ _) ⟨?_, Dev.corkOpen_rest _ _ _ _⟩
    have hopen := s.busDev.corkOpen_corkAt a req (data % 2 ^ 32)
    rwa [Nat.mod_mod] at hopen
  · exact runs_congr (runs_corkValueWrite_at hs ha hr hb) (Dev.corkValue_other _ hc hne)
  · obtain ⟨b, hb⟩ := Option.isSome_iff_exists.mp (corkedWords_value ha).2.2.2.2
    refine runs_congr (runs_complementWordWrite_at hs ha hr hb) ((Dev.corkCompl_late hc hlate b req _).trans ?_)
    rw [if_neg (not_not.mpr hq), Nat.mod_mod, if_neg (not_not.mpr hv)]
    rfl
  · obtain ⟨b, hb⟩ := Option.isSome_iff_exists.mp (corkedWords_value ha).2.2.2.2
    exact runs_congr (runs_complementWordWrite_at hs ha hr hb) (Dev.corkCompl_early hc hnow hnext b hq (by rwa [Nat.mod_mod]))
  · refine runs_congr (runs_complementWordWrite_at hs ha hr hb) ((Dev.corkCompl_late hc hlate b req _).trans ?_)
    rw [if_neg (not_not.mpr hq), Nat.mod_mod, if_pos hv]
    rfl
  · exact runs_congr (runs_complementWordWrite_at hs ha hr hb) ((Dev.corkCompl_late hc hlate b req _).trans (if_pos hq))
  · exact runs_congr (runs_complementWordWrite_at hs ha hr hb) (Dev.corkCompl_none hc b req _)
  · have hplace : placeOf ((0x1E0800 + 4 * n.val) % 2 ^ 25) = .bitWord (0x800 + 4 * n) := by decide +revert +kernel
    refine completes_of_runs_bus (s.busDev.setAbit 0x10C018 n b) (runs_bitAliasWrite hs hplace hc (by omega)) hs ?_
      (Dev.setBit_corks _ _ _ _) (Dev.setBit_fab _ _ _ _) ?_
    · rw [bitOf_b2n]
      exact Dev.bitWrite_inhibit _ n b
    · exact ⟨Dev.abit_setAbit_same _ _ _ _, fun m _ hne => Dev.abit_setAbit_ne _ _ _ hne, s.busDev.setInhibit_onlyRegs n b⟩

end Sys2Proof.Machine

/-! PROOFS. The Cellar window, SLOW and fault records (R66-R74, R535), references and PLLs (R24-R30, R502). -/

namespace Sys2Proof.Machine

/-! ### Flags -/

theorem Dev.flag_put_same (d : Dev) (f : Fld) (v : Nat) (hf : f.lo ≤ f.hi ∧ f.hi < 32) :
    (d.put f v).flag f = (v % 2 ^ (f.hi + 1 - f.lo) == 1) := by
  rw [Dev.flag, Dev.get_put_same d f v hf]

theorem Dev.flag_put_apart (d : Dev) (f g : Fld) (v : Nat) (hf : f.lo ≤ f.hi) (hg : g.lo ≤ g.hi ∧ g.hi < 32)
    (h : g.hi < f.lo ∨ f.hi < g.lo) : (d.put f v).flag g = d.flag g := by
  rw [Dev.flag, Dev.get_put_apart d f g v hf hg h, Dev.flag]

theorem Dev.flag_congr {d e : Dev} (h : d.reg = e.reg) (f : Fld) : d.flag f = e.flag f := by rw [Dev.flag, Dev.get_congr h, Dev.flag]

/-- A field write changes the live register it lies in and nothing else. -/
theorem Dev.put_onlyRegs (d : Dev) (f : Fld) (v : Nat) : Dev.onlyRegs d (d.put f v) [f.addr] :=
  ⟨Dev.put_noRegs d f v, fun _ ha => Dev.rd_put_ne d f v (List.ne_of_not_mem_cons ha)⟩

theorem Dev.flag_putB (d : Dev) (f : Fld) (b : Bool) (hf : f.lo = f.hi ∧ f.hi < 32) : (d.putB f b).flag f = b := by
  rw [Dev.putB, Dev.flag_put_same _ _ _ ⟨hf.1.le, hf.2⟩, show f.hi + 1 - f.lo = 1 by omega, Nat.pow_one, b2n_mod]
  cases b <;> rfl

theorem Dev.setClr_flag (d : Dev) (c : Clr) (f : Fld) : (d.setClr c).flag f = d.flag f := rfl

/-! ### The window of the Cellar (R66, R68) -/

/-- An access begins: BUSY set, RDY clear, and the access held. -/
def Dev.celBegin (d : Dev) (acc : IndAcc) : Dev := ((d.put F.CEL_IADDR_BUSY 1).put F.CEL_IADDR_RDY 0).setClr { d.clr with ind := some acc }

theorem Dev.celStart_idle {d : Dev} (h : d.flag F.CEL_IADDR_BUSY = false) (acc : IndAcc) : d.celStart acc = d.celBegin acc := by
  unfold Dev.celStart
  rw [h]
  rfl

theorem Dev.celBegin_busy (d : Dev) (acc : IndAcc) : (d.celBegin acc).flag F.CEL_IADDR_BUSY = true := by
  rw [Dev.celBegin, Dev.setClr_flag, Dev.flag_put_apart _ _ _ _ (by decide) (by decide) (by decide), Dev.flag_put_same _ _ _ (by decide)]
  rfl

theorem Dev.celBegin_rdy (d : Dev) (acc : IndAcc) : (d.celBegin acc).flag F.CEL_IADDR_RDY = false := by
  rw [Dev.celBegin, Dev.setClr_flag, Dev.flag_put_same _ _ _ (by decide)]
  rfl

/-! What stands while an access is under way. (Proved by rewriting: by unfolding, the kernel would compare whole devices.) -/

theorem Dev.celBegin_corks (d : Dev) (acc : IndAcc) : (d.celBegin acc).corks = d.corks := by
  rw [Dev.celBegin, Dev.setClr_corks, Dev.put_corks, Dev.put_corks]

theorem Dev.celBegin_fab (d : Dev) (acc : IndAcc) : (d.celBegin acc).fab = d.fab := by
  rw [Dev.celBegin, Dev.setClr_fab, Dev.put_fab, Dev.put_fab]

theorem Dev.setClr_ind (d : Dev) (c : Clr) : (d.setClr c).clr.ind = c.ind := rfl
theorem Dev.setClr_cel (d : Dev) (c : Clr) : (d.setClr c).cel = d.cel := rfl
theorem Dev.setClr_memSame {d e : Dev} (h : Dev.memSame d e) (c : Clr) : Dev.memSame d (e.setClr c) := h
theorem Dev.put_memSame (d : Dev) (f : Fld) (v : Nat) : Dev.memSame d (d.put f v) := Dev.memSame_of_still (Dev.put_still d f v)
theorem Dev.causeOff_memSame (d : Dev) (b c i : Nat) : Dev.memSame d (d.causeOff b c i) := ⟨fun _ => rfl, fun _ => rfl, fun _ => rfl⟩
theorem Dev.cput_memSame (d : Dev) (f : Fld) (v : Nat) : Dev.memSame d (d.cput f v) := ⟨fun _ => rfl, fun _ => rfl, fun _ => rfl⟩
theorem Dev.memSame_refl (d : Dev) : Dev.memSame d d := ⟨fun _ => rfl, fun _ => rfl, fun _ => rfl⟩

theorem Dev.memSame_trans {d e f : Dev} (h : Dev.memSame d e) (g : Dev.memSame e f) : Dev.memSame d f :=
  ⟨fun a => (g.1 a).trans (h.1 a), fun a => (g.2.1 a).trans (h.2.1 a), fun a => (g.2.2 a).trans (h.2.2 a)⟩

theorem Dev.ret_memSame (d : Dev) (req v : Nat) : Dev.memSame d (d.ret req v) := ⟨fun _ => rfl, fun _ => rfl, fun _ => rfl⟩
theorem Dev.ret_flag (d : Dev) (req v : Nat) (f : Fld) : (d.ret req v).flag f = d.flag f := rfl
theorem Dev.ret_bus (d : Dev) (req v : Nat) : (d.ret req v).bus = ⟨req, v % 2 ^ 32⟩ := rfl

theorem Dev.celBegin_cel (d : Dev) (acc : IndAcc) : (d.celBegin acc).cel = d.cel := by
  rw [Dev.celBegin, Dev.setClr_cel, Dev.put_cel, Dev.put_cel]

theorem Dev.celBegin_ind (d : Dev) (acc : IndAcc) : (d.celBegin acc).clr.ind = some acc := by
  rw [Dev.celBegin, Dev.setClr_ind]

theorem Dev.celBegin_memSame (d : Dev) (acc : IndAcc) : Dev.memSame d (d.celBegin acc) :=
  Dev.setClr_memSame (Dev.memSame_trans (Dev.put_memSame d _ _) (Dev.put_memSame _ _ _)) _

theorem runs_celAccessDone {s : State} (hs : s.celRuns) (hslow : s.dev.cflag F.CEL_STAT_SLOWOK = true) :
    Runs .celAccessDone s Dev.celDone := runs_congr (runs_cel _ (exec_celAccessDone s) hs) (if_pos hslow)

theorem runs_fastCopyRefresh {s : State} (hs : s.celRuns) (hslow : s.dev.cflag F.CEL_STAT_SLOWOK = true) :
    Runs .fastCopyRefresh s Dev.fastCopy :=
  runs_congr (runs_cel _ (show execFastCopyRefresh s = _ from rfl) hs) (if_pos hslow)

/-- The Cellar word 0x10 is written in all its bits. -/
theorem celMask_scratch : celMask 0x10 = 0xFFFFFFFF := by decide

theorem Dev.celWrite_scratch (d : Dev) (w : Word) : (d.celWrite 0x10 w).crd 0x10 = w := by
  have hmix : (d.crd 0x10 &&& ~~~(BitVec.ofNat 32 (celMask 0x10))) ||| (w &&& BitVec.ofNat 32 (celMask 0x10)) = w := by
    rw [celMask_scratch, show BitVec.ofNat 32 0xFFFFFFFF = BitVec.allOnes 32 from rfl, BitVec.and_allOnes, BitVec.not_allOnes,
      BitVec.and_zero, BitVec.zero_or]
  have hwrite : d.celWrite 0x10 w = d.cwr 0x10 w := by
    unfold Dev.celWrite
    rw [if_neg (by decide), if_neg (by decide)]
    simp only [hmix]
    exact if_neg fun h => absurd h.1 (by decide)
  rw [hwrite, Dev.crd_cwr_same]

/-- A done write of the Cellar word 0x10 leaves the word there. -/
theorem Dev.celDone_scratch {d : Dev} {w : Word} (hind : d.clr.ind = some (.write w)) (haddr : d.get F.CEL_IADDR_ADDR = 0x10) :
    d.celDone.crd 0x10 = w := by
  have hmove : (d.celMove (.write w)).crd 0x10 = w := by
    rw [Dev.celMove, haddr]
    exact Dev.celWrite_scratch _ w
  rw [Dev.celDone_eq hind]
  split <;> exact hmove

/-- SLOW starts or stops (R535). -/
def Dev.slowOn (d : Dev) : Dev := (d.cput F.CEL_STAT_SLOWOK 1).causeOff 3 1 0
def Dev.slowOff (d : Dev) : Dev := (d.cput F.CEL_STAT_SLOWOK 0).causeOn 3 1 0 2

theorem Dev.slowOff_still (d : Dev) : d.slowOff.still = (d.cput F.CEL_STAT_SLOWOK 0).still := Dev.causeOn_still _ _ _ _ _

theorem Dev.slowOff_corks (d : Dev) : d.slowOff.corks = d.corks := (Dev.still_corks d.slowOff_still).trans (Dev.cput_corks _ _ _)
theorem Dev.slowOff_fab (d : Dev) : d.slowOff.fab = d.fab := (Dev.still_fab d.slowOff_still).trans (Dev.cput_fab _ _ _)

theorem Dev.slowOn_corks (d : Dev) : d.slowOn.corks = d.corks := by rw [Dev.slowOn, Dev.causeOff_corks, Dev.cput_corks]
theorem Dev.slowOn_fab (d : Dev) : d.slowOn.fab = d.fab := by rw [Dev.slowOn, Dev.causeOff_fab, Dev.cput_fab]
theorem Dev.slowOn_reg (d : Dev) : d.slowOn.reg = d.reg := by rw [Dev.slowOn, Dev.causeOff_reg, Dev.cput_reg]

theorem Dev.slowOn_cflag (d : Dev) : d.slowOn.cflag F.CEL_STAT_SLOWOK = true := by
  have hcel : d.slowOn.cel = (d.cput F.CEL_STAT_SLOWOK 1).cel := Dev.causeOff_cel _ _ _ _
  rw [Dev.cflag, Dev.cget_congr hcel, Dev.cget_cput_same _ _ _ (by decide)]
  rfl

theorem Dev.slowOff_cflag (d : Dev) : d.slowOff.cflag F.CEL_STAT_SLOWOK = false := by
  rw [Dev.cflag, Dev.cget_congr (Dev.still_cel d.slowOff_still), Dev.cget_cput_same _ _ _ (by decide)]
  rfl

/-! ### Closing a fault record (R74) -/

/-- FLT_CLOSE of every block is a register of that block's fault set. -/
theorem placeOf_fltClose (b : Fin 25) : placeOf ((fltBase b + 0x18) % 2 ^ 25) = .reg (fltBase b + 0x18)
    ∧ (fltBase b + 0x18) % 4 = 0 ∧ fltBlk (fltBase b + 0x18) = some b.val := by
  decide +revert +kernel

theorem runs_fltClose {s : State} {req : Fin 10} {b : Fin 25} (hs : s.busRuns req) (ho : s.busDev.isOff (fltBase b + 0x18) = false)
    (hr : s.busDev.inReset (fltBase b + 0x18) = false) (hn : fltNone b = false) :
    Runs (.fltClose req b) s fun d => d.rakCatch.fltClose b := by
  obtain ⟨hp, ha, hblk⟩ := placeOf_fltClose b
  have hwrite (d : Dev) : d.regWrite req (fltBase b + 0x18) 1 = d.fltClose b := by
    simp only [Dev.regWrite, hblk, Dev.fltWrite, hn, Nat.add_sub_cancel_left]
    rfl
  exact runs_congr (runs_bus _ (show execFltClose req b s = _ from rfl) hs) ((Dev.access_write hp ha ho hr).trans (hwrite _))

/-- With no cause of the block present, its record closes and stays closed. -/
theorem Dev.fltClose_quiet {d : Dev} {b : Nat} (h : ∀ c ∈ d.causes, c.blk ≠ b) :
    (d.fltClose b).reg = (((d.put (F.FLT_OPEN b) 0).wr (R.FLT_ALSO b) 0).put (F.FLT_COUNT b) 0).reg := by
  have hnone : d.causes.filter (fun c => c.blk == b) = [] :=
    List.filter_eq_nil_iff.mpr fun c hc => by simpa using h c hc
  unfold Dev.fltClose
  simp only [Dev.put_causes, Dev.wr_causes, hnone, List.foldl_nil]

theorem Dev.fltClose_open {d : Dev} {b : Nat} (h : ∀ c ∈ d.causes, c.blk ≠ b) : (d.fltClose b).flag (F.FLT_OPEN b) = false := by
  have hne : (F.FLT_OPEN b).addr ≠ (F.FLT_COUNT b).addr := show fltBase b + 4 ≠ fltBase b + 0xC by omega
  have hne' : (F.FLT_OPEN b).addr ≠ R.FLT_ALSO b := show fltBase b + 4 ≠ fltBase b + 8 by omega
  rw [Dev.flag_congr (Dev.fltClose_quiet h), Dev.flag, Dev.get_put_ne _ _ _ _ hne, Dev.get, Dev.rd_wr_ne _ _ hne', ← Dev.get,
    Dev.get_put_same _ _ _ ⟨le_rfl, show 7 < 32 by decide⟩]
  rfl

theorem Dev.fltClose_also {d : Dev} {b : Nat} (h : ∀ c ∈ d.causes, c.blk ≠ b) : (d.fltClose b).rd (R.FLT_ALSO b) = 0 := by
  have hne : R.FLT_ALSO b ≠ (F.FLT_COUNT b).addr := show fltBase b + 8 ≠ fltBase b + 0xC by omega
  rw [Dev.rd_congr (Dev.fltClose_quiet h), Dev.rd_put_ne _ _ _ hne, Dev.rd_wr_same]

theorem Dev.fltClose_count {d : Dev} {b : Nat} (h : ∀ c ∈ d.causes, c.blk ≠ b) : (d.fltClose b).get (F.FLT_COUNT b) = 0 := by
  rw [Dev.get_congr (Dev.fltClose_quiet h), Dev.get_put_same _ _ _ ⟨Nat.zero_le _, show 15 < 32 by decide⟩]
  rfl

/-- Settles O10. -/
theorem cellarAccess : Obligations.cellar_access := by
  unfold Obligations.cellar_access
  refine ⟨fun s req hs hidle => ?_, fun s req data hs hidle => ?_, fun s hs hslow => runs_celAccessDone hs hslow,
    fun s hs hslow => runs_fastCopyRefresh hs hslow, fun s hs => ?_, fun s hs => ?_,
    fun s w hs hslow hind haddr => completes_celAccessDone hs hslow (Dev.celDone_scratch hind haddr),
    fun s req b hs ho hr hn hc => ?_, fun s req b hs ho hr hn => runs_fltClose hs ho hr hn, fun s req hs => runs_cel _ rfl hs⟩
  · refine completes_runs_eq ((s.dev.celBegin .read).ret req s.dev.clr.lastRead.toNat) (runs_cel _ (show execCelIdataRead req s = _ from rfl) hs)
      hs.1 (congrArg (fun x : Dev => x.ret req s.dev.clr.lastRead.toNat) (Dev.celStart_idle hidle .read))
      ((Dev.ret_corks _ _ _).trans (Dev.celBegin_corks _ _)) ((Dev.ret_fab _ _ _).trans (Dev.celBegin_fab _ _)) ?_
    rw [Dev.ret_flag, Dev.ret_flag, Dev.ret_clr, Dev.ret_bus, Dev.ret_cel]
    exact ⟨Dev.celBegin_busy _ _, Dev.celBegin_rdy _ _, Dev.celBegin_ind _ _, rfl,
      Dev.memSame_trans (Dev.celBegin_memSame _ _) (Dev.ret_memSame _ _ _), Dev.celBegin_cel _ _⟩
  · refine completes_runs_eq (s.dev.celBegin (.write (BitVec.ofNat 32 data))) (runs_cel _ (show execCelIdataWrite req data s = _ from rfl) hs)
      hs.1 (Dev.celStart_idle hidle _) (Dev.celBegin_corks _ _) (Dev.celBegin_fab _ _) ?_
    exact ⟨Dev.celBegin_busy _ _, Dev.celBegin_rdy _ _, Dev.celBegin_ind _ _, Dev.celBegin_memSame _ _, Dev.celBegin_cel _ _⟩
  · refine completes_runs_eq s.dev.slowOn (runs_cel Dev.slowOn rfl hs) hs.1 rfl (Dev.slowOn_corks _) (Dev.slowOn_fab _) ?_
    exact ⟨Dev.slowOn_cflag _, Dev.causeOff_hasCause _ _ _ _, Dev.slowOn_reg _,
      Dev.memSame_trans (Dev.cput_memSame _ _ _) (Dev.causeOff_memSame _ _ _ _)⟩
  · refine completes_runs_eq s.dev.slowOff (runs_cel Dev.slowOff rfl hs) hs.1 rfl (Dev.slowOff_corks _) (Dev.slowOff_fab _) ?_
    exact ⟨Dev.slowOff_cflag _, Dev.causeOn_hasCause _ _ _ _ _,
      Dev.memSame_trans (Dev.cput_memSame _ _ _) (Dev.memSame_of_still (Dev.slowOff_still _))⟩
  · refine completes_of_runs_bus (s.busDev.fltClose b) (runs_fltClose hs ho hr hn) hs rfl (Dev.still_corks (Dev.fltClose_still _ _))
      (Dev.still_fab (Dev.fltClose_still _ _)) ?_
    exact ⟨Dev.fltClose_open hc, Dev.fltClose_also hc, Dev.fltClose_count hc, Dev.fltClose_still _ _⟩

/-! ### References and PLLs (R24-R30, R502) -/

/-- The device with the clock selector's own state at c, or the Cellarmaster's at m. -/
def Dev.setClk (d : Dev) (c : Clk) : Dev := { d with clk := c }
def Dev.setMgs (d : Dev) (m : Mgs) : Dev := { d with mgs := m }

@[simp] theorem Dev.setClk_corks (d : Dev) (c : Clk) : (d.setClk c).corks = d.corks := rfl
@[simp] theorem Dev.setClk_fab (d : Dev) (c : Clk) : (d.setClk c).fab = d.fab := rfl
@[simp] theorem Dev.setClk_clk (d : Dev) (c : Clk) : (d.setClk c).clk = c := rfl
@[simp] theorem Dev.setClk_mem (d : Dev) (c : Clk) : (d.setClk c).mem = d.mem := rfl
@[simp] theorem Dev.setClk_cmem (d : Dev) (c : Clk) : (d.setClk c).cmem = d.cmem := rfl
@[simp] theorem Dev.setClk_mram (d : Dev) (c : Clk) : (d.setClk c).mram = d.mram := rfl
@[simp] theorem Dev.setMgs_corks (d : Dev) (m : Mgs) : (d.setMgs m).corks = d.corks := rfl
@[simp] theorem Dev.setMgs_fab (d : Dev) (m : Mgs) : (d.setMgs m).fab = d.fab := rfl
@[simp] theorem Dev.setMgs_reg (d : Dev) (m : Mgs) : (d.setMgs m).reg = d.reg := rfl
theorem Dev.setMgs_hasCause (d : Dev) (m : Mgs) (b c i : Nat) : (d.setMgs m).hasCause b c i = d.hasCause b c i := rfl
@[simp] theorem Dev.setMgs_mem (d : Dev) (m : Mgs) : (d.setMgs m).mem = d.mem := rfl
@[simp] theorem Dev.setMgs_cmem (d : Dev) (m : Mgs) : (d.setMgs m).cmem = d.cmem := rfl
@[simp] theorem Dev.setMgs_mram (d : Dev) (m : Mgs) : (d.setMgs m).mram = d.mram := rfl

/-- The good bit of a reference: true for that of PCIe. -/
abbrev goodFld (r : Bool) : Fld := if r then F.CLK_STAT_PGOOD else F.CLK_STAT_XGOOD

theorem runs_refLost_reset {s : State} {r : Bool} (h : s.dev.rst.sys = true) : Runs (.refLost r) s fun d => d.putB (goodFld r) false :=
  runs_congr (runs_any _ (show execRefLost r s = _ from rfl)) (if_pos h)

theorem runs_refLost {s : State} {r : Bool} (hs : s.sysRuns) : Runs (.refLost r) s fun d => d.refLost r :=
  runs_congr (runs_any _ (show execRefLost r s = _ from rfl)) (if_neg (by rw [State.start, hs.2]; decide))

theorem runs_refGood_reset {s : State} {r : Bool} (h : s.dev.rst.sys = true) : Runs (.refGood r) s fun d => d.putB (goodFld r) true :=
  runs_congr (runs_any _ (show execRefGood r s = _ from rfl)) (if_pos h)

theorem runs_refGood {s : State} {r : Bool} (hs : s.sysRuns) : Runs (.refGood r) s fun d => d.refBack r :=
  runs_congr (runs_any _ (show execRefGood r s = _ from rfl)) (if_neg (by rw [State.start, hs.2]; decide))

theorem runs_holdoffExpiry {s : State} (hs : s.sysRuns) (h : s.dev.clkState = 3) :
    Runs .holdoffExpiry s fun d => (d.until d.holdoffEnd).clkSwitch 4 :=
  runs_congr (runs_sys _ (show execHoldoffExpiry s = _ from rfl) hs) (if_pos h)

/-- The relock onto the reference that is preferred: HOLDOVER is over, and its cause ends. -/
def Dev.relockPref (d : Dev) : Dev := ((d.setClk { d.clk with hold := false }).put F.CLK_STAT_STATE 0).causeOff 1 0 0

theorem Dev.relocked_pref {d : Dev} (h : d.clkState = 4) : d.relocked = d.relockPref := by
  simp only [Dev.relocked, h, Dev.relockPref, Dev.setClk]

theorem Dev.relockPref_corks (d : Dev) : d.relockPref.corks = d.corks := by
  rw [Dev.relockPref, Dev.causeOff_corks, Dev.put_corks, Dev.setClk_corks]

theorem Dev.relockPref_fab (d : Dev) : d.relockPref.fab = d.fab := by
  rw [Dev.relockPref, Dev.causeOff_fab, Dev.put_fab, Dev.setClk_fab]

theorem Dev.relockPref_clk (d : Dev) : d.relockPref.clk.hold = false := by
  rw [Dev.relockPref, Dev.causeOff_clk, Dev.put_clk, Dev.setClk_clk]

theorem Dev.relockPref_state (d : Dev) : d.relockPref.clkState = 0 := by
  rw [Dev.clkState, Dev.relockPref, Dev.get_congr (Dev.causeOff_reg _ _ _ _), Dev.get_put_same _ _ _ (by decide)]
  rfl

theorem Dev.setClk_memSame (d : Dev) (c : Clk) : Dev.memSame d (d.setClk c) := ⟨fun _ => rfl, fun _ => rfl, fun _ => rfl⟩
theorem Dev.setMgs_memSame (d : Dev) (m : Mgs) : Dev.memSame d (d.setMgs m) := ⟨fun _ => rfl, fun _ => rfl, fun _ => rfl⟩

theorem Dev.relockPref_memSame (d : Dev) : Dev.memSame d d.relockPref :=
  Dev.memSame_trans (Dev.memSame_trans (d.setClk_memSame _) (Dev.put_memSame _ _ _)) (Dev.causeOff_memSame _ _ _ _)

/-- PLL p locks: its cause ends, and no SYSTEM reset waits for it any more. -/
def Dev.pllLock (d : Dev) (p : Nat) : Dev :=
  ((d.put (F.CLK_PLL_STAT_LOCK p) 1).causeOff 1 2 p).setMgs { d.mgs with pllHold := false }

theorem Dev.pllLock_corks (d : Dev) (p : Nat) : (d.pllLock p).corks = d.corks := by
  rw [Dev.pllLock, Dev.setMgs_corks, Dev.causeOff_corks, Dev.put_corks]

theorem Dev.pllLock_fab (d : Dev) (p : Nat) : (d.pllLock p).fab = d.fab := by
  rw [Dev.pllLock, Dev.setMgs_fab, Dev.causeOff_fab, Dev.put_fab]

theorem Dev.pllLock_flag (d : Dev) (p : Nat) : (d.pllLock p).flag (F.CLK_PLL_STAT_LOCK p) = true := by
  have hreg : (d.pllLock p).reg = (d.put (F.CLK_PLL_STAT_LOCK p) 1).reg := by
    rw [Dev.pllLock, Dev.setMgs_reg, Dev.causeOff_reg]
  rw [Dev.flag_congr hreg, Dev.flag_put_same _ _ _ ⟨le_rfl, show 31 < 32 by decide⟩]
  rfl

theorem Dev.pllLock_cause (d : Dev) (p : Nat) : (d.pllLock p).hasCause 1 2 p = false := by
  rw [Dev.pllLock, Dev.setMgs_hasCause, Dev.causeOff_hasCause]

theorem Dev.pllLock_memSame (d : Dev) (p : Nat) : Dev.memSame d (d.pllLock p) :=
  Dev.memSame_trans (Dev.memSame_trans (Dev.put_memSame d _ _) (Dev.causeOff_memSame _ _ _ _)) (Dev.setMgs_memSame _ _)

/-- Settles O11. -/
theorem clockReferences : Obligations.clock_references := by
  unfold Obligations.clock_references
  refine ⟨fun s hs h => ?_, fun s r hs => runs_refLost hs, fun s hs h => ?_, fun s r hs => runs_refGood hs, fun s hs h => ?_,
    fun s r hs h => runs_refLost_reset h, fun s r hs h => runs_refGood_reset h, fun s hs h => runs_holdoffExpiry hs h,
    fun s req ref hs => runs_sys _ rfl hs, fun s p hs => runs_sys _ rfl hs, fun s hs => runs_sys _ rfl hs, fun s p hs h => ?_,
    fun s req hs => runs_sys _ rfl hs⟩
  · refine completes_runs_eq (s.dev.putB F.CLK_STAT_XGOOD false) (runs_refLost_reset h) hs rfl (Dev.put_corks _ _ _) (Dev.put_fab _ _ _) ?_
    exact ⟨Dev.flag_putB _ _ _ (by decide), Dev.put_onlyRegs _ _ _⟩
  · refine completes_runs_eq (s.dev.putB F.CLK_STAT_PGOOD true) (runs_refGood_reset h) hs rfl (Dev.put_corks _ _ _) (Dev.put_fab _ _ _) ?_
    exact ⟨Dev.flag_putB _ _ _ (by decide), Dev.put_onlyRegs _ _ _⟩
  · refine completes_runs_eq s.dev.relockPref (runs_sys _ rfl hs) hs.1 (Dev.relocked_pref h) (Dev.relockPref_corks _) (Dev.relockPref_fab _) ?_
    exact ⟨Dev.relockPref_state _, Dev.relockPref_clk _, Dev.causeOff_hasCause _ _ _ _, Dev.relockPref_memSame _⟩
  · refine completes_runs_eq (s.dev.pllLock p) (runs_any (fun d => d.pllLock p) rfl) hs rfl (Dev.pllLock_corks _ _) (Dev.pllLock_fab _ _) ?_
    exact ⟨Dev.pllLock_flag _ _, Dev.pllLock_cause _ _, Dev.pllLock_memSame _ _⟩

end Sys2Proof.Machine

/-! PROOFS. Sensor inputs (R76-R82, R537): a write of SNSn_FLT with EN clear ends OPEN of a Hall input. -/

namespace Sys2Proof.Machine

/-- A Hall input whose open bit is set, its EN clear. -/
def hallOpen : State := { State.reset with dev := (State.reset.dev.put (F.SNS_CFG_TYPE 0) 1).put (F.SNS_STAT_OPEN 0) 1 }

theorem hallOpen_coreRuns : hallOpen.coreRuns := by
  simp only [State.coreRuns, Dev.corksFresh]
  decide +kernel

theorem hallOpen_disabled : hallOpen.dev.flag (F.SNS_CFG_EN (0 : Fin 32)) = false := by decide +kernel

/-- The words written come into force, and a Hall input shows no OPEN (R81, R537). -/
theorem hallOpen_cleared :
    (hallOpen.dev.snsCfgWrite (0 : Fin 32) true 0).corkTick.rd (R.SNS_STAT 0) ≠ hallOpen.dev.rd (R.SNS_STAT 0) := by
  decide +kernel

/-- Refutes O12: a write of SNSn_FLT while EN is clear brings the configuration into force, and a Hall input that showed OPEN then
clears that bit of SNSn_STAT (Dev.snsTake), so another register than SNSn_FLT changes. -/
theorem not_sensorInputs : ¬ Obligations.sensor_inputs := by
  unfold Obligations.sensor_inputs
  rintro ⟨-, -, -, -, hwrite, -⟩
  obtain ⟨t, hexec, -, -, -, hrd, -⟩ := hwrite hallOpen 0 0 0 hallOpen_coreRuns hallOpen_disabled
  have hrun : Runs (.snsCfgWrite 0 0 true 0) hallOpen fun d => d.snsCfgWrite (0 : Fin 32) true 0 := runs_core _ rfl hallOpen_coreRuns
  have hnext : t = { hallOpen with dev := (hallOpen.dev.snsCfgWrite (0 : Fin 32) true 0).corkTick } :=
    Host.Outcome.next.inj (hexec.symm.trans hrun)
  subst hnext
  exact hallOpen_cleared (hrd (R.SNS_STAT 0) (by decide))

end Sys2Proof.Machine

/-! PROOFS. Counters that a command clears (R7): a relation that clearing words and fields builds up, whatever their number. -/

namespace Sys2Proof.Machine

/-! ### Registers that are cleared -/

/-- The register words in S may lose bits; no other word and nothing but registers differs. -/
structure Dev.Clears (S : Nat → Prop) (d e : Dev) : Prop where
  noRegs : e.noRegs = d.noRegs
  rd : ∀ a, ¬ S a → e.rd a = d.rd a
  bits : ∀ a i, (e.rd a).getLsbD i = true → (d.rd a).getLsbD i = true

theorem Dev.Clears.refl (S : Nat → Prop) (d : Dev) : d.Clears S d := ⟨rfl, fun _ _ => rfl, fun _ _ h => h⟩

theorem Dev.Clears.trans {S : Nat → Prop} {d e f : Dev} (h : d.Clears S e) (g : e.Clears S f) : d.Clears S f :=
  ⟨g.noRegs.trans h.noRegs, fun a ha => (g.rd a ha).trans (h.rd a ha), fun a i hb => h.bits a i (g.bits a i hb)⟩

theorem Dev.Clears.wr {S : Nat → Prop} {d e : Dev} (h : d.Clears S e) {a : Nat} (ha : S a) : d.Clears S (e.wr a 0) := by
  refine h.trans ⟨Dev.wr_noRegs e a 0, fun x hx => Dev.rd_wr_ne e 0 fun he => hx (he ▸ ha), fun x i hb => ?_⟩
  by_cases hx : x = a
  · subst hx
    rw [Dev.rd_wr_same] at hb
    simp at hb
  · rwa [Dev.rd_wr_ne e 0 hx] at hb

/-- The bits of a word after a field of it was cleared. -/
theorem getLsbD_fldPut_zero {f : Fld} (w : Word) (hf : f.lo ≤ f.hi) {i : Nat} (h : (fldPut f w 0).getLsbD i = true) :
    w.getLsbD i = true := by
  have hnat : (fldPut f w 0).toNat = (w.toNat % 2 ^ f.lo + w.toNat / 2 ^ (f.hi + 1) * 2 ^ (f.hi + 1)) % 2 ^ 32 := by
    simp [fldPut]
  have hsum : w.toNat % 2 ^ f.lo + w.toNat / 2 ^ (f.hi + 1) * 2 ^ (f.hi + 1) =
      2 ^ (f.hi + 1) * (w.toNat / 2 ^ (f.hi + 1)) + w.toNat % 2 ^ f.lo := by rw [Nat.mul_comm, Nat.add_comm]
  have hlow : w.toNat % 2 ^ f.lo < 2 ^ (f.hi + 1) :=
    lt_of_lt_of_le (Nat.mod_lt _ (Nat.two_pow_pos _)) (Nat.pow_le_pow_right (by decide) (by omega))
  rw [BitVec.getLsbD, hnat, Nat.testBit_mod_two_pow, hsum, Nat.testBit_two_pow_mul_add _ hlow] at h
  rw [BitVec.getLsbD]
  split at h
  · rw [Nat.testBit_mod_two_pow] at h
    simp only [Bool.and_eq_true] at h
    exact h.2.2
  · next hi =>
    rw [Nat.testBit_div_two_pow, show i - (f.hi + 1) + (f.hi + 1) = i by omega] at h
    simp only [Bool.and_eq_true] at h
    exact h.2

theorem Dev.Clears.put {S : Nat → Prop} {d e : Dev} (h : d.Clears S e) {f : Fld} (ha : S f.addr) (hf : f.lo ≤ f.hi) :
    d.Clears S (e.put f 0) := by
  refine h.trans ⟨Dev.put_noRegs e f 0, fun x hx => Dev.rd_put_ne e f 0 fun he => hx (he ▸ ha), fun x i hb => ?_⟩
  by_cases hx : x = f.addr
  · subst hx
    rw [Dev.put, Dev.rd_wr_same] at hb
    exact getLsbD_fldPut_zero _ hf hb
  · rwa [Dev.rd_put_ne e f 0 hx] at hb

theorem Dev.Clears.ite {S : Nat → Prop} {d x y : Dev} {c : Prop} [Decidable c] (hx : c → d.Clears S x) (hy : ¬c → d.Clears S y) :
    d.Clears S (if c then x else y) := by
  split
  · next h => exact hx h
  · next h => exact hy h

theorem Dev.Clears.forN {S : Nat → Prop} {n : Nat} {f : Dev → Nat → Dev} (hf : ∀ x i, i < n → Dev.Clears S x (f x i)) (d : Dev) :
    d.Clears S (forN n f d) := by
  induction n with
  | zero => exact .refl S d
  | succ n ih =>
    rw [forN_succ]
    exact (ih fun x i hi => hf x i (by omega)).trans (hf _ n (by omega))

/-! What is zero stays zero. -/

theorem Dev.Clears.rd_zero {S : Nat → Prop} {d e : Dev} (h : d.Clears S e) {a : Nat} (ha : d.rd a = 0) : e.rd a = 0 := by
  refine BitVec.eq_of_getLsbD_eq fun i _ => ?_
  have hz : (d.rd a).getLsbD i = false := by rw [ha]; exact BitVec.getLsbD_zero
  rw [show (0 : Word).getLsbD i = false from BitVec.getLsbD_zero]
  exact Bool.eq_false_iff.mpr fun hb => by rw [h.bits a i hb] at hz; cases hz

/-- A field is zero when none of its bits is set. -/
theorem Dev.get_eq_zero_iff (d : Dev) (f : Fld) : d.get f = 0 ↔ ∀ i, i < f.hi + 1 - f.lo → (d.rd f.addr).getLsbD (i + f.lo) = false := by
  constructor
  · intro h i hi
    have hb : Nat.testBit (d.get f) i = false := by rw [h]; exact Nat.zero_testBit i
    rw [Dev.get, fldGet, Nat.testBit_mod_two_pow, Nat.testBit_div_two_pow, decide_eq_true hi, Bool.true_and] at hb
    exact hb
  · intro h
    refine Nat.eq_of_testBit_eq fun i => ?_
    rw [Nat.zero_testBit, Dev.get, fldGet, Nat.testBit_mod_two_pow, Nat.testBit_div_two_pow]
    by_cases hi : i < f.hi + 1 - f.lo
    · rw [decide_eq_true hi, Bool.true_and]
      exact h i hi
    · rw [decide_eq_false hi, Bool.false_and]

theorem Dev.Clears.get_zero {S : Nat → Prop} {d e : Dev} (h : d.Clears S e) {f : Fld} (hf : d.get f = 0) : e.get f = 0 := by
  rw [Dev.get_eq_zero_iff] at hf ⊢
  exact fun i hi => Bool.eq_false_iff.mpr fun hb => by cases (h.bits _ _ hb).symm.trans (hf i hi)

/-- What turn i of a pass clears is clear at its end, where every turn only clears. -/
theorem forN_clears {S : Nat → Prop} {n : Nat} {f : Dev → Nat → Dev} (hf : ∀ x i, i < n → Dev.Clears S x (f x i)) {Z : Dev → Prop}
    (hz : ∀ x y, Dev.Clears S x y → Z x → Z y) {i : Nat} (hi : i < n) (hzero : ∀ x, Dev.Clears S d x → Z (f x i)) : Z (forN n f d) := by
  induction n with
  | zero => omega
  | succ n ih =>
    have hlow : ∀ x j, j < n → Dev.Clears S x (f x j) := fun x j hj => hf x j (by omega)
    rw [forN_succ]
    by_cases hin : i = n
    · subst hin
      exact hzero _ (.forN hlow d)
    · exact hz _ _ (hf _ n (by omega)) (ih hlow (by omega))

theorem Dev.Clears.corks {S : Nat → Prop} {d e : Dev} (h : d.Clears S e) : e.corks = d.corks :=
  show e.noRegs.corks = d.noRegs.corks from congrArg Dev.corks h.noRegs

theorem Dev.Clears.fab {S : Nat → Prop} {d e : Dev} (h : d.Clears S e) : e.fab = d.fab :=
  show e.noRegs.fab = d.noRegs.fab from congrArg Dev.fab h.noRegs

theorem Dev.Clears.onlyRegs {l : List Nat} {d e : Dev} (h : d.Clears (· ∈ l) e) : Dev.onlyRegs d e l := ⟨h.noRegs, h.rd⟩

/-- A command that clears words completes with what it clears. -/
theorem completes_clears {S : Nat → Prop} {c : Instr} {s : State} {f : Dev → Dev} {p : Dev → Prop} (h : Runs c s f) (hs : s.dev.corksFresh)
    (hc : s.dev.Clears S (f s.dev)) (hp : p (f s.dev)) : Completes c s p :=
  completes_runs_eq (f s.dev) h hs rfl hc.corks hc.fab hp

/-! ### Passes over a mask -/

/-- Words that turn i of a pass over a mask touches. -/
def maskWords (n mask : Nat) (T : Nat → Nat → Prop) (a : Nat) : Prop := ∃ i, i < n ∧ bitOf mask i = true ∧ T i a

theorem Dev.clrMask_clears {n mask : Nat} {f : Dev → Nat → Dev} {T : Nat → Nat → Prop} (hf : ∀ x i, Dev.Clears (T i) x (f x i)) (d : Dev) :
    d.Clears (maskWords n mask T) (d.clrMask n mask f) := by
  refine .forN (fun x i hi => .ite (fun hb => ?_) fun _ => .refl _ x) d
  exact ⟨(hf x i).noRegs, fun a ha => (hf x i).rd a fun ht => ha ⟨i, hi, hb, ht⟩, (hf x i).bits⟩

/-- What the turn of a number in the mask clears is clear after the pass. -/
theorem Dev.clrMask_zero {n mask : Nat} {f : Dev → Nat → Dev} {T : Nat → Nat → Prop} (hf : ∀ x i, Dev.Clears (T i) x (f x i)) (d : Dev)
    {Z : Dev → Prop} (hz : ∀ {S : Nat → Prop} {x y : Dev}, Dev.Clears S x y → Z x → Z y) {i : Nat} (hi : i < n) (hb : bitOf mask i = true)
    (hzero : ∀ x, Z (f x i)) : Z (d.clrMask n mask f) := by
  refine forN_clears (S := maskWords n mask T) (fun x j hj => .ite (fun hm => ?_) fun _ => .refl _ x) (fun x y h hx => hz h hx) hi
    fun x _ => ?_
  · exact ⟨(hf x j).noRegs, fun a ha => (hf x j).rd a fun ht => ha ⟨j, hj, hm, ht⟩, (hf x j).bits⟩
  · rw [if_pos hb]
    exact hzero x

end Sys2Proof.Machine

/-! PROOFS. Trackers: edges, records, stalls (R85-R125). -/

namespace Sys2Proof.Machine

/-! ### Trackers of the device -/

@[simp] theorem Dev.tk_setTk_same (d : Dev) (k : Nat) (t : Trk) : (d.setTk k t).tk k = t := smGet_smSet_same _ _ _ _

/-- Putting the trackers back undoes writes of trackers. -/
theorem Dev.setTk_rest (d e : Dev) (k : Nat) (t : Trk) (h : { e with trk := d.trk, fltNew := d.fltNew } = d) :
    { e.setTk k t with trk := d.trk, fltNew := d.fltNew } = d := h

/-! ### Edges that wait (R108, R89, R114) -/

theorem runs_trkPrimaryEdge_width {s : State} {k : Fin 16} {e : Machine.Edge} {r : List Machine.Edge} (hs : s.coreRuns)
    (hq : (s.dev.tk k).priQ = e :: r) (hsrc : s.dev.get (F.TRK_CFG_DIR_SRC k) = 1) :
    Runs (.trkPrimaryEdge k) s fun d =>
      let x := d.setTk k { d.tk k with priQ := r }
      x.setTk k { x.tk k with pwQ := (x.tk k).pwQ ++ [e] } :=
  runs_congr (runs_core _ (show execTrkPrimaryEdge k s = _ from rfl) hs) (by simp only [State.start, hq, hsrc])

theorem runs_trkPrimaryEdge_quad {s : State} {k : Fin 16} {e : Machine.Edge} {r : List Machine.Edge} (hs : s.coreRuns)
    (hq : (s.dev.tk k).priQ = e :: r) (hsrc : s.dev.get (F.TRK_CFG_DIR_SRC k) = 2) :
    Runs (.trkPrimaryEdge k) s fun d => (d.setTk k { d.tk k with priQ := r }).trkEdge k e e.quad :=
  runs_congr (runs_core _ (show execTrkPrimaryEdge k s = _ from rfl) hs) (by simp only [State.start, hq, hsrc])

theorem runs_trkPrimaryEdge_forward {s : State} {k : Fin 16} {e : Machine.Edge} {r : List Machine.Edge} (hs : s.coreRuns)
    (hq : (s.dev.tk k).priQ = e :: r) (hwidth : s.dev.get (F.TRK_CFG_DIR_SRC k) ≠ 1) (hquad : s.dev.get (F.TRK_CFG_DIR_SRC k) ≠ 2) :
    Runs (.trkPrimaryEdge k) s fun d => (d.setTk k { d.tk k with priQ := r }).trkEdge k e false :=
  runs_congr (runs_core _ (show execTrkPrimaryEdge k s = _ from rfl) hs) (by simp only [State.start, hq])

theorem runs_pwidthDirection {s : State} {k : Fin 16} {width : Nat} {e : Machine.Edge} {r : List Machine.Edge} (hs : s.coreRuns)
    (hq : (s.dev.tk k).pwQ = e :: r) :
    Runs (.pwidthDirection k width) s fun d =>
      ((d.setTk k { d.tk k with pwQ := r }).advance (e.stamp + min width (d.get (F.TRK_DIR_DIRW k)))).trkEdge k e (decide (d.get (F.TRK_DIR_DIRW k) ≤ width)) :=
  runs_congr (runs_core _ (show execPwidthDirection k width s = _ from rfl) hs) (by simp only [State.start, hq])

theorem runs_synthToothDeadline {s : State} {k : Fin 16} {n : Nat} (hs : s.coreRuns) (hlo : 3 ≤ s.dev.tstate k) (hhi : s.dev.tstate k ≤ 5)
    (hkind : s.dev.flag (F.TRK_CFG_KIND k) = false) (hskip : (s.dev.tk k).skip = false) (hfirst : (s.dev.tk k).qsFirst = false)
    (hfast : s.dev.synFast k = true) (hn : whSpan (s.dev.tk k).wheel ((s.dev.geo k).pos (s.dev.tk k).bnd) (s.dev.tk k).rev = n)
    (hwait : ((s.dev.tk k).pwQ ++ (s.dev.tk k).priQ).any (fun e =>
      decide (e.stamp ≤ (s.dev.tk k).lastT + (s.dev.get (F.TRK_TOL_TOL_HI k) * (n * (s.dev.tk k).pn) + 31) / 32)) = false) :
    Runs (.synthToothDeadline k) s fun d =>
      ((d.advance ((d.tk k).lastT + (d.get (F.TRK_TOL_TOL_HI k) * (n * (d.tk k).pn) + 31) / 32)).trkSynth k ((d.tk k).lastT + n * (d.tk k).pn) n).1 :=
  runs_congr (runs_core _ (show execSynthToothDeadline k s = _ from rfl) hs) (by
    subst hn
    simp only [State.start, hlo, hhi, hkind, hskip, hfirst, hfast, decide_true, Bool.not_false, Bool.and_self, if_true]
    exact if_neg (ne_true_of_eq_false hwait))

theorem runs_phaseEdge {s : State} {k : Fin 16} {e : Machine.Edge} {r : List Machine.Edge} (hs : s.coreRuns) (hq : (s.dev.tk k).phQ = e :: r) :
    Runs (.phaseEdge k) s fun d => (d.setTk k { d.tk k with phQ := r }).phEdge k e :=
  runs_congr (runs_core _ (show execPhaseEdge k s = _ from rfl) hs) (by simp only [State.start, hq])

theorem runs_phaseWindowMiss {s : State} {k : Fin 16} {a : Int} (hs : s.coreRuns) (hnext : (s.dev.tk k).phNext = some a)
    (hst : 5 ≤ s.dev.tstate k) :
    Runs (.phaseWindowMiss k) s fun d =>
      (d.advance (fdiv (d.reach k (if (d.tk k).rev then a - d.phTol k else a + d.phTol k)) 8 + 1).toNat).phWindow k :=
  runs_congr (runs_core _ (show execPhaseWindowMiss k s = _ from rfl) hs) (by
    simp only [State.start, hnext]
    exact if_neg (by omega))

/-- The code of a record's kind, in a tooth that goes to the partner. -/
def recKindCode : RecKind → Nat
  | .real => 0
  | .synth => 1
  | .phase => 2

/-- A tooth record of a tracker that does not follow the partner is taken, its first one with the shares due. -/
theorem runs_toothRecord {s : State} {k : Fin 16} {r : ToothRec} {q : List ToothRec} {x y : Dev} (hs : s.coreRuns)
    (hq : (s.dev.tk k).recs = r :: q) (hx : s.dev.setTk k { s.dev.tk k with recs := q } = x)
    (hy : x.mirTooth k (recKindCode r.kind) r.rev r.dchg r.span ((x.geo k).pos r.bnd) r.lin r.stamp = y) (hfollow : y.follows k = false) :
    Runs (.toothRecord k) s fun _ => (y.ownFirst k r).1.record k (y.ownFirst k r).2 := by
  refine runs_congr (runs_core _ (show execToothRecord k s = _ from rfl) hs) ?_
  subst hx hy
  simp only [State.start, hq]
  cases hk : r.kind <;>
    · rw [hk] at hfollow
      exact (if_neg (ne_true_of_eq_false hfollow)).trans rfl

/-- Settles O22: every edge, deadline and record that waits is the first of its queue, and the model's branch is the clause's. -/
theorem trackerEdges : Obligations.tracker_edges := by
  unfold Obligations.tracker_edges
  refine ⟨fun s k e r hs hq hsrc => ?_, fun s k e r hs => runs_trkPrimaryEdge_quad hs, fun s k e r hs => runs_trkPrimaryEdge_forward hs,
    fun s k e r width hs => runs_pwidthDirection hs, fun s k n hs => runs_synthToothDeadline hs, fun s k e r hs => runs_phaseEdge hs,
    fun s k a hs => runs_phaseWindowMiss hs, fun s k r q x y hs hq hx hy => runs_toothRecord hs hq hx ?_⟩
  · refine completes_runs_eq _ (runs_trkPrimaryEdge_width hs hq hsrc) hs.1 rfl rfl rfl ⟨?_, ?_, ?_⟩
    · simp only [Dev.tk_setTk_same, State.start]
    · simp only [Dev.tk_setTk_same, State.start]
    · exact Dev.setTk_rest _ _ _ _ (Dev.setTk_rest _ _ _ _ rfl)
  · rw [← hy]
    cases r.kind <;> rfl

/-! ### Enabling and stopping (R85, R97, R103) -/

/-- Tracker 0 has a stop record that waits, SLOW runs, and VBAT reset is asserted. -/
def stopInReset : State :=
  { State.reset with
    dev := (Dev.setTk { State.reset.dev with rst := { State.reset.dev.rst with vbat := true, core := false } } 0
      { trk0 with stop := some (1, 1) }).cput F.CEL_STAT_SLOWOK 1 }

theorem stopInReset_coreRuns : stopInReset.coreRuns := by
  simp only [State.coreRuns, Dev.corksFresh]
  decide +kernel

theorem stopInReset_waits : (stopInReset.dev.tk (0 : Fin 16)).stop = some (1, 1) := by decide +kernel

theorem stopInReset_slowok : stopInReset.dev.cflag F.CEL_STAT_SLOWOK = true := by decide +kernel

/-- While VBAT reset is asserted the record is not written (R482). -/
theorem stopInReset_keeps : exec (.stopRecordWrite 0) stopInReset = .next { stopInReset with dev := stopInReset.dev.corkTick } := rfl

/-- Refutes O23: the stop record is written into the Cellar, which VBAT reset holds (R482). The clause asks only that CORE reset is
released; in a state with VBAT reset asserted the record goes on waiting. -/
theorem not_trackerControl : ¬ Obligations.tracker_control := by
  unfold Obligations.tracker_control
  rintro ⟨-, -, -, -, hwrite, -⟩
  obtain ⟨t, hexec, -, -, -, hstop, -⟩ := hwrite stopInReset 0 (1, 1) stopInReset_coreRuns stopInReset_waits stopInReset_slowok
  have hnext : t = { stopInReset with dev := stopInReset.dev.corkTick } := Host.Outcome.next.inj (hexec.symm.trans stopInReset_keeps)
  subst hnext
  rw [Dev.corkTick_fresh _ stopInReset_coreRuns.1, stopInReset_waits] at hstop
  cases hstop

theorem runs_trkStall {s : State} {k : Fin 16} {st : Nat} (hs : s.coreRuns) (hst : s.dev.tstate k = st) (h2 : 2 ≤ st) :
    Runs (.trkStall k) s fun d =>
      let x := d.advance ((d.tk k).act + 200000 * max 1 (d.get (F.TRK_TIME_TMAX k)))
      let raw : Geo := { x.geo k with decim := 1 }
      (x.upTk k (fun t => { t.noEdges.noGap with stop := some (x.stopRecord k st), phQ := [], encRun := t.encRun && (st == 5 || st == 7) && raw.enc, encC := if st = 7 then some (raw.lastBnd t.lin t.rev) else t.encC })).trkDown k 1 :=
  runs_congr (runs_core _ (show execTrkStall k s = _ from rfl) hs) (by
    subst hst
    exact if_neg (by simpa only [State.start] using (by omega)))

theorem runs_stopRecordWrite {s : State} {k : Fin 16} {w : Word × Word} (hs : s.celRuns) (hstop : (s.dev.tk k).stop = some w)
    (hslow : s.dev.cflag F.CEL_STAT_SLOWOK = true) :
    Runs (.stopRecordWrite k) s fun d => ((d.cwr (0x100 + 2 * k.val) w.1).cwr (0x101 + 2 * k.val) w.2).setTk k { d.tk k with stop := none } :=
  runs_congr (runs_cel _ (show execStopRecordWrite k s = _ from rfl) hs) (by simp only [State.start, hstop, hslow, if_true])

end Sys2Proof.Machine

/-! PROOFS. Prediction: tables, queries, spares (R125, R149-R159). -/

namespace Sys2Proof.Machine

/-! ### Tables (R149) -/

theorem runs_prdTableWrite {s : State} {req : Fin 10} {k : Fin 16} {te : Bool} {idx data : Nat} (hs : s.coreRuns) :
    Runs (.prdTableWrite req k te idx data) s fun d => d.tableWrite k te (idx % (if te then 512 else 1024)) data :=
  runs_core _ rfl hs

theorem Dev.tableWrite_learning {d : Dev} {k : Nat} {te : Bool} (idx data : Nat)
    (h : d.flag (if te then F.PRD_LRN_TE_LRN k else F.PRD_LRN_RIP_LRN k) = true) :
    d.tableWrite k te idx data = d.incSat (F.PRD_CNT0_TEWR k) := if_pos h

theorem Dev.tableWrite_ripple {d : Dev} {k : Nat} (idx data : Nat) (h : d.flag (F.PRD_LRN_RIP_LRN k) = false) :
    d.tableWrite k false idx data = d.wr (R.PRD_RM k idx) (BitVec.ofNat 32 data) :=
  (if_neg (ne_true_of_eq_false h)).trans (if_neg Bool.false_ne_true)

theorem Dev.tableWrite_tooth {d : Dev} {k idx : Nat} (data : Nat) (h : d.flag (F.PRD_LRN_TE_LRN k) = false) (h0 : idx ≠ 0) :
    d.tableWrite k true idx data = d.put (F.PRD_TE_TE k idx) data :=
  (if_neg (ne_true_of_eq_false h)).trans ((if_pos rfl).trans (if_neg h0))

theorem Dev.wr_onlyRegs (d : Dev) (a : Nat) (w : Word) : Dev.onlyRegs d (d.wr a w) [a] :=
  ⟨Dev.wr_noRegs d a w, fun _ ha => Dev.rd_wr_ne d w (List.ne_of_not_mem_cons ha)⟩

theorem completes_rippleWrite {s : State} {req : Fin 10} {k : Fin 16} {idx data : Nat} (hs : s.coreRuns)
    (h : s.dev.flag (F.PRD_LRN_RIP_LRN k) = false) :
    Completes (.prdTableWrite req k false idx data) s fun e =>
      e.rd (R.PRD_RM k (idx % 1024)) = BitVec.ofNat 32 data ∧ Dev.onlyRegs s.dev e [R.PRD_RM k (idx % 1024)] :=
  completes_runs_eq _ (runs_prdTableWrite hs) hs.1 (Dev.tableWrite_ripple _ data h) (Dev.wr_corks _ _ _) (Dev.wr_fab _ _ _)
    ⟨Dev.rd_wr_same _ _ _, Dev.wr_onlyRegs _ _ _⟩

/-- Settles O15: by the cases of Dev.tableWrite. -/
theorem predictionTableWrites : Obligations.prediction_table_writes := by
  unfold Obligations.prediction_table_writes
  refine ⟨fun s req k te idx data hs h => ?_, fun s req k idx data hs h => completes_rippleWrite hs h, fun s req k idx data hs h h0 => ?_⟩
  · exact completes_runs_eq _ (runs_prdTableWrite hs) hs.1 (Dev.tableWrite_learning _ data h) (Dev.incSat_corks _ _) (Dev.incSat_fab _ _)
      ⟨Dev.get_incSat_same s.dev (F.PRD_CNT0_TEWR k) (by simp), Dev.incSat_onlyRegs _ _⟩
  · exact completes_runs_eq _ (runs_prdTableWrite hs) hs.1 (Dev.tableWrite_tooth data h h0) (Dev.put_corks _ _ _) (Dev.put_fab _ _ _)
      ⟨Dev.get_put_same s.dev (F.PRD_TE_TE k (idx % 512)) data ⟨show 0 ≤ 15 by decide, show 15 < 32 by decide⟩, Dev.put_onlyRegs _ _ _⟩

/-! ### The logical map (R125) -/

theorem runs_prdLmapWrite {s : State} {req : Fin 10} {l : Fin 32} {data : Nat} (hs : s.coreRuns) :
    Runs (.prdLmapWrite req l data) s fun d => d.lmapWrite l data := runs_core _ rfl hs

theorem runs_prdLmapWrite_taken {s : State} {req : Fin 10} {l : Fin 32} {data : Nat} (hs : s.coreRuns)
    (h0 : s.dev.flag (F.TRK_STAT_ARM_OK (s.dev.get (F.PRD_LMAP_TRK l))) = false) (h1 : s.dev.flag (F.TRK_STAT_ARM_OK (data % 16)) = false) :
    Runs (.prdLmapWrite req l data) s fun d =>
      ((d.wr (R.PRD_LMAP l) (BitVec.ofNat 32 data &&& 0x8000000F#32)).allocCheck (d.get (F.PRD_LMAP_TRK l))).allocCheck (data % 16) :=
  runs_congr (runs_prdLmapWrite hs) (if_neg (by rw [State.start, h0, h1]; decide))

theorem runs_prdLmapWrite_busy {s : State} {req : Fin 10} {l : Fin 32} {data : Nat} (hs : s.coreRuns)
    (h : (s.dev.flag (F.TRK_STAT_ARM_OK (s.dev.get (F.PRD_LMAP_TRK l))) || s.dev.flag (F.TRK_STAT_ARM_OK (data % 16))) = true) :
    Runs (.prdLmapWrite req l data) s fun d => d.incSat F.PRD_ALLOC_STAT_BUSYWR :=
  runs_congr (runs_prdLmapWrite hs) (if_pos h)

/-! ### Queries (R153-R155) -/

/-- What a query may change: its slots and registers. -/
def Dev.queried (d e : Dev) : Prop := { e with qry := d.qry, reg := d.reg, fltNew := d.fltNew } = d

theorem Dev.queried_refl (d : Dev) : d.queried d := rfl
theorem Dev.queried.wr {d e : Dev} (h : d.queried e) (a : Nat) (w : Word) : d.queried (e.wr a w) := h
theorem Dev.queried.put {d e : Dev} (h : d.queried e) (f : Fld) (v : Nat) : d.queried (e.put f v) := h
theorem Dev.queried.putB {d e : Dev} (h : d.queried e) (f : Fld) (b : Bool) : d.queried (e.putB f b) := h
theorem Dev.queried.put64 {d e : Dev} (h : d.queried e) (lo hi v : Nat) : d.queried (e.put64 lo hi v) := h
theorem Dev.queried.setQry {d e : Dev} (h : d.queried e) (q : SMap Qry) : d.queried { e with qry := q } := h

theorem Dev.queried.corks {d e : Dev} (h : d.queried e) : e.corks = d.corks := by
  have := congrArg Dev.corks h
  exact this

theorem Dev.queried.fab {d e : Dev} (h : d.queried e) : e.fab = d.fab := by
  have := congrArg Dev.fab h
  exact this

/-- A query of a slot that has none begins. -/
def Dev.qryBegun (d : Dev) (q data : Nat) : Dev :=
  let x := d.wr (R.PRD_QRY_CMD q) (BitVec.ofNat 32 data &&& 0x0FFFFFFF#32)
  let k := x.get (F.PRD_QRY_CMD_TRK q)
  let r := x.queryRes k (x.get (F.PRD_QRY_CMD_ANG q))
  ({ x with qry := smIns x.qry q ⟨k, r, r == .nopred, (x.pr k).nrec⟩ } : Dev).put (F.PRD_QRY_RES_ST_READY q) 0

theorem Dev.qryCmdWrite_start {d : Dev} {q data : Nat} (hq : d.qry? q = none) (hb : bitOf data 31 = true) :
    d.qryCmdWrite q data = d.qryBegun q data := by
  have hnone : (d.wr (R.PRD_QRY_CMD q) (BitVec.ofNat 32 data &&& 0x0FFFFFFF#32)).qry? q = none := hq
  unfold Dev.qryCmdWrite Dev.qryStart
  simp only [hb, if_true, hnone, Option.isSome_none, Bool.false_eq_true, if_false]
  rfl

theorem Dev.qryBegun_isSome (d : Dev) (q data : Nat) : ((d.qryBegun q data).qry? q).isSome = true := by
  unfold Dev.qryBegun Dev.qry?
  simp only [Dev.put_qry, find?_smIns_same, Option.map_some, Option.isSome_some]

theorem Dev.qryBegun_queried (d : Dev) (q data : Nat) : d.queried (d.qryBegun q data) :=
  (((Dev.queried_refl d).wr _ _).setQry _).put _ _

theorem Dev.qryBegun_ready (d : Dev) (q data : Nat) : (d.qryBegun q data).flag (F.PRD_QRY_RES_ST_READY q) = false := by
  unfold Dev.qryBegun
  rw [Dev.flag_put_same _ _ _ (by simp)]
  simp

/-- The command word keeps what was written, in its 28 bits. -/
theorem Dev.qryBegun_rdCmd (d : Dev) (q data : Nat) :
    (d.qryBegun q data).rd (R.PRD_QRY_CMD q) = BitVec.ofNat 32 data &&& 0x0FFFFFFF#32 := by
  unfold Dev.qryBegun
  rw [Dev.rd_put_ne _ _ _ (show R.PRD_QRY_CMD q ≠ (F.PRD_QRY_RES_ST_READY q).addr from by show 0x80200 + 16 * q ≠ 0x8020c + 16 * q; omega)]
  exact Dev.rd_wr_same _ _ _

/-- The command word holds tracker and angle, and no START. -/
theorem fldGet_qryCmd (k : Fin 16) (ang : Nat) :
    fldGet ⟨0, 27, 24⟩ (BitVec.ofNat 32 (2 ^ 31 + k * 2 ^ 24 + ang % 2 ^ 24) &&& 0x0FFFFFFF#32) = k ∧
      fldGet ⟨0, 23, 0⟩ (BitVec.ofNat 32 (2 ^ 31 + k * 2 ^ 24 + ang % 2 ^ 24) &&& 0x0FFFFFFF#32) = ang % 2 ^ 24 := by
  have hmask : (BitVec.ofNat 32 (2 ^ 31 + k * 2 ^ 24 + ang % 2 ^ 24) &&& 0x0FFFFFFF#32).toNat = k * 2 ^ 24 + ang % 2 ^ 24 := by
    have hlt : ang % 2 ^ 24 < 2 ^ 24 := Nat.mod_lt _ (Nat.two_pow_pos _)
    rw [BitVec.toNat_and, BitVec.toNat_ofNat, show (0x0FFFFFFF#32).toNat = 2 ^ 28 - 1 from rfl, Nat.and_two_pow_sub_one_eq_mod]
    omega
  constructor
  · rw [fldGet, hmask]
    show (k * 2 ^ 24 + ang % 2 ^ 24) / 2 ^ 24 % 2 ^ 4 = k
    omega
  · rw [fldGet, hmask]
    show (k * 2 ^ 24 + ang % 2 ^ 24) / 2 ^ 0 % 2 ^ 24 = ang % 2 ^ 24
    omega

/-- A query started on a slot that has none. -/
theorem completes_prdQueryStart {s : State} {req : Fin 10} {q : Fin 8} {k : Fin 16} {ang : Nat} (hs : s.coreRuns) (hq : s.dev.qry? q = none) :
    Completes (.prdQueryStart req q k ang) s fun e =>
      (e.qry? q).isSome = true ∧ e.flag (F.PRD_QRY_RES_ST_READY q) = false ∧ e.get (F.PRD_QRY_CMD_TRK q) = k ∧ e.get (F.PRD_QRY_CMD_ANG q) = ang % 2 ^ 24
        ∧ { e with qry := s.dev.qry, reg := s.dev.reg, fltNew := s.dev.fltNew } = s.dev := by
  have hstart : bitOf (2 ^ 31 + k * 2 ^ 24 + ang % 2 ^ 24) 31 = true := by
    rw [bitOf]
    simp only [beq_iff_eq]
    omega
  obtain ⟨htrk, hang⟩ := fldGet_qryCmd k ang
  refine completes_runs_eq _ (runs_core (fun d => d.qryCmdWrite q (2 ^ 31 + k * 2 ^ 24 + ang % 2 ^ 24)) rfl hs) hs.1
    (Dev.qryCmdWrite_start hq hstart) (Dev.qryBegun_queried _ _ _).corks (Dev.qryBegun_queried _ _ _).fab
    ⟨Dev.qryBegun_isSome _ _ _, Dev.qryBegun_ready _ _ _, ?_, ?_, Dev.qryBegun_queried _ _ _⟩
  · rw [Dev.get, Dev.qryBegun_rdCmd]
    exact htrk
  · rw [Dev.get, Dev.qryBegun_rdCmd]
    exact hang

/-- A query whose answer is a time completes. -/
def Dev.qryTimed (d : Dev) (q : Nat) (x : Qry) (t : Int) : Dev :=
  let d1 : Dev := { d with qry := smDel d.qry q }
  let st := (((((d1.put (F.PRD_QRY_RES_ST_READY q) 1).put (F.PRD_QRY_RES_ST_SEEN q) 0).putB (F.PRD_QRY_RES_ST_STALE q) ((d1.pr x.trk).nrec != x.nrec)).putB
    (F.PRD_QRY_RES_ST_NOPRED q) x.bad))
  ((st.put64 (R.PRD_QRY_RES_LO q) (R.PRD_QRY_RES_HI q) (ofS 64 (fdiv t 8))).put (F.PRD_QRY_RES_ST_FRAC q) (Int.fmod t 8).toNat).putB
    (F.PRD_QRY_RES_ST_PAST q) (decide (t < 8 * (d.now : Int)))

theorem Dev.qryDone_time {d : Dev} {q : Nat} {x : Qry} {t : Int} (hq : d.qry? q = some x) (ht : x.res = .time t) :
    d.qryDone q = d.qryTimed q x t := by
  unfold Dev.qryDone
  simp only [hq, ht]
  rfl

theorem Dev.qryTimed_queried (d : Dev) (q : Nat) (x : Qry) (t : Int) : d.queried (d.qryTimed q x t) :=
  ((((((((Dev.queried_refl d).setQry _).put _ _).put _ _).putB _ _).putB _ _).put64 _ _ _).put _ _).putB _ _

/-- Words of a slot lie apart. -/
theorem qryWords_ne (q : Nat) : R.PRD_QRY_RES_LO q ≠ R.PRD_QRY_RES_HI q ∧ R.PRD_QRY_RES_LO q ≠ R.PRD_QRY_RES_ST q ∧
    R.PRD_QRY_RES_HI q ≠ R.PRD_QRY_RES_ST q := by
  refine ⟨?_, ?_, ?_⟩ <;> simp

theorem Dev.rd_put64_ne (d : Dev) {lo hi a : Nat} (v : Nat) (hlo : a ≠ lo) (hhi : a ≠ hi) : (d.put64 lo hi v).rd a = d.rd a := by
  rw [Dev.put64, Dev.rd_wr_ne _ _ hhi, Dev.rd_wr_ne _ _ hlo]

theorem Dev.get64_put64 (d : Dev) {lo hi : Nat} (v : Nat) (h : lo ≠ hi) (hv : v < 2 ^ 64) : (d.put64 lo hi v).get64 lo hi = v := by
  rw [Dev.get64, Dev.put64, Dev.rd_wr_same, Dev.rd_wr_ne _ _ h, Dev.rd_wr_same, BitVec.toNat_ofNat, BitVec.toNat_ofNat]
  omega

theorem ofS_lt (w : Nat) (i : Int) : ofS w i < 2 ^ w := by
  have h := Int.emod_lt_of_pos i (show (0 : Int) < (2 ^ w : Nat) by positivity)
  have h0 := Int.emod_nonneg i (show ((2 ^ w : Nat) : Int) ≠ 0 by positivity)
  rw [ofS]
  omega

theorem Dev.qryTimed_ready (d : Dev) (q : Nat) (x : Qry) (t : Int) : (d.qryTimed q x t).flag (F.PRD_QRY_RES_ST_READY q) = true := by
  obtain ⟨hlh, hls, hhs⟩ := qryWords_ne q
  unfold Dev.qryTimed Dev.putB
  rw [Dev.flag_put_apart _ _ _ _ (by simp) (by simp) (by simp), Dev.flag_put_apart _ _ _ _ (by simp) (by simp) (by simp), Dev.flag, Dev.get,
    Dev.rd_put64_ne _ _ hls.symm hhs.symm, ← Dev.get, ← Dev.flag, Dev.flag_put_apart _ _ _ _ (by simp) (by simp) (by simp),
    Dev.flag_put_apart _ _ _ _ (by simp) (by simp) (by simp), Dev.flag_put_apart _ _ _ _ (by simp) (by simp) (by simp),
    Dev.flag_put_same _ _ _ (by simp)]
  simp

theorem Dev.qryTimed_time (d : Dev) (q : Nat) (x : Qry) (t : Int) :
    (d.qryTimed q x t).get64 (R.PRD_QRY_RES_LO q) (R.PRD_QRY_RES_HI q) = ofS 64 (fdiv t 8) := by
  obtain ⟨hlh, hls, hhs⟩ := qryWords_ne q
  unfold Dev.qryTimed Dev.putB
  rw [Dev.get64, Dev.rd_put_ne _ _ _ hls, Dev.rd_put_ne _ _ _ hls, Dev.rd_put_ne _ _ _ hhs, Dev.rd_put_ne _ _ _ hhs, ← Dev.get64]
  exact Dev.get64_put64 _ _ hlh (ofS_lt 64 _)

theorem Dev.qryTimed_frac (d : Dev) (q : Nat) (x : Qry) (t : Int) :
    (d.qryTimed q x t).get (F.PRD_QRY_RES_ST_FRAC q) = (Int.fmod t 8).toNat % 8 := by
  unfold Dev.qryTimed Dev.putB
  rw [Dev.get_put_apart _ _ _ _ (by simp) (by simp) (by simp)]
  exact Dev.get_put_same _ _ _ (by simp)

theorem completes_prdQueryDone {s : State} {q : Fin 8} {x : Qry} {t : Int} (hs : s.coreRuns) (hq : s.dev.qry? q = some x) (ht : x.res = .time t) :
    Completes (.prdQueryDone q) s fun e =>
      e.flag (F.PRD_QRY_RES_ST_READY q) = true ∧ e.get64 (R.PRD_QRY_RES_LO q) (R.PRD_QRY_RES_HI q) = ofS 64 (fdiv t 8)
        ∧ e.get (F.PRD_QRY_RES_ST_FRAC q) = (Int.fmod t 8).toNat % 8
        ∧ { e with qry := s.dev.qry, reg := s.dev.reg, fltNew := s.dev.fltNew } = s.dev :=
  completes_runs_eq _ (runs_core (fun d => d.qryDone q) rfl hs) hs.1 (Dev.qryDone_time hq ht) (Dev.qryTimed_queried _ _ _ _).corks
    (Dev.qryTimed_queried _ _ _ _).fab
    ⟨Dev.qryTimed_ready _ _ _ _, Dev.qryTimed_time _ _ _ _, Dev.qryTimed_frac _ _ _ _, Dev.qryTimed_queried _ _ _ _⟩

/-! ### Companion words latched for a requester (R8) -/

theorem preqKey_ne {req a b : Nat} (h : a ≠ b) : preqKey req a ≠ preqKey req b := by
  unfold preqKey
  omega

theorem Dev.own_setOwn_ne (d : Dev) (req : Nat) {a b : Nat} (w : Word) (h : b ≠ a) : (d.setOwn req a w).own req b = d.own req b :=
  smGet_smSet_ne _ _ _ _ (preqKey_ne h)

theorem Dev.put_own (d : Dev) (f : Fld) (v req a : Nat) : (d.put f v).own req a = d.own req a := rfl

theorem Dev.ret_own (d : Dev) (req data r a : Nat) : (d.ret req data).own r a = d.own r a := rfl

theorem Dev.ret_busData (d : Dev) (req data : Nat) : (d.ret req data).bus = ⟨req, data % 2 ^ 32⟩ := rfl

/-- Two companion words latched. -/
theorem Dev.latch_two (d : Dev) (req : Nat) {a b : Nat} (h : a ≠ b) :
    (d.latch req [a, b]).own req a = d.rd a ∧ (d.latch req [a, b]).own req b = d.rd b :=
  ⟨(Dev.own_setOwn_ne _ _ _ h).trans (Dev.own_setOwn_same _ _ _ _), Dev.own_setOwn_same _ _ _ _⟩

theorem Dev.latch_corks (d : Dev) (req : Nat) (l : List Nat) : (d.latch req l).corks = d.corks :=
  List.foldlRecOn (motive := fun (x : Dev) => x.corks = d.corks) l _ rfl fun _ hx _ _ => hx

theorem Dev.latch_fab (d : Dev) (req : Nat) (l : List Nat) : (d.latch req l).fab = d.fab :=
  List.foldlRecOn (motive := fun (x : Dev) => x.fab = d.fab) l _ rfl fun _ hx _ _ => hx

theorem Dev.qryRead_result (d : Dev) (req q : Nat) :
    (d.qryRead req q).bus = ⟨req, (d.rd (R.PRD_QRY_RES_LO q)).toNat⟩ ∧ (d.qryRead req q).own req (R.PRD_QRY_RES_HI q) = d.rd (R.PRD_QRY_RES_HI q)
      ∧ (d.qryRead req q).own req (R.PRD_QRY_RES_ST q) = d.rd (R.PRD_QRY_RES_ST q) ∧ (d.qryRead req q).flag (F.PRD_QRY_RES_ST_SEEN q) = true := by
  obtain ⟨hhi, hst⟩ := d.latch_two req (qryWords_ne q).2.2
  unfold Dev.qryRead Dev.latchRead
  refine ⟨?_, ?_, ?_, ?_⟩
  · rw [Dev.put_bus, Dev.ret_busData, Nat.mod_eq_of_lt (BitVec.isLt _)]
  · rw [Dev.put_own, Dev.ret_own]
    exact hhi
  · rw [Dev.put_own, Dev.ret_own]
    exact hst
  · rw [Dev.flag_put_same _ _ _ (by simp)]
    simp

/-! ### Spares of the prediction engines (R157, R159) -/

theorem runs_peSpareSwap {s : State} {l : Fin 32} {spare : Fin 36} {agree : Bool} (hs : s.coreRuns) :
    Runs (.peSpareSwap l spare agree) s fun d => d.peVerdict l spare agree := runs_core _ rfl hs

theorem Dev.peVerdict_begins {d : Dev} {l m : Nat} (agree : Bool) (hm : d.flag (F.PE_STAT_SPARE m) = true) (hl : d.shadowed l = false)
    (hno : d.sch.shadows.any (fun x => x.log == l && x.spare == m && x.use == .swap) = false) :
    d.peVerdict l m agree = d.shadowStart l m .swap (!agree) :=
  (if_neg (ne_true_of_eq_false hno)).trans (if_pos (by rw [hm, hl]; rfl))

theorem runs_peBackgroundCheck {s : State} {agree : Bool} (hs : s.coreRuns) :
    Runs (.peBackgroundCheck agree) s fun d => (if d.mgs.suspect.isNone && d.flag F.PRD_CHK_EN then d.until d.checkAt else d).peCheck agree :=
  runs_core _ rfl hs

/-- The check whose time has come begins on the next engine, with the free spare m. -/
theorem Dev.peCheck_begins {d : Dev} {m : Nat} (agree : Bool) (hsh : d.sch.shadows.any (fun y => y.use != .swap) = false)
    (hsus : d.mgs.suspect = none) (hfree : d.freePe none = some m) (hen : d.flag F.PRD_CHK_EN = true) (hchk : d.shadowed d.sch.chk = false) :
    d.peCheck agree = ({ d with sch := { d.sch with chkAt := d.fab } } : Dev).shadowStart d.sch.chk m .check (!agree) := by
  unfold Dev.peCheck
  rw [if_neg (ne_true_of_eq_false hsh)]
  simp only [hsus, hfree, hen, hchk, Bool.not_false, Bool.and_self, if_true]

/-! ### Counters (R7) -/

/-- Words of the prediction counters. -/
def prdCounter (a : Nat) : Prop := (∃ k, k < 16 ∧ (a = R.PRD_CNT0 k ∨ a = R.PRD_RESMAX k)) ∨ ∃ m, m < 36 ∧ (a = R.PE_CNT m ∨ a = (F.PE_LOAD_PEAK m).addr)

/-- The engines' counters and peaks, where bit 16 is set. -/
def Dev.peCntClr (d : Dev) (data : Nat) : Dev :=
  if bitOf data 16 then forN 36 (fun x m => (x.wr (R.PE_CNT m) 0).put (F.PE_LOAD_PEAK m) 0) d else d

theorem Dev.peCnt_clears (x : Dev) (m : Nat) :
    x.Clears (fun a => a = R.PE_CNT m ∨ a = (F.PE_LOAD_PEAK m).addr) ((x.wr (R.PE_CNT m) 0).put (F.PE_LOAD_PEAK m) 0) :=
  ((Dev.Clears.refl _ x).wr (.inl rfl)).put (.inr rfl) (by simp)

theorem Dev.prdCnt_clears (x : Dev) (k : Nat) :
    x.Clears (fun a => a = R.PRD_CNT0 k ∨ a = R.PRD_RESMAX k) ((x.wr (R.PRD_CNT0 k) 0).wr (R.PRD_RESMAX k) 0) :=
  ((Dev.Clears.refl _ x).wr (.inl rfl)).wr (.inr rfl)

theorem Dev.Clears.weaken {S T : Nat → Prop} {d e : Dev} (h : d.Clears S e) (hST : ∀ a, S a → T a) : d.Clears T e :=
  ⟨h.noRegs, fun a ha => h.rd a fun hs => ha (hST a hs), h.bits⟩

theorem Dev.peCntClr_clears (d : Dev) (data : Nat) : d.Clears prdCounter (d.peCntClr data) :=
  .ite (fun _ => .forN (fun x m hm => (Dev.peCnt_clears x m).weaken fun _ ha => .inr ⟨m, hm, ha⟩) d) fun _ => .refl _ d

theorem Dev.prdCntClr_clears (d : Dev) (data : Nat) : d.Clears prdCounter (d.prdCntClr data) :=
  (d.peCntClr_clears data).trans ((Dev.clrMask_clears Dev.prdCnt_clears _).weaken fun _ ⟨k, hk, _, ha⟩ => .inl ⟨k, hk, ha⟩)

theorem Dev.prdCntClr_tracker (d : Dev) {data k : Nat} (hk : k < 16) (hb : bitOf data k = true) :
    (d.prdCntClr data).rd (R.PRD_CNT0 k) = 0 ∧ (d.prdCntClr data).rd (R.PRD_RESMAX k) = 0 :=
  Dev.clrMask_zero (Z := fun e => e.rd (R.PRD_CNT0 k) = 0 ∧ e.rd (R.PRD_RESMAX k) = 0) Dev.prdCnt_clears _
    (fun h hz => ⟨h.rd_zero hz.1, h.rd_zero hz.2⟩) hk hb fun x =>
      ⟨(Dev.rd_wr_ne _ _ (by simp)).trans (Dev.rd_wr_same _ _ _), Dev.rd_wr_same _ _ _⟩

theorem Dev.prdCntClr_engine (d : Dev) {data m : Nat} (hb : bitOf data 16 = true) (hm : m < 36) :
    (d.prdCntClr data).rd (R.PE_CNT m) = 0 ∧ (d.prdCntClr data).get (F.PE_LOAD_PEAK m) = 0 := by
  have hlate := Dev.clrMask_clears (n := 16) (mask := data) Dev.prdCnt_clears (d.peCntClr data)
  have hzero : (d.peCntClr data).rd (R.PE_CNT m) = 0 ∧ (d.peCntClr data).get (F.PE_LOAD_PEAK m) = 0 := by
    rw [Dev.peCntClr, if_pos hb]
    refine forN_clears (Z := fun e => e.rd (R.PE_CNT m) = 0 ∧ e.get (F.PE_LOAD_PEAK m) = 0) (S := prdCounter)
      (fun x j hj => (Dev.peCnt_clears x j).weaken fun _ ha => .inr ⟨j, hj, ha⟩) (fun x y h hz => ⟨h.rd_zero hz.1, h.get_zero hz.2⟩) hm
      fun x _ => ⟨?_, ?_⟩
    · exact (Dev.rd_put_ne _ _ _ (by simp)).trans (Dev.rd_wr_same _ _ _)
    · exact Dev.get_put_same _ _ _ (by simp)
  exact ⟨hlate.rd_zero hzero.1, hlate.get_zero hzero.2⟩

/-- Settles O24: by the branches of Dev.lmapWrite, Dev.tableWrite, the queries, Dev.peVerdict and Dev.peCheck. -/
theorem predictionTables : Obligations.prediction_tables := by
  unfold Obligations.prediction_tables
  refine ⟨fun s req l data hs => runs_prdLmapWrite_taken hs, fun s req l data hs => runs_prdLmapWrite_busy hs,
    fun s req k idx data hs => completes_rippleWrite hs, fun s req k hs => runs_core _ rfl hs, fun s req k hs => runs_core _ rfl hs,
    fun s req k hs => runs_core _ rfl hs, fun s req q k ang hs => completes_prdQueryStart hs, fun s q x t hs => completes_prdQueryDone hs,
    fun s req q hs => ?_, fun s l spare agree hs hm hl hno => runs_congr (runs_peSpareSwap hs) (Dev.peVerdict_begins agree hm hl hno),
    fun s l spare agree hs => runs_peSpareSwap hs, fun s m agree x hs hsus hen hx hsh hsus' hfree hen' hchk => ?_, fun s agree hs h => ?_,
    fun s req data hs => ?_⟩
  · refine completes_runs_eq _ (runs_core (fun d => d.qryRead req q) rfl hs) hs.1 rfl ?_ ?_ (Dev.qryRead_result _ _ _)
    · rw [Dev.qryRead, Dev.put_corks, Dev.latchRead, Dev.ret_corks, Dev.latch_corks, State.start]
    · rw [Dev.qryRead, Dev.put_fab, Dev.latchRead, Dev.ret_fab, Dev.latch_fab, State.start]
  · refine runs_congr (runs_peBackgroundCheck hs) ?_
    rw [State.start, hsus, hen, if_pos (by decide)]
    subst hx
    exact Dev.peCheck_begins agree hsh hsus' hfree hen' hchk
  · refine runs_congr (runs_peBackgroundCheck hs) ?_
    have hno : ¬ ((s.dev.mgs.suspect.isNone && s.dev.flag F.PRD_CHK_EN) = true) := by
      rcases h with h | h
      · simp [h]
      · simp [h]
    rw [State.start, if_neg hno]
  · refine completes_clears (runs_core (fun d => d.prdCntClr data) rfl hs) hs.1 (s.dev.prdCntClr_clears data)
      ⟨fun k hk hb => Dev.prdCntClr_tracker _ hk hb, fun hb m hm => Dev.prdCntClr_engine _ hb hm, fun a hk hm => ?_,
        (s.dev.prdCntClr_clears data).noRegs⟩
    refine (s.dev.prdCntClr_clears data).rd a ?_
    rintro (⟨k, hlt, ha⟩ | ⟨m, hlt, ha⟩)
    · exact ha.elim (hk k hlt).1 (hk k hlt).2
    · exact ha.elim (hm m hlt).1 (hm m hlt).2

end Sys2Proof.Machine

/-! PROOFS. The scheduler's descriptors, enables and freezes (R143, R163-R190), the Press (R209-R224). -/

namespace Sys2Proof.Machine

/-! ### Descriptors (R163, R164) -/

theorem runs_descWrite {s : State} {req : Fin 10} {bank : Bool} {idx data : Nat} {word : Fin 8} (hs : s.coreRuns) :
    Runs (.descWrite req bank idx word data) s fun d => d.descWrite bank (idx % 8192) word data := runs_core _ rfl hs

theorem Dev.descWrite_free {d : Dev} {bank : Bool} {idx : Nat} (word data : Nat) (hl : d.descLive bank idx = false)
    (hb : d.descBusy bank idx = false) : d.descWrite bank idx word data = d.descPut bank idx word data :=
  (if_neg (ne_true_of_eq_false hl)).trans (if_neg (ne_true_of_eq_false hb))

theorem Dev.descWrite_live {d : Dev} {bank : Bool} {idx : Nat} (word data : Nat) (hl : d.descLive bank idx = true) :
    d.descWrite bank idx word data = d.incSat F.SCH_GSTAT2_LIVEWR := if_pos hl

theorem Dev.descWrite_busy {d : Dev} {bank : Bool} {idx : Nat} (word data : Nat) (hl : d.descLive bank idx = false)
    (hb : d.descBusy bank idx = true) : d.descWrite bank idx word data = d.incSat F.SYS_UPD_STAT_BUSYWR :=
  (if_neg (ne_true_of_eq_false hl)).trans (if_pos hb)

/-- The store of one word of a descriptor, in the bits its kind has. -/
def Dev.descStore (d : Dev) (bank : Bool) (idx word data : Nat) : Dev :=
  { d with mem := memWrite d.mem (descAddr bank idx + 4 * word) 4 (Nat.land (data % 2 ^ 32) (descMask word (d.desc bank idx).kind)) }

/-- A word other than word 0 is stored and nothing else, out of direct-debug mode. -/
theorem Dev.descPut_word {d : Dev} (bank : Bool) (idx data : Nat) {word : Nat} (hw : word ≠ 0) (hd : d.direct = false) :
    d.descPut bank idx word data = d.descStore bank idx word data := by
  have hdir : (d.descStore bank idx word data).direct = false := hd
  unfold Dev.descPut
  simp only [hw, if_false]
  exact if_neg (ne_true_of_eq_false hdir)

/-! ### Enables, preparation, freezes (R143, R165, R190) -/

theorem runs_rangePrepDone {s : State} {k : Fin 16} (hs : s.coreRuns) (h : ((s.dev.scht k).prep || (s.dev.scht k).prepIn) = true) :
    Runs (.rangePrepDone k) s fun d => d.prepDone k :=
  runs_congr (runs_core _ (show execRangePrepDone k s = _ from rfl) hs) (if_pos h)

theorem Dev.schEnWrite_enable {d : Dev} {k : Nat} (h : d.flag (F.SCH_TRK_CTL_EN k) = false) :
    d.schEnWrite k true = (d.put (F.SCH_TRK_CTL_EN k) 1).schEnable k := by
  simp [Dev.schEnWrite, h]

theorem Dev.schEnWrite_disable {d : Dev} {k : Nat} (h : d.flag (F.SCH_TRK_CTL_EN k) = true) :
    d.schEnWrite k false = (d.put (F.SCH_TRK_CTL_EN k) 0).schDisable k := by
  simp [Dev.schEnWrite, h]

@[simp] theorem Dev.scht_setScht_same (d : Dev) (k : Nat) (x : SchT) : (d.setScht k x).scht k = x := smGet_smSet_same _ _ _ _

theorem Dev.schRearm_rest (d : Dev) (k : Nat) : { d.schRearm k with sch := d.sch, fltNew := d.fltNew } = d := rfl

theorem runs_eventFreeze {s : State} {uid : Nat} {endOnly : Bool} {o : Occ} {p : OPulse} (hs : s.coreRuns)
    (ho : s.dev.occ? uid = some o) (hp : o.head = some p) :
    Runs (.eventFreeze uid endOnly) s fun d =>
      (d.advance (fdiv (if endOnly then p.stop else p.start) 8 - 100).toNat).setOcc (if endOnly then { o with endFrozen := true } else { o with frozen := true }) :=
  runs_congr (runs_core _ (show execEventFreeze uid endOnly s = _ from rfl) hs) (by simp only [State.start, ho, hp])

theorem Dev.advance_past {d : Dev} {t : Nat} (h : t ≤ d.now) : d.advance t = d := by simp [Dev.advance, h]

theorem Dev.setOcc_rest (d : Dev) (o : Occ) : { d.setOcc o with sch := d.sch, fltNew := d.fltNew } = d := rfl

/-! ### Counters of the scheduler (R7) -/

/-- Counter words of a tracker in the scheduler. -/
def schCounter (k a : Nat) : Prop :=
  a = R.SCH_TRK_CNT0 k ∨ a = R.SCH_TRK_CNT1 k ∨ a = R.SCH_TRK_CNT2 k ∨ a = R.SCH_TRK_EXEC k ∨ a = R.SCH_TRK_LASTLATE k ∨ a = R.SCH_TRK_LATEBY k

/-- The counter words of tracker k cleared. -/
def Dev.schCntOne (x : Dev) (k : Nat) : Dev :=
  (((((x.wr (R.SCH_TRK_CNT0 k) 0).wr (R.SCH_TRK_CNT1 k) 0).wr (R.SCH_TRK_CNT2 k) 0).wr (R.SCH_TRK_EXEC k) 0).wr
    (R.SCH_TRK_LASTLATE k) 0).wr (R.SCH_TRK_LATEBY k) 0

/-- The counters of the whole scheduler, where bit 31 is set. -/
def Dev.schCntAll (d : Dev) (data : Nat) : Dev :=
  if bitOf data 31 then ((d.put F.SCH_GSTAT_HISTLOST 0).put F.SCH_GSTAT_SCANOVR 0).put F.SCH_GSTAT2_LIVEWR 0 else d

theorem Dev.schCntClr_eq (d : Dev) (data : Nat) : d.schCntClr data = (d.schCntAll data).clrMask 16 data Dev.schCntOne := rfl

theorem Dev.schCntOne_clears (x : Dev) (k : Nat) : x.Clears (schCounter k) (x.schCntOne k) :=
  ((((((Dev.Clears.refl _ x).wr (.inl rfl)).wr (.inr (.inl rfl))).wr (.inr (.inr (.inl rfl)))).wr (.inr (.inr (.inr (.inl rfl))))).wr
    (.inr (.inr (.inr (.inr (.inl rfl)))))).wr (.inr (.inr (.inr (.inr (.inr rfl)))))

theorem Dev.schCntAll_clears (d : Dev) (data : Nat) : d.Clears (fun a => a = R.SCH_GSTAT ∨ a = R.SCH_GSTAT2) (d.schCntAll data) :=
  .ite (fun _ => (((Dev.Clears.refl _ d).put (.inl rfl) (by decide)).put (.inl rfl) (by decide)).put (.inr rfl) (by decide)) fun _ => .refl _ d

/-- A word written zero and then others: it is zero. -/
theorem Dev.rd_wr_zero {d : Dev} {a b : Nat} (h : d.rd b = 0) : (d.wr a 0).rd b = 0 :=
  ((Dev.Clears.refl (· = a) d).wr rfl).rd_zero h

theorem Dev.schCntOne_zero (x : Dev) {k a : Nat} (h : schCounter k a) : (x.schCntOne k).rd a = 0 := by
  unfold Dev.schCntOne
  rcases h with rfl | rfl | rfl | rfl | rfl | rfl
  · exact Dev.rd_wr_zero (Dev.rd_wr_zero (Dev.rd_wr_zero (Dev.rd_wr_zero (Dev.rd_wr_zero (Dev.rd_wr_same _ _ _)))))
  · exact Dev.rd_wr_zero (Dev.rd_wr_zero (Dev.rd_wr_zero (Dev.rd_wr_zero (Dev.rd_wr_same _ _ _))))
  · exact Dev.rd_wr_zero (Dev.rd_wr_zero (Dev.rd_wr_zero (Dev.rd_wr_same _ _ _)))
  · exact Dev.rd_wr_zero (Dev.rd_wr_zero (Dev.rd_wr_same _ _ _))
  · exact Dev.rd_wr_zero (Dev.rd_wr_same _ _ _)
  · exact Dev.rd_wr_same _ _ _

/-- What SCH_CNT_CLR clears. -/
def schCleared (data a : Nat) : Prop := (a = R.SCH_GSTAT ∨ a = R.SCH_GSTAT2) ∨ maskWords 16 data schCounter a

theorem Dev.schCntClr_clears (d : Dev) (data : Nat) : d.Clears (schCleared data) (d.schCntClr data) := by
  rw [Dev.schCntClr_eq]
  exact ((d.schCntAll_clears data).weaken fun _ => .inl).trans ((Dev.clrMask_clears Dev.schCntOne_clears _).weaken fun _ => .inr)

theorem Dev.schCntClr_zero (d : Dev) {data k a : Nat} (hk : k < 16) (hb : bitOf data k = true) (ha : schCounter k a) :
    (d.schCntClr data).rd a = 0 := by
  rw [Dev.schCntClr_eq]
  exact Dev.clrMask_zero (Z := fun e => e.rd a = 0) Dev.schCntOne_clears _ (fun h hz => h.rd_zero hz) hk hb fun x => Dev.schCntOne_zero x ha

theorem not_schCleared {data k a : Nat} (hk : k < 16) (hb : bitOf data k = false) (ha : a = R.SCH_TRK_CNT0 k ∨ a = R.SCH_TRK_EXEC k) :
    ¬ schCleared data a := by
  simp only [schCleared, maskWords, schCounter, R.SCH_GSTAT, R.SCH_GSTAT2, R.SCH_TRK_CNT0, R.SCH_TRK_CNT1, R.SCH_TRK_CNT2, R.SCH_TRK_EXEC,
    R.SCH_TRK_LASTLATE, R.SCH_TRK_LATEBY] at ha ⊢
  rintro ((h | h) | ⟨j, hj, hbj, h⟩)
  · rcases ha with rfl | rfl <;> omega
  · rcases ha with rfl | rfl <;> omega
  · have hjk : j = k := by rcases ha with rfl | rfl <;> omega
    rw [hjk, hb] at hbj
    cases hbj

/-- Settles O25: by the gate of descriptor writes, the enables' branches, and what a freeze and the counters leave. -/
theorem schedulerCommands : Obligations.scheduler_commands := by
  unfold Obligations.scheduler_commands
  refine ⟨fun s req bank idx data word hs hl hb => runs_congr (runs_descWrite hs) (Dev.descWrite_free _ _ hl hb),
    fun s req bank idx data word hs hl => runs_congr (runs_descWrite hs) (Dev.descWrite_live _ _ hl),
    fun s req bank idx data word hs hl hb => runs_congr (runs_descWrite hs) (Dev.descWrite_busy _ _ hl hb),
    fun s req bank idx data word hs hl hb hw hd => ?_, fun s k hs => runs_rangePrepDone hs,
    fun s req k hs h => runs_congr (runs_core (fun d => d.schEnWrite k true) rfl hs) (Dev.schEnWrite_enable h),
    fun s req k hs h => runs_congr (runs_core (fun d => d.schEnWrite k false) rfl hs) (Dev.schEnWrite_disable h),
    fun s req w data hs => runs_core (fun d => d.chenWrite w data) rfl hs, fun s req k hs => ?_, fun s req data hs => ?_,
    fun s uid endOnly o p hs => runs_eventFreeze hs, fun s uid endOnly o p hs ho hp hpast => ?_⟩
  · refine completes_runs_eq _ (runs_descWrite hs) hs.1 ((Dev.descWrite_free _ _ hl hb).trans (Dev.descPut_word _ _ _ hw hd)) rfl rfl
      ⟨memRead_memWrite 4 _ _ _, fun x hx => memGet_memWrite_out 4 _ _ _ _ hx, rfl⟩
  · refine completes_runs_eq _ (runs_core (fun d => d.schRearm k) rfl hs) hs.1 rfl rfl rfl ⟨?_, ?_, ?_, Dev.schRearm_rest _ _⟩ <;>
      simp only [State.start, Dev.schRearm, Dev.scht_setScht_same]
  · refine completes_clears (runs_core (fun d => d.schCntClr data) rfl hs) hs.1 (s.dev.schCntClr_clears data)
      ⟨fun k hk hb => ?_, fun k hk hb => ?_, (s.dev.schCntClr_clears data).noRegs⟩
    · have hz : ∀ a, schCounter k a → (s.dev.schCntClr data).rd a = 0 := fun a ha => s.dev.schCntClr_zero hk hb ha
      exact ⟨hz _ (.inl rfl), hz _ (.inr (.inl rfl)), hz _ (.inr (.inr (.inl rfl))), hz _ (.inr (.inr (.inr (.inl rfl)))),
        hz _ (.inr (.inr (.inr (.inr (.inl rfl))))), hz _ (.inr (.inr (.inr (.inr (.inr rfl)))))⟩
    · exact ⟨(s.dev.schCntClr_clears data).rd _ (not_schCleared hk hb (.inl rfl)), (s.dev.schCntClr_clears data).rd _ (not_schCleared hk hb (.inr rfl))⟩
  · have hnow : s.dev.advance (fdiv (if endOnly then p.stop else p.start) 8 - 100).toNat = s.dev := Dev.advance_past hpast
    exact completes_runs_eq (s.dev.setOcc (if endOnly then { o with endFrozen := true } else { o with frozen := true }))
      (runs_eventFreeze hs ho hp) hs.1 (congrArg (Dev.setOcc · _) hnow) rfl rfl ⟨rfl, Dev.setOcc_rest _ _⟩

/-! ### The Press (R209-R224) -/

theorem runs_pressDecision {s : State} {k : Fin 16} {sp : Fin 64} {a : Int} {rev : Bool} {at_ : Nat} (hs : s.coreRuns)
    (hnext : (s.dev.prsReady k).prsNext = some (k.val, (sp.val, a, rev, at_))) :
    Runs (.pressDecision k sp) s fun d =>
      let x := d.prsReady k
      (x.setPs k { x.ps k with queue := (x.ps k).queue.drop 1 }).prsDecide k sp a rev at_ :=
  runs_congr (runs_core _ (show execPressDecision k sp s = _ from rfl) hs) (by
    simp only [State.start, hnext, decide_true, Bool.and_self, if_true])

@[simp] theorem Dev.ps_setPs_same (d : Dev) (k : Nat) (p : Prs) : (d.setPs k p).ps k = p := smGet_smSet_same _ _ _ _

theorem Dev.setPs_rest (d : Dev) (k : Nat) (p : Prs) : { d.setPs k p with prs := d.prs, fltNew := d.fltNew } = d := rfl

/-- The counter words of machine k cleared. -/
def Dev.prsCntOne (x : Dev) (k : Nat) : Dev := (x.wr (R.PRS_CNT0 k) 0).wr (R.PRS_CNT1 k) 0

theorem Dev.prsCntOne_clears (x : Dev) (k : Nat) : x.Clears (fun a => a = R.PRS_CNT0 k ∨ a = R.PRS_CNT1 k) (x.prsCntOne k) :=
  ((Dev.Clears.refl _ x).wr (.inl rfl)).wr (.inr rfl)

theorem Dev.prsCntClr_eq (d : Dev) (data : Nat) : d.prsCntClr data =
    if bitOf data 31 then (d.clrMask 16 data Dev.prsCntOne).put F.PRS_GSTAT_QMAX 0 else d.clrMask 16 data Dev.prsCntOne := rfl

/-- What PRS_CNT_CLR clears. -/
def prsCleared (data a : Nat) : Prop := maskWords 16 data (fun k a => a = R.PRS_CNT0 k ∨ a = R.PRS_CNT1 k) a ∨ a = R.PRS_GSTAT

theorem Dev.prsCntClr_clears (d : Dev) (data : Nat) : d.Clears (prsCleared data) (d.prsCntClr data) := by
  have hmask : d.Clears (prsCleared data) (d.clrMask 16 data Dev.prsCntOne) := (Dev.clrMask_clears Dev.prsCntOne_clears d).weaken fun _ => .inl
  rw [Dev.prsCntClr_eq]
  exact .ite (fun _ => hmask.put (.inr rfl) (by decide)) fun _ => hmask

theorem Dev.prsCntClr_zero (d : Dev) {data k : Nat} (hk : k < 16) (hb : bitOf data k = true) :
    (d.prsCntClr data).rd (R.PRS_CNT0 k) = 0 ∧ (d.prsCntClr data).rd (R.PRS_CNT1 k) = 0 := by
  have hmask : (d.clrMask 16 data Dev.prsCntOne).rd (R.PRS_CNT0 k) = 0 ∧ (d.clrMask 16 data Dev.prsCntOne).rd (R.PRS_CNT1 k) = 0 :=
    Dev.clrMask_zero (Z := fun e => e.rd (R.PRS_CNT0 k) = 0 ∧ e.rd (R.PRS_CNT1 k) = 0) Dev.prsCntOne_clears _
      (fun h hz => ⟨h.rd_zero hz.1, h.rd_zero hz.2⟩) hk hb fun x => ⟨Dev.rd_wr_zero (Dev.rd_wr_same _ _ _), Dev.rd_wr_same _ _ _⟩
  rw [Dev.prsCntClr_eq]
  split
  · have hput := (Dev.Clears.refl (· = R.PRS_GSTAT) (d.clrMask 16 data Dev.prsCntOne)).put (f := F.PRS_GSTAT_QMAX) rfl (by decide)
    exact ⟨hput.rd_zero hmask.1, hput.rd_zero hmask.2⟩
  · exact hmask

theorem Dev.prsCntClr_keeps (d : Dev) {data k : Nat} (hb : bitOf data k = false) {a : Nat}
    (ha : a = R.PRS_CNT0 k ∨ a = R.PRS_CNT1 k) : (d.prsCntClr data).rd a = d.rd a := by
  refine (d.prsCntClr_clears data).rd a ?_
  simp only [prsCleared, maskWords, R.PRS_CNT0, R.PRS_CNT1, R.PRS_GSTAT] at ha ⊢
  rintro (⟨j, hj, hbj, h⟩ | h)
  · have hjk : j = k := by rcases ha with rfl | rfl <;> omega
    rw [hjk, hb] at hbj
    cases hbj
  · rcases ha with rfl | rfl <;> omega

/-- Settles O26: by the branch of the decision and what the counters' pass clears. -/
theorem pressCommands : Obligations.press_commands := by
  unfold Obligations.press_commands
  refine ⟨fun s k sp a rev at_ hs => runs_pressDecision hs, fun s req k data hs => runs_core _ rfl hs, fun s req k hs => ?_,
    fun s req data hs => ?_⟩
  · refine completes_runs_eq _ (runs_core (fun d => d.setPs k { d.ps k with reset := true }) rfl hs) hs.1 rfl rfl rfl
      ⟨?_, ?_, ?_, Dev.setPs_rest _ _ _⟩ <;> simp only [State.start, Dev.ps_setPs_same]
  · refine completes_clears (runs_core (fun d => d.prsCntClr data) rfl hs) hs.1 (s.dev.prsCntClr_clears data)
      ⟨fun k hk hb => s.dev.prsCntClr_zero hk hb, fun k hk hb => ⟨s.dev.prsCntClr_keeps hb (.inl rfl), s.dev.prsCntClr_keeps hb (.inr rfl)⟩,
        fun hb => ?_, (s.dev.prsCntClr_clears data).noRegs⟩
    rw [Dev.prsCntClr_eq, if_pos hb]
    exact Dev.get_put_same _ _ _ (by decide)

end Sys2Proof.Machine

/-! PROOFS. Tiles: what lanes carry stands apart from what sides hold, and frames that a tile discards or answers (R234-R285). -/

namespace Sys2Proof.Machine

/-! ### Tiles and sides of the device -/

@[simp] theorem Dev.tle_setTle_same (d : Dev) (t : Nat) (x : Tile) : (d.setTle t x).tle t = x := smGet_smSet_same _ _ _ _

theorem Dev.tle_setTle_ne (d : Dev) {t u : Nat} (x : Tile) (h : u ≠ t) : (d.setTle t x).tle u = d.tle u := smGet_smSet_ne _ _ _ _ h

@[simp] theorem Dev.tle_upTle_same (d : Dev) (t : Nat) (f : Tile → Tile) : (d.upTle t f).tle t = f (d.tle t) := Dev.tle_setTle_same _ _ _

theorem Dev.tle_upTle_ne (d : Dev) {t u : Nat} (f : Tile → Tile) (h : u ≠ t) : (d.upTle t f).tle u = d.tle u := Dev.tle_setTle_ne _ _ h

@[simp] theorem Tile.side_setSide_same (x : Tile) (sd : Bool) (y : TSide) : (x.setSide sd y).side sd = y := by cases sd <;> rfl

theorem Tile.side_setSide_other (x : Tile) (sd : Bool) (y : TSide) : (x.setSide sd y).side (!sd) = x.side (!sd) := by cases sd <;> rfl

@[simp] theorem Dev.ts_upTs_same (d : Dev) (t : Nat) (sd : Bool) (f : TSide → TSide) : (d.upTs t sd f).ts t sd = f (d.ts t sd) := by
  rw [Dev.ts, Dev.upTs, Dev.tle_upTle_same, Tile.side_setSide_same, Dev.ts]

theorem Dev.ts_upTs_other (d : Dev) (t u : Nat) (sd : Bool) (f : TSide → TSide) : (d.upTs t sd f).ts u (!sd) = d.ts u (!sd) := by
  by_cases h : u = t
  · subst h
    rw [Dev.ts, Dev.upTs, Dev.tle_upTle_same, Tile.side_setSide_other, Dev.ts]
  · rw [Dev.ts, Dev.upTs, Dev.tle_upTle_ne _ _ h, Dev.ts]

theorem Dev.tle_upTs_ne (d : Dev) {t u : Nat} (sd : Bool) (f : TSide → TSide) (h : u ≠ t) : (d.upTs t sd f).tle u = d.tle u :=
  Dev.tle_upTle_ne _ _ h

/-- A tile without its sides. -/
def Tile.noSides (x : Tile) : Tile := { x with a := side0, b := side0 }

/-- A tile without what its lanes carry. -/
def Tile.noLanes (x : Tile) : Tile := { x with a := x.a.noLanes, b := x.b.noLanes }

theorem Tile.noSides_setSide (x : Tile) (sd : Bool) (y : TSide) : (x.setSide sd y).noSides = x.noSides := by cases sd <;> rfl

theorem Tile.noLanes_setSide (x : Tile) (sd : Bool) {y : TSide} (h : y.noLanes = (x.side sd).noLanes) : (x.setSide sd y).noLanes = x.noLanes := by
  cases sd
  · exact congrArg (fun z => { x with a := z, b := x.b.noLanes }) h
  · exact congrArg (fun z => { x with a := x.a.noLanes, b := z }) h

theorem Tile.noLanes_side {x y : Tile} (h : x.noLanes = y.noLanes) (sd : Bool) : (x.side sd).noLanes = (y.side sd).noLanes := by
  cases sd
  · exact congrArg Tile.a h
  · exact congrArg Tile.b h

theorem Tile.noLanes_noSides {x y : Tile} (h : x.noLanes = y.noLanes) : x.noSides = y.noSides :=
  show x.noLanes.noSides = y.noLanes.noSides from congrArg Tile.noSides h

/-- The device without its tiles. -/
def Dev.noTile (d : Dev) : Dev := { d with tile := [] }

theorem Dev.upTle_noTile (d : Dev) (t : Nat) (f : Tile → Tile) : (d.upTle t f).noTile = d.noTile := rfl
theorem Dev.upTs_noTile (d : Dev) (t : Nat) (sd : Bool) (f : TSide → TSide) : (d.upTs t sd f).noTile = d.noTile := rfl
theorem Dev.upTo_noTile (d : Dev) (t j : Nat) (f : TOut → TOut) : (d.upTo t j f).noTile = d.noTile := rfl
theorem Dev.setTle_noTile (d : Dev) (t : Nat) (x : Tile) : (d.setTle t x).noTile = d.noTile := rfl

theorem Dev.noTile_rest {d e : Dev} (h : e.noTile = d.noTile) : { e with tile := d.tile } = d :=
  congrArg (fun x : Dev => { x with tile := d.tile }) h

theorem Dev.noTile_corks {d e : Dev} (h : e.noTile = d.noTile) : e.corks = d.corks :=
  show e.noTile.corks = d.noTile.corks from congrArg Dev.corks h

theorem Dev.noTile_fab {d e : Dev} (h : e.noTile = d.noTile) : e.fab = d.fab :=
  show e.noTile.fab = d.noTile.fab from congrArg Dev.fab h

theorem Dev.noTile_reg {d e : Dev} (h : e.noTile = d.noTile) : e.reg = d.reg :=
  show e.noTile.reg = d.noTile.reg from congrArg Dev.reg h

/-- A command that changes tiles and nothing else completes. -/
theorem completes_noTile {c : Instr} {s : State} {f : Dev → Dev} {p : Dev → Prop} (x : Dev) (h : Runs c s f) (hs : s.dev.corksFresh)
    (e : f s.start = x) (hx : x.noTile = s.dev.noTile) (hp : p x) : Completes c s p :=
  completes_runs_eq x h hs e (Dev.noTile_corks hx) (Dev.noTile_fab hx) hp

/-! ### What lanes carry (R232-R237) -/

/-- On side sd of the tiles of link n, lanes carry on; nothing else of a tile changes. -/
structure Dev.LanesRun (n : Nat) (sd : Bool) (d e : Dev) : Prop where
  lanes : ∀ u, (e.tle u).noLanes = (d.tle u).noLanes
  other : ∀ u, e.ts u (!sd) = d.ts u (!sd)
  far : ∀ u, u / 4 ≠ n → e.tle u = d.tle u

theorem Dev.LanesRun.refl (n : Nat) (sd : Bool) (d : Dev) : LanesRun n sd d d := ⟨fun _ => rfl, fun _ => rfl, fun _ _ => rfl⟩

theorem Dev.LanesRun.trans {n : Nat} {sd : Bool} {d e f : Dev} (h : LanesRun n sd d e) (g : LanesRun n sd e f) : LanesRun n sd d f :=
  ⟨fun u => (g.lanes u).trans (h.lanes u), fun u => (g.other u).trans (h.other u), fun u hu => (g.far u hu).trans (h.far u hu)⟩

theorem Dev.LanesRun.upTs {n : Nat} {sd : Bool} {d e : Dev} (h : LanesRun n sd d e) {t : Nat} (ht : t / 4 = n) {f : TSide → TSide}
    (hf : ∀ x, (f x).noLanes = x.noLanes) : LanesRun n sd d (e.upTs t sd f) := by
  refine h.trans ⟨fun u => ?_, fun u => Dev.ts_upTs_other _ _ _ _ _, fun u hu => Dev.tle_upTs_ne _ _ _ fun he => hu (he ▸ ht)⟩
  by_cases hu : u = t
  · subst hu
    rw [Dev.upTs, Dev.tle_upTle_same]
    exact Tile.noLanes_setSide _ _ (hf _)
  · rw [Dev.tle_upTs_ne _ _ _ hu]

theorem Dev.LanesRun.side {n : Nat} {sd : Bool} {d e : Dev} (h : LanesRun n sd d e) (u : Nat) (b : Bool) :
    (e.ts u b).noLanes = (d.ts u b).noLanes := Tile.noLanes_side (h.lanes u) b

theorem Dev.LanesRun.forN {n k : Nat} {sd : Bool} {f : Dev → Nat → Dev} (hf : ∀ x i, LanesRun n sd x (f x i)) (d : Dev) :
    LanesRun n sd d (forN k f d) := by
  induction k with
  | zero => exact .refl n sd d
  | succ k ih =>
    rw [forN_succ]
    exact ih.trans (hf _ k)

theorem Dev.upSend_lanesRun {n k : Nat} {sd : Bool} (d : Dev) {t : Nat} (ht : t / 4 = n) : LanesRun n sd d (d.upSend t sd k) := by
  induction k generalizing d with
  | zero => exact .refl n sd d
  | succ k ih =>
    unfold Dev.upSend
    dsimp only
    split
    · exact .refl n sd d
    · split
      · exact .refl n sd d
      · split
        · exact .refl n sd d
        · refine .trans ?_ (ih _)
          split
          · refine .upTs (.refl n sd d) ht ?_
            exact fun x => rfl
          · refine .upTs (.upTs (.refl n sd d) ht ?_) (by omega) ?_
            · exact fun x => rfl
            · exact fun x => rfl

theorem Dev.upRun_lanesRun (d : Dev) (t : Nat) (sd : Bool) : LanesRun (t / 4) sd d (d.upRun t sd) := by
  refine .forN (fun x i => x.upSend_lanesRun ?_) d
  omega

theorem Dev.upSend_noTile (k : Nat) (d : Dev) (t : Nat) (sd : Bool) : (d.upSend t sd k).noTile = d.noTile := by
  induction k generalizing d with
  | zero => rfl
  | succ k ih =>
    unfold Dev.upSend
    dsimp only
    split
    · rfl
    · split
      · rfl
      · split
        · rfl
        · rw [ih]
          split <;> rfl

theorem Dev.upRun_noTile (d : Dev) (t : Nat) (sd : Bool) : (d.upRun t sd).noTile = d.noTile :=
  forN_keeps Dev.noTile (fun _ _ => Dev.upSend_noTile _ _ _ _) 4 d

/-! ### One side changes -/

/-- Side sd of tile t changes by g, but for what lanes carry; of the other side nothing changes, of other tiles nothing but lanes. -/
structure Dev.SideGoes (t : Nat) (sd : Bool) (g : TSide → TSide) (d e : Dev) : Prop where
  side : (e.ts t sd).noLanes = (g (d.ts t sd)).noLanes
  other : ∀ u, e.ts u (!sd) = d.ts u (!sd)
  lanes : ∀ u, u ≠ t → (e.tle u).noLanes = (d.tle u).noLanes
  far : ∀ u, u / 4 ≠ t / 4 → e.tle u = d.tle u
  own : (e.tle t).noSides = (d.tle t).noSides

theorem Dev.LanesRun.goes {t : Nat} {sd : Bool} {d e : Dev} (h : LanesRun (t / 4) sd d e) : SideGoes t sd id d e :=
  ⟨h.side t sd, h.other, fun u _ => h.lanes u, h.far, Tile.noLanes_noSides (h.lanes t)⟩

theorem Dev.upTs_goes (d : Dev) (t : Nat) (sd : Bool) (f : TSide → TSide) : SideGoes t sd f d (d.upTs t sd f) := by
  refine ⟨by rw [Dev.ts_upTs_same], fun u => Dev.ts_upTs_other _ _ _ _ _, fun u hu => by rw [Dev.tle_upTs_ne _ _ _ hu],
    fun u hu => Dev.tle_upTs_ne _ _ _ fun he => hu (by rw [he]), ?_⟩
  rw [Dev.upTs, Dev.tle_upTle_same]
  exact Tile.noSides_setSide _ _ _

/-- Two changes of a side, the second one blind to lanes. -/
theorem Dev.SideGoes.trans {t : Nat} {sd : Bool} {g h : TSide → TSide} {d e f : Dev} (hd : SideGoes t sd g d e) (he : SideGoes t sd h e f)
    (hh : ∀ x, (h x).noLanes = (h x.noLanes).noLanes) : SideGoes t sd (fun x => h (g x)) d f := by
  refine ⟨?_, fun u => (he.other u).trans (hd.other u), fun u hu => (he.lanes u hu).trans (hd.lanes u hu),
    fun u hu => (he.far u hu).trans (hd.far u hu), he.own.trans hd.own⟩
  rw [he.side, hh, hd.side, ← hh]

theorem Dev.SideGoes.congr {t : Nat} {sd : Bool} {g h : TSide → TSide} {d e : Dev} (hd : SideGoes t sd g d e)
    (hg : ∀ x, (g x).noLanes = (h x).noLanes) : SideGoes t sd h d e :=
  ⟨hd.side.trans (hg _), hd.other, hd.lanes, hd.far, hd.own⟩

theorem Dev.SideGoes.else {t : Nat} {sd : Bool} {g : TSide → TSide} {d e : Dev} (h : SideGoes t sd g d e) : Dev.tilesElse d e t :=
  fun u hu => h.lanes u hu

/-- A side with one frame more to go up. -/
def TSide.sends (typ : Nat) (words : List Nat) (x : TSide) : TSide := { x with up := x.up ++ [⟨typ, words, x.pos⟩] }

/-- The frame waits on the up lane from time c, too. -/
def TSide.queues (typ : Nat) (words : List Nat) (c : Nat) (x : TSide) : TSide :=
  { x with up := x.up ++ [⟨typ, words, x.pos⟩], lane := { x.lane with wait := x.lane.wait ++ [⟨⟨typ, words, x.pos⟩, true, c⟩] } }

theorem Dev.tupAny_eq (d : Dev) (t : Nat) (sd : Bool) (typ : Nat) (words : List Nat) :
    d.tupAny t sd typ words = (d.upRun t sd).upTs t sd (TSide.queues typ words (3 * (d.upRun t sd).fab)) := rfl

theorem Dev.tupAny_goes (d : Dev) (t : Nat) (sd : Bool) (typ : Nat) (words : List Nat) :
    SideGoes t sd (TSide.sends typ words) d (d.tupAny t sd typ words) := by
  rw [Dev.tupAny_eq]
  exact ((d.upRun_lanesRun t sd).goes.trans (Dev.upTs_goes _ _ _ _) fun _ => rfl).congr fun _ => rfl

theorem Dev.tupAny_noTile (d : Dev) (t : Nat) (sd : Bool) (typ : Nat) (words : List Nat) : (d.tupAny t sd typ words).noTile = d.noTile :=
  (Dev.upTs_noTile _ _ _ _).trans (d.upRun_noTile t sd)

theorem Dev.tup_on {d : Dev} {t : Nat} {sd : Bool} (typ : Nat) (words : List Nat) (h : (d.ts t sd).st ≠ 0) :
    d.tup t sd typ words = d.tupAny t sd typ words := if_neg h

end Sys2Proof.Machine

/-! PROOFS. Frames that a tile takes, answers or discards (R239-R285). -/

namespace Sys2Proof.Machine

/-! ### Reliable frames (R249, R250, R268, R276) -/

/-- Two tiles of link 0 with open ports on side B; hop 1 up has a trained spare at tile 0, and tile 1 is addressed. -/
def chainOfTwo : State :=
  { State.reset with
    dev := (State.reset.dev.upTs 0 true fun x => { x with st := 1, dsopen := true, sokU := true }).upTs 1 true fun x => { x with st := 1 } }

theorem chainOfTwo_fresh : chainOfTwo.dev.corksFresh := by
  simp only [Dev.corksFresh]
  decide +kernel

theorem chainOfTwo_takes : chainOfTwo.dev.tileTakes (1 : Fin 64) true 0 1 := by
  simp only [Dev.tileTakes]
  decide +kernel

theorem runs_ctlMirror {s : State} {t : Fin 64} {side : Bool} {seq : Nat} {on : Bool} (h : s.dev.tileTakes t side seq 1) :
    Runs (.ctlMirror t side true seq on) s fun d =>
      Dev.tileEnd t side seq (
        let d1 := d.setMirror t side on
        (if on then d1 else d1.unmirror t side, 0, 0)) :=
  runs_congr (runs_any _ (show execCtlMirror t side true seq on s = _ from rfl)) (Dev.trel_takes h)

/-- Tile 1 stops to mirror: the spare of hop 1 up, whose receiver is tile 0, is no longer trained (R276). -/
theorem chainOfTwo_untrained :
    ((Dev.tileEnd 1 true 0 (
        let d1 := chainOfTwo.dev.setMirror 1 true false
        (if false then d1 else d1.unmirror 1 true, 0, 0))).corkTick.tle 0).b.sokU = false := by decide +kernel

theorem chainOfTwo_trained : (chainOfTwo.dev.tle 0).b.sokU = true := by decide +kernel

/-- Refutes O27: CTL MIRROR off at tile 1 ends the training of the spare of hop 1 up, which tile 0 holds (R276), so another tile
changes in more than what its lanes carry. -/
theorem not_tileReliableFrames : ¬ Obligations.tile_reliable_frames := by
  unfold Obligations.tile_reliable_frames
  rintro ⟨-, -, hmirror, -⟩
  obtain ⟨e, hexec, -, -, -, helse, -⟩ := hmirror chainOfTwo 1 true false 0 chainOfTwo_fresh chainOfTwo_takes
  have hnext := Host.Outcome.next.inj (hexec.symm.trans (runs_ctlMirror chainOfTwo_takes))
  have hkept : (e.dev.tle 0).b.sokU = true := (congrArg (fun x : Tile => x.b.sokU) (helse 0 (by decide))).trans chainOfTwo_trained
  rw [hnext, State.start] at hkept
  cases chainOfTwo_untrained.symm.trans hkept

/-! ### Frames answered, or without acknowledgement (R253-R256, R268-R271, R284) -/

theorem runs_echoReq {s : State} {t : Fin 64} {side : Bool} {etag tt : Nat} (hp : s.dev.passes t side = true) (hst : 1 ≤ (s.dev.ts t side).st) :
    Runs (.echoReq t side true etag tt) s fun d => d.tup t side 0x12 [etag % 65536, tt % 2 ^ 24, 0] :=
  runs_congr (runs_any _ (show execEchoReq t side true etag tt s = _ from rfl)) (Dev.tun_takes hp hst)

/-- A port that is open passes what is whole, and what it passes has not been discarded. -/
theorem if_passes_whole {α : Type} {b : Bool} (h : b = true) (x y z : α) : (if !b then x else if !true then y else z) = z := by
  rw [h]
  rfl

theorem runs_discover {s : State} {t : Fin 64} {side : Bool} {proto : Nat} {dside : Bool} {pos : Fin 4} (hp : s.dev.passes t side = true) :
    Runs (.discover t side true proto dside pos) s fun d => d.discoverAt side dside pos 4 t :=
  runs_congr (runs_any _ (show execDiscover t side true proto dside pos s = _ from rfl)) (if_passes_whole hp _ _ _)

theorem runs_ctlReset {s : State} {t : Fin 64} {side : Bool} {seq : Nat} {beyond : Bool} (hp : s.dev.passes t side = true) :
    Runs (.ctlReset t side true seq beyond) s fun d =>
      forN 4 (fun (x : Dev) q => if q == t.val % 4 || (beyond && decide (t.val % 4 < q) && d.passes (t.val / 4 * 4 + q) side) then x.sideReset (t.val / 4 * 4 + q) side else x) d :=
  runs_congr (runs_any _ (show execCtlReset t side true seq beyond s = _ from rfl)) (if_passes_whole hp _ _ _)

theorem runs_regrd {s : State} {t : Fin 64} {side : Bool} {addr : Nat} (hp : s.dev.passes t side = true) (hst : 1 ≤ (s.dev.ts t side).st) :
    Runs (.regrd t side true addr) s fun d =>
      let r := d.tileRead t side (addr % 65536)
      d.tup t side 0x17 [r.1 * 2 ^ 16 + addr % 65536, r.2] :=
  runs_congr (runs_any _ (show execRegrd t side true addr s = _ from rfl)) (Dev.tun_takes hp hst)

theorem runs_regwr {s : State} {t : Fin 64} {side : Bool} {seq addr data : Nat} (h : s.dev.tileTakes t side seq 1) :
    Runs (.regwr t side true seq addr data) s fun d =>
      Dev.tileEnd t side seq ((d.tileWrite t side (addr % 65536) data).1, (d.tileWrite t side (addr % 65536) data).2, 0) :=
  runs_congr (runs_any _ (show execRegwr t side true seq addr data s = _ from rfl)) (Dev.trel_takes h)

/-- The error of a side's time against a TIME frame of this stamp (R256). -/
def Dev.timeErr (d : Dev) (t : Nat) (sd : Bool) (stamp : Nat) : Int :=
  192 * stamp + d.tget t sd F.TILE_DLY_DLY - (192 * d.now + (d.ts t sd).off)

/-- The side's time set by a TIME frame (R256). -/
def TSide.timed (terr : Int) (x : TSide) : TSide :=
  { x with off := x.off + (if decide (384 < terr.natAbs) then terr else clampI (-24) 24 terr), tstep := x.tstep || decide (384 < terr.natAbs), fresh := true }

/-- The counts that a STATUS carried begin anew (R256). -/
def TSide.reported (x : TSide) : TSide := { x with tstep := false, wdrop := 0, cv0 := 0, cv1 := 0 }

/-- A TIME frame taken: the side's time, then STATUS. -/
def Dev.timeTaken (d : Dev) (t : Nat) (sd : Bool) (stamp : Nat) : Dev :=
  let x := d.upTs t sd (TSide.timed (d.timeErr t sd stamp))
  (x.tup t sd 0x14 (x.statusWords t sd (d.timeErr t sd stamp))).upTs t sd TSide.reported

theorem runs_time {s : State} {t : Fin 64} {side : Bool} {stamp : Nat} (hp : s.dev.passes t side = true) (hst : 2 ≤ (s.dev.ts t side).st) :
    Runs (.time t side true stamp) s fun d => d.timeTaken t side stamp :=
  runs_congr (runs_any _ (show execTime t side true stamp s = _ from rfl)) ((Dev.tun_takes hp hst).trans rfl)

theorem Dev.timeTaken_goes {d : Dev} {t : Nat} {sd : Bool} (stamp : Nat) (hst : (d.ts t sd).st ≠ 0) :
    SideGoes t sd (fun x => TSide.reported (TSide.sends 0x14 ((d.upTs t sd (TSide.timed (d.timeErr t sd stamp))).statusWords t sd (d.timeErr t sd stamp))
      (TSide.timed (d.timeErr t sd stamp) x))) d (d.timeTaken t sd stamp) := by
  have hon : ((d.upTs t sd (TSide.timed (d.timeErr t sd stamp))).ts t sd).st ≠ 0 := by
    rw [Dev.ts_upTs_same]
    exact hst
  have heq : d.timeTaken t sd stamp = ((d.upTs t sd (TSide.timed (d.timeErr t sd stamp))).tupAny t sd 0x14 _).upTs t sd TSide.reported :=
    congrArg (Dev.upTs · t sd TSide.reported) (Dev.tup_on _ _ hon)
  rw [heq]
  exact ((Dev.upTs_goes _ _ _ _).trans (Dev.tupAny_goes _ _ _ _ _) fun _ => rfl).trans (Dev.upTs_goes _ _ _ _) fun _ => rfl

theorem Dev.tup_noTile (d : Dev) (t : Nat) (sd : Bool) (typ : Nat) (words : List Nat) : (d.tup t sd typ words).noTile = d.noTile := by
  unfold Dev.tup
  split
  · rfl
  · exact Dev.tupAny_noTile _ _ _ _ _

theorem Dev.timeTaken_noTile (d : Dev) (t : Nat) (sd : Bool) (stamp : Nat) : (d.timeTaken t sd stamp).noTile = d.noTile :=
  (Dev.upTs_noTile _ _ _ _).trans ((Dev.tup_noTile _ _ _ _ _).trans (Dev.upTs_noTile _ _ _ _))

/-- The side takes its address (R271). -/
def TSide.addressed (pos : Nat) (dside : Bool) (x : TSide) : TSide := { x with st := 1, pos := pos, sd := dside }

theorem Dev.discoverAt_unaddr {d : Dev} {t : Nat} {sd : Bool} (dside : Bool) (pos k : Nat) (hlock : (d.ts t sd).locked = true) (hst : (d.ts t sd).st = 0) :
    d.discoverAt sd dside pos (k + 1) t =
      (d.upTs t sd (TSide.addressed pos dside)).tupAny t sd 0x16 (identWords (d.upTs t sd (TSide.addressed pos dside)) t sd) := by
  have hon : ((d.upTs t sd (TSide.addressed pos dside)).ts t sd).st ≠ 0 := by
    rw [Dev.ts_upTs_same]
    exact Nat.one_ne_zero
  unfold Dev.discoverAt
  rw [hlock, if_neg (by decide), if_pos hst]
  exact Dev.tup_on _ _ hon

theorem Dev.passes_locked {d : Dev} {t : Nat} {sd : Bool} (h : d.passes t sd = true) : (d.ts t sd).locked = true := by
  simp only [Dev.passes, Bool.and_eq_true] at h
  exact h.2

/-! ### Discarded frames (R239) -/

theorem Dev.tun_damaged (d : Dev) (t : Nat) (sd : Bool) (low : Nat) (f : Dev → Dev) :
    d.tun t sd false low f = if d.passes t sd then d.tdisc t sd else d := by
  unfold Dev.tun
  cases d.passes t sd <;> rfl

theorem Dev.trel_damaged (d : Dev) (t : Nat) (sd : Bool) (seq low : Nat) (f : Dev → Dev × Nat × Nat) :
    d.trel t sd false seq low f = if d.passes t sd then d.tdisc t sd else d := by
  unfold Dev.trel
  cases d.passes t sd <;> rfl

theorem Dev.upTle_ts (d : Dev) {t u : Nat} {f : Tile → Tile} (hf : ∀ x b, (f x).side b = x.side b) (b : Bool) : (d.upTle t f).ts u b = d.ts u b := by
  by_cases h : u = t
  · subst h
    rw [Dev.ts, Dev.tle_upTle_same, hf, Dev.ts]
  · rw [Dev.ts, Dev.tle_upTle_ne _ _ h, Dev.ts]

theorem Dev.twr_ts (d : Dev) (t u : Nat) (sd b : Bool) (a : Nat) (w : Word) : (d.twr t sd a w).ts u b = d.ts u b :=
  Dev.upTle_ts d (fun _ c => by cases c <;> rfl) b

theorem Dev.tdisc_ts (d : Dev) (t u : Nat) (sd b : Bool) : (d.tdisc t sd).ts u b = d.ts u b := Dev.twr_ts _ _ _ _ _ _ _

theorem Dev.tdisc_noTile (d : Dev) (t : Nat) (sd : Bool) : (d.tdisc t sd).noTile = d.noTile := rfl

/-- A frame to a tile that is discarded: counted there where the ports before it are open. -/
def Dev.tileDiscards (d : Dev) (t : Nat) (sd : Bool) : Dev := if d.passes t sd then d.tdisc t sd else d

theorem Dev.tileDiscards_noTile (d : Dev) (t : Nat) (sd : Bool) : (d.tileDiscards t sd).noTile = d.noTile := by
  unfold Dev.tileDiscards
  split
  · exact d.tdisc_noTile t sd
  · rfl

theorem Dev.tileDiscards_ts (d : Dev) (t u : Nat) (sd b : Bool) : (d.tileDiscards t sd).ts u b = d.ts u b := by
  unfold Dev.tileDiscards
  split
  · exact d.tdisc_ts t u sd b
  · rfl

/-- A frame whose receiver discards it where it arrives. -/
theorem if_passes_damaged {α : Type} (b : Bool) (x y z : α) : (if !b then x else if !false then y else z) = if b then y else x := by
  cases b <;> rfl

theorem completes_tileDiscards {c : Instr} {s : State} {t : Fin 64} {sd : Bool} (hs : s.dev.corksFresh) (h : Runs c s fun d => d.tileDiscards t sd) :
    Completes c s fun e => (∀ u b, e.ts u b = s.dev.ts u b) ∧ { e with tile := s.dev.tile, fltNew := s.dev.fltNew } = s.dev :=
  completes_noTile _ h hs rfl (s.dev.tileDiscards_noTile t sd)
    ⟨fun u b => s.dev.tileDiscards_ts t u sd b,
      congrArg (fun x : Dev => { x with tile := s.dev.tile, fltNew := s.dev.fltNew }) (s.dev.tileDiscards_noTile t sd)⟩

theorem completes_linkDiscards {c : Instr} {s : State} {n : Fin 16} (hs : s.coreRuns) (h : Runs c s fun d => d.incSat (F.TLK_CNT0_DISC n)) :
    Completes c s fun e =>
      e.get (F.TLK_CNT0_DISC n) = min (s.dev.get (F.TLK_CNT0_DISC n) + 1) 0xFFFF
        ∧ e.get (F.TLK_CNT0_RETX n) = s.dev.get (F.TLK_CNT0_RETX n) ∧ Dev.onlyRegs s.dev e [R.TLK_CNT0 n] :=
  completes_runs_eq _ h hs.1 rfl (Dev.incSat_corks _ _) (Dev.incSat_fab _ _)
    ⟨Dev.get_incSat_same s.dev (F.TLK_CNT0_DISC n) (by simp), Dev.get_put_apart _ _ _ _ (by simp) (by simp) (by simp), Dev.incSat_onlyRegs _ _⟩

/-- Settles O30: each command's receiver looks at the verdict before anything else. -/
theorem damagedLinkFramesAreDiscarded : Obligations.damaged_link_frames_are_discarded := by
  unfold Obligations.damaged_link_frames_are_discarded
  refine ⟨fun s c n p hs hc => completes_linkDiscards (n := n) hs ?_, fun s c t sd hs hc => completes_tileDiscards (t := t) (sd := sd) hs ?_⟩
  · obtain ⟨seq, result, pmask, arr, rfl⟩ | ⟨etag, tt, res, rtt, rfl⟩ | ⟨handle, pidx, out, status, start, stop, ipk, i2t, rfl⟩ |
      ⟨w1, w2, w3, rfl⟩ | ⟨level, out, code, data, rfl⟩ | ⟨vendor, type, rev, proto, nout, iv, two, slots, serial, fwdlat, rfl⟩ |
      ⟨result, addr, data, rfl⟩ | ⟨handle, wseq, kind, out, t0, samples, rfl⟩ := hc
    · exact runs_core (fun d => d.incSat (F.TLK_CNT0_DISC n)) rfl hs
    · exact runs_core (fun d => d.incSat (F.TLK_CNT0_DISC n)) rfl hs
    · exact runs_core (fun d => d.incSat (F.TLK_CNT0_DISC n)) rfl hs
    · exact runs_core (fun d => d.incSat (F.TLK_CNT0_DISC n)) rfl hs
    · exact runs_core (fun d => d.incSat (F.TLK_CNT0_DISC n)) rfl hs
    · exact runs_core (fun d => d.incSat (F.TLK_CNT0_DISC n)) rfl hs
    · exact runs_core (fun d => d.incSat (F.TLK_CNT0_DISC n)) rfl hs
    · exact runs_core (fun d => d.incSat (F.TLK_CNT0_DISC n)) rfl hs
  · obtain ⟨seq, handle, vint, rev, pulses, rfl⟩ | ⟨seq, handle, aver, pmask, times, rfl⟩ | ⟨seq, handle, pmask, rfl⟩ | ⟨stamp, rfl⟩ |
      ⟨seq, stamp, stepc, dly, rfl⟩ | ⟨etag, tt, rfl⟩ | ⟨proto, dside, pos, rfl⟩ | ⟨seq, addr, data, rfl⟩ | ⟨addr, rfl⟩ |
      ⟨seq, prf, words, rfl⟩ | ⟨seq, w1, w2, rfl⟩ | ⟨seq, beyond, rfl⟩ | ⟨seq, rfl⟩ | ⟨seq, rfl⟩ | ⟨seq, rfl⟩ | ⟨seq, rfl⟩ | ⟨seq, on, rfl⟩ := hc
    · exact runs_congr (runs_any _ (show execCommit t sd .damaged seq handle vint rev pulses s = _ from rfl)) (Dev.trel_damaged _ _ _ _ _ _)
    · exact runs_congr (runs_any _ (show execAmend t sd false seq handle aver pmask times s = _ from rfl)) (Dev.trel_damaged _ _ _ _ _ _)
    · exact runs_congr (runs_any _ (show execCancel t sd false seq handle pmask s = _ from rfl)) (Dev.trel_damaged _ _ _ _ _ _)
    · exact runs_congr (runs_any _ (show execTime t sd false stamp s = _ from rfl)) (Dev.tun_damaged _ _ _ _ _)
    · exact runs_congr (runs_any _ (show execTimeset t sd false seq stamp stepc dly s = _ from rfl)) (Dev.trel_damaged _ _ _ _ _ _)
    · exact runs_congr (runs_any _ (show execEchoReq t sd false etag tt s = _ from rfl)) (Dev.tun_damaged _ _ _ _ _)
    · exact runs_congr (runs_any _ (show execDiscover t sd false proto dside pos s = _ from rfl)) (if_passes_damaged _ _ _ _)
    · exact runs_congr (runs_any _ (show execRegwr t sd false seq addr data s = _ from rfl)) (Dev.trel_damaged _ _ _ _ _ _)
    · exact runs_congr (runs_any _ (show execRegrd t sd false addr s = _ from rfl)) (Dev.tun_damaged _ _ _ _ _)
    · exact runs_congr (runs_any _ (show execPrfset t sd false seq prf words s = _ from rfl)) (Dev.trel_damaged _ _ _ _ _ _)
    · exact runs_congr (runs_any _ (show execPwr t sd false seq w1 w2 s = _ from rfl)) (Dev.trel_damaged _ _ _ _ _ _)
    · exact runs_congr (runs_any _ (show execCtlReset t sd false seq beyond s = _ from rfl)) (if_passes_damaged _ _ _ _)
    · exact runs_congr (runs_any _ (show execCtlDsopen t sd false seq s = _ from rfl)) (Dev.trel_damaged _ _ _ _ _ _)
    · exact runs_congr (runs_any _ (show execCtlDsclose t sd false seq s = _ from rfl)) (Dev.trel_damaged _ _ _ _ _ _)
    · exact runs_congr (runs_any _ (show execCtlSwapDn t sd false seq s = _ from rfl)) (Dev.trel_damaged _ _ _ _ _ _)
    · exact runs_congr (runs_any _ (show execCtlSwapUp t sd false seq s = _ from rfl)) (Dev.trel_damaged _ _ _ _ _ _)
    · exact runs_congr (runs_any _ (show execCtlMirror t sd false seq on s = _ from rfl)) (Dev.trel_damaged _ _ _ _ _ _)

/-- Settles O29: a frame that a side takes is answered by one frame up, and what lanes carry is nothing of the sides. -/
theorem tileOtherFrames : Obligations.tile_other_frames := by
  unfold Obligations.tile_other_frames
  refine ⟨fun s t sd etag tt hs hp hst => ?_, fun s t sd dside proto pos hs hp hst => ?_, fun s t sd addr hs hp hst => ?_,
    fun s t sd seq addr data _ h => runs_regwr h, fun s t sd stamp hs hp hst => ?_, fun s t sd seq beyond _ hp => runs_ctlReset hp,
    fun s t sd etag tt hs => ?_⟩
  · have hg := Dev.tupAny_goes s.dev t sd 0x12 [etag % 65536, tt % 2 ^ 24, 0]
    refine completes_noTile _ (runs_echoReq hp hst) hs (Dev.tup_on _ _ (Nat.ne_of_gt hst)) (Dev.tupAny_noTile _ _ _ _ _)
      ⟨congrArg TSide.up hg.side, hg.else, Dev.noTile_rest (Dev.tupAny_noTile _ _ _ _ _)⟩
  · have hg := (Dev.upTs_goes s.dev t sd (TSide.addressed pos dside)).trans (Dev.tupAny_goes _ _ _ 0x16
      (identWords (s.dev.upTs t sd (TSide.addressed pos dside)) t sd)) fun _ => rfl
    refine completes_noTile _ (runs_discover hp) hs (Dev.discoverAt_unaddr dside pos 3 (Dev.passes_locked hp) hst) (Dev.tupAny_noTile _ _ _ _ _)
      ⟨congrArg TSide.st hg.side, congrArg TSide.pos hg.side, congrArg TSide.sd hg.side, ?_, hg.else, Dev.noTile_rest (Dev.tupAny_noTile _ _ _ _ _)⟩
    exact (congrArg (fun x : TSide => x.up.length) hg.side).trans List.length_append
  · have hg := Dev.tupAny_goes s.dev t sd 0x17 [(s.dev.tileRead t sd (addr % 65536)).1 * 2 ^ 16 + addr % 65536, (s.dev.tileRead t sd (addr % 65536)).2]
    refine completes_noTile _ (runs_regrd hp hst) hs (Dev.tup_on _ _ (Nat.ne_of_gt hst)) (Dev.tupAny_noTile _ _ _ _ _)
      ⟨congrArg TSide.up hg.side, hg.else, Dev.noTile_rest (Dev.tupAny_noTile _ _ _ _ _)⟩
  · have hg := Dev.timeTaken_goes (d := s.dev) (t := t) (sd := sd) stamp (by omega)
    refine completes_noTile _ (runs_time hp hst) hs rfl (Dev.timeTaken_noTile _ _ _ _)
      ⟨congrArg TSide.fresh hg.side, congrArg TSide.tstep hg.side, congrArg TSide.wdrop hg.side, congrArg TSide.cv0 hg.side,
        congrArg TSide.cv1 hg.side, ?_, hg.else, Dev.noTile_rest (Dev.timeTaken_noTile _ _ _ _)⟩
    exact (congrArg (fun x : TSide => x.up.length) hg.side).trans List.length_append
  · refine completes_noTile (s.dev.tileDiscards t sd)
      (runs_congr (runs_any _ (show execEchoReq t sd false etag tt s = _ from rfl)) (Dev.tun_damaged _ _ _ _ _)) hs rfl
      (s.dev.tileDiscards_noTile t sd) ⟨by rw [Dev.tileDiscards_ts], Dev.noTile_reg (s.dev.tileDiscards_noTile t sd)⟩

end Sys2Proof.Machine

/-! PROOFS. Link events and leases of a tile (R234, R268, R274, R282, R285, R355-R363). -/

namespace Sys2Proof.Machine

/-! ### What goes on down lanes (R232-R236) -/

/-- The device without its tiles and links. -/
def Dev.noLink (d : Dev) : Dev := { d with tile := [], lnk := [] }

theorem Dev.noLink_of_noTile {d e : Dev} (h : e.noTile = d.noTile) : e.noLink = d.noLink := congrArg (fun x : Dev => { x with lnk := [] }) h

theorem Dev.noLink_rest {d e : Dev} (h : e.noLink = d.noLink) : { e with tile := d.tile, lnk := d.lnk } = d :=
  congrArg (fun x : Dev => { x with tile := d.tile, lnk := d.lnk }) h

theorem Dev.noLink_reg {d e : Dev} (h : e.noLink = d.noLink) : e.reg = d.reg :=
  show e.noLink.reg = d.noLink.reg from congrArg Dev.reg h

theorem Dev.noLink_mySide {d e : Dev} (h : e.noLink = d.noLink) : e.mySide = d.mySide := Dev.flag_congr (Dev.noLink_reg h) _

theorem Dev.setLk_noLink (d : Dev) (n : Nat) (l : Link) : (d.setLk n l).noLink = d.noLink := rfl

theorem TSide.swapDue_noLanes (x : TSide) (c : Nat) : (x.swapDue c).noLanes = x.noLanes := by
  unfold TSide.swapDue
  split
  · rfl
  · rfl

theorem TSide.putDn_noLanes (x : TSide) (cs : List Chr) (a : Nat) : (x.putDn cs a).noLanes = x.noLanes := rfl

theorem TSide.repeated_noLanes (x : TSide) (whole : Bool) (cs : List Chr) (a c : Nat) :
    (if whole then (x.putDn cs a).swapDue c else x.putDn cs a).noLanes = x.noLanes := by
  split
  · rw [TSide.swapDue_noLanes, TSide.putDn_noLanes]
  · rfl

/-- What a pass over tiles of a link does where every turn only lets lanes run. -/
theorem Dev.LanesRun.foldl {α : Type} {n : Nat} {sd : Bool} {f : Dev → α → Dev} {d : Dev} (l : List α)
    (hf : ∀ x a, a ∈ l → LanesRun n sd d x → LanesRun n sd d (f x a)) : LanesRun n sd d (l.foldl f d) :=
  List.foldlRecOn (motive := fun x => LanesRun n sd d x) l f (.refl n sd d) fun x hx a ha => hf x a ha hx

theorem Dev.repeatDn_lanesRun (d : Dev) (n : Nat) (whole : Bool) (x : Sent) : LanesRun n d.mySide d (d.repeatDn n whole x) := by
  unfold Dev.repeatDn
  split
  · exact .refl _ _ d
  · refine .foldl _ fun y p hp hy => ?_
    split
    · refine hy.upTs ?_ fun z => TSide.repeated_noLanes z _ _ _ _
      have := List.mem_range.mp hp
      omega
    · exact hy

theorem Dev.repeatDn_noTile (d : Dev) (n : Nat) (whole : Bool) (x : Sent) : (d.repeatDn n whole x).noTile = d.noTile := by
  unfold Dev.repeatDn
  split
  · rfl
  · refine List.foldlRecOn (motive := fun y : Dev => y.noTile = d.noTile) _ _ rfl fun y hy p _ => ?_
    split
    · exact (Dev.upTs_noTile _ _ _ _).trans hy
    · exact hy

theorem Dev.setLk_lanesRun (d : Dev) (m n : Nat) (sd : Bool) (l : Link) : LanesRun n sd d (d.setLk m l) := ⟨fun _ => rfl, fun _ => rfl, fun _ _ => rfl⟩

/-- The lanes of link n run on, and the side the device is attached to stays. -/
theorem Dev.setLane_runs (d : Dev) (n : Nat) (l : Link) : LanesRun n d.mySide d (d.setLane n l) ∧ (d.setLane n l).noLink = d.noLink := by
  unfold Dev.setLane
  refine List.foldlRecOn (motive := fun y : Dev => LanesRun n d.mySide d y ∧ y.noLink = d.noLink) _ _ ⟨Dev.setLk_lanesRun _ _ _ _ _, rfl⟩
    fun y hy e _ => ⟨?_, (Dev.noLink_of_noTile (Dev.repeatDn_noTile _ _ _ _)).trans hy.2⟩
  have hrun := y.repeatDn_lanesRun n true e
  rw [Dev.noLink_mySide hy.2] at hrun
  exact hy.1.trans hrun

/-- Link n with what the frame in transmission has sent so far on its spare, too. -/
def Dev.partSent (d : Dev) (n : Nat) : Dev :=
  d.setLk n { d.lk n with
    sp := if d.laneMirror n then (d.lk n).sp.copy ((d.lk n).partOf (3 * d.fab)).chars ((d.lk n).partOf (3 * d.fab)).at_ else (d.lk n).sp }

theorem Dev.lanesNow_eq (d : Dev) (n : Nat) : d.lanesNow n =
    if (((d.txNow n).lk n).partOf (3 * (d.txNow n).fab)).chars.isEmpty then d.txNow n
    else ((d.txNow n).partSent n).repeatDn n false (((d.txNow n).lk n).partOf (3 * (d.txNow n).fab)) := rfl

theorem Dev.lanesNow_runs (d : Dev) (n : Nat) : LanesRun n d.mySide d (d.lanesNow n) ∧ (d.lanesNow n).noLink = d.noLink := by
  obtain ⟨hrun, hrest⟩ : LanesRun n d.mySide d (d.txNow n) ∧ (d.txNow n).noLink = d.noLink := Dev.setLane_runs _ _ _
  have hpart : ((d.txNow n).partSent n).noLink = d.noLink := (Dev.setLk_noLink _ _ _).trans hrest
  rw [Dev.lanesNow_eq]
  split
  · exact ⟨hrun, hrest⟩
  · have hdn := ((d.txNow n).partSent n).repeatDn_lanesRun n false (((d.txNow n).lk n).partOf (3 * (d.txNow n).fab))
    rw [Dev.noLink_mySide hpart] at hdn
    exact ⟨(hrun.trans (Dev.setLk_lanesRun _ n n _ _)).trans hdn, (Dev.noLink_of_noTile (Dev.repeatDn_noTile _ _ _ _)).trans hpart⟩

/-! ### The downstream port (R234, R362) -/

/-- The lanes of a link run on where they are the device's own. -/
theorem Dev.lanesOwn_runs (d : Dev) (t : Nat) (sd : Bool) :
    LanesRun (t / 4) sd d (if sd == d.mySide then d.lanesNow (t / 4) else d) ∧ (if sd == d.mySide then d.lanesNow (t / 4) else d).noLink = d.noLink := by
  by_cases h : sd = d.mySide
  · obtain ⟨hrun, hrest⟩ := d.lanesNow_runs (t / 4)
    rw [if_pos (beq_iff_eq.mpr h)]
    rw [← h] at hrun
    exact ⟨hrun, hrest⟩
  · rw [if_neg (by simpa using h)]
    exact ⟨.refl _ _ d, rfl⟩

/-- The side after its port's change f at time c: what the port carried until then is on its lanes. -/
def TSide.ported (f : TSide → TSide) (fab : Nat) (s : TSide) : TSide :=
  let x := f s
  { x with dn := if x.locked && !s.locked then x.dn.fresh (3 * fab) else if x.repeats && !s.repeats then x.dn.idleTo (3 * fab) else x.dn
           dsp := if x.repeats && !s.repeats && x.mirror then x.dsp.idleTo (3 * fab) else x.dsp }

theorem Dev.dsPort_eq (d : Dev) (t : Nat) (sd : Bool) (f : TSide → TSide) :
    d.dsPort t sd f = (if sd == d.mySide then d.lanesNow (t / 4) else d).upTs t sd
      (TSide.ported f (if sd == d.mySide then d.lanesNow (t / 4) else d).fab) := rfl

theorem Dev.dsPort_goes (d : Dev) (t : Nat) (sd : Bool) {f : TSide → TSide} (hf : ∀ x, (f x).noLanes = (f x.noLanes).noLanes) :
    SideGoes t sd f d (d.dsPort t sd f) := by
  rw [Dev.dsPort_eq]
  have hport : ∀ (x : Dev) c, SideGoes t sd f x (x.upTs t sd (TSide.ported f c)) := fun x c => (Dev.upTs_goes _ _ _ _).congr fun _ => rfl
  exact (d.lanesOwn_runs t sd).1.goes.trans (hport _ _) hf

theorem Dev.dsPort_noLink (d : Dev) (t : Nat) (sd : Bool) (f : TSide → TSide) : (d.dsPort t sd f).noLink = d.noLink :=
  (Dev.noLink_of_noTile (Dev.upTs_noTile _ _ _ _)).trans (d.lanesOwn_runs t sd).2

theorem completes_noLink {c : Instr} {s : State} {f : Dev → Dev} {p : Dev → Prop} (x : Dev) (h : Runs c s f) (hs : s.dev.corksFresh)
    (e : f s.start = x) (hx : x.noLink = s.dev.noLink) (hp : p x) : Completes c s p :=
  completes_runs_eq x h hs e (show x.noLink.corks = s.dev.noLink.corks from congrArg Dev.corks hx)
    (show x.noLink.fab = s.dev.noLink.fab from congrArg Dev.fab hx) hp

/-- What a side keeps of its pulses when its link is lost. -/
def TSide.lost (keep : Bool) (x : TSide) : TSide := { x.unaddr with pulses := if keep then x.pulses else [] }

theorem Dev.sideLoss_goes (d : Dev) (t : Nat) (sd : Bool) : SideGoes t sd (TSide.lost ((d.tle t).lease == some sd)) d (d.sideLoss t sd) :=
  Dev.dsPort_goes _ _ _ fun _ => rfl

theorem Dev.sideLoss_noLink (d : Dev) (t : Nat) (sd : Bool) : (d.sideLoss t sd).noLink = d.noLink := Dev.dsPort_noLink _ _ _ _

theorem if_lease_eq {α : Type} (x : Option Bool) (sd : Bool) (a b : α) : (if (x == some sd) = true then a else b) = if x = some sd then a else b := by
  simp only [beq_iff_eq]

theorem runs_tileLinkWdog {s : State} {t : Fin 64} {side : Bool} (h : 2 ≤ (s.dev.ts t side).st) :
    Runs (.tileLinkWdog t side) s fun d => d.sideLoss t side :=
  runs_congr (runs_any _ (show execTileLinkWdog t side s = _ from rfl)) (if_pos h)

theorem runs_waveDrop_left {s : State} {t : Fin 64} {sd : Bool} {i : UItem} {x y : Dev} (hx : s.start.upRun t sd = x)
    (hi : (x.ts t sd).lane.wave = some i) (hy : (x.advance (((i.at_ + 60000) / 6 : Nat) - s.start.fabOff).toNat).upRun t sd = y)
    (hin : (y.ts t sd).lane.wait.contains i = false) : Runs (.waveDrop t sd) s fun _ => y := by
  refine runs_congr (runs_any _ (show execWaveDrop t sd s = _ from rfl)) ?_
  subst hx hy
  dsimp only
  rw [hi]
  exact if_neg (ne_true_of_eq_false hin)

theorem runs_waveDrop_waits {s : State} {t : Fin 64} {sd : Bool} {i : UItem} {x y : Dev} (hx : s.start.upRun t sd = x)
    (hi : (x.ts t sd).lane.wave = some i) (hy : (x.advance (((i.at_ + 60000) / 6 : Nat) - s.start.fabOff).toNat).upRun t sd = y)
    (hin : (y.ts t sd).lane.wait.contains i = true) : Runs (.waveDrop t sd) s fun _ => y.upTs t sd (fun x =>
      { x with up := if i.own then x.up.erase i.frame else x.up, lane := { x.lane with wait := x.lane.wait.erase i }, wdrop := min 255 (x.wdrop + 1) }) := by
  refine runs_congr (runs_any _ (show execWaveDrop t sd s = _ from rfl)) ?_
  subst hx hy
  dsimp only
  rw [hi]
  exact if_pos hin

theorem runs_freshExpiry {s : State} {t : Fin 64} {side : Bool} (h : (s.dev.tle t).lease ≠ some side) :
    Runs (.freshExpiry t side) s fun d => d.upTs t side (fun x => { x with fresh := false }) :=
  runs_congr (runs_any _ (show execFreshExpiry t side s = _ from rfl)) (if_neg h)

/-- A downstream loss reported (R274): the words of DIAG. -/
def TSide.dsGone (x : TSide) : TSide := { x with dsPres := false }

theorem Dev.tdiag_timed {d : Dev} {t : Nat} {sd : Bool} (level : Bool) (out code data : Nat) (h : 2 ≤ (d.ts t sd).st) :
    d.tdiag t sd level out code data =
      d.tupAny t sd 0x15 [b2n level * 2 ^ 11 + out * 2 ^ 8 + code, data % 2 ^ 32, ofS 32 (d.tlu t sd)] := by
  have h0 : (d.ts t sd).st ≠ 0 := by omega
  unfold Dev.tdiag Dev.tlu32
  rw [if_neg h0, if_pos h]
  exact Dev.tup_on _ _ h0

theorem Dev.tlu_upTs {d : Dev} {t : Nat} {sd : Bool} {f : TSide → TSide} (hf : ∀ x, (f x).off = x.off) : (d.upTs t sd f).tlu t sd = d.tlu t sd := by
  rw [Dev.tlu, Dev.ts_upTs_same, hf]
  rfl

theorem Dev.dsLost_eq {d : Dev} {t : Nat} {sd : Bool} (h : 2 ≤ (d.ts t sd).st) :
    (d.upTs t sd TSide.dsGone).tdiag t sd true 0 0x01 0 = (d.upTs t sd TSide.dsGone).tupAny t sd 0x15 [2048 + 0x01, 0, ofS 32 (d.tlu t sd)] := by
  rw [Dev.tdiag_timed _ _ _ _ (by rw [Dev.ts_upTs_same]; exact h), Dev.tlu_upTs (f := TSide.dsGone) fun _ => rfl]
  rfl

theorem Dev.fltNew_of_noTile {d e : Dev} (h : e.noTile = d.noTile) : { e with tile := d.tile, fltNew := d.fltNew } = d :=
  congrArg (fun x : Dev => { x with tile := d.tile, fltNew := d.fltNew }) h

/-- Settles O35: a port's change lets its lanes run on first, and moves nothing else of the other side and the other tiles. -/
theorem tileLinkEvents : Obligations.tile_link_events := by
  unfold Obligations.tile_link_events
  refine ⟨fun s t sd hs => ?_, fun s t sd hs hst => ?_, fun s t sd hs hst => ?_, fun s t sd hs => ?_, fun s t hs => ?_, fun s t sd hs hst => ?_,
    fun s t sd hs => ?_, fun s t sd i x y _ hx hi hy hin => runs_waveDrop_waits hx hi hy hin,
    fun s t sd i x y _ hx hi hy hin => runs_waveDrop_left hx hi hy hin, fun s t sd hs h => ?_⟩
  · have hg := (s.dev.sideLoss_goes t sd).trans (Dev.dsPort_goes (s.dev.sideLoss t sd) t sd (f := fun x => { x with locked := false }) fun _ => rfl)
      fun _ => rfl
    have hrest := (Dev.dsPort_noLink (s.dev.sideLoss t sd) t sd fun x => { x with locked := false }).trans (s.dev.sideLoss_noLink t sd)
    refine completes_noLink _ (runs_any (fun d => (d.sideLoss t sd).dsPort t sd (fun x => { x with locked := false })) rfl) hs rfl hrest
      ⟨congrArg TSide.st hg.side, (congrArg TSide.locked hg.side :), congrArg TSide.seqs hg.side, congrArg TSide.dsopen hg.side, ?_, hg.other t, hg.else,
        Dev.noLink_rest hrest⟩
    exact (congrArg TSide.pulses hg.side).trans (if_lease_eq _ _ _ _)
  · have hg := s.dev.sideLoss_goes t sd
    refine completes_noLink _ (runs_tileLinkWdog hst) hs rfl (s.dev.sideLoss_noLink t sd)
      ⟨congrArg TSide.st hg.side, (congrArg TSide.locked hg.side :), congrArg TSide.seqs hg.side, congrArg TSide.dsopen hg.side, ?_, hg.other t, hg.else,
        Dev.noLink_rest (s.dev.sideLoss_noLink t sd)⟩
    exact (congrArg TSide.pulses hg.side).trans (if_lease_eq _ _ _ _)
  · exact completes_runs_eq s.dev (runs_any _ (show execTileLinkWdog t sd s = _ from rfl)) hs (if_neg (Nat.not_le_of_lt hst)) rfl rfl rfl
  · have hg := Dev.dsPort_goes s.dev t sd (f := fun x => { x with locked := true }) fun _ => rfl
    have hrest := Dev.dsPort_noLink s.dev t sd fun x => { x with locked := true }
    exact completes_noLink _ (runs_any (fun d => d.dsPort t sd (fun x => { x with locked := true })) rfl) hs rfl hrest
      ⟨congrArg TSide.locked hg.side, (congrArg TSide.st hg.side :), hg.other t, hg.else, Dev.noLink_rest hrest⟩
  · refine completes_noTile _ (runs_any (fun d => d.setTle t { tile0 with vrefAt := d.now, quiet := d.now }) rfl) hs rfl
      (Dev.setTle_noTile _ _ _) ⟨fun sd => ?_, ?_, ?_, ?_, fun u hu => Dev.tle_setTle_ne _ _ hu, Dev.fltNew_of_noTile (Dev.setTle_noTile _ _ _)⟩
    · rw [Dev.ts, Dev.tle_setTle_same]
      cases sd <;> exact ⟨rfl, rfl⟩
    · exact congrArg Tile.regs (Dev.tle_setTle_same _ _ _)
    · exact congrArg Tile.outs (Dev.tle_setTle_same _ _ _)
    · exact congrArg Tile.lease (Dev.tle_setTle_same _ _ _)
  · have hg := (Dev.upTs_goes s.dev t sd TSide.dsGone).trans (Dev.tupAny_goes _ _ _ 0x15 [2048 + 0x01, 0, ofS 32 (s.dev.tlu t sd)]) fun _ => rfl
    have hrest := Dev.tupAny_noTile (s.dev.upTs t sd TSide.dsGone) t sd 0x15 [2048 + 0x01, 0, ofS 32 (s.dev.tlu t sd)]
    exact completes_noTile _ (runs_any (fun d => (d.upTs t sd TSide.dsGone).tdiag t sd true 0 0x01 0) rfl) hs (Dev.dsLost_eq hst) hrest
      ⟨congrArg TSide.dsPres hg.side, congrArg TSide.up hg.side, hg.other t, hg.else, Dev.fltNew_of_noTile hrest⟩
  · refine completes_noTile _ (runs_any (fun d => d.upTs t sd (fun x => { x with dsPres := true })) rfl) hs rfl (Dev.upTs_noTile _ _ _ _)
      ⟨?_, ?_, Dev.fltNew_of_noTile (Dev.upTs_noTile _ _ _ _)⟩
    · rw [Dev.ts_upTs_same]
    · rw [Dev.ts_upTs_same, State.start]
  · refine completes_noTile _ (runs_freshExpiry h) hs rfl (Dev.upTs_noTile _ _ _ _) ⟨?_, ?_, Dev.fltNew_of_noTile (Dev.upTs_noTile _ _ _ _)⟩
    · rw [Dev.ts_upTs_same]
    · exact (congrArg Tile.lease (Dev.upTs_goes s.dev t sd fun x => { x with fresh := false }).own :)

/-! ### The lease (R355-R363) -/

theorem runs_leaseGrant_a {s : State} {t : Fin 64} (hl : (s.dev.tle t).lease = none) (ha : s.dev.tEligible t false = true) :
    Runs (.leaseGrant t) s fun d => d.leaseGain t false 0 :=
  runs_congr (runs_any _ (show execLeaseGrant t s = _ from rfl)) (by
    simp only [State.start, hl, ha, Option.isSome_none, Bool.false_eq_true, if_false, if_true])

theorem runs_leaseGrant_b {s : State} {t : Fin 64} (hl : (s.dev.tle t).lease = none) (ha : s.dev.tEligible t false = false)
    (hb : s.dev.tEligible t true = true) : Runs (.leaseGrant t) s fun d => d.leaseGain t true 0 :=
  runs_congr (runs_any _ (show execLeaseGrant t s = _ from rfl)) (by
    simp only [State.start, hl, ha, hb, Option.isSome_none, Bool.false_eq_true, if_false, if_true])

theorem runs_leaseLapse {s : State} {t : Fin 64} {sd : Bool} {r : Nat} (hl : (s.dev.tle t).lease = some sd)
    (hr : r = (if (s.dev.ts t sd).st < 3 then 1 else if s.dev.tget t sd F.TILE_DUP_ELIG = 0 then 2 else 0)) :
    Runs (.leaseLapse t) s fun d =>
      let x := (if r = 0 then d.upTs t sd (fun s => { s with fresh := false }) else d).leaseLose t sd r
      if x.tEligible t (!sd) then x.leaseGain t (!sd) 1 else x.cutDrives t 7 (fun _ => true) :=
  runs_congr (runs_any _ (show execLeaseLapse t s = _ from rfl)) (by
    subst hr
    simp only [State.start, hl]
    rfl)

theorem runs_yieldDue {s : State} {t : Fin 64} {sd : Bool} {at_ : Int} (hl : (s.dev.tle t).lease = some sd)
    (ha : (s.dev.ts t sd).yieldAt = some at_) :
    Runs (.yieldDue t) s fun d =>
      let x := d.reachTick t sd at_
      if x.tEligible t (!sd) then (x.leaseLose t sd 3).leaseGain t (!sd) 2 else (x.upTs t sd (fun s => { s with yieldAt := none })).tdiag2 t true 0 0x0B 0 :=
  runs_congr (runs_any _ (show execYieldDue t s = _ from rfl)) (by simp only [State.start, hl, ha])

theorem runs_shadowUnmatched {s : State} {t : Fin 64} {side : Bool} {handle : Nat} {pidx : Fin 8} {p : TPulse}
    (hp : (s.dev.ts t side).pulses.find? (fun p => p.handle == handle && p.pidx == pidx.val) = some p) (hl : (s.dev.tle t).lease ≠ some side) :
    Runs (.shadowUnmatched t side handle pidx) s fun d =>
      (((d.reachLu t side (p.start + 16)).upTs t side (fun s => s.drop p)).mismatch t p.out 0x7FFF).tdone t side p 8 p.start p.start 0 0 :=
  runs_congr (runs_any _ (show execShadowUnmatched t side handle pidx s = _ from rfl)) (by
    simp only [State.start, hp]
    exact if_neg hl)

theorem Dev.trd_twr_same (d : Dev) (t : Nat) (sd : Bool) (a : Nat) (w : Word) : (d.twr t sd a w).trd t sd a = w := by
  rw [Dev.trd, Dev.twr, Dev.tle_upTle_same]
  exact smGet_smSet_same _ _ _ _

/-- A register of a tile cleared. -/
theorem completes_tileClears {c : Instr} {s : State} {t : Fin 64} {sd : Bool} {a : Nat} (hs : s.dev.corksFresh) (h : Runs c s fun d => d.twr t sd a 0) :
    Completes c s fun e => e.trd t sd a = 0 ∧ (∀ u, u ≠ t.val → e.tle u = s.dev.tle u) ∧ { e with tile := s.dev.tile, fltNew := s.dev.fltNew } = s.dev :=
  completes_noTile _ h hs rfl (Dev.upTle_noTile _ _ _)
    ⟨Dev.trd_twr_same _ _ _ _ _, fun _ hu => Dev.tle_upTle_ne _ _ hu, Dev.fltNew_of_noTile (Dev.upTle_noTile _ _ _)⟩

/-- Settles O38: by the branches of each command on the lease, the state and what is due. -/
theorem tileLeases : Obligations.tile_leases := by
  unfold Obligations.tile_leases
  refine ⟨fun s t _ => runs_leaseGrant_a, fun s t _ => runs_leaseGrant_b, fun s t sd hs hl => ?_, fun s t sd _ hl hst hel => ?_,
    fun s t sd data _ => runs_any _ rfl, fun s t sd at_ _ hl ha hel => runs_congr (runs_yieldDue hl ha) (if_pos hel),
    fun s t sd at_ _ hl ha hel => runs_congr (runs_yieldDue hl ha) (if_neg (ne_true_of_eq_false hel)),
    fun s t sd handle pidx p _ => runs_shadowUnmatched, fun s t sd hs => completes_tileClears hs (runs_any _ rfl),
    fun s t sd hs => completes_tileClears hs (runs_any _ rfl)⟩
  · refine completes_runs_eq s.dev (runs_any _ (show execLeaseGrant t s = _ from rfl)) hs ?_ rfl rfl rfl
    exact if_pos (by rw [State.start, hl]; rfl)
  · exact runs_congr (runs_leaseLapse (r := 1) hl (if_pos hst).symm) (if_pos hel)

end Sys2Proof.Machine

/-! PROOFS. What a tile does on its outputs: drives, the boost converter, tests, the inhibit latch (R288-R327). -/

namespace Sys2Proof.Machine

/-! ### Outputs of a tile -/

@[simp] theorem Dev.to_upTo_same (d : Dev) (t j : Nat) (f : TOut → TOut) : (d.upTo t j f).to t j = f (d.to t j) := by
  rw [Dev.to, Dev.upTo, Dev.tle_upTle_same]
  exact smGet_smSet_same _ _ _ _

theorem Dev.to_upTo_ne (d : Dev) (t : Nat) {i j : Nat} (f : TOut → TOut) (h : i ≠ j) : (d.upTo t j f).to t i = d.to t i := by
  rw [Dev.to, Dev.upTo, Dev.tle_upTle_same]
  exact smGet_smSet_ne _ _ _ _ h

theorem Dev.tle_upTo_ne (d : Dev) {t u : Nat} (j : Nat) (f : TOut → TOut) (h : u ≠ t) : (d.upTo t j f).tle u = d.tle u := Dev.tle_upTle_ne _ _ h

/-- Outputs below k that p picks change by f. -/
theorem Dev.to_forN_upTo (d : Dev) (t k : Nat) (p : Nat → Bool) (f : TOut → TOut) (j : Nat) :
    (forN k (fun (x : Dev) j => if p j then x.upTo t j f else x) d).to t j = if j < k ∧ p j then f (d.to t j) else d.to t j := by
  induction k with
  | zero => simp [forN]
  | succ k ih =>
    rw [forN_succ]
    by_cases hj : j = k
    · subst hj
      have hprev : (forN j (fun (x : Dev) j => if p j then x.upTo t j f else x) d).to t j = d.to t j := by simp [ih]
      by_cases hp : p j = true
      · rw [if_pos hp, Dev.to_upTo_same, hprev, if_pos ⟨Nat.lt_succ_self j, hp⟩]
      · rw [if_neg hp, hprev, if_neg fun h => hp h.2]
    · have hstep : ((fun (x : Dev) j => if p j then x.upTo t j f else x) (forN k (fun (x : Dev) j => if p j then x.upTo t j f else x) d) k).to t j
          = (forN k (fun (x : Dev) j => if p j then x.upTo t j f else x) d).to t j := by
        dsimp only
        split
        · exact Dev.to_upTo_ne _ _ _ hj
        · rfl
      rw [hstep, ih]
      have hiff : j < k + 1 ↔ j < k := by omega
      simp only [hiff]

/-! ### Drives (R288-R299) -/

theorem runs_tilePulseStart {s : State} {t : Fin 64} {side : Bool} {handle : Nat} {pidx : Fin 8} {p : TPulse}
    (hp : (s.dev.ts t side).pulses.find? (fun p => p.handle == handle && p.pidx == pidx.val) = some p)
    (hl : (s.dev.tle t).lease = some side) (hst : (s.dev.ts t side).st = 3) :
    Runs (.tilePulseStart t side handle pidx) s fun d => d.pulseStart t side p :=
  runs_congr (runs_any _ (show execTilePulseStart t side handle pidx s = _ from rfl)) (by
    simp only [State.start, hp]
    exact if_pos (by simp [hl, hst]))

theorem runs_tilePhaseAdvance {s : State} {t : Fin 64} {out : Fin 8} {cur : Nat} {v : Drive} (hv : (s.dev.to t out).drv = some v) :
    Runs (.tilePhaseAdvance t out cur) s fun d => d.phaseNext t out (v.see cur) cur :=
  runs_congr (runs_any _ (show execTilePhaseAdvance t out cur s = _ from rfl)) (by simp only [State.start, hv])

theorem runs_tileChopSwitch {s : State} {t : Fin 64} {out : Fin 8} {cur : Nat} {v : Drive} (hv : (s.dev.to t out).drv = some v) :
    Runs (.tileChopSwitch t out cur) s fun d => d.upDrv t out ((v.see cur).chop (d.tlu t v.side) cur) :=
  runs_congr (runs_any _ (show execTileChopSwitch t out cur s = _ from rfl)) (by simp only [State.start, hv])

theorem runs_electricalEnd {s : State} {t : Fin 64} {out : Fin 8} {v : Drive} (hv : (s.dev.to t out).drv = some v) (hph : v.phase ≠ .off) :
    Runs (.electricalEnd t out) s fun d => (d.reachLu t v.side v.p.stop).drvEnd t out v (max v.p.stop (d.tlu t v.side)) 0 v.status :=
  runs_congr (runs_any _ (show execElectricalEnd t out s = _ from rfl)) (by
    simp only [State.start, hv]
    exact if_neg hph)

theorem runs_closingWindowEnd {s : State} {t : Fin 64} {out : Fin 8} {w : CWin} (hw : (s.dev.to t out).win = some w) :
    Runs (.closingWindowEnd t out) s fun d => (d.reachLu t w.side w.stop).winEnd t out w.stop :=
  runs_congr (runs_any _ (show execClosingWindowEnd t out s = _ from rfl)) (by simp only [State.start, hw])

theorem runs_openOnCheck {s : State} {t : Fin 64} {out : Fin 8} {cur : Nat} {v : Drive} (hv : (s.dev.to t out).drv = some v)
    (hph : v.phase ≠ .off) (hj : v.judged = false) (hlong : v.start + 12800 ≤ v.p.stop) :
    Runs (.openOnCheck t out cur) s fun d =>
      let x := (d.reachLu t v.side (v.start + 12800)).upDrv t out { v.see cur with judged := true }
      if cur < v.p.fld 5 27 16 then x.causeCome t out 0x18 cur else x.causeGone t out 0x18 cur :=
  runs_congr (runs_any _ (show execOpenOnCheck t out cur s = _ from rfl)) (by
    simp only [State.start, hv]
    exact if_neg (by simp [hph, hj, hlong]))

theorem runs_openOnCheck_short {s : State} {t : Fin 64} {out : Fin 8} {cur : Nat} {v : Drive} (hv : (s.dev.to t out).drv = some v)
    (hshort : v.p.stop < v.start + 12800) : Runs (.openOnCheck t out cur) s fun d => d :=
  runs_congr (runs_any _ (show execOpenOnCheck t out cur s = _ from rfl)) (by
    simp only [State.start, hv]
    exact if_pos (by simp [hshort]))

theorem runs_overcurrentTrip {s : State} {t : Fin 64} {out : Fin 8} {cur : Nat} {v : Drive} (hv : (s.dev.to t out).drv = some v)
    (hph : v.phase ≠ .off) (hover : v.p.fld 5 11 0 ≤ cur) :
    Runs (.overcurrentTrip t out cur) s fun d => (d.drvEnd t out (v.see cur) (d.tlu t v.side) cur 5).causeCome t out 0x19 (v.see cur).ipk :=
  runs_congr (runs_any _ (show execOvercurrentTrip t out cur s = _ from rfl)) (by
    simp only [State.start, hv]
    exact if_neg (by simp [hph, hover]))

theorem Dev.phaseNext_dec1 {d : Dev} {t j cur : Nat} {v : Drive} (hph : v.phase = .dec1) (hcur : cur ≤ v.hold1) :
    d.phaseNext t j v cur = d.upDrv t j (v.enter .hold1 (d.tlu t v.side) cur) := by
  unfold Dev.phaseNext
  simp only [hph, hcur, if_true]

/-- A peak or first hold whose time passes before the electrical end. -/
theorem Dev.phaseNext_timed {d : Dev} {t j cur : Nat} {v : Drive} {lim : Int} (hph : v.phase = .peak ∨ v.phase = .hold1)
    (hlim : v.limit = some lim) (hstop : lim < v.p.stop) : d.phaseNext t j v cur = d.phaseTimed t j v cur lim := by
  have hno : ¬ (v.p.stop ≤ lim) := by omega
  unfold Dev.phaseNext
  rcases hph with hph | hph
  · simp [hph, hlim, hno]
  · simp [hph, hlim, hno]

/-- A switch on the supply at or above its level lets the coil freewheel (R290). -/
theorem Drive.chop_over {v : Drive} {x cur : Nat} (now : Int) (hlev : v.level = some x) (hover : x ≤ cur) (hsrc : v.src = .supply) :
    v.chop now cur = { v with src := .free, swOff := now } := by
  unfold Drive.chop
  simp only [hlev, hover, if_true]
  unfold Drive.cut
  simp [hsrc]

theorem completes_upDrv {c : Instr} {s : State} {t : Fin 64} {out : Fin 8} {f : Dev → Dev} {v : Drive} (hs : s.dev.corksFresh) (h : Runs c s f)
    (hf : f s.dev = s.dev.upDrv t out v) :
    Completes c s fun e => (e.to t out).drv = some v ∧ (∀ u, u ≠ t.val → e.tle u = s.dev.tle u)
      ∧ { e with tile := s.dev.tile, fltNew := s.dev.fltNew } = s.dev := by
  refine completes_noTile (s.dev.upDrv t out v) h hs hf (Dev.upTo_noTile _ _ _ _)
    ⟨?_, fun _ hu => Dev.tle_upTo_ne _ _ _ hu, Dev.fltNew_of_noTile (Dev.upTo_noTile _ _ _ _)⟩
  rw [Dev.upDrv, Dev.to_upTo_same]

/-- Settles O36: by the branches of each command on the drive it finds. -/
theorem tileDrive : Obligations.tile_drive := by
  unfold Obligations.tile_drive
  refine ⟨fun s t sd handle pidx p _ => runs_tilePulseStart, fun s t out cur v hs hv hph hcur => ?_,
    fun s t out cur v lim _ hv hph hlim hstop => runs_congr (runs_tilePhaseAdvance hv) (Dev.phaseNext_timed hph hlim hstop),
    fun s t out cur v _ => runs_tilePhaseAdvance, fun s t out cur x v hs hv hlev hover hsrc => ?_, fun s t out cur v _ => runs_tileChopSwitch,
    fun s t out v _ => runs_electricalEnd, fun s t out w _ => runs_closingWindowEnd,
    fun s t out cur v _ hv hph hj hlong hlow => runs_congr (runs_openOnCheck hv hph hj hlong) (if_pos hlow),
    fun s t out cur v _ hv hph hj hlong hhigh => runs_congr (runs_openOnCheck hv hph hj hlong) (if_neg (Nat.not_lt.mpr hhigh)),
    fun s t out cur v _ => runs_openOnCheck_short, fun s t out cur v _ => runs_overcurrentTrip⟩
  · exact completes_upDrv hs (runs_tilePhaseAdvance hv) (Dev.phaseNext_dec1 hph hcur)
  · refine completes_upDrv hs (runs_tileChopSwitch hv) ?_
    rw [Drive.chop_over (v := v.see cur) _ hlev hover hsrc]
    rfl

/-! ### Reports of a tile: only sides and free values drawn -/

/-! Parts of a tile beside its sides and outputs. (Stated of tiles as variables: of a tile of a device that is written out they
would be evaluated.) -/

theorem Tile.inhp_of_noSides {x y : Tile} (h : x.noSides = y.noSides) : x.inhp = y.inhp := (congrArg Tile.inhp h :)
theorem Tile.inhl_of_noSides {x y : Tile} (h : x.noSides = y.noSides) : x.inhl = y.inhl := (congrArg Tile.inhl h :)
theorem Tile.bflt_of_noSides {x y : Tile} (h : x.noSides = y.noSides) : x.bflt = y.bflt := (congrArg Tile.bflt h :)
theorem Tile.stopped_of_noSides {x y : Tile} (h : x.noSides = y.noSides) : x.stopped = y.stopped := (congrArg Tile.stopped h :)
theorem Tile.ready_of_noSides {x y : Tile} (h : x.noSides = y.noSides) : x.ready = y.ready := (congrArg Tile.ready h :)
theorem Tile.rail_of_noSides {x y : Tile} (h : x.noSides = y.noSides) : x.rail = y.rail := (congrArg Tile.rail h :)
theorem Tile.temp_of_noSides {x y : Tile} (h : x.noSides = y.noSides) : x.temp = y.temp := (congrArg Tile.temp h :)
theorem Tile.hot_of_noSides {x y : Tile} (h : x.noSides = y.noSides) : x.hot = y.hot := (congrArg Tile.hot h :)

/-- A tile without its outputs. -/
def Tile.noOuts (x : Tile) : Tile := { x with outs := [] }

theorem Tile.inhp_of_noOuts {x y : Tile} (h : x.noOuts = y.noOuts) : x.inhp = y.inhp := (congrArg Tile.inhp h :)
theorem Tile.inhl_of_noOuts {x y : Tile} (h : x.noOuts = y.noOuts) : x.inhl = y.inhl := (congrArg Tile.inhl h :)

/-- The device without its tiles and the count of free values drawn. -/
def Dev.noDraw (d : Dev) : Dev := { d with tile := [], draw := 0 }

theorem Dev.noDraw_of_noTile {d e : Dev} (h : e.noTile = d.noTile) : e.noDraw = d.noDraw := congrArg (fun x : Dev => { x with draw := 0 }) h

theorem Dev.noDraw_rest {d e : Dev} (h : e.noDraw = d.noDraw) : { e with tile := d.tile, draw := d.draw, fltNew := d.fltNew } = d :=
  congrArg (fun x : Dev => { x with tile := d.tile, draw := d.draw, fltNew := d.fltNew }) h

/-- Tile t changes by g, but for its sides; of the tiles of its link only sides change, of other tiles nothing. -/
structure Dev.TileGoes (t : Nat) (g : Tile → Tile) (d e : Dev) : Prop where
  tile : (e.tle t).noSides = (g (d.tle t)).noSides
  far : ∀ u, u / 4 ≠ t / 4 → e.tle u = d.tle u
  rest : e.noDraw = d.noDraw

theorem Dev.TileGoes.trans {t : Nat} {g h : Tile → Tile} {d e f : Dev} (hd : TileGoes t g d e) (he : TileGoes t h e f)
    (hh : ∀ x, (h x).noSides = (h x.noSides).noSides) : TileGoes t (fun x => h (g x)) d f := by
  refine ⟨?_, fun u hu => (he.far u hu).trans (hd.far u hu), he.rest.trans hd.rest⟩
  rw [he.tile, hh, hd.tile, ← hh]

theorem Dev.TileGoes.congr {t : Nat} {g h : Tile → Tile} {d e : Dev} (hd : TileGoes t g d e) (hg : (g (d.tle t)).noSides = (h (d.tle t)).noSides) :
    TileGoes t h d e := ⟨hd.tile.trans hg, hd.far, hd.rest⟩

theorem Dev.upTle_goes (d : Dev) (t : Nat) (f : Tile → Tile) : TileGoes t f d (d.upTle t f) :=
  ⟨by rw [Dev.tle_upTle_same], fun u hu => Dev.tle_upTle_ne _ _ fun he => hu (by rw [he]), rfl⟩

theorem Dev.SideGoes.tile {t : Nat} {sd : Bool} {g : TSide → TSide} {d e : Dev} (h : SideGoes t sd g d e) (hr : e.noTile = d.noTile) :
    TileGoes t id d e := ⟨h.own, h.far, Dev.noDraw_of_noTile hr⟩

theorem Dev.TileGoes.refl (t : Nat) (d : Dev) : TileGoes t id d d := ⟨rfl, fun _ _ => rfl, rfl⟩

theorem Dev.drawFree_goes (d : Dev) (t : Nat) : TileGoes t id d d.drawFree.2 := ⟨rfl, fun _ _ => rfl, rfl⟩

theorem Dev.tup_goes (d : Dev) (t : Nat) (sd : Bool) (typ : Nat) (words : List Nat) : TileGoes t id d (d.tup t sd typ words) := by
  unfold Dev.tup
  split
  · exact .refl t d
  · exact (d.tupAny_goes t sd typ words).tile (Dev.tupAny_noTile _ _ _ _ _)

theorem Dev.tlu32_goes (d : Dev) (t : Nat) (sd : Bool) : TileGoes t id d (d.tlu32 t sd).2 := by
  unfold Dev.tlu32
  split
  · exact .refl t d
  · exact d.drawFree_goes t

theorem Dev.tdiag_goes (d : Dev) (t : Nat) (sd level : Bool) (out code data : Nat) : TileGoes t id d (d.tdiag t sd level out code data) := by
  unfold Dev.tdiag
  split
  · exact .refl t d
  · exact (d.tlu32_goes t sd).trans (Dev.tup_goes _ _ _ _ _) fun _ => rfl

theorem Dev.tdiag2_goes (d : Dev) (t : Nat) (level : Bool) (out code data : Nat) : TileGoes t id d (d.tdiag2 t level out code data) :=
  (d.tdiag_goes t false level out code data).trans (Dev.tdiag_goes _ _ _ _ _ _ _) fun _ => rfl

/-- A change of the tile that is reported. -/
theorem Dev.upTle_reported (d : Dev) (t : Nat) (f : Tile → Tile) (level : Bool) (out code data : Nat) :
    TileGoes t f d ((d.upTle t f).tdiag2 t level out code data) :=
  (d.upTle_goes t f).trans (Dev.tdiag2_goes _ _ _ _ _ _) fun _ => rfl

theorem completes_noDraw {c : Instr} {s : State} {f : Dev → Dev} {p : Dev → Prop} (hs : s.dev.corksFresh) (h : Runs c s f)
    (hx : (f s.dev).noDraw = s.dev.noDraw) (hp : p (f s.dev)) : Completes c s p :=
  completes_runs_eq (f s.dev) h hs rfl (show (f s.dev).noDraw.corks = s.dev.noDraw.corks from congrArg Dev.corks hx)
    (show (f s.dev).noDraw.fab = s.dev.noDraw.fab from congrArg Dev.fab hx) hp

theorem completes_tileGoes {c : Instr} {s : State} {f : Dev → Dev} {p : Dev → Prop} {t : Nat} {g : Tile → Tile} (hs : s.dev.corksFresh)
    (h : Runs c s f) (hg : Dev.TileGoes t g s.dev (f s.dev)) (hp : p (f s.dev)) : Completes c s p := completes_noDraw hs h hg.rest hp

theorem Dev.TileGoes.to {t : Nat} {g : Tile → Tile} {d e : Dev} (h : TileGoes t g d e) (hg : ∀ x, (g x).outs = x.outs) (j : Nat) :
    e.to t j = d.to t j := by
  have houts : (e.tle t).outs = (g (d.tle t)).outs := (congrArg Tile.outs h.tile :)
  rw [Dev.to, Dev.to, Tile.out, Tile.out, houts, hg]

/-! ### The boost converter (R296-R298) -/

/-- Readiness is read off the registers, the stop and the rail. -/
def readyOf (regs : SMap Word) (stopped : Bool) (rail : Nat) : Bool :=
  let field := fun (f : Fld) => fldGet f (smGet regs (tileReset f.addr) (tileKey false f.addr))
  field F.TDRV_BOOST_CTL_EN == 1 && !stopped && decide (10 * min 180 (max 48 (field F.TDRV_BOOST_SET_VSET)) ≤ rail + 10 * field F.TDRV_BOOST_SET_RDYM)

theorem Dev.boostReady_eq (d : Dev) (t : Nat) : d.boostReady t = readyOf (d.tle t).regs (d.tle t).stopped (d.tle t).rail := rfl

theorem Dev.boostReady_congr {d e : Dev} {t : Nat} (hregs : (e.tle t).regs = (d.tle t).regs) (hstop : (e.tle t).stopped = (d.tle t).stopped)
    (hrail : (e.tle t).rail = (d.tle t).rail) : e.boostReady t = d.boostReady t := by
  rw [Dev.boostReady_eq, Dev.boostReady_eq, hregs, hstop, hrail]

/-- The fault ends only where the converter runs. -/
def Dev.faultEnds (d : Dev) (t : Nat) : Bool := (d.tle t).bflt && !(d.tle t).stopped && !d.railHigh t

/-- The fault ended, with its report. -/
def Dev.faultJudged (d : Dev) (t : Nat) : Dev :=
  if d.faultEnds t then (d.upTle t (fun x => { x with bflt := false })).tdiag2 t false 0 0x11 (d.tle t).rail else d

theorem Dev.boostJudge_eq (d : Dev) (t : Nat) : d.boostJudge t =
    if (d.faultJudged t).boostReady t == (d.tle t).ready then d.faultJudged t
    else ((d.faultJudged t).upTle t (fun x => { x with ready := (d.faultJudged t).boostReady t })).tdiag2 t (!(d.faultJudged t).boostReady t) 0 0x10 (d.tle t).rail := rfl

theorem Dev.faultJudged_goes (d : Dev) (t : Nat) : TileGoes t (fun x => { x with bflt := x.bflt && !d.faultEnds t }) d (d.faultJudged t) := by
  unfold Dev.faultJudged
  split
  · next h => exact (Dev.upTle_reported _ _ _ _ _ _ _).congr (by simp [h])
  · next h => exact (TileGoes.refl t d).congr (by simp [h])

/-- BOOST_NRDY and the end of BOOST_FAULT: readiness is that of the rail (R297, R298). -/
theorem Dev.boostJudge_goes (d : Dev) (t : Nat) :
    TileGoes t (fun x => { x with bflt := x.bflt && !d.faultEnds t, ready := d.boostReady t }) d (d.boostJudge t) := by
  have hf := d.faultJudged_goes t
  have hready : (d.faultJudged t).boostReady t = d.boostReady t :=
    Dev.boostReady_congr (congrArg Tile.regs hf.tile :) (congrArg Tile.stopped hf.tile :) (congrArg Tile.rail hf.tile :)
  rw [Dev.boostJudge_eq, hready]
  split
  · next h => exact hf.congr (by rw [eq_of_beq h])
  · exact hf.trans (Dev.upTle_reported _ _ (fun x => { x with ready := d.boostReady t }) _ _ _ _) fun _ => rfl

theorem Dev.boostJudge_ready (d : Dev) (t : Nat) : ((d.boostJudge t).tle t).ready = (d.boostJudge t).boostReady t := by
  have hg := d.boostJudge_goes t
  exact (congrArg Tile.ready hg.tile :).trans
    (Dev.boostReady_congr (congrArg Tile.regs hg.tile :) (congrArg Tile.stopped hg.tile :) (congrArg Tile.rail hg.tile :)).symm

theorem Dev.boostStop_goes (d : Dev) (t : Nat) : TileGoes t (fun x => { x with bflt := true, stopped := true }) d (d.boostStop t) := by
  unfold Dev.boostStop
  dsimp only
  split
  · exact d.upTle_goes t _
  · exact Dev.upTle_reported _ _ _ _ _ _ _

theorem Dev.boostEn_upTle (d : Dev) (t : Nat) {f : Tile → Tile} (hf : ∀ x, (f x).regs = x.regs) : (d.upTle t f).boostEn t = d.boostEn t := by
  simp only [Dev.boostEn, Dev.tget, Dev.trd, Dev.tle_upTle_same, hf]

theorem Dev.boostReady_stopped {d : Dev} {t : Nat} (h : (d.tle t).stopped = true) : d.boostReady t = false := by simp [Dev.boostReady, h]

theorem Dev.faultEnds_stopped {d : Dev} {t : Nat} (h : (d.tle t).stopped = true) : d.faultEnds t = false := by simp [Dev.faultEnds, h]

/-- A converter that stops on a fault: latched, not ready (R297, R298). -/
theorem Dev.stopJudged_goes (d : Dev) (t : Nat) :
    TileGoes t (fun x => { x with bflt := true, stopped := true, ready := false }) d ((d.boostStop t).boostJudge t) := by
  have hg := d.boostStop_goes t
  have hst : ((d.boostStop t).tle t).stopped = true := (Tile.stopped_of_noSides hg.tile).trans rfl
  have hj := (d.boostStop t).boostJudge_goes t
  rw [Dev.faultEnds_stopped hst, Dev.boostReady_stopped hst] at hj
  exact hg.trans hj fun _ => rfl

theorem runs_boostFault_low {s : State} {t : Fin 64} {rail supply : Nat} (hlow : rail ≤ supply + 40) (hen : s.dev.boostEn t = true)
    (hstop : (s.dev.tle t).stopped = false) :
    Runs (.boostFault t rail (.low supply)) s fun d => ((d.upTle t (fun x => { x with rail := rail })).boostStop t).boostJudge t :=
  runs_congr (runs_any _ (show execBoostFault t rail (.low supply) s = _ from rfl)) (by
    have hen' : (s.dev.upTle t fun x => { x with rail := rail }).boostEn t = true :=
      (s.dev.boostEn_upTle t (f := fun x => { x with rail := rail }) fun _ => rfl).trans hen
    simp only [State.start, hlow, hen', Dev.tle_upTle_same, hstop, decide_true, Bool.not_false, Bool.and_self, if_true])

theorem runs_boostFault_high {s : State} {t : Fin 64} {rail : Nat}
    (hhigh : (s.dev.upTle t (fun x => { x with rail := rail })).railHigh t = true) (hen : s.dev.boostEn t = true)
    (hstop : (s.dev.tle t).stopped = false) :
    Runs (.boostFault t rail .high) s fun d => ((d.upTle t (fun x => { x with rail := rail })).boostStop t).boostJudge t :=
  runs_congr (runs_any _ (show execBoostFault t rail .high s = _ from rfl)) (by
    have hen' : (s.dev.upTle t fun x => { x with rail := rail }).boostEn t = true :=
      (s.dev.boostEn_upTle t (f := fun x => { x with rail := rail }) fun _ => rfl).trans hen
    simp only [State.start, hhigh, hen', Dev.tle_upTle_same, hstop, Bool.not_false, Bool.and_self, if_true])

/-! ### Off-state test and inhibit (R317-R322) -/

theorem runs_offstateTestStart {s : State} {t : Fin 64} {out : Fin 8} (hp : (s.dev.to t out).offPend = true) (hd : (s.dev.to t out).drv = none)
    (hw : (s.dev.to t out).win = none) (hq : (s.dev.to t out).quiet + 4000 ≤ (s.dev.now : Int)) (ha : s.dev.offClear t false out = true)
    (hb : s.dev.offClear t true out = true) (hi : (s.dev.tle t).inhl = false) :
    Runs (.offstateTestStart t out) s fun d => d.upTo t out (fun o => { o with offPend := false, offRun := some d.now }) :=
  runs_congr (runs_any _ (show execOffstateTestStart t out s = _ from rfl)) (by
    simp only [State.start, hp, hd, hw, hq, ha, hb, hi, Option.isNone_none, decide_true, Bool.not_false, Bool.and_self, if_true])

theorem runs_offstateTestEnd {s : State} {t : Fin 64} {out : Fin 8} {von voff vsup : Nat} {at_ : Int} (h : (s.dev.to t out).offRun = some at_) :
    Runs (.offstateTestEnd t out von voff vsup) s fun d =>
      let x := (d.advance (at_ + 40000).toNat).upTo t out (fun o => { o with offRun := none })
      let y := if 80 < von then x.causeCome t out 0x1C von else x.causeGone t out 0x1C von
      let z := if von < 4 then y.causeCome t out 0x1D von else y.causeGone t out 0x1D von
      if vsup < voff + 20 then z.causeCome t out 0x1E voff else z.causeGone t out 0x1E voff :=
  runs_congr (runs_any _ (show execOffstateTestEnd t out von voff vsup s = _ from rfl)) (by simp only [State.start, h])

theorem Dev.offtReq_free {d : Dev} {t : Nat} (mask : Nat) (h : (d.tle t).inhl = false) :
    d.offtReq t mask = forN 8 (fun (x : Dev) j => if bitOf mask j then x.upTo t j (fun o => { o with offPend := true }) else x) d :=
  if_neg (ne_true_of_eq_false h)

/-- A pass over outputs of tile t: other tiles and the rest stand. -/
theorem Dev.forN_upTo_rest (d : Dev) (t k : Nat) (p : Nat → Bool) (f : TOut → TOut) :
    (∀ u, u ≠ t → (forN k (fun (x : Dev) j => if p j then x.upTo t j f else x) d).tle u = d.tle u)
      ∧ (forN k (fun (x : Dev) j => if p j then x.upTo t j f else x) d).noTile = d.noTile := by
  constructor
  · intro u hu
    refine forN_keeps (fun x => x.tle u) (fun x j => ?_) k d
    split
    · exact Dev.tle_upTo_ne _ _ _ hu
    · rfl
  · refine forN_keeps Dev.noTile (fun x j => ?_) k d
    split
    · exact Dev.upTo_noTile _ _ _ _
    · rfl

/-- The ends of drives: of tile t's outputs no test and of the tile nothing but outputs changes. -/
structure Dev.DrivesEnd (t : Nat) (d e : Dev) : Prop where
  outs : ∀ j, (e.to t j).offPend = (d.to t j).offPend ∧ (e.to t j).offRun = (d.to t j).offRun
  tile : (e.tle t).noOuts = (d.tle t).noOuts
  ne : ∀ u, u ≠ t → e.tle u = d.tle u
  rest : e.noTile = d.noTile

theorem Dev.DrivesEnd.refl (t : Nat) (d : Dev) : DrivesEnd t d d := ⟨fun _ => ⟨rfl, rfl⟩, rfl, fun _ _ => rfl, rfl⟩

theorem Dev.DrivesEnd.upTo {t : Nat} {d e : Dev} (h : DrivesEnd t d e) (j : Nat) {f : TOut → TOut}
    (hf : ∀ o, (f o).offPend = o.offPend ∧ (f o).offRun = o.offRun) : DrivesEnd t d (e.upTo t j f) := by
  refine ⟨fun i => ?_, ?_, fun u hu => (Dev.tle_upTo_ne _ _ _ hu).trans (h.ne u hu), (Dev.upTo_noTile _ _ _ _).trans h.rest⟩
  · by_cases hi : i = j
    · subst hi
      rw [Dev.to_upTo_same, (hf _).1, (hf _).2]
      exact h.outs i
    · rw [Dev.to_upTo_ne _ _ _ hi]
      exact h.outs i
  · rw [Dev.upTo, Dev.tle_upTle_same]
    exact h.tile

theorem Dev.DrivesEnd.drvEnd {t : Nat} {d e : Dev} (h : DrivesEnd t d e) (j : Nat) (v : Drive) (now : Int) (cur status : Nat) :
    DrivesEnd t d (e.drvEnd t j v now cur status) := by
  unfold Dev.drvEnd
  dsimp only
  split
  · exact h.upTo j fun _ => ⟨rfl, rfl⟩
  · refine .upTo (.upTo h j ?_) j ?_
    · exact fun _ => ⟨rfl, rfl⟩
    · exact fun _ => ⟨rfl, rfl⟩

theorem Dev.cutDrives_ends (d : Dev) (t status : Nat) (sel : Drive → Bool) : DrivesEnd t d (d.cutDrives t status sel) := by
  unfold Dev.cutDrives
  generalize 8 = k
  induction k with
  | zero => exact .refl t d
  | succ k ih =>
    rw [forN_succ]
    split
    · split
      · exact ih.drvEnd _ _ _ _ _
      · exact ih
    · exact ih

/-- The inhibit input latched, and every test of the tile ended (R319, R321). -/
def Dev.inhibited (d : Dev) (t : Nat) : Dev :=
  forN 8 (fun x j => x.upTo t j (fun o => { o with offPend := false, offRun := none })) (d.upTle t (fun x => { x with inhp := true, inhl := true }))

/-- The drives cut and the latch reported. -/
def Dev.inhibitCuts (d : Dev) (t : Nat) : Dev := (d.cutDrives t 4 (fun _ => true)).tdiag2 t true 0 0x20 1

theorem runs_inhibitInput {s : State} {t : Fin 64} :
    Runs (.inhibitInput t) s fun d => if (d.tle t).inhl then d.inhibited t else (d.inhibited t).inhibitCuts t := runs_any _ rfl

/-- What the input leaves of a tile: both latches set, no test requested or under way; other links and the rest stand. -/
structure Dev.Inhibited (t : Nat) (d e : Dev) : Prop where
  latch : (e.tle t).inhp = true ∧ (e.tle t).inhl = true
  tests : ∀ j, j < 8 → (e.to t j).offPend = false ∧ (e.to t j).offRun = none
  far : ∀ u, u / 4 ≠ t / 4 → e.tle u = d.tle u
  rest : e.noDraw = d.noDraw

/-- Outputs of a tile are written: of the tile nothing else changes. -/
theorem Dev.forN_upTo_tile (d : Dev) (t k : Nat) (f : TOut → TOut) :
    ((forN k (fun (x : Dev) j => x.upTo t j f) d).tle t).noOuts = (d.tle t).noOuts :=
  forN_keeps (fun x => (x.tle t).noOuts) (fun x j => by rw [Dev.upTo, Dev.tle_upTle_same]; rfl) k d

theorem Dev.forN_upTo_to (d : Dev) (t k : Nat) (f : TOut → TOut) {j : Nat} (hj : j < k) :
    (forN k (fun (x : Dev) j => x.upTo t j f) d).to t j = f (d.to t j) := by
  have h := d.to_forN_upTo t k (fun _ => true) f j
  rw [if_pos ⟨hj, rfl⟩] at h
  exact h

/-- A latched tile x whose outputs then end their tests. -/
theorem Dev.Inhibited.of_tests {t : Nat} {d x e : Dev} {o : TOut → TOut} (ho : ∀ y, (o y).offPend = false ∧ (o y).offRun = none)
    (hx : (x.tle t).inhp = true ∧ (x.tle t).inhl = true) (hd : ∀ u, u ≠ t → x.tle u = d.tle u) (hxr : x.noTile = d.noTile)
    (htile : (e.tle t).noOuts = (x.tle t).noOuts) (hto : ∀ j, j < 8 → e.to t j = o (x.to t j)) (hne : ∀ u, u ≠ t → e.tle u = x.tle u)
    (hrest : e.noTile = x.noTile) : Inhibited t d e := by
  refine ⟨⟨(Tile.inhp_of_noOuts htile).trans hx.1, (Tile.inhl_of_noOuts htile).trans hx.2⟩, fun j hj => ?_, fun u hu => ?_,
    Dev.noDraw_of_noTile (hrest.trans hxr)⟩
  · rw [hto j hj]
    exact ho _
  · have hut : u ≠ t := fun he => hu (by rw [he])
    exact (hne u hut).trans (hd u hut)

theorem Dev.inhibited_spec (d : Dev) (t : Nat) : Inhibited t d (d.inhibited t) := by
  obtain ⟨hne, hrest⟩ := Dev.forN_upTo_rest (d.upTle t (fun x => { x with inhp := true, inhl := true })) t 8 (fun _ => true)
    fun o => { o with offPend := false, offRun := none }
  refine .of_tests (o := fun o => { o with offPend := false, offRun := none }) (fun _ => ⟨rfl, rfl⟩) ?_ (fun u hu => Dev.tle_upTle_ne _ _ hu)
    (Dev.upTle_noTile _ _ _) (Dev.forN_upTo_tile _ t 8 _) (fun j hj => Dev.forN_upTo_to _ t 8 _ hj) hne hrest
  rw [Dev.tle_upTle_same]
  exact ⟨rfl, rfl⟩

theorem Dev.Inhibited.ends {t : Nat} {d e f : Dev} (h : Inhibited t d e) (hcut : DrivesEnd t e f) : Inhibited t d f := by
  refine ⟨⟨(Tile.inhp_of_noOuts hcut.tile).trans h.latch.1, (Tile.inhl_of_noOuts hcut.tile).trans h.latch.2⟩, fun j hj => ?_, fun u hu => ?_,
    (Dev.noDraw_of_noTile hcut.rest).trans h.rest⟩
  · rw [(hcut.outs j).1, (hcut.outs j).2]
    exact h.tests j hj
  · exact (hcut.ne u fun he => hu (by rw [he])).trans (h.far u hu)

theorem Dev.Inhibited.reported {t : Nat} {d e f : Dev} (h : Inhibited t d e) (hr : TileGoes t id e f) : Inhibited t d f := by
  refine ⟨⟨(Tile.inhp_of_noSides hr.tile).trans h.latch.1, (Tile.inhl_of_noSides hr.tile).trans h.latch.2⟩, fun j hj => ?_,
    fun u hu => (hr.far u hu).trans (h.far u hu), hr.rest.trans h.rest⟩
  rw [hr.to fun _ => rfl]
  exact h.tests j hj

theorem Dev.Inhibited.cuts {t : Nat} {d e : Dev} (h : Inhibited t d e) : Inhibited t d (e.inhibitCuts t) :=
  (h.ends (e.cutDrives_ends t 4 fun _ => true)).reported (Dev.tdiag2_goes _ _ _ _ _ _)

theorem Dev.Inhibited.ofInput (d : Dev) (t : Nat) :
    Inhibited t d (if (d.tle t).inhl then d.inhibited t else (d.inhibited t).inhibitCuts t) := by
  split
  · exact d.inhibited_spec t
  · exact (d.inhibited_spec t).cuts

theorem runs_inhibitInputRelease {s : State} {t : Fin 64} (h : (s.dev.tle t).inhp = true) :
    Runs (.inhibitInputRelease t) s fun d => d.upTle t (fun x => { x with inhp := false, quiet := d.now }) :=
  runs_congr (runs_any _ (show execInhibitInputRelease t s = _ from rfl)) (if_pos h)

theorem Dev.inhRearm_quiet {d : Dev} {t : Nat} (hp : (d.tle t).inhp = false) (hl : (d.tle t).inhl = true)
    (hq : (d.tle t).quiet + 20000 ≤ (d.now : Int)) :
    d.inhRearm t = (d.upTle t (fun x => { x with inhl := false })).tdiag2 t false 0 0x20 0 := by
  have hlong : 20000 ≤ (d.now : Int) - (d.tle t).quiet := by omega
  simp [Dev.inhRearm, hp, hl, hlong]

theorem Dev.inhRearm_active {d : Dev} {t : Nat} (hp : (d.tle t).inhp = true) : d.inhRearm t = d.tdiag2 t true 0 0x22 (d.inhQuiet t) := by
  simp [Dev.inhRearm, hp]

/-- A change of temperature, reported where the cause arises or goes (R327). -/
def Dev.overtemp (d : Dev) (t : Nat) (hot : Bool) (temp : Nat) : Dev :=
  let d1 := d.upTle t (fun x => { x with temp := min temp 255, hot := hot })
  if hot == (d.tle t).hot then d1 else d1.tdiag2 t hot 0 0x28 (min temp 255)

theorem Dev.overtemp_goes (d : Dev) (t : Nat) (hot : Bool) (temp : Nat) :
    TileGoes t (fun x => { x with temp := min temp 255, hot := hot }) d (d.overtemp t hot temp) := by
  unfold Dev.overtemp
  dsimp only
  split
  · exact d.upTle_goes t _
  · exact Dev.upTle_reported _ _ _ _ _ _ _

/-- A write of the boost control whose halves are complements (R298). -/
theorem Dev.boostCtlSet_taken {d : Dev} {t data : Nat} (h : bits data 31 16 + bits data 15 0 = 0xFFFF) :
    (d.boostCtlSet t data).1 =
      (if !d.boostEn t && bitOf data 0 then (d.twr t false R.TDRV_BOOST_CTL (BitVec.ofNat 32 data &&& 0xFFFF0001#32)).upTle t (fun x => { x with stopped := false })
        else d.twr t false R.TDRV_BOOST_CTL (BitVec.ofNat 32 data &&& 0xFFFF0001#32)).boostJudge t := by
  unfold Dev.boostCtlSet
  rw [if_neg (by simp [h])]

theorem Dev.boostCtlSet_refused {d : Dev} {t data : Nat} (h : bits data 31 16 + bits data 15 0 ≠ 0xFFFF) : (d.boostCtlSet t data).1 = d := by
  unfold Dev.boostCtlSet
  rw [if_pos h]

/-- Settles O37: each command's change of the tile, and that reports touch sides and free values only. -/
theorem tileProtection : Obligations.tile_protection := by
  unfold Obligations.tile_protection
  refine ⟨fun s t data rail _ => runs_any _ rfl, fun s t data _ h => runs_congr (runs_any (fun d => (d.boostCtlSet t data).1) rfl) (Dev.boostCtlSet_taken h),
    fun s t data hs h => ?_, fun s t rail supply hs hlow hstop hen => ?_, fun s t rail hs => ?_, fun s t mask hs h => ?_,
    fun s t out hs hp hd hw hq ha hb hi => ?_, fun s t out at_ _ h => runs_congr (runs_offstateTestEnd h) ?_, fun s t hs => ?_, fun s t hs h => ?_,
    fun s t hs hp hl hq => ?_, fun s t hs hp => ?_, fun s t hot temp hs => ?_⟩
  · exact completes_runs_eq s.dev (runs_any (fun d => (d.boostCtlSet t data).1) rfl) hs (Dev.boostCtlSet_refused h) rfl rfl rfl
  · have hall := (s.dev.upTle_goes t fun x => { x with rail := rail }).trans (Dev.stopJudged_goes _ t) fun _ => rfl
    exact completes_tileGoes hs (runs_boostFault_low hlow hen hstop) hall
      ⟨Tile.bflt_of_noSides hall.tile, Tile.stopped_of_noSides hall.tile, Tile.ready_of_noSides hall.tile, Tile.rail_of_noSides hall.tile,
        hall.far, Dev.noDraw_rest hall.rest⟩
  · have hg := (s.dev.upTle_goes t fun x => { x with rail := rail }).trans (Dev.boostJudge_goes _ t) fun _ => rfl
    exact completes_tileGoes hs (runs_any (fun d => (d.upTle t (fun x => { x with rail := rail })).boostJudge t) rfl) hg
      ⟨Tile.rail_of_noSides hg.tile, Dev.boostJudge_ready _ _, hg.far, Dev.noDraw_rest hg.rest⟩
  · obtain ⟨hne, hrest⟩ := s.dev.forN_upTo_rest t 8 (bitOf mask) fun o => { o with offPend := true }
    refine completes_noTile _ (runs_any (fun d => d.offtReq t mask) rfl) hs (Dev.offtReq_free mask h) hrest
      ⟨fun j hj => ?_, hne, Dev.fltNew_of_noTile hrest⟩
    rw [Dev.to_forN_upTo]
    cases bitOf mask j <;> simp [hj, State.start]
  · refine completes_noTile _ (runs_offstateTestStart hp hd hw hq ha hb hi) hs rfl (Dev.upTo_noTile _ _ _ _)
      ⟨?_, ?_, fun _ hu => Dev.tle_upTo_ne _ _ _ hu, Dev.fltNew_of_noTile (Dev.upTo_noTile _ _ _ _)⟩
    · rw [Dev.to_upTo_same]
    · rw [Dev.to_upTo_same, State.start]
  · dsimp only
    rw [if_neg (show ¬ 80 < 60 by decide), if_neg (show ¬ 60 < 4 by decide), if_pos (show 40 < 30 + 20 by decide)]
  · have hi := Dev.Inhibited.ofInput s.dev t
    exact completes_noDraw hs runs_inhibitInput hi.rest ⟨hi.latch.1, hi.latch.2, hi.tests, hi.far, Dev.noDraw_rest hi.rest⟩
  · refine completes_noTile _ (runs_inhibitInputRelease h) hs rfl (Dev.upTle_noTile _ _ _)
      ⟨?_, ?_, ?_, fun _ hu => Dev.tle_upTle_ne _ _ hu, Dev.fltNew_of_noTile (Dev.upTle_noTile _ _ _)⟩
    · rw [Dev.tle_upTle_same]
    · rw [Dev.tle_upTle_same, State.start]
    · rw [Dev.tle_upTle_same, State.start]
  · have hg := Dev.upTle_reported s.dev t (fun x => { x with inhl := false }) false 0 0x20 0
    rw [← Dev.inhRearm_quiet hp hl hq] at hg
    exact completes_tileGoes hs (runs_any (fun d => d.inhRearm t) rfl) hg ⟨Tile.inhl_of_noSides hg.tile, hg.far, Dev.noDraw_rest hg.rest⟩
  · have hg := s.dev.tdiag2_goes t true 0 0x22 (s.dev.inhQuiet t)
    rw [← Dev.inhRearm_active hp] at hg
    exact completes_tileGoes hs (runs_any (fun d => d.inhRearm t) rfl) hg (Tile.inhl_of_noSides hg.tile)
  · have hg := s.dev.overtemp_goes t hot temp
    exact completes_tileGoes hs (runs_any (fun d => d.overtemp t hot temp) rfl) hg
      ⟨Tile.temp_of_noSides hg.tile, Tile.hot_of_noSides hg.tile, hg.far, Dev.noDraw_rest hg.rest⟩

end Sys2Proof.Machine

/-! PROOFS. Access of tile registers (R284), frames from tiles and periods of a tile link (R243-R284). -/

namespace Sys2Proof.Machine

/-! ### Links of the device -/

@[simp] theorem Dev.lk_setLk_same (d : Dev) (n : Nat) (l : Link) : (d.setLk n l).lk n = l := smGet_smSet_same _ _ _ _

theorem Dev.lk_setLk_ne (d : Dev) {n m : Nat} (l : Link) (h : m ≠ n) : (d.setLk n l).lk m = d.lk m := smGet_smSet_ne _ _ _ _ h

@[simp] theorem Dev.lk_upLk_same (d : Dev) (n : Nat) (f : Link → Link) : (d.upLk n f).lk n = f (d.lk n) := Dev.lk_setLk_same _ _ _

@[simp] theorem Dev.lp_setLp_same (d : Dev) (n p : Nat) (x : LPos) : (d.setLp n p x).lp n p = x := by
  rw [Dev.lp, Dev.setLp, Dev.lk_setLk_same]
  exact smGet_smSet_same _ _ _ _

@[simp] theorem Dev.lp_upLp_same (d : Dev) (n p : Nat) (f : LPos → LPos) : (d.upLp n p f).lp n p = f (d.lp n p) := Dev.lp_setLp_same _ _ _ _

theorem Dev.put_lk (d : Dev) (f : Fld) (v m : Nat) : (d.put f v).lk m = d.lk m := rfl
theorem Dev.upLk_reg (d : Dev) (n : Nat) (f : Link → Link) : (d.upLk n f).reg = d.reg := rfl

/-- A silent device adds no frame (R368). -/
theorem Dev.txAdd_silent {d : Dev} (n : Nat) (f : DFrame) (h : d.silent = true) : d.txAdd n f = d := by
  unfold Dev.txAdd
  rw [h, Bool.true_or, if_pos rfl]

theorem Dev.sendUn_silent {d : Dev} (n p typ : Nat) (words : List Nat) (h : d.silent = true) : d.sendUn n p typ words = d := Dev.txAdd_silent _ _ h

/-! ### Access of tile registers (R284) -/

theorem tilWords_ne (n : Nat) : R.TIL_ADDR n ≠ R.TIL_STAT n ∧ R.TIL_DATA n ≠ R.TIL_STAT n ∧ R.TIL_DATA n ≠ R.TIL_ADDR n := by
  refine ⟨?_, ?_, ?_⟩ <;> simp

theorem Dev.reached_congr {d e : Dev} (n p : Nat) (h : ∀ f : Fld, f.addr = R.TLK_POS n p → e.get f = d.get f) : e.reached n p = d.reached n p := by
  have hs : e.pstate n p = d.pstate n p := h (F.TLK_POS_STATE n p) rfl
  rw [Dev.reached, Dev.reached, hs]

/-- Writes of TILn leave the state of the positions. -/
theorem Dev.reached_put_til (d : Dev) {n p : Nat} {f : Fld} (v : Nat) (hf : 0xf0000 ≤ f.addr) (hn : n < 16) (hp : p < 4) :
    (d.put f v).reached n p = d.reached n p :=
  Dev.reached_congr n p fun g hg => Dev.get_put_ne d f g v (by rw [hg]; show 0xe0020 + 0x200 * n + 4 * p ≠ f.addr; omega)

theorem Dev.domUp_congr {d e : Dev} (k : Nat) (h : ∀ f : Fld, f.addr = (F.PWR_DOM_STAT_STATE k).addr → e.get f = d.get f) : e.domUp k = d.domUp k := by
  rw [Dev.domUp, Dev.domUp, h (F.PWR_DOM_STAT_STATE k) rfl]

theorem Dev.linkUp_put_til (d : Dev) {n : Nat} {f : Fld} (v : Nat) (hlo : 0xf0000 ≤ f.addr) (hhi : f.addr < 0x100000) (hn : n < 16) :
    (d.put f v).linkUp n = d.linkUp n := by
  have hctl : (d.put f v).flag (F.TLK_CTL_EN n) = d.flag (F.TLK_CTL_EN n) := by
    rw [Dev.flag, Dev.get_put_ne d f _ v (show 0xe0000 + 0x200 * n ≠ f.addr by omega), Dev.flag]
  rw [Dev.linkUp, Dev.linkUp, hctl, Dev.lgOn, Dev.lgOn, Dev.domUp_congr _ fun g hg => Dev.get_put_ne d f g v (by rw [hg]; show 0x20200 + 0x20 * (1 + n / 4) ≠ f.addr; omega)]

/-- An access of a tile register under way: BUSY set, RDY clear, and the link holds what it asks. -/
def Dev.tilAsks (d : Dev) (n : Nat) (wr : Bool) : Dev :=
  ((d.put (F.TIL_STAT_RDY n) 0).put (F.TIL_STAT_BUSY n) 1).upLk n
    (fun l => { l with tilWr := wr, tilPos := d.get (F.TIL_ADDR_POS n), tilId := l.tilId + 1, tilAddr := d.get (F.TIL_ADDR_ADDR n) })

theorem Dev.tilStart_asks {d : Dev} {n : Nat} (wr : Bool) (go : Dev → Nat → Dev) (hn : n < 16) (hup : d.linkUp n = true)
    (hr : d.reached n (d.get (F.TIL_ADDR_POS n)) = true) : d.tilStart n wr go = go (d.tilAsks n wr) (d.get (F.TIL_ADDR_POS n)) := by
  have hp : d.get (F.TIL_ADDR_POS n) < 4 := Dev.get_lt d (F.TIL_ADDR_POS n)
  have hr1 : (d.put (F.TIL_STAT_RDY n) 0).reached n (d.get (F.TIL_ADDR_POS n)) = true :=
    (d.reached_put_til 0 (show 0xf0000 ≤ 0xf0008 + 0x10 * n by omega) hn hp).trans hr
  have hup1 : (d.put (F.TIL_STAT_RDY n) 0).linkUp n = true :=
    (d.linkUp_put_til 0 (show 0xf0000 ≤ 0xf0008 + 0x10 * n by omega) (show 0xf0008 + 0x10 * n < 0x100000 by omega) hn).trans hup
  have haddr : (d.put (F.TIL_STAT_RDY n) 0).get (F.TIL_ADDR_ADDR n) = d.get (F.TIL_ADDR_ADDR n) := Dev.get_put_ne _ _ _ _ (tilWords_ne n).1
  unfold Dev.tilStart Dev.tilAsks
  simp only [hr1, hup1, haddr, Bool.not_true, Bool.or_self, Bool.false_eq_true, if_false]

theorem Dev.tilStart_unreached {d : Dev} {n : Nat} (wr : Bool) (go : Dev → Nat → Dev) (hn : n < 16)
    (hr : d.reached n (d.get (F.TIL_ADDR_POS n)) = false) : d.tilStart n wr go = (d.put (F.TIL_STAT_RDY n) 0).tilDone n 0xFE := by
  have hp : d.get (F.TIL_ADDR_POS n) < 4 := Dev.get_lt d (F.TIL_ADDR_POS n)
  have hr1 : (d.put (F.TIL_STAT_RDY n) 0).reached n (d.get (F.TIL_ADDR_POS n)) = false :=
    (d.reached_put_til 0 (show 0xf0000 ≤ 0xf0008 + 0x10 * n by omega) hn hp).trans hr
  unfold Dev.tilStart
  simp only [hr1, Bool.not_false, Bool.true_or, if_true]

theorem Dev.tilAsks_busy (d : Dev) (n : Nat) (wr : Bool) : (d.tilAsks n wr).flag (F.TIL_STAT_BUSY n) = true := by
  rw [Dev.tilAsks, Dev.flag_congr (Dev.upLk_reg _ _ _), Dev.flag_put_same _ _ _ (by simp)]
  simp

theorem Dev.tilAsks_rdy (d : Dev) (n : Nat) (wr : Bool) : (d.tilAsks n wr).flag (F.TIL_STAT_RDY n) = false := by
  rw [Dev.tilAsks, Dev.flag_congr (Dev.upLk_reg _ _ _), Dev.flag_put_apart _ _ _ _ (by simp) (by simp) (by simp), Dev.flag_put_same _ _ _ (by simp)]
  simp

theorem Dev.tilAsks_rd (d : Dev) (n : Nat) (wr : Bool) {a : Nat} (ha : a ≠ R.TIL_STAT n) : (d.tilAsks n wr).rd a = d.rd a := by
  rw [Dev.tilAsks, Dev.rd_congr (Dev.upLk_reg _ _ _), Dev.rd_put_ne _ _ _ ha, Dev.rd_put_ne _ _ _ ha]

theorem Dev.tilAsks_lk (d : Dev) (n : Nat) (wr : Bool) :
    (d.tilAsks n wr).lk n = { d.lk n with tilWr := wr, tilPos := d.get (F.TIL_ADDR_POS n), tilId := (d.lk n).tilId + 1, tilAddr := d.get (F.TIL_ADDR_ADDR n) } := by
  rw [Dev.tilAsks, Dev.lk_upLk_same, Dev.put_lk, Dev.put_lk]

/-- The device without its registers and links. -/
def Dev.noRegLink (d : Dev) : Dev := { d with reg := [], lnk := [], fltNew := [] }

theorem Dev.put_noRegLink (d : Dev) (f : Fld) (v : Nat) : (d.put f v).noRegLink = d.noRegLink := rfl
theorem Dev.upLk_noRegLink (d : Dev) (n : Nat) (f : Link → Link) : (d.upLk n f).noRegLink = d.noRegLink := rfl

theorem Dev.tilAsks_rest (d : Dev) (n : Nat) (wr : Bool) : (d.tilAsks n wr).noRegLink = d.noRegLink := by
  rw [Dev.tilAsks, Dev.upLk_noRegLink, Dev.put_noRegLink, Dev.put_noRegLink]

theorem Dev.noRegLink_silent {d e : Dev} (h : e.noRegLink = d.noRegLink) : e.silent = d.silent :=
  show e.noRegLink.silent = d.noRegLink.silent from congrArg Dev.silent h

theorem Dev.noRegLink_bus {d e : Dev} (h : e.noRegLink = d.noRegLink) : e.bus = d.bus :=
  show e.noRegLink.bus = d.noRegLink.bus from congrArg Dev.bus h

theorem Dev.noRegLink_corks {d e : Dev} (h : e.noRegLink = d.noRegLink) : e.corks = d.corks :=
  show e.noRegLink.corks = d.noRegLink.corks from congrArg Dev.corks h

theorem Dev.noRegLink_fab {d e : Dev} (h : e.noRegLink = d.noRegLink) : e.fab = d.fab :=
  show e.noRegLink.fab = d.noRegLink.fab from congrArg Dev.fab h

theorem Dev.ret_corks' (d : Dev) (req v : Nat) : (d.ret req v).corks = d.corks := rfl
theorem Dev.ret_fab' (d : Dev) (req v : Nat) : (d.ret req v).fab = d.fab := rfl
theorem Dev.ret_get' (d : Dev) (req v : Nat) (f : Fld) : (d.ret req v).get f = d.get f := rfl
theorem Dev.tilAsks_silent (d : Dev) (n : Nat) (wr : Bool) : (d.tilAsks n wr).silent = d.silent := Dev.noRegLink_silent (d.tilAsks_rest n wr)
theorem Dev.tilAsks_bus (d : Dev) (n : Nat) (wr : Bool) : (d.tilAsks n wr).bus = d.bus := Dev.noRegLink_bus (d.tilAsks_rest n wr)

/-! The end of an access. -/

theorem Dev.tilDone_result (d : Dev) (n : Nat) {r : Nat} (hr : r < 256) : (d.tilDone n r).get (F.TIL_STAT_RESULT n) = r := by
  have h : ((d.put (F.TIL_STAT_BUSY n) 0).put (F.TIL_STAT_RESULT n) r).get (F.TIL_STAT_RESULT n) = r :=
    (Dev.get_put_same _ (F.TIL_STAT_RESULT n) r (by simp)).trans (Nat.mod_eq_of_lt hr)
  unfold Dev.tilDone
  dsimp only
  split
  · rw [Dev.get_put_ne _ _ _ _ (tilWords_ne n).1.symm]
    exact h
  · exact h

theorem Dev.tilDone_busy (d : Dev) (n r : Nat) : (d.tilDone n r).flag (F.TIL_STAT_BUSY n) = false := by
  have h : ((d.put (F.TIL_STAT_BUSY n) 0).put (F.TIL_STAT_RESULT n) r).flag (F.TIL_STAT_BUSY n) = false := by
    rw [Dev.flag_put_apart _ _ _ _ (by simp) (by simp) (by simp), Dev.flag_put_same _ _ _ (by simp)]
    simp
  unfold Dev.tilDone
  dsimp only
  split
  · rw [Dev.flag, Dev.get_put_ne _ _ _ _ (tilWords_ne n).1.symm, ← Dev.flag]
    exact h
  · exact h

theorem Dev.tilDone_rdy (d : Dev) (n r : Nat) : (d.tilDone n r).flag (F.TIL_STAT_RDY n) = d.flag (F.TIL_STAT_RDY n) := by
  have h : ((d.put (F.TIL_STAT_BUSY n) 0).put (F.TIL_STAT_RESULT n) r).flag (F.TIL_STAT_RDY n) = d.flag (F.TIL_STAT_RDY n) := by
    rw [Dev.flag_put_apart _ _ _ _ (by simp) (by simp) (by simp), Dev.flag_put_apart _ _ _ _ (by simp) (by simp) (by simp)]
  unfold Dev.tilDone
  dsimp only
  split
  · rw [Dev.flag, Dev.get_put_ne _ _ _ _ (tilWords_ne n).1.symm, ← Dev.flag]
    exact h
  · exact h

theorem Dev.onlyRegs.weaken {d e : Dev} {l m : List Nat} (h : Dev.onlyRegs d e l) (hl : ∀ a, a ∈ l → a ∈ m) : Dev.onlyRegs d e m :=
  ⟨h.1, fun a ha => h.2 a fun hm => ha (hl a hm)⟩

theorem Dev.onlyRegs.trans {d e f : Dev} {l : List Nat} (h : Dev.onlyRegs d e l) (g : Dev.onlyRegs e f l) : Dev.onlyRegs d f l :=
  ⟨g.1.trans h.1, fun a ha => (g.2 a ha).trans (h.2 a ha)⟩

theorem Dev.put_onlyRegs_of_mem (d : Dev) (f : Fld) (v : Nat) {l : List Nat} (h : f.addr ∈ l) : Dev.onlyRegs d (d.put f v) l :=
  (Dev.put_onlyRegs d f v).weaken fun _ ha => (List.mem_singleton.1 ha) ▸ h

theorem Dev.tilDone_onlyRegs (d : Dev) (n r : Nat) : Dev.onlyRegs d (d.tilDone n r) [R.TIL_STAT n, R.TIL_ADDR n] := by
  have h : Dev.onlyRegs d ((d.put (F.TIL_STAT_BUSY n) 0).put (F.TIL_STAT_RESULT n) r) [R.TIL_STAT n, R.TIL_ADDR n] :=
    (Dev.put_onlyRegs_of_mem d (F.TIL_STAT_BUSY n) 0 List.mem_cons_self).trans
      (Dev.put_onlyRegs_of_mem _ (F.TIL_STAT_RESULT n) r List.mem_cons_self)
  unfold Dev.tilDone
  dsimp only
  split
  · exact h.trans (Dev.put_onlyRegs_of_mem _ (F.TIL_ADDR_ADDR n) _ (List.mem_cons_of_mem _ List.mem_cons_self))
  · exact h

theorem Dev.tilDone_addr {d : Dev} {n : Nat} (r : Nat) (h : d.flag (F.TIL_ADDR_AINC n) = true) :
    (d.tilDone n r).get (F.TIL_ADDR_ADDR n) = (d.get (F.TIL_ADDR_ADDR n) + 1) % 65536 := by
  have hkeep : ∀ g : Fld, g.addr = R.TIL_ADDR n → ((d.put (F.TIL_STAT_BUSY n) 0).put (F.TIL_STAT_RESULT n) r).get g = d.get g := fun g hg => by
    rw [Dev.get_put_ne _ _ _ _ (by rw [hg]; exact (tilWords_ne n).1), Dev.get_put_ne _ _ _ _ (by rw [hg]; exact (tilWords_ne n).1)]
  have hinc : ((d.put (F.TIL_STAT_BUSY n) 0).put (F.TIL_STAT_RESULT n) r).flag (F.TIL_ADDR_AINC n) = true := by
    rw [Dev.flag, hkeep _ rfl, ← Dev.flag]
    exact h
  unfold Dev.tilDone
  dsimp only
  rw [if_pos hinc, hkeep _ rfl]
  exact (Dev.get_put_same _ (F.TIL_ADDR_ADDR n) _ (by simp)).trans (Nat.mod_mod _ _)

theorem Dev.onlyRegs.corks {d e : Dev} {l : List Nat} (h : Dev.onlyRegs d e l) : e.corks = d.corks :=
  show e.noRegs.corks = d.noRegs.corks from congrArg Dev.corks h.1

theorem Dev.onlyRegs.fab {d e : Dev} {l : List Nat} (h : Dev.onlyRegs d e l) : e.fab = d.fab :=
  show e.noRegs.fab = d.noRegs.fab from congrArg Dev.fab h.1

theorem Dev.onlyRegs.bus {d e : Dev} {l : List Nat} (h : Dev.onlyRegs d e l) : e.bus = d.bus :=
  show e.noRegs.bus = d.noRegs.bus from congrArg Dev.bus h.1

/-- A command that changes registers and nothing else completes. -/
theorem completes_onlyRegs {c : Instr} {s : State} {f : Dev → Dev} {p : Dev → Prop} {l : List Nat} (x : Dev) (h : Runs c s f) (hs : s.dev.corksFresh)
    (e : f s.start = x) (hx : Dev.onlyRegs s.dev x l) (hp : p x) : Completes c s p := completes_runs_eq x h hs e hx.corks hx.fab hp

theorem Dev.noRegLink_ret_rest {d x : Dev} {req v : Nat} (h : x.noRegLink = (d.ret req v).noRegLink) :
    { x with bus := d.bus, reg := d.reg, lnk := d.lnk, fltNew := d.fltNew } = d :=
  congrArg (fun y : Dev => { y with bus := d.bus, reg := d.reg, lnk := d.lnk, fltNew := d.fltNew }) h

theorem Dev.onlyRegs.ret_rest {d x : Dev} {req v : Nat} {l : List Nat} (h : Dev.onlyRegs (d.ret req v) x l) :
    { x with bus := d.bus, reg := d.reg, fltNew := d.fltNew } = d :=
  congrArg (fun y : Dev => { y with bus := d.bus, reg := d.reg, fltNew := d.fltNew }) h.1

/-- An access of a position that is not reached ends at once. -/
def Dev.tilMissed (d : Dev) (n : Nat) : Dev := (d.put (F.TIL_STAT_RDY n) 0).tilDone n 0xFE

theorem Dev.tilMissed_onlyRegs (d : Dev) (n : Nat) : Dev.onlyRegs d (d.tilMissed n) [R.TIL_STAT n, R.TIL_ADDR n] :=
  (Dev.put_onlyRegs_of_mem d (F.TIL_STAT_RDY n) 0 List.mem_cons_self).trans (Dev.tilDone_onlyRegs _ _ _)

theorem Dev.tilMissed_stat (d : Dev) (n : Nat) : (d.tilMissed n).get (F.TIL_STAT_RESULT n) = 0xFE ∧ (d.tilMissed n).flag (F.TIL_STAT_BUSY n) = false
    ∧ (d.tilMissed n).flag (F.TIL_STAT_RDY n) = false := by
  refine ⟨Dev.tilDone_result _ _ (by decide), Dev.tilDone_busy _ _ _, ?_⟩
  rw [Dev.tilMissed, Dev.tilDone_rdy, Dev.flag_put_same _ _ _ (by simp)]
  simp

/-! The commands. -/

theorem runs_tilDataRead {s : State} {req : Fin 10} {n : Fin 16} (hs : s.coreRuns) (hg : s.dev.lgOn n = true) :
    Runs (.tilDataRead req n) s fun d => d.tilRead req n :=
  runs_congr (runs_core _ (show execTilDataRead req n s = _ from rfl) hs) (if_pos hg)

theorem runs_tilDataWrite {s : State} {req : Fin 10} {n : Fin 16} {data : Nat} (hs : s.coreRuns) (hg : s.dev.lgOn n = true) :
    Runs (.tilDataWrite req n data) s fun d => d.tilWrite n data :=
  runs_congr (runs_core _ (show execTilDataWrite req n data s = _ from rfl) hs) (if_pos hg)

theorem runs_tilTimeout {s : State} {n : Fin 16} (hs : s.coreRuns) (h : s.dev.flag (F.TIL_STAT_BUSY n) = true) :
    Runs (.tilTimeout n) s fun d => d.tilDone n 0xFF :=
  runs_congr (runs_core _ (show execTilTimeout n s = _ from rfl) hs) (if_pos h)

theorem Dev.tilRead_busy {d : Dev} (req : Nat) {n : Nat} (h : d.flag (F.TIL_STAT_BUSY n) = true) :
    d.tilRead req n = d.ret req (d.rd (R.TIL_DATA n)).toNat := if_pos h

theorem Dev.tilRead_asks {d : Dev} (req : Nat) {n : Nat} (hn : n < 16) (h : d.flag (F.TIL_STAT_BUSY n) = false) (hup : d.linkUp n = true)
    (hr : d.reached n (d.get (F.TIL_ADDR_POS n)) = true) :
    d.tilRead req n = ((d.ret req (d.rd (R.TIL_DATA n)).toNat).tilAsks n false).sendUn n (d.get (F.TIL_ADDR_POS n)) 9 [d.get (F.TIL_ADDR_ADDR n)] := by
  have haddr : ((d.ret req (d.rd (R.TIL_DATA n)).toNat).tilAsks n false).get (F.TIL_ADDR_ADDR n) = d.get (F.TIL_ADDR_ADDR n) := by
    rw [Dev.get, Dev.tilAsks_rd _ _ _ (tilWords_ne n).1, ← Dev.get, Dev.ret_get']
  unfold Dev.tilRead
  dsimp only
  rw [if_neg (ne_true_of_eq_false h), Dev.tilStart_asks (d := d.ret req _) _ _ hn hup hr, haddr, Dev.ret_get']

theorem Dev.tilRead_missed {d : Dev} (req : Nat) {n : Nat} (hn : n < 16) (h : d.flag (F.TIL_STAT_BUSY n) = false)
    (hr : d.reached n (d.get (F.TIL_ADDR_POS n)) = false) : d.tilRead req n = (d.ret req (d.rd (R.TIL_DATA n)).toNat).tilMissed n :=
  (if_neg (ne_true_of_eq_false h)).trans (Dev.tilStart_unreached _ _ hn hr)

theorem Dev.tilWrite_asks {d : Dev} {n : Nat} (data : Nat) (hn : n < 16) (h : d.flag (F.TIL_STAT_BUSY n) = false) (hup : d.linkUp n = true)
    (hr : d.reached n (d.get (F.TIL_ADDR_POS n)) = true) :
    d.tilWrite n data = (d.tilAsks n true).sendRel n (d.get (F.TIL_ADDR_POS n)) 8 [d.get (F.TIL_ADDR_ADDR n), data % 2 ^ 32] ((d.lk n).tilId + 1 : Nat) 0 1 := by
  have haddr : (d.tilAsks n true).get (F.TIL_ADDR_ADDR n) = d.get (F.TIL_ADDR_ADDR n) := by
    rw [Dev.get, Dev.tilAsks_rd _ _ _ (tilWords_ne n).1, ← Dev.get]
  unfold Dev.tilWrite
  rw [if_neg (ne_true_of_eq_false h), Dev.tilStart_asks _ _ hn hup hr, haddr, Dev.tilAsks_lk]

theorem Dev.tilWrite_missed {d : Dev} {n : Nat} (data : Nat) (hn : n < 16) (h : d.flag (F.TIL_STAT_BUSY n) = false)
    (hr : d.reached n (d.get (F.TIL_ADDR_POS n)) = false) : d.tilWrite n data = d.tilMissed n :=
  (if_neg (ne_true_of_eq_false h)).trans (Dev.tilStart_unreached _ _ hn hr)

/-- Settles O34: by BUSY, by whether the position is reached, and what TILn shows in each case. -/
theorem tileRegisterAccess : Obligations.tile_register_access := by
  unfold Obligations.tile_register_access
  refine ⟨fun s req n hs hg hb => ?_, fun s req n hs hg hb hup hr hsil => ?_,
    fun s req n hs hg hb hup hr => runs_congr (runs_tilDataRead hs hg) (Dev.tilRead_asks _ n.isLt hb hup hr), fun s req n hs hg hb hr => ?_,
    fun s req n data hs hg hb => ?_, fun s req n data hs hg hb hup hr => runs_congr (runs_tilDataWrite hs hg) (Dev.tilWrite_asks _ n.isLt hb hup hr),
    fun s req n data hs hg hb hr => ?_, fun s n hs hb => ?_⟩
  · exact completes_runs_eq _ (runs_tilDataRead hs hg) hs.1 (Dev.tilRead_busy _ hb) rfl rfl
      ⟨by rw [State.start, Dev.ret_busData, Nat.mod_eq_of_lt (BitVec.isLt _)], Dev.ret_rest _ _ _⟩
  · have heq := (Dev.tilRead_asks req n.isLt hb hup hr).trans (Dev.sendUn_silent _ _ _ _ ((Dev.tilAsks_silent _ _ _).trans hsil))
    have hrest := Dev.tilAsks_rest (s.dev.ret req (s.dev.rd (R.TIL_DATA n)).toNat) n false
    refine completes_runs_eq _ (runs_tilDataRead hs hg) hs.1 heq ((Dev.noRegLink_corks hrest).trans (Dev.ret_corks' _ _ _))
      ((Dev.noRegLink_fab hrest).trans (Dev.ret_fab' _ _ _))
      ⟨?_, Dev.tilAsks_busy _ _ _, Dev.tilAsks_rdy _ _ _, ?_, ?_, fun a ha => Dev.tilAsks_rd _ _ _ ha, ?_⟩
    · rw [Dev.tilAsks_bus, Dev.ret_busData, Nat.mod_eq_of_lt (BitVec.isLt _)]
    · rw [Dev.tilAsks_lk]
    · rw [Dev.tilAsks_lk, Dev.ret_get']
    · exact Dev.noRegLink_ret_rest hrest
  · have honly := (s.dev.ret req (s.dev.rd (R.TIL_DATA n)).toNat).tilMissed_onlyRegs n
    obtain ⟨hres, hbusy, hrdy⟩ := (s.dev.ret req (s.dev.rd (R.TIL_DATA n)).toNat).tilMissed_stat n
    refine completes_runs_eq _ (runs_tilDataRead hs hg) hs.1 (Dev.tilRead_missed _ n.isLt hb hr) (honly.corks.trans (Dev.ret_corks' _ _ _))
      (honly.fab.trans (Dev.ret_fab' _ _ _))
      ⟨?_, hres, hbusy, hrdy, fun a hst had => honly.2 a (by simp [hst, had]), ?_⟩
    · rw [State.start, honly.bus, Dev.ret_busData, Nat.mod_eq_of_lt (BitVec.isLt _)]
    · exact honly.ret_rest
  · exact completes_runs_eq s.dev (runs_tilDataWrite hs hg) hs.1 (if_pos hb) rfl rfl rfl
  · exact completes_onlyRegs _ (runs_tilDataWrite hs hg) hs.1 (Dev.tilWrite_missed _ n.isLt hb hr) (s.dev.tilMissed_onlyRegs n)
      ⟨(s.dev.tilMissed_stat n).1, (s.dev.tilMissed_stat n).2.1, (s.dev.tilMissed_stat n).2.2, s.dev.tilMissed_onlyRegs n⟩
  · exact completes_onlyRegs _ (runs_tilTimeout hs hb) hs.1 rfl (s.dev.tilDone_onlyRegs n 0xFF)
      ⟨Dev.tilDone_result _ _ (by decide), Dev.tilDone_busy _ _ _, Dev.tilDone_rdy _ _ _, Dev.tilDone_addr _, s.dev.tilDone_onlyRegs n 0xFF⟩

end Sys2Proof.Machine

/-! PROOFS. Frames from tiles that a link takes, periods and losses of a tile link (R243-R284, R299-R301). -/

namespace Sys2Proof.Machine

/-! ### The device without its links -/

/-- The device without its links. -/
def Dev.noLk (d : Dev) : Dev := { d with lnk := [] }

theorem Dev.setLp_noLk (d : Dev) (n p : Nat) (x : LPos) : (d.setLp n p x).noLk = d.noLk := rfl
theorem Dev.upLp_noLk (d : Dev) (n p : Nat) (f : LPos → LPos) : (d.upLp n p f).noLk = d.noLk := rfl
theorem Dev.upLk_noLk (d : Dev) (n : Nat) (f : Link → Link) : (d.upLk n f).noLk = d.noLk := rfl

theorem Dev.noLk_rest {d e : Dev} (h : e.noLk = d.noLk) : { e with lnk := d.lnk, fltNew := d.fltNew } = d :=
  congrArg (fun x : Dev => { x with lnk := d.lnk, fltNew := d.fltNew }) h

theorem Dev.noLk_silent {d e : Dev} (h : e.noLk = d.noLk) : e.silent = d.silent :=
  show e.noLk.silent = d.noLk.silent from congrArg Dev.silent h

/-- A command that changes links and nothing else completes. -/
theorem completes_noLk {c : Instr} {s : State} {f : Dev → Dev} {p : Dev → Prop} (x : Dev) (h : Runs c s f) (hs : s.dev.corksFresh)
    (e : f s.start = x) (hx : x.noLk = s.dev.noLk) (hp : p x) : Completes c s p :=
  completes_runs_eq x h hs e (show x.noLk.corks = s.dev.noLk.corks from congrArg Dev.corks hx)
    (show x.noLk.fab = s.dev.noLk.fab from congrArg Dev.fab hx) hp

/-! ### Frames from tiles -/

section
variable {s : State} {n : Fin 16} {p : Fin 4}

/-- What an ACK of frame f does (R249-R251). -/
def Dev.acked (d : Dev) (n p : Nat) (f : DFrame) (seq result pmask arr : Nat) : Dev :=
  let d2 := ((d.setLp n p { d.lp n p with unack := (d.lp n p).unack.filter (fun g => g.seq != seq) }).txDrop n
    (fun g => g.pos == p && g.seq == seq)).ackFrame n p f result pmask arr
  d2.pump n p (d2.lp n p).wait.length

theorem runs_ack_unacked {seq result pmask arr : Nat} {f : DFrame} (hs : s.coreRuns)
    (h : (s.dev.lp n p).unack.find? (fun g => g.seq == seq) = some f) :
    Runs (.ack n p true seq result pmask arr) s fun d => d.acked n p f seq result pmask arr := by
  refine runs_congr (runs_core _ (show execAck n p true seq result pmask arr s = _ from rfl) hs) ?_
  simp only [State.start, h]
  rfl

theorem runs_ack_none {seq result pmask arr : Nat} (hs : s.coreRuns) (h : (s.dev.lp n p).unack.find? (fun g => g.seq == seq) = none) :
    Runs (.ack n p true seq result pmask arr) s fun d => d := by
  refine runs_congr (runs_core _ (show execAck n p true seq result pmask arr s = _ from rfl) hs) ?_
  simp only [State.start, h]
  rfl

/-- The position with the delays l, one answer of its burst in. -/
def Dev.echoTook (d : Dev) (n p : Nat) (l : List Int) : Dev := d.setLp n p { d.lp n p with echo := l, left := (d.lp n p).left - 1 }

theorem runs_echoRsp_more {etag tt res rtt : Nat} {l : List Int} (hs : s.coreRuns) (hr : s.dev.reached n p = true) (hup : s.dev.linkUp n = true)
    (hl : (s.dev.lp n p).echo ++ [(rtt : Int) - tt - res] = l) (hlt : l.length < s.dev.echon n) :
    Runs (.echoRsp n p true etag tt res rtt) s fun d => d.echoTook n p l := by
  refine runs_congr (runs_core _ (show execEchoRsp n p true etag tt res rtt s = _ from rfl) hs) ?_
  have hall : l.drop (l.length - s.dev.echon n) = l := by rw [Nat.sub_eq_zero_of_le hlt.le, List.drop_zero]
  simp only [State.start, hr, hup, hl, hall, hlt, Bool.not_true, Bool.false_eq_true, Bool.or_self, if_false, if_true]
  rfl

theorem runs_echoRsp_last {etag tt res rtt : Nat} {l m : List Int} (hs : s.coreRuns) (hr : s.dev.reached n p = true) (hup : s.dev.linkUp n = true)
    (hl : (s.dev.lp n p).echo ++ [(rtt : Int) - tt - res] = l) (hle : s.dev.echon n ≤ l.length) (hm : l.drop (l.length - s.dev.echon n) = m) :
    Runs (.echoRsp n p true etag tt res rtt) s fun d =>
      if (d.lp n p).stage = 2 then ((d.echoTook n p m).upLp n p (fun y => { y with stage := 3 })).sendTimeset n p true (meanDelay m % 2 ^ 24)
      else if meanDelay m % 2 ^ 24 = (d.echoTook n p m).get (F.TLK_DLY_DLY n p) then d.echoTook n p m
      else (d.echoTook n p m).sendTimeset n p false (meanDelay m % 2 ^ 24) := by
  refine runs_congr (runs_core _ (show execEchoRsp n p true etag tt res rtt s = _ from rfl) hs) ?_
  have hlen : ¬ m.length < s.dev.echon n := by
    rw [← hm, List.length_drop]
    omega
  simp only [State.start, hr, hup, hl, hm, hlen, Bool.not_true, Bool.false_eq_true, Bool.or_self, if_false]
  rfl

/-- What a DONE does to the pulse it names (R264, R299). -/
def Dev.donePulse (d : Dev) (pidx status : Nat) (x : Occ × OPulse) : Dev :=
  let y := (d.winOpen x.1 x.2).upWins x.2.ch (fun w => w.uid == x.1.uid && w.pidx == pidx) (fun w => { w with done := some status })
  let z := y.setOcc { x.1 with pulses := x.1.pulses.map (fun (q : OPulse) => if q.pidx == pidx && q.status.elim false (fun c => decide (100 ≤ c)) then { q with status := none } else q) }
  z.finish x.1.uid (doneOutcome x.1.clamped status) (fun q => q.pidx == pidx)

section
variable {handle : Nat} {pidx out : Fin 8} {status start stop ipk i2t : Nat}

theorem runs_done_held {x : Occ × OPulse} (hs : s.coreRuns) (h : s.dev.byHandle (tileNo n p) handle (fun q => q.pidx == pidx.val) = some x) :
    Runs (.done n p true handle pidx out status start stop ipk i2t) s fun d =>
      (d.donePulse pidx status x).thermHeat (8 * tileNo n p + out.val) i2t := by
  refine runs_congr (runs_core _ (show execDone n p true handle pidx out status start stop ipk i2t s = _ from rfl) hs) ?_
  simp only [State.start, h, Bool.not_true, Bool.false_eq_true, if_false]
  rfl

theorem runs_done_none (hs : s.coreRuns) (h : s.dev.byHandle (tileNo n p) handle (fun q => q.pidx == pidx.val) = none) :
    Runs (.done n p true handle pidx out status start stop ipk i2t) s fun d => d.thermHeat (8 * tileNo n p + out.val) i2t := by
  refine runs_congr (runs_core _ (show execDone n p true handle pidx out status start stop ipk i2t s = _ from rfl) hs) ?_
  simp only [State.start, h, Bool.not_true, Bool.false_eq_true, if_false]

end

theorem Dev.thermHeat_off {d : Dev} {ch : Nat} (i2t : Nat) (h : d.flag (F.CDT_CH_CFG_TEN ch) = false) : d.thermHeat ch i2t = d := by
  unfold Dev.thermHeat
  rw [h]
  rfl

theorem runs_status {w1 w2 w3 : Nat} (hs : s.coreRuns) (hr : s.dev.reached n p = true) (hup : s.dev.linkUp n = true) :
    Runs (.status n p true w1 w2 w3) s fun d => (d.driveStatus (tileNo n p) w2 w3).linkStatus n p w1 w2 := by
  refine runs_congr (runs_core _ (show execStatus n p true w1 w2 w3 s = _ from rfl) hs) ?_
  simp [State.start, hr, hup]

theorem runs_diag_drive {level : Bool} {out : Fin 8} {code data : Nat} (hs : s.coreRuns) (hr : s.dev.reached n p = true) (hup : s.dev.linkUp n = true)
    (hc : code < 0x08 ∨ 0x0B < code) : Runs (.diag n p true level out code data) s fun d => d.cdtDiag n p level out code := by
  refine runs_congr (runs_core _ (show execDiag n p true level out code data s = _ from rfl) hs) ?_
  have hno : ¬ (0x08 ≤ code ∧ code ≤ 0x0B) := by omega
  simp [State.start, hr, hup, hno]

theorem runs_diag_lease {level : Bool} {out : Fin 8} {code data : Nat} (hs : s.coreRuns) (hr : s.dev.reached n p = true) (hup : s.dev.linkUp n = true)
    (hlo : 0x08 ≤ code) (hhi : code ≤ 0x0B) : Runs (.diag n p true level out code data) s fun d => d.leaseDiag (tileNo n p) code data := by
  refine runs_congr (runs_core _ (show execDiag n p true level out code data s = _ from rfl) hs) ?_
  simp [State.start, hr, hup, hlo, hhi]

/-- A position whose tile passes the check is FOUND, mirrors where the link does, and its echoes start (R270). -/
def Dev.identified (d : Dev) (n p type : Nat) : Dev :=
  let x := ((d.put (F.TLK_POS_TYPE n p) type).put (F.TLK_POS_STATE n p) 1).upLp n p (fun x => { x with stage := 2, echo := [] })
  (if x.flag (F.TLK_LANE_MIRROR n) then x.sendRel n p 12 [6 + 2 ^ 8] 0 0 0 else x).echoBurst n p

/-- A position whose tile fails the check, with its cause (R270). -/
def Dev.identBad (d : Dev) (n p type : Nat) : Dev :=
  (((d.put (F.TLK_POS_TYPE n p) type).put (F.TLK_POS_STATE n p) 5).upLp n p (fun x => { x with stage := 0 })).raise 10 3 (tileNo n p) 2

section
variable {vendor type rev proto nout slots serial fwdlat : Nat} {iv two : Bool}

theorem runs_ident_good (hs : s.coreRuns) (hst : (s.dev.lp n p).stage = 1) (hup : s.dev.linkUp n = true) (hp : proto = 1) (hn : nout = 8)
    (hsl : 16 ≤ slots) : Runs (.ident n p true vendor type rev proto nout iv two slots serial fwdlat) s fun d => d.identified n p type := by
  refine runs_congr (runs_core _ (show execIdent n p true vendor type rev proto nout iv two slots serial fwdlat s = _ from rfl) hs) ?_
  subst hp hn
  simp only [State.start, hst, hup, hsl, Bool.not_true, Bool.false_eq_true, if_false, ne_eq, not_true_eq_false, decide_false, Bool.or_self,
    decide_true, BEq.rfl, Bool.and_self, if_true]
  rfl

theorem runs_ident_bad (hs : s.coreRuns) (hst : (s.dev.lp n p).stage = 1) (hup : s.dev.linkUp n = true) (h : proto ≠ 1 ∨ nout ≠ 8 ∨ slots < 16) :
    Runs (.ident n p true vendor type rev proto nout iv two slots serial fwdlat) s fun d => d.identBad n p type := by
  refine runs_congr (runs_core _ (show execIdent n p true vendor type rev proto nout iv two slots serial fwdlat s = _ from rfl) hs) ?_
  have hbad : (decide (proto = 1) && nout == 8 && decide (16 ≤ slots)) = false := by
    rcases h with h | h | h
    · simp [h]
    · simp [h]
    · simp [show ¬ 16 ≤ slots by omega]
  simp only [State.start, hst, hup, hbad, Bool.not_true, Bool.false_eq_true, if_false, ne_eq, not_true_eq_false, decide_false, Bool.or_self]
  rfl

end

/-- REGDATA of the address of the access under way (R284). -/
def Dev.regdataIn (d : Dev) (n result data : Nat) : Dev :=
  if result = 0 then ((d.tilDone n result).wr (R.TIL_DATA n) (BitVec.ofNat 32 data)).put (F.TIL_STAT_RDY n) 1 else d.tilDone n result

theorem runs_regdata {result addr data : Nat} (hs : s.coreRuns) (hb : s.dev.flag (F.TIL_STAT_BUSY n) = true) (hw : (s.dev.lk n).tilWr = false)
    (hp : (s.dev.lk n).tilPos = p.val) (ha : (s.dev.lk n).tilAddr = addr % 65536) :
    Runs (.regdata n p true result addr data) s fun d => d.regdataIn n result data := by
  refine runs_congr (runs_core _ (show execRegdata n p true result addr data s = _ from rfl) hs) ?_
  simp only [State.start, hb, hw, hp, ha, Bool.not_true, Bool.false_eq_true, if_false, Bool.not_false, BEq.rfl, Bool.and_self, if_true]
  rfl

theorem runs_wave {handle wseq kind : Nat} {out : Fin 8} {t0 : Nat} {samples : List Int} {x : Dev} (hs : s.coreRuns)
    (hx : (s.dev.winsUpTo handle (8 * tileNo n p + out.val) (nearest 32 s.dev.tLink t0)).waveJoin (8 * tileNo n p + out.val) handle (wseq % 256)
      (nearest 32 s.dev.tLink t0) (voltages kind samples) = x) (hcap : x.flag F.CDT_CAP_EN = false) :
    Runs (.wave n p true handle wseq kind out t0 samples) s fun _ => x := by
  refine runs_congr (runs_core _ (show execWave n p true handle wseq kind out t0 samples s = _ from rfl) hs) ?_
  simp only [State.start, hx, hcap, Bool.not_true, Bool.false_eq_true, if_false, Bool.false_and]

/-! ### Periods, time-outs and losses -/

theorem runs_ackTimeout_again {seq : Nat} {f : DFrame} (hs : s.coreRuns) (hf : (s.dev.lp n p).unack.find? (fun g => g.seq == seq) = some f)
    (h : f.retr < s.dev.get (F.TLK_CFG_RETRY n)) : Runs (.ackTimeout n p seq) s fun d =>
      ((d.setLp n p { d.lp n p with unack := (d.lp n p).unack.map (fun h => if h.seq == seq then { f with retr := f.retr + 1 } else h) }).incSat
        (F.TLK_CNT0_RETX n)).txAdd n { f with retr := f.retr + 1 } := by
  refine runs_congr (runs_core _ (show execAckTimeout n p seq s = _ from rfl) hs) ?_
  simp only [State.start, hf, Nat.not_le.mpr h, if_false]

theorem runs_ackTimeout_lost {seq : Nat} {f : DFrame} (hs : s.coreRuns) (hf : (s.dev.lp n p).unack.find? (fun g => g.seq == seq) = some f)
    (h : s.dev.get (F.TLK_CFG_RETRY n) ≤ f.retr) : Runs (.ackTimeout n p seq) s fun d => (d.raise 10 2 (tileNo n p) 2).posLost n p := by
  refine runs_congr (runs_core _ (show execAckTimeout n p seq s = _ from rfl) hs) ?_
  simp only [State.start, hf, h, if_true]

theorem runs_timePeriod (hs : s.coreRuns) (h : s.dev.linkUp n = true) : Runs (.timePeriod n) s fun d => d.sendUn n 0 4 [0, 0] :=
  runs_congr (runs_core _ (show execTimePeriod n s = _ from rfl) hs) (if_pos h)

theorem runs_echoPeriod (hs : s.coreRuns) (hup : s.dev.linkUp n = true) (hr : s.dev.reached n p = true) :
    Runs (.echoPeriod n p) s fun d => d.echoReq n p :=
  runs_congr (runs_core _ (show execEchoPeriod n p s = _ from rfl) hs) (if_pos (by simp [State.start, hup, hr]))

theorem runs_identTimeout (hs : s.coreRuns) (h : (s.dev.lp n p).stage = 1) :
    Runs (.identTimeout n p) s fun d => (d.put (F.TLK_POS_STATE n p) 0).upLp n p (fun x => { x with stage := 0 }) :=
  runs_congr (runs_core _ (show execIdentTimeout n p s = _ from rfl) hs) (if_pos h)

theorem runs_hop0LockGained (hs : s.coreRuns) (h : s.dev.lgOn n = true) :
    Runs (.hop0LockGained n) s fun d => (d.put (F.TLK_STAT_LOCK n) 1).autoDiscover n 0 :=
  runs_congr (runs_core _ (show execHop0LockGained n s = _ from rfl) hs) (if_pos h)

theorem runs_lockLost (hs : s.coreRuns) (h : s.dev.flag (F.TLK_STAT_LOCK n) = true) :
    Runs (.lockLost n) s fun d => ((d.put (F.TLK_STAT_LOCK n) 0).raise 10 0 (tileNo n 0) 2).posLost n 0 :=
  runs_congr (runs_core _ (show execLockLost n s = _ from rfl) hs) (if_pos h)

theorem runs_statusTimeout (hs : s.coreRuns) (h : s.dev.reached n p = true) : Runs (.statusTimeout n p) s fun d => d.posLost n p :=
  runs_congr (runs_core _ (show execStatusTimeout n p s = _ from rfl) hs) (if_pos h)

theorem runs_redisc {req : Fin 10} (hs : s.coreRuns) (h : s.dev.lgOn n = true) : Runs (.redisc req n) s fun d => d.redisc n :=
  runs_congr (runs_core _ (show execRedisc req n s = _ from rfl) hs) (if_pos h)

end

/-! ### What the commands leave -/

theorem Dev.get_wr_ne (d : Dev) {a : Nat} (w : Word) {f : Fld} (h : f.addr ≠ a) : (d.wr a w).get f = d.get f := by
  rw [Dev.get, Dev.rd_wr_ne _ _ h, ← Dev.get]

theorem Dev.setLp_noRegLink (d : Dev) (n p : Nat) (x : LPos) : (d.setLp n p x).noRegLink = d.noRegLink := rfl
theorem Dev.upLp_rd (d : Dev) (n p : Nat) (f : LPos → LPos) (a : Nat) : (d.upLp n p f).rd a = d.rd a := rfl

theorem Dev.noRegLink_rest {d e : Dev} (h : e.noRegLink = d.noRegLink) : { e with reg := d.reg, lnk := d.lnk, fltNew := d.fltNew } = d :=
  congrArg (fun x : Dev => { x with reg := d.reg, lnk := d.lnk, fltNew := d.fltNew }) h

theorem Dev.raise_lp (d : Dev) (b c i v n p : Nat) : (d.raise b c i v).lp n p = d.lp n p :=
  show ((d.raise b c i v).still).lp n p = d.still.lp n p from congrArg (fun x : Dev => x.lp n p) (d.raise_reported b c i v).still

/-- Positions are no words of reports. -/
theorem reportWord_tlkPos (n : Fin 16) (p : Fin 4) : reportWord (R.TLK_POS n p) = false := by
  decide +revert +kernel

theorem Dev.upLp_get (d : Dev) (n p : Nat) (f : LPos → LPos) (g : Fld) : (d.upLp n p f).get g = d.get g := rfl

/-- The position before the cause of a failed check is raised. -/
def Dev.identFailed (d : Dev) (n p type : Nat) : Dev :=
  ((d.put (F.TLK_POS_TYPE n p) type).put (F.TLK_POS_STATE n p) 5).upLp n p (fun x => { x with stage := 0 })

theorem Dev.identBad_eq (d : Dev) (n p type : Nat) : d.identBad n p type = (d.identFailed n p type).raise 10 3 (tileNo n p) 2 := rfl

theorem Dev.identFailed_still (d : Dev) (n p type : Nat) : (d.identFailed n p type).noRegLink = d.noRegLink := by
  rw [Dev.identFailed, Dev.upLp, Dev.setLp_noRegLink, Dev.put_noRegLink, Dev.put_noRegLink]

theorem Dev.identFailed_spec (d : Dev) (n p type : Nat) :
    (d.identFailed n p type).get (F.TLK_POS_STATE n p) = 5 ∧ (d.identFailed n p type).get (F.TLK_POS_TYPE n p) = type % 2 ^ 16
      ∧ ((d.identFailed n p type).lp n p).stage = 0 := by
  refine ⟨?_, ?_, ?_⟩
  · rw [Dev.identFailed, Dev.upLp_get, Dev.get_put_same _ _ _ (by simp)]
    simp
  · rw [Dev.identFailed, Dev.upLp_get, Dev.get_put_apart _ _ _ _ (by simp) (by simp) (by simp), Dev.get_put_same _ _ _ (by simp)]
    simp
  · rw [Dev.identFailed, Dev.lp_upLp_same]

theorem Dev.identBad_spec (d : Dev) (n : Fin 16) (p : Fin 4) (type : Nat) :
    (d.identBad n p type).get (F.TLK_POS_STATE n p) = 5 ∧ (d.identBad n p type).get (F.TLK_POS_TYPE n p) = type % 2 ^ 16
      ∧ ((d.identBad n p type).lp n p).stage = 0 := by
  obtain ⟨hstate, htype, hstage⟩ := d.identFailed_spec n p type
  have hreg := (d.identFailed n p type).raise_reported 10 3 (tileNo n p) 2
  rw [Dev.identBad_eq, Dev.raise_lp]
  exact ⟨(hreg.get (f := F.TLK_POS_STATE n p) (reportWord_tlkPos n p)).trans hstate,
    (hreg.get (f := F.TLK_POS_TYPE n p) (reportWord_tlkPos n p)).trans htype, hstage⟩

theorem Dev.identBad_rest (d : Dev) (n p type : Nat) : (d.identBad n p type).corks = d.corks ∧ (d.identBad n p type).fab = d.fab := by
  have hreg := (d.identFailed n p type).raise_reported 10 3 (tileNo n p) 2
  rw [Dev.identBad_eq]
  exact ⟨hreg.corks.trans (Dev.noRegLink_corks (d.identFailed_still n p type)), hreg.fab.trans (Dev.noRegLink_fab (d.identFailed_still n p type))⟩

theorem Dev.regdataIn_onlyRegs (d : Dev) (n data : Nat) : Dev.onlyRegs d (d.regdataIn n 0 data) [R.TIL_ADDR n, R.TIL_DATA n, R.TIL_STAT n] := by
  have hdone : Dev.onlyRegs d (d.tilDone n 0) [R.TIL_ADDR n, R.TIL_DATA n, R.TIL_STAT n] := (d.tilDone_onlyRegs n 0).weaken fun a ha => by
    simp only [List.mem_cons, List.not_mem_nil, or_false] at ha ⊢
    tauto
  refine (hdone.trans ((Dev.wr_onlyRegs _ (R.TIL_DATA n) _).weaken fun a ha => ?_)).trans
    (Dev.put_onlyRegs_of_mem _ (F.TIL_STAT_RDY n) 1 (List.mem_cons_of_mem _ (List.mem_cons_of_mem _ List.mem_cons_self)))
  rw [List.mem_singleton.1 ha]
  exact List.mem_cons_of_mem _ List.mem_cons_self

/-- Settles O31: each frame by the lemma that says what it runs, and what the fields of the positions and of TILn show. -/
theorem tileFramesAtTheLink : Obligations.tile_frames_at_the_link := by
  unfold Obligations.tile_frames_at_the_link
  refine ⟨fun s n p seq result pmask arr f hs h => runs_ack_unacked hs h, fun s n p seq result pmask arr hs h => ?_,
    fun s n p etag tt res rtt hs hr hup hlt => ?_, fun s n p etag tt res rtt hs hr hup hlen hst => ?_,
    fun s n p handle pidx out status start stop ipk i2t hs h hten => ?_, fun s n p handle pidx out status start stop ipk i2t x hs h => runs_done_held hs h,
    fun s n p w1 w2 w3 hs hr hup => runs_status hs hr hup, fun s n p level out data hs hr hup => runs_diag_drive hs hr hup (by decide),
    fun s n p level out data hs hr hup => runs_diag_drive hs hr hup (by decide), fun s n p level out code data hs hr hup hc => runs_diag_drive hs hr hup hc,
    fun s n p vendor type rev slots serial fwdlat iv two hs hst hup hsl => runs_ident_good hs hst hup rfl rfl hsl,
    fun s n p vendor type rev proto nout slots serial fwdlat iv two hs hst hup hp => ?_, fun s n p addr data hs hb hw hp ha => ?_,
    fun s n p handle wseq kind out t0 samples hs _ hcap => runs_congr (runs_wave hs rfl hcap) rfl⟩
  · exact completes_runs_eq s.dev (runs_ack_none hs h) hs.1 rfl rfl rfl rfl
  · refine completes_noLk _ (runs_echoRsp_more hs hr hup rfl (by simpa using hlt)) hs.1 rfl (Dev.setLp_noLk _ _ _ _) ⟨?_, ?_, Dev.noLk_rest (Dev.setLp_noLk _ _ _ _)⟩
    · rw [Dev.echoTook, Dev.lp_setLp_same]
    · rw [Dev.echoTook, Dev.lp_setLp_same]
      rfl
  · refine runs_congr (runs_echoRsp_last hs hr hup rfl (by simpa using hlen.ge) ?_) (if_pos hst)
    rw [List.length_append, List.length_singleton, hlen, Nat.sub_self, List.drop_zero, State.start]
  · exact completes_runs_eq s.dev (runs_done_none hs h) hs.1 (Dev.thermHeat_off _ hten) rfl rfl rfl
  · exact completes_runs_eq _ (runs_ident_bad hs hst hup (.inl hp)) hs.1 rfl (Dev.identBad_rest _ _ _ _).1 (Dev.identBad_rest _ _ _ _).2
      (Dev.identBad_spec _ _ _ _)
  · obtain ⟨haddr, hdata, hstat⟩ := tilWords_ne n
    refine completes_onlyRegs _ (runs_regdata hs hb hw hp ha) hs.1 rfl (s.dev.regdataIn_onlyRegs n data) ⟨?_, ?_, ?_, ?_, s.dev.regdataIn_onlyRegs n data⟩
    · exact (Dev.rd_put_ne _ _ _ hdata).trans (Dev.rd_wr_same _ _ _)
    · exact (Dev.flag_put_same _ (F.TIL_STAT_RDY n) 1 (by simp)).trans (by simp)
    · refine (Dev.flag_put_apart _ _ (F.TIL_STAT_BUSY n) _ (by simp) (by simp) (by simp)).trans ?_
      rw [Dev.flag, Dev.get_wr_ne _ _ hdata.symm, ← Dev.flag, Dev.tilDone_busy]
    · refine (Dev.get_put_apart _ _ (F.TIL_STAT_RESULT n) _ (by simp) (by simp) (by simp)).trans ?_
      rw [Dev.get_wr_ne _ _ hdata.symm, Dev.tilDone_result _ _ (by decide)]

/-- Settles O32: each command by the lemma that says what it runs, and what the fields it names show. -/
theorem linkPeriodsAndLosses : Obligations.link_periods_and_losses := by
  unfold Obligations.link_periods_and_losses
  refine ⟨fun s n p seq f hs hf h => runs_ackTimeout_again hs hf h, fun s n p seq f hs hf h => runs_ackTimeout_lost hs hf h,
    fun s n hs h => runs_timePeriod hs h, fun s n p hs hup hr hsil => ?_, fun s n p hs hup hr => runs_echoPeriod hs hup hr, fun s n p hs h => ?_,
    fun s n p hs h => runs_congr (runs_core (fun d => d.autoDiscover n p) rfl hs) (if_pos h), fun s n hs hg ha => ?_,
    fun s n hs h => runs_lockLost hs h, fun s n p hs h => runs_statusTimeout hs h, fun s req n hs h => runs_redisc hs h,
    fun s req m value hs => runs_core _ rfl hs⟩
  · have heq : s.dev.echoReq n p = s.dev.setLp n p { s.dev.lp n p with etag := ((s.dev.lp n p).etag + 1) % 65536 } :=
      Dev.sendUn_silent _ _ _ _ ((Dev.noLk_silent (Dev.setLp_noLk _ _ _ _)).trans hsil)
    refine completes_noLk _ (runs_echoPeriod hs hup hr) hs.1 heq (Dev.setLp_noLk _ _ _ _) ⟨?_, Dev.noLk_rest (Dev.setLp_noLk _ _ _ _)⟩
    rw [Dev.lp_setLp_same]
  · have hrest : ((s.dev.put (F.TLK_POS_STATE n p) 0).upLp n p (fun x => { x with stage := 0 })).noRegLink = s.dev.noRegLink :=
      (Dev.setLp_noRegLink _ _ _ _).trans (Dev.put_noRegLink _ _ _)
    refine completes_runs_eq _ (runs_identTimeout hs h) hs.1 rfl (Dev.noRegLink_corks hrest) (Dev.noRegLink_fab hrest) ⟨?_, ?_, fun a ha => ?_, ?_⟩
    · rw [Dev.upLp_get, Dev.get_put_same _ _ _ (by simp)]
      simp
    · rw [Dev.lp_upLp_same]
    · exact (Dev.upLp_rd _ _ _ _ _).trans (Dev.rd_put_ne _ _ _ ha)
    · exact Dev.noRegLink_rest hrest
  · have heq : (s.dev.put (F.TLK_STAT_LOCK n) 1).autoDiscover n 0 = s.dev.put (F.TLK_STAT_LOCK n) 1 := by
      refine if_neg ?_
      rw [Dev.flag, Dev.get_put_ne _ _ _ _ (by simp), ← Dev.flag, ha]
      exact Bool.false_ne_true
    refine completes_onlyRegs _ (runs_hop0LockGained hs hg) hs.1 heq (Dev.put_onlyRegs _ (F.TLK_STAT_LOCK n) 1) ⟨?_, Dev.put_onlyRegs _ (F.TLK_STAT_LOCK n) 1⟩
    rw [Dev.flag_put_same _ _ _ (by simp)]
    simp

end Sys2Proof.Machine

/-! PROOFS. Lanes of a tile link (R276-R281). -/

namespace Sys2Proof.Machine

/-! ### Frames that a link adds leave all but its lanes -/

theorem Link.begin_sok0U (l : Link) (off : Int) (c : Nat) : (l.begin off c).sok0U = l.sok0U := by
  unfold Link.begin
  split <;> rfl

theorem Link.swapDue_sok0U (l : Link) (c : Nat) : (l.swapDue c).sok0U = l.sok0U :=
  List.foldlRecOn (motive := fun x : Link => x.sok0U = l.sok0U) _ _ rfl fun _ hx _ _ => hx

theorem txRun_sok0U (off : Int) (m : Bool) (c k : Nat) (l : Link) : (txRun off m c k l).sok0U = l.sok0U := by
  induction k generalizing l with
  | zero => rfl
  | succ k ih =>
    unfold txRun
    split
    · rfl
    · dsimp only
      split
      · rw [ih, Link.begin_sok0U, Link.swapDue_sok0U]
        rfl
      · rfl

theorem Dev.noTile_lk {d e : Dev} (h : e.noTile = d.noTile) (n : Nat) : e.lk n = d.lk n :=
  show e.noTile.lk n = d.noTile.lk n from congrArg (fun x : Dev => x.lk n) h

theorem Dev.setLane_lk (d : Dev) (n : Nat) (l : Link) : (d.setLane n l).lk n = l :=
  List.foldlRecOn (motive := fun y : Dev => y.lk n = l) _ _ (Dev.lk_setLk_same _ _ _) fun _ hy _ _ =>
    (Dev.noTile_lk (Dev.repeatDn_noTile _ _ _ _) n).trans hy

/-- Frames go to the lanes of link n: its lanes run on, its links and tiles apart nothing changes, and the spare of hop 0 keeps its state. -/
structure Dev.Sends (n : Nat) (d e : Dev) : Prop where
  run : Dev.LanesRun n d.mySide d e
  rest : e.noLink = d.noLink
  sok : (e.lk n).sok0U = (d.lk n).sok0U

theorem Dev.Sends.refl (n : Nat) (d : Dev) : Sends n d d := ⟨.refl _ _ d, rfl, rfl⟩

theorem Dev.Sends.trans {n : Nat} {d e f : Dev} (h : Sends n d e) (g : Sends n e f) : Sends n d f := by
  have hrun := g.run
  rw [Dev.noLink_mySide h.rest] at hrun
  exact ⟨h.run.trans hrun, g.rest.trans h.rest, g.sok.trans h.sok⟩

theorem Dev.setLk_sends (d : Dev) {n : Nat} {l : Link} (h : l.sok0U = (d.lk n).sok0U) : Sends n d (d.setLk n l) :=
  ⟨Dev.setLk_lanesRun _ _ _ _ _, rfl, by rw [Dev.lk_setLk_same, h]⟩

theorem Dev.setLp_sends (d : Dev) (n p : Nat) (x : LPos) : Sends n d (d.setLp n p x) := Dev.setLk_sends d rfl

theorem Dev.txNow_sends (d : Dev) (n : Nat) : Sends n d (d.txNow n) := by
  refine ⟨(d.setLane_runs n _).1, (d.setLane_runs n _).2, ?_⟩
  rw [Dev.txNow, Dev.setLane_lk, txRun_sok0U]

/-- A frame that pushes no other one aside only goes to the lanes. -/
theorem Dev.txAdd_sends (d : Dev) (n : Nat) {f : DFrame} (hf : frameClass f.typ ≠ 0) : Sends n d (d.txAdd n f) := by
  unfold Dev.txAdd
  split
  · exact .refl n d
  · refine (d.txNow_sends n).trans ?_
    dsimp only
    split
    · exact Dev.setLk_sends _ (by rw [Link.begin_sok0U])
    · split
      · exact Dev.setLk_sends _ (by rw [Link.begin_sok0U])
      · rw [if_neg (by simp [hf])]
        exact Dev.setLk_sends _ rfl

theorem Dev.Sends.forN {n k : Nat} {f : Dev → Nat → Dev} (hf : ∀ x i, Dev.Sends n x (f x i)) (d : Dev) : Sends n d (forN k f d) := by
  induction k with
  | zero => exact .refl n d
  | succ k ih =>
    rw [forN_succ]
    exact ih.trans (hf _ k)

theorem Dev.echoReq_sends (d : Dev) (n p : Nat) : Sends n d (d.echoReq n p) :=
  (d.setLp_sends n p _).trans (Dev.txAdd_sends _ n (show frameClass 6 ≠ 0 by decide))

theorem Dev.echoBurst_sends (d : Dev) (n p : Nat) : Sends n d (d.echoBurst n p) :=
  (d.setLp_sends n p _).trans (Dev.Sends.forN (f := fun x _ => x.echoReq n p) (fun x _ => x.echoReq_sends n p) _)

theorem Dev.echoBeyond_sends (d : Dev) (n p : Nat) : Sends n d (d.echoBeyond n p) := by
  refine Dev.Sends.forN (fun x q => ?_) d
  split
  · exact x.echoBurst_sends n q
  · exact .refl n x

/-! ### Hop 0 takes its spare (R277, R280) -/

/-- The device with the lanes of hop 0 up exchanged. -/
theorem Dev.laneTake_hop0 (d : Dev) (n : Nat) : d.laneTake n 0 true =
    ((d.put (spup n 0) (1 - d.get (spup n 0))).upLk n (fun l => { l with sok0U := false })).upLk n (fun l => { l with skew0U := -l.skew0U }) := rfl

theorem Dev.laneTake_hop0_get (d : Dev) (n : Nat) : (d.laneTake n 0 true).get (spup n 0) = 1 - d.get (spup n 0) := by
  rw [Dev.laneTake_hop0, Dev.get, Dev.rd_congr (Dev.upLk_reg _ _ _), Dev.rd_congr (Dev.upLk_reg _ _ _), ← Dev.get]
  refine (Dev.get_put_same d (spup n 0) _ ⟨le_refl 3, by show 3 < 32; decide⟩).trans (Nat.mod_eq_of_lt ?_)
  show 1 - d.get (spup n 0) < 2
  omega

theorem Dev.laneTake_hop0_rd (d : Dev) (n : Nat) {a : Nat} (h : a ≠ R.TLK_LANE n) : (d.laneTake n 0 true).rd a = d.rd a := by
  rw [Dev.laneTake_hop0, Dev.rd_congr (Dev.upLk_reg _ _ _), Dev.rd_congr (Dev.upLk_reg _ _ _)]
  exact Dev.rd_put_ne d (spup n 0) _ h

theorem Dev.laneTake_hop0_sok (d : Dev) (n : Nat) : ((d.laneTake n 0 true).lk n).sok0U = false := by
  rw [Dev.laneTake_hop0, Dev.lk_upLk_same, Dev.lk_upLk_same]

/-- The device without its registers, links and tiles. -/
def Dev.noRegsLink (d : Dev) : Dev := { d with reg := [], lnk := [], tile := [] }

theorem Dev.put_noRegsLink (d : Dev) (f : Fld) (v : Nat) : (d.put f v).noRegsLink = d.noRegsLink := rfl
theorem Dev.upLk_noRegsLink (d : Dev) (n : Nat) (f : Link → Link) : (d.upLk n f).noRegsLink = d.noRegsLink := rfl
theorem Dev.upLk_tle (d : Dev) (n : Nat) (f : Link → Link) (u : Nat) : (d.upLk n f).tle u = d.tle u := rfl
theorem Dev.put_tle (d : Dev) (f : Fld) (v u : Nat) : (d.put f v).tle u = d.tle u := rfl

theorem Dev.noRegsLink_rest {d e : Dev} (h : e.noRegsLink = d.noRegsLink) : { e with reg := d.reg, lnk := d.lnk, tile := d.tile } = d :=
  congrArg (fun x : Dev => { x with reg := d.reg, lnk := d.lnk, tile := d.tile }) h

theorem Dev.noRegsLink_of_noLink {d e : Dev} (h : e.noLink = d.noLink) : e.noRegsLink = d.noRegsLink := congrArg (fun x : Dev => { x with reg := [] }) h

theorem Dev.noRegsLink_corks {d e : Dev} (h : e.noRegsLink = d.noRegsLink) : e.corks = d.corks :=
  show e.noRegsLink.corks = d.noRegsLink.corks from congrArg Dev.corks h

theorem Dev.noRegsLink_fab {d e : Dev} (h : e.noRegsLink = d.noRegsLink) : e.fab = d.fab :=
  show e.noRegsLink.fab = d.noRegsLink.fab from congrArg Dev.fab h

theorem Dev.laneTake_hop0_rest (d : Dev) (n : Nat) : (d.laneTake n 0 true).noRegsLink = d.noRegsLink := by
  rw [Dev.laneTake_hop0, Dev.upLk_noRegsLink, Dev.upLk_noRegsLink, Dev.put_noRegsLink]

theorem Dev.laneTake_hop0_tle (d : Dev) (n u : Nat) : (d.laneTake n 0 true).tle u = d.tle u := by
  rw [Dev.laneTake_hop0, Dev.upLk_tle, Dev.upLk_tle, Dev.put_tle]

/-! ### What lanes carry (R237) -/

theorem data_legal (l : List Nat) : (l.map Chr.d).all Chr.legal = true := by
  rw [List.all_map]
  exact List.all_eq_true.2 fun _ _ => rfl

theorem frameChars_legal (h : Nat) (ws : List Nat) : (frameChars h ws).all Chr.legal = true := by
  unfold frameChars
  dsimp only
  rw [List.cons_append, List.all_cons, List.all_append, data_legal]
  decide

/-! ### The commands -/

section
variable {s : State} {n : Fin 16} {p : Fin 4}

theorem runs_swdn {req : Fin 10} (hs : s.coreRuns) (h : s.dev.lgOn n = true) : Runs (.swdn req n p) s fun d => d.planSwap n p false :=
  runs_congr (runs_core _ (show execSwdn req n p s = _ from rfl) hs) (if_pos h)

theorem runs_swup {req : Fin 10} (hs : s.coreRuns) (h : s.dev.lgOn n = true) : Runs (.swup req n p) s fun d => d.planSwap n p true :=
  runs_congr (runs_core _ (show execSwup req n p s = _ from rfl) hs) (if_pos h)

/-- Code violations of a hop direction at the end of its span (R278). -/
def Dev.spanSeen (d : Dev) (n p : Nat) (up : Bool) (cv : Nat) : Nat := if up && p == 0 then cv else if up then (d.lp n p).cvU else (d.lp n p).cvD

/-- The span's end: its violations are taken and the count begins anew. -/
def Dev.spanEnd (d : Dev) (n p : Nat) (up : Bool) (cv : Nat) : Dev :=
  (d.laneCv n p up cv).upLp n p (fun x => if up then { x with cvU := 0 } else { x with cvD := 0 })

theorem runs_autoSwap {up : Bool} {cv : Nat} (hs : s.coreRuns) : Runs (.autoSwap n p ⟨up, cv⟩) s fun d =>
    if d.flag (F.TLK_LANE_AUTO n) && decide (d.get (F.TLK_LANE_BERTH n) < d.spanSeen n p up cv) then (d.spanEnd n p up cv).planSwap n p up
    else d.spanEnd n p up cv := runs_core _ rfl hs

theorem runs_autoSwap_over {up : Bool} {cv : Nat} (hs : s.coreRuns) (ha : s.dev.flag (F.TLK_LANE_AUTO n) = true)
    (h : s.dev.get (F.TLK_LANE_BERTH n) < s.dev.spanSeen n p up cv) :
    Runs (.autoSwap n p ⟨up, cv⟩) s fun d => (d.spanEnd n p up cv).planSwap n p up :=
  runs_congr (runs_autoSwap hs) (if_pos (by simp [State.start, ha, h]))

theorem runs_autoSwap_manual {up : Bool} {cv : Nat} (hs : s.coreRuns) (ha : s.dev.flag (F.TLK_LANE_AUTO n) = false) :
    Runs (.autoSwap n p ⟨up, cv⟩) s fun d => d.spanEnd n p up cv :=
  runs_congr (runs_autoSwap hs) (if_neg (by simp [State.start, ha]))

theorem runs_lswap {up : Bool} (hs : s.coreRuns) : Runs (.lswap n p up) s fun d => (d.laneTake n p up).echoBeyond n p := runs_core _ rfl hs

theorem runs_workingLaneLoss {up : Bool} (hs : s.coreRuns) (h : s.dev.trained n p up = true) :
    Runs (.workingLaneLoss n p up) s fun d => (((d.laneTake n p up).incSat (F.TLK_CNT1_SWAPS n)).laneLog).echoBeyond n p :=
  runs_congr (runs_core _ (show execWorkingLaneLoss n p up s = _ from rfl) hs) (if_pos h)

theorem runs_laneFail {up : Bool} (hs : s.coreRuns) : Runs (.laneFail n p up) s fun d => (d.setSok n p up false).laneFail n p up := runs_core _ rfl hs

theorem runs_spareTrained {up : Bool} {skew : Int} (hs : s.coreRuns) (h : s.dev.mirrors n p up = true) :
    Runs (.spareTrained n p up skew) s fun d => ((d.laneOk n p up).setSkew n p up skew).setTrained n p d.mySide up true :=
  runs_congr (runs_core _ (show execSpareTrained n p up skew s = _ from rfl) hs) (if_pos h)

end

theorem Dev.planSwap_untrained {d : Dev} {n p : Nat} {up : Bool} (hup : d.linkUp n = true) (h : d.sok n p up = false) :
    d.planSwap n p up = d.laneFail n p up := by
  simp [Dev.planSwap, hup, h]

/-- A planned swap over a trained spare counts, and goes to the transmitter of the hop direction (R277). -/
theorem Dev.planSwap_trained {d : Dev} {n p : Nat} {up : Bool} (hup : d.linkUp n = true) (h : d.sok n p up = true) :
    d.planSwap n p up =
      if up then ((d.incSat (F.TLK_CNT1_SWAPS n)).laneLog).sendRel n p 12 [5] 0 0 0
      else if p = 0 then ((d.incSat (F.TLK_CNT1_SWAPS n)).laneLog).swapOwn n
      else ((d.incSat (F.TLK_CNT1_SWAPS n)).laneLog).sendRel n (p - 1) 12 [4] 0 0 0 := by
  simp [Dev.planSwap, hup, h]

/-! ### A lane that fails again, and a spare trained at hop 0 -/

theorem Dev.setSok_noLk (d : Dev) (n p : Nat) (up b : Bool) : (d.setSok n p up b).noLk = d.noLk := by
  unfold Dev.setSok
  split <;> rfl

theorem Dev.setSok_sok (d : Dev) (n p : Nat) (up b : Bool) : (d.setSok n p up b).sok n p up = b := by
  unfold Dev.setSok Dev.sok
  by_cases hp : p = 0
  · cases up <;> simp [hp]
  · cases up <;> simp [hp]

theorem Dev.upLk_lp {d : Dev} {n : Nat} {f : Link → Link} (p : Nat) (h : (f (d.lk n)).pos = (d.lk n).pos) : (d.upLk n f).lp n p = d.lp n p := by
  rw [Dev.lp, Dev.lk_upLk_same, h, Dev.lp]

theorem Dev.setSok_fail (d : Dev) (n p : Nat) (up b : Bool) :
    ((d.setSok n p up b).lp n p).failU = (d.lp n p).failU ∧ ((d.setSok n p up b).lp n p).failD = (d.lp n p).failD := by
  unfold Dev.setSok
  split
  · rw [Dev.upLk_lp p rfl]
    exact ⟨rfl, rfl⟩
  · rw [Dev.lp_upLp_same]
    cases up <;> exact ⟨rfl, rfl⟩

theorem Dev.laneFail_again {d : Dev} {n p : Nat} {up : Bool} (h : (if up then (d.lp n p).failU else (d.lp n p).failD) = true) :
    d.laneFail n p up = d := if_pos h

theorem Dev.causeOff_none {d : Dev} (b c i : Nat) (h : d.causes = []) : d.causeOff b c i = d := by
  unfold Dev.causeOff
  rw [h, List.filter_nil, ← h]

theorem Dev.laneOk_quiet {d : Dev} (n p : Nat) (up : Bool) (h : d.causes = []) :
    d.laneOk n p up = d.upLp n p (fun x => if up then { x with failU := false } else { x with failD := false }) := by
  have hq : (d.upLp n p (fun x => if up then { x with failU := false } else { x with failD := false })).causes = [] := h
  exact ite_eq_left_iff.2 fun _ => Dev.causeOff_none _ _ _ hq

/-- Hop 0 up with its spare trained: the link knows it and how the lanes lie to each other. -/
def Dev.trainedHop0 (d : Dev) (n : Nat) (skew : Int) : Dev :=
  ((d.upLp n 0 (fun x => { x with failU := false })).upLk n (fun l => { l with skew0U := skew })).upLk n (fun l => { l with sok0U := true })

theorem Dev.spareTrained_hop0 {d : Dev} (n : Nat) (skew : Int) (h : d.causes = []) :
    ((d.laneOk n 0 true).setSkew n 0 true skew).setTrained n 0 d.mySide true true = d.trainedHop0 n skew := by
  rw [Dev.laneOk_quiet _ _ _ h]
  exact if_pos (beq_self_eq_true d.mySide)

theorem Dev.trainedHop0_noLk (d : Dev) (n : Nat) (skew : Int) : (d.trainedHop0 n skew).noLk = d.noLk := by
  rw [Dev.trainedHop0, Dev.upLk_noLk, Dev.upLk_noLk, Dev.upLp_noLk]

theorem Dev.trainedHop0_lk (d : Dev) (n : Nat) (skew : Int) : ((d.trainedHop0 n skew).lk n).skew0U = skew ∧ ((d.trainedHop0 n skew).lk n).sok0U = true := by
  rw [Dev.trainedHop0, Dev.lk_upLk_same, Dev.lk_upLk_same]
  exact ⟨rfl, rfl⟩

theorem Dev.noLk_still {d e : Dev} (h : e.noLk = d.noLk) : Dev.still { e with lnk := d.lnk } = d.still :=
  show Dev.still { e.noLk with lnk := d.lnk } = Dev.still { d.noLk with lnk := d.lnk } from congrArg (fun x : Dev => Dev.still { x with lnk := d.lnk }) h

/-! ### Counters -/

/-- Counters of link n, where its link group is on. -/
def Dev.tlkCntOne (d : Dev) (n : Nat) : Dev := if d.lgOn n then ((d.wr (R.TLK_CNT0 n) 0).wr (R.TLK_CNT1 n) 0).wr (R.TLK_LAT n) 0 else d

/-- Words of the counters of link n. -/
def tlkCntWord (n a : Nat) : Prop := a = R.TLK_CNT0 n ∨ a = R.TLK_CNT1 n ∨ a = R.TLK_LAT n

theorem Dev.tlkCntOne_clears (d : Dev) (n : Nat) : d.Clears (tlkCntWord n) (d.tlkCntOne n) :=
  .ite (fun _ => (((Dev.Clears.refl _ d).wr (.inl rfl)).wr (.inr (.inl rfl))).wr (.inr (.inr rfl))) fun _ => .refl _ d

theorem Dev.tlkCntClr_clears (d : Dev) (mask : Nat) : d.Clears (maskWords 16 mask tlkCntWord) (d.tlkCntClr mask) :=
  Dev.clrMask_clears (f := Dev.tlkCntOne) Dev.tlkCntOne_clears d

theorem tlkCntWord_lt {n a : Nat} (h : tlkCntWord n a) : 0xe0000 + 0x200 * n ≤ a ∧ a < 0xe0200 + 0x200 * n := by
  unfold tlkCntWord at h
  simp only [R.TLK_CNT0, R.TLK_CNT1, R.TLK_LAT] at h
  omega

/-- Counters of links are no words of the power domains, so that the link groups stay on. -/
theorem Dev.Clears.lgOn {d e : Dev} {mask : Nat} (h : d.Clears (maskWords 16 mask tlkCntWord) e) {n : Nat} (hn : n < 16) : e.lgOn n = d.lgOn n :=
  Dev.domUp_congr _ fun f hf => by
    rw [Dev.get, Dev.get, h.rd]
    rintro ⟨i, _, _, hw⟩
    have hlo := (tlkCntWord_lt hw).1
    rw [hf] at hlo
    change 0xe0000 + 0x200 * i ≤ 0x20200 + 0x20 * (1 + n / 4) at hlo
    omega

theorem Dev.tlkCntOne_zero {d : Dev} {n : Nat} (h : d.lgOn n = true) :
    (d.tlkCntOne n).rd (R.TLK_CNT0 n) = 0 ∧ (d.tlkCntOne n).rd (R.TLK_CNT1 n) = 0 ∧ (d.tlkCntOne n).rd (R.TLK_LAT n) = 0 := by
  rw [Dev.tlkCntOne, if_pos h]
  exact ⟨Dev.rd_wr_zero (Dev.rd_wr_zero (Dev.rd_wr_same _ _ _)), Dev.rd_wr_zero (Dev.rd_wr_same _ _ _), Dev.rd_wr_same _ _ _⟩

theorem Dev.tlkCntClr_zero (d : Dev) {mask n : Nat} (hn : n < 16) (hb : bitOf mask n = true) (hg : d.lgOn n = true) :
    (d.tlkCntClr mask).rd (R.TLK_CNT0 n) = 0 ∧ (d.tlkCntClr mask).rd (R.TLK_CNT1 n) = 0 ∧ (d.tlkCntClr mask).rd (R.TLK_LAT n) = 0 := by
  refine forN_clears (S := maskWords 16 mask tlkCntWord) (Z := fun e => e.rd (R.TLK_CNT0 n) = 0 ∧ e.rd (R.TLK_CNT1 n) = 0 ∧ e.rd (R.TLK_LAT n) = 0)
    (fun x i hi => .ite (fun hm => (x.tlkCntOne_clears i).weaken fun _ ha => ⟨i, hi, hm, ha⟩) fun _ => .refl _ x)
    (fun x y h hz => ⟨h.rd_zero hz.1, h.rd_zero hz.2.1, h.rd_zero hz.2.2⟩) hn fun x hx => ?_
  rw [if_pos hb]
  exact Dev.tlkCntOne_zero ((hx.lgOn hn).trans hg)

/-- A word of the counters of a link that the mask leaves out stays. -/
theorem Dev.tlkCntClr_else (d : Dev) {mask n a : Nat} (ha : tlkCntWord n a) (hb : bitOf mask n = false) : (d.tlkCntClr mask).rd a = d.rd a := by
  refine (d.tlkCntClr_clears mask).rd a ?_
  rintro ⟨i, _, hm, hw⟩
  have hi := tlkCntWord_lt hw
  have hn := tlkCntWord_lt ha
  rw [show i = n by omega, hb] at hm
  exact Bool.false_ne_true hm

/-- Settles O33: a planned swap by whether its spare is trained and where its transmitter stands; what goes to the lanes changes nothing else. -/
theorem linkLanes : Obligations.link_lanes := by
  unfold Obligations.link_lanes
  refine ⟨fun h ws => ?_, fun s req n hs hg hup hk => runs_congr (runs_swdn hs hg) (Dev.planSwap_trained hup hk),
    fun s req n p hs hg hup hk hp => runs_congr (runs_swdn hs hg) ((Dev.planSwap_trained hup hk).trans (if_neg hp)),
    fun s req n p hs hg hup hk => runs_congr (runs_swup hs hg) (Dev.planSwap_trained hup hk),
    fun s n p cv hs ha h => runs_autoSwap_over hs ha h, fun s n cv hs ha h => runs_autoSwap_over hs ha h,
    fun s n p up cv hs ha => runs_autoSwap_manual hs ha, fun s req n p hs hg hup hk => runs_congr (runs_swdn hs hg) (Dev.planSwap_untrained hup hk),
    fun s req n p hs hg hup hk => runs_congr (runs_swup hs hg) (Dev.planSwap_untrained hup hk), fun s n hs => ?_,
    fun s n p up hs h => runs_workingLaneLoss hs h, fun s n p up hs h => ?_, fun s n p up hs => runs_laneFail hs, fun s n p up hs => runs_lswap hs,
    fun s n p up skew hs h => runs_spareTrained hs h, fun s n skew hs hc hm => ?_, fun s req mask hs => ?_⟩
  · rw [List.all_append, List.all_append, List.all_append, frameChars_legal]
    decide
  · have hsend := (s.dev.laneTake n 0 true).echoBeyond_sends n 0
    have hrest := (Dev.noRegsLink_of_noLink hsend.rest).trans (s.dev.laneTake_hop0_rest n)
    refine completes_runs_eq _ (runs_lswap hs) hs.1 rfl (Dev.noRegsLink_corks hrest) (Dev.noRegsLink_fab hrest)
      ⟨?_, hsend.sok.trans (s.dev.laneTake_hop0_sok n), fun a ha => ?_, fun t u _ => ?_, Dev.noRegsLink_rest hrest⟩
    · exact (congrArg (fldGet (spup n 0)) (Dev.rd_congr (Dev.noLink_reg hsend.rest) (spup n 0).addr)).trans (s.dev.laneTake_hop0_get n)
    · exact (Dev.rd_congr (Dev.noLink_reg hsend.rest) a).trans (s.dev.laneTake_hop0_rd n ha)
    · exact (hsend.run.lanes u).trans (by rw [Dev.laneTake_hop0_tle]; rfl)
  · obtain ⟨hU, hD⟩ := s.dev.setSok_fail n p up false
    have heq : (s.dev.setSok n p up false).laneFail n p up = s.dev.setSok n p up false := Dev.laneFail_again (by rw [hU, hD]; exact h)
    exact completes_noLk _ (runs_laneFail hs) hs.1 heq (Dev.setSok_noLk _ _ _ _ _) ⟨Dev.setSok_sok _ _ _ _ _, Dev.noLk_rest (Dev.setSok_noLk _ _ _ _ _)⟩
  · obtain ⟨hskew, hsok⟩ := s.dev.trainedHop0_lk n skew
    exact completes_noLk _ (runs_congr (g := fun d => d.trainedHop0 n skew) (runs_spareTrained hs hm) (Dev.spareTrained_hop0 n skew hc)) hs.1 rfl (Dev.trainedHop0_noLk _ _ _)
      ⟨hsok, hskew, Dev.noLk_still (Dev.trainedHop0_noLk _ _ _)⟩
  · exact completes_clears (runs_core _ rfl hs) hs.1 (s.dev.tlkCntClr_clears mask)
      ⟨fun n hn hb hg => Dev.tlkCntClr_zero _ hn hb hg, fun n _ hb => ⟨Dev.tlkCntClr_else _ (.inl rfl) hb, Dev.tlkCntClr_else _ (.inr (.inl rfl)) hb,
        Dev.tlkCntClr_else _ (.inr (.inr rfl)) hb⟩, (s.dev.tlkCntClr_clears mask).noRegs⟩

end Sys2Proof.Machine

/-! PROOFS. Channels of coil drive (R298-R326). -/

namespace Sys2Proof.Machine

/-! ### CHFORCE (R325, R326) -/

/-- CDT_CHFORCE written, and what CDT_FORCE_STAT shows of it. -/
def Dev.forceShown (d : Dev) (value mode ch : Nat) : Dev :=
  ((d.wr R.CDT_CHFORCE (BitVec.ofNat 32 value &&& 0xC0FF01FF#32)).put F.CDT_FORCE_STAT_MODE mode).put F.CDT_FORCE_STAT_CH ch

theorem Dev.forceShown_onlyRegs (d : Dev) (value mode ch : Nat) : Dev.onlyRegs d (d.forceShown value mode ch) [R.CDT_CHFORCE, R.CDT_FORCE_STAT] :=
  (((Dev.wr_onlyRegs d R.CDT_CHFORCE _).weaken fun a ha => by rw [List.mem_singleton.1 ha]; exact List.mem_cons_self).trans
    (Dev.put_onlyRegs_of_mem _ F.CDT_FORCE_STAT_MODE mode (List.mem_cons_of_mem _ List.mem_cons_self))).trans
    (Dev.put_onlyRegs_of_mem _ F.CDT_FORCE_STAT_CH ch (List.mem_cons_of_mem _ List.mem_cons_self))

theorem Dev.forceShown_stat (d : Dev) (value : Nat) {mode ch : Nat} (hm : mode < 4) (hc : ch < 512) :
    (d.forceShown value mode ch).get F.CDT_FORCE_STAT_MODE = mode ∧ (d.forceShown value mode ch).get F.CDT_FORCE_STAT_CH = ch := by
  refine ⟨?_, (Dev.get_put_same _ F.CDT_FORCE_STAT_CH ch (by simp)).trans (Nat.mod_eq_of_lt hc)⟩
  rw [Dev.forceShown, Dev.get_put_apart _ _ _ _ (by simp) (by simp) (by simp)]
  exact (Dev.get_put_same _ F.CDT_FORCE_STAT_MODE mode (by simp)).trans (Nat.mod_eq_of_lt hm)

theorem Dev.onlyRegs.get {d e : Dev} {l : List Nat} (h : Dev.onlyRegs d e l) {f : Fld} (hf : f.addr ∉ l) : e.get f = d.get f := by
  rw [Dev.get, h.2 _ hf, ← Dev.get]

theorem Dev.onlyRegs.flag {d e : Dev} {l : List Nat} (h : Dev.onlyRegs d e l) {f : Fld} (hf : f.addr ∉ l) : e.flag f = d.flag f := by
  rw [Dev.flag, h.get hf, ← Dev.flag]

theorem Dev.onlyRegs.abit {d e : Dev} {l : List Nat} (h : Dev.onlyRegs d e l) {a n : Nat} (ha : a + 4 * (n / 32) ∉ l) : e.abit a n = d.abit a n := by
  rw [Dev.abit, Dev.bit, h.2 _ ha, ← Dev.bit, ← Dev.abit]

theorem Dev.onlyRegs.freeHandle {d e : Dev} {l : List Nat} (h : Dev.onlyRegs d e l) (n : Nat) : e.freeHandle n = d.freeHandle n :=
  show e.noRegs.freeHandle n = d.noRegs.freeHandle n from congrArg (fun x : Dev => x.freeHandle n) h.1

theorem Dev.setAbit_onlyRegs (d : Dev) (a n : Nat) (b : Bool) : Dev.onlyRegs d (d.setAbit a n b) [a + 4 * (n / 32)] := Dev.put_onlyRegs _ _ _

/-- Words of CHFORCE stand below the words of the forced channels. -/
theorem foff_apart (c : Nat) : R.CDT_FOFF 0 + 4 * (c / 32) ∉ [R.CDT_CHFORCE, R.CDT_FORCE_STAT] := by
  simp only [List.mem_cons, List.not_mem_nil, or_false, R.CDT_FOFF, R.CDT_CHFORCE, R.CDT_FORCE_STAT]
  omega

/-- The channel's bit of CDT_FOFF set to b: what CDT_FORCE_STAT shows stays. -/
def Dev.forceSet (d : Dev) (value mode ch : Nat) (b : Bool) : Dev := (d.forceShown value mode ch).setAbit (R.CDT_FOFF 0) ch b

theorem Dev.forceSet_spec (d : Dev) (value : Nat) {mode ch : Nat} (b : Bool) (hm : mode < 4) (hc : ch < 512) :
    (d.forceSet value mode ch b).abit (R.CDT_FOFF 0) ch = b ∧ (d.forceSet value mode ch b).get F.CDT_FORCE_STAT_MODE = mode
      ∧ (d.forceSet value mode ch b).get F.CDT_FORCE_STAT_CH = ch
      ∧ (∀ c, c ≠ ch → (d.forceSet value mode ch b).abit (R.CDT_FOFF 0) c = d.abit (R.CDT_FOFF 0) c)
      ∧ (d.forceSet value mode ch b).noRegs = d.noRegs := by
  obtain ⟨hmode, hch⟩ := d.forceShown_stat value hm hc
  have hset := (d.forceShown value mode ch).setAbit_onlyRegs (R.CDT_FOFF 0) ch b
  have hstat : R.CDT_FORCE_STAT ∉ [R.CDT_FOFF 0 + 4 * (ch / 32)] := by
    simp only [List.mem_singleton, R.CDT_FOFF, R.CDT_FORCE_STAT]
    omega
  have honly := d.forceShown_onlyRegs value mode ch
  exact ⟨Dev.abit_setAbit_same _ _ _ _, (hset.get hstat).trans hmode, (hset.get hstat).trans hch,
    fun c hne => (Dev.abit_setAbit_ne _ _ _ hne).trans (honly.abit (foff_apart c)), hset.1.trans honly.1⟩

theorem forceValue_off (ch : Fin 512) : bits (2 ^ 30 + ch.val) 31 30 = 1 ∧ (2 ^ 30 + ch.val) % 512 = ch.val := by
  unfold bits
  omega

theorem forceValue_on (ch : Fin 512) (prf : Fin 256) : bits (2 ^ 31 + prf.val * 2 ^ 16 + ch.val) 31 30 = 2
    ∧ bits (2 ^ 31 + prf.val * 2 ^ 16 + ch.val) 23 16 = prf.val ∧ (2 ^ 31 + prf.val * 2 ^ 16 + ch.val) % 512 = ch.val := by
  unfold bits
  omega

theorem forceValue_release (ch : Fin 512) : bits ch.val 31 30 = 0 ∧ ch.val % 512 = ch.val := by
  unfold bits
  omega

theorem Dev.noRegs_corks {d e : Dev} (h : e.noRegs = d.noRegs) : e.corks = d.corks :=
  show e.noRegs.corks = d.noRegs.corks from congrArg Dev.corks h

theorem Dev.noRegs_fab {d e : Dev} (h : e.noRegs = d.noRegs) : e.fab = d.fab :=
  show e.noRegs.fab = d.noRegs.fab from congrArg Dev.fab h

theorem Dev.noRegs_sch {d e : Dev} (h : e.noRegs = d.noRegs) : e.sch = d.sch :=
  show e.noRegs.sch = d.noRegs.sch from congrArg Dev.sch h

theorem Dev.chForce_off {d : Dev} (ch : Fin 512) (h : d.sch.occs = []) : d.chForce (2 ^ 30 + ch.val) = d.forceSet (2 ^ 30 + ch.val) 1 ch true := by
  obtain ⟨hmode, hch⟩ := forceValue_off ch
  have hocc : (d.forceSet (2 ^ 30 + ch.val) 1 ch true).sch.occs = [] := by
    obtain ⟨-, -, -, -, hrest⟩ := d.forceSet_spec (2 ^ 30 + ch.val) true (by decide : 1 < 4) ch.isLt
    rw [Dev.noRegs_sch hrest, h]
  unfold Dev.chForce
  simp only [hmode, hch]
  rw [Dev.forceSet, Dev.forceShown] at hocc
  simp only [hocc, List.foldl_nil]
  rfl

theorem Dev.chForce_release (d : Dev) (ch : Fin 512) : d.chForce ch.val = d.forceSet ch.val 0 ch false := by
  obtain ⟨hmode, hch⟩ := forceValue_release ch
  unfold Dev.chForce
  simp only [hmode, hch]
  rfl

/-- The channel that forcing on would run is refused: enabled, without its tile, forced off, blocked, or its link out of handles. -/
def Dev.forceBarred (d : Dev) (ch : Nat) : Bool :=
  d.abit (R.SCH_CHEN 0) ch || !d.tilePresent (tileOfCh ch) || d.abit (R.CDT_FOFF 0) ch || d.flag (F.CDT_CH_STAT_BLK ch) ||
    (d.freeHandle (tileOfCh ch / 4)).isNone

theorem Dev.chForce_on (d : Dev) (ch : Fin 512) (prf : Fin 256) : d.chForce (2 ^ 31 + prf.val * 2 ^ 16 + ch.val) =
    (let x := d.forceShown (2 ^ 31 + prf.val * 2 ^ 16 + ch.val) 2 ch
     if x.forceBarred ch then x.put F.CDT_FORCE_STAT_REFUSED 1 else (x.put F.CDT_FORCE_STAT_REFUSED 0).commitOcc (x.forceOcc ch prf)) := by
  obtain ⟨hmode, hprf, hch⟩ := forceValue_on ch prf
  unfold Dev.chForce
  simp only [hmode, hprf, hch]
  rfl

theorem Dev.tilePresent_congr {d e : Dev} {t : Nat} (ha : e.abit (R.TLK_ATTACHED 0) t = d.abit (R.TLK_ATTACHED 0) t)
    (hp : ∀ f : Fld, f.addr = (F.PWR_DOM_STAT_STATE (1 + t / 4 / 4)).addr → e.get f = d.get f) : e.tilePresent t = d.tilePresent t := by
  have hg : e.lgOn (t / 4) = d.lgOn (t / 4) := Dev.domUp_congr _ hp
  have hd : e.lgDrain (t / 4) = d.lgDrain (t / 4) := congrArg (fun v => v == 3) (hp _ rfl)
  rw [Dev.tilePresent, Dev.tilePresent, ha, hg, hd]

/-- What CDT_FORCE_STAT shows bars no channel. -/
theorem Dev.forceBarred_shown (d : Dev) (value mode : Nat) (ch : Fin 512) : (d.forceShown value mode ch).forceBarred ch = d.forceBarred ch := by
  have h := d.forceShown_onlyRegs value mode ch
  have hlow : ∀ {a : Nat}, a < 0x10c000 → a ∉ [R.CDT_CHFORCE, R.CDT_FORCE_STAT] := fun {a} ha => by
    simp only [List.mem_cons, List.not_mem_nil, or_false, R.CDT_CHFORCE, R.CDT_FORCE_STAT]
    omega
  have hch := ch.isLt
  rw [Dev.forceBarred, Dev.forceBarred, h.abit (foff_apart ch), h.freeHandle, h.abit (hlow (show 0xc1000 + 4 * 0 + 4 * (ch.val / 32) < 0x10c000 by omega)),
    h.flag (f := F.CDT_CH_STAT_BLK ch) (hlow (show 0x10003c + 0x40 * ch.val < 0x10c000 by omega)),
    Dev.tilePresent_congr (h.abit (hlow ?_)) fun f hf => h.get (hlow (by
      rw [hf]
      show 0x20200 + 0x20 * (1 + ch.val / 8 / 4 / 4) < 0x10c000
      omega))]
  show 0xe2010 + 4 * 0 + 4 * (ch.val / 8 / 32) < 0x10c000
  omega

/-- Settings of CHFORCE that force a channel on, and it is not barred. -/
theorem Dev.forceBarred_free {d : Dev} {ch : Nat} (he : d.abit (R.SCH_CHEN 0) ch = false) (ht : d.tilePresent (tileOfCh ch) = true)
    (hf : d.abit (R.CDT_FOFF 0) ch = false) (hb : d.flag (F.CDT_CH_STAT_BLK ch) = false) (hh : (d.freeHandle (tileOfCh ch / 4)).isSome = true) :
    d.forceBarred ch = false := by
  obtain ⟨v, hv⟩ := Option.isSome_iff_exists.1 hh
  simp [Dev.forceBarred, he, ht, hf, hb, hv]

theorem Dev.forceBarred_off {d : Dev} {ch : Nat} (h : d.abit (R.CDT_FOFF 0) ch = true) : d.forceBarred ch = true := by
  simp [Dev.forceBarred, h]

/-! ### The commands -/

theorem runs_offtCommand {s : State} {ch : Fin 512} (hs : s.coreRuns) (h0 : s.dev.get (F.CDT_CH_CFG_OFFT_CYC ch) ≠ 0)
    (hc : s.dev.get (F.CDT_CH_CFG_OFFT_CYC ch) ≤ (s.dev.cc ch).cyc) : Runs (.offtCommand ch) s fun d =>
      (d.setCc ch { d.cc ch with cyc := 0 }).sendRegwr (tileOfCh ch) 0x105 (2 ^ (ch.val % 8)) :=
  runs_congr (runs_core _ (show execOfftCommand ch s = _ from rfl) hs) (if_neg (by simp [State.start, h0, Nat.not_lt.2 hc]))

theorem runs_closingDetect {s : State} {ch : Fin 512} {w : CdtWin} {r : List CdtWin} (hs : s.coreRuns) (h : (s.dev.cc ch).wins = w :: r) :
    Runs (.closingDetect ch) s fun d => (d.setCc ch { d.cc ch with wins := r }).detect ch w := by
  refine runs_congr (runs_core _ (show execClosingDetect ch s = _ from rfl) hs) ?_
  simp only [State.start, h]

theorem Dev.detect_gap {d : Dev} (ch : Nat) {w : CdtWin} (h : w.gap = true) : d.detect ch w = d.postResult ch w 3 none none := if_pos h

theorem Dev.detect_noKink {d : Dev} {ch : Nat} {w : CdtWin} (hg : w.gap = false) (hd : w.done = some 0) (hk : kink (d.detCfg ch) w.samples = .noKink) :
    d.detect ch w = d.postResult ch w 1 none none := by
  unfold Dev.detect
  simp [hg, hk, hd]

/-- Pulses of the channel with a closing detection that have not begun to be watched (R305). -/
def Dev.clenNext (d : Dev) (ch : Nat) : List (Occ × OPulse) :=
  d.sch.occs.flatMap (fun o => (o.pulses.filter (fun p => (p.ch == ch && p.clen && p.status.isNone) && !(d.cc ch).begun.contains (o.uid, p.pidx))).map
    (fun p => (o, p)))

theorem runs_cresReadyClear {s : State} {ch : Fin 512} {x : Occ × OPulse} {r : List (Occ × OPulse)} (hs : s.coreRuns)
    (h : s.dev.clenNext ch = x :: r) : Runs (.cresReadyClear ch) s fun d =>
      let e := r.foldl (fun a b => if b.2.start < a.2.start then b else a) x
      ((d.advance (fdiv e.2.start 8).toNat).put (F.CDT_CH_CRES_ST_READY ch) 0).winOpen e.1 e.2 := by
  refine runs_congr (runs_core _ (show execCresReadyClear ch s = _ from rfl) hs) ?_
  unfold Dev.clenNext at h
  simp only [State.start, h]

theorem Dev.clenNext_one {d : Dev} {ch : Nat} {o : Occ} {p : OPulse} (ho : d.sch.occs = [o]) (hp : o.pulses = [p]) (hc : p.ch = ch)
    (hcl : p.clen = true) (hst : p.status = none) (hb : (d.cc ch).begun.contains (o.uid, p.pidx) = false) : d.clenNext ch = [(o, p)] := by
  unfold Dev.clenNext
  rw [ho, List.flatMap_singleton, hp, List.filter_cons_of_pos (by rw [hb, hc, hcl, hst]; simp), List.filter_nil]
  rfl

theorem Dev.thermStep_off {d : Dev} {ch : Nat} (h : d.flag (F.CDT_CH_CFG_TEN ch) = false) : d.thermStep ch = d := by
  unfold Dev.thermStep
  rw [h]
  rfl

/-- A pass whose every turn leaves the device as it is. -/
theorem forN_id {n : Nat} {f : Dev → Nat → Dev} {d : Dev} (h : ∀ i, i < n → f d i = d) : forN n f d = d := by
  induction n with
  | zero => rfl
  | succ n ih => rw [forN_succ, ih fun i hi => h i (by omega), h n (by omega)]

/-! ### Counters -/

/-- The counters of a channel, where they are not clear. -/
def Dev.cdtCntOne (d : Dev) (n : Nat) : Dev := if d.rd (R.CDT_CNT n) = 0 then d else d.wr (R.CDT_CNT n) 0

theorem Dev.cdtCntOne_clears (d : Dev) (n : Nat) : d.Clears (· = R.CDT_CNT n) (d.cdtCntOne n) :=
  .ite (fun _ => .refl _ d) fun _ => (Dev.Clears.refl _ d).wr rfl

theorem Dev.cdtCntOne_zero (d : Dev) (n : Nat) : (d.cdtCntOne n).rd (R.CDT_CNT n) = 0 := by
  unfold Dev.cdtCntOne
  split
  · assumption
  · exact Dev.rd_wr_same _ _ _

/-- Words of the channels' counters. -/
def cdtCntWord (a : Nat) : Prop := ∃ ch, ch < 512 ∧ a = R.CDT_CNT ch

theorem Dev.cdtCntClr_clears (d : Dev) : d.Clears cdtCntWord d.cdtCntClr :=
  .forN (f := Dev.cdtCntOne) (fun x i hi => (x.cdtCntOne_clears i).weaken fun _ ha => ⟨i, hi, ha⟩) d

theorem Dev.cdtCntClr_zero (d : Dev) {ch : Nat} (h : ch < 512) : d.cdtCntClr.rd (R.CDT_CNT ch) = 0 :=
  forN_clears (f := Dev.cdtCntOne) (S := cdtCntWord) (Z := fun e => e.rd (R.CDT_CNT ch) = 0)
    (fun x i hi => (x.cdtCntOne_clears i).weaken fun _ ha => ⟨i, hi, ha⟩) (fun _ _ hc hz => hc.rd_zero hz) h fun x _ => x.cdtCntOne_zero ch

/-- Settles O39: CHFORCE by its mode, the closing detection by its branch, and passes over all channels. -/
theorem coilChannels : Obligations.coil_channels := by
  unfold Obligations.coil_channels
  refine ⟨fun s req m value hs => runs_core _ rfl hs, fun s ch hs h0 hc => runs_offtCommand hs h0 hc, fun s req m mask hs => runs_core _ rfl hs,
    fun s ch w r hs hw hg => runs_congr (runs_closingDetect hs hw) (Dev.detect_gap _ hg),
    fun s ch w r hs hw hg hd hk => runs_congr (runs_closingDetect hs hw) (Dev.detect_noKink hg hd hk),
    fun s ch o p hs ho hp hc hcl hst hb => runs_cresReadyClear hs (Dev.clenNext_one ho hp hc hcl hst hb), fun s req ch hs => runs_core _ rfl hs,
    fun s hs h => ?_, fun s hs => runs_core _ rfl hs, fun s req ch hs h => ?_, fun s req ch hs => ?_, fun s req ch prf hs hf => ?_,
    fun s req ch prf hs he ht hf hb hh => ?_, fun s req hs => ?_⟩
  · exact completes_runs_eq s.dev (runs_core _ rfl hs) hs.1 (forN_id fun ch hch => Dev.thermStep_off (h ch hch)) rfl rfl rfl
  · obtain ⟨hbit, hmode, hch, helse, hrest⟩ := s.dev.forceSet_spec (2 ^ 30 + ch.val) true (by decide : 1 < 4) ch.isLt
    exact completes_runs_eq _ (runs_core (fun d => d.chForce (2 ^ 30 + ch)) rfl hs) hs.1 (Dev.chForce_off ch h) (Dev.noRegs_corks hrest)
      (Dev.noRegs_fab hrest) ⟨hbit, hmode, hch, helse, hrest⟩
  · obtain ⟨hbit, hmode, hch, helse, hrest⟩ := s.dev.forceSet_spec ch.val false (by decide : 0 < 4) ch.isLt
    exact completes_runs_eq _ (runs_core (fun d => d.chForce ch) rfl hs) hs.1 (Dev.chForce_release _ ch) (Dev.noRegs_corks hrest)
      (Dev.noRegs_fab hrest) ⟨hbit, hmode, hch, helse, hrest⟩
  · obtain ⟨hmode, hch⟩ := s.dev.forceShown_stat (2 ^ 31 + prf.val * 2 ^ 16 + ch.val) (by decide : 2 < 4) ch.isLt
    have honly := (s.dev.forceShown_onlyRegs (2 ^ 31 + prf.val * 2 ^ 16 + ch.val) 2 ch).trans
      (Dev.put_onlyRegs_of_mem _ F.CDT_FORCE_STAT_REFUSED 1 (List.mem_cons_of_mem _ List.mem_cons_self))
    have heq := (s.dev.chForce_on ch prf).trans (if_pos ((Dev.forceBarred_shown _ _ _ _).trans (Dev.forceBarred_off hf)))
    refine completes_onlyRegs _ (runs_core (fun d => d.chForce (2 ^ 31 + prf * 2 ^ 16 + ch)) rfl hs) hs.1 heq honly ⟨?_, ?_, ?_, honly.1⟩
    · rw [Dev.flag_put_same _ _ _ (by simp)]
      simp
    · rw [Dev.get_put_apart _ _ _ _ (by simp) (by simp) (by simp), hmode]
    · rw [Dev.get_put_apart _ _ _ _ (by simp) (by simp) (by simp), hch]
  · exact runs_congr (runs_core (fun d => d.chForce (2 ^ 31 + prf * 2 ^ 16 + ch)) rfl hs) ((s.dev.chForce_on ch prf).trans
      (if_neg (ne_true_of_eq_false ((Dev.forceBarred_shown _ _ _ _).trans (Dev.forceBarred_free he ht hf hb hh)))))
  · exact completes_clears (runs_core _ rfl hs) hs.1 s.dev.cdtCntClr_clears ⟨fun ch hch => s.dev.cdtCntClr_zero hch,
      fun a ha => s.dev.cdtCntClr_clears.rd a fun ⟨ch, hch, he⟩ => ha ch hch he, s.dev.cdtCntClr_clears.noRegs⟩

end Sys2Proof.Machine

/-! PROOFS. Frames from the partner of a mirrored pair, and its roles (R331-R371). -/

namespace Sys2Proof.Machine

/-! ### The device without the state of its mirror -/

/-- The device without the mirror's state. -/
def Dev.noMir (d : Dev) : Dev := { d with mir := mir0 }

/-- The device without the mirror's state and without its registers. -/
def Dev.noMirReg (d : Dev) : Dev := { d with mir := mir0, reg := [], fltNew := [] }

theorem Dev.upMir_noMir (d : Dev) (f : Mir → Mir) : (d.upMir f).noMir = d.noMir := rfl
theorem Dev.upMir_noMirReg (d : Dev) (f : Mir → Mir) : (d.upMir f).noMirReg = d.noMirReg := rfl
theorem Dev.put_noMirReg (d : Dev) (f : Fld) (v : Nat) : (d.put f v).noMirReg = d.noMirReg := rfl
theorem Dev.upMir_rd (d : Dev) (f : Mir → Mir) (a : Nat) : (d.upMir f).rd a = d.rd a := rfl
theorem Dev.upMir_get64 (d : Dev) (f : Mir → Mir) (lo hi : Nat) : (d.upMir f).get64 lo hi = d.get64 lo hi := rfl
theorem Dev.upMir_silent (d : Dev) (f : Mir → Mir) : (d.upMir f).silent = d.silent := rfl
theorem Dev.upMir_get (d : Dev) (f : Mir → Mir) (g : Fld) : (d.upMir f).get g = d.get g := rfl

theorem Dev.noMir_rest {d e : Dev} (h : e.noMir = d.noMir) : { e with mir := d.mir, fltNew := d.fltNew } = d :=
  congrArg (fun x : Dev => { x with mir := d.mir, fltNew := d.fltNew }) h

theorem Dev.noMirReg_rest {d e : Dev} (h : e.noMirReg = d.noMirReg) : { e with mir := d.mir, reg := d.reg, fltNew := d.fltNew } = d :=
  congrArg (fun x : Dev => { x with mir := d.mir, reg := d.reg, fltNew := d.fltNew }) h

theorem Dev.noMirReg_of_noMir {d e : Dev} (h : e.noMir = d.noMir) : e.noMirReg = d.noMirReg :=
  congrArg (fun x : Dev => { x with reg := [], fltNew := [] }) h

theorem Dev.onlyRegs.noMirReg {d e : Dev} {l : List Nat} (h : Dev.onlyRegs d e l) : e.noMirReg = d.noMirReg :=
  show e.noRegs.noMirReg = d.noRegs.noMirReg from congrArg Dev.noMirReg h.1

theorem Dev.onlyRegs.mir {d e : Dev} {l : List Nat} (h : Dev.onlyRegs d e l) : e.mir = d.mir :=
  show e.noRegs.mir = d.noRegs.mir from congrArg Dev.mir h.1

/-- A command that changes registers and the mirror's state and nothing else completes. -/
theorem completes_noMirReg {c : Instr} {s : State} {f : Dev → Dev} {p : Dev → Prop} (x : Dev) (h : Runs c s f) (hs : s.dev.corksFresh)
    (e : f s.start = x) (hx : x.noMirReg = s.dev.noMirReg) (hp : p x) : Completes c s p :=
  completes_runs_eq x h hs e (show x.noMirReg.corks = s.dev.noMirReg.corks from congrArg Dev.corks hx)
    (show x.noMirReg.fab = s.dev.noMirReg.fab from congrArg Dev.fab hx) hp

/-! ### What a frame's arrival marks (R334) -/

/-- The mirror has seen sequence number seq. -/
def Mir.sees (seq : Nat) (m : Mir) : Mir :=
  let ahead := m.rx.elim 1 (fun r => (seq % 256 + 256 - r) % 256)
  { m with rx := if ahead < 128 then some (seq % 256) else m.rx, seen := (seq % 256 :: m.seen).take 128 }

theorem Mir.sees_rx {seq : Nat} {m : Mir} (h : ∀ r, m.rx = some r → (seq % 256 + 256 - r) % 256 < 128) : (m.sees seq).rx = some (seq % 256) := by
  refine if_pos ?_
  cases hr : m.rx with
  | none => exact (by decide : 1 < 128)
  | some r => exact h r hr

theorem Dev.mirSeen_eq (d : Dev) (seq : Nat) : d.mirSeen seq =
    if (d.mirState == 4 || d.mirState == 6) && decide (2 ≤ d.mir.rx.elim 1 (fun r => (seq % 256 + 256 - r) % 256)) &&
        decide (d.mir.rx.elim 1 (fun r => (seq % 256 + 256 - r) % 256) < 128)
      then ((d.upMir (Mir.sees seq)).raise 22 8 0 2).realign else d.upMir (Mir.sees seq) := rfl

/-- A master does not align at a gap. -/
theorem Dev.mirSeen_master {d : Dev} (seq : Nat) (h : d.mirState = 5) : d.mirSeen seq = d.upMir (Mir.sees seq) := by
  rw [Dev.mirSeen_eq, h]
  rfl

/-- The next sequence number shows no gap. -/
theorem Dev.mirSeen_next {d : Dev} {seq : Nat} (h : ∀ r, d.mir.rx = some r → (r + 1) % 256 = seq % 256) :
    d.mirSeen seq = d.upMir (Mir.sees seq) := by
  have hahead : d.mir.rx.elim 1 (fun r => (seq % 256 + 256 - r) % 256) < 2 := by
    cases hr : d.mir.rx with
    | none => exact Nat.one_lt_two
    | some r =>
      have := h r hr
      show (seq % 256 + 256 - r) % 256 < 2
      omega
  rw [Dev.mirSeen_eq]
  exact if_neg (by simp [Nat.not_le.2 hahead])

theorem Dev.upMir_mirState (d : Dev) (f : Mir → Mir) : (d.upMir f).mirState = d.mirState := rfl

/-! ### Frames that the mirror sends (R332) -/

theorem headerWord_eq {typ tx nw : Nat} (ht : typ < 32) (hx : tx < 256) (hn : nw < 256) : headerWord typ 0 0 tx nw = typ * 2 ^ 27 + tx * 2 ^ 16 + nw := by
  unfold headerWord
  omega

/-- The mirror's state with a frame of its own gone to the lanes. -/
def Mir.sent (m : Mir) (h : Nat) (ws : List Nat) (s : Nat) : Mir :=
  { m with out := m.out ++ [h :: ws], lane := m.lane.put (frameChars h ws) s, tx := (m.tx + 1) % 256 }

theorem Dev.mirSend_noMir (d : Dev) (typ : Nat) (words : List Nat) : (d.mirSend typ words).noMir = d.noMir := by
  unfold Dev.mirSend
  split
  · rfl
  · rfl

theorem Dev.mirSend_sent {d : Dev} {typ : Nat} (words : List Nat) (hs : d.silent = false) (ht : typ ≠ 2) : (d.mirSend typ words).mir =
    d.mir.sent (headerWord typ 0 0 d.mir.tx words.length) words (d.mir.lane.start (3 * d.fab) (typ == 2)) := by
  unfold Dev.mirSend
  simp only [hs, ht, Bool.false_eq_true, if_false]
  rfl

/-- MTIME carries the time at which its first character goes out (R337). -/
theorem Dev.mirSend_mtime {d : Dev} (words : List Nat) (hs : d.silent = false) :
    (d.mirSend 2 words).mir =
      (let t := (((d.mir.lane.start (3 * d.fab) true / 6 : Nat) : Int) - d.fabOff).toNat
       d.mir.sent (headerWord 2 0 0 d.mir.tx 2) [t % 2 ^ 32, t / 2 ^ 32 % 2 ^ 32] (d.mir.lane.start (3 * d.fab) true)) := by
  unfold Dev.mirSend
  simp only [hs, Bool.false_eq_true, if_false, if_true]
  rfl

/-! ### Words of the mirror -/

theorem toS_ofS_32 {i : Int} (hlo : -2147483648 ≤ i) (hhi : i ≤ 2147483647) : toS 32 (ofS 32 i) = i := by
  unfold toS ofS
  norm_num
  omega

theorem clampI_mem {lo hi : Int} (h : lo ≤ hi) (a : Int) : lo ≤ clampI lo hi a ∧ clampI lo hi a ≤ hi := by
  unfold clampI
  split
  · omega
  · split <;> omega

/-- The offset of the partner's time, and whether it is within the limit (R337). -/
def Dev.ofsShown (d : Dev) (ofs : Int) : Dev :=
  (d.puti F.MIR_OFS_OFS (clampI (-2147483648) 2147483647 ofs)).putB F.MIR_STAT_ALIGNED (decide (ofs.natAbs ≤ 153))

theorem Dev.ofsShown_ofs (d : Dev) (ofs : Int) : (d.ofsShown ofs).geti F.MIR_OFS_OFS = clampI (-2147483648) 2147483647 ofs := by
  obtain ⟨hlo, hhi⟩ := clampI_mem (lo := -2147483648) (hi := 2147483647) (by decide) ofs
  have hget : (d.ofsShown ofs).get F.MIR_OFS_OFS = ofS 32 (clampI (-2147483648) 2147483647 ofs) := by
    rw [Dev.ofsShown, Dev.putB, Dev.get_put_ne _ _ _ _ (by decide)]
    exact (Dev.get_put_same _ F.MIR_OFS_OFS _ (by decide)).trans (Nat.mod_eq_of_lt (ofS_lt 32 _))
  rw [Dev.geti, hget]
  exact toS_ofS_32 hlo hhi

theorem Dev.ofsShown_aligned (d : Dev) (ofs : Int) : (d.ofsShown ofs).flag F.MIR_STAT_ALIGNED = decide (ofs.natAbs ≤ 153) :=
  Dev.flag_putB _ _ _ (by decide)

theorem Dev.ofsShown_state (d : Dev) (ofs : Int) : (d.ofsShown ofs).mirState = d.mirState := by
  rw [Dev.mirState, Dev.ofsShown, Dev.putB, Dev.get_put_apart _ _ _ _ (by decide) (by decide) (by decide), Dev.puti, Dev.get_put_ne _ _ _ _ (by decide),
    ← Dev.mirState]

theorem Dev.ofsShown_onlyRegs (d : Dev) (ofs : Int) : Dev.onlyRegs d (d.ofsShown ofs) [R.MIR_OFS, R.MIR_STAT] :=
  (Dev.put_onlyRegs_of_mem d F.MIR_OFS_OFS _ List.mem_cons_self).trans
    (Dev.put_onlyRegs_of_mem _ F.MIR_STAT_ALIGNED _ (List.mem_cons_of_mem _ List.mem_cons_self))

/-- Only an aligning device ends its alignment. -/
theorem Dev.alignDone_master {d : Dev} (h : d.mirState ≠ 4) : d.alignDone = d := by
  unfold Dev.alignDone
  exact if_neg (by simp [h])

theorem Dev.digCheck_none {d : Dev} (k : Nat) (cyc : Int) (h : d.mir.own = []) : d.digCheck k cyc = d := by
  unfold Dev.digCheck
  simp only [h, List.find?_nil]

/-! A takeover's start (R370). -/

theorem Dev.get64_put64_mod (d : Dev) {lo hi : Nat} (v : Nat) (h : lo ≠ hi) : (d.put64 lo hi v).get64 lo hi = v % 2 ^ 64 := by
  rw [Dev.get64, Dev.put64, Dev.rd_wr_same, Dev.rd_wr_ne _ _ h, Dev.rd_wr_same, BitVec.toNat_ofNat, BitVec.toNat_ofNat]
  omega

theorem Dev.put64_noMirReg (d : Dev) (lo hi v : Nat) : (d.put64 lo hi v).noMirReg = d.noMirReg := rfl

theorem Dev.tkStart_noMirReg (d : Dev) (give : Option Bool) (tat : Nat) : (d.tkStart give tat).noMirReg = d.noMirReg := by
  rw [Dev.tkStart, Dev.upMir_noMirReg, Dev.put64_noMirReg, Dev.put_noMirReg, Dev.put_noMirReg]

theorem Dev.tkStart_spec (d : Dev) (give : Option Bool) (tat : Nat) :
    (d.tkStart give tat).mir.tk = some (give, tat) ∧ (d.tkStart give tat).get F.MIR_TK_STAT_RESULT = 1
      ∧ (d.tkStart give tat).get64 R.MIR_TK_AT_LO R.MIR_TK_AT_HI = tat % 2 ^ 64 := by
  refine ⟨by rw [Dev.tkStart, Dev.upMir_mir], ?_, by rw [Dev.tkStart, Dev.upMir_get64, Dev.get64_put64_mod _ tat (by decide)]⟩
  rw [Dev.tkStart, Dev.upMir_get, Dev.get, Dev.rd_put64_ne _ _ (by decide) (by decide), ← Dev.get,
    Dev.get_put_apart _ _ _ _ (by decide) (by decide) (by decide), Dev.get_put_same _ _ _ (by decide)]
  rfl

/-! ### The frames -/

/-- HELLO shows the partner and its versions, and leads to the next state of the pair (R341-R343). -/
def Dev.helloIn (d : Dev) (f : MirHello) : Dev :=
  let c := d.incompat f
  let d1 := ((d.put F.MIR_STAT_PARTNER 1).put F.MIR_STAT_PSTATE f.pstate).put F.MIR_STAT_INCOMP c
  let d2 := ((d1.put F.MIR_PVER_PROTO f.proto).put F.MIR_PVER_DVER f.dver).put F.MIR_PREL_FWREL f.fwrel
  let d3 := ((d2.put F.MIR_PVINT_IMAGE f.image).put F.MIR_PVINT_CUR f.cur).upMir (fun m => { m with hello := some f })
  let d4 := d3.cause 22 1 0 1 (c != 0)
  let n := d4.helloNext f (c != 0)
  if n = d4.mirState || (n = 4 && d4.flag F.DBG_STAT_DIRECT) then d4 else d4.setPair n

/-- MTIME measures the offset, and corrects it where the device follows (R337-R339). -/
def Dev.mtimeIn (d : Dev) (stamp : Nat) : Dev :=
  let ofs : Int := 192 * d.now - (192 * stamp + d.get F.MIR_DLY_DLY)
  let st := (d.ofsShown ofs).mirState
  let d2 := if st = 4 || st = 6 then (d.ofsShown ofs).steer ofs else d.ofsShown ofs
  if st = 4 && decide (38400 < ofs.natAbs) then d2.timeStep ofs else d2.alignDone

/-- ECHO_RSP enters the mean delay (R336). -/
def Dev.echoRspIn (d : Dev) (tt rtt : Nat) : Dev :=
  let all := d.mir.echo ++ [(rtt : Int) - tt]
  let l := all.drop (all.length - 8)
  (d.upMir (fun m => { m with echo := l })).put F.MIR_DLY_DLY (meanDelay l)

def Dev.toothIn (d : Dev) (f : MirTooth) : Dev := if d.follows f.trk then d.mirRecord f else if d.mirState = 4 then d.mirHold f else d

def Dev.decideIn (d : Dev) (f : MirDecide) : Dev := if d.follows f.mach then d.prsMirror f else d

/-- STROBE is carried out, and a vintage that differs leads to LISTEN (R349). -/
def Dev.strobeIn (d : Dev) (vint grp : Nat) : Dev :=
  if !d.following then d
  else
    let d1 := if d.strobeBusy (grp % 256) then d.incSat F.SYS_UPD_STAT_REFUSED else d.strobeAll (grp % 256)
    if d1.get F.SYS_VINTAGE_CUR = vint % 2 ^ 16 then d1 else d1.setPair 3

/-- The mirror's state with a digest of the partner held. -/
def Mir.theirDigest (k : Nat) (cyc : Int) (crc : Nat) (m : Mir) : Mir := { m with theirs := ((k, cyc, crc % 2 ^ 32) :: m.theirs).take 64 }

def Dev.digestIn (d : Dev) (k : Nat) (cyc : Int) (crc : Nat) : Dev :=
  if d.mirState < 4 then d else (d.upMir (Mir.theirDigest k cyc crc)).digCheck k cyc

/-- SNAP collects its chunks while the device aligns and holds its records (R352). -/
def Dev.snapIn (d : Dev) (k chunk nchunk cyc : Nat) (words : List Nat) : Dev :=
  if d.mirState ≠ 4 || !d.mir.held || d.mir.applied.contains k then d
  else match (d.snap k).part with
    | some (e, got) =>
      if e = cyc then d.snapChunk k cyc chunk nchunk got words
      else match d.snapCut k cyc with | some x => x.snapChunk k cyc chunk nchunk [] words | none => d
    | none => match d.snapCut k cyc with | some x => x.snapChunk k cyc chunk nchunk [] words | none => d

/-- TAKE: a request, an offer, or the answer to one (R370). -/
def Dev.takeIn (d : Dev) (mode tat : Nat) : Dev :=
  if mode = 1 && d.mirState == 5 && d.mir.tk.isNone then
    ((d.tkStart (some true) tat).mirSend 10 [3, tat % 2 ^ 32, tat / 2 ^ 32 % 2 ^ 32]).yieldAll tat
  else if mode = 2 && d.mirState == 6 && d.mir.tk.isNone then d.tkStart (some false) tat
  else if mode = 3 && d.mirState == 6 && d.mir.tk.elim false (fun p => p.1.isNone) then d.upMir (fun m => { m with tk := some (some false, tat) })
  else d

section
variable {s : State} {seq : Nat}

theorem runs_mirHello {f : MirHello} (hs : s.coreRuns) (ho : f.ok = true) (h : s.dev.mirTakes f.seq) :
    Runs (.mirHello f) s fun d => (d.mirSeen f.seq).helloIn f := by
  refine runs_congr (runs_core (fun d => d.mirRx f.ok f.seq fun x => x.helloIn f) rfl hs) ?_
  rw [ho]
  exact Dev.mirRx_takes h

theorem runs_mirMtime {stamp : Nat} (hs : s.coreRuns) (h : s.dev.mirTakes seq) :
    Runs (.mirMtime true seq stamp) s fun d => (d.mirSeen seq).mtimeIn stamp :=
  runs_congr (runs_core (fun d => d.mirRx true seq fun x => x.mtimeIn stamp) rfl hs) (Dev.mirRx_takes h)

theorem runs_mirEchoReq {etag tt : Nat} (hs : s.coreRuns) (h : s.dev.mirTakes seq) :
    Runs (.mirEchoReq true seq etag tt) s fun d => (d.mirSeen seq).mirSend 4 [etag % 65536, tt % 2 ^ 24] :=
  runs_congr (runs_core (fun d => d.mirRx true seq fun x => x.mirSend 4 [etag % 65536, tt % 2 ^ 24]) rfl hs) (Dev.mirRx_takes h)

theorem runs_mirEchoRsp {etag tt rtt : Nat} (hs : s.coreRuns) (h : s.dev.mirTakes seq) :
    Runs (.mirEchoRsp true seq etag tt rtt) s fun d => (d.mirSeen seq).echoRspIn tt rtt :=
  runs_congr (runs_core (fun d => d.mirRx true seq fun x => x.echoRspIn tt rtt) rfl hs) (Dev.mirRx_takes h)

theorem runs_mirTooth {f : MirTooth} (hs : s.coreRuns) (h : s.dev.mirTakes seq) :
    Runs (.mirTooth true seq f) s fun d => (d.mirSeen seq).toothIn f :=
  runs_congr (runs_core (fun d => d.mirRx true seq fun x => x.toothIn f) rfl hs) (Dev.mirRx_takes h)

theorem runs_mirDecide {f : MirDecide} (hs : s.coreRuns) (h : s.dev.mirTakes seq) :
    Runs (.mirDecide true seq f) s fun d => (d.mirSeen seq).decideIn f :=
  runs_congr (runs_core (fun d => d.mirRx true seq fun x => x.decideIn f) rfl hs) (Dev.mirRx_takes h)

theorem runs_mirStrobe {vint grp : Nat} (hs : s.coreRuns) (h : s.dev.mirTakes seq) :
    Runs (.mirStrobe true seq vint grp) s fun d => (d.mirSeen seq).strobeIn vint grp :=
  runs_congr (runs_core (fun d => d.mirRx true seq fun x => x.strobeIn vint grp) rfl hs) (Dev.mirRx_takes h)

theorem runs_mirDigest {k : Fin 16} {vint crc : Nat} {cyc : Int} (hs : s.coreRuns) (h : s.dev.mirTakes seq) :
    Runs (.mirDigest true seq k vint cyc crc) s fun d => (d.mirSeen seq).digestIn k cyc crc :=
  runs_congr (runs_core (fun d => d.mirRx true seq fun x => x.digestIn k cyc crc) rfl hs) (Dev.mirRx_takes h)

theorem runs_mirSnap {k : Fin 16} {chunk nchunk cyc : Nat} {words : List Nat} (hs : s.coreRuns) (h : s.dev.mirTakes seq) :
    Runs (.mirSnap true seq k chunk nchunk cyc words) s fun d => (d.mirSeen seq).snapIn k chunk nchunk (cyc % 2 ^ 32) words :=
  runs_congr (runs_core (fun d => d.mirRx true seq fun x => x.snapIn k chunk nchunk (cyc % 2 ^ 32) words) rfl hs) (Dev.mirRx_takes h)

theorem runs_mirTake {mode tat : Nat} (hs : s.coreRuns) (h : s.dev.mirTakes seq) :
    Runs (.mirTake true seq mode tat) s fun d => (d.mirSeen seq).takeIn mode tat :=
  runs_congr (runs_core (fun d => d.mirRx true seq fun x => x.takeIn mode tat) rfl hs) (Dev.mirRx_takes h)

end

/-- A damaged frame counts and does nothing else (R333). -/
theorem Dev.mirRx_damaged {d : Dev} (seq : Nat) (f : Dev → Dev) (h : d.mirState ≠ 0) : d.mirRx false seq f = d.incSat F.MIR_CNT2_FRDISC := if_neg h

theorem Dev.strobeIn_following {d : Dev} (vint grp : Nat) (h : d.following = true) : d.strobeIn vint grp =
    (let d1 := if d.strobeBusy (grp % 256) then d.incSat F.SYS_UPD_STAT_REFUSED else d.strobeAll (grp % 256)
     if d1.get F.SYS_VINTAGE_CUR = vint % 2 ^ 16 then d1 else d1.setPair 3) := by
  unfold Dev.strobeIn
  rw [h]
  rfl

theorem Dev.mtimeIn_master {d : Dev} (stamp : Nat) (h : d.mirState = 5) :
    d.mtimeIn stamp = d.ofsShown (192 * d.now - (192 * stamp + d.get F.MIR_DLY_DLY)) := by
  unfold Dev.mtimeIn
  have h5 : (d.ofsShown (192 * d.now - (192 * stamp + d.get F.MIR_DLY_DLY))).mirState = 5 := (Dev.ofsShown_state _ _).trans h
  have h4 : decide ((5 : Nat) = 4) = false := rfl
  have h6 : decide ((5 : Nat) = 6) = false := rfl
  simp only [h5, h4, h6, Bool.or_self, Bool.false_and, Bool.false_eq_true, if_false]
  exact Dev.alignDone_master (by rw [h5]; decide)

section
variable {x : Dev} {k : Fin 16} {c : Nat} (chunk nchunk : Nat) (words : List Nat)

/-- A chunk of the snapshot under way. -/
theorem Dev.snapIn_part {got : List (Nat × List Nat)} (h4 : x.mirState = 4) (hh : x.mir.held = true) (ha : x.mir.applied.contains k.val = false)
    (hp : (x.snap k).part = some (c, got)) : x.snapIn k chunk nchunk c words = x.snapChunk k c chunk nchunk got words := by
  unfold Dev.snapIn
  rw [if_neg (by rw [h4, hh, ha]; decide), hp]
  exact if_pos rfl

/-- The first chunk of a snapshot. -/
theorem Dev.snapIn_first {y : Dev} (h4 : x.mirState = 4) (hh : x.mir.held = true) (ha : x.mir.applied.contains k.val = false)
    (hp : (x.snap k).part = none) (hc : x.snapCut k c = some y) : x.snapIn k chunk nchunk c words = y.snapChunk k c chunk nchunk [] words := by
  unfold Dev.snapIn
  rw [if_neg (by rw [h4, hh, ha]; decide), hp, hc]

end

/-! ### Frames at a master -/

theorem Dev.mirMtime_master {d : Dev} {seq : Nat} (stamp : Nat) (h : d.mirState = 5) : (d.mirSeen seq).mtimeIn stamp =
    (d.upMir (Mir.sees seq)).ofsShown (192 * d.now - (192 * stamp + d.get F.MIR_DLY_DLY)) := by
  rw [Dev.mirSeen_master seq h]
  exact Dev.mtimeIn_master stamp h

/-- The mirror's state with one echo delay held. -/
def Mir.echoed (e : Int) (m : Mir) : Mir := { m with echo := [e] }

theorem Dev.echoRspIn_first {d : Dev} (tt rtt : Nat) (h : d.mir.echo = []) : d.echoRspIn tt rtt =
    (d.upMir (Mir.echoed ((rtt : Int) - tt))).put F.MIR_DLY_DLY (meanDelay [(rtt : Int) - tt]) := by
  unfold Dev.echoRspIn
  rw [h]
  rfl

theorem Dev.digestIn_master {d : Dev} (k : Nat) (cyc : Int) (crc : Nat) (h : d.mirState = 5) (ho : d.mir.own = []) :
    d.digestIn k cyc crc = d.upMir (Mir.theirDigest k cyc crc) := by
  unfold Dev.digestIn
  rw [if_neg (by rw [h]; decide)]
  exact Dev.digCheck_none _ _ ho

theorem Dev.snapChunk_more {d : Dev} {k c chunk nchunk : Nat} {got : List (Nat × List Nat)} {words : List Nat}
    (h : (insChunk (chunk, words) got).length < nchunk) :
    d.snapChunk k c chunk nchunk got words = d.setSnap k { d.snap k with part := some (c, insChunk (chunk, words) got) } := if_pos h

theorem Dev.snapChunk_last {d : Dev} {k c chunk nchunk : Nat} {got : List (Nat × List Nat)} {words : List Nat}
    (h : nchunk ≤ (insChunk (chunk, words) got).length) :
    d.snapChunk k c chunk nchunk got words = ((d.snap k).held.foldl (fun (y : Dev) f => y.mirRecord f)
        ((d.applySnap k ((insChunk (chunk, words) got).flatMap (fun e => e.2))).upMir
          (fun m => { m with snaps := smDel m.snaps k, applied := m.applied ++ [k], okRun := smDel m.okRun k })).mirShow).alignDone :=
  if_neg (Nat.not_lt.2 h)

theorem Dev.takeIn_asked {d : Dev} (tat : Nat) (h : d.mirState = 5) (ht : d.mir.tk = none) :
    d.takeIn 1 tat = ((d.tkStart (some true) tat).mirSend 10 [3, tat % 2 ^ 32, tat / 2 ^ 32 % 2 ^ 32]).yieldAll tat := by
  unfold Dev.takeIn
  rw [h, ht]
  rfl

theorem Dev.takeIn_given {d : Dev} (tat : Nat) (h : d.mirState = 6) (ht : d.mir.tk = none) : d.takeIn 2 tat = d.tkStart (some false) tat := by
  unfold Dev.takeIn
  rw [h, ht]
  rfl

/-- Settles O40: each frame by what it does in the device that has marked its arrival. -/
theorem mirrorFrames : Obligations.mirror_frames := by
  unfold Obligations.mirror_frames
  refine ⟨fun s f hs ho h => runs_mirHello hs ho h, fun s seq stamp hs h5 h hahead => ?_, fun s seq stamp hs h => runs_mirMtime hs h,
    fun s seq etag tt hs h5 h hsil htx => ?_, fun s seq etag tt rtt hs h5 h he => ?_,
    fun s seq f hs h hf => runs_congr (runs_mirTooth hs h) (if_pos hf), fun s seq f hs h hf => runs_congr (runs_mirDecide hs h) (if_pos hf),
    fun s seq vint grp hs h hf => runs_congr (runs_mirStrobe hs h) (Dev.strobeIn_following _ _ hf), fun s seq vint crc k cyc hs h5 h ho => ?_,
    fun s seq chunk nchunk cyc k words x got hs h hx h4 hh ha hp hlt => ?_, fun s seq chunk nchunk cyc k words x got hs h hx h4 hh ha hp hle => ?_,
    fun s seq chunk nchunk cyc k words x y hs h hx h4 hh ha hp hc => ?_, fun s seq tat hs h5 h htk => ?_, fun s seq tat hs h6 h hr htk => ?_,
    fun s seq stamp etag tt hs h0 => ⟨?_, ?_⟩⟩
  · have honly := (s.dev.upMir (Mir.sees seq)).ofsShown_onlyRegs (192 * s.dev.now - (192 * stamp + s.dev.get F.MIR_DLY_DLY))
    have hrest := honly.noMirReg.trans (Dev.upMir_noMirReg _ _)
    refine completes_noMirReg _ (runs_mirMtime hs h) hs.1 (Dev.mirMtime_master _ h5) hrest
      ⟨Dev.ofsShown_ofs _ _, Dev.ofsShown_aligned _ _, ?_, fun a ho hst => (honly.2 a (by simp [ho, hst])).trans (Dev.upMir_rd _ _ _), Dev.noMirReg_rest hrest⟩
    rw [State.start, honly.mir, Dev.upMir_mir]
    exact Mir.sees_rx hahead
  · have hseen := s.dev.mirSeen_master seq h5
    have hmir := Dev.mirSend_sent (d := s.dev.mirSeen seq) (typ := 4) [etag % 65536, tt % 2 ^ 24] (by rw [hseen, Dev.upMir_silent, hsil]) (by decide)
    have hrest : ((s.dev.mirSeen seq).mirSend 4 [etag % 65536, tt % 2 ^ 24]).noMir = s.dev.noMir := by rw [Dev.mirSend_noMir, hseen, Dev.upMir_noMir]
    refine completes_noMirReg _ (runs_mirEchoReq hs h) hs.1 rfl (Dev.noMirReg_of_noMir hrest) ⟨?_, ?_, Dev.noMir_rest hrest⟩
    · rw [State.start, hmir, hseen, Dev.upMir_mir]
      exact congrArg (fun w => s.dev.mir.out ++ [w :: _]) (headerWord_eq (by decide) htx (show 2 < 256 by decide))
    · rw [State.start, hmir, hseen, Dev.upMir_mir]
      rfl
  · have hseen := s.dev.mirSeen_master seq h5
    have heq : (s.dev.mirSeen seq).echoRspIn tt rtt =
        ((s.dev.upMir (Mir.sees seq)).upMir (Mir.echoed ((rtt : Int) - tt))).put F.MIR_DLY_DLY (meanDelay [(rtt : Int) - tt]) := by
      rw [hseen]
      exact Dev.echoRspIn_first tt rtt he
    have hrest : (((s.dev.upMir (Mir.sees seq)).upMir (Mir.echoed ((rtt : Int) - tt))).put F.MIR_DLY_DLY (meanDelay [(rtt : Int) - tt])).noMirReg
        = s.dev.noMirReg := by rw [Dev.put_noMirReg, Dev.upMir_noMirReg, Dev.upMir_noMirReg]
    refine completes_noMirReg _ (runs_mirEchoRsp hs h) hs.1 heq hrest ⟨?_, ?_, fun a ha => ?_, Dev.noMirReg_rest hrest⟩
    · rw [Dev.put_mir, Dev.upMir_mir]
      rfl
    · exact Dev.get_put_same _ F.MIR_DLY_DLY _ (by decide)
    · rw [Dev.rd_put_ne _ _ _ ha, Dev.upMir_rd, Dev.upMir_rd]
  · have hseen := s.dev.mirSeen_master seq h5
    have heq : (s.dev.mirSeen seq).digestIn k cyc crc = (s.dev.upMir (Mir.sees seq)).upMir (Mir.theirDigest k cyc crc) := by
      rw [hseen]
      exact Dev.digestIn_master k cyc crc h5 ho
    have hrest : ((s.dev.upMir (Mir.sees seq)).upMir (Mir.theirDigest k cyc crc)).noMir = s.dev.noMir := by rw [Dev.upMir_noMir, Dev.upMir_noMir]
    exact completes_noMirReg _ (runs_mirDigest hs h) hs.1 heq (Dev.noMirReg_of_noMir hrest) ⟨rfl, Dev.noMir_rest hrest⟩
  · refine runs_congr (runs_mirSnap hs h) ?_
    rw [State.start, hx, Dev.snapIn_part _ _ _ h4 hh ha hp, Dev.snapChunk_more hlt]
  · refine runs_congr (runs_mirSnap hs h) ?_
    rw [State.start, hx, Dev.snapIn_part _ _ _ h4 hh ha hp, Dev.snapChunk_last hle]
  · refine runs_congr (runs_mirSnap hs h) ?_
    rw [State.start, hx, Dev.snapIn_first _ _ _ h4 hh ha hp hc]
  · refine runs_congr (runs_mirTake hs h) (Dev.takeIn_asked tat ?_ ?_)
    · rw [State.start, Dev.mirSeen_master seq h5, Dev.upMir_mirState, h5]
    · rw [State.start, Dev.mirSeen_master seq h5, Dev.upMir_mir]
      exact htk
  · have hseen := Dev.mirSeen_next hr
    have heq : (s.dev.mirSeen seq).takeIn 2 tat = (s.dev.upMir (Mir.sees seq)).tkStart (some false) tat := by
      rw [hseen]
      exact Dev.takeIn_given tat h6 htk
    obtain ⟨htake, hres, hat⟩ := (s.dev.upMir (Mir.sees seq)).tkStart_spec (some false) tat
    have hrest := ((s.dev.upMir (Mir.sees seq)).tkStart_noMirReg (some false) tat).trans (Dev.upMir_noMirReg _ _)
    exact completes_noMirReg _ (runs_mirTake hs h) hs.1 heq hrest ⟨htake, hres, hat, Dev.noMirReg_rest hrest⟩
  · exact completes_onlyRegs _ (runs_core (fun d => d.mirRx false seq fun x => x.mtimeIn stamp) rfl hs) hs.1 (Dev.mirRx_damaged _ _ h0)
      (Dev.incSat_onlyRegs _ _) ⟨Dev.get_incSat_same _ _ (by decide), Dev.incSat_onlyRegs _ _⟩
  · exact completes_onlyRegs _ (runs_core (fun d => d.mirRx false seq fun x => x.mirSend 4 [etag % 65536, tt % 2 ^ 24]) rfl hs) hs.1
      (Dev.mirRx_damaged _ _ h0) (Dev.incSat_onlyRegs _ _) ⟨Dev.get_incSat_same _ _ (by decide), Dev.incSat_onlyRegs _ _⟩

end Sys2Proof.Machine

/-! PROOFS. Roles, losses and takeover of a mirrored pair (R335-R371). -/

namespace Sys2Proof.Machine

/-! ### Locks, losses and sending by period -/

/-- Both lanes without their lock (R335). -/
def Dev.lanesUnlocked (d : Dev) : Dev := (d.put F.MIR_STAT_LOCK0 0).put F.MIR_STAT_LOCK1 0

theorem Dev.lanesUnlocked_onlyRegs (d : Dev) : Dev.onlyRegs d d.lanesUnlocked [R.MIR_STAT] :=
  (Dev.put_onlyRegs d F.MIR_STAT_LOCK0 0).trans (Dev.put_onlyRegs _ F.MIR_STAT_LOCK1 0)

theorem Dev.lanesUnlocked_locks (d : Dev) : d.lanesUnlocked.flag F.MIR_STAT_LOCK0 = false ∧ d.lanesUnlocked.flag F.MIR_STAT_LOCK1 = false := by
  refine ⟨?_, ?_⟩
  · rw [Dev.lanesUnlocked, Dev.flag_put_apart _ _ _ _ (by decide) (by decide) (by decide), Dev.flag_put_same _ _ _ (by decide)]
    rfl
  · rw [Dev.lanesUnlocked, Dev.flag_put_same _ _ _ (by decide)]
    rfl

theorem Dev.lanesUnlocked_else (d : Dev) : d.lanesUnlocked.flag F.MIR_STAT_PARTNER = d.flag F.MIR_STAT_PARTNER ∧ d.lanesUnlocked.mirState = d.mirState := by
  refine ⟨?_, ?_⟩
  · rw [Dev.lanesUnlocked, Dev.flag_put_apart _ _ _ _ (by decide) (by decide) (by decide), Dev.flag_put_apart _ _ _ _ (by decide) (by decide) (by decide)]
  · rw [Dev.mirState, Dev.lanesUnlocked, Dev.get_put_apart _ _ _ _ (by decide) (by decide) (by decide),
      Dev.get_put_apart _ _ _ _ (by decide) (by decide) (by decide), ← Dev.mirState]

theorem Dev.partnerLost_alone {d : Dev} (h : d.flag F.MIR_STAT_PARTNER = false) : d.partnerLost = d := by
  unfold Dev.partnerLost
  rw [h]
  rfl

/-- A master that loses its partner goes on alone (R341). -/
theorem Dev.partnerLost_master {d : Dev} (hp : d.flag F.MIR_STAT_PARTNER = true) (h5 : d.mirState = 5) (ht : d.mir.tk = none) :
    d.partnerLost = ((((d.put F.MIR_STAT_PARTNER 0).upMir (fun m => { m with hello := none, rx := none, seen := [], tk := none })).causeOff 22 1 0).raise
      22 0 0 2).setPair 2 := by
  unfold Dev.partnerLost Dev.partnerGone
  rw [hp, h5, ht]
  rfl

section
variable {s : State}

theorem runs_mtimeTimeout (hs : s.coreRuns) (h : s.dev.mirState = 4 ∨ s.dev.mirState = 6) : Runs .mtimeTimeout s fun d => d.partnerLost :=
  runs_congr (runs_core _ (show execMtimeTimeout s = _ from rfl) hs) (if_pos (by
    rcases h with h | h
    · rw [State.start, h]
      rfl
    · rw [State.start, h]
      rfl))

/-- Words of HELLO (R341-R343). -/
def Dev.helloWords (d : Dev) : List Nat :=
  [2 ^ 24 + d.mirState * 2 ^ 21 + d.get F.MIR_CTL_PREF * 2 ^ 20 + b2n (d.mirState == 4 && d.mir.held && !d.allApplied) * 2 ^ 19 + d.dver,
    (if d.flag F.MGS_STAT_BANK then d.rd R.MGS_FWREL_B else d.rd R.MGS_FWREL_A).toNat, (d.rd R.SYS_VINTAGE).toNat,
    Config.devSerial % 2 ^ 32, Config.devSerial / 2 ^ 32 % 2 ^ 32]

theorem runs_helloPeriod (hs : s.coreRuns) (h : s.dev.mirState ≠ 0) : Runs .helloPeriod s fun d => d.mirSend 1 d.helloWords :=
  runs_congr (runs_core _ (show execHelloPeriod s = _ from rfl) hs) (if_neg h)

theorem runs_mtimePeriod (hs : s.coreRuns) (h : s.dev.mirState = 5 ∨ (s.dev.mirState = 2 ∧ s.dev.flag F.MIR_STAT_PARTNER = true)) :
    Runs .mtimePeriod s fun d => d.mirSend 2 [0, 0] :=
  runs_congr (runs_core _ (show execMtimePeriod s = _ from rfl) hs) (if_pos (by
    rcases h with h | ⟨h, hp⟩
    · rw [State.start, h]
      rfl
    · rw [State.start, h, hp]
      rfl))

theorem runs_mirEchoPeriod (hs : s.coreRuns) (h : s.dev.mirState ≠ 0) :
    Runs .mirEchoPeriod s fun d => (d.mirSend 3 [d.mir.etag]).upMir (fun m => { m with etag := (m.etag + 1) % 65536 }) :=
  runs_congr (runs_core _ (show execMirEchoPeriod s = _ from rfl) hs) (if_neg h)

theorem runs_timeDiv (hs : s.coreRuns) (h6 : s.dev.mirState = 6) (ho : 307 < (s.dev.geti F.MIR_OFS_OFS).natAbs) :
    Runs .timeDiv s fun d => (d.raise 22 3 0 2).realign :=
  runs_congr (runs_core _ (show execTimeDiv s = _ from rfl) hs) (if_pos (by rw [State.start, h6]; simpa using ho))

theorem runs_soloWaitExpiry (hs : s.coreRuns) (h1 : s.dev.mirState = 1) (hp : s.dev.flag F.MIR_STAT_PARTNER = false) :
    Runs .soloWaitExpiry s fun d => (d.advance (d.mir.since + 200000 * max 1 (d.get F.MIR_CFG_SOLO_WAIT))).setPair 2 :=
  runs_congr (runs_core _ (show execSoloWaitExpiry s = _ from rfl) hs) (if_pos (by rw [State.start, h1, hp]; rfl))

theorem runs_alignHold (hs : s.coreRuns) (h4 : s.dev.mirState = 4) (ha : s.dev.flag F.MIR_STAT_ALIGNED = true) :
    Runs .alignHold s fun d => (d.upMir (fun m => { m with held := true })).alignDone :=
  runs_congr (runs_core _ (show execAlignHold s = _ from rfl) hs) (if_pos (by rw [State.start, h4, ha]; rfl))

/-- The moment of a takeover: what MIR_TK_STAT shows (R370). -/
def Dev.tookOver (d : Dev) (tat : Nat) : Dev :=
  ((d.advance tat).put F.MIR_TK_STAT_RESULT (if (d.advance tat).get F.MIR_TK_STAT_NREF = 0 then 2 else 3)).upMir (fun m => { m with tk := none })

/-- The roles after a takeover: who gives becomes standby, who takes becomes master. -/
def Dev.changesRole (x : Dev) (give : Bool) : Dev :=
  if give && x.mirState == 5 then
    (x.upMir (fun m => { m with tst := (List.range 16).foldl (fun a k => smSet a 0 k (x.tstate k + 8 * b2n (x.armOk k))) [] })).setPair 6
  else if !give && x.mirState == 6 then x.setPair 5
  else x

theorem runs_takeoverAt {give : Bool} {tat : Nat} (hs : s.coreRuns) (h : s.dev.mir.tk = some (some give, tat)) :
    Runs .takeoverAt s fun d => (d.tookOver tat).changesRole give := by
  refine runs_congr (runs_core _ (show execTakeoverAt s = _ from rfl) hs) ?_
  simp only [State.start, h]
  rfl

/-- The field of a lane's lock. -/
def laneLock (lane : Fin 2) : Fld := if lane = 0 then F.MIR_STAT_LOCK0 else F.MIR_STAT_LOCK1

theorem runs_mirRxLaneLock_gained {lane : Fin 2} (hs : s.coreRuns) (h : s.dev.flag (laneLock lane) = false) :
    Runs (.mirRxLaneLock lane true) s fun d =>
      let x := d.putB (laneLock lane) true
      if x.flag F.MIR_STAT_LOCK0 && x.flag F.MIR_STAT_LOCK1 then x.causeOff 22 7 0 else x :=
  runs_congr (runs_core _ (show execMirRxLaneLock lane true s = _ from rfl) hs) (if_neg (by
    rw [State.start, ← laneLock, h]
    exact Bool.false_ne_true))

theorem runs_mirRxLaneLock_lost {lane : Fin 2} (hs : s.coreRuns) (h : s.dev.flag (laneLock lane) = true) :
    Runs (.mirRxLaneLock lane false) s fun d => ((d.putB (laneLock lane) false).incSat F.MIR_CNT2_LANEF).causeOn 22 7 0 1 :=
  runs_congr (runs_core _ (show execMirRxLaneLock lane false s = _ from rfl) hs) ((if_neg (by
    rw [State.start, ← laneLock, h]
    decide)).trans (if_neg Bool.false_ne_true))

end

/-! ### MIR_CTL (R341) -/

theorem bitOf_or_one (n : Nat) : bitOf (n ||| 1) 0 = true := by
  simp [bitOf]

theorem bitOf_eq_testBit (n i : Nat) : bitOf n i = n.testBit i := by
  rw [bitOf, Nat.testBit_eq_decide_div_mod_eq]
  rfl

theorem bitOf_or (n m i : Nat) : bitOf (n ||| m) i = (bitOf n i || bitOf m i) := by
  simp only [bitOf_eq_testBit, Nat.testBit_or]

theorem Dev.mirCtlWrite_on {d : Dev} (h : d.flag F.MIR_CTL_EN = false) : d.mirCtlWrite ((d.rd R.MIR_CTL).toNat ||| 1) =
    (let d2 := (d.wr R.MIR_CTL (BitVec.ofNat 32 ((d.rd R.MIR_CTL).toNat ||| 1) &&& 3#32)).setPair 1
     if bitOf ((d.rd R.MIR_CTL).toNat ||| 1) 2 && d2.mirState == 6 then d2.setPair 4 else d2) := by
  unfold Dev.mirCtlWrite
  rw [h, bitOf_or_one]
  rfl

/-- PREF has one bit, so that a write of it asks for no new alignment. -/
theorem Dev.mirCtlWrite_off {d : Dev} (h : d.flag F.MIR_CTL_EN = true) : d.mirCtlWrite (2 * d.get F.MIR_CTL_PREF) =
    (d.wr R.MIR_CTL (BitVec.ofNat 32 (2 * d.get F.MIR_CTL_PREF) &&& 3#32)).partnerGone.setPair 0 := by
  have hp : d.get F.MIR_CTL_PREF < 2 := d.get_lt F.MIR_CTL_PREF
  have h0 : bitOf (2 * d.get F.MIR_CTL_PREF) 0 = false := by
    simp [bitOf]
  have h2 : bitOf (2 * d.get F.MIR_CTL_PREF) 2 = false := by
    simp only [bitOf, beq_eq_false_iff_ne]
    omega
  unfold Dev.mirCtlWrite
  rw [h, h0, h2]
  rfl

theorem Dev.mirCtl_en {d : Dev} (h : d.flag F.MIR_CTL_EN = true) : bitOf (d.rd R.MIR_CTL).toNat 0 = true := by
  simpa [Dev.flag, Dev.get, fldGet, bitOf] using h

/-- RESYNC of a standby aligns it anew; EN stays. -/
theorem Dev.mirCtlWrite_resync {d : Dev} (h : d.flag F.MIR_CTL_EN = true) (h6 : d.mirState = 6) : d.mirCtlWrite ((d.rd R.MIR_CTL).toNat ||| 4) =
    (d.wr R.MIR_CTL (BitVec.ofNat 32 ((d.rd R.MIR_CTL).toNat ||| 4) &&& 3#32)).setPair 4 := by
  have h0 : bitOf ((d.rd R.MIR_CTL).toNat ||| 4) 0 = true := by rw [bitOf_or, Dev.mirCtl_en h, Bool.true_or]
  have h2 : bitOf ((d.rd R.MIR_CTL).toNat ||| 4) 2 = true := by rw [bitOf_or]; exact Bool.or_true _
  have hst : (d.wr R.MIR_CTL (BitVec.ofNat 32 ((d.rd R.MIR_CTL).toNat ||| 4) &&& 3#32)).mirState = 6 := by
    rw [Dev.mirState, Dev.get_wr_ne _ _ (by decide), ← Dev.mirState, h6]
  unfold Dev.mirCtlWrite
  simp only [h, h0, h2, Bool.not_true, Bool.false_and, Bool.true_and, Bool.and_false, Bool.false_eq_true, if_false, hst, BEq.rfl, if_true]

/-! ### Takeovers (R369, R370) -/

section
variable {d : Dev}

theorem Dev.takeover_alone (ht : d.mir.tk = none) (hp : d.flag F.MIR_STAT_PARTNER = false) : d.takeover 1 = (d.put F.MIR_TAKEOVER_MODE 1).tkRefuse 4 := by
  have hp' : (d.put F.MIR_TAKEOVER_MODE 1).flag F.MIR_STAT_PARTNER = false := by rw [Dev.flag, Dev.get_put_ne _ _ _ _ (by decide), ← Dev.flag, hp]
  unfold Dev.takeover
  simp only [Dev.put_mir, ht, hp']
  rfl

/-- MODE of MIR_TAKEOVER changes nothing that a takeover asks for. -/
theorem Dev.takeoverMode_else (d : Dev) (mode : Nat) : (d.put F.MIR_TAKEOVER_MODE mode).flag F.MIR_STAT_PARTNER = d.flag F.MIR_STAT_PARTNER
    ∧ (d.put F.MIR_TAKEOVER_MODE mode).mirState = d.mirState ∧ (d.put F.MIR_TAKEOVER_MODE mode).get F.MIR_STAT_PSTATE = d.get F.MIR_STAT_PSTATE
    ∧ (d.put F.MIR_TAKEOVER_MODE mode).get F.MIR_CFG_TKLEAD = d.get F.MIR_CFG_TKLEAD := by
  refine ⟨?_, ?_, ?_, ?_⟩
  · rw [Dev.flag, Dev.get_put_ne _ _ _ _ (by decide), ← Dev.flag]
  · rw [Dev.mirState, Dev.get_put_ne _ _ _ _ (by decide), ← Dev.mirState]
  · rw [Dev.get_put_ne _ _ _ _ (by decide)]
  · rw [Dev.get_put_ne _ _ _ _ (by decide)]

theorem Dev.takeover_take (ht : d.mir.tk = none) (hp : d.flag F.MIR_STAT_PARTNER = true) (h6 : d.mirState = 6) : d.takeover 1 =
    (let tat := d.now + 2000 * max 1 (d.get F.MIR_CFG_TKLEAD)
     ((d.put F.MIR_TAKEOVER_MODE 1).tkStart none tat).mirSend 10 [1, tat % 2 ^ 32, tat / 2 ^ 32 % 2 ^ 32]) := by
  obtain ⟨hpart, hst, -, hlead⟩ := d.takeoverMode_else 1
  unfold Dev.takeover
  simp only [Dev.put_mir, ht, hpart, hp, hst, h6, hlead, Dev.put_now]
  rfl

theorem Dev.takeover_give (ht : d.mir.tk = none) (hp : d.flag F.MIR_STAT_PARTNER = true) (h5 : d.mirState = 5) (h6 : d.get F.MIR_STAT_PSTATE = 6) :
    d.takeover 2 =
    (let tat := d.now + 2000 * max 1 (d.get F.MIR_CFG_TKLEAD)
     (((d.put F.MIR_TAKEOVER_MODE 2).tkStart (some true) tat).mirSend 10 [2, tat % 2 ^ 32, tat / 2 ^ 32 % 2 ^ 32]).yieldAll tat) := by
  obtain ⟨hpart, hst, hpst, hlead⟩ := d.takeoverMode_else 2
  unfold Dev.takeover
  simp only [Dev.put_mir, ht, hpart, hp, hst, h5, hpst, h6, hlead, Dev.put_now]
  rfl

end

theorem Dev.changesRole_gives {x : Dev} (h : x.mirState = 5) : x.changesRole true =
    (x.upMir (fun m => { m with tst := (List.range 16).foldl (fun a k => smSet a 0 k (x.tstate k + 8 * b2n (x.armOk k))) [] })).setPair 6 := by
  unfold Dev.changesRole
  rw [h]
  rfl

theorem Dev.changesRole_takes {x : Dev} (h : x.mirState = 6) : x.changesRole false = x.setPair 5 := by
  unfold Dev.changesRole
  rw [h]
  rfl

/-! ### Counters and the hold of ALIGN -/

/-- Words of the mirror's counters. -/
def mirCntWord (a : Nat) : Prop := a ∈ [R.MIR_CNT0, R.MIR_CNT1, R.MIR_CNT2, R.MIR_DIGSTAT]

theorem Dev.mirCntClr_clears (d : Dev) : d.Clears mirCntWord d.mirCntClr :=
  ((((Dev.Clears.refl mirCntWord d).wr (a := R.MIR_CNT0) (by simp [mirCntWord])).wr (a := R.MIR_CNT1) (by simp [mirCntWord])).wr (a := R.MIR_CNT2)
    (by simp [mirCntWord])).wr (a := R.MIR_DIGSTAT) (by simp [mirCntWord])

theorem Dev.mirCntClr_zero (d : Dev) : d.mirCntClr.rd R.MIR_CNT0 = 0 ∧ d.mirCntClr.rd R.MIR_CNT1 = 0 ∧ d.mirCntClr.rd R.MIR_CNT2 = 0
    ∧ d.mirCntClr.rd R.MIR_DIGSTAT = 0 :=
  ⟨Dev.rd_wr_zero (Dev.rd_wr_zero (Dev.rd_wr_zero (Dev.rd_wr_same _ _ _))), Dev.rd_wr_zero (Dev.rd_wr_zero (Dev.rd_wr_same _ _ _)),
    Dev.rd_wr_zero (Dev.rd_wr_same _ _ _), Dev.rd_wr_same _ _ _⟩

/-- Records held while a tracker in use has no snapshot yet. -/
theorem Dev.alignDone_waits {d : Dev} (hc : d.checked 0 = true) (ha : d.mir.applied = []) : d.alignDone = d := by
  have hall : (List.range 16).all (fun k => !d.checked k ||
      (d.mir.applied.contains k && decide (max 1 (d.get F.MIR_CFG_DMATCH) ≤ smGet d.mir.okRun 0 k))) = false := by
    rw [List.all_eq_false]
    exact ⟨0, by decide, by rw [hc, ha]; exact Bool.false_ne_true⟩
  unfold Dev.alignDone
  exact if_neg (by simp only [hall, Bool.and_false]; decide)

/-- The mirror holds the records that come. -/
def Mir.holds (m : Mir) : Mir := { m with held := true }

/-- The mirror's state with the next echo tag. -/
def Mir.nextTag (m : Mir) : Mir := { m with etag := (m.etag + 1) % 65536 }

/-- Settles O41: each command by the lemma that says what it runs. -/
theorem mirrorRoles : Obligations.mirror_roles := by
  unfold Obligations.mirror_roles
  refine ⟨fun s hs hp => ?_, fun s hs h6 _ => runs_mtimeTimeout hs (.inr h6),
    fun s hs hp h5 ht => runs_congr (runs_core _ (show execHelloTimeout s = _ from rfl) hs) (Dev.partnerLost_master hp h5 ht),
    fun s hs h5 hsil htx => ?_, fun s hs h5 hsil htx => ?_, fun s hs h0 hsil htx => ?_, fun s hs h6 ho => runs_timeDiv hs h6 ho,
    fun s hs h1 hp => runs_soloWaitExpiry hs h1 hp, fun s hs h4 ha hc happ => ?_,
    fun s req hs h => runs_congr (runs_core _ (show execMirEnable req s = _ from rfl) hs) (Dev.mirCtlWrite_on h),
    fun s req hs h => runs_congr (runs_core _ (show execMirDisable req s = _ from rfl) hs) (Dev.mirCtlWrite_off h),
    fun s req hs h h6 => runs_congr (runs_core _ (show execResync req s = _ from rfl) hs) (Dev.mirCtlWrite_resync h h6),
    fun s req hs ht hp h6 => runs_congr (runs_core _ (show execMirTakeoverTake req s = _ from rfl) hs) (Dev.takeover_take ht hp h6),
    fun s req hs ht hp h5 h6 => runs_congr (runs_core _ (show execMirTakeoverGive req s = _ from rfl) hs) (Dev.takeover_give ht hp h5 h6),
    fun s req hs ht hp => runs_congr (runs_core _ (show execMirTakeoverTake req s = _ from rfl) hs) (Dev.takeover_alone ht hp),
    fun s tat x hs h hx h5 => ?_, fun s tat x hs h hx h6 => ?_, fun s req hs => ?_, fun s hs h0 h1 => ?_, fun s hs h0 h1 => ?_⟩
  · obtain ⟨hl0, hl1⟩ := s.dev.lanesUnlocked_locks
    obtain ⟨hpart, hst⟩ := s.dev.lanesUnlocked_else
    exact completes_onlyRegs _ (runs_core (fun d => d.lanesUnlocked.partnerLost) rfl hs) hs.1 (Dev.partnerLost_alone (hpart.trans hp))
      s.dev.lanesUnlocked_onlyRegs ⟨hl0, hl1, hst, s.dev.lanesUnlocked_onlyRegs⟩
  · have hmir := Dev.mirSend_sent (d := s.dev) (typ := 1) s.dev.helloWords hsil (by decide)
    have hrest := s.dev.mirSend_noMir 1 s.dev.helloWords
    refine completes_noMirReg _ (runs_helloPeriod hs (by rw [h5]; decide)) hs.1 rfl (Dev.noMirReg_of_noMir hrest) ⟨?_, ?_, ?_, Dev.noMir_rest hrest⟩
    · rw [State.start, hmir]
      exact List.length_append
    · rw [State.start, hmir]
      rfl
    · rw [State.start, hmir, Mir.sent, List.getLast?_concat]
      exact congrArg some (headerWord_eq (by decide) htx (show 5 < 256 by decide))
  · have hmir := Dev.mirSend_mtime (d := s.dev) [0, 0] hsil
    have hrest := s.dev.mirSend_noMir 2 [0, 0]
    refine completes_noMirReg _ (runs_mtimePeriod hs (.inl h5)) hs.1 rfl (Dev.noMirReg_of_noMir hrest) ⟨?_, Dev.noMir_rest hrest⟩
    rw [State.start, hmir]
    exact congrArg (fun w => s.dev.mir.out ++ [w :: _]) (headerWord_eq (by decide) htx (by decide))
  · have hmir := Dev.mirSend_sent (d := s.dev) (typ := 3) [s.dev.mir.etag] hsil (by decide)
    have hrest : ((s.dev.mirSend 3 [s.dev.mir.etag]).upMir Mir.nextTag).noMir = s.dev.noMir := (Dev.upMir_noMir _ _).trans (s.dev.mirSend_noMir 3 _)
    refine completes_noMirReg _ (runs_mirEchoPeriod hs h0) hs.1 rfl (Dev.noMirReg_of_noMir hrest) ⟨?_, ?_, Dev.noMir_rest hrest⟩
    · rw [State.start, Dev.upMir_mir, hmir]
      exact congrArg (fun w => s.dev.mir.out ++ [w :: _]) (headerWord_eq (by decide) htx (show 1 < 256 by decide))
    · rw [State.start, Dev.upMir_mir, hmir]
      rfl
  · have heq : (s.dev.upMir Mir.holds).alignDone = s.dev.upMir Mir.holds := Dev.alignDone_waits hc happ
    exact completes_noMirReg _ (runs_alignHold hs h4 ha) hs.1 heq (Dev.upMir_noMirReg _ _) ⟨rfl, h4, Dev.noMir_rest (Dev.upMir_noMir _ _)⟩
  · exact runs_congr (runs_takeoverAt hs h) (by rw [Dev.tookOver, hx, Dev.changesRole_gives h5])
  · exact runs_congr (runs_takeoverAt hs h) (by rw [Dev.tookOver, hx, Dev.changesRole_takes h6])
  · obtain ⟨hc0, hc1, hc2, hdig⟩ := s.dev.mirCntClr_zero
    exact completes_clears (runs_core _ rfl hs) hs.1 s.dev.mirCntClr_clears ⟨hc0, hc1, hc2, hdig, s.dev.mirCntClr_clears.onlyRegs⟩
  · have heq : (let x := s.dev.putB F.MIR_STAT_LOCK0 true
        if x.flag F.MIR_STAT_LOCK0 && x.flag F.MIR_STAT_LOCK1 then x.causeOff 22 7 0 else x) = s.dev.putB F.MIR_STAT_LOCK0 true := by
      refine if_neg ?_
      rw [Dev.putB, Dev.flag_put_apart _ _ F.MIR_STAT_LOCK1 _ (by decide) (by decide) (by decide), h1, Bool.and_false]
      exact Bool.false_ne_true
    exact completes_onlyRegs _ (runs_mirRxLaneLock_gained (lane := 0) hs h0) hs.1 heq (Dev.put_onlyRegs _ _ _)
      ⟨Dev.flag_putB _ _ _ (by decide), Dev.put_onlyRegs _ _ _⟩
  · exact runs_mirRxLaneLock_lost (lane := 1) hs h1

end Sys2Proof.Machine

/-! PROOFS. Doorbells, entry fetch and completion rings (R377-R385). -/

namespace Sys2Proof.Machine

/-! ### Rings of the device -/

theorem find?_smIns_ne {α : Type} (m : SMap α) {k n : Nat} (v : α) (h : n ≠ k) :
    ((smIns m k v).find? fun p => p.1 == n) = m.find? fun p => p.1 == n := by
  have hkn : (k == n) = false := beq_false_of_ne fun he => h he.symm
  induction m with
  | nil => simp [smIns, hkn]
  | cons p r ih =>
    obtain ⟨j, u⟩ := p
    by_cases hj : j = k
    · subst hj
      simp [smIns, hkn]
    · by_cases hlt : k < j
      · simp [smIns, hj, hlt, List.find?_cons, hkn]
      · simp [smIns, hj, hlt, List.find?_cons, ih]

@[simp] theorem Dev.sq?_setSq_same (d : Dev) (n : Nat) (x : Sq) : (d.setSq n x).sq? n = some x := by
  simp [Dev.sq?, Dev.setSq, find?_smIns_same]

theorem Dev.sq?_setSq_ne (d : Dev) {n m : Nat} (x : Sq) (h : m ≠ n) : (d.setSq n x).sq? m = d.sq? m :=
  congrArg (Option.map Prod.snd) (find?_smIns_ne d.hif.sqs x h)

@[simp] theorem Dev.cq?_setCq_same (d : Dev) (n : Nat) (x : Cq) : (d.setCq n x).cq? n = some x := by
  simp [Dev.cq?, Dev.setCq, find?_smIns_same]

theorem Dev.cq?_setCq_ne (d : Dev) {n m : Nat} (x : Cq) (h : m ≠ n) : (d.setCq n x).cq? m = d.cq? m :=
  congrArg (Option.map Prod.snd) (find?_smIns_ne d.hif.cqs x h)

@[simp] theorem Dev.stmOf_setStm_same (d : Dev) (n : Nat) (x : Stm) : (d.setStm n x).stmOf n = x := smGet_smSet_same _ _ _ _

/-- The device without what the host interface holds and without its registers. -/
def Dev.noHifReg (d : Dev) : Dev := { d with hif := hif0, reg := [], fltNew := [] }

theorem Dev.put_noHifReg (d : Dev) (f : Fld) (v : Nat) : (d.put f v).noHifReg = d.noHifReg := rfl
theorem Dev.setStm_noHifReg (d : Dev) (n : Nat) (x : Stm) : (d.setStm n x).noHifReg = d.noHifReg := rfl
theorem Dev.put_stmOf (d : Dev) (f : Fld) (v n : Nat) : (d.put f v).stmOf n = d.stmOf n := rfl
theorem Dev.setStm_rd (d : Dev) (n : Nat) (x : Stm) (a : Nat) : (d.setStm n x).rd a = d.rd a := rfl

theorem Dev.noHifReg_rest {d e : Dev} (h : e.noHifReg = d.noHifReg) : { e with hif := d.hif, reg := d.reg, fltNew := d.fltNew } = d :=
  congrArg (fun x : Dev => { x with hif := d.hif, reg := d.reg, fltNew := d.fltNew }) h

/-! ### Doorbells -/

/-- A write of the doorbell page while BAR2 answers. -/
theorem Dev.bar2Write_mod {d : Dev} (off v : Nat) (hb : d.bar2 = true) : d.bar2Write off 4 v = d.doorbell off (v % 2 ^ 32) := by
  unfold Dev.bar2Write
  rw [hb]
  rfl

theorem Dev.bar2Write_word {d : Dev} {off v : Nat} (hb : d.bar2 = true) (hv : v < 2 ^ 32) : d.bar2Write off 4 v = d.doorbell off v := by
  rw [Dev.bar2Write_mod _ _ hb, Nat.mod_eq_of_lt hv]

theorem Dev.bar2Write_narrow (d : Dev) (off : Nat) {size : Nat} (v : Nat) (h : size < 4) : d.bar2Write off size v = d :=
  if_pos (by simp [h])

theorem Dev.doorbell_outside (d : Dev) {off : Nat} (v : Nat) (h0 : off % 0x100 ≠ 0) (h4 : off % 0x100 ≠ 4) (h8 : off % 0x100 ≠ 8) :
    d.doorbell off v = d := by
  unfold Dev.doorbell
  split
  case h_1 he => exact absurd he h0
  case h_2 he => exact absurd he h4
  case h_3 he => exact absurd he h8
  case h_4 => rfl

theorem doorbell_slot {n k : Nat} (hn : n < 256) (hk : k < 0x100) : (0x100 * n + k) / 0x100 % 256 = n ∧ (0x100 * n + k) % 0x100 = k := by
  omega

theorem Dev.doorbell_sq (d : Dev) (n : Fin 256) (v : Nat) : d.doorbell (0x100 * n.val) v = d.sqDoor n v := by
  obtain ⟨hn, hk⟩ := doorbell_slot n.isLt (by decide : 0 < 0x100)
  rw [Nat.add_zero] at hn hk
  unfold Dev.doorbell
  simp only [hn, hk]

theorem Dev.doorbell_cq (d : Dev) (n : Fin 256) (v : Nat) : d.doorbell (0x100 * n.val + 4) v = d.cqDoor n v := by
  obtain ⟨hn, hk⟩ := doorbell_slot n.isLt (by decide : 4 < 0x100)
  unfold Dev.doorbell
  simp only [hn, hk]

theorem Dev.doorbell_rp (d : Dev) (n : Fin 8) (v : Nat) : d.doorbell (0x100 * n.val + 8) v = d.rpDoor n v := by
  obtain ⟨hn, hk⟩ := doorbell_slot (n.isLt.trans (by decide : 8 < 256)) (by decide : 8 < 0x100)
  unfold Dev.doorbell
  simp only [hn, hk, n.isLt, if_true]

section
variable {s : State}

theorem runs_sqDoorbell {n : Fin 256} {value : Nat} (hs : s.coreRuns) (hb : s.dev.bar2 = true) (hv : value < 2 ^ 32) :
    Runs (.sqDoorbell n value) s fun d => d.sqDoor n value :=
  runs_congr (runs_core _ (show execSqDoorbell n value s = _ from rfl) hs) ((Dev.bar2Write_word hb hv).trans (Dev.doorbell_sq _ n value))

theorem runs_cqDoorbell {n : Fin 256} {value : Nat} (hs : s.coreRuns) (hb : s.dev.bar2 = true) (hv : value < 2 ^ 32) :
    Runs (.cqDoorbell n value) s fun d => d.cqDoor n value :=
  runs_congr (runs_core _ (show execCqDoorbell n value s = _ from rfl) hs) ((Dev.bar2Write_word hb hv).trans (Dev.doorbell_cq _ n value))

theorem runs_cqDoorbell_none {n : Fin 256} {value : Nat} (hs : s.coreRuns) (hb : s.dev.bar2 = true) (hc : s.dev.cq? n = none) :
    Runs (.cqDoorbell n value) s fun d => d.dbBad n := by
  refine runs_congr (runs_core _ (show execCqDoorbell n value s = _ from rfl) hs) ((Dev.bar2Write_mod _ _ hb).trans ((Dev.doorbell_cq _ n _).trans ?_))
  unfold Dev.cqDoor
  simp only [State.start, hc]

theorem runs_streamRpDoorbell {n : Fin 8} {value : Nat} (hs : s.coreRuns) (hb : s.dev.bar2 = true) (hv : value < 2 ^ 32) :
    Runs (.streamRpDoorbell n value) s fun d => d.rpDoor n value :=
  runs_congr (runs_core _ (show execStreamRpDoorbell n value s = _ from rfl) hs) ((Dev.bar2Write_word hb hv).trans (Dev.doorbell_rp _ n value))

end

theorem Dev.sqDoor_in {d : Dev} {n v : Nat} {x : Sq} (h : d.sq? n = some x) (hv : v < x.size) : d.sqDoor n v = d.setSq n { x with tail := v } := by
  unfold Dev.sqDoor
  simp only [h, hv, if_true]

theorem Dev.sqDoor_out {d : Dev} {n v : Nat} (h : (d.sq? n).elim true (fun x => decide (x.size ≤ v)) = true) : d.sqDoor n v = d.dbBad n := by
  unfold Dev.sqDoor
  split
  case h_1 x hx =>
    rw [hx] at h
    exact if_neg (Nat.not_lt.2 (by simpa using h))
  case h_2 => rfl

/-- The completion ring with its head moved by the host. -/
theorem Dev.cqDoor_in {d : Dev} {n v : Nat} {c : Cq} (h : d.cq? n = some c) (hv : v < c.size) (hh : (v + c.size - c.head) % c.size ≤ c.held) :
    d.cqDoor n v = if ({ c with head := v } : Cq).full then d.setCq n { c with head := v } else (d.setCq n { c with head := v }).causeOff 14 4 n := by
  unfold Dev.cqDoor
  simp only [h]
  exact if_pos ⟨hv, hh⟩

theorem Dev.cqDoor_out {d : Dev} {n v : Nat}
    (h : (d.cq? n).elim true (fun c => !(decide (v < c.size) && decide ((v + c.size - c.head) % c.size ≤ c.held))) = true) : d.cqDoor n v = d.dbBad n := by
  unfold Dev.cqDoor
  split
  case h_1 c hc =>
    rw [hc] at h
    refine if_neg fun ⟨hv, hh⟩ => ?_
    simp [hv, hh] at h
  case h_2 => rfl

theorem Dev.rpDoor_in {d : Dev} {n v : Nat} (he : d.flag (F.STM_CFG_EN n) = true) (hv : v < d.stmSize n)
    (hh : (v + d.stmSize n - (d.stmOf n).rp) % d.stmSize n ≤ ((d.stmOf n).wp + d.stmSize n - (d.stmOf n).rp) % d.stmSize n) :
    d.rpDoor n v = (d.setStm n { d.stmOf n with rp := v }).put (F.STM_RP_PTR n) v := if_pos ⟨he, hv, hh⟩

theorem Dev.noHifReg_corks {d e : Dev} (h : e.noHifReg = d.noHifReg) : e.corks = d.corks :=
  show e.noHifReg.corks = d.noHifReg.corks from congrArg Dev.corks h

theorem Dev.noHifReg_fab {d e : Dev} (h : e.noHifReg = d.noHifReg) : e.fab = d.fab :=
  show e.noHifReg.fab = d.noHifReg.fab from congrArg Dev.fab h

/-- The host's read pointer of a stream, moved to v. -/
theorem Dev.rpMoved_spec (d : Dev) (n v : Nat) :
    let e := (d.setStm n { d.stmOf n with rp := v }).put (F.STM_RP_PTR n) v
    (e.stmOf n).rp = v ∧ e.rd (R.STM_RP n) = fldPut (F.STM_RP_PTR n) (d.rd (R.STM_RP n)) v ∧ (∀ a, a ≠ R.STM_RP n → e.rd a = d.rd a)
      ∧ e.noHifReg = d.noHifReg := by
  refine ⟨?_, Dev.rd_wr_same _ _ _, fun a ha => (Dev.rd_put_ne _ _ _ ha).trans (Dev.setStm_rd _ _ _ _), ?_⟩
  · rw [Dev.put_stmOf, Dev.stmOf_setStm_same]
  · rw [Dev.put_noHifReg, Dev.setStm_noHifReg]

/-! A doorbell outside its ring (R377). -/

theorem Dev.dbBad_hif (d : Dev) (n : Nat) : (d.dbBad n).hif = d.hif :=
  show (d.dbBad n).still.hif = (d.incSat F.HIF_CNT0_DBBAD).still.hif from congrArg Dev.hif (Dev.raise_still _ _ _ _ _)

theorem Dev.dbBad_count (d : Dev) (n : Nat) : (d.dbBad n).get F.HIF_CNT0_DBBAD = min (d.get F.HIF_CNT0_DBBAD + 1) 255 :=
  ((Dev.raise_reported (d.incSat F.HIF_CNT0_DBBAD) 14 3 n 1).get (f := F.HIF_CNT0_DBBAD) (by decide)).trans
    (Dev.get_incSat_same d F.HIF_CNT0_DBBAD (by decide))

theorem completes_dbBad {c : Instr} {s : State} {n : Nat} (hs : s.coreRuns) (h : Runs c s fun d => d.dbBad n) :
    Completes c s fun e => e.hif = s.dev.hif ∧ e.get F.HIF_CNT0_DBBAD = min (s.dev.get F.HIF_CNT0_DBBAD + 1) 255 := by
  have hreg := Dev.raise_reported (s.dev.incSat F.HIF_CNT0_DBBAD) 14 3 n 1
  have honly := Dev.incSat_onlyRegs s.dev F.HIF_CNT0_DBBAD
  exact completes_runs_eq _ h hs.1 rfl (hreg.corks.trans honly.corks) (hreg.fab.trans honly.fab) ⟨Dev.dbBad_hif _ _, Dev.dbBad_count _ _⟩

/-- The device after a doorbell of a completion ring. -/
structure Dev.CqFreed (n v : Nat) (c : Cq) (d e : Dev) : Prop where
  ring : e.cq? n = some { c with head := v }
  others : ∀ m, m ≠ n → e.cq? m = d.cq? m
  sqs : e.hif.sqs = d.hif.sqs
  reg : e.reg = d.reg
  still : Dev.still { e with hif := d.hif } = d.still

theorem Dev.setCq_freed (d : Dev) (n v : Nat) (c : Cq) : CqFreed n v c d (d.setCq n { c with head := v }) :=
  ⟨Dev.cq?_setCq_same _ _ _, fun _ hm => Dev.cq?_setCq_ne _ _ hm, rfl, rfl, rfl⟩

theorem Dev.CqFreed.causeOff {n v : Nat} {c : Cq} {d e : Dev} (h : CqFreed n v c d e) (b k i : Nat) : CqFreed n v c d (e.causeOff b k i) :=
  ⟨h.ring, h.others, h.sqs, h.reg, h.still⟩

theorem Dev.CqFreed.corks {n v : Nat} {c : Cq} {d e : Dev} (h : CqFreed n v c d e) : e.corks = d.corks :=
  show (Dev.still { e with hif := d.hif }).corks = d.still.corks from congrArg Dev.corks h.still

theorem Dev.CqFreed.fab {n v : Nat} {c : Cq} {d e : Dev} (h : CqFreed n v c d e) : e.fab = d.fab :=
  show (Dev.still { e with hif := d.hif }).fab = d.still.fab from congrArg Dev.fab h.still

theorem Dev.cqDoor_freed {d : Dev} {n v : Nat} {c : Cq} (h : d.cq? n = some c) (hv : v < c.size) (hh : (v + c.size - c.head) % c.size ≤ c.held) :
    CqFreed n v c d (d.cqDoor n v) := by
  rw [Dev.cqDoor_in h hv hh]
  split
  · exact d.setCq_freed n v c
  · exact (d.setCq_freed n v c).causeOff _ _ _

/-! ### Entry fetch (R379, R382) -/

section
variable {s : State} {n : Fin 256} {x : Sq}

theorem runs_sqEntryFetch {entry : List Nat} (hs : s.coreRuns) (hx : s.dev.sq? n = some x) (ha : s.dev.arrives x = true) (hst : x.stuck = none)
    (hne : x.head ≠ x.tail) (hlt : x.ents.length < max 1 (s.dev.get F.HIF_CFG_FETCH)) :
    Runs (.sqEntryFetch n entry) s fun d => d.fetchIn n x (entry16 entry) := by
  refine runs_congr (runs_core _ (show execSqEntryFetch n entry s = _ from rfl) hs) ?_
  simp only [State.start, hx]
  exact if_neg (by simp [ha, hst, hne, Nat.not_le.2 hlt])

theorem runs_fetchRetry (hs : s.coreRuns) (hx : s.dev.sq? n = some x) (hst : x.stuck.isSome = true) :
    Runs (.fetchRetry n) s fun d => (d.until (x.stuckAt + 400)).fetchAgain n := by
  refine runs_congr (runs_core _ (show execFetchRetry n s = _ from rfl) hs) ?_
  simp only [State.start, hx, hst, if_true]

theorem Dev.fetchIn_some {d d1 : Dev} {n k : Nat} {x : Sq} {w : List Nat} (h : d.caskIn 0 n w = some (d1, k)) :
    d.fetchIn n x w = d1.entIn n { x with head := (x.head + 1) % x.size, stuck := none, flight := x.flight - 1 } w (some k) x.head := by
  unfold Dev.fetchIn
  rw [h]

theorem Dev.fetchIn_none {d : Dev} {n : Nat} {x : Sq} {w : List Nat} (h : d.caskIn 0 n w = none) :
    d.fetchIn n x w = ((d.setSq n { x with stuck := some w, stuckAt := d.fab, flight := 0 }).incSat F.HIF_CNT1_FETCHEXH).raise 14 5 n 1 := by
  unfold Dev.fetchIn
  rw [h]

theorem Dev.fetchAgain_in {d : Dev} {n : Nat} {x : Sq} {w : List Nat} (hx : d.sq? n = some x) (hst : x.stuck = some w)
    (he : d.flag F.HIF_CTL_EN = true) (hup : d.domUp 6 = true) : d.fetchAgain n = d.fetchIn n x w := by
  unfold Dev.fetchAgain
  simp only [hx, hst, he, hup, Bool.and_self, if_true]

end

/-! ### Completion rings (R384, R385) -/

section
variable {s : State} {cq : Fin 256} {c : Cq}

/-- The ring after the completion at its front has been written (R385). -/
def Cq.wrote (c : Cq) (fab : Nat) (r : List Cpl) : Cq :=
  { c with
    wait := r
    tail := (c.tail + 1) % c.size
    phase := if (c.tail + 1) % c.size = 0 then !c.phase else c.phase
    unsig := c.unsig + 1
    since := if c.unsig = 0 then fab else c.since
    fullAt := fab }

/-- The completion e and its data go to the host. -/
def Dev.cplOut (d : Dev) (c : Cq) (e : Cpl) : Dev :=
  (if e.data.isEmpty then d else d.emit (.write e.daddr e.data)).emit (.write (c.base + 16 * c.tail) (cplWords e c.phase))

theorem runs_completionWrite {e : Cpl} {r : List Cpl} (hs : s.coreRuns) (hc : s.dev.cq? cq = some c) (hw : c.wait = e :: r) (hf : c.full = false)
    (hg : s.dev.pcieGo = true) : Runs (.completionWrite cq) s fun d =>
      if c.closing && r.isEmpty then ((d.cplOut c e).cqSignal cq (c.wrote d.fab r)).cqDrop cq
      else if max 1 c.cthr ≤ (c.wrote d.fab r).unsig then (d.cplOut c e).cqSignal cq (c.wrote d.fab r)
      else (d.cplOut c e).setCq cq (c.wrote d.fab r) := by
  refine runs_congr (runs_core _ (show execCompletionWrite cq s = _ from rfl) hs) ?_
  simp only [State.start, hc, hw, hf, hg, Bool.not_true, Bool.or_self, Bool.false_eq_true, if_false]
  rfl

theorem runs_cqCoalesceTimeout (hs : s.coreRuns) (hc : s.dev.cq? cq = some c) (ht : c.ctime ≠ 0) (hu : c.unsig ≠ 0) :
    Runs (.cqCoalesceTimeout cq) s fun d => (d.until (c.since + 400 * c.ctime)).cqSignal cq c := by
  refine runs_congr (runs_core _ (show execCqCoalesceTimeout cq s = _ from rfl) hs) ?_
  simp only [State.start, hc]
  exact if_pos ⟨ht, hu⟩

theorem runs_cqStall (hs : s.coreRuns) (hc : s.dev.cq? cq = some c) (hf : c.full = true) : Runs (.cqStall cq) s fun d =>
    ((d.until (c.fullAt + 400000 * max 1 (d.get F.HIF_CFG_CQTO))).incSat F.HIF_CNT1_CQSTALL).causeOn 14 4 cq 1 := by
  refine runs_congr (runs_core _ (show execCqStall cq s = _ from rfl) hs) ?_
  simp only [State.start, hc, hf, if_true]

/-- The ring after a completion that neither fills it to its end nor signals. -/
theorem Cq.wrote_quiet {c : Cq} (fab : Nat) (r : List Cpl) (h : c.tail + 1 < c.size) : c.wrote fab r =
    { c with wait := r, tail := c.tail + 1, unsig := c.unsig + 1, since := if c.unsig = 0 then fab else c.since, fullAt := fab } := by
  unfold Cq.wrote
  rw [Nat.mod_eq_of_lt h, if_neg (Nat.succ_ne_zero _)]

theorem Dev.cplOut_noData (d : Dev) (c : Cq) {e : Cpl} (h : e.data = []) :
    d.cplOut c e = d.emit (.write (c.base + 16 * c.tail) (cplWords e c.phase)) := by
  unfold Dev.cplOut
  rw [h]
  rfl

end

/-- Settles O42: each doorbell by whether its value lies within the ring, and each ring by its state. -/
theorem doorbellsAndFetch : Obligations.doorbells_and_fetch := by
  unfold Obligations.doorbells_and_fetch
  refine ⟨fun d off v h0 h4 h8 => Dev.doorbell_outside d v h0 h4 h8, fun d off size v h => Dev.bar2Write_narrow d off v h,
    fun s n value x hs hb hx hlt hv => ?_, fun s n value x hs hb hx hle hv => ?_, fun s n value c hs hb hc hlt hv hh => ?_,
    fun s n value hs hb hc => ?_, fun s n value hs hb he hlt hv hh => ?_,
    fun s n entry x d1 k hs hx hg hst hne hents hc => runs_congr (runs_sqEntryFetch hs hx ?_ hst hne ?_) (Dev.fetchIn_some hc),
    fun s n entry x hs hx hg hst hne hents hc => runs_congr (runs_sqEntryFetch hs hx ?_ hst hne ?_) (Dev.fetchIn_none hc),
    fun s n w x d1 k hs hx he hup hst hle hc => ?_, fun s n x hs hx hst => runs_fetchRetry hs hx hst,
    fun s cq c e r hs hc hw hf hcl hg hd htail hunsig => ?_, fun s cq c hs hc ht hu => runs_cqCoalesceTimeout hs hc ht hu,
    fun s cq c hs hc hf => runs_cqStall hs hc hf⟩
  · exact completes_runs_eq _ (runs_sqDoorbell hs hb hv) hs.1 (Dev.sqDoor_in hx hlt) rfl rfl
      ⟨Dev.sq?_setSq_same _ _ _, fun m hm => Dev.sq?_setSq_ne _ _ hm, rfl, rfl⟩
  · exact completes_dbBad hs (runs_congr (runs_sqDoorbell hs hb hv) (Dev.sqDoor_out (by rw [State.start, hx]; simpa using hle)))
  · have hfree := Dev.cqDoor_freed hc hlt hh
    exact completes_runs_eq _ (runs_cqDoorbell hs hb hv) hs.1 rfl hfree.corks hfree.fab ⟨hfree.ring, hfree.others, hfree.sqs, hfree.reg, hfree.still⟩
  · exact completes_dbBad hs (runs_cqDoorbell_none hs hb hc)
  · obtain ⟨hrp, hword, helse, hrest⟩ := s.dev.rpMoved_spec n value
    exact completes_runs_eq _ (runs_streamRpDoorbell hs hb hv) hs.1 (Dev.rpDoor_in he hlt hh) (Dev.noHifReg_corks hrest) (Dev.noHifReg_fab hrest)
      ⟨hrp, hword, helse, Dev.noHifReg_rest hrest⟩
  · exact Bool.or_eq_true_iff.2 (.inl hg)
  · rw [hents]
    exact Nat.lt_of_lt_of_le Nat.one_pos (Nat.le_max_left 1 _)
  · exact Bool.or_eq_true_iff.2 (.inl hg)
  · rw [hents]
    exact Nat.lt_of_lt_of_le Nat.one_pos (Nat.le_max_left 1 _)
  · refine runs_congr (runs_fetchRetry hs hx (by rw [hst]; rfl)) ?_
    rw [State.start, Dev.until_past hle, Dev.fetchAgain_in hx hst he hup]
    exact Dev.fetchIn_some hc
  · have heq : (if c.closing && r.isEmpty then ((s.dev.cplOut c e).cqSignal cq (c.wrote s.dev.fab r)).cqDrop cq
        else if max 1 c.cthr ≤ (c.wrote s.dev.fab r).unsig then (s.dev.cplOut c e).cqSignal cq (c.wrote s.dev.fab r)
        else (s.dev.cplOut c e).setCq cq (c.wrote s.dev.fab r)) =
        (s.dev.emit (.write (c.base + 16 * c.tail) (cplWords e c.phase))).setCq cq (c.wrote s.dev.fab r) := by
      have hquiet : ¬ max 1 c.cthr ≤ (c.wrote s.dev.fab r).unsig := by
        show ¬ max 1 c.cthr ≤ c.unsig + 1
        omega
      rw [hcl, Bool.false_and, if_neg Bool.false_ne_true, if_neg hquiet, Dev.cplOut_noData _ _ hd]
    refine completes_runs_eq _ (runs_completionWrite hs hc hw hf hg) hs.1 heq rfl rfl ⟨rfl, ?_, rfl⟩
    rw [Dev.cq?_setCq_same, Cq.wrote_quiet _ _ htail]

end Sys2Proof.Machine

/-! PROOFS. Opcodes of the host, of rings and of cores (R385, R386, R390, R391, R412). -/

namespace Sys2Proof.Machine

/-- A command that is next of its source and passes the checks runs its operation g (R385, R390). -/
theorem runs_op {c : Instr} {s : State} {h : CmdHdr} {op : Nat} {buf : Bool} {ps : List Par} {x : Sq} {e : Ent} (f : Dev → Dev × OpRes)
    {g : Dev → Dev × OpRes} (hx : exec c s = s.run fun d => d.runOp h op buf ps f) (hs : s.coreRuns) (ht : s.dev.opTakes h op buf ps x e)
    (hg : f (s.start.opStart h op x) = g s.start) : Runs c s fun d => Dev.opEnd h op x e (g d) :=
  runs_congr (runs_core _ hx hs) ((Dev.runOp_takes ht).trans (congrArg (Dev.opEnd h op x e) hg))

/-- A command that passes its checks with a buffer has a buffer of whole words. -/
theorem Dev.opTakes.words {d : Dev} {h : CmdHdr} {op : Nat} {ps : List Par} {x : Sq} {e : Ent} (ht : d.opTakes h op true ps x e) :
    bufBad h = false := by
  obtain ⟨-, -, -, hcheck⟩ := ht
  unfold cmdCheck at hcheck
  split at hcheck
  · cases hcheck
  · cases hb : bufBad h with
    | false => rfl
    | true =>
      rw [hb] at hcheck
      cases hcheck

/-! ### What each operation does where its arguments are good -/

theorem wordsBytes_length (l : List Nat) : (wordsBytes l).length = 4 * l.length := by
  induction l with
  | nil => rfl
  | cons w r ih =>
    rw [wordsBytes, List.flatMap_cons, List.length_append, ← wordsBytes, ih, List.length_cons]
    show 4 + 4 * r.length = 4 * (r.length + 1)
    omega

theorem padWords_length (n : Nat) (l : List Nat) : (padWords n l).length = n := by
  simp [padWords]

section
variable {d : Dev} {h : CmdHdr}

/-- Data of a command from a submission queue come with it. -/
theorem Dev.input_host (data : List Nat) (hsrc : h.src < 256) : d.input h data = some (d, padWords (h.dlen / 4) data) := if_pos hsrc

theorem Dev.opRegRd_one {off : Nat} (h4 : off % 4 = 0) (hlt : off + 4 ≤ 2 ^ 25) (ho : d.offAt off = false) :
    d.opRegRd h off 1 = (d.busRead (cmdReq h) off, ⟨0, (d.busRead (cmdReq h) off).bus.data % 2 ^ 32, 0, []⟩) := by
  have hargs : regArgs off 1 = true := by
    simp only [regArgs, h4]
    simpa using hlt
  have hone : decide (2 < 1) = false := rfl
  have hany : ((List.range 1).any fun i => d.offAt (off + 4 * i)) = false := by
    show (d.offAt off || false) = false
    rw [ho]
    rfl
  unfold Dev.opRegRd
  rw [hargs, hone, hany]
  rfl

theorem Dev.opRegWr_few {off cnt : Nat} (data : List Nat) (h1 : 1 ≤ cnt) (h9 : cnt ≤ 9) (h4 : off % 4 = 0) (hlt : off + 4 * cnt ≤ 2 ^ 25) :
    d.opRegWr h off cnt data = d.opWrite h off (padWords cnt data) := by
  have hargs : regArgs off cnt = true := by
    simp only [regArgs, h4]
    simpa using ⟨⟨h1, by omega⟩, hlt⟩
  unfold Dev.opRegWr
  rw [if_neg (by simp [hargs, Nat.not_lt.2 h9]), if_pos h9]

theorem Dev.opRegCork_placed {off : Nat} (value : Nat) (hlt : off < 2 ^ 25) (hp : corkPlace off false = true) :
    d.opRegCork h off value =
      (let v := value % 2 ^ 32
       let a := d.busWrite (cmdReq h) off v
       let b := a.busWrite (cmdReq h) (off + 4) (2 ^ 32 - 1 - v)
       (b, ⟨statusOf (d.wrRefused (cmdReq h) off v || a.wrRefused (cmdReq h) (off + 4) (2 ^ 32 - 1 - v)) false, (b.rd R.SYS_CORK_STAT).toNat, 0, []⟩)) :=
  if_neg (by rw [hp, decide_eq_true hlt]; decide)

theorem descArgs_good {idx cnt : Nat} (h1 : 1 ≤ cnt) (hi : idx + cnt ≤ 8192) (hl : 32 * cnt ≤ h.dlen) : descArgs h idx cnt = true := by
  simp [descArgs, h1, hi, hl]

theorem Dev.opDescWr_host {bank : Bool} {idx cnt : Nat} (data : List Nat) (hsrc : h.src < 256) (h1 : 1 ≤ cnt) (hi : idx + cnt ≤ 8192)
    (hl : 32 * cnt ≤ h.dlen) : d.opDescWr h bank idx cnt data =
      (let r := d.descsPut bank cnt idx (padWords (8 * cnt) (padWords (h.dlen / 4) data))
       (r.1, ⟨statusOf r.2.2.2 false, r.2.1, r.2.2.1, []⟩)) := by
  unfold Dev.opDescWr
  rw [descArgs_good h1 hi hl, Dev.input_host data hsrc]
  rfl

theorem Dev.opStrobe_taken {grp : Nat} (h0 : grp % 256 ≠ 0) (hf : d.following = false) (hb : d.strobeBusy (grp % 256) = false) :
    d.opStrobe grp = (d.strobe grp, .ok ((d.strobe grp).get F.SYS_VINTAGE_CUR) 0) := by
  unfold Dev.opStrobe
  rw [if_neg h0, hf, hb]
  rfl

theorem Dev.opImageLoad_host (image : List Nat) (hsrc : h.src < 256) (hp : d.get F.SYS_UPD_PEND_GRP_PEND = 0) (hf : d.following = false) :
    d.opImageLoad h image =
      (let b := wordsBytes (padWords (h.dlen / 4) image)
       match d.imgCheck b with
       | some rs => ((d.imgResult b).imgApply b rs, .ok (wordAt b 3 % 2 ^ 16) 0)
       | none => ((d.imgResult b).verifyFail, .err 9)) := by
  unfold Dev.opImageLoad
  rw [if_neg (by simp [hp, hf]), Dev.input_host image hsrc] <;> rfl

/-- The bank that is not in use with the piece stored, the staged bytes counted. -/
theorem Dev.opFwStage_piece {off : Nat} (piece : List Nat) (hsrc : h.src < 256) (hw : bufBad h = false) (hlen : off + h.dlen ≤ 2 ^ 20) :
    d.opFwStage h off false piece =
      (let y : Dev := { d with mram := memWriteBytes d.mram (bankAddr (!d.flag F.MGS_STAT_BANK) + off) (wordsBytes (padWords (h.dlen / 4) piece)) }
       let z := (y.put F.MGS_FW_STAT_VERIFIED 0).put F.MGS_FW_STAT_STAGED (y.get F.MGS_FW_STAT_STAGED + h.dlen)
       (z, .ok (z.get F.MGS_FW_STAT_STAGED) 0)) := by
  have h4 : h.dlen % 4 = 0 := by
    simp only [bufBad, Bool.or_eq_false_iff] at hw
    simpa using hw.1.1
  have hbytes : (wordsBytes (padWords (h.dlen / 4) piece)).length = h.dlen := by
    rw [wordsBytes_length, padWords_length]
    omega
  unfold Dev.opFwStage
  rw [if_neg (Nat.not_lt.2 hlen), Dev.input_host piece hsrc]
  simp only [Dev.fwPiece, hbytes]
  rfl

theorem Dev.opLogRd_good {idx cnt : Nat} (h1 : 1 ≤ cnt) (hc : cnt ≤ 16384) (hl : 32 * cnt ≤ h.dlen) : d.opLogRd h idx cnt =
    (let y := d.logDrain
     let seq := y.get F.MGS_LOG_SEQ
     let start := max idx (seq - 16384)
     let n := min cnt (seq - start)
     (y, ⟨0, start + n, n, (List.range n).flatMap (fun i => memWords y.mram (0x200000 + 32 * ((start + i) % 16384)) 8)⟩)) :=
  if_neg (by omega)

theorem Dev.opPredQ_time {k ang : Nat} {t : Int} (ht : d.queryRes k (ang % 2 ^ 24) = .time t) : d.opPredQ k ang =
    (d, .ok (ofS 64 (fdiv t 8) % 2 ^ 32)
      (ofS 64 (fdiv t 8) / 2 ^ 32 % 2 ^ 24 + (Int.fmod t 8).toNat * 2 ^ 24 + b2n (decide (t < 8 * (d.now : Int))) * 2 ^ 29)) := by
  unfold Dev.opPredQ
  rw [ht]

/-- The operation of TILE_RD. -/
def Dev.opTileRd (d : Dev) (n p addr : Nat) : Dev × OpRes :=
  match d.tileStop n p with
  | some c => (d, ⟨c, 0, if c = 0xA then 0xFE else 0, []⟩)
  | none =>
    if d.tileSilent n p true then d.tileDead true
    else (d, .ok (d.tileRead (tileNo n p) d.mySide (addr % 65536)).2 (d.tileRead (tileNo n p) d.mySide (addr % 65536)).1)

/-- The operation of TILE_WR. -/
def Dev.opTileWr (d : Dev) (n p addr data : Nat) : Dev × OpRes :=
  match d.tileStop n p with
  | some c => (d, ⟨c, if c = 0xA then 0xFE else 0, 0, []⟩)
  | none =>
    if d.tileSilent n p false then d.tileDead false
    else if (d.ts (tileNo n p) d.mySide).st = 0 then (d, .ok 3 0)
    else ((d.tileWrite (tileNo n p) d.mySide (addr % 65536) (data % 2 ^ 32)).1, .ok (d.tileWrite (tileNo n p) d.mySide (addr % 65536) (data % 2 ^ 32)).2 0)

theorem Dev.opTileRd_read {n p : Nat} (addr : Nat) (hst : d.tileStop n p = none) (hsil : d.tileSilent n p true = false) : d.opTileRd n p addr =
    (d, .ok (d.tileRead (tileNo n p) d.mySide (addr % 65536)).2 (d.tileRead (tileNo n p) d.mySide (addr % 65536)).1) := by
  unfold Dev.opTileRd
  rw [hst]
  exact if_neg (ne_true_of_eq_false hsil)

theorem Dev.opTileRd_stopped {n p r : Nat} (addr : Nat) (hst : d.tileStop n p = some r) : d.opTileRd n p addr = (d, ⟨r, 0, if r = 0xA then 0xFE else 0, []⟩) := by
  unfold Dev.opTileRd
  rw [hst]

theorem Dev.opTileWr_written {n p : Nat} (addr data : Nat) (hst : d.tileStop n p = none) (hsil : d.tileSilent n p false = false)
    (hon : (d.ts (tileNo n p) d.mySide).st ≠ 0) : d.opTileWr n p addr data =
    ((d.tileWrite (tileNo n p) d.mySide (addr % 65536) (data % 2 ^ 32)).1, .ok (d.tileWrite (tileNo n p) d.mySide (addr % 65536) (data % 2 ^ 32)).2 0) := by
  unfold Dev.opTileWr
  rw [hst]
  exact (if_neg (ne_true_of_eq_false hsil)).trans (if_neg hon)

theorem Dev.opTileWr_stopped {n p r : Nat} (addr data : Nat) (hst : d.tileStop n p = some r) :
    d.opTileWr n p addr data = (d, ⟨r, if r = 0xA then 0xFE else 0, 0, []⟩) := by
  unfold Dev.opTileWr
  rw [hst]

theorem Dev.opDeleteSq_made {sq : Nat} {y : Sq} (h0 : sq ≠ 0) (hy : d.sq? sq = some y) : d.opDeleteSq sq =
    (let d1 := d.abortEnts sq
     ({ d1.upQmg (fun q => q.setQcfg sq 0) with hif := { d1.hif with sqs := smDel d1.hif.sqs sq } }, .ok y.ents.length 0)) := by
  unfold Dev.opDeleteSq
  rw [hy]
  exact if_neg h0

theorem Dev.opBufPut_stored {p off len : Nat} (data : List Nat) {g : Dev} (h0 : len ≠ 0) (h36 : len ≤ 36) (hlen : off + len ≤ 2 ^ 20)
    (hg : d.stageGrow p ((off + len + 63) / 64) 16385 = some g) : d.opBufPut p off len data =
    (let y := g.stageWrite p off ((wordsBytes (padWords 9 data)).take len)
     (y.setCan p { y.canOf p with stage := max (y.canOf p).stage (off + len) }, .ok len 0)) := by
  unfold Dev.opBufPut
  rw [if_neg (by omega), hg]

end

/-- Settles O43: a command that is taken runs its operation, and each operation by what its arguments allow. -/
theorem opcodesOfTheHost : Obligations.opcodes_of_the_host := by
  unfold Obligations.opcodes_of_the_host
  refine ⟨fun s h x e hs ht => runs_op (fun y => (y, .ok 0 0)) rfl hs ht rfl,
    fun s h x e hs ht => runs_op (fun y => (y, .ok (y.fwRel (y.flag F.MGS_STAT_BANK)) (y.dver * 2 ^ 16 + y.get F.SYS_VINTAGE_CUR))) rfl hs ht rfl,
    fun s h x e off hs ht h4 hlt ho => runs_op (fun y => y.opRegRd h off 1) rfl hs ht (Dev.opRegRd_one h4 hlt ho),
    fun s h x e off cnt data hs ht h1 h9 h4 hlt => runs_op (fun y => y.opRegWr h off cnt data) rfl hs ht (Dev.opRegWr_few data h1 h9 h4 hlt),
    fun s h x e off value hs ht hlt hp => runs_op (fun y => y.opRegCork h off value) rfl hs ht (Dev.opRegCork_placed value hlt hp),
    fun s h x e bank idx cnt data hs ht hsrc h1 hi hl => runs_op (fun y => y.opDescWr h bank idx cnt data) rfl hs ht (Dev.opDescWr_host data hsrc h1 hi hl),
    fun s h x e bank idx cnt hs ht h1 hi hl => runs_op _ (show exec (.descRd h bank idx cnt) s = _ from rfl) hs ht (if_pos (descArgs_good h1 hi hl)),
    fun s h x e grp hs ht h0 hf hb => runs_op (fun y => y.opStrobe grp) rfl hs ht (Dev.opStrobe_taken h0 hf hb),
    fun s h x e image hs ht hsrc hp hf => runs_op (fun y => y.opImageLoad h image) rfl hs ht (Dev.opImageLoad_host image hsrc hp hf),
    fun s h x e off piece hs ht hsrc hlen => runs_op (fun y => y.opFwStage h off false piece) rfl hs ht (Dev.opFwStage_piece piece hsrc ht.words hlen),
    fun s h x e idx cnt hs ht h1 hc hl => runs_op (fun y => y.opLogRd h idx cnt) rfl hs ht (Dev.opLogRd_good h1 hc hl),
    fun s h x e mach dem tag hs ht => runs_op _ (show exec (.demand h mach dem false tag) s = _ from rfl) hs ht rfl,
    fun s h x e k ang t hs ht hq => runs_op (fun y => y.opPredQ k ang) rfl hs ht (Dev.opPredQ_time hq),
    fun s h x e n p addr hs ht hst hsil => runs_op (fun y => y.opTileRd n p addr) rfl hs ht (Dev.opTileRd_read addr hst hsil),
    fun s h x e n p addr data hs ht hst hsil hon => runs_op (fun y => y.opTileWr n p addr data) rfl hs ht (Dev.opTileWr_written addr data hst hsil hon),
    fun s h x e off data hs ht hm => runs_op _ (show exec (.memWr h off data) s = _ from rfl) hs ht (if_pos hm),
    fun s h x e off hs ht hm => runs_op _ (show exec (.memRd h off) s = _ from rfl) hs ht (if_pos hm)⟩

/-! ### Rings, cores and the staging buffer -/

/-- The operation of CREATE_SQ. -/
def Dev.opCreateSq (d : Dev) (sq base entries cq owner prio : Nat) (core : Bool) (win : Nat) : Dev × OpRes :=
  if ringArgs sq base entries && decide (owner < 256) && decide (prio < 4) && decide (1 ≤ win) && decide (win ≤ 64) && (d.sq? sq).isNone &&
      (d.cqLive? cq).isSome then (d.addSq sq (newSq base entries cq owner prio core win), .ok 0 0)
  else badParam d

/-- The operation of CREATE_CQ. -/
def Dev.opCreateCq (d : Dev) (cq base entries vec cthr ctime : Nat) : Dev × OpRes :=
  if ringArgs cq base entries && decide (vec < 1024) && decide (cthr < 256) && decide (ctime < 65536) && (d.cq? cq).isNone then
    (d.setCq cq (newCq base entries vec cthr ctime), .ok 0 0)
  else badParam d

/-- The operation of DELETE_CQ. -/
def Dev.opDeleteCq (d : Dev) (cq : Nat) : Dev × OpRes :=
  if cq != 0 && (d.cqLive? cq).isSome && !d.hif.sqs.any (fun p => p.2.cq == cq) then (d.cqDrop cq, .ok 0 0) else badParam d

theorem Dev.opCreateSq_made {d : Dev} {sq base entries cq owner prio : Nat} {core : Bool} {win : Nat} {c : Cq} (ha : ringArgs sq base entries = true)
    (ho : owner < 256) (hp : prio < 4) (h1 : 1 ≤ win) (hw : win ≤ 64) (hn : d.sq? sq = none) (hc : d.cqLive? cq = some c) :
    d.opCreateSq sq base entries cq owner prio core win = (d.addSq sq (newSq base entries cq owner prio core win), .ok 0 0) :=
  if_pos (by simp [ha, ho, hp, h1, hw, hn, hc])

theorem Dev.opCreateCq_made {d : Dev} {cq base entries vec cthr ctime : Nat} (ha : ringArgs cq base entries = true) (hv : vec < 1024)
    (ht : cthr < 256) (hc : ctime < 65536) (hn : d.cq? cq = none) :
    d.opCreateCq cq base entries vec cthr ctime = (d.setCq cq (newCq base entries vec cthr ctime), .ok 0 0) :=
  if_pos (by simp [ha, hv, ht, hc, hn])

theorem Dev.opDeleteCq_unused {d : Dev} {cq : Nat} {c : Cq} (h0 : cq ≠ 0) (hc : d.cqLive? cq = some c)
    (hu : d.hif.sqs.any (fun p => p.2.cq == cq) = false) : d.opDeleteCq cq = (d.cqDrop cq, .ok 0 0) :=
  if_pos (by rw [hc, hu, bne_iff_ne.2 h0]; rfl)

/-- Settles O44: as the opcodes of the host, for the operations of cores, rings and the staging buffer. -/
theorem opcodesOfRingsAndCores : Obligations.opcodes_of_rings_and_cores := by
  unfold Obligations.opcodes_of_rings_and_cores
  exact ⟨fun s h x e cores hs ht => runs_op _ (show exec (.acCtlHalt h cores) s = _ from rfl) hs ht rfl,
    fun s h x e cores addr hs ht => runs_op _ (show exec (.acCtlStart h cores addr) s = _ from rfl) hs ht rfl,
    fun s h x e cores hs ht => runs_op _ (show exec (.acCtlReset h cores) s = _ from rfl) hs ht rfl,
    fun s h x e sq base entries cq owner prio core win c hs ht ha ho hp h1 hw hn hc =>
      runs_op (fun y => y.opCreateSq sq base entries cq owner prio core win) rfl hs ht (Dev.opCreateSq_made ha ho hp h1 hw hn hc),
    fun s h x y e sq hs ht h0 hy => runs_op (fun z => z.opDeleteSq sq) rfl hs ht (Dev.opDeleteSq_made h0 hy),
    fun s h x e cq base entries vec cthr ctime hs ht ha hv hth hc hn =>
      runs_op (fun y => y.opCreateCq cq base entries vec cthr ctime) rfl hs ht (Dev.opCreateCq_made ha hv hth hc hn),
    fun s h x e cq c hs ht h0 hc hu => runs_op (fun y => y.opDeleteCq cq) rfl hs ht (Dev.opDeleteCq_unused h0 hc hu),
    fun s h x e off len data g hs ht h0 h36 hlen hg =>
      runs_op (fun y => y.opBufPut (h.src - 256) off len data) rfl hs ht (Dev.opBufPut_stored data h0 h36 hlen hg)⟩

/-- Settles O21: a command that is taken runs its operation whatever its arguments; DESC_RD, MEM_WR and MEM_RD refuse a bad range. -/
theorem opcodesInEveryForm : Obligations.opcodes_in_every_form := by
  unfold Obligations.opcodes_in_every_form
  exact ⟨fun s h x e off cnt hs ht => runs_op (fun y => y.opRegRd h off cnt) rfl hs ht rfl,
    fun s h x e off cnt data hs ht => runs_op (fun y => y.opRegWr h off cnt data) rfl hs ht rfl,
    fun s h x e off value hs ht => runs_op (fun y => y.opRegCork h off value) rfl hs ht rfl,
    fun s h x e bank idx cnt data hs ht => runs_op (fun y => y.opDescWr h bank idx cnt data) rfl hs ht rfl,
    fun s h x e grp hs ht => runs_op (fun y => y.opStrobe grp) rfl hs ht rfl,
    fun s h x e image hs ht => runs_op (fun y => y.opImageLoad h image) rfl hs ht rfl,
    fun s h x e off last piece hs ht => runs_op (fun y => y.opFwStage h off last piece) rfl hs ht rfl,
    fun s h x e idx cnt hs ht => runs_op (fun y => y.opLogRd h idx cnt) rfl hs ht rfl,
    fun s h x e k ang hs ht => runs_op (fun y => y.opPredQ k ang) rfl hs ht rfl,
    fun s h x e sq hs ht => runs_op (fun y => y.opDeleteSq sq) rfl hs ht rfl,
    fun s h x e off len data hs ht => runs_op (fun y => y.opBufPut (h.src - 256) off len data) rfl hs ht rfl,
    fun s h x e mach dem tag hs ht => runs_op _ (show exec (.demand h mach dem true tag) s = _ from rfl) hs ht rfl,
    fun s h x e bank idx cnt hs ht hb => runs_op _ (show exec (.descRd h bank idx cnt) s = _ from rfl) hs ht (if_neg (ne_true_of_eq_false hb)),
    fun s h x e off data hs ht hm => runs_op _ (show exec (.memWr h off data) s = _ from rfl) hs ht (if_neg (ne_true_of_eq_false hm)),
    fun s h x e off hs ht hm => runs_op _ (show exec (.memRd h off) s = _ from rfl) hs ht (if_neg (ne_true_of_eq_false hm)),
    fun s h x e n p addr r hs ht hst => runs_op (fun y => y.opTileRd n p addr) rfl hs ht (Dev.opTileRd_stopped addr hst),
    fun s h x e n p addr data r hs ht hst => runs_op (fun y => y.opTileWr n p addr data) rfl hs ht (Dev.opTileWr_stopped addr data hst)⟩

end Sys2Proof.Machine

/-! PROOFS. The PCIe link, its errors and the streams (R373, R389-R396, R415), and the CAN FD ports (R411, R414). -/

namespace Sys2Proof.Machine

/-! ### Errors of bus users (R393) -/

theorem Dev.incSat_stmOf (d : Dev) (f : Fld) (n : Nat) : (d.incSat f).stmOf n = d.stmOf n := rfl
theorem Dev.aerTimeout_stmOf (d : Dev) (n : Nat) : (d.aerNote 1).stmOf n = d.stmOf n := rfl

theorem Dev.busFail_racking {d : Dev} (code : Nat) (cnt : Fld) (hp : d.pcieOn = true) (hr : d.rst.perst = false) :
    d.busFail code cnt .racking = ((d.incSat cnt).aerNote code).raise 14 code 0 1 := by
  unfold Dev.busFail
  rw [hp, hr]
  rfl

theorem Dev.cplTimeout_stream {d : Dev} (n : Fin 8) (hp : d.pcieOn = true) (hr : d.rst.perst = false) : d.busFail 1 F.HIF_CNT1_CTO (.stream n) =
    ((((d.incSat F.HIF_CNT1_CTO).aerNote 1).raise 14 1 n 1).put (F.STM_STAT_ERR n) 1).setStm n { d.stmOf n with chunk := [] } := by
  unfold Dev.busFail
  rw [hp, hr, ← Dev.incSat_stmOf d F.HIF_CNT1_CTO, ← Dev.aerTimeout_stmOf]
  rfl

/-! ### Streams (R395, R396) -/

theorem Dev.stmFlush_fits {d : Dev} {n : Nat} (hc : (d.stmOf n).chunk ≠ []) (hg : d.pcieGo = true)
    (hfit : (d.stmOf n).chunk.length ≤ (d.stmSize n - (d.stmOf n).flushed) / 4) : d.stmFlush n =
      (((d.emit (.write (d.get64 (R.STM_BASE_LO n) (R.STM_BASE_HI n) + (d.stmOf n).flushed) (d.stmOf n).chunk)).emit
        (.write (d.get64 (R.STM_WPA_LO n) (R.STM_WPA_HI n)) [(d.stmOf n).wp, 0])).setStm n
          { d.stmOf n with flushed := (d.stmOf n).wp, chunk := [] }).msix (d.get (F.STM_CFG_VEC n)) := by
  have he : (d.stmOf n).chunk.isEmpty = false := by simpa using hc
  simp only [Dev.stmFlush, he, hg, Bool.not_true, Bool.or_self, Bool.false_eq_true, if_false, List.take_of_length_le hfit,
    if_neg (Nat.not_lt.2 hfit)]

section
variable {s : State} {n : Fin 8} {req : Fin 10}

theorem runs_streamFlush (hs : s.coreRuns) (he : s.dev.flag (F.STM_CFG_EN n) = true) (hr : s.dev.flag (F.STM_STAT_ERR n) = false)
    (hc : (s.dev.stmOf n).chunk ≠ []) :
    Runs (.streamFlush n) s fun d => (d.until ((d.stmOf n).since + 400 * 2 ^ d.get (F.STM_CFG_FLUSH n))).stmFlush n := by
  refine runs_congr (runs_core _ (show execStreamFlush n s = _ from rfl) hs) (if_pos ?_)
  rw [State.start, he, hr]
  simpa using hc

theorem Dev.hifReach_up {d : Dev} (req : Nat) (f : Dev → Dev) (hu : d.domUp 6 = true) (hp : d.rst.perst = false) : d.hifReach req f = f d := by
  simp [Dev.hifReach, hu, hp]

/-- The configuration a stream holds when it starts. -/
def Dev.stmCfgOn (d : Dev) (n data : Nat) : Dev :=
  (d.put (F.STM_STAT_CFGERR n) 0).wr (R.STM_CFG n)
    (mix ((d.put (F.STM_STAT_CFGERR n) 0).rd (R.STM_CFG n)) (BitVec.ofNat 32 (Nat.lor data (2 ^ 31))) 0xFFFFF3FF)

def Dev.stmStarted (d : Dev) (n data : Nat) : Dev :=
  (((d.stmCfgOn n data).setStm n stm0).put (F.STM_WP_PTR n) 0).put (F.STM_RP_PTR n) 0

theorem bits_or_high {a hi lo k : Nat} (h : hi < k) (hlo : lo ≤ hi) : bits (a ||| 2 ^ k) hi lo = bits a hi lo := by
  refine Nat.eq_of_testBit_eq fun i => ?_
  rw [bits, bits, Nat.testBit_mod_two_pow, Nat.testBit_div_two_pow, Nat.testBit_mod_two_pow, Nat.testBit_div_two_pow, Nat.testBit_or]
  by_cases hi' : i < hi + 1 - lo
  · rw [Nat.testBit_two_pow_of_ne (by omega), Bool.or_false]
  · rw [decide_eq_false hi', Bool.false_and, Bool.false_and]

theorem Dev.stmCfg_starts {d : Dev} {n data : Nat} (he : d.flag (F.STM_CFG_EN n) = false) (hsrc : bits data 30 28 = 0) :
    d.stmCfg n (Nat.lor data (2 ^ 31)) = (d.stmStarted n data).stmMask n := by
  have h31 : bitOf (Nat.lor data (2 ^ 31)) 31 = true := by
    show bitOf (data ||| 2 ^ 31) 31 = true
    rw [bitOf_or]
    simp [bitOf]
  have h0 : bits (Nat.lor data (2 ^ 31)) 30 28 = 0 := (bits_or_high (by decide) (by decide)).trans hsrc
  simp only [Dev.stmCfg, he, h31, h0, Bool.not_false, Bool.and_self, bne_self_eq_false, Bool.and_false, Bool.false_eq_true, if_false, if_true]
  rfl

theorem mix_high (w : Word) (data : Nat) : (mix w (BitVec.ofNat 32 (Nat.lor data (2 ^ 31))) 0xFFFFF3FF).getLsbD 31 = true := by
  have h : (Nat.lor data (2 ^ 31)).testBit 31 = true := by
    show (data ||| 2 ^ 31).testBit 31 = true
    rw [Nat.testBit_or, Nat.testBit_two_pow_self, Bool.or_true]
  rw [mix, BitVec.getLsbD_or, BitVec.getLsbD_and, BitVec.getLsbD_and, BitVec.getLsbD_ofNat, h]
  simp


theorem Dev.flag_bit (d : Dev) {f : Fld} (h : f.lo = f.hi) : d.flag f = (d.rd f.addr).getLsbD f.lo := by
  rw [Dev.flag, Dev.get, fldGet, ← h, Nat.add_sub_cancel_left, Nat.pow_one, ← BitVec.testBit_toNat, Nat.testBit_eq_decide_div_mod_eq]
  rfl

theorem Dev.stmCfgOn_en (d : Dev) (n data : Nat) : (d.stmCfgOn n data).flag (F.STM_CFG_EN n) = true := by
  rw [Dev.flag_bit _ rfl, Dev.stmCfgOn, Dev.rd_wr_same]
  exact mix_high _ _

theorem Dev.stmCfgOn_cfgErr (d : Dev) (n data : Nat) : (d.stmCfgOn n data).flag (F.STM_STAT_CFGERR n) = false := by
  rw [Dev.flag, Dev.stmCfgOn, Dev.get_wr_ne _ _ (by simp), Dev.get_put_same _ _ _ ⟨Nat.le_refl _, show 30 < 32 by decide⟩]
  rfl

theorem Dev.wr_noHifReg (d : Dev) (a : Nat) (w : Word) : (d.wr a w).noHifReg = d.noHifReg := rfl

theorem Dev.stmMask_get (d : Dev) (n : Nat) {f : Fld} (h : f.addr ≠ R.STM_BASE_LO n) : (d.stmMask n).get f = d.get f := Dev.get_wr_ne _ _ h

theorem Dev.stmMask_stmOf (d : Dev) (n : Nat) : (d.stmMask n).stmOf n = d.stmOf n := rfl

theorem Dev.setStm_get (d : Dev) (n : Nat) (x : Stm) (f : Fld) : (d.setStm n x).get f = d.get f := rfl

/-- A started stream keeps the configuration word and its status word. -/
theorem Dev.stmStarted_get (d : Dev) (n data : Nat) {f : Fld} (hb : f.addr ≠ R.STM_BASE_LO n) (hw : f.addr ≠ R.STM_WP n) (hr : f.addr ≠ R.STM_RP n) :
    ((d.stmStarted n data).stmMask n).get f = (d.stmCfgOn n data).get f := by
  rw [Dev.stmMask_get _ _ hb, Dev.stmStarted, Dev.get_put_ne _ _ _ _ hr, Dev.get_put_ne _ _ _ _ hw, Dev.setStm_get]

theorem Dev.stmStarted_pointers (d : Dev) (n data : Nat) :
    ((d.stmStarted n data).stmMask n).get (F.STM_WP_PTR n) = 0 ∧ ((d.stmStarted n data).stmMask n).get (F.STM_RP_PTR n) = 0 := by
  constructor
  · rw [Dev.stmMask_get _ _ (by simp), Dev.stmStarted, Dev.get_put_ne _ _ _ _ (by simp), Dev.get_put_same _ _ _ ⟨Nat.zero_le _, show 25 < 32 by decide⟩,
      Nat.zero_mod]
  · rw [Dev.stmMask_get _ _ (by simp), Dev.stmStarted, Dev.get_put_same _ _ _ ⟨Nat.zero_le _, show 25 < 32 by decide⟩, Nat.zero_mod]

theorem Dev.stmStarted_stmOf (d : Dev) (n data : Nat) : ((d.stmStarted n data).stmMask n).stmOf n = stm0 := by
  rw [Dev.stmMask_stmOf, Dev.stmStarted, Dev.put_stmOf, Dev.put_stmOf, Dev.stmOf_setStm_same]

theorem Dev.stmStarted_rest (d : Dev) (n data : Nat) : ((d.stmStarted n data).stmMask n).noHifReg = d.noHifReg := by
  rw [Dev.stmMask, Dev.wr_noHifReg, Dev.stmStarted, Dev.put_noHifReg, Dev.put_noHifReg, Dev.setStm_noHifReg, Dev.stmCfgOn, Dev.wr_noHifReg,
    Dev.put_noHifReg]

theorem completes_streamEnable {data : Nat} (hs : s.coreRuns) (hu : s.dev.domUp 6 = true) (hp : s.dev.rst.perst = false)
    (he : s.dev.flag (F.STM_CFG_EN n) = false) (hsrc : bits data 30 28 = 0) :
    Completes (.streamEnable req n data) s fun e =>
      e.flag (F.STM_CFG_EN n) = true ∧ e.get (F.STM_WP_PTR n) = 0 ∧ e.get (F.STM_RP_PTR n) = 0 ∧ e.flag (F.STM_STAT_CFGERR n) = false ∧ e.stmOf n = stm0
        ∧ { e with hif := s.dev.hif, reg := s.dev.reg, fltNew := s.dev.fltNew } = s.dev := by
  have hrest := s.dev.stmStarted_rest n data
  obtain ⟨hwp, hrp⟩ := s.dev.stmStarted_pointers n data
  refine completes_runs_eq _ (runs_core _ (show execStreamEnable req n data s = _ from rfl) hs) hs.1
    ((Dev.hifReach_up req _ hu hp).trans (Dev.stmCfg_starts he hsrc)) (Dev.noHifReg_corks hrest) (Dev.noHifReg_fab hrest)
    ⟨?_, hwp, hrp, ?_, s.dev.stmStarted_stmOf n data, Dev.noHifReg_rest hrest⟩
  · rw [Dev.flag, Dev.stmStarted_get _ _ _ (by simp) (by simp) (by simp)]
    exact s.dev.stmCfgOn_en n data
  · rw [Dev.flag, Dev.stmStarted_get _ _ _ (by simp) (by simp) (by simp)]
    exact s.dev.stmCfgOn_cfgErr n data

/-! ### Enable, disable and the link (R373, R379, R389) -/

theorem runs_hifEnable (hs : s.coreRuns) (hu : s.dev.domUp 6 = true) (hp : s.dev.rst.perst = false) : Runs (.hifEnable req) s Dev.hifEnable :=
  runs_congr (runs_core _ (show execHifEnable req s = _ from rfl) hs) (Dev.hifReach_up req _ hu hp)

theorem runs_hifDisable (hs : s.coreRuns) (hu : s.dev.domUp 6 = true) (hp : s.dev.rst.perst = false) : Runs (.hifDisable req) s Dev.hifDisable :=
  runs_congr (runs_core _ (show execHifDisable req s = _ from rfl) hs) (Dev.hifReach_up req _ hu hp)

/-- Enabled and ready. -/
def Dev.hifReady (d : Dev) : Dev := (d.put F.HIF_CTL_EN 1).put F.HIF_STAT_RDY 1

theorem Dev.hifReady_flags (d : Dev) : d.hifReady.flag F.HIF_CTL_EN = true ∧ d.hifReady.flag F.HIF_STAT_RDY = true := by
  constructor
  · rw [Dev.hifReady, Dev.flag, Dev.get_put_ne _ _ _ _ (by decide), Dev.get_put_same _ _ _ (by decide)]
    rfl
  · rw [Dev.hifReady, Dev.flag, Dev.get_put_same _ _ _ (by decide)]
    rfl

/-- The device without the host's rings, the queue manager and the registers. -/
def Dev.noRings (d : Dev) : Dev := { d with hif := hif0, qmg := qmg0, reg := [], fltNew := [] }

/-- Ring 0 of either kind, made on a device. -/
def Dev.withRing0 (d : Dev) (sq : Sq) (cq : Cq) : Dev := (d.addSq 0 sq).setCq 0 cq

theorem Dev.withRing0_flag (d : Dev) (sq : Sq) (cq : Cq) (f : Fld) : (d.withRing0 sq cq).flag f = d.flag f := rfl
theorem Dev.withRing0_noRings (d : Dev) (sq : Sq) (cq : Cq) : (d.withRing0 sq cq).noRings = d.noRings := rfl
theorem Dev.put_noRings (d : Dev) (f : Fld) (v : Nat) : (d.put f v).noRings = d.noRings := rfl

theorem Dev.withRing0_sq (d : Dev) (sq : Sq) (cq : Cq) : (d.withRing0 sq cq).sq? 0 = some sq := Dev.sq?_setSq_same d 0 sq

theorem Dev.withRing0_cq (d : Dev) (sq : Sq) (cq : Cq) : (d.withRing0 sq cq).cq? 0 = some cq := Dev.cq?_setCq_same _ 0 cq

theorem Dev.hifReady_noRings (d : Dev) : d.hifReady.noRings = d.noRings := by rw [Dev.hifReady, Dev.put_noRings, Dev.put_noRings]

theorem Dev.noRings_rest {d e : Dev} (h : e.noRings = d.noRings) :
    { e with hif := d.hif, qmg := d.qmg, reg := d.reg, fltNew := d.fltNew } = d :=
  congrArg (fun x : Dev => { x with hif := d.hif, qmg := d.qmg, reg := d.reg, fltNew := d.fltNew }) h

theorem Dev.noRings_corks {d e : Dev} (h : e.noRings = d.noRings) : e.corks = d.corks :=
  show e.noRings.corks = d.noRings.corks from congrArg Dev.corks h

theorem Dev.noRings_fab {d e : Dev} (h : e.noRings = d.noRings) : e.fab = d.fab :=
  show e.noRings.fab = d.noRings.fab from congrArg Dev.fab h

theorem Dev.hifEnable_off {d : Dev} (h : d.flag F.HIF_CTL_EN = false) : d.hifEnable = d.hifReady.withRing0
    (newSq (d.get64 R.HIF_ASQ_LO R.HIF_ASQ_HI) (max 1 (d.get F.HIF_ASZ_ASQS) + 1) 0 0 0 false 16)
    { newCq (d.get64 R.HIF_ACQ_LO R.HIF_ACQ_HI) (max 1 (d.get F.HIF_ASZ_ACQS) + 1) 0 1 0 with wait := (d.cq? 0).elim [] (fun c => c.wait) } :=
  (if_neg (by rw [h]; exact Bool.false_ne_true))

/-- Disabled, with the rings that are left. -/
def Dev.hifOff (d : Dev) : Dev := (d.put F.HIF_CTL_EN 0).put F.HIF_STAT_RDY 0

theorem Dev.hifOff_flags (d : Dev) : d.hifOff.flag F.HIF_CTL_EN = false ∧ d.hifOff.flag F.HIF_STAT_RDY = false := by
  constructor
  · rw [Dev.hifOff, Dev.flag, Dev.get_put_ne _ _ _ _ (by decide), Dev.get_put_same _ _ _ (by decide)]
    rfl
  · rw [Dev.hifOff, Dev.flag, Dev.get_put_same _ _ _ (by decide)]
    rfl

theorem Dev.hifOff_hif (d : Dev) : d.hifOff.hif = d.hif := by rw [Dev.hifOff, Dev.put_hif, Dev.put_hif]

/-- The completion rings other than 0 are taken away. -/
def Dev.cqsDropped (d : Dev) : Dev := ((smKeys d.hif.cqs).filter (· != 0)).foldl (fun (x : Dev) n => x.cqDrop n) d

/-- The submission rings other than 0 taken away, where none is there. -/
def Dev.sqsGone (d : Dev) : Dev := { d with hif := { d.hif with sqs := [] } }

theorem Dev.sqsGone_none {d : Dev} (h : d.hif.sqs = []) : d.sqsGone = d := by
  rw [Dev.sqsGone, ← h]

theorem Dev.hifDisable_on {d : Dev} (h : d.flag F.HIF_CTL_EN = true) (hq : d.hif.sqs = []) : d.hifDisable = d.cqsDropped.hifOff := by
  have heq : d.hifDisable = d.sqsGone.cqsDropped.hifOff := by
    unfold Dev.hifDisable
    rw [h, hq, Bool.not_true, if_neg Bool.false_ne_true]
    simp only [smKeys, List.map_nil, List.foldl_nil, hq, List.filter_nil]
    rfl
  rw [heq, Dev.sqsGone_none hq]

theorem Dev.cqsDropped_only0 {d : Dev} (h : ∀ p ∈ d.hif.cqs, p.1 = 0) : d.cqsDropped = d := by
  have hnone : (smKeys d.hif.cqs).filter (· != 0) = [] := by
    refine List.filter_eq_nil_iff.2 fun n hn => ?_
    obtain ⟨p, hp, rfl⟩ := List.mem_map.1 hn
    simp [h p hp]
  rw [Dev.cqsDropped, hnone]
  rfl

theorem Dev.cqsDropped_one {d : Dev} {n : Nat} {c : Cq} (h : d.hif.cqs = [(n, c)]) (hn : n ≠ 0) : d.cqsDropped = d.cqDrop n := by
  have hkeys : (smKeys d.hif.cqs).filter (· != 0) = [n] := by
    rw [h]
    simp [smKeys, hn]
  rw [Dev.cqsDropped, hkeys]
  rfl

/-- The only completion ring goes, or it closes while completions wait in it. -/
theorem Dev.cqDrop_only {d : Dev} {n : Nat} {c : Cq} (h : d.hif.cqs = [(n, c)]) :
    (d.cqDrop n).hif = { d.hif with cqs := if c.wait = [] then [] else [(n, { c with closing := true })] }
      ∧ Dev.still { d.cqDrop n with hif := d.hif } = d.still := by
  have hc : d.cq? n = some c := by simp [Dev.cq?, h]
  unfold Dev.cqDrop
  rw [hc]
  by_cases hw : c.wait = []
  · simp only [hw, List.isEmpty_nil, if_true]
    exact ⟨by rw [Dev.causeOff]; simp [h, smDel], rfl⟩
  · have he : c.wait.isEmpty = false := by simpa using hw
    simp only [he, Bool.false_eq_true, if_false, hw]
    exact ⟨by rw [Dev.setCq]; simp [h, smIns], rfl⟩

theorem Dev.put_still_hif (d : Dev) (f : Fld) (v : Nat) (x : Hif) :
    Dev.still { d.put f v with hif := x } = Dev.still { d with hif := x } := rfl

theorem Dev.hifOff_still (d : Dev) (x : Hif) : Dev.still { d.hifOff with hif := x } = Dev.still { d with hif := x } := by
  rw [Dev.hifOff, Dev.put_still_hif, Dev.put_still_hif]

theorem Dev.stillHif_corks {d e : Dev} {x : Hif} (h : Dev.still { e with hif := x } = d.still) : e.corks = d.corks :=
  Dev.still_corks (d := { e with hif := x }) h
theorem Dev.stillHif_fab {d e : Dev} {x : Hif} (h : Dev.still { e with hif := x } = d.still) : e.fab = d.fab :=
  Dev.still_fab (d := { e with hif := x }) h

theorem Dev.put_reg_rest {d e : Dev} (f : Fld) (v : Nat) (h : { e with reg := d.reg } = d) : { e.put f v with reg := d.reg } = d := h

theorem Dev.Reported.forN {n : Nat} {f : Dev → Nat → Dev} (hf : ∀ x i, i < n → Dev.Reported x (f x i)) (d : Dev) : d.Reported (forN n f d) := by
  induction n with
  | zero => exact .refl d
  | succ n ih =>
    rw [forN_succ]
    exact (ih fun x i hi => hf x i (by omega)).trans (hf _ n (by omega))

/-- Messages that waited go out: only message words change. -/
theorem Dev.msixSweep_reported (d : Dev) : d.Reported d.msixSweep := by
  refine .forN (fun x w hw => ?_) d
  split
  · exact .refl x
  · refine .forN (fun y b hb => ?_) x
    split
    · have hbit : y.Reported (y.setBit (0x138000 + 4 * w) b false) :=
        (Dev.Reported.refl y).put _ (reportWord_msix (by show 0x130000 ≤ 0x138000 + 4 * w; omega) (by show 0x138000 + 4 * w < 0x140000; omega))
      exact hbit.trans (Dev.msix_reported _ (by omega))
    · exact .refl y

/-- Link lost, and no word of speed or width. -/
def Dev.linkLost (d : Dev) : Dev := ((d.put F.HIF_STAT_LINKUP 0).put F.HIF_STAT_SPEED 0).put F.HIF_STAT_WIDTH 0

theorem Dev.linkLost_spec (d : Dev) : d.linkLost.flag F.HIF_STAT_LINKUP = false ∧ d.linkLost.get F.HIF_STAT_SPEED = 0 ∧
    d.linkLost.get F.HIF_STAT_WIDTH = 0 ∧ d.linkLost.noRegs = d.noRegs := by
  refine ⟨?_, ?_, ?_, ?_⟩ <;> unfold Dev.linkLost
  · rw [Dev.flag, Dev.get_put_apart _ _ _ _ (by decide) (by decide) (by decide), Dev.get_put_apart _ _ _ _ (by decide) (by decide) (by decide),
      Dev.get_put_same _ _ _ (by decide)]
    rfl
  · rw [Dev.get_put_apart _ _ _ _ (by decide) (by decide) (by decide), Dev.get_put_same _ _ _ (by decide)]
    rfl
  · rw [Dev.get_put_same _ _ _ (by decide)]
    rfl
  · rw [Dev.put_noRegs, Dev.put_noRegs, Dev.put_noRegs]

/-- Link up at a speed and a width. -/
def Dev.linkTrained (d : Dev) (speed width : Nat) : Dev :=
  ((d.put F.HIF_STAT_LINKUP 1).put F.HIF_STAT_SPEED speed).put F.HIF_STAT_WIDTH width

theorem Dev.linkTrained_spec (d : Dev) {speed : Nat} (h : speed < 4) : (d.linkTrained speed 4).flag F.HIF_STAT_LINKUP = true ∧
    (d.linkTrained speed 4).get F.HIF_STAT_SPEED = speed ∧ (d.linkTrained speed 4).get F.HIF_STAT_WIDTH = 4 ∧
    (d.linkTrained speed 4).noRegs = d.noRegs := by
  refine ⟨?_, ?_, ?_, ?_⟩ <;> unfold Dev.linkTrained
  · rw [Dev.flag, Dev.get_put_apart _ _ _ _ (by decide) (by decide) (by decide), Dev.get_put_apart _ _ _ _ (by decide) (by decide) (by decide),
      Dev.get_put_same _ _ _ (by decide)]
    rfl
  · rw [Dev.get_put_apart _ _ _ _ (by decide) (by decide) (by decide), Dev.get_put_same _ _ _ (by decide)]
    exact Nat.mod_eq_of_lt h
  · rw [Dev.get_put_same _ _ _ (by decide)]
    rfl
  · rw [Dev.put_noRegs, Dev.put_noRegs, Dev.put_noRegs]

theorem Dev.noRegs_hif {d e : Dev} (h : e.noRegs = d.noRegs) : e.hif = d.hif :=
  show e.noRegs.hif = d.noRegs.hif from congrArg Dev.hif h

theorem Dev.still_hif {d e : Dev} (h : e.still = d.still) : e.hif = d.hif :=
  show e.still.hif = d.still.hif from congrArg Dev.hif h

theorem Dev.causeOff_get (d : Dev) (b c i : Nat) (f : Fld) : (d.causeOff b c i).get f = d.get f := rfl

theorem runs_linkDown (hs : s.coreRuns) (hp : s.dev.pcieOn = true) (hl : s.dev.flag F.HIF_STAT_LINKUP = true) :
    Runs .linkDown s fun d => d.linkLost.causeOn 14 0 0 2 := by
  refine runs_congr (runs_core _ (show execLinkDown s = _ from rfl) hs) (if_pos ?_)
  rw [State.start, hp, hl]
  rfl

theorem Dev.linkDown_spec (d : Dev) : ∃ e : Dev, d.linkLost.causeOn 14 0 0 2 = e ∧ e.flag F.HIF_STAT_LINKUP = false ∧
    e.get F.HIF_STAT_SPEED = 0 ∧ e.get F.HIF_STAT_WIDTH = 0 ∧ e.hif = d.hif ∧ e.corks = d.corks ∧ e.fab = d.fab := by
  obtain ⟨hup, hspeed, hwidth, hrest⟩ := d.linkLost_spec
  have hget : ∀ f : Fld, f.addr = R.HIF_STAT → (d.linkLost.causeOn 14 0 0 2).get f = d.linkLost.get f := fun f hf => by
    rw [Dev.get, Dev.causeOn_rd _ _ _ _ _ (by rw [hf]; decide +kernel), ← Dev.get]
  have hstill : (d.linkLost.causeOn 14 0 0 2).still = d.linkLost.still := Dev.causeOn_still _ _ _ _ _
  refine ⟨_, rfl, ?_, (hget _ rfl).trans hspeed, (hget _ rfl).trans hwidth, ?_, ?_, ?_⟩
  · rw [Dev.flag, hget _ rfl]
    exact hup
  · exact (Dev.still_hif hstill).trans (Dev.noRegs_hif hrest)
  · exact (Dev.still_corks hstill).trans (Dev.noRegs_corks hrest)
  · exact (Dev.still_fab hstill).trans (Dev.noRegs_fab hrest)

theorem runs_pcieLinkUp {speed : Fin 4} (hs : s.coreRuns) (hd : s.dev.domState 6 = 2) (hp : s.dev.rst.perst = false) (h0 : speed.val ≠ 0) :
    Runs (.pcieLinkUp speed 4) s fun d => ((d.linkTrained speed 4).causeOff 14 0 0).msixSweep :=
  runs_congr (runs_core _ (show execPcieLinkUp speed 4 s = _ from rfl) hs) (if_pos ⟨hd, by rw [State.start, hp]; rfl, h0, .inr (.inr rfl)⟩)

theorem completes_pcieLinkUp {speed : Fin 4} (hs : s.coreRuns) (hd : s.dev.domState 6 = 2) (hp : s.dev.rst.perst = false) (h0 : speed.val ≠ 0) :
    Completes (.pcieLinkUp speed 4) s fun e =>
      e.flag F.HIF_STAT_LINKUP = true ∧ e.get F.HIF_STAT_SPEED = speed ∧ e.get F.HIF_STAT_WIDTH = 4 := by
  obtain ⟨hup, hspeed, hwidth, hrest⟩ := s.dev.linkTrained_spec speed.isLt
  have hrep := ((s.dev.linkTrained speed 4).causeOff 14 0 0).msixSweep_reported
  have hw : reportWord R.HIF_STAT = false := by decide +kernel
  have hget : ∀ f : Fld, f.addr = R.HIF_STAT → (((s.dev.linkTrained speed 4).causeOff 14 0 0).msixSweep).get f = (s.dev.linkTrained speed 4).get f :=
    fun f hf => (hrep.get (by rw [hf]; exact hw)).trans (Dev.causeOff_get _ _ _ _ f)
  refine completes_runs_eq _ (runs_pcieLinkUp hs hd hp h0) hs.1 rfl (hrep.corks.trans ((Dev.causeOff_corks _ _ _ _).trans (Dev.noRegs_corks hrest)))
    (hrep.fab.trans ((Dev.causeOff_fab _ _ _ _).trans (Dev.noRegs_fab hrest))) ⟨?_, (hget _ rfl).trans hspeed, (hget _ rfl).trans hwidth⟩
  exact (congrArg (· == 1) (hget F.HIF_STAT_LINKUP rfl)).trans hup

/-! ### Counters of the host interface -/

def hifCntWord (a : Nat) : Prop := a = R.HIF_CNT0 ∨ a = R.HIF_CNT1 ∨ ∃ n, n < 8 ∧ a = R.STM_STAT n

/-- One stream's count of lost records cleared. -/
def Dev.lostClr (d : Dev) (n : Nat) : Dev := d.put (F.STM_STAT_LOST n) 0

theorem Dev.lostClr_clears (x : Dev) {n : Nat} (hn : n < 8) : x.Clears hifCntWord (x.lostClr n) :=
  (Dev.Clears.refl _ x).put (f := F.STM_STAT_LOST n) (.inr (.inr ⟨n, hn, rfl⟩)) (Nat.zero_le _)

theorem Dev.hifCntClr_clears (d : Dev) : d.Clears hifCntWord d.hifCntClr :=
  (((Dev.Clears.refl _ d).wr (.inl rfl)).wr (.inr (.inl rfl))).trans (.forN (fun x _ hn => x.lostClr_clears hn) _)

theorem Dev.hifCntClr_counts (d : Dev) : d.hifCntClr.rd R.HIF_CNT0 = 0 ∧ d.hifCntClr.rd R.HIF_CNT1 = 0 := by
  have hpass : Dev.Clears hifCntWord ((d.wr R.HIF_CNT0 0).wr R.HIF_CNT1 0) d.hifCntClr := .forN (fun x _ hn => x.lostClr_clears hn) _
  exact ⟨hpass.rd_zero (Dev.rd_wr_zero (Dev.rd_wr_same _ _ _)), hpass.rd_zero (Dev.rd_wr_same _ _ _)⟩

theorem Dev.hifCntClr_lost (d : Dev) {n : Nat} (hn : n < 8) : d.hifCntClr.get (F.STM_STAT_LOST n) = 0 := by
  refine forN_clears (f := Dev.lostClr) (S := hifCntWord) (fun x _ hi => x.lostClr_clears hi) (Z := fun x => x.get (F.STM_STAT_LOST n) = 0)
    (fun x y h hx => h.get_zero hx) hn fun x _ => ?_
  rw [Dev.lostClr, Dev.get_put_same _ _ _ ⟨Nat.zero_le _, show 15 < 32 by decide⟩, Nat.zero_mod]

theorem Dev.hifCntClr_err (d : Dev) (n : Nat) : d.hifCntClr.flag (F.STM_STAT_ERR n) = d.flag (F.STM_STAT_ERR n) := by
  have hpass : ∀ x : Dev, (forN 8 Dev.lostClr x).flag (F.STM_STAT_ERR n) = x.flag (F.STM_STAT_ERR n) := fun x =>
    forN_keeps (fun x => x.flag (F.STM_STAT_ERR n)) (fun x m => Dev.flag_put_apart _ _ _ _ (Nat.zero_le _)
      ⟨Nat.le_refl _, show 31 < 32 by decide⟩ (.inr (show 15 < 31 by decide))) 8 x
  rw [show d.hifCntClr = forN 8 Dev.lostClr ((d.wr R.HIF_CNT0 0).wr R.HIF_CNT1 0) from rfl, hpass, Dev.flag, Dev.get_wr_ne _ _ (show 0x12011c + 0x20 * n ≠ 0x120038 by omega),
    Dev.get_wr_ne _ _ (show 0x12011c + 0x20 * n ≠ 0x120034 by omega), ← Dev.flag]

end

/-- Settles O45: each event of the link, of a bus user and of a stream by the state it meets. -/
theorem hostLinkAndStreams : Obligations.host_link_and_streams := by
  unfold Obligations.host_link_and_streams
  refine ⟨fun s hs hp hr => runs_congr (runs_core _ (show execCplTimeout _ s = _ from rfl) hs) (Dev.busFail_racking _ _ hp hr),
    fun s n hs hp hr => runs_congr (runs_core _ (show execCplTimeout _ s = _ from rfl) hs) (Dev.cplTimeout_stream n hp hr),
    fun s hs hp hr => runs_congr (runs_core _ (show execDmaErr _ s = _ from rfl) hs) (Dev.busFail_racking _ _ hp hr),
    fun s n hs he hr hg hc hfit hpast => runs_congr (runs_streamFlush hs he hr hc) ?_, fun s n hs he hr hc => runs_streamFlush hs he hr hc,
    fun s req n data hs hu hp he hsrc => completes_streamEnable hs hu hp he hsrc, fun s req hs hu hp he => ?_,
    fun s req hs hu hp he hq hcq => ?_, fun s req n c hs hu hp he hq hcq hn => ?_,
    fun s req hs hu hp he => runs_congr (runs_hifDisable hs hu hp) (if_neg (by simp [State.start, he])),
    fun s hs hc => runs_congr (runs_core _ (show execFunctionLevelReset s = _ from rfl) hs) (if_pos hc), fun s hs hp hl => ?_,
    fun s speed hs hd hp h0 => completes_pcieLinkUp hs hd hp h0, fun s req hs hu hp => ?_⟩
  · exact (congrArg (fun x : Dev => x.stmFlush n) (Dev.until_past hpast)).trans (Dev.stmFlush_fits hc hg hfit)
  · obtain ⟨hen, hrdy⟩ := s.dev.hifReady_flags
    have hrest : ∀ sq cq, (s.dev.hifReady.withRing0 sq cq).noRings = s.dev.noRings := fun sq cq =>
      (Dev.withRing0_noRings _ sq cq).trans s.dev.hifReady_noRings
    exact completes_runs_eq _ (runs_hifEnable hs hu hp) hs.1 (Dev.hifEnable_off he) (Dev.noRings_corks (hrest _ _)) (Dev.noRings_fab (hrest _ _))
      ⟨(Dev.withRing0_flag _ _ _ _).trans hen, (Dev.withRing0_flag _ _ _ _).trans hrdy, Dev.withRing0_sq _ _ _, Dev.withRing0_cq _ _ _,
        Dev.noRings_rest (hrest _ _)⟩
  · obtain ⟨hen, hrdy⟩ := s.dev.hifOff_flags
    have hsame : s.dev.hifOff.noRegs = s.dev.noRegs := by rw [Dev.hifOff, Dev.put_noRegs, Dev.put_noRegs]
    exact completes_runs_eq _ (runs_hifDisable hs hu hp) hs.1
      ((Dev.hifDisable_on he hq).trans (congrArg Dev.hifOff (Dev.cqsDropped_only0 hcq))) (Dev.noRegs_corks hsame) (Dev.noRegs_fab hsame)
      ⟨hen, hrdy, s.dev.hifOff_hif, Dev.put_reg_rest _ _ (Dev.put_reg_rest _ _ rfl)⟩
  · obtain ⟨hen, hrdy⟩ := (s.dev.cqDrop n).hifOff_flags
    obtain ⟨hhif, hstill⟩ := Dev.cqDrop_only hcq
    have hoff := ((s.dev.cqDrop n).hifOff_still s.dev.hif).trans hstill
    exact completes_runs_eq _ (runs_hifDisable hs hu hp) hs.1 ((Dev.hifDisable_on he hq).trans (congrArg Dev.hifOff (Dev.cqsDropped_one hcq hn)))
      (Dev.stillHif_corks hoff) (Dev.stillHif_fab hoff)
      ⟨hen, hrdy, by rw [Dev.hifOff_hif, hhif], by rw [Dev.hifOff_hif, hhif]; exact hq, hoff⟩
  · obtain ⟨e, heq, hup, hspeed, hwidth, hhif, hcorks, hfab⟩ := s.dev.linkDown_spec
    exact completes_runs_eq e (runs_linkDown hs hp hl) hs.1 heq hcorks hfab ⟨hup, hspeed, hwidth, hhif⟩
  · obtain ⟨h0, h1⟩ := s.dev.hifCntClr_counts
    exact completes_clears (runs_congr (runs_core _ (show execHifCntClr req s = _ from rfl) hs) (Dev.hifReach_up req _ hu hp)) hs.1
      s.dev.hifCntClr_clears ⟨h0, h1, fun n hn => ⟨s.dev.hifCntClr_lost hn, s.dev.hifCntClr_err n⟩, s.dev.hifCntClr_clears.noRegs⟩

end Sys2Proof.Machine

/-! PROOFS. The CAN FD ports (R410-R414). -/

namespace Sys2Proof.Machine

/-! ### Counters and conditions of a port (R410) -/

/-- k free values drawn. -/
def Dev.drawn (d : Dev) (k : Nat) : Dev := { d with draw := d.draw + k }

theorem Dev.drawn_corks (d : Dev) (k : Nat) : (d.drawn k).corks = d.corks := rfl
theorem Dev.drawn_fab (d : Dev) (k : Nat) : (d.drawn k).fab = d.fab := rfl

/-- The last error and the two error counters of a port written. -/
def Dev.canCounts (d : Dev) (p lec tec rec_ : Nat) : Dev :=
  ((d.put (F.CAN_STAT_LEC p) lec).put (F.CAN_STAT_TEC p) tec).put (F.CAN_STAT_REC p) rec_

theorem Dev.canBad_eq (d : Dev) (p : Nat) (tec rec_ : Nat → Nat) : d.canBad p tec rec_ =
    (d.drawn 3).canCounts p (1 + (Config.freeWord d.draw).toNat % 6) (tec (Config.freeWord (d.draw + 1)).toNat)
      (rec_ (Config.freeWord (d.draw + 2)).toNat) := rfl

theorem Dev.canCounts_spec (d : Dev) (p : Nat) {lec tec rec_ : Nat} (hl : lec < 8) (ht : tec < 256) (hr : rec_ < 256) :
    (d.canCounts p lec tec rec_).get (F.CAN_STAT_LEC p) = lec ∧ (d.canCounts p lec tec rec_).get (F.CAN_STAT_TEC p) = tec ∧
      (d.canCounts p lec tec rec_).get (F.CAN_STAT_REC p) = rec_ := by
  unfold Dev.canCounts
  refine ⟨?_, ?_, ?_⟩
  · rw [Dev.get_put_apart _ _ _ _ (by simp) (by simp) (by simp), Dev.get_put_apart _ _ _ _ (by simp) (by simp) (by simp),
      Dev.get_put_same _ _ _ (by simp)]
    exact Nat.mod_eq_of_lt hl
  · rw [Dev.get_put_apart _ _ _ _ (by simp) (by simp) (by simp), Dev.get_put_same _ _ _ (by simp)]
    exact Nat.mod_eq_of_lt ht
  · rw [Dev.get_put_same _ _ _ (by simp)]
    exact Nat.mod_eq_of_lt hr

theorem Dev.canCounts_noRegs (d : Dev) (p lec tec rec_ : Nat) : (d.canCounts p lec tec rec_).noRegs = d.noRegs := by
  rw [Dev.canCounts, Dev.put_noRegs, Dev.put_noRegs, Dev.put_noRegs]

/-- A flag of the status word written over the counters. -/
theorem Dev.canStat_put (d : Dev) (p v : Nat) {g : Fld} (hle : g.lo ≤ g.hi) (h24 : 24 ≤ g.lo) :
    (d.put g v).get (F.CAN_STAT_LEC p) = d.get (F.CAN_STAT_LEC p) ∧ (d.put g v).get (F.CAN_STAT_TEC p) = d.get (F.CAN_STAT_TEC p) ∧
      (d.put g v).get (F.CAN_STAT_REC p) = d.get (F.CAN_STAT_REC p) :=
  ⟨Dev.get_put_apart _ _ _ _ hle (by simp) (.inl (show 2 < g.lo by omega)),
    Dev.get_put_apart _ _ _ _ hle (by simp) (.inl (show 23 < g.lo by omega)),
    Dev.get_put_apart _ _ _ _ hle (by simp) (.inl (show 15 < g.lo by omega))⟩

theorem reportWord_canStat (port : Fin 2) : reportWord (R.CAN_STAT port) = false := by decide +revert +kernel

theorem Dev.noRegs_memSame {d e : Dev} (h : e.noRegs = d.noRegs) : Dev.memSame d e :=
  show Dev.memSame d.noRegs e.noRegs from h ▸ Dev.memSame_refl _

theorem Dev.drawn_memSame (d : Dev) (k : Nat) : Dev.memSame d (d.drawn k) := ⟨fun _ => rfl, fun _ => rfl, fun _ => rfl⟩

/-- Errors of a port show: counters, the flag g and condition c. -/
def Dev.canRaised (d : Dev) (p lec tec rec_ : Nat) (g : Fld) (c sev : Nat) : Dev :=
  ((d.canCounts p lec tec rec_).put g 1).causeOn 14 c p sev

section
variable {s : State} {port : Fin 2} {d : Dev} {lec tec rec_ : Nat}

theorem Dev.canRaised_get {g : Fld} {c sev : Nat} {f : Fld} (hf : f.addr = R.CAN_STAT port) :
    (d.canRaised port lec tec rec_ g c sev).get f = ((d.canCounts port lec tec rec_).put g 1).get f := by
  rw [Dev.canRaised, Dev.get, Dev.causeOn_rd _ _ _ _ _ (by rw [hf]; exact reportWord_canStat port), ← Dev.get]

theorem Dev.canRaised_counts {g : Fld} {c sev : Nat} (hl : lec < 8) (ht : tec < 256) (hr : rec_ < 256) (hle : g.lo ≤ g.hi) (h24 : 24 ≤ g.lo) :
    (d.canRaised port lec tec rec_ g c sev).get (F.CAN_STAT_LEC port) = lec ∧ (d.canRaised port lec tec rec_ g c sev).get (F.CAN_STAT_TEC port) = tec ∧
      (d.canRaised port lec tec rec_ g c sev).get (F.CAN_STAT_REC port) = rec_ := by
  obtain ⟨cl, ct, cr⟩ := d.canCounts_spec port hl ht hr
  obtain ⟨pl, pt, pr⟩ := (d.canCounts port lec tec rec_).canStat_put port 1 hle h24
  exact ⟨(Dev.canRaised_get rfl).trans (pl.trans cl), (Dev.canRaised_get rfl).trans (pt.trans ct), (Dev.canRaised_get rfl).trans (pr.trans cr)⟩

theorem Dev.canRaised_flag {g : Fld} {c sev : Nat} (hg : g.addr = R.CAN_STAT port) (h : g.lo = g.hi) (h32 : g.hi < 32) :
    (d.canRaised port lec tec rec_ g c sev).flag g = true := by
  have hget := Dev.get_put_same (d.canCounts port lec tec rec_) g 1 ⟨Nat.le_of_eq h, h32⟩
  rw [h, Nat.add_sub_cancel_left] at hget
  rw [Dev.flag, Dev.canRaised_get hg, hget]
  rfl

theorem Dev.canRaised_rest (p : Nat) (g : Fld) (c sev : Nat) : (d.canRaised p lec tec rec_ g c sev).corks = d.corks ∧
    (d.canRaised p lec tec rec_ g c sev).fab = d.fab ∧ Dev.memSame d (d.canRaised p lec tec rec_ g c sev) := by
  have hstill : (d.canRaised p lec tec rec_ g c sev).still = ((d.canCounts p lec tec rec_).put g 1).still := Dev.causeOn_still _ _ _ _ _
  have hregs : ((d.canCounts p lec tec rec_).put g 1).noRegs = d.noRegs := by rw [Dev.put_noRegs, Dev.canCounts_noRegs]
  exact ⟨(Dev.still_corks hstill).trans (Dev.noRegs_corks hregs), (Dev.still_fab hstill).trans (Dev.noRegs_fab hregs),
    Dev.memSame_trans (Dev.noRegs_memSame hregs) (Dev.memSame_of_still hstill)⟩

theorem Dev.canOff_eq (d : Dev) (p : Nat) : d.canOff p =
    (d.drawn 3).canRaised p (1 + (Config.freeWord d.draw).toNat % 6) 255 (d.get (F.CAN_STAT_REC p)) (F.CAN_STAT_BUSOFF p) 6 2 := by
  rw [Dev.canOff, Dev.canBad_eq, Dev.canRaised]

/-- A counter's value once errors show: from 128 on the one that has reached it, free the other. -/
def canRisen (risen : Bool) (w : Word) : Nat := if risen then 128 + w.toNat % 128 else w.toNat % 256

theorem canRisen_lt (b : Bool) (w : Word) : canRisen b w < 256 := by
  cases b <;> simp only [canRisen, Bool.false_eq_true, if_false, if_true] <;> omega

theorem canRisen_high (w : Word) : 128 ≤ canRisen true w := Nat.le_add_right _ _

theorem Dev.canPassive_eq (d : Dev) (p : Nat) : d.canPassive p =
    (d.drawn 4).canRaised p (1 + (Config.freeWord (d.draw + 1)).toNat % 6)
      (canRisen ((Config.freeWord d.draw).getLsbD 0) (Config.freeWord (d.draw + 1 + 1)))
      (canRisen (!(Config.freeWord d.draw).getLsbD 0) (Config.freeWord (d.draw + 1 + 2))) (F.CAN_STAT_ERRPASS p) 7 1 := by
  have hflip : ∀ (b : Bool) (w : Word), (if b then w.toNat % 256 else 128 + w.toNat % 128) = canRisen (!b) w := fun b w => by cases b <;> rfl
  rw [Dev.canRaised, ← hflip, canRisen]
  rfl

theorem runs_canBusoff (hs : s.coreRuns) (he : s.dev.flag (F.CAN_CTL_EN port) = true) (hb : s.dev.flag (F.CAN_STAT_BUSOFF port) = false) :
    Runs (.canBusoff port) s fun d => d.canOff port :=
  runs_congr (runs_core _ (show execCanBusoff port s = _ from rfl) hs) (if_pos (by rw [State.start, he, hb]; rfl))

theorem runs_canErrpass {present : Bool} (hs : s.coreRuns) (he : s.dev.flag (F.CAN_CTL_EN port) = true)
    (hb : s.dev.flag (F.CAN_STAT_ERRPASS port) = !present) :
    Runs (.canErrpass port present) s fun d => if present then d.canPassive port else d.canCalm port :=
  runs_congr (runs_core _ (show execCanErrpass port present s = _ from rfl) hs) (if_neg (by rw [State.start, he, hb]; cases present <;> decide))

theorem runs_canBusoffRecovery (hs : s.coreRuns) (hb : s.dev.flag (F.CAN_STAT_BUSOFF port) = true) :
    Runs (.canBusoffRecovery port) s fun d => d.canBack port :=
  runs_congr (runs_core _ (show execCanBusoffRecovery port s = _ from rfl) hs) (if_pos hb)

theorem runs_canCommandFrame {fmt : CanFmt} {xtd : Bool} {id : Nat} {entry : List Nat} (hs : s.coreRuns)
    (he : s.dev.flag (F.CAN_CTL_EN port) = true) (hb : s.dev.flag (F.CAN_STAT_BUSOFF port) = false) :
    Runs (.canCommandFrame port fmt xtd id entry) s fun d =>
      if decide (fmt = .remote) || !(d.canGood port true).canMine port xtd id then d.canGood port true
      else (d.canGood port true).canTake port (decide (fmt = .fd)) entry :=
  runs_congr (runs_core _ (show execCanCommandFrame port fmt xtd id entry s = _ from rfl) hs) (if_neg (by rw [State.start, he, hb]; decide))

theorem Dev.canTake_classic (x : Dev) (p : Nat) (entry : List Nat) : x.canTake p (decide (CanFmt.classic = CanFmt.fd)) entry = x.incSat (F.CAN_CNT_REJ p) := by
  rw [show decide (CanFmt.classic = CanFmt.fd) = false from rfl, Dev.canTake, Bool.not_false, Bool.true_or, Bool.true_or, if_pos rfl]

theorem Dev.canTake_pushed {x d1 : Dev} {p k : Nat} {entry : List Nat} (hl : entry.length = 16) (hq : (x.qmg.queue (256 + p)).length < 16)
    (hc : x.caskIn (1 + p) (256 + p) (entry16 entry) = some (d1, k)) :
    x.canTake p true entry = (d1.incSat (F.CAN_CNT_CMD p)).entIn (256 + p) (d1.canOf p).cmd (entry16 entry) (some k) 0 := by
  unfold Dev.canTake
  rw [if_neg (by simp [hl]; omega), hc]

theorem completes_canBusoff (hs : s.coreRuns) (he : s.dev.flag (F.CAN_CTL_EN port) = true) (hb : s.dev.flag (F.CAN_STAT_BUSOFF port) = false) :
    Completes (.canBusoff port) s fun e =>
      e.flag (F.CAN_STAT_BUSOFF port) = true ∧ e.get (F.CAN_STAT_TEC port) = 255 ∧ e.get (F.CAN_STAT_REC port) = s.dev.get (F.CAN_STAT_REC port)
        ∧ 1 ≤ e.get (F.CAN_STAT_LEC port) ∧ e.get (F.CAN_STAT_LEC port) ≤ 6 ∧ e.hasCause 14 6 port = true ∧ Dev.memSame s.dev e := by
  have hlec : (Config.freeWord s.dev.draw).toNat % 6 < 6 := Nat.mod_lt _ (by decide)
  obtain ⟨hl, ht, hr⟩ := Dev.canRaised_counts (d := s.dev.drawn 3) (port := port) (lec := 1 + (Config.freeWord s.dev.draw).toNat % 6) (tec := 255)
    (rec_ := s.dev.get (F.CAN_STAT_REC port)) (g := F.CAN_STAT_BUSOFF port) (c := 6) (sev := 2) (by omega) (by decide)
    (s.dev.get_lt (F.CAN_STAT_REC port)) (Nat.le_refl _) (show 24 ≤ 31 by decide)
  obtain ⟨hcorks, hfab, hmem⟩ := Dev.canRaised_rest (d := s.dev.drawn 3) (lec := 1 + (Config.freeWord s.dev.draw).toNat % 6) (tec := 255)
    (rec_ := s.dev.get (F.CAN_STAT_REC port)) port (F.CAN_STAT_BUSOFF port) 6 2
  exact completes_runs_eq _ (runs_canBusoff hs he hb) hs.1 (Dev.canOff_eq _ _) hcorks hfab
    ⟨Dev.canRaised_flag rfl rfl (show 31 < 32 by decide), ht, hr, hl.symm ▸ Nat.le_add_right 1 _, hl.symm ▸ (by omega), Dev.causeOn_hasCause _ _ _ _ _,
      Dev.memSame_trans (Dev.drawn_memSame _ 3) hmem⟩

/-- One counter has reached 128, whichever it is. -/
theorem Dev.canPassive_spec (d : Dev) (p : Nat) : ∃ lec tec rec_, d.canPassive p =
    (d.drawn 4).canRaised p lec tec rec_ (F.CAN_STAT_ERRPASS p) 7 1 ∧ lec < 8 ∧ tec < 256 ∧ rec_ < 256 ∧ (128 ≤ tec ∨ 128 ≤ rec_) := by
  have hlec : (Config.freeWord (d.draw + 1)).toNat % 6 < 6 := Nat.mod_lt _ (by decide)
  refine ⟨_, _, _, d.canPassive_eq p, by omega, canRisen_lt _ _, canRisen_lt _ _, ?_⟩
  cases (Config.freeWord d.draw).getLsbD 0 with
  | true => exact .inl (canRisen_high _)
  | false => exact .inr (canRisen_high _)

theorem completes_canPassive (hs : s.coreRuns) (he : s.dev.flag (F.CAN_CTL_EN port) = true) (hb : s.dev.flag (F.CAN_STAT_ERRPASS port) = false) :
    Completes (.canErrpass port true) s fun e =>
      e.flag (F.CAN_STAT_ERRPASS port) = true ∧ (128 ≤ e.get (F.CAN_STAT_TEC port) ∨ 128 ≤ e.get (F.CAN_STAT_REC port)) ∧ e.hasCause 14 7 port = true
        ∧ Dev.memSame s.dev e := by
  obtain ⟨lec, tec, rec_, heq, hlec, htec, hrec, h128⟩ := s.dev.canPassive_spec port
  obtain ⟨_, ht, hr⟩ := Dev.canRaised_counts (d := s.dev.drawn 4) (port := port) (g := F.CAN_STAT_ERRPASS port) (c := 7) (sev := 1) hlec htec hrec
    (Nat.le_refl _) (show 24 ≤ 30 by decide)
  obtain ⟨hcorks, hfab, hmem⟩ := Dev.canRaised_rest (d := s.dev.drawn 4) (lec := lec) (tec := tec) (rec_ := rec_) port (F.CAN_STAT_ERRPASS port) 7 1
  have hflag : ((s.dev.drawn 4).canRaised port lec tec rec_ (F.CAN_STAT_ERRPASS port) 7 1).flag (F.CAN_STAT_ERRPASS port) = true :=
    Dev.canRaised_flag rfl rfl (show 30 < 32 by decide)
  have hcause : ((s.dev.drawn 4).canRaised port lec tec rec_ (F.CAN_STAT_ERRPASS port) 7 1).hasCause 14 7 port = true := Dev.causeOn_hasCause _ _ _ _ _
  rw [← heq] at ht hr hcorks hfab hmem hflag hcause
  exact completes_runs_eq (s.dev.canPassive port) (runs_canErrpass hs he hb) hs.1 (if_pos rfl) (hcorks.trans (Dev.drawn_corks _ 4))
    (hfab.trans (Dev.drawn_fab _ 4)) ⟨hflag, by rw [ht, hr]; exact h128, hcause, Dev.memSame_trans (Dev.drawn_memSame _ 4) hmem⟩

/-! ### Calm again, and back on the bus (R414) -/

/-- Both counters written and the flag of error passive cleared, its condition ended. -/
def Dev.canCalmed (d : Dev) (p tec rec_ : Nat) : Dev :=
  (((d.put (F.CAN_STAT_TEC p) tec).put (F.CAN_STAT_REC p) rec_).put (F.CAN_STAT_ERRPASS p) 0).causeOff 14 7 p

theorem Dev.canCalm_eq (d : Dev) (p : Nat) : d.canCalm p =
    (d.drawn 2).canCalmed p ((Config.freeWord d.draw).toNat % 128) ((Config.freeWord (d.draw + 1)).toNat % 128) := rfl

theorem Dev.put_still_draw (d : Dev) (f : Fld) (v k : Nat) : ({ (d.put f v).still with draw := k } : Dev) = { d.still with draw := k } := rfl
theorem Dev.causeOff_still_draw (d : Dev) (b c i k : Nat) : ({ (d.causeOff b c i).still with draw := k } : Dev) = { d.still with draw := k } := rfl
theorem Dev.drawn_still_draw (d : Dev) (k : Nat) : ({ (d.drawn k).still with draw := d.draw } : Dev) = d.still := rfl

theorem Dev.canCalmed_spec (d : Dev) (p : Nat) {tec rec_ : Nat} (ht : tec < 128) (hr : rec_ < 128) :
    (d.canCalmed p tec rec_).flag (F.CAN_STAT_ERRPASS p) = false ∧ (d.canCalmed p tec rec_).get (F.CAN_STAT_TEC p) < 128 ∧
      (d.canCalmed p tec rec_).get (F.CAN_STAT_REC p) < 128 := by
  unfold Dev.canCalmed
  refine ⟨?_, ?_, ?_⟩
  · rw [Dev.flag, Dev.causeOff_get, Dev.get_put_same _ _ _ (by simp)]
    rfl
  · rw [Dev.causeOff_get, Dev.get_put_apart _ _ _ _ (by simp) (by simp) (by simp), Dev.get_put_apart _ _ _ _ (by simp) (by simp) (by simp),
      Dev.get_put_same _ _ _ (by simp)]
    exact Nat.lt_of_le_of_lt (Nat.mod_le _ _) ht
  · rw [Dev.causeOff_get, Dev.get_put_apart _ _ _ _ (by simp) (by simp) (by simp), Dev.get_put_same _ _ _ (by simp)]
    exact Nat.lt_of_le_of_lt (Nat.mod_le _ _) hr

theorem Dev.canCalmed_still (d : Dev) (p tec rec_ k : Nat) :
    ({ (d.canCalmed p tec rec_).still with draw := k } : Dev) = { d.still with draw := k } := by
  rw [Dev.canCalmed, Dev.causeOff_still_draw, Dev.put_still_draw, Dev.put_still_draw, Dev.put_still_draw]

theorem Dev.canCalmed_corks (d : Dev) (p tec rec_ : Nat) : (d.canCalmed p tec rec_).corks = d.corks := by
  rw [Dev.canCalmed, Dev.causeOff_corks, Dev.put_corks, Dev.put_corks, Dev.put_corks]

theorem Dev.canCalmed_fab (d : Dev) (p tec rec_ : Nat) : (d.canCalmed p tec rec_).fab = d.fab := by
  rw [Dev.canCalmed, Dev.causeOff_fab, Dev.put_fab, Dev.put_fab, Dev.put_fab]

theorem completes_canCalm (hs : s.coreRuns) (he : s.dev.flag (F.CAN_CTL_EN port) = true) (hb : s.dev.flag (F.CAN_STAT_ERRPASS port) = true) :
    Completes (.canErrpass port false) s fun e =>
      e.flag (F.CAN_STAT_ERRPASS port) = false ∧ e.get (F.CAN_STAT_TEC port) < 128 ∧ e.get (F.CAN_STAT_REC port) < 128 ∧ e.hasCause 14 7 port = false
        ∧ { e.still with draw := s.dev.draw } = s.dev.still := by
  obtain ⟨hp, ht, hr⟩ := (s.dev.drawn 2).canCalmed_spec port (tec := (Config.freeWord s.dev.draw).toNat % 128)
    (rec_ := (Config.freeWord (s.dev.draw + 1)).toNat % 128) (Nat.mod_lt _ (by decide)) (Nat.mod_lt _ (by decide))
  exact completes_runs_eq _ (runs_canErrpass hs he hb) hs.1 (s.dev.canCalm_eq port) (Dev.canCalmed_corks _ _ _ _) (Dev.canCalmed_fab _ _ _ _)
    ⟨hp, ht, hr, Dev.causeOff_hasCause _ _ _ _, (Dev.canCalmed_still _ _ _ _ _).trans (s.dev.drawn_still_draw 2)⟩

/-- The status word of a port back on the bus. -/
def Dev.canStatBack (d : Dev) (p : Nat) : Dev :=
  (((d.put (F.CAN_STAT_BUSOFF p) 0).put (F.CAN_STAT_ERRPASS p) 0).put (F.CAN_STAT_TEC p) 0).put (F.CAN_STAT_REC p) 0

theorem Dev.canStatBack_spec (d : Dev) (p : Nat) : (d.canStatBack p).flag (F.CAN_STAT_BUSOFF p) = false ∧
    (d.canStatBack p).flag (F.CAN_STAT_ERRPASS p) = false ∧ (d.canStatBack p).get (F.CAN_STAT_TEC p) = 0 ∧
    (d.canStatBack p).get (F.CAN_STAT_REC p) = 0 := by
  refine ⟨?_, ?_, ?_, ?_⟩ <;> unfold Dev.canStatBack
  · rw [Dev.flag, Dev.get_put_apart _ _ _ _ (by simp) (by simp) (by simp), Dev.get_put_apart _ _ _ _ (by simp) (by simp) (by simp),
      Dev.get_put_apart _ _ _ _ (by simp) (by simp) (by simp), Dev.get_put_same _ _ _ (by simp)]
    rfl
  · rw [Dev.flag, Dev.get_put_apart _ _ _ _ (by simp) (by simp) (by simp), Dev.get_put_apart _ _ _ _ (by simp) (by simp) (by simp),
      Dev.get_put_same _ _ _ (by simp)]
    rfl
  · rw [Dev.get_put_apart _ _ _ _ (by simp) (by simp) (by simp), Dev.get_put_same _ _ _ (by simp), Nat.zero_mod]
  · rw [Dev.get_put_same _ _ _ (by simp), Nat.zero_mod]

theorem Dev.canStatBack_onlyRegs (d : Dev) (p : Nat) : Dev.onlyRegs d (d.canStatBack p) [R.CAN_STAT p] :=
  by
  have hput : ∀ (x : Dev) (f : Fld), f.addr = R.CAN_STAT p → Dev.onlyRegs x (x.put f 0) [R.CAN_STAT p] := fun x f hf =>
    x.put_onlyRegs_of_mem f 0 (by rw [hf]; exact List.mem_singleton_self _)
  unfold Dev.canStatBack
  exact (((hput d _ rfl).trans (hput _ _ rfl)).trans (hput _ _ rfl)).trans (hput _ _ rfl)

/-- Sending what waits, where nothing waits: only the queue of the port may be written again, empty as it was. -/
theorem Dev.canFlush_none {d : Dev} {p : Nat} (h : (d.canOf p).tx = []) : ∃ e : Dev, d.canFlush p = e ∧ e.reg = d.reg ∧ e.causes = d.causes ∧
    e.corks = d.corks ∧ e.fab = d.fab := by
  unfold Dev.canFlush
  split
  · simp only [h, List.foldl_nil]
    exact ⟨_, rfl, rfl, rfl, rfl, rfl⟩
  · exact ⟨d, rfl, rfl, rfl, rfl, rfl⟩

theorem Dev.put_canOf (d : Dev) (f : Fld) (v p : Nat) : (d.put f v).canOf p = d.canOf p := rfl
theorem Dev.causeOff_canOf (d : Dev) (b c i p : Nat) : (d.causeOff b c i).canOf p = d.canOf p := rfl

theorem Dev.canStatBack_canOf (d : Dev) (p q : Nat) : (d.canStatBack p).canOf q = d.canOf q := by
  rw [Dev.canStatBack, Dev.put_canOf, Dev.put_canOf, Dev.put_canOf, Dev.put_canOf]

theorem Dev.causeOff_hasCause_keeps {d : Dev} {b c i : Nat} (b' c' i' : Nat) (h : d.hasCause b c i = false) : (d.causeOff b' c' i').hasCause b c i = false := by
  rw [Dev.hasCause, List.any_eq_false] at h ⊢
  exact fun x hx => h x (List.mem_of_mem_filter hx)

theorem Dev.hasCause_congr {d e : Dev} (h : e.causes = d.causes) (b c i : Nat) : e.hasCause b c i = d.hasCause b c i := by
  rw [Dev.hasCause, h, Dev.hasCause]

theorem completes_canBack (hs : s.coreRuns) (hb : s.dev.flag (F.CAN_STAT_BUSOFF port) = true) (htx : (s.dev.canOf port).tx = []) :
    Completes (.canBusoffRecovery port) s fun e =>
      e.flag (F.CAN_STAT_BUSOFF port) = false ∧ e.flag (F.CAN_STAT_ERRPASS port) = false ∧ e.get (F.CAN_STAT_TEC port) = 0 ∧ e.get (F.CAN_STAT_REC port) = 0
        ∧ e.hasCause 14 6 port = false ∧ e.hasCause 14 7 port = false ∧ (∀ a, a ≠ R.CAN_STAT port → e.rd a = s.dev.rd a) := by
  obtain ⟨hoff, hpass, ht, hr⟩ := s.dev.canStatBack_spec port
  have honly := s.dev.canStatBack_onlyRegs port
  obtain ⟨e, heq, hreg, hcauses, hcorks, hfab⟩ := Dev.canFlush_none (d := ((s.dev.canStatBack port).causeOff 14 6 port).causeOff 14 7 port) (p := port)
    (by rw [Dev.causeOff_canOf, Dev.causeOff_canOf, Dev.canStatBack_canOf]; exact htx)
  rw [Dev.causeOff_reg, Dev.causeOff_reg] at hreg
  have hget : ∀ f, e.get f = (s.dev.canStatBack port).get f := fun f => Dev.get_congr hreg f
  refine completes_runs_eq e (runs_canBusoffRecovery hs hb) hs.1 heq ?_ ?_ ⟨?_, ?_, (hget _).trans ht, (hget _).trans hr, ?_, ?_, fun a ha => ?_⟩
  · rw [hcorks, Dev.causeOff_corks, Dev.causeOff_corks, honly.corks]
  · rw [hfab, Dev.causeOff_fab, Dev.causeOff_fab, honly.fab]
  · rw [Dev.flag_congr hreg]; exact hoff
  · rw [Dev.flag_congr hreg]; exact hpass
  · rw [Dev.hasCause_congr hcauses]
    exact Dev.causeOff_hasCause_keeps _ _ _ (Dev.causeOff_hasCause _ _ _ _)
  · rw [Dev.hasCause_congr hcauses, Dev.causeOff_hasCause]
  · rw [Dev.rd_congr hreg]
    exact honly.2 a (by simpa using ha)

end

/-- Settles O46: each event of a port by its operation, with what it draws of free values apart. -/
theorem canPorts : Obligations.can_ports := by
  unfold Obligations.can_ports
  refine ⟨fun s port xtd id entry hs he hb hm => runs_congr (runs_canCommandFrame hs he hb) ?_,
    fun s port xtd id entry hs he hb => runs_congr (runs_canCommandFrame hs he hb) rfl,
    fun s port xtd id entry x d1 k hs he hb hx hm hl hq hc => runs_congr (runs_canCommandFrame hs he hb) ?_,
    fun s port hs he hb => completes_canBusoff hs he hb, fun s port hs hb htx => completes_canBack hs hb htx,
    fun s port hs he hb => completes_canCalm hs he hb, fun s port hs he hb => completes_canPassive hs he hb,
    fun s req port hs => completes_runs_eq (s.dev.wr (R.CAN_CNT port) 0) (runs_core (fun d => d.wr (R.CAN_CNT port) 0) rfl hs) hs.1 rfl rfl rfl
      ⟨Dev.rd_wr_same _ _ _, s.dev.wr_onlyRegs _ _⟩⟩
  · exact (if_neg (by rw [hm]; decide)).trans (Dev.canTake_classic _ _ _)
  · rw [hx]
    exact (if_neg (by rw [hm]; decide)).trans (Dev.canTake_pushed hl hq hc)

end Sys2Proof.Machine

/-! PROOFS. Casks and queues of the queue manager (R399-R407). -/

namespace Sys2Proof.Machine

section
variable {d : Dev} {req : Nat}

theorem Qmg.alloc_lowest {q : Qmg} {o : Nat} (hf : q.free ≠ 0) (hl : q.limit o = none) : q.alloc o = (q.putCask q.lowest ⟨false, o⟩, .ok, q.lowest) := by
  simp [Qmg.alloc, hf, hl]

theorem Qmg.release_held {q : Qmg} {o c : Nat} (h : q.holds o c = .ok) : q.release o c = (q.freeCask c, .ok) := by
  simp [Qmg.release, h]

theorem Qmg.push_held {q : Qmg} {o n c : Nat} (h : q.holds o c = .ok) (he : qEn (q.qcfgOf n) = true) (hd : qDepth (q.qcfgOf n) = 0) :
    q.push o n c = ((q.putCask c ⟨true, qCons (q.qcfgOf n)⟩).setQueue n (q.queue n ++ [c]), .ok) := by
  simp [Qmg.push, h, he, hd]

theorem Dev.qmgAlloc_lowest (hg : d.qGranted req = true) (hf : d.qmg.free ≠ 0) (hl : d.qmg.limit (d.qOwner req) = none) : d.qmgAlloc req =
    ((d.upQmg fun _ => d.qmg.putCask d.qmg.lowest ⟨false, d.qOwner req⟩).poolCheck.qRes req 1 .ok d.qmg.lowest).ret req (qmgWord 1 .ok d.qmg.lowest) := by
  simp only [Dev.qmgAlloc, hg, if_true, Qmg.alloc_lowest hf hl]

theorem Dev.qmgAlloc_ungranted (hg : d.qGranted req = false) : d.qmgAlloc req =
    ((d.upQmg fun _ => d.qmg).poolCheck.qRes req 1 .badOwn 0).ret req (qmgWord 1 .badOwn 0) := by
  simp only [Dev.qmgAlloc, hg, Bool.false_eq_true, if_false]

theorem Dev.qmgAlloc_exhausted (hg : d.qGranted req = true) (hf : d.qmg.free = 0) : d.qmgAlloc req =
    ((d.upQmg fun _ => d.qmg).poolCheck.qRes req 1 .exhausted 0).ret req (qmgWord 1 .exhausted 0) := by
  simp only [Dev.qmgAlloc, hg, if_true, Qmg.alloc, hf]

/-- A write of a register of the queue manager leaves its casks and who owns what. -/
theorem Dev.wr_qGranted (d : Dev) (a : Nat) (w : Word) (req : Nat) : (d.wr a w).qGranted req = d.qGranted req := rfl
theorem Dev.wr_qOwner (d : Dev) (a : Nat) (w : Word) (req : Nat) : (d.wr a w).qOwner req = d.qOwner req := rfl

theorem Dev.qmgFree_held {cask : Nat} (hg : d.qGranted req = true) (hh : d.qmg.holds (d.qOwner req) (cask % caskTotal) = .ok) : d.qmgFree req cask =
    ((d.wr R.QMG_FREE (BitVec.ofNat 32 (cask % 2 ^ 16))).upQmg fun _ => d.qmg.freeCask (cask % caskTotal)).poolCheck.qRes req 2 .ok (cask % caskTotal) := by
  simp only [Dev.qmgFree, Dev.wr_qGranted, Dev.wr_qOwner, Dev.wr_qmg, hg, if_true, Qmg.release_held hh, reduceCtorEq, or_self, if_false]

theorem Dev.qmgPush_held {queue cask : Nat} (hg : d.qGranted req = true) (hh : d.qmg.holds (d.qOwner req) (cask % caskTotal) = .ok)
    (he : qEn (d.qmg.qcfgOf (queue % 2 ^ 15)) = true) (hd : qDepth (d.qmg.qcfgOf (queue % 2 ^ 15)) = 0) : d.qmgPush req queue cask =
    (((d.wr R.QMG_PUSH (BitVec.ofNat 32 (queue % 2 ^ 15 * 2 ^ 16 + cask % 2 ^ 16))).upQmg fun _ =>
      (d.qmg.putCask (cask % caskTotal) ⟨true, qCons (d.qmg.qcfgOf (queue % 2 ^ 15))⟩).setQueue (queue % 2 ^ 15)
        (d.qmg.queue (queue % 2 ^ 15) ++ [cask % caskTotal])).noteQ (queue % 2 ^ 15)).qRes req 3 .ok (cask % caskTotal) := by
  simp only [Dev.qmgPush, Dev.wr_qGranted, Dev.wr_qOwner, Dev.wr_qmg, hg, if_true, Qmg.push_held hh he hd]

theorem Dev.qmgOwnsel_granted {sel : Nat} (h : d.qmg.granted (sel % 256) req = true) :
    d.qmgOwnsel req sel = d.setOwn req R.QMG_OWNSEL (BitVec.ofNat 32 (sel % 2 ^ 16)) := if_pos h

theorem Dev.qmgOwnsel_refused {sel : Nat} (h : d.qmg.granted (sel % 256) req = false) : d.qmgOwnsel req sel = d.incSat F.QMG_CNT_OWNREF :=
  if_neg (by rw [h]; exact Bool.false_ne_true)

theorem Dev.qOwner_ownsel (d : Dev) (req sel : Nat) : (d.setOwn req R.QMG_OWNSEL (BitVec.ofNat 32 (sel % 2 ^ 16))).qOwner req = sel % 256 := by
  rw [Dev.qOwner, Dev.own_setOwn_same, BitVec.toNat_ofNat]
  omega

theorem Dev.setOwn_rest (d : Dev) (req a : Nat) (w : Word) : { d.setOwn req a w with preq := d.preq, fltNew := d.fltNew } = d := rfl

theorem Dev.qmgQcfg_empty {data : Nat} (hn : 512 ≤ (d.own req R.QMG_QSEL).toNat % 2 ^ 15)
    (hq : d.qmg.queue ((d.own req R.QMG_QSEL).toNat % 2 ^ 15) = []) : d.qmgQcfg req data =
    ((d.upQmg fun q => q.setQcfg ((d.own req R.QMG_QSEL).toNat % 2 ^ 15) (BitVec.ofNat 32 (data % 2 ^ 32) &&& 0xFFDFFFFF#32)).noteLine
      (qLine (d.qmg.qcfgOf ((d.own req R.QMG_QSEL).toNat % 2 ^ 15)))).noteLine (qLine (BitVec.ofNat 32 (data % 2 ^ 32) &&& 0xFFDFFFFF#32)) := by
  have hlow : ¬((d.own req R.QMG_QSEL).toNat % 2 ^ 15 < 512 ∧ req ≠ 7) := fun h => absurd h.1 (Nat.not_lt.2 hn)
  simp only [Dev.qmgQcfg, if_neg hlow, hq, List.isEmpty_nil, Bool.not_true, Bool.false_and, Bool.false_eq_true, if_false]

theorem Dev.noteLine_qmg (d : Dev) (n : Nat) : (d.noteLine n).qmg = d.qmg := Dev.still_qmg (d.noteLine_still n)
theorem Dev.noteLine_corks (d : Dev) (n : Nat) : (d.noteLine n).corks = d.corks := Dev.still_corks (d.noteLine_still n)
theorem Dev.noteLine_fab (d : Dev) (n : Nat) : (d.noteLine n).fab = d.fab := Dev.still_fab (d.noteLine_still n)

theorem Dev.qRes_get (d : Dev) (req op : Nat) (c : QCode) (k : Nat) (f : Fld) : (d.qRes req op c k).get f = d.get f :=
  Dev.get_congr (Dev.setOwn_reg _ _ _ _) f
theorem Dev.upQmg_get (d : Dev) (g : Qmg → Qmg) (f : Fld) : (d.upQmg g).get f = d.get f := rfl

theorem Dev.poolCheck_get (d : Dev) {f : Fld} (hf : reportWord f.addr = false) : d.poolCheck.get f = d.get f := by
  rw [Dev.poolCheck, Dev.cause_get _ _ _ _ _ _ hf, Dev.cause_get _ _ _ _ _ _ hf]

/-- An owner's casks are free after RECLAIM, and only these. -/
theorem Qmg.reclaim_casks (q : Qmg) (o : Nat) : (∀ p ∈ (q.reclaim o).casks, p.2.queued = true ∨ p.2.tag ≠ o) ∧
    ∀ p ∈ q.casks, p.2.queued = true ∨ p.2.tag ≠ o → p ∈ (q.reclaim o).casks := by
  constructor
  · intro p hp
    simpa using (List.mem_filter.1 hp).2
  · intro p hp h
    exact List.mem_filter.2 ⟨hp, by simpa using h⟩

end

/-- Settles O47: each operation by what the queue manager makes of the cask or the queue it names. -/
theorem queueManager : Obligations.queue_manager := by
  unfold Obligations.queue_manager
  refine ⟨fun s req hs hg hf hl => ?_, fun s req hs hg => ?_, fun s req hs hg hf => ?_, fun s req cask hs hg hh => ?_,
    fun s req queue cask hs hg hh he hd => ?_, fun s req c r hs hg hcons hq => ?_, fun s req owner hs hg => ?_, fun s req owner hs hg => ?_,
    fun s req w data c hs hw => ?_, fun s req w data c hs hw => ?_, fun s req w data hs hw => ?_, fun s req data hs hn hq => ?_,
    fun s req owner hs hlow hgrant => ?_, fun s req hs => ?_⟩
  · exact completes_run_eq (fun d => d.qmgAlloc req) rfl hs (Dev.qmgAlloc_lowest hg hf hl) (by simp) (by simp)
      ⟨by simp [Dev.upQmg], Dev.qRes_own _ _ _ _ _, Dev.ret_busData _ _ _⟩
  · exact completes_run_eq (fun d => d.qmgAlloc req) rfl hs (Dev.qmgAlloc_ungranted hg) (by simp) (by simp)
      ⟨by simp [Dev.upQmg], (Dev.ret_own _ _ _ _ _).trans (Dev.qRes_own _ _ _ _ _)⟩
  · exact completes_run_eq (fun d => d.qmgAlloc req) rfl hs (Dev.qmgAlloc_exhausted hg hf) (by simp) (by simp)
      ⟨by simp [Dev.upQmg], (Dev.ret_own _ _ _ _ _).trans (Dev.qRes_own _ _ _ _ _)⟩
  · exact completes_run_eq (fun d => d.qmgFree req cask) rfl hs (Dev.qmgFree_held hg hh) (by simp) (by simp)
      ⟨by simp [Dev.upQmg], Dev.qRes_own _ _ _ _ _⟩
  · exact completes_run_eq (fun d => d.qmgPush req queue cask) rfl hs (Dev.qmgPush_held hg hh he hd) (by simp) (by simp)
      ⟨by simp [Dev.upQmg], Dev.qRes_own _ _ _ _ _⟩
  · exact completes_run_eq (fun d => d.qmgPop req) rfl hs (Dev.qmgPop_cons hg hcons hq) (by simp) (by simp)
      ⟨by simp [Dev.upQmg], Dev.qRes_own _ _ _ _ _, Dev.ret_busData _ _ _⟩
  · exact completes_run_eq (fun d => d.qmgOwnsel req owner) rfl hs (Dev.qmgOwnsel_granted hg) rfl rfl
      ⟨Dev.qOwner_ownsel _ _ _, Dev.setOwn_rest _ _ _ _⟩
  · exact completes_run_eq (fun d => d.qmgOwnsel req owner) rfl hs (Dev.qmgOwnsel_refused hg) (Dev.incSat_corks _ _) (Dev.incSat_fab _ _)
      ⟨rfl, Dev.incSat_onlyRegs _ _⟩
  · refine completes_qmgCwinAccess hs (Dev.qmgCwin_write w data hw) (by simp) (by simp) ⟨?_, fun a ha => ?_, Dev.setCmem_rest _ _⟩
    · rw [Dev.setCmem_cmem, memRead_memWrite]
      exact Nat.mod_mod _ _
    · rw [Dev.setCmem_cmem, memGet_memWrite_out _ _ _ _ _ ha]
  · exact completes_qmgCwinAccess hs (Dev.qmgCwin_read w data hw) (by simp) (by simp) ⟨rfl, Dev.ret_rest _ _ _⟩
  · exact completes_qmgCwinAccess hs (Dev.qmgCwin_write_refused w data hw) (Dev.incSat_corks _ _) (Dev.incSat_fab _ _) (Dev.incSat_onlyRegs _ _)
  · refine completes_run_eq (fun d => d.qmgQcfg req data) rfl hs (Dev.qmgQcfg_empty hn hq) ?_ ?_ ?_
    · rw [Dev.noteLine_corks, Dev.noteLine_corks, Dev.upQmg_corks]
    · rw [Dev.noteLine_fab, Dev.noteLine_fab, Dev.upQmg_fab]
    · rw [Dev.noteLine_qmg, Dev.noteLine_qmg]
      rfl
  · obtain ⟨hgone, hkept⟩ := s.dev.qmg.reclaim_casks (owner % 256)
    refine completes_run_eq (fun d => d.qmgReclaim req owner) rfl hs (Dev.qmgReclaim_ungranted req hlow hgrant) (by simp) (by simp)
      ⟨?_, ?_, ?_, ?_⟩
    · rw [Dev.qRes_qmg, Dev.poolCheck_qmg]
      exact hgone
    · rw [Dev.qRes_qmg, Dev.poolCheck_qmg]
      exact hkept
    · rw [Dev.qRes_qmg, Dev.poolCheck_qmg]
      rfl
    · rw [Dev.qRes_get, Dev.poolCheck_get _ (by decide +kernel), Dev.upQmg_get, Dev.get_put_same _ _ _ (by decide)]
      exact Nat.mod_mod _ _
  · exact completes_run_eq (fun d => d.wr R.QMG_CNT 0) rfl hs rfl rfl rfl ⟨Dev.rd_wr_same _ _ _, s.dev.wr_onlyRegs _ _⟩

end Sys2Proof.Machine

/-! PROOFS. Analog conversions (R423-R430). -/

namespace Sys2Proof.Machine

/-! ### Counters that a mask names, and reads that latch companion words -/

/-- A word of each unit that the mask names is cleared, that of any other stands. -/
theorem Dev.clrMask_spec {n mask : Nat} {f : Dev → Nat → Dev} {T : Nat → Nat → Prop} {A : Nat → Nat} (hf : ∀ x i, Dev.Clears (T i) x (f x i))
    (hz : ∀ x i, (f x i).rd (A i) = 0) (hT : ∀ i j, T i (A j) → i = j) (d : Dev) :
    (∀ m, m < n → bitOf mask m = true → (d.clrMask n mask f).rd (A m) = 0) ∧
      (∀ m, m < n → bitOf mask m = false → (d.clrMask n mask f).rd (A m) = d.rd (A m)) ∧ (d.clrMask n mask f).noRegs = d.noRegs := by
  refine ⟨fun m hm hb => ?_, fun m hm hb => ?_, (Dev.clrMask_clears hf d).noRegs⟩
  · exact Dev.clrMask_zero hf d (Z := fun x => x.rd (A m) = 0) (fun h hx => h.rd_zero hx) hm hb (fun x => hz x m)
  · refine (Dev.clrMask_clears hf d).rd _ ?_
    rintro ⟨i, _, hi, ht⟩
    rw [hT i m ht, hb] at hi
    cases hi

/-- One word each. -/
theorem Dev.clrWords_spec {n mask : Nat} {A : Nat → Nat} (hA : ∀ i j, A j = A i → i = j) (d : Dev) :
    (∀ m, m < n → bitOf mask m = true → (d.clrMask n mask fun x i => x.wr (A i) 0).rd (A m) = 0) ∧
      (∀ m, m < n → bitOf mask m = false → (d.clrMask n mask fun x i => x.wr (A i) 0).rd (A m) = d.rd (A m)) ∧
      (d.clrMask n mask fun x i => x.wr (A i) 0).noRegs = d.noRegs :=
  Dev.clrMask_spec (T := fun i a => a = A i) (fun x _ => (Dev.Clears.refl _ x).wr rfl) (fun _ _ => Dev.rd_wr_same _ _ _) hA d

/-- The device without what a latching read touches: the bus, the requesters' copies and the registers. -/
def Dev.noRead (d : Dev) : Dev := { d with bus := ⟨0, 0⟩, preq := [], reg := [], fltNew := [] }

theorem Dev.put_noRead (d : Dev) (f : Fld) (v : Nat) : (d.put f v).noRead = d.noRead := rfl

theorem Dev.latch_noRead (d : Dev) (req : Nat) (l : List Nat) : (d.latch req l).noRead = d.noRead :=
  List.foldlRecOn (motive := fun (x : Dev) => x.noRead = d.noRead) l _ rfl fun _ hx _ _ => hx

theorem Dev.ret_noRead (d : Dev) (req data : Nat) : (d.ret req data).noRead = d.noRead := rfl

theorem Dev.latchRead_noRead (d : Dev) (req lo : Nat) (l : List Nat) : (d.latchRead req lo l).noRead = d.noRead := by
  rw [Dev.latchRead, Dev.ret_noRead, Dev.latch_noRead]

theorem Dev.noRead_rest {d e : Dev} (h : e.noRead = d.noRead) : { e with bus := d.bus, preq := d.preq, reg := d.reg, fltNew := d.fltNew } = d :=
  congrArg (fun x : Dev => { x with bus := d.bus, preq := d.preq, reg := d.reg, fltNew := d.fltNew }) h

theorem Dev.noRead_corks {d e : Dev} (h : e.noRead = d.noRead) : e.corks = d.corks :=
  show e.noRead.corks = d.noRead.corks from congrArg Dev.corks h

theorem Dev.noRead_fab {d e : Dev} (h : e.noRead = d.noRead) : e.fab = d.fab :=
  show e.noRead.fab = d.noRead.fab from congrArg Dev.fab h

theorem Dev.latch_reg (d : Dev) (req : Nat) (l : List Nat) : (d.latch req l).reg = d.reg :=
  List.foldlRecOn (motive := fun (x : Dev) => x.reg = d.reg) l _ rfl fun _ hx _ _ => hx

theorem Dev.latchRead_reg (d : Dev) (req lo : Nat) (l : List Nat) : (d.latchRead req lo l).reg = d.reg := Dev.latch_reg _ _ _

theorem Dev.latchRead_bus (d : Dev) (req lo : Nat) (l : List Nat) : (d.latchRead req lo l).bus = ⟨req, (d.rd lo).toNat⟩ := by
  rw [Dev.latchRead, Dev.ret_busData, Nat.mod_eq_of_lt (BitVec.isLt _)]

/-- A companion word holds for the requester what it held in the register. -/
theorem Dev.latch_own (d : Dev) (req : Nat) {l : List Nat} {a : Nat} (h : a ∈ l) : (d.latch req l).own req a = d.rd a := by
  have hgen : ∀ (l : List Nat) (x : Dev), a ∈ l ∨ x.own req a = d.rd a → (l.foldl (fun y b => y.setOwn req b (d.rd b)) x).own req a = d.rd a := by
    intro l
    induction l with
    | nil => exact fun x hx => hx.resolve_left (List.not_mem_nil)
    | cons b r ih =>
      intro x hx
      refine ih _ ?_
      by_cases hb : a = b
      · exact .inr (by rw [hb, Dev.own_setOwn_same])
      · exact (hx.imp_left fun hmem => (List.mem_cons.1 hmem).resolve_left hb).imp_right fun hown => (Dev.own_setOwn_ne _ _ _ hb).trans hown
  exact hgen l d (.inl h)

theorem Dev.latchRead_own (d : Dev) (req lo : Nat) {l : List Nat} {a : Nat} (h : a ∈ l) : (d.latchRead req lo l).own req a = d.rd a :=
  d.latch_own req h

/-! ### Converters -/

@[simp] theorem Dev.ad_setAd_same (d : Dev) (m : Nat) (x : Adc) : (d.setAd m x).ad m = x := smGet_smSet_same _ _ _ _

theorem Dev.setAd_rest (d : Dev) (m : Nat) (x : Adc) : { d.setAd m x with adc := d.adc, fltNew := d.fltNew } = d := rfl

section
variable {s : State} {m : Fin 4}

theorem Dev.adcTrigger_idle {d : Dev} {m : Nat} (t : AdcTrig) (hp : d.get (F.PWR_DOM_STAT_STATE 5) = 2) (he : d.flag (F.ADC_CTL_EN m) = true)
    (hw : (d.ad m).wait = []) : d.adcTrigger m t = d.setAd m { d.ad m with wait := [t] } := by
  have hroom : ([] : List AdcTrig).length + (if (d.ad m).run.isSome then 1 else 0) < 2 := by
    rw [List.length_nil, Nat.zero_add]
    split <;> decide
  simp only [Dev.adcTrigger, hp, he, bne_self_eq_false, Bool.not_true, Bool.or_self, Bool.false_eq_true, if_false, if_pos hroom, hw, List.nil_append]

theorem Dev.domUp_of_on {d : Dev} {k : Nat} (h : d.get (F.PWR_DOM_STAT_STATE k) = 2) : d.domUp k = true := by
  rw [Dev.domUp, h]
  rfl

theorem runs_swtrig {req : Fin 10} (hs : s.coreRuns) (hu : s.dev.domUp 5 = true) : Runs (.swtrig req m) s fun d => d.adcPlain m 2 :=
  runs_congr (runs_core _ (show execSwtrig req m s = _ from rfl) hs) (if_pos hu)

theorem runs_adcSequenceStart (hs : s.coreRuns) (hu : s.dev.domUp 5 = true) : Runs (.adcSequenceStart m) s fun d => d.adcStart m :=
  runs_congr (runs_core _ (show execAdcSequenceStart m s = _ from rfl) hs) (if_pos hu)

theorem runs_adcConversionDone {value : Nat} (hs : s.coreRuns) (hu : s.dev.domUp 5 = true) (hr : (s.dev.ad m).run.isSome = true) :
    Runs (.adcConversionDone m value) s fun d => (d.until (d.ad m).ends).adcDone m value :=
  runs_congr (runs_core _ (show execAdcConversionDone m value s = _ from rfl) hs) (if_pos ⟨hu, hr⟩)

/-- A time-stamped mark that its angle has reached. -/
theorem Dev.amTimed_reached {d : Dev} {i : Nat} {u a t : Int} (hu : (d.am i).upTo = some u)
    (ha : (d.geo (d.am i).trk).nextOcc (if (d.pr (d.am i).trk).rev then u - 1 else u + 1) (d.am i).ang (d.pr (d.am i).trk).rev = a)
    (hable : d.amAble (d.am i) (d.pr (d.am i).trk).rev = true) (hv : d.pv (d.am i).trk = true) (hdist : d.dist (d.am i).trk a < 2 * 65536)
    (ht : d.timeOf (d.am i).trk a = .time t) (hle : t ≤ 8 * (d.now : Int)) :
    d.amTimed i = (d.setAm i { d.am i with upTo := some a }).amReach i a := by
  have hgo : (d.amAble (d.am i) (d.pr (d.am i).trk).rev && d.pv (d.am i).trk && decide (d.dist (d.am i).trk a < 2 * 65536)) = true := by
    rw [hable, hv, decide_eq_true hdist]
    rfl
  simp only [Dev.amTimed, hu, ha, hgo, ht, if_true, if_pos hle]

theorem Dev.amReach_new {d : Dev} {i : Nat} {a : Int} {m : AMark} (hm : d.am i = m) (hf : m.fired.contains a = false) :
    d.amReach i a = (d.setAm i { m with fired := a :: m.fired }).amFire i m := by
  rw [Dev.amReach, hm]
  exact if_neg (by rw [hf]; exact Bool.false_ne_true)

/-- What a finished conversion leaves in the words of its input (R423, R429). -/
def Dev.adcResult (d : Dev) (m j value : Nat) (t : AdcTrig) : Dev :=
  let d1 := ((d.put (F.AIN_RES_VALUE j) (value % 2 ^ 12)).put (F.AIN_RES_READY j) 1).put (F.AIN_RES_SEEN j) 0
  let d2 := d1.put64 (R.AIN_TS_LO j) (R.AIN_TS_HI j) (d.adcStamp (d.ad m))
  ((d2.put (F.AIN_SRC_KIND j) t.kind).put (F.AIN_SRC_ENTRY j) t.entry).put (F.AIN_SRC_ANG j) t.ang

theorem Dev.adcDone_next {d : Dev} {m value : Nat} {t : AdcTrig} (hr : (d.ad m).run = some t) (hl : 1 < t.left) :
    d.adcDone m value = ((d.adcResult m (d.ad m).cur value t).adcLimit m (d.ad m).cur (value % 2 ^ 12)).adcBegin m
      { t with first := (t.first + 1) % 16, left := t.left - 1 } (d.ad m).ends := by
  simp only [Dev.adcDone, hr, if_pos hl]
  rfl

theorem Dev.adcDone_last {d : Dev} {m value : Nat} {t : AdcTrig} (hr : (d.ad m).run = some t) (hl : t.left ≤ 1) :
    d.adcDone m value =
      (let d4 := (d.adcResult m (d.ad m).cur value t).adcLimit m (d.ad m).cur (value % 2 ^ 12)
       ((((d4.setAd m { d4.ad m with run := none }).incWrap (F.ADC_CNT_SEQ m)).route (89 + m)).icuArrive (56 + m))) := by
  simp only [Dev.adcDone, hr, if_neg (Nat.not_lt.2 hl)]
  rfl

theorem Dev.adcResult_value (d : Dev) (m j value : Nat) (t : AdcTrig) : (d.adcResult m j value t).get (F.AIN_RES_VALUE j) = value % 2 ^ 12 := by
  have hsrc : R.AIN_RES j ≠ R.AIN_SRC j := by simp
  unfold Dev.adcResult
  rw [Dev.get_put_ne _ _ _ _ hsrc, Dev.get_put_ne _ _ _ _ hsrc, Dev.get_put_ne _ _ _ _ hsrc, Dev.get,
    Dev.rd_put64_ne _ _ (by simp) (by simp), ← Dev.get, Dev.get_put_apart _ _ _ _ (by simp) (by simp) (by simp),
    Dev.get_put_apart _ _ _ _ (by simp) (by simp) (by simp), Dev.get_put_same _ _ _ (by simp)]
  exact Nat.mod_mod _ _

theorem reportWord_ainRes {j : Nat} (hj : j < 64) : reportWord (R.AIN_RES j) = false := by
  have h : ∀ k : Fin 64, reportWord (R.AIN_RES k) = false := by decide +kernel
  exact h ⟨j, hj⟩

/-- The limits of an input leave its value. -/
theorem Dev.adcLimit_value (d : Dev) (m v : Nat) {j : Nat} (hj : j < 64) : (d.adcLimit m j v).get (F.AIN_RES_VALUE j) = d.get (F.AIN_RES_VALUE j) := by
  have hlim : ∀ (x : Dev) (b : Bool), (x.setAbit (R.ADC_LIMSTAT 0) j b).get (F.AIN_RES_VALUE j) = x.get (F.AIN_RES_VALUE j) := fun x b =>
    Dev.get_put_ne _ _ _ _ (show 0x170000 + 0x10 * j ≠ 0x171600 + 4 * 0 + 4 * (j / 32) by omega)
  have hflag : ∀ b, ((d.putB (F.AIN_RES_LIM j) b).setAbit (R.ADC_LIMSTAT 0) j b).get (F.AIN_RES_VALUE j) = d.get (F.AIN_RES_VALUE j) := fun b => by
    rw [hlim, Dev.putB, Dev.get_put_apart _ _ _ _ (by simp) (by simp) (by simp)]
  unfold Dev.adcLimit
  dsimp only
  split
  · exact ((Dev.icuArrive_reported _ (60 + m)).get (f := F.AIN_RES_VALUE j) (reportWord_ainRes hj)).trans (hflag _)
  · exact hflag _

/-- The next input begins: the value of no input changes. -/
theorem Dev.adcBegin_value (d : Dev) (m : Nat) (t : AdcTrig) (f j : Nat) : (d.adcBegin m t f).get (F.AIN_RES_VALUE j) = d.get (F.AIN_RES_VALUE j) := by
  unfold Dev.adcBegin
  exact Dev.get_put_apart _ _ _ _ (by simp) (by simp) (by simp)

theorem Dev.put_ad (d : Dev) (f : Fld) (v m : Nat) : (d.put f v).ad m = d.ad m := rfl

theorem Dev.adcBegin_run (d : Dev) (m : Nat) (t : AdcTrig) (f : Nat) : ((d.adcBegin m t f).ad m).run = some t := by
  rw [Dev.adcBegin, Dev.put_ad, Dev.ad_setAd_same]

theorem Dev.put64_noRegs (d : Dev) (lo hi v : Nat) : (d.put64 lo hi v).noRegs = d.noRegs := rfl

theorem Dev.adcResult_noRegs (d : Dev) (m j value : Nat) (t : AdcTrig) : (d.adcResult m j value t).noRegs = d.noRegs := by
  rw [Dev.adcResult, Dev.put_noRegs, Dev.put_noRegs, Dev.put_noRegs, Dev.put64_noRegs, Dev.put_noRegs, Dev.put_noRegs, Dev.put_noRegs]

theorem Dev.adcLimit_still (d : Dev) (m j v : Nat) : (d.adcLimit m j v).still = d.still := by
  have hflag : ∀ b, ((d.putB (F.AIN_RES_LIM j) b).setAbit (R.ADC_LIMSTAT 0) j b).still = d.still := fun b =>
    (Dev.put_still _ _ _).trans (Dev.put_still _ _ _)
  unfold Dev.adcLimit
  dsimp only
  split
  · rw [Dev.icuArrive_still, hflag]
  · exact hflag _

theorem Dev.adcBegin_corks (d : Dev) (m : Nat) (t : AdcTrig) (f : Nat) : (d.adcBegin m t f).corks = d.corks := by
  rw [Dev.adcBegin, Dev.put_corks]
  rfl

theorem Dev.adcBegin_fab (d : Dev) (m : Nat) (t : AdcTrig) (f : Nat) : (d.adcBegin m t f).fab = d.fab := by
  rw [Dev.adcBegin, Dev.put_fab]
  rfl

theorem completes_adcConversionDone_next {value : Nat} {t : AdcTrig} (hs : s.coreRuns) (hu : s.dev.domUp 5 = true) (hr : (s.dev.ad m).run = some t)
    (hl : 1 < t.left) (hc : (s.dev.ad m).cur < 64) (hend : (s.dev.ad m).ends ≤ s.dev.fab) :
    Completes (.adcConversionDone m value) s fun e =>
      e.get (F.AIN_RES_VALUE (s.dev.ad m).cur) = value % 2 ^ 12 ∧ (e.ad m).run = some { t with first := (t.first + 1) % 16, left := t.left - 1 } := by
  have hrest := (s.dev.adcResult m (s.dev.ad m).cur value t).adcLimit_still m (s.dev.ad m).cur (value % 2 ^ 12)
  have hregs := s.dev.adcResult_noRegs m (s.dev.ad m).cur value t
  refine completes_runs_eq _ (runs_adcConversionDone hs hu (by rw [hr]; rfl)) hs.1
    ((congrArg (fun x : Dev => x.adcDone m value) (Dev.until_past hend)).trans (Dev.adcDone_next hr hl)) ?_ ?_ ⟨?_, Dev.adcBegin_run _ _ _ _⟩
  · exact (Dev.adcBegin_corks _ _ _ _).trans ((Dev.still_corks hrest).trans (Dev.noRegs_corks hregs))
  · exact (Dev.adcBegin_fab _ _ _ _).trans ((Dev.still_fab hrest).trans (Dev.noRegs_fab hregs))
  · exact (Dev.adcBegin_value _ _ _ _ _).trans ((Dev.adcLimit_value _ _ _ hc).trans (Dev.adcResult_value _ _ _ _ _))

/-! ### Results and counters (R430) -/

theorem completes_ainResRead {req : Fin 10} {j : Fin 64} (hs : s.coreRuns) (hu : s.dev.domUp 5 = true) : Completes (.ainResRead req j) s fun e =>
      e.bus = ⟨req, (s.dev.rd (R.AIN_RES j)).toNat⟩ ∧ e.own req (R.AIN_TS_LO j) = s.dev.rd (R.AIN_TS_LO j) ∧ e.own req (R.AIN_TS_HI j) = s.dev.rd (R.AIN_TS_HI j)
        ∧ e.own req (R.AIN_SRC j) = s.dev.rd (R.AIN_SRC j) ∧ e.flag (F.AIN_RES_SEEN j) = true ∧ (∀ a, a ≠ R.AIN_RES j → e.rd a = s.dev.rd a)
        ∧ { e with bus := s.dev.bus, preq := s.dev.preq, reg := s.dev.reg, fltNew := s.dev.fltNew } = s.dev := by
  have heq : s.dev.ainRead req j =
      (s.dev.latchRead req (R.AIN_RES j) [R.AIN_TS_LO j, R.AIN_TS_HI j, R.AIN_SRC j]).put (F.AIN_RES_SEEN j) 1 := if_neg (by rw [hu]; decide)
  have hrest : ((s.dev.latchRead req (R.AIN_RES j) [R.AIN_TS_LO j, R.AIN_TS_HI j, R.AIN_SRC j]).put (F.AIN_RES_SEEN j) 1).noRead = s.dev.noRead := by
    rw [Dev.put_noRead, Dev.latchRead_noRead]
  refine completes_runs_eq _ (runs_core (fun d => d.ainRead req j) rfl hs) hs.1 heq (Dev.noRead_corks hrest) (Dev.noRead_fab hrest)
    ⟨?_, ?_, ?_, ?_, ?_, fun a ha => ?_, Dev.noRead_rest hrest⟩
  · rw [Dev.put_bus, Dev.latchRead_bus]
  · rw [Dev.put_own, Dev.latchRead_own _ _ _ (by simp)]
  · rw [Dev.put_own, Dev.latchRead_own _ _ _ (by simp)]
  · rw [Dev.put_own, Dev.latchRead_own _ _ _ (by simp)]
  · rw [Dev.flag, Dev.get_put_same _ _ _ (by simp)]
    rfl
  · rw [Dev.rd_put_ne _ _ _ ha, Dev.rd_congr (Dev.latchRead_reg _ _ _ _)]

/-- The words of a tracker's timing log that its clearing touches. -/
def tlogWord (k a : Nat) : Prop := a = R.TRK_TLOG_STAT k ∨ ∃ j, j < 16 ∧ a = R.TRK_CR k j

/-- One tracker's timing log cleared. -/
def Dev.tlogClr1 (d : Dev) (k : Nat) : Dev := forN 16 (fun y j => y.put (F.TRK_CR_MFCNT k j) 0) (d.wr (R.TRK_TLOG_STAT k) 0)

theorem Dev.tlogPass_clears (d : Dev) (k : Nat) : d.Clears (tlogWord k) (forN 16 (fun y j => y.put (F.TRK_CR_MFCNT k j) 0) d) :=
  .forN (fun x j hj => (Dev.Clears.refl _ x).put (f := F.TRK_CR_MFCNT k j) (.inr ⟨j, hj, rfl⟩) (show 8 ≤ 15 by decide)) d

theorem Dev.tlogClr1_clears (d : Dev) (k : Nat) : d.Clears (tlogWord k) (d.tlogClr1 k) :=
  ((Dev.Clears.refl _ d).wr (.inl rfl)).trans (Dev.tlogPass_clears _ k)

theorem Dev.tlogClr1_zero (d : Dev) (k : Nat) : (d.tlogClr1 k).rd (R.TRK_TLOG_STAT k) = 0 :=
  (Dev.tlogPass_clears _ k).rd_zero (Dev.rd_wr_same _ _ _)

theorem tlogWord_stat {i j : Nat} (h : tlogWord i (R.TRK_TLOG_STAT j)) : i = j := by
  rcases h with h | ⟨k, hk, h⟩
  · have h' : 0x71004 + 0x100 * j = 0x71004 + 0x100 * i := h
    omega
  · have h' : 0x71004 + 0x100 * j = 0x71080 + 0x100 * i + 4 * k := h
    omega

end

/-- Settles O48: each trigger and conversion by its operation, the words an input holds read one by one. -/
theorem analogMeasurement : Obligations.analog_measurement := by
  unfold Obligations.analog_measurement
  refine ⟨fun s req m hs hp he hw => ?_, fun s i u a t m hs hu ha hable hv hdist ht hle hm hf => ?_,
    fun s m t r hs hu hr hw => runs_congr (runs_adcSequenceStart hs hu) ?_,
    fun s m value t hs hu hr hl hc hend => completes_adcConversionDone_next hs hu hr hl hc hend,
    fun s m value t hs hu hr hend hl => runs_congr (runs_adcConversionDone hs hu (by rw [hr]; rfl))
      ((congrArg (fun x : Dev => x.adcDone m value) (Dev.until_past hend)).trans (Dev.adcDone_last hr hl)),
    fun s m value hs hu hr => runs_adcConversionDone hs hu hr, fun s req j hs hu => completes_ainResRead hs hu, fun s req mask hs hu => ?_,
    fun s req mask hs => ?_⟩
  · exact completes_runs_eq _ (runs_swtrig hs (Dev.domUp_of_on hp)) hs.1 (Dev.adcTrigger_idle _ hp he hw) rfl rfl
      ⟨congrArg Adc.wait (Dev.ad_setAd_same _ _ _), (congrArg Adc.run (Dev.ad_setAd_same _ _ _)).trans rfl, Dev.setAd_rest _ _ _⟩
  · refine runs_congr (runs_core (fun d => d.amTimed i) rfl hs) ((Dev.amTimed_reached hu ha hable hv hdist ht hle).trans ((Dev.amReach_new hm hf).trans ?_))
    exact if_pos i.isLt
  · simp only [State.start, Dev.adcStart, hr, hw]
  · have heq : (if s.dev.domUp 5 then s.dev.adcCntClr mask else s.dev.pwrOffAccess req true) = s.dev.adcCntClr mask := if_pos hu
    obtain ⟨hzero, hkept, hrest⟩ := s.dev.clrWords_spec (n := 4) (mask := mask) (A := R.ADC_CNT) (fun i j h => by
      have h' : 0x170408 + 0x400 * j = 0x170408 + 0x400 * i := h
      omega)
    exact completes_runs_eq _ (runs_core _ (show execAdcCntClr req mask s = _ from rfl) hs) hs.1 heq (Dev.noRegs_corks hrest) (Dev.noRegs_fab hrest)
      ⟨hzero, hkept, hrest⟩
  · obtain ⟨hzero, hkept, hrest⟩ := s.dev.clrMask_spec (n := 16) (mask := mask) (A := R.TRK_TLOG_STAT) Dev.tlogClr1_clears Dev.tlogClr1_zero
      fun _ _ h => tlogWord_stat h
    exact completes_runs_eq _ (runs_core (fun d => d.tlogClr mask) rfl hs) hs.1 rfl (Dev.noRegs_corks hrest) (Dev.noRegs_fab hrest)
      ⟨hzero, hkept, hrest⟩

end Sys2Proof.Machine

/-! PROOFS. Encoder interfaces (R433-R442). -/

namespace Sys2Proof.Machine

/-! ### Counts (R434, R441) -/

/-- The device without encoders and registers. -/
def Dev.noEncReg (d : Dev) : Dev := { d with enc := [], reg := [], fltNew := [] }

theorem Dev.put_noEncReg (d : Dev) (f : Fld) (v : Nat) : (d.put f v).noEncReg = d.noEncReg := rfl
theorem Dev.wr_noEncReg (d : Dev) (a : Nat) (w : Word) : (d.wr a w).noEncReg = d.noEncReg := rfl
theorem Dev.put64_noEncReg (d : Dev) (lo hi v : Nat) : (d.put64 lo hi v).noEncReg = d.noEncReg := rfl
theorem Dev.setEn_noEncReg (d : Dev) (m : Nat) (x : Enc) : (d.setEn m x).noEncReg = d.noEncReg := rfl
theorem Dev.setEn_rd (d : Dev) (m : Nat) (x : Enc) (a : Nat) : (d.setEn m x).rd a = d.rd a := rfl

theorem Dev.noEncReg_rest {d e : Dev} (h : e.noEncReg = d.noEncReg) : { e with enc := d.enc, reg := d.reg, fltNew := d.fltNew } = d :=
  congrArg (fun x : Dev => { x with enc := d.enc, reg := d.reg, fltNew := d.fltNew }) h

theorem Dev.noEncReg_corks {d e : Dev} (h : e.noEncReg = d.noEncReg) : e.corks = d.corks :=
  show e.noEncReg.corks = d.noEncReg.corks from congrArg Dev.corks h

theorem Dev.noEncReg_fab {d e : Dev} (h : e.noEncReg = d.noEncReg) : e.fab = d.fab :=
  show e.noEncReg.fab = d.noEncReg.fab from congrArg Dev.fab h

/-- The words of an interface after a count to w: count, time-stamp, period and direction. -/
def Dev.encMoved (d : Dev) (m code stamp : Nat) (w per : Word) : Dev :=
  ((((d.setEn m { d.en m with last := some stamp }).wr (R.ENC_POS m) w).put64 (R.ENC_ETS_LO m) (R.ENC_ETS_HI m) stamp).wr (R.ENC_PER m) per).put
    (F.ENC_STAT_DIR m) code

theorem Dev.encMoved_rd (d : Dev) {m code stamp : Nat} {w per : Word} {a : Nat}
    (h : a ∉ [R.ENC_POS m, R.ENC_STAT m, R.ENC_ETS_LO m, R.ENC_ETS_HI m, R.ENC_PER m]) : (d.encMoved m code stamp w per).rd a = d.rd a := by
  simp only [List.mem_cons, List.not_mem_nil, or_false, not_or] at h
  obtain ⟨hpos, hstat, hlo, hhi, hper⟩ := h
  rw [Dev.encMoved, Dev.rd_put_ne _ _ _ hstat, Dev.rd_wr_ne _ _ hper, Dev.rd_put64_ne _ _ hlo hhi, Dev.rd_wr_ne _ _ hpos, Dev.setEn_rd]

theorem Dev.encMoved_words (d : Dev) (m code stamp : Nat) (w per : Word) : (d.encMoved m code stamp w per).rd (R.ENC_POS m) = w ∧
    (d.encMoved m code stamp w per).get (F.ENC_STAT_DIR m) = code % 4 ∧
    (d.encMoved m code stamp w per).get (F.ENC_STAT_LVL m) = d.get (F.ENC_STAT_LVL m) ∧
    (d.encMoved m code stamp w per).get64 (R.ENC_ETS_LO m) (R.ENC_ETS_HI m) = stamp % 2 ^ 64 := by
  unfold Dev.encMoved
  refine ⟨?_, ?_, ?_, ?_⟩
  · rw [Dev.rd_put_ne _ _ _ (by simp), Dev.rd_wr_ne _ _ (by simp), Dev.rd_put64_ne _ _ (by simp) (by simp), Dev.rd_wr_same]
  · exact Dev.get_put_same _ _ _ (by simp)
  · rw [Dev.get_put_apart _ _ _ _ (by simp) (by simp) (by simp), Dev.get_wr_ne _ _ (by simp), Dev.get, Dev.rd_put64_ne _ _ (by simp) (by simp),
      ← Dev.get, Dev.get_wr_ne _ _ (by simp)]
    rfl
  · rw [← Dev.get64_put64_mod (lo := R.ENC_ETS_LO m) (hi := R.ENC_ETS_HI m)
      ((d.setEn m { d.en m with last := some stamp }).wr (R.ENC_POS m) w) stamp (by simp), Dev.get64, Dev.get64,
      Dev.rd_put_ne _ _ _ (by simp), Dev.rd_put_ne _ _ _ (by simp), Dev.rd_wr_ne _ _ (by simp), Dev.rd_wr_ne _ _ (by simp)]

theorem Dev.encMoved_rest (d : Dev) (m code stamp : Nat) (w per : Word) : (d.encMoved m code stamp w per).noEncReg = d.noEncReg := by
  rw [Dev.encMoved, Dev.put_noEncReg, Dev.wr_noEncReg, Dev.put64_noEncReg, Dev.wr_noEncReg, Dev.setEn_noEncReg]

/-- An interface that no tracker counts by feeds none. -/
theorem Dev.encFeed_none {d : Dev} (m : Nat) (f : Dev → Nat → Dev) (h : ∀ k, k < 16 → d.flag (F.TRK_CFG_KIND k) = false) : d.encFeed m f = d :=
  forN_id fun k hk => if_neg (by rw [h k hk, Bool.false_and]; exact Bool.false_ne_true)

theorem word_add_one (w : Word) : BitVec.ofNat 32 (ofS 32 (toS 32 w.toNat + 1)) = w + 1 := by
  have hw : w.toNat < 2 ^ 32 := w.isLt
  apply BitVec.eq_of_toNat_eq
  rw [BitVec.toNat_add, BitVec.toNat_ofNat, toS, ofS]
  show _ = (w.toNat + 1) % 2 ^ 32
  split <;> omega

theorem trkCfg_ne_enc (k m : Nat) :
    (F.TRK_CFG_KIND k).addr ∉ [R.ENC_POS m, R.ENC_STAT m, R.ENC_ETS_LO m, R.ENC_ETS_HI m, R.ENC_PER m] := by
  simp only [List.mem_cons, List.not_mem_nil, or_false, not_or]
  refine ⟨?_, ?_, ?_, ?_, ?_⟩
  · show 0x60004 + 0x1000 * k ≠ 0x50014 + 0x80 * m; omega
  · show 0x60004 + 0x1000 * k ≠ 0x50010 + 0x80 * m; omega
  · show 0x60004 + 0x1000 * k ≠ 0x50018 + 0x80 * m; omega
  · show 0x60004 + 0x1000 * k ≠ 0x5001c + 0x80 * m; omega
  · show 0x60004 + 0x1000 * k ≠ 0x50020 + 0x80 * m; omega

/-- One count up where no tracker counts by the interface. -/
theorem Dev.encMove_up {d : Dev} {m : Nat} (stamp : Nat) (h : ∀ k, k < 16 → d.flag (F.TRK_CFG_KIND k) = false) :
    ∃ per, d.encMove m true 1 stamp = d.encMoved m 1 stamp (d.rd (R.ENC_POS m) + 1) per := by
  refine ⟨BitVec.ofNat 32 (match (d.en m).last with
    | some l => if d.get (F.ENC_STAT_DIR m) == 1 then min (stamp - l) (2 ^ 32 - 1) else 0
    | none => 0), ?_⟩
  rw [← word_add_one]
  refine Dev.encFeed_none m _ fun k hk => ?_
  have hrd := d.encMoved_rd (code := 1) (stamp := stamp) (w := BitVec.ofNat 32 (ofS 32 (toS 32 (d.rd (R.ENC_POS m)).toNat + 1)))
    (per := BitVec.ofNat 32 (match (d.en m).last with
      | some l => if d.get (F.ENC_STAT_DIR m) == 1 then min (stamp - l) (2 ^ 32 - 1) else 0
      | none => 0)) (trkCfg_ne_enc k m)
  exact (congrArg (fun w => fldGet (F.TRK_CFG_KIND k) w == 1) hrd).trans (h k hk)

section
variable {s : State} {m : Fin 8}

theorem runs_encCountChange_quad {a b i : Bool} {hold : Nat × Nat × Nat} {stamp : Nat} (hs : s.coreRuns) (hm : s.dev.encMode m = 1)
    (hp : stamp + s.dev.get (F.ENC_CFG_FLT m) ≤ s.dev.now) (ha : s.dev.get (F.ENC_CFG_FLT m) ≤ hold.1) (hb : s.dev.get (F.ENC_CFG_FLT m) ≤ hold.2.1)
    (hi : s.dev.get (F.ENC_CFG_FLT m) ≤ hold.2.2) : Runs (.encCountChange m (.quad a b i hold stamp)) s fun d => d.encQuad m a b i stamp := by
  refine runs_congr (runs_core _ (show execEncCountChange m (.quad a b i hold stamp) s = _ from rfl) hs) ?_
  simp only [State.start, hm, if_true, Dev.advance_past hp, Dev.encLine, ha, hb, hi]

/-- A step up with the index not enabled. -/
theorem Dev.encQuad_up {d : Dev} {m : Nat} {a b i : Bool} (stamp : Nat) (hidx : d.flag (F.ENC_CFG_IDXEN m) = false)
    (hinv : d.flag (F.ENC_CFG_INV m) = false)
    (hstep : (quadPhase a b + 4 - quadPhase (bitOf (d.get (F.ENC_STAT_LVL m)) 0) (bitOf (d.get (F.ENC_STAT_LVL m)) 1)) % 4 = 1)
    {per : Word} (hmove : (d.put (F.ENC_STAT_LVL m) (b2n a + 2 * b2n b + 4 * b2n i)).encMove m true 1 stamp =
      (d.put (F.ENC_STAT_LVL m) (b2n a + 2 * b2n b + 4 * b2n i)).encMoved m 1 stamp (d.rd (R.ENC_POS m) + 1) per) :
    d.encQuad m a b i stamp = (d.put (F.ENC_STAT_LVL m) (b2n a + 2 * b2n b + 4 * b2n i)).encMoved m 1 stamp (d.rd (R.ENC_POS m) + 1) per := by
  have hcfg : ∀ f : Fld, f.addr = R.ENC_CFG m → (d.put (F.ENC_STAT_LVL m) (b2n a + 2 * b2n b + 4 * b2n i)).flag f = d.flag f := fun f hf => by
    rw [Dev.flag, Dev.get_put_ne _ _ _ _ (by rw [hf]; simp), ← Dev.flag]
  have hidx' : ((d.put (F.ENC_STAT_LVL m) (b2n a + 2 * b2n b + 4 * b2n i)).encMoved m 1 stamp (d.rd (R.ENC_POS m) + 1) per).flag
      (F.ENC_CFG_IDXEN m) = false := by
    rw [Dev.flag, Dev.get, Dev.encMoved_rd _ (by simp), ← Dev.get, ← Dev.flag, hcfg _ rfl, hidx]
  have hdir : (((1 : Nat) == 1) != (d.put (F.ENC_STAT_LVL m) (b2n a + 2 * b2n b + 4 * b2n i)).flag (F.ENC_CFG_INV m)) = true := by
    rw [hcfg _ rfl, hinv]
    rfl
  unfold Dev.encQuad
  dsimp only
  rw [hstep, if_neg (show ¬(1 : Nat) = 0 by decide), if_neg (show ¬(1 : Nat) = 2 by decide), hdir, hmove, hidx', Bool.and_false, Bool.false_and, if_neg Bool.false_ne_true]

theorem lvl_lt (a b i : Bool) : b2n a + 2 * b2n b + 4 * b2n i < 8 := by cases a <;> cases b <;> cases i <;> decide

theorem completes_quadUp {a b i : Bool} {hold : Nat × Nat × Nat} {stamp : Nat} (hs : s.coreRuns) (hm : s.dev.encMode m = 1)
    (hp : stamp + s.dev.get (F.ENC_CFG_FLT m) ≤ s.dev.now) (ha : s.dev.get (F.ENC_CFG_FLT m) ≤ hold.1) (hb : s.dev.get (F.ENC_CFG_FLT m) ≤ hold.2.1)
    (hi : s.dev.get (F.ENC_CFG_FLT m) ≤ hold.2.2) (hidx : s.dev.flag (F.ENC_CFG_IDXEN m) = false) (hinv : s.dev.flag (F.ENC_CFG_INV m) = false)
    (hkind : ∀ k, k < 16 → s.dev.flag (F.TRK_CFG_KIND k) = false)
    (hstep : (quadPhase a b + 4 - quadPhase (bitOf (s.dev.get (F.ENC_STAT_LVL m)) 0) (bitOf (s.dev.get (F.ENC_STAT_LVL m)) 1)) % 4 = 1) :
    Completes (.encCountChange m (.quad a b i hold stamp)) s fun e =>
      e.rd (R.ENC_POS m) = s.dev.rd (R.ENC_POS m) + 1 ∧ e.get (F.ENC_STAT_DIR m) = 1 ∧ e.get (F.ENC_STAT_LVL m) = b2n a + 2 * b2n b + 4 * b2n i
        ∧ e.get64 (R.ENC_ETS_LO m) (R.ENC_ETS_HI m) = stamp % 2 ^ 64
        ∧ (∀ x, x ∉ [R.ENC_POS m, R.ENC_STAT m, R.ENC_ETS_LO m, R.ENC_ETS_HI m, R.ENC_PER m] → e.rd x = s.dev.rd x)
        ∧ { e with enc := s.dev.enc, reg := s.dev.reg, fltNew := s.dev.fltNew } = s.dev := by
  have hkind' : ∀ k, k < 16 → (s.dev.put (F.ENC_STAT_LVL m) (b2n a + 2 * b2n b + 4 * b2n i)).flag (F.TRK_CFG_KIND k) = false := fun k hk => by
    rw [Dev.flag, Dev.get_put_ne _ _ _ _ (show 0x60004 + 0x1000 * k ≠ 0x50010 + 0x80 * m.val by omega), ← Dev.flag, hkind k hk]
  obtain ⟨per, hmove⟩ := Dev.encMove_up (m := m) stamp hkind'
  rw [Dev.rd_put_ne _ _ _ (by simp)] at hmove
  obtain ⟨hpos, hdir, hlvl, hets⟩ := (s.dev.put (F.ENC_STAT_LVL m) (b2n a + 2 * b2n b + 4 * b2n i)).encMoved_words m 1 stamp
    (s.dev.rd (R.ENC_POS m) + 1) per
  have hrest := ((s.dev.put (F.ENC_STAT_LVL m) (b2n a + 2 * b2n b + 4 * b2n i)).encMoved_rest m 1 stamp (s.dev.rd (R.ENC_POS m) + 1) per).trans
    (Dev.put_noEncReg _ _ _)
  refine completes_runs_eq _ (runs_encCountChange_quad hs hm hp ha hb hi) hs.1 (Dev.encQuad_up stamp hidx hinv hstep hmove)
    (Dev.noEncReg_corks hrest) (Dev.noEncReg_fab hrest) ⟨hpos, hdir, ?_, hets, fun x hx => ?_, Dev.noEncReg_rest hrest⟩
  · rw [hlvl, Dev.get_put_same _ _ _ (by simp)]
    exact Nat.mod_eq_of_lt (lvl_lt a b i)
  · rw [Dev.encMoved_rd _ hx, Dev.rd_put_ne _ _ _ (fun h => hx (by rw [h]; simp))]

/-! ### Amplitude, index and wires (R435-R440) -/

theorem runs_encIndexEdge_sincos (hs : s.coreRuns) (hm : s.dev.encMode m = 2) (hi : s.dev.flag (F.ENC_CFG_IDXEN m) = true) :
    Runs (.encIndexEdge m) s fun d =>
      (d.put (F.ENC_STAT_LVL m) (d.get (F.ENC_STAT_LVL m) % 4 + 4 * b2n (d.flag (F.ENC_CFG_IPOL m)))).encIdx m d.now :=
  runs_congr (runs_core _ (show execEncIndexEdge m s = _ from rfl) hs) (if_neg (by rw [State.start, hm, hi]; simp))

/-- The wire fault of one pair cleared, where the other pairs have none. -/
theorem Dev.wire_last {d : Dev} {m : Nat} {pair : Fin 3} (h : ∀ q : Fin 3, q ≠ pair → d.flag (wireFld m q) = false) :
    (d.put (wireFld m pair) 0).get ⟨R.ENC_STAT m, 30, 28⟩ = 0 := by
  refine (Dev.get_eq_zero_iff _ _).2 fun i hi => ?_
  have hi3 : i < 3 := hi
  have hbit : ∀ q : Fin 3, (d.put (wireFld m pair) 0).flag (wireFld m q) = false := fun q => by
    by_cases hq : q = pair
    · rw [hq, Dev.flag, Dev.get_put_same _ _ _ ⟨Nat.le_refl _, show 28 + pair.val < 32 by omega⟩, Nat.zero_mod]
      rfl
    · have hne : q.val ≠ pair.val := fun he => hq (Fin.ext he)
      rw [Dev.flag_put_apart _ _ _ _ (Nat.le_refl _) ⟨Nat.le_refl _, show 28 + q.val < 32 by omega⟩
        (show 28 + q.val < 28 + pair.val ∨ 28 + pair.val < 28 + q.val by omega), h q hq]
  have hone := hbit ⟨i, hi3⟩
  rw [Dev.flag_bit _ rfl] at hone
  exact (congrArg ((d.put (wireFld m pair) 0).rd (R.ENC_STAT m)).getLsbD (Nat.add_comm i 28)).trans hone

/-- One field of an interface's status word cleared and a cause ended. -/
def Dev.encHealed (d : Dev) (f : Fld) (c i : Nat) : Dev := (d.put f 0).causeOff 5 c i

theorem Dev.encHealed_spec (d : Dev) (f : Fld) (c i : Nat) (hf : f.lo = f.hi ∧ f.hi < 32) : (d.encHealed f c i).flag f = false ∧
    (d.encHealed f c i).hasCause 5 c i = false ∧ (∀ x, x ≠ f.addr → (d.encHealed f c i).rd x = d.rd x) ∧ (d.encHealed f c i).still = d.still := by
  refine ⟨?_, Dev.causeOff_hasCause _ _ _ _, fun x hx => ?_, ?_⟩
  rotate_left
  · rw [Dev.encHealed, Dev.rd_congr (Dev.causeOff_reg _ _ _ _), Dev.rd_put_ne _ _ _ hx]
  · rw [Dev.encHealed, Dev.causeOff_still, Dev.put_still]
  rw [Dev.encHealed, Dev.flag, Dev.causeOff_get, Dev.get_put_same _ _ _ ⟨Nat.le_of_eq hf.1, hf.2⟩, Nat.zero_mod]
  rfl

theorem completes_encHealed {c : Instr} {f : Fld} {k i : Nat} {p : Dev → Prop} (hs : s.coreRuns) {g : Dev → Dev} (h : Runs c s g)
    (heq : g s.dev = s.dev.encHealed f k i) (hp : p (s.dev.encHealed f k i)) : Completes c s p :=
  completes_runs_eq _ h hs.1 heq rfl rfl hp

/-! ### Latches and reads (R441, R442) -/

/-- What a latch captures. -/
def Dev.encCaptured (d : Dev) (m : Nat) (sw : Bool) : Dev :=
  let d2 := (((d.wr (R.ENC_LAT_CNT m) (d.rd (R.ENC_POS m))).wr (R.ENC_LAT_ETS_LO m) (d.rd (R.ENC_ETS_LO m))).wr (R.ENC_LAT_ETS_HI m)
    (d.rd (R.ENC_ETS_HI m))).wr (R.ENC_LAT_PER m) (d.rd (R.ENC_PER m))
  ((((d2.put64 (R.ENC_LAT_TS_LO m) (R.ENC_LAT_TS_HI m) d.now).put (F.ENC_LAT_ST_READY m) 1).put (F.ENC_LAT_ST_SEEN m) 0).putB (F.ENC_LAT_ST_SW m) sw)

theorem Dev.encLatch_eq (d : Dev) (m : Nat) (sw : Bool) : d.encLatch m sw =
    (if d.flag (F.ENC_LAT_ST_READY m) && !d.flag (F.ENC_LAT_ST_SEEN m) then d.incSat (F.ENC_ECNT_LATOVR m) else d).encCaptured m sw := rfl

/-- The words that a latch writes. -/
def encLatWords (m : Nat) : List Nat :=
  [R.ENC_LAT_CNT m, R.ENC_LAT_ETS_LO m, R.ENC_LAT_ETS_HI m, R.ENC_LAT_PER m, R.ENC_LAT_TS_LO m, R.ENC_LAT_TS_HI m, R.ENC_LAT_ST m]

theorem Dev.encCaptured_rd (d : Dev) {m a : Nat} (sw : Bool) (h : a ∉ encLatWords m) : (d.encCaptured m sw).rd a = d.rd a := by
  simp only [encLatWords, List.mem_cons, List.not_mem_nil, or_false, not_or] at h
  obtain ⟨hcnt, hlo, hhi, hper, htlo, hthi, hst⟩ := h
  unfold Dev.encCaptured Dev.putB
  rw [Dev.rd_put_ne _ _ _ hst, Dev.rd_put_ne _ _ _ hst, Dev.rd_put_ne _ _ _ hst, Dev.rd_put64_ne _ _ htlo hthi, Dev.rd_wr_ne _ _ hper,
    Dev.rd_wr_ne _ _ hhi, Dev.rd_wr_ne _ _ hlo, Dev.rd_wr_ne _ _ hcnt]

theorem Dev.encCaptured_words (d : Dev) (m : Nat) (sw : Bool) : (d.encCaptured m sw).rd (R.ENC_LAT_CNT m) = d.rd (R.ENC_POS m) ∧
    (d.encCaptured m sw).rd (R.ENC_LAT_ETS_LO m) = d.rd (R.ENC_ETS_LO m) ∧ (d.encCaptured m sw).rd (R.ENC_LAT_ETS_HI m) = d.rd (R.ENC_ETS_HI m) ∧
    (d.encCaptured m sw).rd (R.ENC_LAT_PER m) = d.rd (R.ENC_PER m) ∧
    (d.encCaptured m sw).get64 (R.ENC_LAT_TS_LO m) (R.ENC_LAT_TS_HI m) = d.now % 2 ^ 64 := by
  unfold Dev.encCaptured Dev.putB
  refine ⟨?_, ?_, ?_, ?_, ?_⟩
  · rw [Dev.rd_put_ne _ _ _ (by simp), Dev.rd_put_ne _ _ _ (by simp), Dev.rd_put_ne _ _ _ (by simp), Dev.rd_put64_ne _ _ (by simp) (by simp),
      Dev.rd_wr_ne _ _ (by simp), Dev.rd_wr_ne _ _ (by simp), Dev.rd_wr_ne _ _ (by simp), Dev.rd_wr_same]
  · rw [Dev.rd_put_ne _ _ _ (by simp), Dev.rd_put_ne _ _ _ (by simp), Dev.rd_put_ne _ _ _ (by simp), Dev.rd_put64_ne _ _ (by simp) (by simp),
      Dev.rd_wr_ne _ _ (by simp), Dev.rd_wr_ne _ _ (by simp), Dev.rd_wr_same]
  · rw [Dev.rd_put_ne _ _ _ (by simp), Dev.rd_put_ne _ _ _ (by simp), Dev.rd_put_ne _ _ _ (by simp), Dev.rd_put64_ne _ _ (by simp) (by simp),
      Dev.rd_wr_ne _ _ (by simp), Dev.rd_wr_same]
  · rw [Dev.rd_put_ne _ _ _ (by simp), Dev.rd_put_ne _ _ _ (by simp), Dev.rd_put_ne _ _ _ (by simp), Dev.rd_put64_ne _ _ (by simp) (by simp),
      Dev.rd_wr_same]
  · rw [Dev.get64, Dev.rd_put_ne _ _ _ (by simp), Dev.rd_put_ne _ _ _ (by simp), Dev.rd_put_ne _ _ _ (by simp), Dev.rd_put_ne _ _ _ (by simp),
      Dev.rd_put_ne _ _ _ (by simp), Dev.rd_put_ne _ _ _ (by simp), ← Dev.get64, Dev.get64_put64_mod _ _ (by simp)]

theorem Dev.encCaptured_flags (d : Dev) (m : Nat) (sw : Bool) : (d.encCaptured m sw).flag (F.ENC_LAT_ST_READY m) = true ∧
    (d.encCaptured m sw).flag (F.ENC_LAT_ST_SEEN m) = false ∧ (d.encCaptured m sw).flag (F.ENC_LAT_ST_SW m) = sw := by
  unfold Dev.encCaptured
  refine ⟨?_, ?_, ?_⟩
  · rw [Dev.putB, Dev.flag, Dev.get_put_apart _ _ _ _ (by simp) (by simp) (by simp), Dev.get_put_apart _ _ _ _ (by simp) (by simp) (by simp),
      Dev.get_put_same _ _ _ (by simp)]
    rfl
  · rw [Dev.putB, Dev.flag, Dev.get_put_apart _ _ _ _ (by simp) (by simp) (by simp), Dev.get_put_same _ _ _ (by simp)]
    rfl
  · exact Dev.flag_putB _ _ _ (by simp)

theorem Dev.encCaptured_noRegs (d : Dev) (m : Nat) (sw : Bool) : (d.encCaptured m sw).noRegs = d.noRegs := by
  rw [Dev.encCaptured, Dev.putB, Dev.put_noRegs, Dev.put_noRegs, Dev.put_noRegs, Dev.put64_noRegs]
  rfl

/-- A latch before it captures: a value not seen yet is counted as lost (R442). -/
def Dev.encLost (d : Dev) (m : Nat) : Dev := if d.flag (F.ENC_LAT_ST_READY m) && !d.flag (F.ENC_LAT_ST_SEEN m) then d.incSat (F.ENC_ECNT_LATOVR m) else d

theorem Dev.encLost_onlyRegs (d : Dev) (m : Nat) : Dev.onlyRegs d (d.encLost m) [R.ENC_ECNT m] := by
  unfold Dev.encLost
  split
  · exact Dev.incSat_onlyRegs _ _
  · exact ⟨rfl, fun _ _ => rfl⟩

theorem Dev.encLost_count (d : Dev) (m : Nat) : (d.encLost m).get (F.ENC_ECNT_LATOVR m) =
    if d.flag (F.ENC_LAT_ST_READY m) && !d.flag (F.ENC_LAT_ST_SEEN m) then min (d.get (F.ENC_ECNT_LATOVR m) + 1) 255 else d.get (F.ENC_ECNT_LATOVR m) := by
  unfold Dev.encLost
  split
  · exact Dev.get_incSat_same d (F.ENC_ECNT_LATOVR m) (by simp)
  · rfl

theorem ecnt_notLat {m : Nat} (hm : m < 8) : R.ENC_ECNT m ∉ encLatWords m := by
  simp only [encLatWords, List.mem_cons, List.not_mem_nil, or_false, not_or]
  refine ⟨?_, ?_, ?_, ?_, ?_, ?_, ?_⟩
  · show 0x50408 + 4 * m ≠ 0x50024 + 0x80 * m; omega
  · show 0x50408 + 4 * m ≠ 0x50028 + 0x80 * m; omega
  · show 0x50408 + 4 * m ≠ 0x5002c + 0x80 * m; omega
  · show 0x50408 + 4 * m ≠ 0x50038 + 0x80 * m; omega
  · show 0x50408 + 4 * m ≠ 0x50030 + 0x80 * m; omega
  · show 0x50408 + 4 * m ≠ 0x50034 + 0x80 * m; omega
  · show 0x50408 + 4 * m ≠ 0x50040 + 0x80 * m; omega

theorem completes_encLatch {sw : Bool} (hs : s.coreRuns) : Completes (.encLatch m sw) s fun e =>
      e.rd (R.ENC_LAT_CNT m) = s.dev.rd (R.ENC_POS m) ∧ e.rd (R.ENC_LAT_ETS_LO m) = s.dev.rd (R.ENC_ETS_LO m) ∧ e.rd (R.ENC_LAT_ETS_HI m) = s.dev.rd (R.ENC_ETS_HI m)
        ∧ e.rd (R.ENC_LAT_PER m) = s.dev.rd (R.ENC_PER m) ∧ e.get64 (R.ENC_LAT_TS_LO m) (R.ENC_LAT_TS_HI m) = s.dev.now % 2 ^ 64
        ∧ e.flag (F.ENC_LAT_ST_READY m) = true ∧ e.flag (F.ENC_LAT_ST_SEEN m) = false ∧ e.flag (F.ENC_LAT_ST_SW m) = sw
        ∧ e.get (F.ENC_ECNT_LATOVR m) = (if s.dev.flag (F.ENC_LAT_ST_READY m) && !s.dev.flag (F.ENC_LAT_ST_SEEN m)
            then min (s.dev.get (F.ENC_ECNT_LATOVR m) + 1) 255 else s.dev.get (F.ENC_ECNT_LATOVR m))
        ∧ e.noRegs = s.dev.noRegs := by
  have honly := s.dev.encLost_onlyRegs m
  obtain ⟨hcnt, hlo, hhi, hper, hts⟩ := (s.dev.encLost m).encCaptured_words m sw
  obtain ⟨hready, hseen, hsw⟩ := (s.dev.encLost m).encCaptured_flags m sw
  have hrest : ((s.dev.encLost m).encCaptured m sw).noRegs = s.dev.noRegs := (Dev.encCaptured_noRegs _ _ _).trans honly.1
  have hnow : (s.dev.encLost m).now = s.dev.now := show (s.dev.encLost m).noRegs.now = s.dev.noRegs.now from congrArg Dev.now honly.1
  have hword : ∀ c, 0x50000 + 0x80 * m.val ≤ c → c < 0x50400 → (s.dev.encLost m).rd c = s.dev.rd c := fun c _ hc =>
    honly.2 c (by rw [List.mem_singleton]; show c ≠ 0x50408 + 4 * m.val; omega)
  refine completes_runs_eq _ (runs_core (fun d => d.encLatch m sw) rfl hs) hs.1 (Dev.encLatch_eq _ _ _) (Dev.noRegs_corks hrest) (Dev.noRegs_fab hrest)
    ⟨hcnt.trans (hword _ ?_ ?_), hlo.trans (hword _ ?_ ?_), hhi.trans (hword _ ?_ ?_), hper.trans (hword _ ?_ ?_), hts.trans (by rw [hnow]), hready,
      hseen, hsw, ?_, hrest⟩
  · show 0x50000 + 0x80 * m.val ≤ 0x50014 + 0x80 * m.val; omega
  · show 0x50014 + 0x80 * m.val < 0x50400; omega
  · show 0x50000 + 0x80 * m.val ≤ 0x50018 + 0x80 * m.val; omega
  · show 0x50018 + 0x80 * m.val < 0x50400; omega
  · show 0x50000 + 0x80 * m.val ≤ 0x5001c + 0x80 * m.val; omega
  · show 0x5001c + 0x80 * m.val < 0x50400; omega
  · show 0x50000 + 0x80 * m.val ≤ 0x50020 + 0x80 * m.val; omega
  · show 0x50020 + 0x80 * m.val < 0x50400; omega
  · exact (congrArg (fldGet (F.ENC_ECNT_LATOVR m)) (Dev.encCaptured_rd _ sw (ecnt_notLat m.isLt))).trans (s.dev.encLost_count m)

theorem Dev.latchRead_rest (d : Dev) (req lo : Nat) (l : List Nat) :
    { d.latchRead req lo l with bus := d.bus, preq := d.preq, fltNew := d.fltNew } = d := by
  have hgen := d.latchRead_noRead req lo l
  have hreg := d.latchRead_reg req lo l
  calc { d.latchRead req lo l with bus := d.bus, preq := d.preq, fltNew := d.fltNew }
      = { d.latchRead req lo l with bus := d.bus, preq := d.preq, reg := d.reg, fltNew := d.fltNew } := by rw [← hreg]
    _ = d := Dev.noRead_rest hgen

end

/-- Settles O49: counts, faults and latches by the words of the interface that they write. -/
theorem encoders : Obligations.encoders := by
  unfold Obligations.encoders
  refine ⟨fun s m a b i hold stamp hs hm hp ha hb hi hidx hinv hkind hstep => completes_quadUp hs hm hp ha hb hi hidx hinv hkind hstep,
    fun s m sine cosine stamp hs hm => runs_congr (runs_core _ (show execEncCountChange m (.sincos sine cosine stamp) s = _ from rfl) hs) (if_pos hm),
    fun s m hs hm hamp => runs_congr (runs_core _ (show execAmpErr m s = _ from rfl) hs)
      ((if_pos hm).trans (if_neg (by rw [State.start, hamp]; exact Bool.false_ne_true))),
    fun s m hs => completes_encHealed (f := F.ENC_STAT_AMP m) hs (runs_core (fun d => d.encAmpOk m) rfl hs) rfl (Dev.encHealed_spec _ _ _ _ (by simp)),
    fun s m hs hm hi => runs_encIndexEdge_sincos hs hm hi, fun s m pair x hs hx hm hw => ?_, fun s m pair hs hother => ?_,
    fun s m sw hs => completes_encLatch hs, fun s req m hs => ?_, fun s req m hs => ?_, fun s req mask hs => ?_⟩
  · refine runs_congr (runs_core _ (show execWire m pair s = _ from rfl) hs) ?_
    simp only [State.start, hx]
    exact if_neg (by simp [hm, hw])
  · exact completes_encHealed (f := wireFld m pair) hs (runs_core _ (show execEncWireHealthy m pair s = _ from rfl) hs) (if_pos (Dev.wire_last hother))
      (Dev.encHealed_spec _ _ _ _ ⟨rfl, show 28 + pair.val < 32 by omega⟩)
  · have hrest := s.dev.latchRead_noRead req (R.ENC_POS m) [R.ENC_ETS_LO m, R.ENC_ETS_HI m, R.ENC_PER m]
    exact completes_runs_eq _ (runs_core (fun d => d.encPosRead req m) rfl hs) hs.1 rfl (Dev.noRead_corks hrest) (Dev.noRead_fab hrest)
      ⟨Dev.latchRead_bus _ _ _ _, Dev.latchRead_own _ _ _ (by simp), Dev.latchRead_own _ _ _ (by simp), Dev.latchRead_own _ _ _ (by simp),
        Dev.latchRead_rest _ _ _ _⟩
  · have hrest : (s.dev.encLatRead req m).noRead = s.dev.noRead := by rw [Dev.encLatRead, Dev.put_noRead, Dev.latchRead_noRead]
    refine completes_runs_eq _ (runs_core (fun d => d.encLatRead req m) rfl hs) hs.1 rfl (Dev.noRead_corks hrest) (Dev.noRead_fab hrest)
      ⟨?_, ?_, ?_, ?_, fun a ha => ?_, Dev.noRead_rest hrest⟩ <;> rw [State.start, Dev.encLatRead]
    · rw [Dev.put_bus, Dev.latchRead_bus]
    · rw [Dev.put_own, Dev.latchRead_own _ _ _ (by simp)]
    · rw [Dev.put_own, Dev.latchRead_own _ _ _ (by simp)]
    · rw [Dev.flag, Dev.get_put_same _ _ _ (by simp)]
      rfl
    · rw [Dev.rd_put_ne _ _ _ ha, Dev.rd_congr (Dev.latchRead_reg _ _ _ _)]
  · obtain ⟨hzero, hkept, hrest⟩ := s.dev.clrWords_spec (n := 8) (mask := mask) (A := R.ENC_ECNT) (fun i j h => by
      have h' : 0x50408 + 4 * j = 0x50408 + 4 * i := h
      omega)
    exact completes_runs_eq _ (runs_core (fun d => d.encCntClr mask) rfl hs) hs.1 rfl (Dev.noRegs_corks hrest) (Dev.noRegs_fab hrest)
      ⟨hzero, hkept, hrest⟩

end Sys2Proof.Machine

/-! PROOFS. Comparators, event routing and pins (R443-R451). -/

namespace Sys2Proof.Machine

/-! ### Comparators and pins -/

section
variable {s : State} {m : Fin 8} {mv : Nat}

/-- A comparator's input at a voltage. -/
def Dev.cmpVolt (d : Dev) (m mv : Nat) : Dev := d.setClr { d.clr with cin := smSet d.clr.cin 0 m mv }

theorem runs_cmpEvent (hs : s.celRuns) : Runs (.cmpEvent m mv) s fun d => d.cmpInput m mv := runs_cel _ rfl hs

theorem Dev.cmpInput_on {d : Dev} {m mv : Nat} (he : d.cflag (F.CMP_CFG_EN m) = true) (hslow : d.cflag F.CEL_STAT_SLOWOK = true) :
    d.cmpInput m mv = (d.cmpVolt m mv).cmpAwait m ((d.cmpVolt m mv).cs m).level
      (max 1 ((d.cmpVolt m mv).cget (F.CMP_CFG_DEB m)) * 2 ^ (d.cmpVolt m mv).cget (F.CMP_CFG_DIV m)) :=
  if_pos (show (d.cflag (F.CMP_CFG_EN m) && d.cflag F.CEL_STAT_SLOWOK) = true by rw [he, hslow]; rfl)

theorem Dev.cmpInput_off {d : Dev} {m : Nat} (mv : Nat) (he : d.cflag (F.CMP_CFG_EN m) = false) : d.cmpInput m mv = d.cmpVolt m mv :=
  if_neg (show ¬(d.cflag (F.CMP_CFG_EN m) && d.cflag F.CEL_STAT_SLOWOK) = true by rw [he]; exact Bool.false_ne_true)

theorem runs_gpioEdge_input {pin : Fin 64} {level : Bool} (hs : s.coreRuns) (ho : s.dev.abit (R.SYS_GPIO_OE 0) pin = false)
    (hl : s.dev.abit (R.SYS_GPIO_IN 0) pin ≠ level) :
    Runs (.gpioEdge pin level) s fun d => ((d.setAbit (R.SYS_GPIO_IN 0) pin level).icuPin (64 + pin) level).icuPin pin level :=
  runs_congr (runs_core _ (show execGpioEdge pin level s = _ from rfl) hs)
    ((if_neg (by rw [State.start, ho]; exact Bool.false_ne_true)).trans (if_neg (by rw [State.start]; simpa using hl)))

end

/-- Settles O50: each event by the branch of its operation that its state takes. -/
theorem comparatorsAndRouting : Obligations.comparators_and_routing := by
  unfold Obligations.comparators_and_routing
  refine ⟨fun s m mv x hs he hslow hx => runs_congr (runs_cmpEvent hs) ?_, fun s m mv hs he => ?_, fun s req mask hs => ?_,
    fun s req hs => runs_core _ rfl hs, fun s i u a t m hs hu ha hable hv hdist ht hle hm hf => ?_,
    fun s pin level hs ho hl => runs_gpioEdge_input hs ho hl, fun s pin level hs ho => ?_⟩
  · subst hx
    exact Dev.cmpInput_on he hslow
  · exact completes_runs_eq _ (runs_cmpEvent hs) hs.1 (Dev.cmpInput_off mv he) rfl rfl ⟨rfl, rfl⟩
  · obtain ⟨hzero, hkept, hrest⟩ := s.dev.clrWords_spec (n := 8) (mask := mask) (A := R.CMP_CNT) (fun i j h => by
      have h' : 0x180004 + 0x20 * j = 0x180004 + 0x20 * i := h
      omega)
    exact completes_runs_eq _ (runs_core (fun d => d.cmpCntClr mask) rfl hs) hs.1 rfl (Dev.noRegs_corks hrest) (Dev.noRegs_fab hrest)
      ⟨hzero, hkept, hrest⟩
  · refine runs_congr (runs_core (fun d => d.amTimed (32 + i.val)) rfl hs)
      ((Dev.amTimed_reached hu ha hable hv hdist ht hle).trans ((Dev.amReach_new hm hf).trans ?_))
    exact (if_neg (Nat.not_lt.2 (Nat.le_add_right 32 _))).trans (by rw [Nat.add_sub_cancel_left]; rfl)
  · exact completes_runs_eq s.dev (runs_core _ (show execGpioEdge pin level s = _ from rfl) hs) hs.1 (if_pos ho) rfl rfl rfl

end Sys2Proof.Machine

/-! PROOFS. The timers (R453-R460). -/

namespace Sys2Proof.Machine

/-! ### Matches and steps (R453, R455) -/

theorem Dev.tmrFed_stopped {d : Dev} {n : Nat} (k : Nat) (h : (d.tm n).run = false) : d.tmrFed k n = false := by
  cases k with
  | zero => rfl
  | succ k => rw [Dev.tmrFed, h, Bool.false_and]

theorem Dev.tmrSeek_stopped {d : Dev} {n : Nat} (k : Nat) (h : d.tmrFed 32 n = false) : d.tmrSeek n k = none := by
  cases k with
  | zero => rfl
  | succ k => rw [Dev.tmrSeek, h, Bool.not_false, if_pos rfl]

/-- The match comes with the next FAB cycle. -/
theorem Dev.tmrSeek_next {d : Dev} {n k : Nat} (hk : 0 < k) (hf : d.tmrFed 32 n = true) (hm : d.fabCycle.tmrEv.contains n = true) :
    d.tmrSeek n k = some d.fabCycle := by
  obtain ⟨j, rfl⟩ := Nat.exists_eq_add_of_lt hk
  rw [Nat.zero_add, Dev.tmrSeek, hf, Bool.not_true, if_neg Bool.false_ne_true]
  exact if_pos hm

/-- Timer n in a FAB cycle that brings it one input of FAB, its prescaler full. -/
theorem Dev.tmrStep_full {o d : Dev} {ev : List Nat} {tick : Bool} {n : Nat} (hw : (o.tm n).wait = false) (hr : (o.tm n).run = true)
    (hslv : o.tmrSlv n = 0) (hsrc : o.tmrSrc n = 1) (hq : (o.tm n).inq = 0) (hps : max 0x100 (o.get (F.TMR_CFG_PS n)) ≤ (o.tm n).acc + 0x100) :
    Dev.tmrStep o ev tick d n =
      (let t := { d.tm n with acc := (o.tm n).acc + 0x100 - max 0x100 (o.get (F.TMR_CFG_PS n)), cnt := ((o.tm n).cnt + 1) % 2 ^ 48 }
       if ((o.tm n).cnt + 1) % 2 ^ 48 = (o.tm n).cmp then (d.setTm n t).tmrMatch n else d.setTm n t) := by
  have hacc : ¬ (o.tm n).acc + 256 * b2n true < max 0x100 (o.get (F.TMR_CFG_PS n)) := Nat.not_lt.2 hps
  have h1 : ¬(1 : Nat) = 0 := by decide
  simp only [Dev.tmrStep, hw, hr, hslv, hsrc, hq, Bool.false_and, Bool.not_true, Bool.false_eq_true, if_false, Nat.lt_irrefl, decide_false,
    show ((0 : Nat) == 3) = false from rfl, show ((0 : Nat) == 1) = false from rfl, show ((0 : Nat) == 2) = false from rfl, Bool.or_self, h1, if_true,
    if_neg hacc]
  rfl

/-! ### Words and states of a timer -/

/-- The device without timers. -/
def Dev.noTmr (d : Dev) : Dev := { d with tmr := [], fltNew := [] }

/-- The device without timers and registers. -/
def Dev.noTmrReg (d : Dev) : Dev := { d with tmr := [], reg := [] }

theorem Dev.setTm_noTmrReg (d : Dev) (n : Nat) (t : Tmr) : (d.setTm n t).noTmrReg = d.noTmrReg := rfl
theorem Dev.put_noTmrReg (d : Dev) (f : Fld) (v : Nat) : (d.put f v).noTmrReg = d.noTmrReg := rfl
theorem Dev.wr_noTmrReg (d : Dev) (a : Nat) (w : Word) : (d.wr a w).noTmrReg = d.noTmrReg := rfl

theorem Dev.noTmrReg_rest {d e : Dev} (h : e.noTmrReg = d.noTmrReg) : { e with tmr := d.tmr, reg := d.reg } = d :=
  congrArg (fun x : Dev => { x with tmr := d.tmr, reg := d.reg }) h

theorem Dev.noTmrReg_rest' {d e : Dev} (h : e.noTmrReg = d.noTmrReg) : { e with tmr := d.tmr, reg := d.reg, fltNew := d.fltNew } = d :=
  congrArg (fun x : Dev => { x with tmr := d.tmr, reg := d.reg, fltNew := d.fltNew }) h

theorem Dev.noTmrReg_corks {d e : Dev} (h : e.noTmrReg = d.noTmrReg) : e.corks = d.corks :=
  show e.noTmrReg.corks = d.noTmrReg.corks from congrArg Dev.corks h

theorem Dev.noTmrReg_fab {d e : Dev} (h : e.noTmrReg = d.noTmrReg) : e.fab = d.fab :=
  show e.noTmrReg.fab = d.noTmrReg.fab from congrArg Dev.fab h

theorem Dev.setTm_rest (d : Dev) (n : Nat) (t : Tmr) : { d.setTm n t with tmr := d.tmr, fltNew := d.fltNew } = d := rfl
theorem Dev.setTm_rd (d : Dev) (n : Nat) (t : Tmr) (a : Nat) : (d.setTm n t).rd a = d.rd a := rfl
theorem Dev.setTm_get (d : Dev) (n : Nat) (t : Tmr) (f : Fld) : (d.setTm n t).get f = d.get f := rfl
theorem Dev.put_tm (d : Dev) (f : Fld) (v n : Nat) : (d.put f v).tm n = d.tm n := rfl
theorem Dev.wr_tm (d : Dev) (a : Nat) (w : Word) (n : Nat) : (d.wr a w).tm n = d.tm n := rfl
theorem Dev.causeOff_tm (d : Dev) (b c i n : Nat) : (d.causeOff b c i).tm n = d.tm n := rfl

theorem Dev.tmrEach_rest (d : Dev) (k : Nat) (p : Dev → Nat → Bool) (g : Tmr → Tmr) :
    { d.tmrEach k p g with tmr := d.tmr, fltNew := d.fltNew } = d := by
  have h : (d.tmrEach k p g).noTmr = d.noTmr := Dev.tmrEach_keeps d k Dev.noTmr fun _ _ _ => rfl
  exact congrArg (fun x : Dev => { x with tmr := d.tmr, fltNew := d.fltNew }) h

/-! ### Writes of TMRn_CTL (R457, R460) -/

/-- TMRn_CTL as a write of data leaves it while EN is not kept set. -/
def Dev.tmrCtlNew (d : Dev) (n data : Nat) : Word :=
  mix (d.rd (R.TMR_CTL n)) (BitVec.ofNat 32 data) (if n < 16 then 0xE000FFBF else 0xA71FFFBF)

theorem mix_getLsbD (w s : Word) (m : Nat) {i : Nat} (hm : m.testBit i = true) (hi : i < 32) : (mix w s m).getLsbD i = s.getLsbD i := by
  rw [mix, BitVec.getLsbD_or, BitVec.getLsbD_and, BitVec.getLsbD_and, BitVec.getLsbD_not, BitVec.getLsbD_ofNat, hm]
  simp [hi]

theorem Dev.tmrCtlNew_bit (d : Dev) (n data : Nat) {i : Nat} (hi : i < 32)
    (hm : (if n < 16 then 0xE000FFBF else 0xA71FFFBF : Nat).testBit i = true) : (d.tmrCtlNew n data).getLsbD i = bitOf data i := by
  rw [Dev.tmrCtlNew, mix_getLsbD _ _ _ hm hi, BitVec.getLsbD_ofNat, bitOf_eq_testBit, decide_eq_true hi, Bool.true_and]

theorem Dev.tmrCtlNew_en (d : Dev) (n data : Nat) : (d.tmrCtlNew n data).getLsbD 31 = bitOf data 31 := by
  refine d.tmrCtlNew_bit n data (by decide) ?_
  split <;> decide

theorem Dev.tmrCtlNew_gsync (d : Dev) {n : Nat} (data : Nat) (hn : n < 16) : (d.tmrCtlNew n data).getLsbD 30 = bitOf data 30 := by
  refine d.tmrCtlNew_bit n data (by decide) ?_
  rw [if_pos hn]
  decide

theorem Dev.tmrCtlNew_flags (d : Dev) (n : Nat) (w : Word) : (d.wr (R.TMR_CTL n) w).flag (F.TMR_CTL_EN n) = w.getLsbD 31 ∧
    (d.wr (R.TMR_CTL n) w).flag (F.TMR_CTL_GSYNC n) = w.getLsbD 30 := by
  constructor
  · rw [Dev.flag_bit _ rfl, Dev.rd_wr_same]
  · rw [Dev.flag_bit _ rfl, Dev.rd_wr_same]

theorem bitOf_or_two_pow (data i k : Nat) : bitOf (Nat.lor data (2 ^ k)) i = (bitOf data i || decide (k = i)) := by
  show bitOf (data ||| 2 ^ k) i = _
  rw [bitOf_or, bitOf_eq_testBit (2 ^ k), Nat.testBit_two_pow]

theorem Dev.tmrCtlWrite_enables {d : Dev} {n data : Nat} (he : d.flag (F.TMR_CTL_EN n) = false) (hb : bitOf data 31 = true) :
    d.tmrCtlWrite n data = (d.wr (R.TMR_CTL n) (d.tmrCtlNew n data)).tmrEnable n := by
  simp only [Dev.tmrCtlWrite, he, hb, Bool.false_and, Bool.false_eq_true, if_false, if_true]
  rfl

theorem Dev.tmrCtlWrite_stops {d : Dev} {n data : Nat} (he : d.flag (F.TMR_CTL_EN n) = true) (hb : bitOf data 31 = false) :
    d.tmrCtlWrite n data = (d.wr (R.TMR_CTL n) (d.tmrCtlNew n data)).tmrStop n := by
  simp only [Dev.tmrCtlWrite, he, hb, Bool.and_false, Bool.false_eq_true, if_false, if_true]
  rfl

theorem Dev.tmrSlv_low (d : Dev) {n : Nat} (h : n < 16) : d.tmrSlv n = 0 := by
  simp [Dev.tmrSlv, h]

/-- EN set on a timer of the first group: it starts, or waits for GO. -/
theorem Dev.tmrEnable_low (d : Dev) {n : Nat} (h : n < 16) : d.tmrEnable n = (d.causeOff 17 0 n).setTm n
    (if d.flag (F.TMR_CTL_GSYNC n) then { d.tm n with wait := true, since := d.fab } else (d.tm n).start) := by
  have h16 : decide (16 ≤ n) = false := decide_eq_false (by omega)
  simp only [Dev.tmrEnable, d.tmrSlv_low h, h16, Bool.false_and, Bool.false_eq_true, if_false, h, decide_true, Bool.true_and,
    if_neg (show ¬(0 : Nat) = 4 by decide)]
  split <;> rfl

section
variable {s : State} {n : Fin 32} {req : Fin 10} {data : Nat}

theorem runs_tmrEnable (hs : s.coreRuns) : Runs (.tmrEnable req n data) s fun d => d.tmrCtlWrite n (Nat.lor data (2 ^ 31)) := runs_core _ rfl hs
theorem runs_tmrDisable (hs : s.coreRuns) : Runs (.tmrDisable req n data) s fun d => d.tmrCtlWrite n (data % 2 ^ 31) := runs_core _ rfl hs

/-- A timer of the first group with EN set by a write. -/
def Dev.tmrEnabled (d : Dev) (n data : Nat) (t : Tmr) : Dev := ((d.wr (R.TMR_CTL n) (d.tmrCtlNew n data)).causeOff 17 0 n).setTm n t

theorem completes_tmrEnable {p : Dev → Prop} {t : Tmr} (hs : s.coreRuns) (hn : n.val < 16) (he : s.dev.flag (F.TMR_CTL_EN n) = false)
    (ht : (if bitOf data 30 then { s.dev.tm n with wait := true, since := s.dev.fab } else (s.dev.tm n).start) = t)
    (hp : p (s.dev.tmrEnabled n (Nat.lor data (2 ^ 31)) t)) : Completes (.tmrEnable req n data) s p := by
  have h31 : bitOf (Nat.lor data (2 ^ 31)) 31 = true := by rw [bitOf_or_two_pow, decide_eq_true rfl, Bool.or_true]
  have h30 : bitOf (Nat.lor data (2 ^ 31)) 30 = bitOf data 30 := by rw [bitOf_or_two_pow, decide_eq_false (by decide), Bool.or_false]
  refine completes_runs_eq _ (runs_tmrEnable hs) hs.1 ((Dev.tmrCtlWrite_enables he h31).trans (Dev.tmrEnable_low _ hn)) rfl rfl ?_
  rw [(s.dev.tmrCtlNew_flags n _).2, Dev.tmrCtlNew_gsync _ _ hn, h30, Dev.wr_tm]
  show p (s.dev.tmrEnabled n (Nat.lor data (2 ^ 31)) (if bitOf data 30 then { s.dev.tm n with wait := true, since := s.dev.fab } else (s.dev.tm n).start))
  rw [ht]
  exact hp

theorem Dev.tmrEnabled_tm (d : Dev) (n data : Nat) (t : Tmr) : (d.tmrEnabled n data t).tm n = t ∧ ∀ m, m ≠ n → (d.tmrEnabled n data t).tm m = d.tm m :=
  ⟨Dev.tm_setTm_same _ _ _, fun m hm => by rw [Dev.tmrEnabled, Dev.tm_setTm_ne _ _ hm, Dev.causeOff_tm, Dev.wr_tm]⟩

theorem Dev.tmrEnabled_en (d : Dev) (n data : Nat) (t : Tmr) : (d.tmrEnabled n data t).flag (F.TMR_CTL_EN n) = bitOf data 31 := by
  rw [Dev.tmrEnabled, Dev.setTm_flag, Dev.flag, Dev.causeOff_get, ← Dev.flag, (d.tmrCtlNew_flags n _).1, Dev.tmrCtlNew_en]

/-- A timer stopped. -/
def Tmr.stopped (t : Tmr) : Tmr := { t with run := false, wait := false, inq := 0, load := none }

theorem Dev.tmrStop_plain {d : Dev} {n : Nat} (h : ∀ p, (d.tm n).load = some p → p.1 ≠ d.fab) : d.tmrStop n = d.setTm n (d.tm n).stopped := by
  unfold Dev.tmrStop
  dsimp only
  split
  next f v counted hl => exact if_pos (h _ hl)
  next => rfl

theorem Dev.tmrStop_loads {d : Dev} {n v : Nat} {counted : Bool} (h : (d.tm n).load = some (d.fab, v, counted)) : d.tmrStop n =
    (d.setTm n { (d.tm n).stopped with cnt := v }).put F.TMR_CNT_WRREF (d.get F.TMR_CNT_WRREF - b2n counted) := by
  unfold Dev.tmrStop
  dsimp only
  rw [h]
  exact if_neg (not_not.2 rfl)

theorem bitOf_mod_31 (data : Nat) : bitOf (data % 2 ^ 31) 31 = false := by
  rw [bitOf_eq_testBit, Nat.testBit_mod_two_pow, decide_eq_false (by decide), Bool.false_and]

/-- TMRn_CTL written with EN clear. -/
def Dev.tmrOff (d : Dev) (n data : Nat) : Dev := d.wr (R.TMR_CTL n) (d.tmrCtlNew n (data % 2 ^ 31))

theorem Dev.tmrOff_tm (d : Dev) (n data m : Nat) : (d.tmrOff n data).tm m = d.tm m := rfl

theorem Dev.tmrOff_en (d : Dev) (n data : Nat) : (d.tmrOff n data).flag (F.TMR_CTL_EN n) = false := by
  rw [Dev.tmrOff, (d.tmrCtlNew_flags n _).1, Dev.tmrCtlNew_en, bitOf_mod_31]

theorem completes_tmrDisable_plain (hs : s.coreRuns) (he : s.dev.flag (F.TMR_CTL_EN n) = true) (hl : ∀ p, (s.dev.tm n).load = some p → p.1 ≠ s.dev.fab) :
    Completes (.tmrDisable req n data) s fun e =>
        (e.tm n).run = false ∧ (e.tm n).wait = false ∧ (e.tm n).cnt = (s.dev.tm n).cnt ∧ e.flag (F.TMR_CTL_EN n) = false ∧ (∀ m, m ≠ n.val → e.tm m = s.dev.tm m)
        ∧ (∀ a, a ≠ R.TMR_CTL n → e.rd a = s.dev.rd a) ∧ { e with tmr := s.dev.tmr, reg := s.dev.reg, fltNew := s.dev.fltNew } = s.dev := by
  have htm : ((s.dev.tmrOff n data).setTm n (s.dev.tm n).stopped).tm n = (s.dev.tm n).stopped := Dev.tm_setTm_same _ _ _
  have hrest : ((s.dev.tmrOff n data).setTm n (s.dev.tm n).stopped).noTmrReg = s.dev.noTmrReg := by
    rw [Dev.setTm_noTmrReg, Dev.tmrOff, Dev.wr_noTmrReg]
  refine completes_runs_eq _ (runs_tmrDisable hs) hs.1 ((Dev.tmrCtlWrite_stops he (bitOf_mod_31 data)).trans (Dev.tmrStop_plain (d := s.dev.tmrOff n data) hl))
    (Dev.noTmrReg_corks hrest) (Dev.noTmrReg_fab hrest)
    ⟨congrArg Tmr.run htm, congrArg Tmr.wait htm, (congrArg Tmr.cnt htm).trans rfl, s.dev.tmrOff_en n data, fun m hm => ?_, fun a ha => ?_, Dev.noTmrReg_rest' hrest⟩
  · rw [Dev.tm_setTm_ne _ _ hm, Dev.tmrOff_tm]
  · rw [Dev.setTm_rd, Dev.tmrOff, Dev.rd_wr_ne _ _ ha]

theorem tmrCnt_ne_ctl (n : Fin 32) : R.TMR_CNT ≠ R.TMR_CTL n := by
  revert n
  decide

theorem completes_tmrDisable_loads {v : Nat} {counted : Bool} (hs : s.coreRuns) (he : s.dev.flag (F.TMR_CTL_EN n) = true)
    (hl : (s.dev.tm n).load = some (s.dev.fab, v, counted)) : Completes (.tmrDisable req n data) s fun e =>
        (e.tm n).run = false ∧ (e.tm n).cnt = v ∧ e.get F.TMR_CNT_WRREF = s.dev.get F.TMR_CNT_WRREF - b2n counted ∧
          (∀ m, m ≠ n.val → e.tm m = s.dev.tm m) ∧ { e with tmr := s.dev.tmr, reg := s.dev.reg } = s.dev := by
  have hcnt : (s.dev.tmrOff n data).get F.TMR_CNT_WRREF = s.dev.get F.TMR_CNT_WRREF :=
    Dev.get_wr_ne _ _ (tmrCnt_ne_ctl n)
  have hlt : s.dev.get F.TMR_CNT_WRREF < 256 := s.dev.get_lt F.TMR_CNT_WRREF
  have htm : (((s.dev.tmrOff n data).setTm n { (s.dev.tm n).stopped with cnt := v }).put F.TMR_CNT_WRREF
      ((s.dev.tmrOff n data).get F.TMR_CNT_WRREF - b2n counted)).tm n = { (s.dev.tm n).stopped with cnt := v } := by
    rw [Dev.put_tm, Dev.tm_setTm_same]
  have hrest : (((s.dev.tmrOff n data).setTm n { (s.dev.tm n).stopped with cnt := v }).put F.TMR_CNT_WRREF
      ((s.dev.tmrOff n data).get F.TMR_CNT_WRREF - b2n counted)).noTmrReg = s.dev.noTmrReg := by
    rw [Dev.put_noTmrReg, Dev.setTm_noTmrReg, Dev.tmrOff, Dev.wr_noTmrReg]
  refine completes_runs_eq _ (runs_tmrDisable hs) hs.1
    ((Dev.tmrCtlWrite_stops he (bitOf_mod_31 data)).trans (Dev.tmrStop_loads (d := s.dev.tmrOff n data) hl))
    (Dev.noTmrReg_corks hrest) (Dev.noTmrReg_fab hrest) ⟨congrArg Tmr.run htm, congrArg Tmr.cnt htm, ?_, fun m hm => ?_, Dev.noTmrReg_rest hrest⟩
  · rw [Dev.get_put_same _ _ _ (by decide), hcnt]
    exact Nat.mod_eq_of_lt (Nat.lt_of_le_of_lt (Nat.sub_le _ _) hlt)
  · rw [Dev.put_tm, Dev.tm_setTm_ne _ _ hm, Dev.tmrOff_tm]

/-! ### Words of compare and count (R454, R456) -/

theorem completes_setTm {c : Instr} {s : State} {f : Dev → Dev} {n : Nat} {t : Tmr} {p : Dev → Prop} (h : Runs c s f) (hs : s.dev.corksFresh)
    (heq : f s.dev = s.dev.setTm n t) (hp : p (s.dev.setTm n t)) : Completes c s p :=
  completes_runs_eq _ h hs heq rfl rfl hp

/-- A load of a running timer's counter: refused, and kept for an EN cleared in the same FAB cycle. -/
def Dev.tmrLoadRefused (d : Dev) (n v : Nat) : Dev :=
  d.tmrRefuse.setTm n { d.tmrRefuse.tm n with load := some (d.fab, v, d.tmrRefuse.get F.TMR_CNT_WRREF != d.get F.TMR_CNT_WRREF) }

theorem Dev.tmrCntHi_running {d : Dev} {req n : Nat} (data : Nat) (h : (d.tm n).run = true) :
    d.tmrCntHi req n data = d.tmrLoadRefused n (data % 2 ^ 16 * 2 ^ 32 + (d.own req (R.TMR_CNT_LO n)).toNat) := if_pos h

theorem Dev.tmrCntHi_stopped {d : Dev} {req n : Nat} (data : Nat) (h : (d.tm n).run = false) :
    d.tmrCntHi req n data = d.setTm n { d.tm n with cnt := data % 2 ^ 16 * 2 ^ 32 + (d.own req (R.TMR_CNT_LO n)).toNat } :=
  if_neg (by rw [h]; exact Bool.false_ne_true)

theorem Dev.tmrRefuse_tm (d : Dev) (n : Nat) : d.tmrRefuse.tm n = d.tm n := rfl

theorem Dev.noRegs_setTm (d : Dev) (n : Nat) (t : Tmr) (l : SMap Tmr) : ({ (d.setTm n t).noRegs with tmr := l } : Dev) = { d.noRegs with tmr := l } := rfl

theorem completes_tmrCntHi_running (hs : s.coreRuns) (hr : (s.dev.tm n).run = true) : Completes (.tmrCntHiWrite req n data) s fun e =>
      e.get F.TMR_CNT_WRREF = min (s.dev.get F.TMR_CNT_WRREF + 1) 255 ∧ (e.tm n).cnt = (s.dev.tm n).cnt ∧ (e.tm n).cmp = (s.dev.tm n).cmp
        ∧ (e.tm n).run = true ∧ (∀ m, m ≠ n.val → e.tm m = s.dev.tm m) ∧ (∀ a, a ≠ R.TMR_CNT → e.rd a = s.dev.rd a)
        ∧ { e.noRegs with tmr := s.dev.tmr } = s.dev.noRegs := by
  have honly : Dev.onlyRegs s.dev s.dev.tmrRefuse [R.TMR_CNT] := Dev.incSat_onlyRegs _ _
  have htm : ∀ v, (s.dev.tmrLoadRefused n v).tm n =
      { s.dev.tmrRefuse.tm n with load := some (s.dev.fab, v, s.dev.tmrRefuse.get F.TMR_CNT_WRREF != s.dev.get F.TMR_CNT_WRREF) } := fun v =>
    Dev.tm_setTm_same _ _ _
  refine completes_runs_eq _ (runs_core (fun d => d.tmrCntHi req n data) rfl hs) hs.1 (Dev.tmrCntHi_running data hr) honly.corks honly.fab
    ⟨?_, (congrArg Tmr.cnt (htm _)).trans rfl, (congrArg Tmr.cmp (htm _)).trans rfl, (congrArg Tmr.run (htm _)).trans hr, fun m hm => ?_, fun a ha => ?_, ?_⟩
  · rw [Dev.tmrLoadRefused, Dev.setTm_get]
    exact Dev.get_incSat_same _ F.TMR_CNT_WRREF (by decide)
  · rw [Dev.tmrLoadRefused, Dev.tm_setTm_ne _ _ hm, Dev.tmrRefuse_tm, State.start]
  · rw [Dev.tmrLoadRefused, Dev.setTm_rd]
    exact honly.2 a (by simpa using ha)
  · rw [Dev.tmrLoadRefused, Dev.noRegs_setTm, State.start, honly.1]
    rfl

end

/-- Settles O51: steps and matches by Dev.tmrStep, writes of a timer's registers by what they store. -/
theorem timers : Obligations.timers := by
  unfold Obligations.timers
  refine ⟨fun s n hs hf hm => runs_congr (runs_core _ (show execTmrMatch n s = _ from rfl) hs) ?_,
    fun s n x hs hx => runs_congr (runs_core _ (show execTmrMatch n s = _ from rfl) hs) ?_,
    fun o d ev tick n hw hr hslv hsrc hq hps => Dev.tmrStep_full hw hr hslv hsrc hq hps, fun d n ha => ?_, fun s n hs hr => ?_, fun s req n data hs => ?_,
    fun s req n data hs => ?_, fun s req n data hs hr => ?_, fun s req n data hs hr => completes_tmrCntHi_running hs hr,
    fun s req n data hs hn he hb => ?_, fun s req n data hs hn he hb => ?_, fun s req n data hs he hl => completes_tmrDisable_plain hs he hl,
    fun s req n data v counted hs he hl => completes_tmrDisable_loads hs he hl, fun s req hs => ?_, fun s req hs => ?_, fun s req hs => ?_⟩
  · rw [State.start, Dev.tmrSeek_next (Nat.two_pow_pos 64) hf hm, Option.getD_some]
  · rw [State.start, hx, Option.getD_some]
  · simp only [Dev.tmrMatch, ha, Bool.false_eq_true, if_false]
    rfl
  · exact completes_runs_eq s.dev (runs_core _ (show execTmrMatch n s = _ from rfl) hs) hs.1
      (by rw [State.start, Dev.tmrSeek_stopped _ (Dev.tmrFed_stopped _ hr), Option.getD_none]) rfl rfl rfl
  · exact completes_runs_eq _ (runs_core (fun d => d.setOwn req (R.TMR_CMP_LO n) (BitVec.ofNat 32 data)) rfl hs) hs.1 rfl rfl rfl
      ⟨Dev.own_setOwn_same _ _ _ _, Dev.setOwn_rest _ _ _ _⟩
  · exact completes_setTm (runs_core (fun d => d.tmrCmpHi req n data) rfl hs) hs.1 rfl
      ⟨congrArg Tmr.cmp (Dev.tm_setTm_same _ _ _), (congrArg Tmr.cnt (Dev.tm_setTm_same _ _ _)).trans rfl, fun m hm => Dev.tm_setTm_ne _ _ hm, Dev.setTm_rest _ _ _⟩
  · exact completes_setTm (runs_core (fun d => d.tmrCntHi req n data) rfl hs) hs.1 (Dev.tmrCntHi_stopped data hr)
      ⟨congrArg Tmr.cnt (Dev.tm_setTm_same _ _ _), (congrArg Tmr.cmp (Dev.tm_setTm_same _ _ _)).trans rfl, fun m hm => Dev.tm_setTm_ne _ _ hm, Dev.setTm_rest _ _ _⟩
  · obtain ⟨htm, hother⟩ := s.dev.tmrEnabled_tm n (Nat.lor data (2 ^ 31)) (s.dev.tm n).start
    refine completes_tmrEnable hs hn he (by rw [hb]; exact if_neg Bool.false_ne_true)
      ⟨congrArg Tmr.run htm, congrArg Tmr.wait htm, (congrArg Tmr.cnt htm).trans rfl, ?_, hother⟩
    rw [Dev.tmrEnabled_en, bitOf_or_two_pow, decide_eq_true rfl, Bool.or_true]
  · obtain ⟨htm, hother⟩ := s.dev.tmrEnabled_tm n (Nat.lor data (2 ^ 31)) { s.dev.tm n with wait := true, since := s.dev.fab }
    exact completes_tmrEnable hs hn he (if_pos hb) ⟨congrArg Tmr.wait htm, congrArg Tmr.since htm, (congrArg Tmr.run htm).trans rfl, hother⟩
  · refine completes_run_eq (fun d => d.tmrGctl 1) rfl hs (Dev.tmrGctl_go _ rfl rfl) (by simp) (by simp)
      ⟨fun n hn hw hf => ?_, fun n hn hno => ?_, fun n hn => ?_, Dev.tmrEach_rest _ _ _ _⟩
    · rw [Dev.tm_go, if_pos ⟨hn, hw, hf⟩]
    · refine (Dev.tm_go _ _).trans (if_neg fun ⟨_, hw, hf⟩ => ?_)
      rcases hno with h | h
      · rw [h] at hw
        cases hw
      · exact hf h
    · exact (Dev.tm_go _ _).trans (if_neg fun h => absurd h.1 (Nat.not_lt.2 hn))
  · refine completes_run_eq (fun d => d.tmrGctl 2) rfl hs (Dev.tmrGctl_stop _ rfl) (by simp) (by simp)
      ⟨fun n hn hr hg => ?_, fun n hn hr => ?_, fun n hn hg => ?_, fun n hn => ?_, Dev.tmrEach_rest _ _ _ _⟩
    · rw [Dev.tm_stop, if_pos ⟨hn, hr, hg⟩]
    · exact (Dev.tm_stop _ _).trans (if_neg fun ⟨_, h, _⟩ => by rw [hr] at h; cases h)
    · exact (Dev.tm_stop _ _).trans (if_neg fun ⟨_, _, h⟩ => by rw [hg] at h; cases h)
    · exact (Dev.tm_stop _ _).trans (if_neg fun h => absurd h.1 (Nat.not_lt.2 hn))
  · refine completes_runs_eq (s.dev.put F.TMR_CNT_WRREF 0) (runs_core (fun d => d.put F.TMR_CNT_WRREF 0) rfl hs) hs.1 rfl (Dev.put_corks _ _ _)
      (Dev.put_fab _ _ _) ⟨?_, s.dev.put_onlyRegs _ _⟩
    rw [Dev.get_put_same _ _ _ (by decide), Nat.zero_mod]

end Sys2Proof.Machine

/-! PROOFS. Racking channels (R461-R471). -/

namespace Sys2Proof.Machine

section
variable {s : State}

/-- Nothing but the queues of the racking engine differs. -/
def Dev.setRak (d : Dev) (r : Rak) : Dev := { d with rak := r }

theorem Dev.setRak_rest (d : Dev) (r : Rak) : { d.setRak r with rak := d.rak, fltNew := d.fltNew } = d := rfl

/-- A request behind all others: none of a higher channel came in the same FAB cycle. -/
theorem rakIns_last {came : SMap Nat} {fab n : Nat} {l : List Nat} (h : ∀ m ∈ l, m < n ∨ smGet came 0 m ≠ fab) : rakIns came fab n l = l ++ [n] := by
  induction l with
  | nil => rfl
  | cons m r ih =>
    have hm : (smGet came 0 m == fab && decide (n < m)) = false := by
      rcases h m List.mem_cons_self with hlt | hne
      · rw [decide_eq_false (by omega), Bool.and_false]
      · rw [beq_false_of_ne hne, Bool.false_and]
    rw [rakIns, hm, if_neg Bool.false_ne_true, ih fun x hx => h x (List.mem_cons_of_mem _ hx), List.cons_append]

theorem Dev.rakRequest_new {d : Dev} {n : Nat} (he : d.flag (F.RK_CTL_EN n) = true) (hq : d.rak.queue.contains n = false) : d.rakRequest n =
    d.setRak { d.rak with queue := rakIns d.rak.came d.fab n d.rak.queue, came := smSet d.rak.came 0 n d.fab } := by
  simp only [Dev.rakRequest, he, hq, Bool.not_true, Bool.false_eq_true, if_false]
  rfl

theorem Dev.rakRequest_again {d : Dev} {n : Nat} (he : d.flag (F.RK_CTL_EN n) = true) (hq : d.rak.queue.contains n = true) :
    d.rakRequest n = d.incSat (F.RK_STAT_OVR n) := by
  simp only [Dev.rakRequest, he, hq, Bool.not_true, Bool.false_eq_true, if_false, if_true]

theorem runs_rakTransferStart {n : Nat} {r : List Nat} (hs : s.coreRuns) (hr : s.dev.rak.running = none) (hq : s.dev.rak.queue = n :: r) :
    Runs .rakTransferStart s fun d => (d.rakWait n).rakBegin := by
  refine runs_congr (runs_core _ (show execRakTransferStart s = _ from rfl) hs) ?_
  simp only [State.start, hr, hq]

theorem runs_rakTransferEnd {n : Nat} {host : List Nat} {fail : Option Nat} (hs : s.coreRuns) (hr : s.dev.rak.running = some n) :
    Runs (.rakTransferEnd host fail) s fun d => (d.rakAwait n).rakMove n host fail (d.rakLeft n) := by
  refine runs_congr (runs_core _ (show execRakTransferEnd host fail s = _ from rfl) hs) ?_
  simp only [State.start, hr]

/-- No element is left. -/
theorem Dev.rakMove_done {x : Dev} {n : Nat} (host : List Nat) (fail : Option Nat) (h : x.rak.running = some n) :
    x.rakMove n host fail 0 = ((((((x.setRak { x.rak with running := none }).put (F.RK_STAT_ERR n) 0).put (F.RK_STAT_ECODE n) 0).incWrap
      (F.RK_STAT_DONE n)).route (125 + n)).icuArrive (144 + n)) := by
  rw [Dev.rakMove, if_pos h]
  rfl

theorem Dev.rakLeft_zero {d : Dev} {n : Nat} (h : d.get (F.RK_REM_REM n) < d.rakEsz n) : d.rakLeft n = 0 := Nat.div_eq_of_lt h

/-! ### A channel disabled (R470) -/

/-- The queues without channel n. -/
def Rak.without (r : Rak) (n : Nat) : Rak :=
  { r with running := if r.running == some n then none else r.running, queue := r.queue.filter (· != n), begun := r.begun.filter (· != n) }

theorem Rak.without_running (r : Rak) (n : Nat) : (r.without n).running ≠ some n := by
  unfold Rak.without
  dsimp only
  split
  · exact fun h => by cases h
  next h => simpa using h

theorem Rak.without_other {r : Rak} {n : Nat} (h : r.running ≠ some n) : (r.without n).running = r.running :=
  if_neg (by simpa using h)

/-- A channel's flags cleared and the channel out of the queues. -/
def Dev.rakGone (d : Dev) (n : Nat) : Dev :=
  let d1 := (d.put (F.RK_CTL_EN n) 0).put (F.RK_STAT_ERR n) 0
  d1.setRak (d1.rak.without n)

/-- A register takes a free value. -/
def Dev.wrFree (d : Dev) (a : Nat) : Dev := let q := d.drawFree; q.2.wr a q.1

theorem Dev.rakDisable_eq (d : Dev) (n : Nat) : d.rakDisable n =
    [R.RK_SPTR_LO n, R.RK_SPTR_HI n, R.RK_DPTR_LO n, R.RK_DPTR_HI n].foldl Dev.wrFree
      ((d.rakGone n).drawFree.2.put (F.RK_REM_REM n) (d.rakGone n).drawFree.1.toNat) := rfl

/-- The device without the racking engine, the count of free values and the registers. -/
def Dev.noRak (d : Dev) : Dev := { d with rak := rak0, draw := 0, reg := [] }

theorem Dev.put_noRak (d : Dev) (f : Fld) (v : Nat) : (d.put f v).noRak = d.noRak := rfl
theorem Dev.wrFree_noRak (d : Dev) (a : Nat) : (d.wrFree a).noRak = d.noRak := rfl
theorem Dev.drawFree_noRak (d : Dev) : d.drawFree.2.noRak = d.noRak := rfl
theorem Dev.setRak_noRak (d : Dev) (r : Rak) : (d.setRak r).noRak = d.noRak := rfl
theorem Dev.noRak_rest {d e : Dev} (h : e.noRak = d.noRak) : { e with rak := d.rak, draw := d.draw, reg := d.reg } = d :=
  congrArg (fun x : Dev => { x with rak := d.rak, draw := d.draw, reg := d.reg }) h

theorem Dev.wrFree_rd (d : Dev) {a b : Nat} (h : b ≠ a) : (d.wrFree a).rd b = d.rd b := Dev.rd_wr_ne _ _ h
theorem Dev.wrFree_rak (d : Dev) (a : Nat) : (d.wrFree a).rak = d.rak := rfl
theorem Dev.drawFree_rd (d : Dev) (a : Nat) : d.drawFree.2.rd a = d.rd a := rfl
theorem Dev.drawFree_rak (d : Dev) : d.drawFree.2.rak = d.rak := rfl
theorem Dev.setRak_rak (d : Dev) (r : Rak) : (d.setRak r).rak = r := rfl
theorem Dev.setRak_get (d : Dev) (r : Rak) (f : Fld) : (d.setRak r).get f = d.get f := rfl

theorem Dev.rakGone_flags (d : Dev) (n : Nat) : (d.rakGone n).flag (F.RK_CTL_EN n) = false ∧ (d.rakGone n).flag (F.RK_STAT_ERR n) = false := by
  constructor
  · rw [Dev.rakGone, Dev.flag, Dev.setRak_get, Dev.get_put_ne _ _ _ _ (by simp), Dev.get_put_same _ _ _ (by simp)]
    rfl
  · rw [Dev.rakGone, Dev.flag, Dev.setRak_get, Dev.get_put_same _ _ _ (by simp)]
    rfl

/-- Pointers and remainder of the disabled channel are the only registers that take free values. -/
theorem Dev.rakDisable_rd (d : Dev) (n : Nat) {a : Nat} (h : a ∉ [R.RK_REM n, R.RK_SPTR_LO n, R.RK_SPTR_HI n, R.RK_DPTR_LO n, R.RK_DPTR_HI n]) :
    (d.rakDisable n).rd a = (d.rakGone n).rd a := by
  simp only [List.mem_cons, List.not_mem_nil, or_false, not_or] at h
  obtain ⟨hrem, hslo, hshi, hdlo, hdhi⟩ := h
  rw [Dev.rakDisable_eq]
  simp only [List.foldl_cons, List.foldl_nil]
  rw [Dev.wrFree_rd _ hdhi, Dev.wrFree_rd _ hdlo, Dev.wrFree_rd _ hshi, Dev.wrFree_rd _ hslo, Dev.rd_put_ne _ _ _ hrem, Dev.drawFree_rd]

theorem Dev.rakDisable_rak (d : Dev) (n : Nat) : (d.rakDisable n).rak = d.rak.without n := by
  rw [Dev.rakDisable_eq]
  simp only [List.foldl_cons, List.foldl_nil]
  rw [Dev.wrFree_rak, Dev.wrFree_rak, Dev.wrFree_rak, Dev.wrFree_rak, Dev.put_rak, Dev.drawFree_rak, Dev.rakGone,
    Dev.setRak_rak, Dev.put_rak, Dev.put_rak]

theorem Dev.rakDisable_rest (d : Dev) (n : Nat) : (d.rakDisable n).noRak = d.noRak := by
  rw [Dev.rakDisable_eq]
  simp only [List.foldl_cons, List.foldl_nil]
  rw [Dev.wrFree_noRak, Dev.wrFree_noRak, Dev.wrFree_noRak, Dev.wrFree_noRak, Dev.put_noRak, Dev.drawFree_noRak, Dev.rakGone, Dev.setRak_noRak,
    Dev.put_noRak, Dev.put_noRak]

theorem Dev.noRak_corks {d e : Dev} (h : e.noRak = d.noRak) : e.corks = d.corks := show e.noRak.corks = d.noRak.corks from congrArg Dev.corks h
theorem Dev.noRak_fab {d e : Dev} (h : e.noRak = d.noRak) : e.fab = d.fab := show e.noRak.fab = d.noRak.fab from congrArg Dev.fab h

theorem runs_rakDisable {req : Fin 10} {n : Fin 16} (hs : s.coreRuns) (he : s.dev.flag (F.RK_CTL_EN n) = true) :
    Runs (.rakDisable req n) s fun d => d.rakCatch.rakDisable n :=
  runs_congr (runs_core _ (show execRakDisable req n s = _ from rfl) hs) (if_pos he)

/-! ### Counters -/

/-- The counts of one channel cleared. -/
def Dev.rakCntClr1 (d : Dev) (n : Nat) : Dev := (d.put (F.RK_STAT_OVR n) 0).put (F.RK_STAT_DONE n) 0

theorem Dev.rakCntClr1_clears (d : Dev) (n : Nat) : d.Clears (· = R.RK_STAT n) (d.rakCntClr1 n) :=
  ((Dev.Clears.refl (· = R.RK_STAT n) d).put (f := F.RK_STAT_OVR n) rfl (show 16 ≤ 23 by decide)).put (f := F.RK_STAT_DONE n) rfl (Nat.zero_le _)

theorem Dev.rakCntClr1_counts (d : Dev) (n : Nat) : (d.rakCntClr1 n).get (F.RK_STAT_OVR n) = 0 ∧ (d.rakCntClr1 n).get (F.RK_STAT_DONE n) = 0 := by
  unfold Dev.rakCntClr1
  constructor
  · rw [Dev.get_put_apart _ _ _ _ (by simp) (by simp) (by simp), Dev.get_put_same _ _ _ (by simp), Nat.zero_mod]
  · rw [Dev.get_put_same _ _ _ (by simp), Nat.zero_mod]

theorem Dev.rakCntClr_err (d : Dev) (mask n : Nat) : (d.rakCntClr mask).flag (F.RK_STAT_ERR n) = d.flag (F.RK_STAT_ERR n) := by
  refine forN_keeps (fun x => x.flag (F.RK_STAT_ERR n)) (fun x i => ?_) 16 d
  split
  · exact (Dev.flag_put_apart _ _ _ _ (by simp) (by simp) (by simp)).trans (Dev.flag_put_apart _ _ _ _ (by simp) (by simp) (by simp))
  · rfl

end

/-- Settles O52: requests by where they join the queue, a transfer without elements by its end, a disabled channel by what it
leaves. -/
theorem rackingChannels : Obligations.racking_channels := by
  unfold Obligations.racking_channels
  refine ⟨fun s n hs he hq => ?_, fun s n hs he hq => ?_, fun s n r hs hr hq => runs_rakTransferStart hs hr hq,
    fun s n host fail hs hr => runs_rakTransferEnd hs hr, fun s n host fail x hs hr hlt hx hxr => runs_congr (runs_rakTransferEnd hs hr) ?_,
    fun s req n hs hfresh he => ?_, fun s req mask hs => ?_⟩
  · exact completes_runs_eq _ (runs_core (fun d => d.rakRequest n) rfl hs) hs.1 (Dev.rakRequest_new he hq) rfl rfl
      ⟨rfl, fun h => rakIns_last h, rfl, Dev.setRak_rest _ _⟩
  · exact completes_runs_eq _ (runs_core (fun d => d.rakRequest n) rfl hs) hs.1 (Dev.rakRequest_again he hq) (Dev.incSat_corks _ _)
      (Dev.incSat_fab _ _) ⟨Dev.get_incSat_same _ (F.RK_STAT_OVR n) (by simp), Dev.incSat_onlyRegs _ _⟩
  · rw [State.start, hx, Dev.rakLeft_zero hlt]
    exact Dev.rakMove_done host fail hxr
  · obtain ⟨hen, herr⟩ := s.busDev.rakGone_flags n
    have hrest := s.busDev.rakDisable_rest n
    have hrak := s.busDev.rakDisable_rak n
    have hflag : ∀ f : Fld, f.addr ∉ [R.RK_REM n, R.RK_SPTR_LO n, R.RK_SPTR_HI n, R.RK_DPTR_LO n, R.RK_DPTR_HI n] →
        (s.busDev.rakDisable n).flag f = (s.busDev.rakGone n).flag f := fun f hf => by
      rw [Dev.flag, Dev.get, Dev.rakDisable_rd _ _ hf, ← Dev.get, ← Dev.flag]
    refine completes_of_runs (runs_rakDisable hs he) ((Dev.corksFresh_congr (Dev.noRak_corks hrest) (Dev.noRak_fab hrest)).2 hfresh)
      ⟨(hflag _ (by simp)).trans hen, (hflag _ (by simp)).trans herr, congrArg Rak.queue hrak, ?_, fun hne => ?_, Dev.noRak_rest hrest⟩
    · exact fun h => Rak.without_running _ _ ((congrArg Rak.running hrak).symm.trans h)
    · exact (congrArg Rak.running hrak).trans (Rak.without_other hne)
  · have hc : Dev.Clears (maskWords 16 mask fun i a => a = R.RK_STAT i) s.dev (s.dev.rakCntClr mask) := Dev.clrMask_clears Dev.rakCntClr1_clears _
    refine completes_clears (runs_core (fun d => d.rakCntClr mask) rfl hs) hs.1 hc ⟨fun n hn hb => ?_, fun n _ => s.dev.rakCntClr_err mask n, hc.noRegs⟩
    exact Dev.clrMask_zero Dev.rakCntClr1_clears s.dev (Z := fun x => x.get (F.RK_STAT_OVR n) = 0 ∧ x.get (F.RK_STAT_DONE n) = 0)
      (fun h hz => ⟨h.get_zero hz.1, h.get_zero hz.2⟩) hn hb fun x => x.rakCntClr1_counts n

end Sys2Proof.Machine

/-! PROOFS. The interrupt controller (R472-R480). -/

namespace Sys2Proof.Machine

/-! ### Pending bits -/

/-- The device without the interrupt controller's state and the registers. -/
def Dev.noIcuReg (d : Dev) : Dev := { d with icu := icu0, reg := [], fltNew := [] }

theorem Dev.icuPend_noIcuReg (d : Dev) (s : Nat) (b : Bool) : (d.icuPend s b).noIcuReg = d.noIcuReg := rfl

theorem Dev.noIcuReg_rest {d e : Dev} (h : e.noIcuReg = d.noIcuReg) : { e with icu := d.icu, reg := d.reg, fltNew := d.fltNew } = d :=
  congrArg (fun x : Dev => { x with icu := d.icu, reg := d.reg, fltNew := d.fltNew }) h

theorem Dev.noIcuReg_corks {d e : Dev} (h : e.noIcuReg = d.noIcuReg) : e.corks = d.corks :=
  show e.noIcuReg.corks = d.noIcuReg.corks from congrArg Dev.corks h

theorem Dev.noIcuReg_fab {d e : Dev} (h : e.noIcuReg = d.noIcuReg) : e.fab = d.fab :=
  show e.noIcuReg.fab = d.noIcuReg.fab from congrArg Dev.fab h

/-- The interrupt controller's state replaced. -/
def Dev.setIcu (d : Dev) (i : Icu) : Dev := { d with icu := i }

theorem Dev.setIcu_rd (d : Dev) (i : Icu) (a : Nat) : (d.setIcu i).rd a = d.rd a := rfl
theorem Dev.setIcu_abit (d : Dev) (i : Icu) (a n : Nat) : (d.setIcu i).abit a n = d.abit a n := rfl
theorem Dev.setIcu_noIcuReg (d : Dev) (i : Icu) : (d.setIcu i).noIcuReg = d.noIcuReg := rfl
theorem Dev.setIcu_icu (d : Dev) (i : Icu) : (d.setIcu i).icu = i := rfl
theorem Dev.icuPend_icu (d : Dev) (s : Nat) (b : Bool) : (d.icuPend s b).icu = d.icu := rfl

theorem Dev.icuPend_rd (d : Dev) {s a : Nat} (b : Bool) (h : a ≠ R.ICU_PEND 0 + 4 * (s / 32)) : (d.icuPend s b).rd a = d.rd a :=
  Dev.rd_put_ne _ _ _ h

theorem Dev.icuSetPend_free {d : Dev} {s : Nat} (h : icuReserved s = false) : d.icuSetPend s = (d.setIcu { d.icu with coal := smDel d.icu.coal s }).icuPend s true :=
  if_neg (by rw [h]; exact Bool.false_ne_true)

theorem Dev.icuSetPend_reserved {d : Dev} {s : Nat} (h : icuReserved s = true) : d.icuSetPend s = d := if_pos h

theorem Dev.icuSetPend_noIcuReg (d : Dev) (s : Nat) : (d.icuSetPend s).noIcuReg = d.noIcuReg := by
  cases h : icuReserved s with
  | true => rw [Dev.icuSetPend_reserved h]
  | false => rw [Dev.icuSetPend_free h, Dev.icuPend_noIcuReg, Dev.setIcu_noIcuReg]

theorem Dev.icuSetPend_rd (d : Dev) {s a : Nat} (ha : a ≠ R.ICU_PEND 0 + 4 * (s / 32)) : (d.icuSetPend s).rd a = d.rd a := by
  cases h : icuReserved s with
  | true => rw [Dev.icuSetPend_reserved h]
  | false => rw [Dev.icuSetPend_free h, Dev.icuPend_rd _ _ ha, Dev.setIcu_rd]

theorem Dev.icuSetPend_abit (d : Dev) (s c : Nat) : (d.icuSetPend s).abit (R.ICU_PEND 0) c =
    (decide (c = s) && !icuReserved s || d.abit (R.ICU_PEND 0) c) := by
  cases h : icuReserved s with
  | true => rw [Dev.icuSetPend_reserved h, Bool.not_true, Bool.and_false, Bool.false_or]
  | false =>
    rw [Dev.icuSetPend_free h, Dev.icuPend, Bool.not_false, Bool.and_true]
    by_cases hc : c = s
    · rw [hc, Dev.abit_setAbit_same, decide_eq_true rfl, Bool.true_or]
    · rw [Dev.abit_setAbit_ne _ _ _ hc, Dev.setIcu_abit, decide_eq_false hc, Bool.false_or]

/-- The sources of word w that data names, up to bit k, become pending. -/
def Dev.pendPass (d : Dev) (w data k : Nat) : Dev := forN k (fun x b => if bitOf data b then x.icuSetPend (32 * w + b) else x) d

theorem Dev.pendPass_rest (d : Dev) (w data k : Nat) : (d.pendPass w data k).noIcuReg = d.noIcuReg := by
  refine forN_keeps Dev.noIcuReg (fun x b => ?_) k d
  split
  · exact x.icuSetPend_noIcuReg _
  · rfl

theorem Dev.pendPass_succ (d : Dev) (w data k : Nat) : d.pendPass w data (k + 1) =
    if bitOf data k then (d.pendPass w data k).icuSetPend (32 * w + k) else d.pendPass w data k := forN_succ _ _ _

theorem Dev.pendPass_rd (d : Dev) (w data : Nat) {k a : Nat} (hk : k ≤ 32) (ha : a ≠ R.ICU_PEND 0 + 4 * w) : (d.pendPass w data k).rd a = d.rd a := by
  induction k with
  | zero => rfl
  | succ k ih =>
    rw [Dev.pendPass_succ]
    split
    · rw [Dev.icuSetPend_rd _ (by rw [show (32 * w + k) / 32 = w by omega]; exact ha), ih (by omega)]
    · exact ih (by omega)

/-- Source c is one of those of word w that the low k bits of data name. -/
def pendNamed (w data k c : Nat) : Bool := (List.range k).any fun b => decide (c = 32 * w + b) && bitOf data b

theorem pendNamed_succ (w data k c : Nat) : pendNamed w data (k + 1) c = (pendNamed w data k c || (decide (c = 32 * w + k) && bitOf data k)) := by
  simp [pendNamed, List.range_succ]

theorem pendNamed_word (w data : Nat) {b : Nat} (hb : b < 32) : pendNamed w data 32 (32 * w + b) = bitOf data b := by
  refine Bool.eq_iff_iff.2 ⟨fun h => ?_, fun h => List.any_eq_true.2 ⟨b, List.mem_range.2 hb, by simp [h]⟩⟩
  obtain ⟨i, _, hi⟩ := List.any_eq_true.1 h
  rw [Bool.and_eq_true, decide_eq_true_eq] at hi
  rw [show b = i by omega]
  exact hi.2

theorem Dev.pendPass_abit (d : Dev) (w data k c : Nat) : (d.pendPass w data k).abit (R.ICU_PEND 0) c =
    (pendNamed w data k c && !icuReserved c || d.abit (R.ICU_PEND 0) c) := by
  induction k with
  | zero => rfl
  | succ k ih =>
    rw [Dev.pendPass_succ, pendNamed_succ]
    cases bitOf data k with
    | false => rw [Bool.and_false, Bool.or_false, if_neg Bool.false_ne_true, ih]
    | true =>
      rw [Bool.and_true, if_pos rfl, Dev.icuSetPend_abit, ih]
      by_cases hc : c = 32 * w + k
      · rw [← hc, decide_eq_true rfl, Bool.or_true, Bool.true_and]
        cases icuReserved c <;> simp
      · rw [decide_eq_false hc, Bool.false_and, Bool.false_or, Bool.or_false]

section
variable {s : State} {src : Fin 1024}

theorem runs_icuCoalesceTimeout (hs : s.coreRuns) (ht : s.dev.get (F.ICU_SRC_COALT src) ≠ 0) (hc : (smGet s.dev.icu.coal (0, 0) src).1 ≠ 0) :
    Runs (.icuCoalesceTimeout src) s fun d => (d.until ((smGet d.icu.coal (0, 0) src).2 + 400 * 2 ^ d.get (F.ICU_SRC_COALT src))).icuSetPend src :=
  runs_congr (runs_core _ (show execIcuCoalesceTimeout src s = _ from rfl) hs) (if_pos ⟨ht, hc⟩)

theorem completes_icuCoalesceTimeout (hs : s.coreRuns) (ht : s.dev.get (F.ICU_SRC_COALT src) ≠ 0) (hc : (smGet s.dev.icu.coal (0, 0) src).1 ≠ 0)
    (hr : icuReserved src = false) (hp : (smGet s.dev.icu.coal (0, 0) src).2 + 400 * 2 ^ s.dev.get (F.ICU_SRC_COALT src) ≤ s.dev.fab) :
    Completes (.icuCoalesceTimeout src) s fun e =>
      e.abit (R.ICU_PEND 0) src = true ∧ smGet e.icu.coal (0, 0) src = (0, 0) ∧ (∀ c, c ≠ src.val → e.abit (R.ICU_PEND 0) c = s.dev.abit (R.ICU_PEND 0) c)
        ∧ { e with icu := s.dev.icu, reg := s.dev.reg, fltNew := s.dev.fltNew } = s.dev := by
  have hrest := s.dev.icuSetPend_noIcuReg src
  refine completes_runs_eq _ (runs_icuCoalesceTimeout hs ht hc) hs.1 (congrArg (fun x : Dev => x.icuSetPend src) (Dev.until_past hp))
    (Dev.noIcuReg_corks hrest) (Dev.noIcuReg_fab hrest) ⟨?_, ?_, fun c hne => ?_, Dev.noIcuReg_rest hrest⟩
  · rw [Dev.icuSetPend_abit, decide_eq_true rfl, hr]
    rfl
  · rw [Dev.icuSetPend_free hr, Dev.icuPend_icu, Dev.setIcu_icu]
    exact smGet_smDel_same _ _ _
  · rw [Dev.icuSetPend_abit, decide_eq_false hne, Bool.false_and, Bool.false_or, State.start]

theorem completes_icuPendWrite {req : Fin 10} {w : Fin 32} {data : Nat} (hs : s.coreRuns) : Completes (.icuPendWrite req w data) s fun e =>
      (∀ b, b < 32 → e.abit (R.ICU_PEND 0) (32 * w + b) = (bitOf data b && !icuReserved (32 * w + b) || s.dev.abit (R.ICU_PEND 0) (32 * w + b)))
        ∧ (∀ a, a ≠ R.ICU_PEND 0 + 4 * w → e.rd a = s.dev.rd a) ∧ { e with icu := s.dev.icu, reg := s.dev.reg, fltNew := s.dev.fltNew } = s.dev := by
  have hrest := s.dev.pendPass_rest w data 32
  refine completes_runs_eq (s.dev.pendPass w data 32) (runs_core (fun d => d.icuPendWrite w data) rfl hs) hs.1 rfl (Dev.noIcuReg_corks hrest)
    (Dev.noIcuReg_fab hrest) ⟨fun b hb => ?_, fun a ha => Dev.pendPass_rd _ _ _ (Nat.le_refl _) ha, Dev.noIcuReg_rest hrest⟩
  rw [Dev.pendPass_abit, pendNamed_word _ _ hb]

/-! ### Sources (R475) -/

theorem Dev.icuKind_low {d : Dev} {n : Nat} (h : n < 176) : d.icuKind n = d := if_pos (by simp [h])

theorem Dev.icuLevel_low (d : Dev) {n : Nat} (h : n < 64) : d.icuLevel n = false := by
  simp [Dev.icuLevel, show ¬64 ≤ n by omega, show ¬176 ≤ n by omega]

/-- An enabling write of an edge source's register. -/
theorem Dev.icuSrcWrite_edge {d : Dev} {n data : Nat} (h : n < 25) (hb : bitOf data 31 = true) :
    d.icuSrcWrite n data = d.wr (R.ICU_SRC n) (BitVec.ofNat 32 data &&& 0x8FFF0F1F#32) := by
  have hres : icuReserved n = false := by simp [icuReserved, show ¬25 ≤ n by omega, show ¬304 ≤ n by omega, show ¬1024 ≤ n by omega]
  have hgpio : (decide (176 ≤ n) && decide (n < 240)) = false := by simp [show ¬176 ≤ n by omega]
  have hqueue : (decide (64 ≤ n) && decide (n < 96)) = false := by simp [show ¬64 ≤ n by omega]
  have hword : (BitVec.ofNat 32 data &&& 0x8FFF0F1F#32) ||| (0 : Word) = BitVec.ofNat 32 data &&& 0x8FFF0F1F#32 := BitVec.or_zero
  have hen : (d.wr (R.ICU_SRC n) (BitVec.ofNat 32 data &&& 0x8FFF0F1F#32)).flag (F.ICU_SRC_EN n) = true := by
    rw [Dev.flag_bit _ rfl, Dev.rd_wr_same, BitVec.getLsbD_and, BitVec.getLsbD_ofNat, show (F.ICU_SRC_EN n).lo = 31 from rfl, ← bitOf_eq_testBit, hb]
    decide
  simp only [Dev.icuSrcWrite, hres, hgpio, hqueue, Bool.false_eq_true, if_false, hword, Dev.icuKind_low (show n < 176 by omega), hen,
    Dev.icuLevel_low _ (show n < 64 by omega), Bool.true_or, if_true]
  split <;> rfl

/-! ### Claims and completions (R478, R479) -/

theorem Dev.icuClaim_none {d : Dev} {req t : Nat} (h : d.icuBest t = none) : d.icuClaim req t = (d.incSat F.ICU_CNT_SPUR).ret req 1024 := by
  rw [Dev.icuClaim, h]

/-- A source in service, no longer pending. -/
def Dev.icuServed (d : Dev) (t src : Nat) : Dev :=
  (d.icuPend src false).setIcu { d.icu with srv := d.icu.srv ++ [(t, src, d.get (F.ICU_SRC_PRIO src))] }

theorem Dev.icuClaim_some {d : Dev} {req t n : Nat} (h : d.icuBest t = some n) : d.icuClaim req t = (d.icuServed t n).ret req n := by
  unfold Dev.icuClaim
  rw [h]
  rfl

theorem Dev.icuServed_noIcuReg (d : Dev) (t n : Nat) : (d.icuServed t n).noIcuReg = d.noIcuReg := by
  rw [Dev.icuServed, Dev.setIcu_noIcuReg, Dev.icuPend_noIcuReg]

theorem Dev.ret_abit (d : Dev) (req v a n : Nat) : (d.ret req v).abit a n = d.abit a n := rfl

theorem Dev.ret_noIcuReg_rest {d x : Dev} (req v : Nat) (h : x.noIcuReg = d.noIcuReg) :
    { x.ret req v with bus := d.bus, icu := d.icu, reg := d.reg, fltNew := d.fltNew } = d :=
  congrArg (fun y : Dev => { y with bus := d.bus, icu := d.icu, reg := d.reg, fltNew := d.fltNew }) h

theorem completes_icuClaim_some {req : Fin 10} {tgt : Fin 5} {n : Nat} (hs : s.coreRuns) (hb : s.dev.icuBest tgt = some n) (hn : n < 1024) :
    Completes (.icuClaim req tgt) s fun e =>
      e.bus = ⟨req, n⟩ ∧ e.abit (R.ICU_PEND 0) n = false ∧ e.icu.srv = s.dev.icu.srv ++ [(tgt.val, n, s.dev.get (F.ICU_SRC_PRIO n))]
        ∧ (∀ c, c ≠ n → e.abit (R.ICU_PEND 0) c = s.dev.abit (R.ICU_PEND 0) c)
        ∧ { e with bus := s.dev.bus, icu := s.dev.icu, reg := s.dev.reg, fltNew := s.dev.fltNew } = s.dev := by
  have hrest := s.dev.icuServed_noIcuReg tgt n
  refine completes_runs_eq _ (runs_core (fun d => d.icuClaim req tgt) rfl hs) hs.1 (Dev.icuClaim_some hb)
    ((Dev.ret_corks' _ _ _).trans (Dev.noIcuReg_corks hrest)) ((Dev.ret_fab' _ _ _).trans (Dev.noIcuReg_fab hrest))
    ⟨?_, ?_, rfl, fun c hc => ?_, Dev.ret_noIcuReg_rest _ _ hrest⟩
  · rw [Dev.ret_busData, Nat.mod_eq_of_lt (by omega)]
  · rw [Dev.ret_abit, Dev.icuServed, Dev.setIcu_abit, Dev.icuPend, Dev.abit_setAbit_same]
  · rw [Dev.ret_abit, Dev.icuServed, Dev.setIcu_abit, Dev.icuPend, Dev.abit_setAbit_ne _ _ _ hc, State.start]

theorem repeatN_zero (f : Dev → Dev) (d : Dev) : repeatN 0 f d = d := rfl

/-- A source out of service. -/
def Dev.icuFinished (d : Dev) (t src : Nat) : Dev :=
  (d.wr (R.ICU_T_COMPLETE t) (BitVec.ofNat 32 src)).setIcu
    { d.icu with srv := d.icu.srv.filter (fun e => !(e.1 == t && e.2.1 == src)), again := smDel d.icu.again src }

theorem Dev.icuLevel_congr {d e : Dev} (n : Nat) (h : e.rd (R.ICU_SRC n) = d.rd (R.ICU_SRC n)) : e.icuLevel n = d.icuLevel n := by
  unfold Dev.icuLevel Dev.flag Dev.get
  rw [show (F.ICU_SRC_TRIG n).addr = R.ICU_SRC n from rfl, h]

theorem icuSrc_ne_complete {n : Nat} (t : Nat) (h : n < 1024) : R.ICU_SRC n ≠ R.ICU_T_COMPLETE t := by
  show 0x150000 + 4 * n ≠ 0x152008 + 0x100 * t
  omega

theorem Dev.icuComplete_edge {d : Dev} {t n : Nat} (hn : n < 1024) (hs : d.icu.srv.any (fun e => e.1 == t && e.2.1 == n) = true) (hl : d.icuLevel n = false)
    (ha : smGet d.icu.again 0 n = 0) : d.icuComplete t n = d.icuFinished t n := by
  have hlevel : (d.icuFinished t n).icuLevel n = false := by
    exact (Dev.icuLevel_congr n ((Dev.setIcu_rd _ _ _).trans (Dev.rd_wr_ne _ _ (icuSrc_ne_complete t hn)))).trans hl
  have heq : d.icuComplete t n = if !(d.icuFinished t n).flag (F.ICU_SRC_EN n) then d.icuFinished t n
      else if (d.icuFinished t n).icuLevel n then
        (if (d.icuFinished t n).icu.level.contains n then (d.icuFinished t n).icuPend n true else d.icuFinished t n)
      else repeatN (smGet d.icu.again 0 n) (fun x => x.icuCount n) (d.icuFinished t n) := by
    unfold Dev.icuComplete
    simp only [Nat.mod_eq_of_lt hn, hs, Bool.not_true, Bool.false_eq_true, if_false]
    rfl
  rw [heq, hlevel, if_neg Bool.false_ne_true, ha, repeatN_zero, ite_self]

theorem Dev.icuComplete_stray {d : Dev} {t n : Nat} (hn : n < 1024) (hs : d.icu.srv.any (fun e => e.1 == t && e.2.1 == n) = false) :
    d.icuComplete t n = (d.wr (R.ICU_T_COMPLETE t) (BitVec.ofNat 32 n)).incSat F.ICU_CNT_BADCPL := by
  unfold Dev.icuComplete
  simp only [Nat.mod_eq_of_lt hn, hs, Bool.not_false, if_true]

/-! ### Counts of arrivals (R473) -/

/-- ACLR's pass over the words of arrival counts. -/
def Dev.arrZero (x : Dev) (w : Nat) : Dev := if x.rd (R.ICU_ARR w) = 0 then x else x.wr (R.ICU_ARR w) 0

def arrWord (a : Nat) : Prop := ∃ w, w < 256 ∧ a = R.ICU_ARR w

theorem Dev.arrZero_clears (x : Dev) {w : Nat} (h : w < 256) : x.Clears arrWord (x.arrZero w) :=
  .ite (fun _ => .refl _ x) fun _ => (Dev.Clears.refl _ x).wr ⟨w, h, rfl⟩

theorem Dev.arrZero_zero (x : Dev) (w : Nat) : (x.arrZero w).rd (R.ICU_ARR w) = 0 := by
  unfold Dev.arrZero
  split
  next h => exact h
  · exact Dev.rd_wr_same _ _ _

theorem Dev.icuAclr_all {d : Dev} {n : Nat} (hn : n < 1024) : d.icuAclr (2 ^ 31 + n) = forN 256 Dev.arrZero (d.wr R.ICU_ACLR (BitVec.ofNat 32 n)) := by
  have h31 : bitOf (2 ^ 31 + n) 31 = true := by
    rw [bitOf, show (2 ^ 31 + n) / 2 ^ 31 = 1 by omega]
    rfl
  have h30 : bitOf (2 ^ 31 + n) 30 = false := by
    rw [bitOf, show (2 ^ 31 + n) / 2 ^ 30 = 2 by omega]
    rfl
  have hlow : (2 ^ 31 + n) % 1024 = n := by omega
  unfold Dev.icuAclr
  rw [h31, h30, hlow, if_neg Bool.false_ne_true, if_pos rfl]
  rfl

theorem Dev.icuAclr_one {d : Dev} {n : Nat} (hn : n < 1024) : d.icuAclr (2 ^ 30 + n) =
    (d.wr R.ICU_ACLR (BitVec.ofNat 32 n)).put ⟨R.ICU_ARR (n / 4), 8 * (n % 4) + 7, 8 * (n % 4)⟩ 0 := by
  have h31 : bitOf (2 ^ 30 + n) 31 = false := by
    rw [bitOf, show (2 ^ 30 + n) / 2 ^ 31 = 0 by omega]
    rfl
  have h30 : bitOf (2 ^ 30 + n) 30 = true := by
    rw [bitOf, show (2 ^ 30 + n) / 2 ^ 30 = 1 by omega]
    rfl
  have hlow : (2 ^ 30 + n) % 1024 = n := by omega
  unfold Dev.icuAclr
  rw [h31, h30, hlow, if_pos rfl, if_neg Bool.false_ne_true]

theorem completes_aclrAll {req : Fin 10} (hs : s.coreRuns) : Completes (.aclrAll req) s fun e =>
      (∀ w, w < 256 → e.rd (R.ICU_ARR w) = 0) ∧ (∀ a, a ≠ R.ICU_ACLR → (∀ w, w < 256 → a ≠ R.ICU_ARR w) → e.rd a = s.dev.rd a) ∧ e.noRegs = s.dev.noRegs := by
  have hc : Dev.Clears arrWord (s.dev.wr R.ICU_ACLR (BitVec.ofNat 32 (s.dev.get F.ICU_ACLR_SRC)))
      (forN 256 Dev.arrZero (s.dev.wr R.ICU_ACLR (BitVec.ofNat 32 (s.dev.get F.ICU_ACLR_SRC)))) := .forN (fun x w hw => x.arrZero_clears hw) _
  refine completes_runs_eq _ (runs_core (fun d => d.icuAclr (2 ^ 31 + d.get F.ICU_ACLR_SRC)) rfl hs) hs.1
    (Dev.icuAclr_all (s.dev.get_lt F.ICU_ACLR_SRC)) hc.corks hc.fab ⟨fun w hw => ?_, fun a ha harr => ?_, hc.noRegs⟩
  · exact forN_clears (S := arrWord) (fun x i hi => x.arrZero_clears hi) (Z := fun x => x.rd (R.ICU_ARR w) = 0) (fun x y h hx => h.rd_zero hx) hw
      fun x _ => x.arrZero_zero w
  · exact (hc.rd a fun ⟨w, hw, h⟩ => harr w hw h).trans (Dev.rd_wr_ne _ _ ha)

theorem completes_aclrOne {req : Fin 10} (hs : s.coreRuns) : Completes (.aclrOne req src) s fun e =>
      e.get ⟨R.ICU_ARR (src / 4), 8 * (src % 4) + 7, 8 * (src % 4)⟩ = 0 ∧ Dev.onlyRegs s.dev e [R.ICU_ACLR, R.ICU_ARR (src / 4)]
        ∧ ∀ j, j < 4 → j ≠ src.val % 4 → e.get ⟨R.ICU_ARR (src / 4), 8 * j + 7, 8 * j⟩ = s.dev.get ⟨R.ICU_ARR (src / 4), 8 * j + 7, 8 * j⟩ := by
  have hmod : src.val % 4 < 4 := Nat.mod_lt _ (by decide)
  have honly : Dev.onlyRegs s.dev ((s.dev.wr R.ICU_ACLR (BitVec.ofNat 32 src)).put ⟨R.ICU_ARR (src / 4), 8 * (src % 4) + 7, 8 * (src % 4)⟩ 0)
      [R.ICU_ACLR, R.ICU_ARR (src / 4)] :=
    ((s.dev.wr_onlyRegs _ _).weaken (by simp)).trans (Dev.put_onlyRegs_of_mem _ _ _ (by simp))
  refine completes_runs_eq _ (runs_core (fun d => d.icuAclr (2 ^ 30 + src)) rfl hs) hs.1 (Dev.icuAclr_one src.isLt) honly.corks honly.fab
    ⟨?_, honly, fun j hj hne => ?_⟩
  · rw [Dev.get_put_same _ _ _ ⟨Nat.le_add_right _ 7, show 8 * (src.val % 4) + 7 < 32 by omega⟩, Nat.zero_mod]
  · rw [Dev.get_put_apart _ _ _ _ (Nat.le_add_right _ 7) ⟨Nat.le_add_right _ 7, show 8 * j + 7 < 32 by omega⟩
      (show 8 * j + 7 < 8 * (src.val % 4) ∨ 8 * (src.val % 4) + 7 < 8 * j by omega),
      Dev.get_wr_ne _ _ (show 0x151000 + 4 * (src.val / 4) ≠ 0x151480 by omega), State.start]

theorem completes_icuSrcWrite_edge {req : Fin 10} {data : Nat} (hs : s.coreRuns) (hlow : src.val < 25) (hb : bitOf data 31 = true) :
    Completes (.icuSrcWrite req src data) s fun e => e.rd (R.ICU_SRC src) = BitVec.ofNat 32 data &&& 0x8FFF0F1F#32 ∧ Dev.onlyRegs s.dev e [R.ICU_SRC src] := by
  have honly := s.dev.wr_onlyRegs (R.ICU_SRC src) (BitVec.ofNat 32 data &&& 0x8FFF0F1F#32)
  exact completes_runs_eq _ (runs_core (fun d => d.icuSrcWrite src data) rfl hs) hs.1 (Dev.icuSrcWrite_edge hlow hb) honly.corks honly.fab
    ⟨Dev.rd_wr_same _ _ _, honly⟩

theorem completes_icuClaim_none {req : Fin 10} {tgt : Fin 5} (hs : s.coreRuns) (hb : s.dev.icuBest tgt = none) : Completes (.icuClaim req tgt) s fun e =>
      e.bus = ⟨req, 1024⟩ ∧ e.get F.ICU_CNT_SPUR = min (s.dev.get F.ICU_CNT_SPUR + 1) 32767 ∧ (∀ a, a ≠ R.ICU_CNT → e.rd a = s.dev.rd a)
        ∧ { e with bus := s.dev.bus, reg := s.dev.reg, fltNew := s.dev.fltNew } = s.dev := by
  have honly : Dev.onlyRegs s.dev (s.dev.incSat F.ICU_CNT_SPUR) [R.ICU_CNT] := Dev.incSat_onlyRegs _ _
  refine completes_runs_eq _ (runs_core (fun d => d.icuClaim req tgt) rfl hs) hs.1 (Dev.icuClaim_none hb)
    ((Dev.ret_corks' _ _ _).trans honly.corks) ((Dev.ret_fab' _ _ _).trans honly.fab)
    ⟨?_, ?_, fun a ha => (Dev.ret_rd _ _ _ _).trans (honly.2 a (by simpa using ha)), Dev.incSat_ret_rest _ _ _ _⟩
  · rw [Dev.ret_busData, Nat.mod_eq_of_lt (by decide)]
  · rw [Dev.ret_get', Dev.get_incSat_same _ F.ICU_CNT_SPUR (by decide), State.start, show 2 ^ (F.ICU_CNT_SPUR.hi + 1 - F.ICU_CNT_SPUR.lo) - 1 = 32767 by decide]

theorem Dev.icuFinished_noIcuReg (d : Dev) (t n : Nat) : (d.icuFinished t n).noIcuReg = d.noIcuReg := rfl

theorem Dev.icuFinished_rd (d : Dev) (t n a : Nat) : (d.icuFinished t n).rd a = (d.wr (R.ICU_T_COMPLETE t) (BitVec.ofNat 32 n)).rd a := rfl

theorem Dev.icuFinished_srv (d : Dev) (t n : Nat) : (d.icuFinished t n).icu.srv = d.icu.srv.filter (fun e => !(e.1 == t && e.2.1 == n)) := rfl

theorem completes_icuComplete_edge {req : Fin 10} {tgt : Fin 5} (hs : s.coreRuns)
    (hsrv : s.dev.icu.srv.any (fun e => e.1 == tgt.val && e.2.1 == src.val) = true) (hl : s.dev.icuLevel src = false) (ha : smGet s.dev.icu.again 0 src = 0) :
    Completes (.icuComplete req tgt src) s fun e =>
      e.icu.srv = s.dev.icu.srv.filter (fun e => !(e.1 == tgt.val && e.2.1 == src.val)) ∧ e.rd (R.ICU_T_COMPLETE tgt) = BitVec.ofNat 32 src
        ∧ (∀ a, a ≠ R.ICU_T_COMPLETE tgt → e.rd a = s.dev.rd a) ∧ { e with icu := s.dev.icu, reg := s.dev.reg, fltNew := s.dev.fltNew } = s.dev := by
  have hrest := s.dev.icuFinished_noIcuReg tgt src
  refine completes_runs_eq _ (runs_core (fun d => d.icuComplete tgt src) rfl hs) hs.1 (Dev.icuComplete_edge src.isLt hsrv hl ha)
    (Dev.noIcuReg_corks hrest) (Dev.noIcuReg_fab hrest) ⟨Dev.icuFinished_srv _ _ _, ?_, fun a hne => ?_, Dev.noIcuReg_rest hrest⟩
  · rw [Dev.icuFinished_rd, Dev.rd_wr_same]
  · rw [Dev.icuFinished_rd, Dev.rd_wr_ne _ _ hne, State.start]

theorem completes_icuComplete_stray {req : Fin 10} {tgt : Fin 5} (hs : s.coreRuns)
    (hsrv : s.dev.icu.srv.any (fun e => e.1 == tgt.val && e.2.1 == src.val) = false) :
    Completes (.icuComplete req tgt src) s fun e =>
      e.get F.ICU_CNT_BADCPL = min (s.dev.get F.ICU_CNT_BADCPL + 1) 65535 ∧ Dev.onlyRegs s.dev e [R.ICU_CNT, R.ICU_T_COMPLETE tgt] := by
  have honly : Dev.onlyRegs s.dev ((s.dev.wr (R.ICU_T_COMPLETE tgt) (BitVec.ofNat 32 src)).incSat F.ICU_CNT_BADCPL) [R.ICU_CNT, R.ICU_T_COMPLETE tgt] :=
    ((s.dev.wr_onlyRegs _ _).weaken (by simp)).trans ((Dev.incSat_onlyRegs _ _).weaken (by simp))
  refine completes_runs_eq _ (runs_core (fun d => d.icuComplete tgt src) rfl hs) hs.1 (Dev.icuComplete_stray src.isLt hsrv) honly.corks honly.fab
    ⟨(Dev.get_incSat_same _ F.ICU_CNT_BADCPL (by decide)).trans ?_, honly⟩
  rw [Dev.get_wr_ne _ _ (show 0x151488 ≠ 0x152008 + 0x100 * tgt.val by omega)]
  rfl

theorem completes_icuCntClr {req : Fin 10} (hs : s.coreRuns) : Completes (.icuCntClr req) s fun e => e.rd R.ICU_CNT = 0 ∧ Dev.onlyRegs s.dev e [R.ICU_CNT] := by
  have honly := s.dev.wr_onlyRegs R.ICU_CNT 0
  exact completes_runs_eq _ (runs_core (fun d => d.wr R.ICU_CNT 0) rfl hs) hs.1 rfl honly.corks honly.fab ⟨Dev.rd_wr_same _ _ _, honly⟩

theorem Dev.mip_bits (d : Dev) (t : Nat) : (d.mip t).getLsbD 11 = d.icuLine t ∧ (d.mip t).getLsbD 7 = false ∧ (d.mip t).getLsbD 3 = false := by
  cases h : d.icuLine t <;> simp only [Dev.mip, h, Bool.false_eq_true, if_false, if_true] <;> decide

end

/-- Settles O53: pending bits by what sets and clears each of them, service by the list of what is in it. -/
theorem interruptController : Obligations.interrupt_controller := by
  unfold Obligations.interrupt_controller
  exact ⟨Dev.mip_bits, fun s src hs ht hc hr hp => completes_icuCoalesceTimeout hs ht hc hr hp, fun s src hs ht hc => runs_icuCoalesceTimeout hs ht hc,
    fun s req w data hs => completes_icuPendWrite hs, fun s req src data hs hlow hb => completes_icuSrcWrite_edge hs hlow hb,
    fun s req tgt src hs hb hn => completes_icuClaim_some hs hb hn, fun s req tgt hs hb => completes_icuClaim_none hs hb,
    fun s req tgt src hs hsrv hl ha => completes_icuComplete_edge hs hsrv hl ha, fun s req tgt src hs hsrv => completes_icuComplete_stray hs hsrv,
    fun s req hs => completes_aclrAll hs, fun s req src hs => completes_aclrOne hs, fun s req hs => completes_icuCntClr hs⟩

end Sys2Proof.Machine

/-! PROOFS. Resets and their releases (R482-R486), the boot, the banks and the watchdog (R487, R491, R500-R502). -/

namespace Sys2Proof.Machine

/-! ### What the ground of the device is, and what leaves it alone -/

/-- The device without what reports, streams, queues, spares and the Racking engine keep. -/
def Dev.bed (d : Dev) : Dev := { d.still with draw := 0, sch := sch0, mgs := mgs0, hif := hif0, rak := rak0, qmg := qmg0, mram := [] }

theorem Dev.bed_of_still {d e : Dev} (h : e.still = d.still) : e.bed = d.bed :=
  congrArg (fun x : Dev => { x with draw := 0, sch := sch0, mgs := mgs0, hif := hif0, rak := rak0, qmg := qmg0, mram := [] }) h

theorem Dev.bed_rst {d e : Dev} (h : e.bed = d.bed) : e.rst = d.rst := show e.bed.rst = d.bed.rst from congrArg Dev.rst h
theorem Dev.bed_cel {d e : Dev} (h : e.bed = d.bed) : e.cel = d.cel := show e.bed.cel = d.bed.cel from congrArg Dev.cel h
theorem Dev.bed_mem {d e : Dev} (h : e.bed = d.bed) : e.mem = d.mem := show e.bed.mem = d.bed.mem from congrArg Dev.mem h
theorem Dev.bed_cmem {d e : Dev} (h : e.bed = d.bed) : e.cmem = d.cmem := show e.bed.cmem = d.bed.cmem from congrArg Dev.cmem h
theorem Dev.bed_tile {d e : Dev} (h : e.bed = d.bed) : e.tile = d.tile := show e.bed.tile = d.bed.tile from congrArg Dev.tile h
theorem Dev.bed_corks {d e : Dev} (h : e.bed = d.bed) : e.corks = d.corks := show e.bed.corks = d.bed.corks from congrArg Dev.corks h
theorem Dev.bed_fab {d e : Dev} (h : e.bed = d.bed) : e.fab = d.fab := show e.bed.fab = d.bed.fab from congrArg Dev.fab h

theorem Dev.still_mram {d e : Dev} (h : e.still = d.still) : e.mram = d.mram := show e.still.mram = d.still.mram from congrArg Dev.mram h
theorem Dev.still_mgs {d e : Dev} (h : e.still = d.still) : e.mgs = d.mgs := show e.still.mgs = d.still.mgs from congrArg Dev.mgs h
theorem Dev.still_rst {d e : Dev} (h : e.still = d.still) : e.rst = d.rst := show e.still.rst = d.still.rst from congrArg Dev.rst h

theorem Dev.setStm_bed (d : Dev) (n : Nat) (x : Stm) : (d.setStm n x).bed = d.bed := rfl

theorem Dev.stmFlush_bed (d : Dev) (n : Nat) : (d.stmFlush n).bed = d.bed := by
  unfold Dev.stmFlush
  dsimp only
  split
  · rfl
  · refine (Dev.bed_of_still (Dev.msix_still _ _)).trans ((Dev.setStm_bed _ _ _).trans (Dev.bed_of_still ?_))
    rw [Dev.emit_still]
    split
    · rw [Dev.emit_still, Dev.emit_still]
    · rw [Dev.emit_still]

theorem Dev.stmPut_bed (d : Dev) (n : Nat) (ws : List Nat) : (d.stmPut n ws).1.bed = d.bed := by
  unfold Dev.stmPut
  dsimp only
  split
  · exact Dev.bed_of_still (Dev.incSat_still _ _)
  · have hput (x : Stm) (v : Nat) : ((d.setStm n x).put (F.STM_WP_PTR n) v).bed = d.bed :=
      (Dev.bed_of_still (Dev.put_still _ _ _)).trans (Dev.setStm_bed d n x)
    split
    · exact (Dev.stmFlush_bed _ _).trans (hput _ _)
    · exact hput _ _

theorem Dev.stream_bed (d : Dev) (src arg : Nat) (ws : List Nat) : (d.stream src arg ws).1.bed = d.bed := by
  unfold Dev.stream
  split
  · exact Dev.stmPut_bed _ _ _
  · rfl

/-- A log entry on its way to MRAM. -/
def Dev.logTake (d : Dev) (l : List (List Nat)) (m : List Host.Cell) : Dev := { d with logq := l, mram := m }

theorem Dev.logTake_bed (d : Dev) (l : List (List Nat)) (m : List Host.Cell) : (d.logTake l m).bed = d.bed := rfl

theorem Dev.incWrap_still (d : Dev) (f : Fld) : (d.incWrap f).still = d.still := Dev.put_still _ _ _

/-- The oldest log entry written, by a way S of handing words to the streams. -/
def Dev.logWriteBy (S : Dev → Nat → Nat → List Nat → Dev × Bool) (d : Dev) : Dev :=
  match d.logq with
  | [] => d
  | e :: r =>
    let seq := d.get F.MGS_LOG_SEQ
    let ws := seq :: e
    let d1 := { d with logq := r, mram := memWriteBytes d.mram (0x200000 + 32 * (seq % 16384)) (wordsBytes ws) }
    (S (d1.incWrap F.MGS_LOG_SEQ) 4 0 ws).1

theorem Dev.logWrite_eq (d : Dev) : d.logWrite = d.logWriteBy Dev.stream := rfl

theorem Dev.logWriteBy_bed {S : Dev → Nat → Nat → List Nat → Dev × Bool} (hS : ∀ x a b ws, (S x a b ws).1.bed = x.bed) (d : Dev) :
    (d.logWriteBy S).bed = d.bed := by
  unfold Dev.logWriteBy
  split
  · rfl
  · dsimp only
    rw [hS, Dev.bed_of_still (Dev.incWrap_still _ _)]
    exact d.logTake_bed _ _

theorem Dev.logWrite_bed (d : Dev) : d.logWrite.bed = d.bed := by
  rw [Dev.logWrite_eq, Dev.logWriteBy_bed Dev.stream_bed]

theorem Dev.logDrainN_bed (k : Nat) : ∀ d : Dev, (d.logDrainN k).bed = d.bed := by
  induction k with
  | zero => exact fun _ => rfl
  | succ k ih => exact fun d => (ih d.logWrite).trans d.logWrite_bed

theorem Dev.logDrain_bed (d : Dev) : d.logDrain.bed = d.bed := d.logDrainN_bed _

/-! ### Overdue corks and the rest of the device -/

/-- The device without reports and corks. -/
def Dev.plain (d : Dev) : Dev := { d.still with corks := [] }

theorem Dev.plain_of_still {d e : Dev} (h : e.still = d.still) : e.plain = d.plain := congrArg (fun x : Dev => { x with corks := [] }) h

theorem Dev.corkEnd_plain (d : Dev) (a : Nat) : (d.corkEnd a).plain = d.plain := rfl

theorem Dev.corkTick_plain (d : Dev) : d.corkTick.plain = d.plain := by
  refine List.foldlRecOn (motive := fun x : Dev => x.plain = d.plain) d.corks Dev.corkJudge rfl fun x hx c _ => Eq.trans ?_ hx
  unfold Dev.corkJudge
  split
  · exact (Dev.plain_of_still (Dev.corkRefuse_still _ _ _ _ _)).trans (Dev.corkEnd_plain _ _)
  · rfl

theorem Dev.plain_rst {d e : Dev} (h : e.plain = d.plain) : e.rst = d.rst := show e.plain.rst = d.plain.rst from congrArg Dev.rst h
theorem Dev.plain_mem {d e : Dev} (h : e.plain = d.plain) : e.mem = d.mem := show e.plain.mem = d.plain.mem from congrArg Dev.mem h
theorem Dev.plain_cmem {d e : Dev} (h : e.plain = d.plain) : e.cmem = d.cmem := show e.plain.cmem = d.plain.cmem from congrArg Dev.cmem h
theorem Dev.plain_mram {d e : Dev} (h : e.plain = d.plain) : e.mram = d.mram := show e.plain.mram = d.plain.mram from congrArg Dev.mram h
theorem Dev.plain_hif {d e : Dev} (h : e.plain = d.plain) : e.hif = d.hif := show e.plain.hif = d.plain.hif from congrArg Dev.hif h
theorem Dev.plain_now {d e : Dev} (h : e.plain = d.plain) : e.now = d.now := show e.plain.now = d.plain.now from congrArg Dev.now h

/-- A command whose effect may leave corks overdue completes with the device that their refusal leaves. -/
theorem completes_ticked {c : Instr} {s : State} {f : Dev → Dev} {p : Dev → Prop} (h : Runs c s f)
    (hp : ∀ e : Dev, e.plain = (f s.start).plain → e.cel = (f s.start).cel → p e) : Completes c s p :=
  ⟨_, h, rfl, hp _ (Dev.corkTick_plain _) (Dev.corkTick_cel _)⟩

/-! ### Reset causes (R484) -/

theorem Dev.cget_cput_apart (d : Dev) (f g : Fld) (v : Nat) (hf : f.lo ≤ f.hi) (hg : g.lo ≤ g.hi ∧ g.hi < 32)
    (h : g.hi < f.lo ∨ f.hi < g.lo) : (d.cput f v).cget g = d.cget g := by
  by_cases ha : g.addr = f.addr
  · simp only [Dev.cget, Dev.cput, ha, Dev.crd_cwr_same]
    exact fldGet_fldPut_ne f g _ v hf hg h
  · rw [Dev.cget, Dev.crd_cput_ne _ _ _ ha, ← Dev.cget]

theorem Dev.cellarCause_rest (d : Dev) (n : Nat) : { d.cellarCause n with cel := d.cel } = d := rfl

theorem Dev.cellarCause_crd (d : Dev) (n : Nat) {a : Nat} (h : a ≠ R.CEL_RSTCAUSE) : (d.cellarCause n).crd a = d.crd a := by
  rw [Dev.cellarCause, Dev.crd_cput_ne _ _ _ h, Dev.crd_cput_ne _ _ _ h]

theorem Dev.cellarCause_last (d : Dev) {n : Nat} (h : n < 16) : (d.cellarCause n).cget F.CEL_RSTCAUSE_LAST = n := by
  rw [Dev.cellarCause, Dev.cget_cput_same _ _ _ (by decide)]
  exact Nat.mod_eq_of_lt h

theorem bitOf_mod {v n k : Nat} (h : n < k) : bitOf (v % 2 ^ k) n = bitOf v n := by
  rw [bitOf_eq_testBit, bitOf_eq_testBit, Nat.testBit_mod_two_pow, decide_eq_true h, Bool.true_and]

theorem Dev.cellarCause_bit (d : Dev) {n : Nat} (h : n < 10) : bitOf ((d.cellarCause n).cget F.CEL_RSTCAUSE_CAUSE) n = true := by
  rw [Dev.cellarCause, Dev.cget_cput_apart _ _ _ _ (by decide) (by decide) (by decide), Dev.cget_cput_same _ _ _ (by decide),
    bitOf_mod (show n < F.CEL_RSTCAUSE_CAUSE.hi + 1 - F.CEL_RSTCAUSE_CAUSE.lo from h), bitOf_or_two_pow, decide_eq_true rfl, Bool.or_true]

theorem Dev.cellarCause_rst (d : Dev) (n : Nat) : (d.cellarCause n).rst = d.rst := rfl
theorem Dev.cellarCause_mem (d : Dev) (n : Nat) : (d.cellarCause n).mem = d.mem := rfl
theorem Dev.cellarCause_cmem (d : Dev) (n : Nat) : (d.cellarCause n).cmem = d.cmem := rfl
theorem Dev.cellarCause_tile (d : Dev) (n : Nat) : (d.cellarCause n).tile = d.tile := rfl
theorem Dev.cellarCause_corks (d : Dev) (n : Nat) : (d.cellarCause n).corks = d.corks := rfl
theorem Dev.cellarCause_fab (d : Dev) (n : Nat) : (d.cellarCause n).fab = d.fab := rfl
theorem Dev.cellarCause_mgs (d : Dev) (n : Nat) : (d.cellarCause n).mgs = d.mgs := rfl
theorem Dev.cellarCause_flag (d : Dev) (n : Nat) (f : Fld) : (d.cellarCause n).flag f = d.flag f := rfl
theorem Dev.cellarCause_get (d : Dev) (n : Nat) (f : Fld) : (d.cellarCause n).get f = d.get f := rfl

/-! ### CORE reset and SYSTEM reset (R482) -/

theorem Dev.coreDown_rst (d : Dev) : d.coreDown.rst = { d.rst with core := true } := rfl
theorem Dev.coreDown_cel (d : Dev) : d.coreDown.cel = d.cel := rfl
theorem Dev.coreDown_mem (d : Dev) : d.coreDown.mem = d.mem := rfl
theorem Dev.coreDown_cmem (d : Dev) : d.coreDown.cmem = d.cmem := rfl
theorem Dev.coreDown_mram (d : Dev) : d.coreDown.mram = d.mram := rfl
theorem Dev.coreDown_tile (d : Dev) : d.coreDown.tile = d.tile := rfl
theorem Dev.coreDown_fab (d : Dev) : d.coreDown.fab = d.fab := rfl
theorem Dev.coreDown_mgs (d : Dev) : d.coreDown.mgs = { d.mgs with acRun := 0, acStart := [] } := rfl
theorem Dev.coreDown_corks (d : Dev) : d.coreDown.corks = d.corks.filter (fun c => !((fun x => x != .vbat && x != .sys) (regDom c.addr))) := rfl

/-- The registers of the SYSTEM domain at reset, but for those that MRAM holds, and bank b in force. -/
def Dev.sysRegs (d : Dev) (b : Bool) : Dev :=
  ([R.MGS_FWREL_A, R.MGS_FWREL_B, R.MGS_SPARE_STAT, R.MGS_LOG].foldl (fun x a => x.wr a (d.rd a)) (d.clrRegs (· == .sys))).putB F.MGS_STAT_BANK b

/-- SYSTEM reset asserted: trial says whether a trial ended. -/
def Dev.sysHold (d : Dev) (trial : Bool) : Dev :=
  { d with
    rst := { d.rst with sys := true }
    clk := ⟨false, 0⟩
    mgs := { d.mgs with running := false, rolled := d.mgs.rolled || trial, pllHold := false, rowCe := [], secCe := [],
                        unlock := none, hot := [], shutdown := false, vRun := [], suspect := none, drain := [], moves := [], sleeping := false } }

/-- What SYSTEM reset makes of a device in CORE reset. -/
def Dev.sysClear (d : Dev) (bank trial : Bool) : Dev := (d.sysRegs bank).sysHold trial

theorem Dev.wrs_noRegs (f : Nat → Word) (l : List Nat) : ∀ d : Dev, (l.foldl (fun x a => x.wr a (f a)) d).noRegs = d.noRegs := by
  induction l with
  | nil => exact fun _ => rfl
  | cons a l ih => exact fun d => ih (d.wr a (f a))

theorem Dev.putB_noRegs (d : Dev) (f : Fld) (b : Bool) : (d.putB f b).noRegs = d.noRegs := rfl

theorem Dev.sysRegs_noRegs (d : Dev) (b : Bool) : (d.sysRegs b).noRegs = (d.clrRegs (· == .sys)).noRegs := by
  rw [Dev.sysRegs, Dev.putB_noRegs, Dev.wrs_noRegs]

theorem Dev.noRegs_rst {d e : Dev} (h : e.noRegs = d.noRegs) : e.rst = d.rst := show e.noRegs.rst = d.noRegs.rst from congrArg Dev.rst h
theorem Dev.noRegs_cel {d e : Dev} (h : e.noRegs = d.noRegs) : e.cel = d.cel := show e.noRegs.cel = d.noRegs.cel from congrArg Dev.cel h
theorem Dev.noRegs_mem {d e : Dev} (h : e.noRegs = d.noRegs) : e.mem = d.mem := show e.noRegs.mem = d.noRegs.mem from congrArg Dev.mem h
theorem Dev.noRegs_cmem {d e : Dev} (h : e.noRegs = d.noRegs) : e.cmem = d.cmem := show e.noRegs.cmem = d.noRegs.cmem from congrArg Dev.cmem h
theorem Dev.noRegs_tile {d e : Dev} (h : e.noRegs = d.noRegs) : e.tile = d.tile := show e.noRegs.tile = d.noRegs.tile from congrArg Dev.tile h

theorem Dev.sysHold_rst (d : Dev) (t : Bool) : (d.sysHold t).rst = { d.rst with sys := true } := rfl
theorem Dev.sysHold_cel (d : Dev) (t : Bool) : (d.sysHold t).cel = d.cel := rfl
theorem Dev.sysHold_mem (d : Dev) (t : Bool) : (d.sysHold t).mem = d.mem := rfl
theorem Dev.sysHold_cmem (d : Dev) (t : Bool) : (d.sysHold t).cmem = d.cmem := rfl
theorem Dev.sysHold_tile (d : Dev) (t : Bool) : (d.sysHold t).tile = d.tile := rfl
theorem Dev.sysHold_corks (d : Dev) (t : Bool) : (d.sysHold t).corks = d.corks := rfl
theorem Dev.sysHold_fab (d : Dev) (t : Bool) : (d.sysHold t).fab = d.fab := rfl
theorem Dev.sysHold_rolled (d : Dev) : (d.sysHold true).mgs.rolled = true := Bool.or_true _
theorem Dev.sysHold_flag (d : Dev) (t : Bool) (f : Fld) : (d.sysHold t).flag f = d.flag f := rfl

theorem Dev.clrRegs_rst (d : Dev) (p : RDom → Bool) : (d.clrRegs p).rst = d.rst := rfl
theorem Dev.clrRegs_cel (d : Dev) (p : RDom → Bool) : (d.clrRegs p).cel = d.cel := rfl
theorem Dev.clrRegs_mem (d : Dev) (p : RDom → Bool) : (d.clrRegs p).mem = d.mem := rfl
theorem Dev.clrRegs_cmem (d : Dev) (p : RDom → Bool) : (d.clrRegs p).cmem = d.cmem := rfl
theorem Dev.clrRegs_mram (d : Dev) (p : RDom → Bool) : (d.clrRegs p).mram = d.mram := rfl
theorem Dev.clrRegs_hif (d : Dev) (p : RDom → Bool) : (d.clrRegs p).hif = d.hif := rfl
theorem Dev.clrRegs_tile (d : Dev) (p : RDom → Bool) : (d.clrRegs p).tile = d.tile := rfl
theorem Dev.clrRegs_fab (d : Dev) (p : RDom → Bool) : (d.clrRegs p).fab = d.fab := rfl
theorem Dev.clrRegs_corks (d : Dev) (p : RDom → Bool) : (d.clrRegs p).corks = d.corks.filter (fun c => !p (regDom c.addr)) := rfl

theorem Dev.sysClear_rst (d : Dev) (b t : Bool) : (d.sysClear b t).rst = { d.rst with sys := true } := by
  rw [Dev.sysClear, Dev.sysHold_rst, Dev.noRegs_rst (d.sysRegs_noRegs b), Dev.clrRegs_rst]
theorem Dev.sysClear_cel (d : Dev) (b t : Bool) : (d.sysClear b t).cel = d.cel := by
  rw [Dev.sysClear, Dev.sysHold_cel, Dev.noRegs_cel (d.sysRegs_noRegs b), Dev.clrRegs_cel]
theorem Dev.sysClear_mem (d : Dev) (b t : Bool) : (d.sysClear b t).mem = d.mem := by
  rw [Dev.sysClear, Dev.sysHold_mem, Dev.noRegs_mem (d.sysRegs_noRegs b), Dev.clrRegs_mem]
theorem Dev.sysClear_cmem (d : Dev) (b t : Bool) : (d.sysClear b t).cmem = d.cmem := by
  rw [Dev.sysClear, Dev.sysHold_cmem, Dev.noRegs_cmem (d.sysRegs_noRegs b), Dev.clrRegs_cmem]
theorem Dev.sysClear_tile (d : Dev) (b t : Bool) : (d.sysClear b t).tile = d.tile := by
  rw [Dev.sysClear, Dev.sysHold_tile, Dev.noRegs_tile (d.sysRegs_noRegs b), Dev.clrRegs_tile]
theorem Dev.sysClear_fab (d : Dev) (b t : Bool) : (d.sysClear b t).fab = d.fab := by
  rw [Dev.sysClear, Dev.sysHold_fab, Dev.noRegs_fab (d.sysRegs_noRegs b), Dev.clrRegs_fab]
theorem Dev.sysClear_corks (d : Dev) (b t : Bool) : (d.sysClear b t).corks = d.corks.filter (fun c => !((· == .sys) (regDom c.addr))) := by
  rw [Dev.sysClear, Dev.sysHold_corks, Dev.noRegs_corks (d.sysRegs_noRegs b), Dev.clrRegs_corks]

theorem Dev.sysClear_bank (d : Dev) (b t : Bool) : (d.sysClear b t).flag F.MGS_STAT_BANK = b := by
  rw [Dev.sysClear, Dev.sysHold_flag]
  exact Dev.flag_putB _ _ _ (by decide)

theorem Dev.sysDown_none (d : Dev) : d.sysDown none =
    ((if d.flag F.MGS_STAT_TRIAL then d.cellarCause 7 else d).logDrain.coreDown).sysClear
      (if d.flag F.MGS_STAT_TRIAL then d.mgs.prevBank else d.flag F.MGS_STAT_BANK) (d.flag F.MGS_STAT_TRIAL) := rfl

theorem Dev.sysDown_some (d : Dev) (n : Nat) : d.sysDown (some n) = (d.cellarCause n).sysDown none := rfl

/-- SYSTEM reset outside a trial keeps the bank. -/
theorem Dev.sysDown_steady {d : Dev} (h : d.flag F.MGS_STAT_TRIAL = false) :
    d.sysDown none = d.logDrain.coreDown.sysClear (d.flag F.MGS_STAT_BANK) false := by
  rw [Dev.sysDown_none, h]
  rfl

/-- SYSTEM reset during a trial goes back to the former bank. -/
theorem Dev.sysDown_trial {d : Dev} (h : d.flag F.MGS_STAT_TRIAL = true) :
    d.sysDown none = (d.cellarCause 7).logDrain.coreDown.sysClear d.mgs.prevBank true := by
  rw [Dev.sysDown_none, h]
  rfl

/-- A device y after CORE and SYSTEM reset of x: what of x stands. -/
structure Dev.Held (x y : Dev) : Prop where
  rst : y.rst = { x.rst with sys := true, core := true }
  cel : y.cel = x.cel
  mem : y.mem = x.mem
  cmem : y.cmem = x.cmem
  tile : y.tile = x.tile
  fab : y.fab = x.fab
  corks : ∀ c ∈ y.corks, c ∈ x.corks ∧ regDom c.addr = .vbat

theorem Dev.held_sysClear (d : Dev) (b t : Bool) : d.Held (d.logDrain.coreDown.sysClear b t) where
  rst := by rw [Dev.sysClear_rst, Dev.coreDown_rst, Dev.bed_rst d.logDrain_bed]
  cel := by rw [Dev.sysClear_cel, Dev.coreDown_cel, Dev.bed_cel d.logDrain_bed]
  mem := by rw [Dev.sysClear_mem, Dev.coreDown_mem, Dev.bed_mem d.logDrain_bed]
  cmem := by rw [Dev.sysClear_cmem, Dev.coreDown_cmem, Dev.bed_cmem d.logDrain_bed]
  tile := by rw [Dev.sysClear_tile, Dev.coreDown_tile, Dev.bed_tile d.logDrain_bed]
  fab := by rw [Dev.sysClear_fab, Dev.coreDown_fab, Dev.bed_fab d.logDrain_bed]
  corks := by
    intro c hc
    rw [Dev.sysClear_corks, Dev.coreDown_corks, Dev.bed_corks d.logDrain_bed, List.mem_filter, List.mem_filter] at hc
    obtain ⟨⟨hmem, hcore⟩, hsys⟩ := hc
    refine ⟨hmem, ?_⟩
    by_contra hne
    have hnv : regDom c.addr ≠ .sys := fun h => by rw [h] at hsys; exact absurd hsys (by decide)
    simp [hne, hnv] at hcore

theorem Dev.Held.fresh {x y : Dev} (h : x.Held y) (hf : x.corksFresh) : y.corksFresh := fun c hc => by
  rw [h.fab]
  exact hf c (h.corks c hc).1

theorem Dev.held_sysDown (d : Dev) : ∃ x : Dev, x.Held (d.sysDown none) ∧ x.rst = d.rst ∧ x.mem = d.mem ∧ x.cmem = d.cmem ∧ x.tile = d.tile := by
  cases h : d.flag F.MGS_STAT_TRIAL with
  | false => exact ⟨d, by rw [Dev.sysDown_steady h]; exact d.held_sysClear _ _, rfl, rfl, rfl, rfl⟩
  | true => exact ⟨d.cellarCause 7, by rw [Dev.sysDown_trial h]; exact Dev.held_sysClear _ _ _, Dev.cellarCause_rst _ _, Dev.cellarCause_mem _ _,
      Dev.cellarCause_cmem _ _, Dev.cellarCause_tile _ _⟩

section
variable {s : State}

theorem completes_sysDown {c : Instr} {n : Nat} (h : Runs c s fun d => d.sysDown (some n)) (hs : s.dev.corksFresh) (hn : n < 10)
    (ht : s.dev.flag F.MGS_STAT_TRIAL = false) : Completes c s fun e =>
      e.rst = { s.dev.rst with sys := true, core := true } ∧ bitOf (e.cget F.CEL_RSTCAUSE_CAUSE) n = true ∧ e.cget F.CEL_RSTCAUSE_LAST = n
        ∧ (∀ a, a ≠ R.CEL_RSTCAUSE → e.crd a = s.dev.crd a) ∧ e.mem = s.dev.mem ∧ e.cmem = s.dev.cmem ∧ e.tile = s.dev.tile := by
  have heq : s.dev.sysDown (some n) = (s.dev.cellarCause n).logDrain.coreDown.sysClear (s.dev.flag F.MGS_STAT_BANK) false := by
    rw [Dev.sysDown_some, Dev.sysDown_steady ((s.dev.cellarCause_flag n _).trans ht), Dev.cellarCause_flag]
  have hh : (s.dev.cellarCause n).Held (s.dev.sysDown (some n)) := by
    rw [heq]
    exact Dev.held_sysClear _ _ _
  refine completes_of_runs h (hh.fresh hs) ⟨hh.rst, ?_, ?_, fun a ha => ?_, hh.mem, hh.cmem, hh.tile⟩
  · exact (congrArg (bitOf · n) (Dev.cget_congr hh.cel _)).trans (Dev.cellarCause_bit _ hn)
  · exact (Dev.cget_congr hh.cel _).trans (Dev.cellarCause_last _ (by omega))
  · exact (show (s.dev.sysDown (some n)).crd a = (s.dev.cellarCause n).crd a by rw [Dev.crd, hh.cel, ← Dev.crd]).trans (Dev.cellarCause_crd _ _ ha)

end

/-! ### VBAT reset -/

/-- VBAT reset asserted: the Cellar and the spare map at reset. -/
def Dev.vbatHold (d : Dev) : Dev :=
  { d with
    cel := [], clr := clr0, rst := { d.rst with vbat := true }
    mgs := { d.mgs with retPe := [], peMap := [], rowMap := [], secMap := [], rowGone := [], usedPll := false, pllBad := false } }

theorem Dev.vbatDown_eq (d : Dev) : d.vbatDown =
    (((d.sysDown none).clrRegs (· == .vbat)).wr R.MGS_SPARE_STAT (regReset R.MGS_SPARE_STAT)).vbatHold := rfl

theorem Dev.vbatHold_rst (d : Dev) : d.vbatHold.rst = { d.rst with vbat := true } := rfl
theorem Dev.vbatHold_mem (d : Dev) : d.vbatHold.mem = d.mem := rfl
theorem Dev.vbatHold_cmem (d : Dev) : d.vbatHold.cmem = d.cmem := rfl
theorem Dev.vbatHold_tile (d : Dev) : d.vbatHold.tile = d.tile := rfl
theorem Dev.vbatHold_corks (d : Dev) : d.vbatHold.corks = d.corks := rfl

theorem Dev.vbatDown_rst (d : Dev) : d.vbatDown.rst = { (d.sysDown none).rst with vbat := true } := by
  rw [Dev.vbatDown_eq, Dev.vbatHold_rst, Dev.wr_rst, Dev.clrRegs_rst]
theorem Dev.vbatDown_cel (d : Dev) : d.vbatDown.cel = [] := rfl
theorem Dev.vbatDown_mem (d : Dev) : d.vbatDown.mem = (d.sysDown none).mem := by rw [Dev.vbatDown_eq, Dev.vbatHold_mem, Dev.wr_mem, Dev.clrRegs_mem]
theorem Dev.vbatDown_cmem (d : Dev) : d.vbatDown.cmem = (d.sysDown none).cmem := by rw [Dev.vbatDown_eq, Dev.vbatHold_cmem, Dev.wr_cmem, Dev.clrRegs_cmem]
theorem Dev.vbatDown_tile (d : Dev) : d.vbatDown.tile = (d.sysDown none).tile := by rw [Dev.vbatDown_eq, Dev.vbatHold_tile, Dev.wr_tile, Dev.clrRegs_tile]
theorem Dev.vbatDown_corks (d : Dev) : d.vbatDown.corks = (d.sysDown none).corks.filter (fun c => !((· == .vbat) (regDom c.addr))) := by
  rw [Dev.vbatDown_eq, Dev.vbatHold_corks, Dev.wr_corks, Dev.clrRegs_corks]

/-- No cork outlives VBAT reset. -/
theorem Dev.vbatDown_noCork (d : Dev) : d.vbatDown.corksFresh := by
  obtain ⟨x, hx, _⟩ := d.held_sysDown
  intro c hc
  rw [Dev.vbatDown_corks, List.mem_filter] at hc
  obtain ⟨hmem, hdom⟩ := hc
  rw [(hx.corks c hmem).2] at hdom
  exact absurd hdom (by decide)

theorem completes_vbatReset (s : State) : Completes .vbatReset s fun e =>
    e.rst = { s.dev.rst with vbat := true, sys := true, core := true } ∧ e.cel = [] ∧ e.mem = s.dev.mem ∧ e.cmem = s.dev.cmem ∧ e.tile = s.dev.tile := by
  obtain ⟨x, hx, hrst, hmem, hcmem, htile⟩ := s.dev.held_sysDown
  refine completes_of_runs (runs_any Dev.vbatDown rfl) (Dev.vbatDown_noCork _) ⟨?_, Dev.vbatDown_cel _, ?_, ?_, ?_⟩
  · rw [State.start, Dev.vbatDown_rst, hx.rst, hrst]
  · exact (Dev.vbatDown_mem _).trans (hx.mem.trans hmem)
  · exact (Dev.vbatDown_cmem _).trans (hx.cmem.trans hcmem)
  · exact (Dev.vbatDown_tile _).trans (hx.tile.trans htile)

/-- VBAT reset over. -/
def Dev.vbatUp (d : Dev) : Dev := { d with rst := { d.rst with vbat := false } }

theorem Dev.vbatUp_crd (d : Dev) (a : Nat) : d.vbatUp.crd a = d.crd a := rfl

theorem Dev.vbatUp_rest (d : Dev) (n : Nat) : { d.vbatUp.cellarCause n with rst := d.rst, cel := d.cel, fltNew := d.fltNew } = d :=
  (congrArg (fun x : Dev => { x with rst := d.rst, fltNew := d.fltNew }) (d.vbatUp.cellarCause_rest n)).trans rfl

theorem runs_vbatRelease {s : State} (hv : s.dev.rst.vbat = true) : Runs .vbatRelease s fun d => d.vbatUp.cellarCause 1 :=
  runs_congr (runs_any _ (show execVbatRelease s = _ from rfl)) (if_pos hv)

theorem completes_vbatRelease {s : State} (hs : s.dev.corksFresh) (hv : s.dev.rst.vbat = true) : Completes .vbatRelease s fun e =>
    e.rst = { s.dev.rst with vbat := false } ∧ bitOf (e.cget F.CEL_RSTCAUSE_CAUSE) 1 = true ∧ e.cget F.CEL_RSTCAUSE_LAST = 1
      ∧ (∀ a, a ≠ R.CEL_RSTCAUSE → e.crd a = s.dev.crd a) ∧ { e with rst := s.dev.rst, cel := s.dev.cel, fltNew := s.dev.fltNew } = s.dev := by
  refine completes_runs_eq (s.dev.vbatUp.cellarCause 1) (runs_vbatRelease hv) hs rfl (Dev.cellarCause_corks _ _) (Dev.cellarCause_fab _ _)
    ⟨Dev.cellarCause_rst _ _, Dev.cellarCause_bit _ (by decide), Dev.cellarCause_last _ (by decide), fun a ha => ?_, Dev.vbatUp_rest _ _⟩
  rw [Dev.cellarCause_crd _ _ ha, Dev.vbatUp_crd]

/-! ### PCIE reset -/

/-- The Racking engine between transfers. -/
def Dev.rakIdle (d : Dev) : Dev := { d with rak := { d.rak with running := none } }

theorem Dev.rakIdle_bed (d : Dev) : d.rakIdle.bed = d.bed := rfl
theorem Dev.rakIdle_mram (d : Dev) : d.rakIdle.mram = d.mram := rfl

theorem Dev.rakFail_still (d : Dev) (n code : Nat) : (d.rakFail n code).still = d.rakIdle.still := by
  rw [Dev.rakFail, Dev.raise_still, Dev.put_still, Dev.put_still, Dev.rakIdle]

theorem Dev.rakFail_bed (d : Dev) (n code : Nat) : (d.rakFail n code).bed = d.bed := (Dev.bed_of_still (d.rakFail_still n code)).trans d.rakIdle_bed
theorem Dev.rakFail_mram (d : Dev) (n code : Nat) : (d.rakFail n code).mram = d.mram := (Dev.still_mram (d.rakFail_still n code)).trans d.rakIdle_mram

theorem Dev.rakEndHost_cases (d : Dev) : d.rakEndHost = d ∨ ∃ n, d.rakEndHost = d.rakFail n 1 := by
  unfold Dev.rakEndHost
  cases d.rak.running with
  | none => exact .inl rfl
  | some n =>
    by_cases h : d.rakHost n
    · exact .inr ⟨n, if_pos h⟩
    · exact .inl (if_neg h)

theorem Dev.rakEndHost_bed (d : Dev) : d.rakEndHost.bed = d.bed := by
  rcases d.rakEndHost_cases with h | ⟨n, h⟩
  · rw [h]
  · rw [h, Dev.rakFail_bed]

theorem Dev.rakEndHost_mram (d : Dev) : d.rakEndHost.mram = d.mram := by
  rcases d.rakEndHost_cases with h | ⟨n, h⟩
  · rw [h]
  · rw [h, Dev.rakFail_mram]

/-- The rings and streams gone, and the casks they held free. -/
def Dev.ringsGone (d : Dev) (h : Hif) (q : Qmg) : Dev := { d with hif := h, qmg := q }

theorem Dev.ringsGone_bed (d : Dev) (h : Hif) (q : Qmg) : (d.ringsGone h q).bed = d.bed := rfl
theorem Dev.ringsGone_mram (d : Dev) (h : Hif) (q : Qmg) : (d.ringsGone h q).mram = d.mram := rfl

/-- The casks that commands of the rings held, and the queues that stay. -/
def Dev.ringCasks (d : Dev) : List Nat :=
  ((List.range 256).flatMap d.qmg.queue) ++ (d.qmg.casks.filter (fun p => p.2.tag == 0)).map (fun p => p.1)

def Dev.ringsQmg (d : Dev) : Qmg :=
  let left := (d.qmg.queues.filter (fun p => decide (256 ≤ p.1))).map (fun p => (p.1, p.2.filter (fun c => !d.ringCasks.contains c)))
  ({ d.qmg with queues := left.filter (fun p => !p.2.isEmpty) } : Qmg).freeAll d.ringCasks

theorem Dev.pcieClear_eq (d : Dev) : ∃ y : Dev, y.still = d.rakEndHost.still ∧ d.pcieClear.still =
    (y.ringsGone { y.hif with sqs := [], cqs := [], stm := [], turn := [], pcie := { pcie0 with aer := y.hif.pcie.aer } } y.ringsQmg).still := by
  refine ⟨_, Dev.foldl_still _ (fun x n => Dev.causeOff_still x 14 4 n) (smKeys d.hif.cqs) d.rakEndHost, ?_⟩
  unfold Dev.pcieClear
  dsimp only
  rw [forN_keeps Dev.still (fun x n => by rw [Dev.put_still, Dev.put_still, Dev.put_still, Dev.put_still]), Dev.put_still, Dev.put_still,
    forN_keeps Dev.still (fun x n => Dev.noteLine_still x n), Dev.poolCheck_still]
  rfl

theorem Dev.pcieClear_still (d : Dev) : ∃ x : Dev, x.bed = d.bed ∧ x.mram = d.mram ∧ d.pcieClear.still = x.still ∧
    x.hif.sqs = [] ∧ x.hif.cqs = [] ∧ x.hif.stm = [] := by
  obtain ⟨y, hy, hclear⟩ := d.pcieClear_eq
  exact ⟨_, (Dev.ringsGone_bed _ _ _).trans ((Dev.bed_of_still hy).trans d.rakEndHost_bed),
    (Dev.ringsGone_mram _ _ _).trans ((Dev.still_mram hy).trans d.rakEndHost_mram), hclear, rfl, rfl, rfl⟩

/-- A device with the PCIe functions at reset, under the resets r. -/
def Dev.pcieHold (d : Dev) (r : Rst) : Dev := { d with hif := { d.hif with pcie := pcie0 }, rst := r }

theorem Dev.pcieHold_rst (d : Dev) (r : Rst) : (d.pcieHold r).rst = r := rfl
theorem Dev.pcieHold_mem (d : Dev) (r : Rst) : (d.pcieHold r).mem = d.mem := rfl
theorem Dev.pcieHold_cmem (d : Dev) (r : Rst) : (d.pcieHold r).cmem = d.cmem := rfl
theorem Dev.pcieHold_mram (d : Dev) (r : Rst) : (d.pcieHold r).mram = d.mram := rfl
theorem Dev.pcieHold_hif (d : Dev) (r : Rst) : (d.pcieHold r).hif = { d.hif with pcie := pcie0 } := rfl

/-- PCIE reset held. -/
def Dev.perstDown (d : Dev) : Dev := (d.pcieClear.clrRegs (· == .pcie)).pcieHold { d.rst with perst := true }

theorem Dev.perstDown_eq (d : Dev) : ({ d.pcieReset with rst := { d.rst with perst := true } } : Dev) = d.perstDown := by
  unfold Dev.perstDown Dev.pcieReset Dev.pcieHold
  dsimp only

theorem exec_perstN (s : State) : exec .perstN s = s.runAny Dev.perstDown := by
  show execPerstN s = _
  unfold execPerstN
  simp only [Dev.perstDown_eq]

theorem Dev.perstDown_rst (d : Dev) : d.perstDown.rst = { d.rst with perst := true } := by rw [Dev.perstDown, Dev.pcieHold_rst]
theorem Dev.perstDown_mem (d : Dev) : d.perstDown.mem = d.pcieClear.mem := by rw [Dev.perstDown, Dev.pcieHold_mem, Dev.clrRegs_mem]
theorem Dev.perstDown_cmem (d : Dev) : d.perstDown.cmem = d.pcieClear.cmem := by rw [Dev.perstDown, Dev.pcieHold_cmem, Dev.clrRegs_cmem]
theorem Dev.perstDown_mram (d : Dev) : d.perstDown.mram = d.pcieClear.mram := by rw [Dev.perstDown, Dev.pcieHold_mram, Dev.clrRegs_mram]
theorem Dev.perstDown_hif (d : Dev) : d.perstDown.hif = { d.pcieClear.hif with pcie := pcie0 } := by
  rw [Dev.perstDown, Dev.pcieHold_hif, Dev.clrRegs_hif]

theorem completes_perstN (s : State) : Completes .perstN s fun e =>
    e.rst = { s.dev.rst with perst := true } ∧ e.hif.sqs = [] ∧ e.hif.cqs = [] ∧ e.hif.stm = [] ∧ e.mem = s.dev.mem ∧ e.cmem = s.dev.cmem
      ∧ e.mram = s.dev.mram := by
  obtain ⟨x, hbed, hmram, hstill, hsq, hcq, hst⟩ := s.dev.pcieClear_still
  have hx : s.dev.pcieClear.hif = x.hif := Dev.still_hif hstill
  refine completes_ticked (runs_any Dev.perstDown (exec_perstN s)) fun e he _ => ?_
  rw [State.start] at he
  have hhif := (Dev.plain_hif he).trans (s.dev.perstDown_hif.trans (by rw [hx]))
  refine ⟨(Dev.plain_rst he).trans (Dev.perstDown_rst _), ?_, ?_, ?_, ?_, ?_, ?_⟩
  · rw [hhif]; exact hsq
  · rw [hhif]; exact hcq
  · rw [hhif]; exact hst
  · rw [Dev.plain_mem he, Dev.perstDown_mem, Dev.bed_mem (Dev.bed_of_still hstill), Dev.bed_mem hbed]
  · rw [Dev.plain_cmem he, Dev.perstDown_cmem, Dev.bed_cmem (Dev.bed_of_still hstill), Dev.bed_cmem hbed]
  · rw [Dev.plain_mram he, Dev.perstDown_mram, Dev.still_mram hstill, hmram]

theorem completes_perstNRelease {s : State} (hs : s.dev.corksFresh) : Completes .perstNRelease s fun e =>
    e.rst = { s.dev.rst with perst := false } ∧ { e with rst := s.dev.rst, fltNew := s.dev.fltNew } = s.dev :=
  completes_runs_eq _ (runs_any (fun d => { d with rst := { d.rst with perst := false } }) rfl) hs rfl rfl rfl ⟨rfl, rfl⟩

/-! ### The release of SYSTEM reset (R486) -/

/-- SYSTEM reset released, with its reference in force and TMODE taken. -/
def Dev.sysUp (d : Dev) (tm : Nat) : Dev :=
  ((({ d with rst := { d.rst with sys := false } } : Dev).put F.CLK_STAT_STATE 0).put F.DBG_STAT_TMODE tm)

/-- SYSTEM reset over. -/
def Dev.sysFree (d : Dev) : Dev := { d with rst := { d.rst with sys := false } }

theorem Dev.sysFree_rd (d : Dev) (a : Nat) : d.sysFree.rd a = d.rd a := rfl
theorem Dev.sysFree_rest {d e : Dev} (h : e.noRegs = d.sysFree.noRegs) : { e with rst := d.rst, reg := d.reg, fltNew := d.fltNew } = d :=
  congrArg (fun x : Dev => { x with rst := d.rst, reg := d.reg, fltNew := d.fltNew }) h

theorem Dev.sysUp_eq (d : Dev) (tm : Nat) : d.sysUp tm = (d.sysFree.put F.CLK_STAT_STATE 0).put F.DBG_STAT_TMODE tm := rfl

theorem Dev.sysUp_noRegs (d : Dev) (tm : Nat) : (d.sysUp tm).noRegs = d.sysFree.noRegs := by rw [Dev.sysUp_eq, Dev.put_noRegs, Dev.put_noRegs]

theorem Dev.sysUp_rst (d : Dev) (tm : Nat) : (d.sysUp tm).rst = { d.rst with sys := false } := Dev.noRegs_rst (d.sysUp_noRegs tm)
theorem Dev.sysUp_corks (d : Dev) (tm : Nat) : (d.sysUp tm).corks = d.corks := (Dev.noRegs_corks (d.sysUp_noRegs tm)).trans rfl
theorem Dev.sysUp_fab (d : Dev) (tm : Nat) : (d.sysUp tm).fab = d.fab := (Dev.noRegs_fab (d.sysUp_noRegs tm)).trans rfl
theorem Dev.sysUp_rest (d : Dev) (tm : Nat) : { d.sysUp tm with rst := d.rst, reg := d.reg, fltNew := d.fltNew } = d :=
  Dev.sysFree_rest (d.sysUp_noRegs tm)

theorem Dev.sysUp_state (d : Dev) (tm : Nat) : (d.sysUp tm).get F.CLK_STAT_STATE = 0 := by
  rw [Dev.sysUp_eq, Dev.get_put_ne _ _ _ _ (by decide), Dev.get_put_same _ _ _ (by decide), Nat.zero_mod]

theorem Dev.sysUp_tmode (d : Dev) {tm : Nat} (h : tm < 2) : (d.sysUp tm).get F.DBG_STAT_TMODE = tm := by
  rw [Dev.sysUp_eq, Dev.get_put_same _ _ _ (by decide)]
  exact Nat.mod_eq_of_lt (lt_of_lt_of_le h (by decide))

theorem Dev.sysUp_rd (d : Dev) (tm : Nat) {a : Nat} (hc : a ≠ R.CLK_STAT) (hd : a ≠ R.DBG_STAT) : (d.sysUp tm).rd a = d.rd a := by
  rw [Dev.sysUp_eq, Dev.rd_put_ne _ _ _ hd, Dev.rd_put_ne _ _ _ hc, Dev.sysFree_rd]

theorem runs_sysRelease {s : State} {tmode : Fin 4} (hs : s.celRuns) (hr : s.dev.rst.sys = true) (hp : s.dev.mgs.pllHold = false)
    (he : s.dev.cflag F.CEL_STAT_COREEN = true) (hx : s.dev.flag F.CLK_STAT_XGOOD = true) (hf : s.dev.flag F.CLK_REF_CFG_PREF = false) :
    Runs (.systemResetRelease tmode) s fun d => d.sysUp (if tmode.val = 1 then 1 else 0) := by
  refine runs_congr (runs_cel _ (show execSystemResetRelease tmode s = _ from rfl) hs) ?_
  simp only [State.start, hr, hp, he, hx, hf, Bool.not_false, Bool.or_true, Bool.and_self, Bool.false_eq_true, if_false, if_true]
  rfl

theorem completes_sysRelease {s : State} {tmode : Fin 4} (hs : s.celRuns) (hr : s.dev.rst.sys = true) (hp : s.dev.mgs.pllHold = false)
    (he : s.dev.cflag F.CEL_STAT_COREEN = true) (hx : s.dev.flag F.CLK_STAT_XGOOD = true) (hf : s.dev.flag F.CLK_REF_CFG_PREF = false) :
    Completes (.systemResetRelease tmode) s fun e =>
      e.rst = { s.dev.rst with sys := false } ∧ e.get F.CLK_STAT_STATE = 0 ∧ e.get F.DBG_STAT_TMODE = (if tmode.val = 1 then 1 else 0)
        ∧ (∀ a, a ≠ R.CLK_STAT → a ≠ R.DBG_STAT → e.rd a = s.dev.rd a) ∧ { e with rst := s.dev.rst, reg := s.dev.reg, fltNew := s.dev.fltNew } = s.dev :=
  completes_runs_eq (s.dev.sysUp (if tmode.val = 1 then 1 else 0)) (runs_sysRelease hs hr hp he hx hf) hs.1 rfl (Dev.sysUp_corks _ _) (Dev.sysUp_fab _ _)
    ⟨Dev.sysUp_rst _ _, Dev.sysUp_state _ _, Dev.sysUp_tmode _ (by split <;> decide), fun _ hc hd => Dev.sysUp_rd _ _ hc hd, Dev.sysUp_rest _ _⟩

theorem runs_sysRelease_off {s : State} {tmode : Fin 4} (hs : s.celRuns) (he : s.dev.cflag F.CEL_STAT_COREEN = false) :
    Runs (.systemResetRelease tmode) s id := by
  refine runs_congr (runs_cel _ (show execSystemResetRelease tmode s = _ from rfl) hs) ?_
  simp only [State.start, he, Bool.and_false, Bool.false_and, Bool.false_eq_true, if_false]
  rfl

/-- Settles O54: SYSTEM reset by what of the device stands through it (Dev.Held), PCIE reset by what its clearing leaves. -/
theorem resetInputs : Obligations.reset_inputs := by
  unfold Obligations.reset_inputs
  exact ⟨completes_vbatReset, fun s hs hv => completes_vbatRelease hs hv,
    fun s hs ht => completes_sysDown (runs_cel (fun d => d.sysDown (some 2)) rfl hs) hs.1 (by decide) ht,
    fun s hs ht => completes_sysDown (runs_cel (fun d => d.sysDown (some 4)) rfl hs) hs.1 (by decide) ht, completes_perstN,
    fun s hs => completes_perstNRelease hs, fun s tmode hs hr hp he hx hf => completes_sysRelease hs hr hp he hx hf,
    fun s tmode hs he => completes_runs_eq s.dev (runs_sysRelease_off hs he) hs.1 rfl rfl rfl rfl⟩

end Sys2Proof.Machine

/-! PROOFS. The boot, the banks and the watchdog (R487, R491, R500-R502). -/

namespace Sys2Proof.Machine

/-! ### CORE reset released (R482) -/

/-- A register of a domain whose registers stay. -/
theorem smGet_filter {α : Type} (q : Nat × α → Bool) (z : α) {k : Nat} (h : ∀ v, q (k, v) = true) : ∀ m : SMap α, smGet (m.filter q) z k = smGet m z k
  | [] => rfl
  | (j, v) :: r => by
    rw [List.filter_cons]
    by_cases hj : j = k
    · subst hj
      rw [if_pos (h v), smGet, smGet, if_pos rfl, if_pos rfl]
    · split
      · rw [smGet, smGet, if_neg hj, if_neg hj, smGet_filter q z h r]
      · rw [smGet_filter q z h r, smGet, if_neg hj]

theorem Dev.clrRegs_rd (d : Dev) (p : RDom → Bool) {a : Nat} (h : p (regDom a) = false) : (d.clrRegs p).rd a = d.rd a :=
  smGet_filter (fun e => !p (regDom e.1)) (regReset a) (fun _ => by rw [h]; rfl) d.reg

theorem Dev.lanesStop_rd (d : Dev) (a : Nat) : d.lanesStop.rd a = d.rd a := rfl

theorem Dev.coreDown_clrRegs (d : Dev) (a : Nat) : d.coreDown.rd a = (d.lanesStop.clrRegs (fun x => x != .vbat && x != .sys)).rd a := rfl

theorem Dev.coreDown_rd_sys (d : Dev) {a : Nat} (h : regDom a = .sys) : d.coreDown.rd a = d.rd a := by
  rw [Dev.coreDown_clrRegs, Dev.clrRegs_rd _ _ (by rw [h]; decide), Dev.lanesStop_rd]

/-- The device without what reports, spares and their shadows keep. -/
def Dev.spareless (d : Dev) : Dev := { d.still with draw := 0, sch := sch0, mgs := mgs0 }

theorem Dev.spareless_of_still {d e : Dev} (h : e.still = d.still) : e.spareless = d.spareless :=
  congrArg (fun x : Dev => { x with draw := 0, sch := sch0, mgs := mgs0 }) h

theorem Dev.spareless_of_noRegs {d e : Dev} (h : e.noRegs = d.noRegs) : e.spareless = d.spareless :=
  show e.noRegs.spareless = d.noRegs.spareless from congrArg Dev.spareless h

theorem Dev.spareless_rst {d e : Dev} (h : e.spareless = d.spareless) : e.rst = d.rst := show e.spareless.rst = d.spareless.rst from congrArg Dev.rst h
theorem Dev.spareless_cel {d e : Dev} (h : e.spareless = d.spareless) : e.cel = d.cel := show e.spareless.cel = d.spareless.cel from congrArg Dev.cel h
theorem Dev.spareless_mem {d e : Dev} (h : e.spareless = d.spareless) : e.mem = d.mem := show e.spareless.mem = d.spareless.mem from congrArg Dev.mem h
theorem Dev.spareless_cmem {d e : Dev} (h : e.spareless = d.spareless) : e.cmem = d.cmem := show e.spareless.cmem = d.spareless.cmem from congrArg Dev.cmem h
theorem Dev.spareless_mram {d e : Dev} (h : e.spareless = d.spareless) : e.mram = d.mram := show e.spareless.mram = d.spareless.mram from congrArg Dev.mram h
theorem Dev.spareless_now {d e : Dev} (h : e.spareless = d.spareless) : e.now = d.now := show e.spareless.now = d.spareless.now from congrArg Dev.now h

theorem Dev.foldl_noRegs {β : Type} (f : Dev → β → Dev) (hf : ∀ x b, (f x b).noRegs = x.noRegs) (l : List β) :
    ∀ d : Dev, (l.foldl f d).noRegs = d.noRegs := by
  induction l with
  | nil => exact fun _ => rfl
  | cons b l ih => exact fun d => (ih (f d b)).trans (hf d b)

theorem Dev.spareApply_noRegs (d : Dev) : d.spareApply.noRegs = d.noRegs := by
  unfold Dev.spareApply
  rw [Dev.foldl_noRegs _ (fun x p => by rw [Dev.wr_noRegs, Dev.put_noRegs]), Dev.foldl_noRegs _ (fun x m => Dev.wr_noRegs x _ _)]

theorem Dev.drawFree_spareless (d : Dev) : d.drawFree.2.spareless = d.spareless := rfl

theorem Dev.spareUsed_spareless (d : Dev) (kind unit spare : Nat) : (d.spareUsed kind unit spare).spareless = d.spareless := by
  refine Eq.trans (Dev.spareless_of_still ?_) d.drawFree_spareless
  rw [Dev.spareUsed, Dev.raise_still, Dev.log_still, Dev.incSat_still]

theorem Dev.setMgs_spareless (d : Dev) (m : Mgs) : Dev.spareless { d with mgs := m } = d.spareless := rfl
theorem Dev.setSch_spareless (d : Dev) (x : Sch) : Dev.spareless { d with sch := x } = d.spareless := rfl
theorem Dev.wr_spareless (d : Dev) (a : Nat) (w : Word) : (d.wr a w).spareless = d.spareless := rfl
theorem Dev.put_spareless (d : Dev) (f : Fld) (v : Nat) : (d.put f v).spareless = d.spareless := rfl

theorem Dev.retirePe_spareless (d : Dev) (m : Nat) : (d.retirePe m).spareless = d.spareless := by
  rw [Dev.retirePe, Dev.setMgs_spareless, Dev.wr_spareless]

theorem Dev.peMove_spareless (d : Dev) (l m : Nat) : (d.peMove l m).spareless = d.spareless := by
  unfold Dev.peMove
  dsimp only
  rw [Dev.spareUsed_spareless, Dev.setMgs_spareless, Dev.wr_spareless, Dev.put_spareless, Dev.retirePe_spareless, Dev.takePe, Dev.put_spareless]

theorem Dev.spareNone_spareless (d : Dev) (u : Nat) : (d.spareNone u).spareless = d.spareless := Dev.spareless_of_still (Dev.causeOn_still _ _ _ _ _)

theorem Dev.shadowNew_spareless (d : Dev) (x : Shadow) : (d.shadowNew x).spareless = d.spareless := by
  rw [Dev.shadowNew, Dev.setSch_spareless, Dev.wr_spareless]

theorem Dev.movesNext_spareless (n : Nat) : ∀ d : Dev, (d.movesNext n).spareless = d.spareless := by
  induction n with
  | zero => exact fun _ => rfl
  | succ n ih =>
    intro d
    unfold Dev.movesNext
    split
    · rfl
    · split
      · rfl
      · dsimp only
        split
        · split
          · exact Dev.shadowNew_spareless _ _
          · rw [ih, Dev.peMove_spareless, Dev.setMgs_spareless]
        · rw [ih, Dev.spareNone_spareless, Dev.setMgs_spareless]
        · rw [ih, Dev.setMgs_spareless]

/-- The core at the release of its reset, before the spares take their places. -/
def Dev.coreWake (d : Dev) : Dev :=
  { d with rst := { d.rst with core := false }, now := 0, fab := fabGrid d.fab, tile := d.tile.map (fun p => (p.1, p.2.rebase d.now)) }

theorem Dev.coreWake_rst (d : Dev) : d.coreWake.rst = { d.rst with core := false } := rfl
theorem Dev.coreWake_now (d : Dev) : d.coreWake.now = 0 := rfl
theorem Dev.coreWake_cel (d : Dev) : d.coreWake.cel = d.cel := rfl
theorem Dev.coreWake_mem (d : Dev) : d.coreWake.mem = d.mem := rfl
theorem Dev.coreWake_cmem (d : Dev) : d.coreWake.cmem = d.cmem := rfl
theorem Dev.coreWake_mram (d : Dev) : d.coreWake.mram = d.mram := rfl

theorem Dev.coreUp_eq {d : Dev} (hr : d.rst.core = true) (hp : d.cget F.CEL_STAT_PSTATE ≠ 3) : d.coreUp = d.coreWake.spareApply.movesNext 36 := by
  unfold Dev.coreUp
  simp only [hr, Bool.not_true, Bool.false_eq_true, if_false, beq_eq_false_iff_ne.2 hp, Bool.not_false, if_true]
  rfl

theorem Dev.coreUp_spareless {d : Dev} (hr : d.rst.core = true) (hp : d.cget F.CEL_STAT_PSTATE ≠ 3) : d.coreUp.spareless = d.coreWake.spareless := by
  rw [Dev.coreUp_eq hr hp, Dev.movesNext_spareless, Dev.spareless_of_noRegs (Dev.spareApply_noRegs _)]

section
variable {s : State}

theorem Dev.coreRst_up {d : Dev} (hd : d.mgs.shutdown = false) (hb : d.boardTest = false) : d.coreRst 7 = (d.cellarCause 9).coreDown.coreUp := by
  have ht : ((d.cellarCause 9).coreDown.get F.DBG_STAT_TMODE == 1) = false := by
    rw [Dev.get, Dev.coreDown_rd_sys _ (by decide), ← Dev.get, Dev.cellarCause_get]
    exact hb
  have hsh : (d.cellarCause 9).coreDown.mgs.shutdown = false := by
    rw [Dev.coreDown_mgs, Dev.cellarCause_mgs]
    exact hd
  unfold Dev.coreRst
  dsimp only
  rw [ht, hsh, Bool.or_false]
  rfl

theorem Dev.cellarCause_mram (d : Dev) (n : Nat) : (d.cellarCause n).mram = d.mram := rfl

theorem Dev.cellarCause_cget_ne (d : Dev) (n : Nat) {f : Fld} (h : f.addr ≠ R.CEL_RSTCAUSE) : (d.cellarCause n).cget f = d.cget f := by
  rw [Dev.cget, Dev.cget, Dev.cellarCause_crd _ _ h]

theorem completes_corerst (hs : s.sysRuns) (hd : s.dev.mgs.shutdown = false) (hb : s.dev.boardTest = false) (hp : s.dev.cget F.CEL_STAT_PSTATE ≠ 3) :
    Completes (.corerst 7) s fun e =>
      e.rst = { s.dev.rst with core := false } ∧ e.now = 0 ∧ bitOf (e.cget F.CEL_RSTCAUSE_CAUSE) 9 = true ∧ e.cget F.CEL_RSTCAUSE_LAST = 9
        ∧ e.mem = s.dev.mem ∧ e.cmem = s.dev.cmem ∧ e.mram = s.dev.mram := by
  have hps : (s.dev.cellarCause 9).coreDown.cget F.CEL_STAT_PSTATE ≠ 3 := by
    rw [Dev.cget_congr (Dev.coreDown_cel _), Dev.cellarCause_cget_ne _ _ (by decide)]
    exact hp
  have hup : ((s.dev.coreRst 7)).spareless = ((s.dev.cellarCause 9).coreDown.coreWake).spareless := by
    rw [Dev.coreRst_up hd hb]
    exact Dev.coreUp_spareless (congrArg Rst.core (Dev.coreDown_rst _)) hps
  refine completes_ticked (runs_sys (fun d => d.coreRst 7) rfl hs) fun e he hcel => ?_
  rw [State.start] at he hcel
  have hce : e.cel = (s.dev.cellarCause 9).cel := by rw [hcel, Dev.spareless_cel hup, Dev.coreWake_cel, Dev.coreDown_cel]
  refine ⟨?_, ?_, ?_, ?_, ?_, ?_, ?_⟩
  · rw [Dev.plain_rst he, Dev.spareless_rst hup, Dev.coreWake_rst, Dev.coreDown_rst, Dev.cellarCause_rst]
  · rw [Dev.plain_now he, Dev.spareless_now hup, Dev.coreWake_now]
  · rw [Dev.cget_congr hce]
    exact Dev.cellarCause_bit _ (by decide)
  · rw [Dev.cget_congr hce]
    exact Dev.cellarCause_last _ (by decide)
  · rw [Dev.plain_mem he, Dev.spareless_mem hup, Dev.coreWake_mem, Dev.coreDown_mem, Dev.cellarCause_mem]
  · rw [Dev.plain_cmem he, Dev.spareless_cmem hup, Dev.coreWake_cmem, Dev.coreDown_cmem, Dev.cellarCause_cmem]
  · rw [Dev.plain_mram he, Dev.spareless_mram hup, Dev.coreWake_mram, Dev.coreDown_mram, Dev.cellarCause_mram]

theorem completes_unchanged {c : Instr} (h : Runs c s id) (hs : s.dev.corksFresh) : Completes c s fun e => { e with fltNew := s.dev.fltNew } = s.dev :=
  completes_runs_eq s.dev h hs rfl rfl rfl rfl

theorem runs_corerst_other {req : Fin 10} (hs : s.sysRuns) (hr : req.val ≠ 7) : Runs (.corerst req) s id :=
  runs_congr (runs_sys (fun d => d.coreRst req) rfl hs) (if_neg hr)

/-! ### The boot -/

theorem runs_boot (hs : s.sysRuns) (hr : s.dev.mgs.running = false) (hb : s.dev.boardTest = false) : Runs .boot s fun d =>
    let d1 := d.pllBoot.mgBoot.bankCheck.bist.coreUp.imgBoot
    { d1 with mgs := { d1.mgs with running := true, bootAt := d1.fab } } :=
  runs_congr (runs_sys _ (show execBoot s = _ from rfl) hs) (if_neg (by rw [State.start, hr, hb]; exact Bool.false_ne_true))

theorem runs_boot_again (hs : s.sysRuns) (hr : s.dev.mgs.running = true) : Runs .boot s id :=
  runs_congr (runs_sys _ (show execBoot s = _ from rfl) hs) (if_pos (by rw [State.start, hr]; rfl))

/-! ### Trials and bank switches (R500, R501) -/

theorem completes_confirm (hs : s.sysRuns) : Completes (.confirm 7) s fun e =>
    e.flag F.MGS_STAT_TRIAL = false ∧ e.flag F.MGS_STAT_BANK = s.dev.flag F.MGS_STAT_BANK ∧ Dev.onlyRegs s.dev e [R.MGS_STAT] := by
  have honly := Dev.put_onlyRegs s.dev F.MGS_STAT_TRIAL 0
  refine completes_runs_eq (s.dev.put F.MGS_STAT_TRIAL 0) (runs_sys (fun d => d.confirm 7 true) rfl hs) hs.1 rfl honly.corks honly.fab ⟨?_, ?_, honly⟩
  · rw [Dev.flag_put_same _ _ _ (by decide)]
    rfl
  · exact Dev.flag_put_apart _ _ _ _ (by decide) (by decide) (by decide)

theorem runs_trialTimeout (hs : s.sysRuns) (ht : s.dev.flag F.MGS_STAT_TRIAL = true) :
    Runs .trialTimeout s fun d => (d.until (d.mgs.bootAt + 10 * 400000000)).sysDown none :=
  runs_congr (runs_sys _ (show execTrialTimeout s = _ from rfl) hs) (if_pos ht)

theorem runs_trialTimeout_none (hs : s.sysRuns) (ht : s.dev.flag F.MGS_STAT_TRIAL = false) : Runs .trialTimeout s id :=
  runs_congr (runs_sys _ (show execTrialTimeout s = _ from rfl) hs) (if_neg (by rw [State.start, ht]; exact Bool.false_ne_true))

theorem Dev.sysClear_rolled (d : Dev) (b : Bool) : (d.sysClear b true).mgs.rolled = true := by rw [Dev.sysClear, Dev.sysHold_rolled]

theorem completes_trialTimeout (hs : s.sysRuns) (ht : s.dev.flag F.MGS_STAT_TRIAL = true) (hf : s.dev.mgs.bootAt + 10 * 400000000 ≤ s.dev.fab) :
    Completes .trialTimeout s fun e =>
      e.rst = { s.dev.rst with sys := true, core := true } ∧ e.flag F.MGS_STAT_BANK = s.dev.mgs.prevBank ∧ e.mgs.rolled = true
        ∧ e.cget F.CEL_RSTCAUSE_LAST = 7 ∧ bitOf (e.cget F.CEL_RSTCAUSE_CAUSE) 7 = true ∧ e.mem = s.dev.mem ∧ e.cmem = s.dev.cmem := by
  have hh := (s.dev.cellarCause 7).held_sysClear s.dev.mgs.prevBank true
  have hrun : (s.start.until (s.start.mgs.bootAt + 10 * 400000000)).sysDown none =
      (s.dev.cellarCause 7).logDrain.coreDown.sysClear s.dev.mgs.prevBank true := by
    rw [State.start, Dev.until_past hf, Dev.sysDown_trial ht]
  have hr := runs_congr (g := fun _ => (s.dev.cellarCause 7).logDrain.coreDown.sysClear s.dev.mgs.prevBank true) (runs_trialTimeout hs ht) hrun
  refine completes_of_runs hr (hh.fresh hs.1) ⟨hh.rst, Dev.sysClear_bank _ _ _, Dev.sysClear_rolled _ _, ?_, ?_, hh.mem, hh.cmem⟩
  · rw [Dev.cget_congr hh.cel, Dev.cellarCause_last _ (by decide)]
  · rw [Dev.cget_congr hh.cel]
    exact Dev.cellarCause_bit _ (by decide)

/-- A bank on trial, after the former one. -/
def Dev.onTrial (d : Dev) (bank was : Bool) : Dev := ((d.putB F.MGS_STAT_BANK bank).put F.MGS_STAT_TRIAL 1).setMgs { d.mgs with prevBank := was }

theorem Dev.setMgs_flag (d : Dev) (m : Mgs) (f : Fld) : (d.setMgs m).flag f = d.flag f := rfl
theorem Dev.setMgs_mgs (d : Dev) (m : Mgs) : (d.setMgs m).mgs = m := rfl
theorem Dev.setMgs_rst (d : Dev) (m : Mgs) : (d.setMgs m).rst = d.rst := rfl
theorem Dev.setMgs_cel (d : Dev) (m : Mgs) : (d.setMgs m).cel = d.cel := rfl

theorem Dev.bankSw_taken {d : Dev} {bank : Bool} (hv : d.flag F.MGS_FW_STAT_VERIFIED = true) (hb : d.flag F.MGS_STAT_BANK ≠ bank)
    (ht : d.flag F.MGS_STAT_TRIAL = false) : d.bankSw bank =
      (((d.log 21 7 0 0 [b2n (d.flag F.MGS_STAT_BANK), b2n bank, d.fwRel bank]).sysDown (some 6)).onTrial bank (d.flag F.MGS_STAT_BANK)) := by
  have hne : (bank != d.flag F.MGS_STAT_BANK) = true := bne_iff_ne.2 fun h => hb h.symm
  unfold Dev.bankSw
  dsimp only
  rw [hv, hne, ht, if_pos (by decide), if_neg (by decide)]
  rfl

theorem runs_bankSw {req : Fin 10} {bank : Bool} (hs : s.sysRuns) : Runs (.mgsBankSw req bank) s fun d => d.bankSw bank := runs_sys _ rfl hs

theorem completes_bankSw {req : Fin 10} {bank : Bool} (hs : s.sysRuns) (hv : s.dev.flag F.MGS_FW_STAT_VERIFIED = true)
    (hb : s.dev.flag F.MGS_STAT_BANK ≠ bank) (ht : s.dev.flag F.MGS_STAT_TRIAL = false) : Completes (.mgsBankSw req bank) s fun e =>
      e.rst = { s.dev.rst with sys := true, core := true } ∧ e.flag F.MGS_STAT_BANK = bank ∧ e.flag F.MGS_STAT_TRIAL = true
        ∧ e.mgs.prevBank = s.dev.flag F.MGS_STAT_BANK ∧ e.cget F.CEL_RSTCAUSE_LAST = 6 := by
  let d1 := s.dev.log 21 7 0 0 [b2n (s.dev.flag F.MGS_STAT_BANK), b2n bank, s.dev.fwRel bank]
  have hlog : s.dev.Reported d1 := Dev.log_reported _ _ _ _ _ _
  have ht1 : (d1.cellarCause 6).flag F.MGS_STAT_TRIAL = false := (Dev.cellarCause_flag _ _ _).trans ((hlog.flag (by decide +kernel)).trans ht)
  have hh : (d1.cellarCause 6).Held (d1.sysDown (some 6)) := by
    rw [Dev.sysDown_some, Dev.sysDown_steady ht1]
    exact Dev.held_sysClear _ _ _
  have hfresh : (d1.cellarCause 6).corksFresh := (Dev.corksFresh_congr hlog.corks hlog.fab).2 hs.1
  have hrun : (s.start.bankSw bank) = (d1.sysDown (some 6)).onTrial bank (s.dev.flag F.MGS_STAT_BANK) := Dev.bankSw_taken hv hb ht
  have hcorks : ((d1.sysDown (some 6)).onTrial bank (s.dev.flag F.MGS_STAT_BANK)).corks = (d1.sysDown (some 6)).corks := by
    rw [Dev.onTrial, Dev.setMgs_corks, Dev.put_corks, Dev.putB, Dev.put_corks]
  have hfab : ((d1.sysDown (some 6)).onTrial bank (s.dev.flag F.MGS_STAT_BANK)).fab = (d1.sysDown (some 6)).fab := by
    rw [Dev.onTrial, Dev.setMgs_fab, Dev.put_fab, Dev.putB, Dev.put_fab]
  have hr := runs_congr (g := fun _ => (d1.sysDown (some 6)).onTrial bank (s.dev.flag F.MGS_STAT_BANK)) (runs_bankSw (req := req) (bank := bank) hs)
    hrun
  refine completes_of_runs hr ((Dev.corksFresh_congr hcorks hfab).2 (hh.fresh hfresh)) ⟨?_, ?_, ?_, ?_, ?_⟩
  · rw [Dev.onTrial, Dev.setMgs_rst, Dev.put_rst, Dev.putB, Dev.put_rst, hh.rst, Dev.cellarCause_rst, Dev.still_rst hlog.still]
  · rw [Dev.onTrial, Dev.setMgs_flag, Dev.flag_put_apart _ _ _ _ (by decide) (by decide) (by decide)]
    exact Dev.flag_putB _ _ _ (by decide)
  · rw [Dev.onTrial, Dev.setMgs_flag, Dev.flag_put_same _ _ _ (by decide)]
    rfl
  · rw [Dev.onTrial, Dev.setMgs_mgs]
  · rw [Dev.onTrial, Dev.cget_congr (Dev.setMgs_cel _ _), Dev.cget_congr (Dev.put_cel _ _ _), Dev.putB, Dev.cget_congr (Dev.put_cel _ _ _),
      Dev.cget_congr hh.cel, Dev.cellarCause_last _ (by decide)]

theorem Dev.bankSw_refused {d : Dev} {bank : Bool} (hv : d.flag F.MGS_FW_STAT_VERIFIED = false) :
    d.bankSw bank = d.log 21 7 0 0 [b2n (d.flag F.MGS_STAT_BANK), b2n bank, d.fwRel bank] := by
  unfold Dev.bankSw
  dsimp only
  rw [hv, if_neg (by rw [Bool.false_and]; exact Bool.false_ne_true)]

theorem completes_bankSw_refused {req : Fin 10} {bank : Bool} (hs : s.sysRuns) (hv : s.dev.flag F.MGS_FW_STAT_VERIFIED = false) :
    Completes (.mgsBankSw req bank) s fun e =>
      e.rst = s.dev.rst ∧ e.flag F.MGS_STAT_BANK = s.dev.flag F.MGS_STAT_BANK ∧ e.mgs = s.dev.mgs ∧ e.cel = s.dev.cel := by
  have hlog : s.dev.Reported (s.dev.log 21 7 0 0 [b2n (s.dev.flag F.MGS_STAT_BANK), b2n bank, s.dev.fwRel bank]) := Dev.log_reported _ _ _ _ _ _
  refine completes_runs_eq _ (runs_bankSw hs) hs.1 (Dev.bankSw_refused hv) hlog.corks hlog.fab ⟨Dev.still_rst hlog.still, hlog.flag (by decide +kernel), Dev.still_mgs hlog.still,
    Dev.still_cel hlog.still⟩

/-! ### The watchdog and the PLLs -/

theorem completes_kick (hs : s.sysRuns) : Completes (.kick 7) s fun e =>
    e.mgs.kickAt = s.dev.fab ∧ { e with mgs := { e.mgs with kickAt := s.dev.mgs.kickAt }, fltNew := s.dev.fltNew } = s.dev :=
  completes_runs_eq (s.dev.setMgs { s.dev.mgs with kickAt := s.dev.fab }) (runs_sys (fun d => d.kick 7) rfl hs) hs.1 rfl rfl rfl ⟨rfl, rfl⟩

theorem Dev.pllLock_rst (d : Dev) (p : Nat) : (d.pllLock p).rst = d.rst := by rw [Dev.pllLock, Dev.setMgs_rst, Dev.causeOff_rst, Dev.put_rst]
theorem Dev.pllLock_hold (d : Dev) (p : Nat) : (d.pllLock p).mgs.pllHold = false := by rw [Dev.pllLock, Dev.setMgs_mgs]
theorem Dev.setMgs_rd (d : Dev) (m : Mgs) (a : Nat) : (d.setMgs m).rd a = d.rd a := rfl

theorem Dev.rd_causeOff (d : Dev) (b c i a : Nat) : (d.causeOff b c i).rd a = d.rd a := rfl

theorem Dev.pllLock_rd (d : Dev) (p : Nat) {a : Nat} (h : a ≠ (F.CLK_PLL_STAT_LOCK p).addr) : (d.pllLock p).rd a = d.rd a := by
  rw [Dev.pllLock, Dev.setMgs_rd, Dev.rd_causeOff, Dev.rd_put_ne _ _ _ h]

theorem Dev.setMgs_still (d : Dev) (m : Mgs) : (d.setMgs m).still = d.still.setMgs m := rfl
theorem Dev.setMgs_self {d : Dev} (m : Mgs) (h : m = d.mgs) : d.still.setMgs m = d.still := by rw [h]; rfl

theorem Dev.pllLock_still {d : Dev} (p : Nat) (h : d.mgs.pllHold = false) : (d.pllLock p).still = d.still := by
  rw [Dev.pllLock, Dev.setMgs_still, Dev.causeOff_still, Dev.put_still]
  exact Dev.setMgs_self _ (by rw [← h])

theorem runs_pllLocked {p : Fin 2} : Runs (.pllLocked p) s fun d => d.pllLock p := runs_any (fun d => d.pllLock p) rfl

theorem completes_pllLocked {p : Fin 2} (hs : s.dev.corksFresh) (hh : s.dev.mgs.pllHold = false) : Completes (.pllLocked p) s fun e =>
      e.flag (F.CLK_PLL_STAT_LOCK p) = true ∧ e.hasCause 1 2 p = false ∧ e.rst = s.dev.rst ∧ (∀ a, a ≠ (F.CLK_PLL_STAT_LOCK p).addr → e.rd a = s.dev.rd a)
        ∧ Dev.still e = s.dev.still :=
  completes_runs_eq (s.dev.pllLock p) runs_pllLocked hs rfl (Dev.pllLock_corks _ _) (Dev.pllLock_fab _ _)
    ⟨Dev.pllLock_flag _ _, Dev.pllLock_cause _ _, Dev.pllLock_rst _ _, fun _ ha => Dev.pllLock_rd _ _ ha, Dev.pllLock_still _ hh⟩

theorem completes_pllLocked_held {p : Fin 2} (hs : s.dev.corksFresh) :
    Completes (.pllLocked p) s fun e => e.flag (F.CLK_PLL_STAT_LOCK p) = true ∧ e.rst = s.dev.rst ∧ e.mgs.pllHold = false :=
  completes_runs_eq (s.dev.pllLock p) runs_pllLocked hs rfl (Dev.pllLock_corks _ _) (Dev.pllLock_fab _ _)
    ⟨Dev.pllLock_flag _ _, Dev.pllLock_rst _ _, Dev.pllLock_hold _ _⟩

end

/-- Settles O55. -/
theorem bootAndBanks : Obligations.boot_and_banks := by
  unfold Obligations.boot_and_banks
  exact ⟨fun s hs hr hb => runs_boot hs hr hb, fun s hs hr => completes_unchanged (runs_boot_again hs hr) hs.1,
    fun s hs hd hb hp => completes_corerst hs hd hb hp, fun s req hs hr => completes_unchanged (runs_corerst_other hs hr) hs.1,
    fun s hs => completes_confirm hs, fun s hs ht => runs_trialTimeout hs ht, fun s hs ht hf => completes_trialTimeout hs ht hf,
    fun s hs ht => completes_unchanged (runs_trialTimeout_none hs ht) hs.1, fun s req bank hs hv hb ht => completes_bankSw hs hv hb ht,
    fun s req bank hs hv => completes_bankSw_refused hs hv, fun s hs => completes_kick hs, fun s hs => runs_sys _ rfl hs,
    fun s p hs hh => completes_pllLocked hs hh, fun s p hs _ => completes_pllLocked_held hs⟩

end Sys2Proof.Machine

/-! PROOFS. Spares of the Cellarmaster (R502, R503). -/

namespace Sys2Proof.Machine

/-- SYSTEM reset released, and cask row 0 already replaced by spare row 0. -/
def rowReplaced : State :=
  { State.reset with dev := { State.reset.dev with rst := { State.reset.dev.rst with sys := false }, mgs := { mgs0 with rowMap := [(0, 0)], rowGone := [0] } } }

theorem rowReplaced_sysRuns : rowReplaced.sysRuns := ⟨fun _ hc => absurd hc List.not_mem_nil, rfl⟩

theorem Dev.corkTick_mgs (d : Dev) : d.corkTick.mgs = d.mgs := show d.corkTick.plain.mgs = d.plain.mgs from congrArg Dev.mgs d.corkTick_plain

/-- The command leaves the spares as they are: the row is mapped. -/
theorem rowReplaced_kept : (rowReplaced.dev.spareSwap 2 0).mgs.rowGone = [0] := by decide +kernel

/-- A swap without that condition takes a second spare. -/
theorem rowReplaced_rowSwap : (((rowReplaced.dev.put F.MGS_SPARE_SWAP_KIND 2).put F.MGS_SPARE_SWAP_UNIT 0).rowSwap 0).mgs.rowGone = [1, 0] := by decide +kernel

/-- Refutes O56: a row that a spare has already replaced is not replaced again (R503, Dev.spareSwap), and the clause of
SPARE_SWAP_CASK_ROW does not ask that the row is none of those. -/
theorem not_monitorsAndSpares : ¬ Obligations.monitors_and_spares := by
  unfold Obligations.monitors_and_spares
  rintro ⟨-, -, -, -, -, -, -, -, -, hrow, -⟩
  have hrun := hrow rowReplaced 0 0 rowReplaced_sysRuns (by decide)
  have hkeep : Runs (.spareSwapCaskRow 0 0) rowReplaced fun d => d.spareSwap 2 0 := runs_sys _ rfl rowReplaced_sysRuns
  have hdev := congrArg (fun t : State => t.dev.mgs.rowGone) (Host.Outcome.next.inj (hkeep.symm.trans hrun))
  dsimp only at hdev
  rw [Dev.corkTick_mgs, Dev.corkTick_mgs, State.start, rowReplaced_kept, rowReplaced_rowSwap] at hdev
  exact absurd hdev (by decide)

end Sys2Proof.Machine

/-! PROOFS. Power domains (R505-R508): what draining a domain changes. -/

namespace Sys2Proof.Machine

/-! ### A link group drains (R506) -/

theorem Dev.setLane_lk_ne (d : Dev) {n m : Nat} (l : Link) (h : m ≠ n) : (d.setLane n l).lk m = d.lk m :=
  List.foldlRecOn (motive := fun y : Dev => y.lk m = d.lk m) _ _ (Dev.lk_setLk_ne _ _ h) fun _ hy _ _ =>
    (Dev.noTile_lk (Dev.repeatDn_noTile _ _ _ _) m).trans hy

/-- Of the frames of a link, only TIME frames and retransmissions follow the one in transmission. -/
def Link.drained (l : Link) : Prop := ∀ f ∈ l.tx.drop 1, f.typ = 4 ∨ f.retr ≠ 0

theorem Link.begin_tail (l : Link) (off : Int) (c : Nat) : (l.begin off c).tx.drop 1 = l.tx.drop 1 := by
  unfold Link.begin
  split
  · rfl
  · next h =>
    rw [h]
    rfl

theorem mem_drop_one_append {α : Type} {a b : List α} {x : α} (ha : a.length ≤ 1) (h : x ∈ (a ++ b).drop 1) : x ∈ b := by
  rcases a with _ | ⟨y, a⟩
  · exact List.mem_of_mem_drop h
  · rw [List.length_cons] at ha
    rw [List.eq_nil_of_length_eq_zero (by omega : a.length = 0)] at h
    exact h

/-- What link n of d does with its frames changes lanes of its tiles, and of the rest of the device that link alone. -/
structure Dev.OnLink (n : Nat) (d e : Dev) : Prop where
  lanes : ∀ u, (e.tle u).noLanes = (d.tle u).noLanes
  rest : e.noLink = d.noLink
  links : ∀ m, m ≠ n → e.lk m = d.lk m

theorem Dev.OnLink.trans {n : Nat} {d e f : Dev} (h : OnLink n d e) (g : OnLink n e f) : OnLink n d f :=
  ⟨fun u => (g.lanes u).trans (h.lanes u), g.rest.trans h.rest, fun m hm => (g.links m hm).trans (h.links m hm)⟩

theorem Dev.txNow_onLink (d : Dev) (n : Nat) : OnLink n d (d.txNow n) :=
  ⟨(d.setLane_runs n _).1.lanes, (d.setLane_runs n _).2, fun _ hm => d.setLane_lk_ne _ hm⟩

theorem Dev.setLk_onLink (d : Dev) (n : Nat) (l : Link) : OnLink n d (d.setLk n l) := ⟨fun _ => rfl, rfl, fun _ hm => Dev.lk_setLk_ne _ _ hm⟩

theorem Dev.setLp_tx (d : Dev) (n p : Nat) (x : LPos) : ((d.setLp n p x).lk n).tx = (d.lk n).tx := by
  rw [Dev.setLp, Dev.lk_setLk_same]

/-- Frames that are given up await no acknowledgement. -/
def Dev.forgetAcks (d : Dev) (n : Nat) (l : List DFrame) : Dev :=
  l.foldl (fun (x : Dev) f =>
    let p := x.lp n f.pos
    x.setLp n f.pos { p with unack := p.unack.filter (fun g => g.seq != f.seq) }) d

theorem Dev.forgetAcks_spec (n : Nat) (l : List DFrame) : ∀ d : Dev, OnLink n d (d.forgetAcks n l) ∧ ((d.forgetAcks n l).lk n).tx = (d.lk n).tx := by
  induction l with
  | nil => exact fun d => ⟨⟨fun _ => rfl, rfl, fun _ _ => rfl⟩, rfl⟩
  | cons f l ih =>
    intro d
    obtain ⟨hon, htx⟩ := ih (d.setLp n f.pos { d.lp n f.pos with unack := (d.lp n f.pos).unack.filter (fun g => g.seq != f.seq) })
    exact ⟨(Dev.setLk_onLink d n _).trans hon, htx.trans (Dev.setLp_tx _ _ _ _)⟩

/-- The frame in transmission, where it has begun. -/
def Dev.txBegun (d : Dev) (n : Nat) : List DFrame := if (d.lk n).since < 3 * d.fab then (d.lk n).tx.take 1 else []

/-- The frames that stay. -/
def Dev.txStay (d : Dev) (n : Nat) : List DFrame :=
  d.txBegun n ++ ((d.lk n).tx.drop (d.txBegun n).length).filter (fun f => f.typ == 4 || f.retr != 0)

theorem Dev.txDrain_eq (d : Dev) (n : Nat) : d.txDrain n =
    ((d.txNow n).setLk n (if ((d.txNow n).txBegun n).isEmpty then
        ({ (d.txNow n).lk n with tx := (d.txNow n).txStay n } : Link).begin (d.txNow n).fabOff (3 * (d.txNow n).fab)
      else { (d.txNow n).lk n with tx := (d.txNow n).txStay n })).forgetAcks n
      ((((d.txNow n).lk n).tx.drop ((d.txNow n).txBegun n).length).filter (fun f => !(f.typ == 4 || f.retr != 0))) := rfl

theorem Dev.txBegun_length (d : Dev) (n : Nat) : (d.txBegun n).length ≤ 1 := by
  unfold Dev.txBegun
  split
  · exact List.length_take_le _ _
  · exact Nat.zero_le _

theorem Dev.txStay_drained (d : Dev) (n : Nat) {f : DFrame} (h : f ∈ (d.txStay n).drop 1) : f.typ = 4 ∨ f.retr ≠ 0 := by
  have hmem := mem_drop_one_append (d.txBegun_length n) h
  simpa using (List.mem_filter.1 hmem).2

theorem Dev.txDrain_onLink (d : Dev) (n : Nat) : OnLink n d (d.txDrain n) := by
  rw [Dev.txDrain_eq]
  exact ((d.txNow_onLink n).trans (Dev.setLk_onLink _ n _)).trans (Dev.forgetAcks_spec n _ _).1

theorem Dev.txDrain_drained (d : Dev) (n : Nat) : ((d.txDrain n).lk n).drained := by
  intro f hf
  rw [Dev.txDrain_eq, (Dev.forgetAcks_spec n _ _).2, Dev.lk_setLk_same] at hf
  split at hf
  · rw [Link.begin_tail] at hf
    exact Dev.txStay_drained _ _ hf
  · exact Dev.txStay_drained _ _ hf

/-- The four links of a group drain. -/
def Dev.groupDrain (d : Dev) (g k : Nat) : Dev := forN k (fun x i => x.txDrain (4 * g + i)) d

theorem Dev.groupDrain_succ (d : Dev) (g k : Nat) : d.groupDrain g (k + 1) = (d.groupDrain g k).txDrain (4 * g + k) := forN_succ _ _ _

theorem Dev.groupDrain_lanes (d : Dev) (g k : Nat) (u : Nat) : ((d.groupDrain g k).tle u).noLanes = (d.tle u).noLanes :=
  forN_keeps (fun x : Dev => (x.tle u).noLanes) (fun x i => (x.txDrain_onLink (4 * g + i)).lanes u) k d

theorem Dev.groupDrain_noLink (d : Dev) (g k : Nat) : (d.groupDrain g k).noLink = d.noLink :=
  forN_keeps Dev.noLink (fun x i => (x.txDrain_onLink (4 * g + i)).rest) k d

theorem Dev.groupDrain_drained (d : Dev) (g k : Nat) : ∀ i, i < k → ((d.groupDrain g k).lk (4 * g + i)).drained := by
  induction k with
  | zero => exact fun i hi => absurd hi (Nat.not_lt_zero i)
  | succ k ih =>
    intro i hi
    rw [Dev.groupDrain_succ]
    by_cases hk : i = k
    · rw [hk]
      exact Dev.txDrain_drained _ _
    · rw [(Dev.txDrain_onLink _ _).links _ (by omega)]
      exact ih i (by omega)

/-! ### Converters and the host interface drain (R506, R508) -/

/-- The queued triggers of the first k converters are discarded. -/
def Dev.adcDrain (d : Dev) (k : Nat) : Dev := forN k (fun x m => x.setAd m { x.ad m with wait := [] }) d

theorem Dev.adcDrain_succ (d : Dev) (k : Nat) : d.adcDrain (k + 1) = (d.adcDrain k).setAd k { (d.adcDrain k).ad k with wait := [] } := forN_succ _ _ _

theorem Dev.ad_setAd_ne (d : Dev) {m j : Nat} (x : Adc) (h : j ≠ m) : (d.setAd m x).ad j = d.ad j := smGet_smSet_ne _ _ _ _ h

theorem Dev.adcDrain_wait (d : Dev) (k : Nat) : ∀ m, m < k → ((d.adcDrain k).ad m).wait = [] := by
  induction k with
  | zero => exact fun m hm => absurd hm (Nat.not_lt_zero m)
  | succ k ih =>
    intro m hm
    rw [Dev.adcDrain_succ]
    by_cases hk : m = k
    · rw [hk, Dev.ad_setAd_same]
    · rw [Dev.ad_setAd_ne _ _ hk]
      exact ih m (by omega)

/-- The host interface's state replaced. -/
def Dev.setHif (d : Dev) (h : Hif) : Dev := { d with hif := h }

theorem find_mapValue {α β : Type} (g : α → β) (n : Nat) (l : List (Nat × α)) :
    ((l.map fun p => (p.1, g p.2)).find? (fun p => p.1 == n)).map (fun p => p.2) = ((l.find? (fun p => p.1 == n)).map (fun p => p.2)).map g := by
  rw [List.find?_map, Option.map_map, Option.map_map]
  rfl

/-! ### A domain drains -/

/-- Domain k marked as in DRAIN, since now. -/
def Dev.drainMark (d : Dev) (k : Nat) : Dev := (d.put (F.PWR_DOM_STAT_STATE k) 3).setMgs { d.mgs with drain := smSet d.mgs.drain 0 k d.fab }

theorem Dev.domDrain_adc (d : Dev) : d.domDrain 5 = (d.drainMark 5).adcDrain 4 := rfl

theorem Dev.domDrain_group (d : Dev) {k : Nat} (h1 : 1 ≤ k) (h4 : k ≤ 4) : d.domDrain k = (d.drainMark k).groupDrain (k - 1) 4 := by
  unfold Dev.domDrain
  simp only [show ¬k = 5 by omega, h1, h4, decide_true, Bool.and_self, if_true, if_false]
  rfl

theorem Dev.domDrain_pcie {d : Dev} (h : d.pcieGo = true) : d.domDrain 6 =
    (d.drainMark 6).setHif { d.hif with sqs := d.hif.sqs.map (fun p => (p.1, { p.2 with flight := d.inFlight p.2 })) } := by
  unfold Dev.domDrain
  simp only [h, show ¬(6 : Nat) = 5 by decide, decide_true, Bool.and_self, if_true, if_false]
  rfl

theorem Dev.domDrain_quiet {d : Dev} (h : d.pcieGo = false) : d.domDrain 6 = d.drainMark 6 := by
  unfold Dev.domDrain
  simp only [h, show ¬(6 : Nat) = 5 by decide, Bool.and_false, if_false, Bool.false_eq_true]
  rfl

theorem Dev.setMgs_hif (d : Dev) (m : Mgs) : (d.setMgs m).hif = d.hif := rfl
theorem Dev.setMgs_adc (d : Dev) (m : Mgs) : (d.setMgs m).adc = d.adc := rfl
theorem Dev.setMgs_lnk (d : Dev) (m : Mgs) : (d.setMgs m).lnk = d.lnk := rfl
theorem Dev.setMgs_tile (d : Dev) (m : Mgs) : (d.setMgs m).tile = d.tile := rfl

theorem Dev.drainMark_hif (d : Dev) (k : Nat) : (d.drainMark k).hif = d.hif := by rw [Dev.drainMark, Dev.setMgs_hif, Dev.put_hif]
theorem Dev.drainMark_adc (d : Dev) (k : Nat) : (d.drainMark k).adc = d.adc := by rw [Dev.drainMark, Dev.setMgs_adc, Dev.put_adc]
theorem Dev.drainMark_lnk (d : Dev) (k : Nat) : (d.drainMark k).lnk = d.lnk := by rw [Dev.drainMark, Dev.setMgs_lnk, Dev.put_lnk]
theorem Dev.drainMark_tile (d : Dev) (k : Nat) : (d.drainMark k).tile = d.tile := by rw [Dev.drainMark, Dev.setMgs_tile, Dev.put_tile]

theorem Dev.tle_congr {d e : Dev} (h : e.tile = d.tile) (u : Nat) : e.tle u = d.tle u := congrArg (fun m => smGet m tile0 u) h

theorem Dev.drainMark_tle (d : Dev) (k u : Nat) : (d.drainMark k).tle u = d.tle u := Dev.tle_congr (d.drainMark_tile k) u
theorem Dev.drainMark_rd (d : Dev) (k : Nat) {a : Nat} (h : a ≠ R.PWR_DOM_STAT k) : (d.drainMark k).rd a = d.rd a := by
  rw [Dev.drainMark, Dev.setMgs_rd, Dev.rd_put_ne _ _ _ h]

theorem Dev.domState_congr {d e : Dev} {k : Nat} (h : e.rd (R.PWR_DOM_STAT k) = d.rd (R.PWR_DOM_STAT k)) : e.domState k = d.domState k := by
  rw [Dev.domState, Dev.domState, Dev.get, Dev.get, h]

theorem Dev.drainMark_state (d : Dev) (k : Nat) : (d.drainMark k).domState k = 3 := by
  refine (Dev.domState_congr (Dev.setMgs_rd _ _ _)).trans ?_
  exact Dev.get_put_same d (F.PWR_DOM_STAT_STATE k) 3 ⟨show 30 ≤ 31 by decide, show 31 < 32 by decide⟩

theorem Dev.drainMark_begun (d : Dev) (k : Nat) : smGet (d.drainMark k).mgs.drain 0 k = d.fab := by
  rw [Dev.drainMark, Dev.setMgs_mgs]
  exact smGet_smSet_same _ _ _ _

/-- The device without what a drain changes. -/
def Dev.drainless (d : Dev) : Dev := { d with mgs := mgs0, adc := [], lnk := [], tile := [], hif := hif0, reg := [] }

theorem Dev.drainless_of_noRegs {d e : Dev} (h : e.noRegs = d.noRegs) (hf : e.fltNew = d.fltNew) : e.drainless = d.drainless :=
  show ({ e.noRegs.drainless with fltNew := e.fltNew } : Dev) = { d.noRegs.drainless with fltNew := d.fltNew } from
  congrArg₂ (fun (x : Dev) (l : List (Nat × Nat)) => ({ x.drainless with fltNew := l } : Dev)) h hf

theorem Dev.setMgs_drainless (d : Dev) (m : Mgs) : (d.setMgs m).drainless = d.drainless := rfl

theorem Dev.drainMark_drainless (d : Dev) (k : Nat) : (d.drainMark k).drainless = d.drainless := by
  rw [Dev.drainMark, Dev.setMgs_drainless]
  exact Dev.drainless_of_noRegs (Dev.put_noRegs _ _ _) (Dev.put_fltNew _ _ _)

theorem Dev.drainless_of_noLink {d e : Dev} (h : e.noLink = d.noLink) : e.drainless = d.drainless :=
  show e.noLink.drainless = d.noLink.drainless from congrArg Dev.drainless h

theorem Dev.drainless_rest {d e : Dev} (h : e.drainless = d.drainless) :
    { e with mgs := d.mgs, adc := d.adc, lnk := d.lnk, tile := d.tile, hif := d.hif, reg := d.reg } = d :=
  congrArg (fun x : Dev => { x with mgs := d.mgs, adc := d.adc, lnk := d.lnk, tile := d.tile, hif := d.hif, reg := d.reg }) h

theorem Dev.drainless_corks {d e : Dev} (h : e.drainless = d.drainless) : e.corks = d.corks :=
  show e.drainless.corks = d.drainless.corks from congrArg Dev.corks h
theorem Dev.drainless_fab {d e : Dev} (h : e.drainless = d.drainless) : e.fab = d.fab :=
  show e.drainless.fab = d.drainless.fab from congrArg Dev.fab h

theorem Dev.noLink_adc {d e : Dev} (h : e.noLink = d.noLink) : e.adc = d.adc := show e.noLink.adc = d.noLink.adc from congrArg Dev.adc h
theorem Dev.noLink_hif {d e : Dev} (h : e.noLink = d.noLink) : e.hif = d.hif := show e.noLink.hif = d.noLink.hif from congrArg Dev.hif h
theorem Dev.noLink_mgs {d e : Dev} (h : e.noLink = d.noLink) : e.mgs = d.mgs := show e.noLink.mgs = d.noLink.mgs from congrArg Dev.mgs h

/-- The device without its converters. -/
def Dev.noAdc (d : Dev) : Dev := { d with adc := [] }

theorem Dev.setAd_noAdc (d : Dev) (m : Nat) (x : Adc) : (d.setAd m x).noAdc = d.noAdc := rfl

theorem Dev.adcDrain_noAdc (d : Dev) (k : Nat) : (d.adcDrain k).noAdc = d.noAdc := forN_keeps Dev.noAdc (fun x m => x.setAd_noAdc m _) k d
theorem Dev.drainless_of_noAdc {d e : Dev} (h : e.noAdc = d.noAdc) : e.drainless = d.drainless :=
  show e.noAdc.drainless = d.noAdc.drainless from congrArg Dev.drainless h
theorem Dev.noAdc_reg {d e : Dev} (h : e.noAdc = d.noAdc) : e.reg = d.reg := show e.noAdc.reg = d.noAdc.reg from congrArg Dev.reg h
theorem Dev.noAdc_mgs {d e : Dev} (h : e.noAdc = d.noAdc) : e.mgs = d.mgs := show e.noAdc.mgs = d.noAdc.mgs from congrArg Dev.mgs h
theorem Dev.noAdc_lnk {d e : Dev} (h : e.noAdc = d.noAdc) : e.lnk = d.lnk := show e.noAdc.lnk = d.noAdc.lnk from congrArg Dev.lnk h
theorem Dev.noAdc_tile {d e : Dev} (h : e.noAdc = d.noAdc) : e.tile = d.tile := show e.noAdc.tile = d.noAdc.tile from congrArg Dev.tile h
theorem Dev.noAdc_hif {d e : Dev} (h : e.noAdc = d.noAdc) : e.hif = d.hif := show e.noAdc.hif = d.noAdc.hif from congrArg Dev.hif h

/-- What a drain of domain k that begins at d leaves, with the mark of DRAIN in the registers of x. -/
structure Dev.Drains (k : Nat) (d x e : Dev) : Prop where
  reg : e.reg = x.reg
  mgs : e.mgs = x.mgs
  triggers : k = 5 → ∀ m, m < 4 → (e.ad m).wait = []
  adc : k ≠ 5 → e.adc = d.adc
  links : k ≤ 4 → ∀ i, i < 4 → (e.lk (4 * (k - 1) + i)).drained
  noLinks : 5 ≤ k → e.lnk = d.lnk ∧ e.tile = d.tile
  lanes : ∀ u, (e.tle u).noLanes = (d.tle u).noLanes
  rings : k = 6 → d.pcieGo = true → ∀ n, e.sq? n = (d.sq? n).map (fun x => { x with flight := d.inFlight x })
  hif : k ≠ 6 → e.hif = d.hif
  rest : e.drainless = d.drainless

theorem Dev.adc_drains (d : Dev) : Drains 5 d (d.drainMark 5) (d.domDrain 5) := by
  rw [Dev.domDrain_adc]
  have hrest := (d.drainMark 5).adcDrain_noAdc 4
  exact { reg := Dev.noAdc_reg hrest
          mgs := Dev.noAdc_mgs hrest
          triggers := fun _ => Dev.adcDrain_wait _ 4
          adc := fun h => absurd rfl h
          links := fun h => absurd h (by decide)
          noLinks := fun _ => ⟨(Dev.noAdc_lnk hrest).trans (d.drainMark_lnk 5), (Dev.noAdc_tile hrest).trans (d.drainMark_tile 5)⟩
          lanes := fun u => by rw [Dev.tle_congr (Dev.noAdc_tile hrest), Dev.drainMark_tle]
          rings := fun h => absurd h (by decide)
          hif := fun _ => (Dev.noAdc_hif hrest).trans (d.drainMark_hif 5)
          rest := (Dev.drainless_of_noAdc hrest).trans (d.drainMark_drainless 5) }

theorem Dev.group_drains (d : Dev) {k : Nat} (h1 : 1 ≤ k) (h4 : k ≤ 4) : Drains k d (d.drainMark k) (d.domDrain k) := by
  rw [Dev.domDrain_group d h1 h4]
  have hrest := (d.drainMark k).groupDrain_noLink (k - 1) 4
  exact { reg := Dev.noLink_reg hrest
          mgs := Dev.noLink_mgs hrest
          triggers := fun h => absurd h (by omega)
          adc := fun _ => (Dev.noLink_adc hrest).trans (d.drainMark_adc k)
          links := fun _ => Dev.groupDrain_drained _ (k - 1) 4
          noLinks := fun h => absurd h (by omega)
          lanes := fun u => by rw [Dev.groupDrain_lanes, Dev.drainMark_tle]
          rings := fun h => absurd h (by omega)
          hif := fun _ => (Dev.noLink_hif hrest).trans (d.drainMark_hif k)
          rest := (Dev.drainless_of_noLink hrest).trans (d.drainMark_drainless k) }

theorem Dev.setHif_reg (d : Dev) (h : Hif) : (d.setHif h).reg = d.reg := rfl
theorem Dev.setHif_mgs (d : Dev) (h : Hif) : (d.setHif h).mgs = d.mgs := rfl
theorem Dev.setHif_adc (d : Dev) (h : Hif) : (d.setHif h).adc = d.adc := rfl
theorem Dev.setHif_lnk (d : Dev) (h : Hif) : (d.setHif h).lnk = d.lnk := rfl
theorem Dev.setHif_tile (d : Dev) (h : Hif) : (d.setHif h).tile = d.tile := rfl
theorem Dev.setHif_tle (d : Dev) (h : Hif) (u : Nat) : (d.setHif h).tle u = d.tle u := rfl
theorem Dev.setHif_drainless (d : Dev) (h : Hif) : (d.setHif h).drainless = d.drainless := rfl
theorem Dev.setHif_sq (d : Dev) (h : Hif) (n : Nat) : (d.setHif h).sq? n = (h.sqs.find? (fun p => p.1 == n)).map (fun p => p.2) := rfl

theorem Dev.pcie_drains {d : Dev} (h : d.pcieGo = true) : Drains 6 d (d.drainMark 6) (d.domDrain 6) := by
  rw [Dev.domDrain_pcie h]
  exact { reg := Dev.setHif_reg _ _
          mgs := Dev.setHif_mgs _ _
          triggers := fun h => absurd h (by decide)
          adc := fun _ => (Dev.setHif_adc _ _).trans (d.drainMark_adc 6)
          links := fun h => absurd h (by decide)
          noLinks := fun _ => ⟨(Dev.setHif_lnk _ _).trans (d.drainMark_lnk 6), (Dev.setHif_tile _ _).trans (d.drainMark_tile 6)⟩
          lanes := fun u => by rw [Dev.setHif_tle, Dev.drainMark_tle]
          rings := fun _ _ n => (Dev.setHif_sq _ _ n).trans (find_mapValue (fun x => { x with flight := d.inFlight x }) n d.hif.sqs)
          hif := fun h => absurd rfl h
          rest := (Dev.setHif_drainless _ _).trans (d.drainMark_drainless 6) }

theorem Dev.quiet_drains {d : Dev} (h : d.pcieGo = false) : Drains 6 d (d.drainMark 6) (d.domDrain 6) := by
  rw [Dev.domDrain_quiet h]
  exact { reg := rfl
          mgs := rfl
          triggers := fun h => absurd h (by decide)
          adc := fun _ => d.drainMark_adc 6
          links := fun h => absurd h (by decide)
          noLinks := fun _ => ⟨d.drainMark_lnk 6, d.drainMark_tile 6⟩
          lanes := fun u => by rw [Dev.drainMark_tle]
          rings := fun _ hg => absurd hg (by rw [h]; exact Bool.false_ne_true)
          hif := fun _ => d.drainMark_hif 6
          rest := d.drainMark_drainless 6 }

theorem Dev.domDrain_drains (d : Dev) {k : Nat} (h1 : 1 ≤ k) (h7 : k < 7) : Drains k d (d.drainMark k) (d.domDrain k) := by
  by_cases h4 : k ≤ 4
  · exact d.group_drains h1 h4
  · by_cases h5 : k = 5
    · rw [h5]
      exact d.adc_drains
    · obtain rfl : k = 6 := by omega
      cases hg : d.pcieGo with
      | true => exact Dev.pcie_drains hg
      | false => exact Dev.quiet_drains hg

/-! ### The corked pair of PWR_DOM_CTL (R505, R506, R508) -/

/-- The domain and the wish that PWR_DOM_CTL holds. -/
def Dev.domAsk (d : Dev) (k : Nat) (on : Bool) : Dev := (d.put F.PWR_DOM_CTL_DOM k).putB F.PWR_DOM_CTL_ON on

theorem Dev.domAsk_onlyRegs (d : Dev) (k : Nat) (on : Bool) : Dev.onlyRegs d (d.domAsk k on) [R.PWR_DOM_CTL] :=
  (Dev.put_onlyRegs d F.PWR_DOM_CTL_DOM k).trans (Dev.put_onlyRegs _ F.PWR_DOM_CTL_ON _)

theorem Dev.domAsk_fltNew (d : Dev) (k : Nat) (on : Bool) : (d.domAsk k on).fltNew = d.fltNew := by
  rw [Dev.domAsk, Dev.putB, Dev.put_fltNew, Dev.put_fltNew]

theorem Dev.domAsk_adc (d : Dev) (k : Nat) (on : Bool) : (d.domAsk k on).adc = d.adc := by rw [Dev.domAsk, Dev.putB, Dev.put_adc, Dev.put_adc]
theorem Dev.domAsk_lnk (d : Dev) (k : Nat) (on : Bool) : (d.domAsk k on).lnk = d.lnk := by rw [Dev.domAsk, Dev.putB, Dev.put_lnk, Dev.put_lnk]
theorem Dev.domAsk_tile (d : Dev) (k : Nat) (on : Bool) : (d.domAsk k on).tile = d.tile := by rw [Dev.domAsk, Dev.putB, Dev.put_tile, Dev.put_tile]
theorem Dev.domAsk_hif (d : Dev) (k : Nat) (on : Bool) : (d.domAsk k on).hif = d.hif := by rw [Dev.domAsk, Dev.putB, Dev.put_hif, Dev.put_hif]
theorem Dev.domAsk_rst (d : Dev) (k : Nat) (on : Bool) : (d.domAsk k on).rst = d.rst := by rw [Dev.domAsk, Dev.putB, Dev.put_rst, Dev.put_rst]

theorem Dev.domAsk_sq (d : Dev) (k : Nat) (on : Bool) (n : Nat) : (d.domAsk k on).sq? n = d.sq? n := by rw [Dev.sq?, Dev.sq?, Dev.domAsk_hif]

theorem Dev.domAsk_inFlight (d : Dev) (k : Nat) (on : Bool) (x : Sq) : (d.domAsk k on).inFlight x = d.inFlight x := by
  rw [Dev.inFlight, Dev.inFlight, (d.domAsk_onlyRegs k on).flag (by decide), (d.domAsk_onlyRegs k on).get (by decide)]

theorem Dev.domAsk_pcieGo (d : Dev) (k : Nat) (on : Bool) : (d.domAsk k on).pcieGo = d.pcieGo := by
  rw [Dev.pcieGo, Dev.pcieGo, Dev.pcieLink, Dev.pcieLink, (d.domAsk_onlyRegs k on).flag (by decide), (d.domAsk_onlyRegs k on).get (by decide),
    Dev.domAsk_hif, Dev.domAsk_rst]

theorem domStat_ne_ctl (k : Nat) : R.PWR_DOM_STAT k ≠ R.PWR_DOM_CTL := by
  show 0x20200 + 0x20 * k ≠ 0x20000
  omega

theorem Dev.domAsk_dom (d : Dev) {k : Nat} (on : Bool) (h : k < 8) : (d.domAsk k on).get F.PWR_DOM_CTL_DOM = k := by
  rw [Dev.domAsk, Dev.putB, Dev.get_put_apart _ _ _ _ (by decide) (by decide) (by decide), Dev.get_put_same _ _ _ (by decide)]
  exact Nat.mod_eq_of_lt h

theorem Dev.domAsk_on (d : Dev) (k : Nat) (on : Bool) : (d.domAsk k on).flag F.PWR_DOM_CTL_ON = on := Dev.flag_putB _ _ _ (by decide)

theorem Dev.domCork_up {d : Dev} {k : Nat} (h1 : 1 ≤ k) (h7 : k < 7) (hst : d.domState k = 0) :
    d.domCork k true = (d.domAsk k true).put (F.PWR_DOM_STAT_STATE k) 1 := by
  unfold Dev.domCork
  simp only [hst, show ¬(k = 0 ∨ 7 ≤ k ∨ (0 : Nat) = 1 ∨ (0 : Nat) = 3) by omega, if_true, if_false]
  rfl

theorem Dev.domCork_drain {d : Dev} {k : Nat} (h1 : 1 ≤ k) (h7 : k < 7) (hst : d.domState k = 2) : d.domCork k false = (d.domAsk k false).domDrain k := by
  unfold Dev.domCork
  simp only [hst, show ¬(k = 0 ∨ 7 ≤ k ∨ (2 : Nat) = 1 ∨ (2 : Nat) = 3) by omega, if_true, if_false, Bool.false_eq_true]
  rfl

theorem Dev.domCork_refused {d : Dev} {k : Nat} (on : Bool) (h : k = 0 ∨ k = 7) : d.domCork k on = d.incSat F.PWR_STAT_DOMREF := by
  unfold Dev.domCork
  exact if_pos (by omega)

section
variable {s : State} {req : Fin 10} {dom : Fin 8}

theorem runs_pwrDomUp (hs : s.sysRuns) : Runs (.pwrDomUp req dom) s fun d => d.domCork dom true := runs_sys _ rfl hs
theorem runs_pwrDomDrain (hs : s.sysRuns) : Runs (.pwrDomDrain req dom) s fun d => d.domCork dom false := runs_sys _ rfl hs

theorem completes_pwrDomUp (hs : s.sysRuns) (h1 : 1 ≤ dom.val) (h7 : dom.val < 7) (hst : s.dev.domState dom = 0) : Completes (.pwrDomUp req dom) s fun e =>
    e.domState dom = 1 ∧ e.get F.PWR_DOM_CTL_DOM = dom ∧ e.flag F.PWR_DOM_CTL_ON = true
      ∧ Dev.onlyRegs s.dev e [F.PWR_DOM_CTL_ON.addr, R.PWR_DOM_STAT dom] := by
  have honly : Dev.onlyRegs s.dev ((s.dev.domAsk dom true).put (F.PWR_DOM_STAT_STATE dom) 1) [F.PWR_DOM_CTL_ON.addr, R.PWR_DOM_STAT dom] :=
    ((s.dev.domAsk_onlyRegs dom true).weaken (by simp)).trans (Dev.put_onlyRegs_of_mem _ _ _ (by simp))
  refine completes_runs_eq _ (runs_pwrDomUp hs) hs.1 (Dev.domCork_up h1 h7 hst) honly.corks honly.fab ⟨?_, ?_, ?_, honly⟩
  · exact Dev.get_put_same _ _ _ ⟨show 30 ≤ 31 by decide, show 31 < 32 by decide⟩
  · rw [Dev.get_put_ne _ _ _ _ (domStat_ne_ctl dom).symm, Dev.domAsk_dom _ _ dom.isLt]
  · rw [Dev.flag, Dev.get_put_ne _ _ _ _ (domStat_ne_ctl dom).symm]
    exact Dev.domAsk_on _ _ _

theorem completes_pwrDomUp_refused (hs : s.sysRuns) (h : dom.val = 0 ∨ dom.val = 7) : Completes (.pwrDomUp req dom) s fun e =>
    e.get F.PWR_STAT_DOMREF = min (s.dev.get F.PWR_STAT_DOMREF + 1) 255 ∧ Dev.onlyRegs s.dev e [F.PWR_DOM_CTL_ON.addr, R.PWR_STAT] := by
  have honly : Dev.onlyRegs s.dev (s.dev.incSat F.PWR_STAT_DOMREF) [R.PWR_STAT] := Dev.incSat_onlyRegs _ _
  refine completes_runs_eq _ (runs_pwrDomUp hs) hs.1 (Dev.domCork_refused true h) honly.corks honly.fab ⟨?_, honly.weaken (by simp)⟩
  exact Dev.get_incSat_same _ _ (by decide)

theorem completes_pwrDomDrain (hs : s.sysRuns) (h1 : 1 ≤ dom.val) (h7 : dom.val < 7) (hst : s.dev.domState dom = 2) :
    Completes (.pwrDomDrain req dom) s fun e =>
      e.domState dom = 3 ∧ smGet e.mgs.drain 0 dom = s.dev.fab ∧ (dom.val = 5 → ∀ m, m < 4 → (e.ad m).wait = []) ∧ (dom.val ≠ 5 → e.adc = s.dev.adc) ∧
          (dom.val ≤ 4 → ∀ i, i < 4 → ∀ f ∈ (e.lk (4 * (dom.val - 1) + i)).tx.drop 1, f.typ = 4 ∨ f.retr ≠ 0) ∧
          (5 ≤ dom.val → e.lnk = s.dev.lnk ∧ e.tile = s.dev.tile) ∧ (∀ t, Dev.tilesElse s.dev e t) ∧
          (dom.val = 6 → s.dev.pcieGo = true → ∀ n, e.sq? n = (s.dev.sq? n).map (fun x => { x with flight := s.dev.inFlight x })) ∧
          (dom.val ≠ 6 → e.hif = s.dev.hif) ∧ (∀ a, a ≠ F.PWR_DOM_CTL_ON.addr → a ≠ R.PWR_DOM_STAT dom → e.rd a = s.dev.rd a) ∧
          { e with mgs := s.dev.mgs, adc := s.dev.adc, lnk := s.dev.lnk, tile := s.dev.tile, hif := s.dev.hif, reg := s.dev.reg } = s.dev := by
  have hask := s.dev.domAsk_onlyRegs dom false
  have hfree : (s.dev.domAsk dom false).drainless = s.dev.drainless := Dev.drainless_of_noRegs hask.1 (s.dev.domAsk_fltNew dom false)
  have hd := (s.dev.domAsk dom false).domDrain_drains h1 h7
  refine completes_runs_eq _ (runs_pwrDomDrain hs) hs.1 (Dev.domCork_drain h1 h7 hst) (Dev.drainless_corks (hd.rest.trans hfree))
    (Dev.drainless_fab (hd.rest.trans hfree)) ⟨?_, ?_, hd.triggers, ?_, hd.links, ?_, fun _ u _ => ?_, ?_, ?_, fun a ha hb => ?_, Dev.drainless_rest (hd.rest.trans hfree)⟩
  · exact (Dev.domState_congr (Dev.rd_congr hd.reg _)).trans (Dev.drainMark_state _ _)
  · rw [State.start, hd.mgs, Dev.drainMark_begun]
    exact hask.fab
  · exact fun h => (hd.adc h).trans (s.dev.domAsk_adc dom false)
  · intro h
    obtain ⟨hl, ht⟩ := hd.noLinks h
    exact ⟨hl.trans (s.dev.domAsk_lnk dom false), ht.trans (s.dev.domAsk_tile dom false)⟩
  · exact (hd.lanes u).trans (congrArg Tile.noLanes (Dev.tle_congr (s.dev.domAsk_tile dom false) u))
  · intro h6 hgo n
    rw [State.start, hd.rings h6 ((s.dev.domAsk_pcieGo dom false).trans hgo) n, Dev.domAsk_sq]
    exact congrArg (fun g => (s.dev.sq? n).map g) (funext fun x => by rw [Dev.domAsk_inFlight])
  · exact fun h => (hd.hif h).trans (s.dev.domAsk_hif dom false)
  · rw [State.start, Dev.rd_congr hd.reg, Dev.drainMark_rd _ _ hb, hask.2 a (by simpa using ha)]

end

end Sys2Proof.Machine

/-! PROOFS. Sleep and wake, and what clears the words of causes and power (R484, R505-R515). -/

namespace Sys2Proof.Machine

/-! ### The end of a sleep (R510) -/

/-- SLEEP, from the device that SYSTEM reset leaves. -/
def Dev.asleep (d : Dev) : Dev := ((d.cput F.CEL_STAT_COREEN 0).cput F.CEL_STAT_PSTATE 2).setClr { d.clr with held := 0, low := 0, same := false }

theorem Dev.setClr_rst (d : Dev) (c : Clr) : (d.setClr c).rst = d.rst := rfl
theorem Dev.setClr_clr (d : Dev) (c : Clr) : (d.setClr c).clr = c := rfl

theorem Dev.asleep_rst (d : Dev) : d.asleep.rst = d.rst := by rw [Dev.asleep, Dev.setClr_rst, Dev.cput_rst, Dev.cput_rst]
theorem Dev.asleep_clr (d : Dev) : d.asleep.clr = { d.clr with held := 0, low := 0, same := false } := by rw [Dev.asleep, Dev.setClr_clr]

theorem Dev.asleep_pstate (d : Dev) : d.asleep.cget F.CEL_STAT_PSTATE = 2 := by
  rw [Dev.asleep, Dev.setClr_cget, Dev.cget_cput_same _ _ _ (by decide)]
  rfl

theorem Dev.asleep_coreen (d : Dev) : d.asleep.cflag F.CEL_STAT_COREEN = false := by
  rw [Dev.asleep, Dev.cflag, Dev.setClr_cget, Dev.cget_cput_apart _ _ _ _ (by decide) (by decide) (by decide), Dev.cget_cput_same _ _ _ (by decide)]
  rfl

theorem Dev.sleepEnd_eq {d : Dev} (hsleep : d.mgs.sleeping = true) (hdrain : ∀ k, k < 8 → d.domState k ≠ 3) :
    d.sleepEnd = (d.stopFlush.retCopy.sysDown none).asleep := by
  have hgo : ¬ ((!d.mgs.sleeping || (List.range 8).any fun k => d.domState k == 3) = true) := by simpa [hsleep] using hdrain
  rw [Dev.sleepEnd, if_neg hgo, Dev.asleep, Dev.setClr]

theorem Dev.plain_clr {d e : Dev} (h : e.plain = d.plain) : e.clr = d.clr := show e.plain.clr = d.plain.clr from congrArg Dev.clr h

section
variable {s : State}

theorem completes_pwrSleep (hs : s.sysRuns) (hok : s.busDev.sleepOk = true) (hoff : ∀ k, k < 7 → k ≠ 0 → s.busDev.domState k ≠ 2) :
    Completes (.pwrSleep 7) s fun e =>
      e.rst.sys = true ∧ e.rst.core = true ∧ e.cget F.CEL_STAT_PSTATE = 2 ∧ e.cflag F.CEL_STAT_COREEN = false ∧ e.clr.held = 0 ∧ e.clr.low = 0
        ∧ e.clr.same = false := by
  obtain ⟨-, -, -, hdom⟩ := s.busDev.sleepOk_iff.mp hok
  have heq : s.busDev.sleep = (s.busDev.sleepBegun.stopFlush.retCopy.sysDown none).asleep := by
    rw [Dev.sleep_noneOn fun k h1 h6 => hoff k (by omega) (by omega), Dev.sleepEnd_eq s.busDev.sleepBegun_sleeping fun k hk => (hdom k hk).2]
  obtain ⟨x, hx, -⟩ := s.busDev.sleepBegun.stopFlush.retCopy.held_sysDown
  refine completes_ticked (runs_congr (g := fun _ => _) (runs_pwrSleep_taken hs hok) heq) fun e he hcel => ?_
  have hrst := (Dev.plain_rst he).trans ((Dev.asleep_rst _).trans hx.rst)
  have hclr := (Dev.plain_clr he).trans (Dev.asleep_clr _)
  refine ⟨by rw [hrst], by rw [hrst], ?_, ?_, by rw [hclr], by rw [hclr], by rw [hclr]⟩
  · rw [Dev.cget_congr hcel, Dev.asleep_pstate]
  · rw [Dev.cflag, Dev.cget_congr hcel]
    exact Dev.asleep_coreen _

/-! ### Waking (R511, R512) -/

theorem Dev.onlyCellar.rest {d e : Dev} (h : d.onlyCellar e) : { e with cel := d.cel, clr := d.clr, fltNew := d.fltNew } = d := by
  obtain ⟨_, _, rfl⟩ := h
  rfl

theorem Dev.onlyCellar.corks {d e : Dev} (h : d.onlyCellar e) : e.corks = d.corks := by
  obtain ⟨_, _, rfl⟩ := h
  rfl

theorem Dev.onlyCellar.fab {d e : Dev} (h : d.onlyCellar e) : e.fab = d.fab := by
  obtain ⟨_, _, rfl⟩ := h
  rfl

/-- A command that changes the Cellar alone completes. -/
theorem completes_cellar {c : Instr} {f : Dev → Dev} {p : Dev → Prop} (x : Dev) (h : Runs c s f) (hs : s.dev.corksFresh) (e : f s.start = x)
    (hx : s.dev.onlyCellar x) (hp : p x) : Completes c s p :=
  completes_runs_eq x h hs e hx.corks hx.fab hp

/-- The Cellar's words at a wake with the sources held. -/
def Dev.wakeWords (d : Dev) : Dev := ((d.cwr R.CEL_WAKE_CAUSE d.clr.held).cput F.CEL_STAT_COREEN 1).cput F.CEL_STAT_PSTATE 3

theorem Dev.wakeWords_clr (d : Dev) : d.wakeWords.clr = d.clr := by rw [Dev.wakeWords, Dev.cput_clr, Dev.cput_clr, Dev.cwr_clr]

theorem Dev.wakeUp_eq (d : Dev) : d.wakeUp = (d.wakeWords.cellarCause 8).setClr { d.wakeWords.clr with held := 0, same := true } := rfl

theorem Dev.cellarCause_onlyCellar {d e : Dev} (h : d.onlyCellar e) (n : Nat) : d.onlyCellar (e.cellarCause n) := (h.cput _ _).cput _ _

theorem Dev.wakeUp_onlyCellar {d e : Dev} (h : d.onlyCellar e) : d.onlyCellar e.wakeUp := by
  rw [Dev.wakeUp_eq]
  exact (Dev.cellarCause_onlyCellar (((h.cwr _ _).cput _ _).cput _ _) 8).setClr _

theorem Dev.setClr_crd (d : Dev) (c : Clr) (a : Nat) : (d.setClr c).crd a = d.crd a := rfl

theorem Dev.wakeUp_pstate (d : Dev) : d.wakeUp.cget F.CEL_STAT_PSTATE = 3 := by
  rw [Dev.wakeUp_eq, Dev.setClr_cget, Dev.cellarCause_cget_ne _ _ (by decide), Dev.wakeWords, Dev.cget_cput_same _ _ _ (by decide)]
  rfl

theorem Dev.wakeUp_coreen (d : Dev) : d.wakeUp.cflag F.CEL_STAT_COREEN = true := by
  rw [Dev.wakeUp_eq, Dev.cflag, Dev.setClr_cget, Dev.cellarCause_cget_ne _ _ (by decide), Dev.wakeWords,
    Dev.cget_cput_apart _ _ _ _ (by decide) (by decide) (by decide), Dev.cget_cput_same _ _ _ (by decide)]
  rfl

theorem Dev.wakeUp_cause (d : Dev) : d.wakeUp.crd R.CEL_WAKE_CAUSE = d.clr.held := by
  rw [Dev.wakeUp_eq, Dev.setClr_crd, Dev.cellarCause_crd _ _ (by decide), Dev.wakeWords, Dev.crd_cput_ne _ _ _ (by decide),
    Dev.crd_cput_ne _ _ _ (by decide), Dev.crd_cwr_same]

theorem Dev.wakeUp_last (d : Dev) : d.wakeUp.cget F.CEL_RSTCAUSE_LAST = 8 := by
  rw [Dev.wakeUp_eq, Dev.setClr_cget, Dev.cellarCause_last _ (by decide)]

theorem Dev.wakeUp_clr (d : Dev) : d.wakeUp.clr = { d.clr with held := 0, same := true } := by rw [Dev.wakeUp_eq, Dev.setClr_clr, Dev.wakeWords_clr]

/-- A wake source held. -/
def Dev.holdSrc (d : Dev) (b : Nat) : Dev := d.setClr { d.clr with held := d.clr.held ||| (1#32 <<< b) }

theorem Dev.wakeSrc_wakes {d : Dev} {b : Nat} (hb : (d.crd R.CEL_WAKE_CFG).getLsbD b = true) (hp : d.cget F.CEL_STAT_PSTATE = 2) (hl : slowMs ≤ d.clr.low) :
    d.wakeSrc b = (d.holdSrc b).wakeUp := by
  rw [Dev.wakeSrc, if_neg (by rw [hb]; decide), if_pos hp]
  exact if_pos hl

theorem Dev.wakeSrc_holds {d : Dev} {b : Nat} (hb : (d.crd R.CEL_WAKE_CFG).getLsbD b = true) (hp : d.cget F.CEL_STAT_PSTATE = 2) (hl : d.clr.low < slowMs) :
    d.wakeSrc b = d.holdSrc b := by
  rw [Dev.wakeSrc, if_neg (by rw [hb]; decide), if_pos hp]
  exact if_neg (by omega)

theorem runs_wakePin (hs : s.celRuns) (hslow : s.dev.cflag F.CEL_STAT_SLOWOK = true) : Runs .wakePin s fun d => d.wakeSrc 16 :=
  runs_congr (runs_cel _ (show execWakePin s = _ from rfl) hs) (if_pos hslow)

theorem completes_wakePin (hs : s.celRuns) (hslow : s.dev.cflag F.CEL_STAT_SLOWOK = true) (hb : (s.dev.crd R.CEL_WAKE_CFG).getLsbD 16 = true)
    (hp : s.dev.cget F.CEL_STAT_PSTATE = 2) (hl : slowMs ≤ s.dev.clr.low) : Completes .wakePin s fun e =>
      e.cget F.CEL_STAT_PSTATE = 3 ∧ e.cflag F.CEL_STAT_COREEN = true ∧ e.crd R.CEL_WAKE_CAUSE = s.dev.clr.held ||| (1#32 <<< 16) ∧ e.clr.held = 0
        ∧ { e with cel := s.dev.cel, clr := s.dev.clr, fltNew := s.dev.fltNew } = s.dev := by
  have hcel : s.dev.onlyCellar (s.dev.holdSrc 16).wakeUp := Dev.wakeUp_onlyCellar ((Dev.onlyCellar.refl _).setClr _)
  exact completes_cellar _ (runs_wakePin hs hslow) hs.1 (Dev.wakeSrc_wakes hb hp hl) hcel
    ⟨Dev.wakeUp_pstate _, Dev.wakeUp_coreen _, Dev.wakeUp_cause _, by rw [Dev.wakeUp_clr], hcel.rest⟩

/-- The wake timer has counted n SLOW edges. -/
def Dev.timerLow (d : Dev) (n : Nat) : Dev := d.setClr { d.clr with low := max d.clr.low n }

theorem runs_wakeTimerExpiry (hs : s.celRuns) (hslow : s.dev.cflag F.CEL_STAT_SLOWOK = true) (hn : s.dev.cget F.CEL_WTIMER_N ≠ 0)
    (hp : s.dev.cget F.CEL_STAT_PSTATE = 2) : Runs .wakeTimerExpiry s fun d => (d.timerLow (d.cget F.CEL_WTIMER_N)).wakeSrc 17 := by
  refine runs_congr (runs_cel _ (show execWakeTimerExpiry s = _ from rfl) hs) (if_pos ?_)
  rw [State.start, hslow, hp, bne_iff_ne.2 hn]
  rfl

theorem completes_wakeTimerExpiry (hs : s.celRuns) (hslow : s.dev.cflag F.CEL_STAT_SLOWOK = true) (hn : s.dev.cget F.CEL_WTIMER_N ≠ 0)
    (hb : (s.dev.crd R.CEL_WAKE_CFG).getLsbD 17 = true) (hp : s.dev.cget F.CEL_STAT_PSTATE = 2) (hl : s.dev.clr.low < slowMs)
    (hm : s.dev.cget F.CEL_WTIMER_N < slowMs) : Completes .wakeTimerExpiry s fun e =>
      e.clr.held = s.dev.clr.held ||| (1#32 <<< 17) ∧ e.clr.low = max s.dev.clr.low (s.dev.cget F.CEL_WTIMER_N) ∧ e.cel = s.dev.cel
        ∧ { e with clr := s.dev.clr, fltNew := s.dev.fltNew } = s.dev :=
  completes_cellar ((s.dev.timerLow (s.dev.cget F.CEL_WTIMER_N)).holdSrc 17) (runs_wakeTimerExpiry hs hslow hn hp) hs.1
    (Dev.wakeSrc_holds hb (by rw [Dev.timerLow, Dev.setClr_cget]; exact hp) (max_lt hl hm)) (((Dev.onlyCellar.refl _).setClr _).setClr _) ⟨rfl, rfl, rfl, rfl⟩

theorem runs_wake (hs : s.celRuns) (hp : s.dev.cget F.CEL_STAT_PSTATE = 2) (hh : s.dev.clr.held ≠ 0) : Runs .wake s Dev.wakeUp :=
  runs_congr (runs_cel _ (show execWake s = _ from rfl) hs) (if_pos ⟨hp, hh⟩)

theorem completes_wake (hs : s.celRuns) (hp : s.dev.cget F.CEL_STAT_PSTATE = 2) (hh : s.dev.clr.held ≠ 0) : Completes .wake s fun e =>
      e.cget F.CEL_STAT_PSTATE = 3 ∧ e.cflag F.CEL_STAT_COREEN = true ∧ e.crd R.CEL_WAKE_CAUSE = s.dev.clr.held ∧ e.clr.held = 0 ∧ e.clr.same = true
        ∧ e.cget F.CEL_RSTCAUSE_LAST = 8 ∧ { e with cel := s.dev.cel, clr := s.dev.clr, fltNew := s.dev.fltNew } = s.dev := by
  have hcel : s.dev.onlyCellar s.dev.wakeUp := Dev.wakeUp_onlyCellar (.refl _)
  exact completes_cellar _ (runs_wake hs hp hh) hs.1 rfl hcel ⟨Dev.wakeUp_pstate _, Dev.wakeUp_coreen _, Dev.wakeUp_cause _, by rw [Dev.wakeUp_clr],
    by rw [Dev.wakeUp_clr], Dev.wakeUp_last _, hcel.rest⟩

/-! ### Movement watches (R515) -/

/-- The level that a watch shows. -/
def mwLevel (w : Nat) : Fld := ⟨R.CEL_MWSTAT, 18 + w, 18 + w⟩

/-- The first sample of a watch. -/
def Dev.mwFirst (d : Dev) (w : Nat) (level : Bool) : Dev :=
  (d.cput (mwLevel w) (b2n level)).setClr { d.clr with mwRun := smSet d.clr.mwRun 0 w 1 }

theorem Dev.mwSample_first {d : Dev} {w : Nat} (level : Bool) (he : d.cflag (F.CEL_MWCFG_EN w) = true) (hslow : d.cflag F.CEL_STAT_SLOWOK = true)
    (hr : smGet d.clr.mwRun 0 w = 0) : d.mwSample w level = d.mwFirst w level := by
  unfold Dev.mwSample
  dsimp only
  rw [if_neg (by rw [he, hslow]; decide), if_pos hr]
  rfl

theorem completes_mwSample {w : Fin 2} {level : Bool} (hs : s.celRuns) (he : s.dev.cflag (F.CEL_MWCFG_EN w) = true)
    (hslow : s.dev.cflag F.CEL_STAT_SLOWOK = true) (hr : smGet s.dev.clr.mwRun 0 w = 0) : Completes (.movementWatchSample w level) s fun e =>
      e.cflag ⟨R.CEL_MWSTAT, 18 + w, 18 + w⟩ = level ∧ smGet e.clr.mwRun 0 w = 1 ∧ (∀ a, a ≠ R.CEL_MWSTAT → e.crd a = s.dev.crd a)
        ∧ { e with cel := s.dev.cel, clr := s.dev.clr, fltNew := s.dev.fltNew } = s.dev := by
  have hcel : s.dev.onlyCellar (s.dev.mwFirst w level) := ((Dev.onlyCellar.refl _).cput _ _).setClr _
  refine completes_cellar _ (runs_cel (fun d => d.mwSample w level) rfl hs) hs.1 (Dev.mwSample_first level he hslow hr) hcel
    ⟨?_, ?_, fun a ha => ?_, hcel.rest⟩
  · rw [Dev.cflag, Dev.mwFirst, Dev.setClr_cget]
    refine (congrArg (· == 1) (Dev.cget_cput_same s.dev (mwLevel w) (b2n level) ⟨le_refl _, show 18 + w.val < 32 by omega⟩)).trans ?_
    rw [show (mwLevel w).hi + 1 - (mwLevel w).lo = 1 by show 18 + w.val + 1 - (18 + w.val) = 1; omega]
    cases level <;> rfl
  · rw [State.start, Dev.mwFirst, Dev.setClr_clr]
    exact smGet_smSet_same s.dev.clr.mwRun 0 w.val 1
  · rw [Dev.mwFirst, Dev.setClr_crd]
    exact Dev.crd_cput_ne _ _ _ ha

/-! ### Words that clear (R7, R484) -/

theorem completes_celRstcauseClr {req : Fin 10} (hs : s.celRuns) : Completes (.celRstcauseClr req) s fun e =>
      e.cget F.CEL_RSTCAUSE_CAUSE = 0 ∧ e.cget F.CEL_RSTCAUSE_LAST = s.dev.cget F.CEL_RSTCAUSE_LAST ∧ (∀ a, a ≠ R.CEL_RSTCAUSE → e.crd a = s.dev.crd a)
        ∧ { e with cel := s.dev.cel, fltNew := s.dev.fltNew } = s.dev :=
  completes_cellar (s.dev.cput F.CEL_RSTCAUSE_CAUSE 0) (runs_cel Dev.rstCauseClr rfl hs) hs.1 rfl ((Dev.onlyCellar.refl _).cput _ _)
    ⟨Dev.cget_cput_same _ _ _ (by decide), Dev.cget_cput_apart _ _ _ _ (by decide) (by decide) (by decide), fun _ ha => Dev.crd_cput_ne _ _ _ ha, rfl⟩

/-- CEL_MWSTAT with detections and change counts clear. -/
def Dev.mwWord (d : Dev) : Dev := ((d.cput F.CEL_MWSTAT_DET 0).cput F.CEL_MWSTAT_CHG0 0).cput F.CEL_MWSTAT_CHG1 0

theorem Dev.mwStatClr_eq (d : Dev) : d.mwStatClr = d.mwWord.setClr { d.clr with mwRun := d.clr.mwRun.map (fun p => (p.1, min p.2 1)) } := rfl

theorem completes_celMwstatClr {req : Fin 10} (hs : s.celRuns) : Completes (.celMwstatClr req) s fun e =>
      e.cget F.CEL_MWSTAT_DET = 0 ∧ e.cget F.CEL_MWSTAT_CHG0 = 0 ∧ e.cget F.CEL_MWSTAT_CHG1 = 0 ∧ e.cget F.CEL_MWSTAT_LVL = s.dev.cget F.CEL_MWSTAT_LVL
        ∧ (∀ a, a ≠ R.CEL_MWSTAT → e.crd a = s.dev.crd a) ∧ { e with cel := s.dev.cel, clr := s.dev.clr, fltNew := s.dev.fltNew } = s.dev := by
  have apart : ∀ (x : Dev) (f g : Fld) (v : Nat), f.lo ≤ f.hi → g.lo ≤ g.hi ∧ g.hi < 32 → g.hi < f.lo ∨ f.hi < g.lo → (x.cput f v).cget g = x.cget g :=
    fun x f g v => x.cget_cput_apart f g v
  refine completes_cellar _ (runs_cel Dev.mwStatClr rfl hs) hs.1 (Dev.mwStatClr_eq _) ((((Dev.onlyCellar.refl _).cput _ _).cput _ _).cput _ _ |>.setClr _)
    ⟨?_, ?_, ?_, ?_, fun a ha => ?_, s.dev.mwStatClr_onlyCellar.rest⟩
  · rw [Dev.setClr_cget, Dev.mwWord, apart _ _ _ _ (by decide) (by decide) (by decide), apart _ _ _ _ (by decide) (by decide) (by decide),
      Dev.cget_cput_same _ _ _ (by decide), Nat.zero_mod]
  · rw [Dev.setClr_cget, Dev.mwWord, apart _ _ _ _ (by decide) (by decide) (by decide), Dev.cget_cput_same _ _ _ (by decide), Nat.zero_mod]
  · rw [Dev.setClr_cget, Dev.mwWord, Dev.cget_cput_same _ _ _ (by decide), Nat.zero_mod]
  · rw [Dev.setClr_cget, Dev.mwWord, apart _ _ _ _ (by decide) (by decide) (by decide), apart _ _ _ _ (by decide) (by decide) (by decide),
      apart _ _ _ _ (by decide) (by decide) (by decide), State.start]
  · rw [Dev.setClr_crd, Dev.mwWord, Dev.crd_cput_ne _ _ _ ha, Dev.crd_cput_ne _ _ _ ha, Dev.crd_cput_ne _ _ _ ha, State.start]

/-! ### Counters of the power domains (R7) -/

/-- Words with counters of domains. -/
def powerWord (a : Nat) : Prop := a = R.PWR_STAT ∨ ∃ k, k < 8 ∧ a = R.PWR_DOM_STAT k

/-- The counters of one domain clear. -/
def Dev.domCntClr (d : Dev) (k : Nat) : Dev := (d.put (F.PWR_DOM_STAT_CUT k) 0).put (F.PWR_DOM_STAT_DOWNS k) 0

def Dev.pwrStatClr (d : Dev) : Dev := (d.put F.PWR_STAT_SLPREF 0).put F.PWR_STAT_DOMREF 0

theorem Dev.pwrCntClr_eq (d : Dev) : d.pwrCntClr = forN 8 Dev.domCntClr d.pwrStatClr := rfl

theorem Dev.pwrStatClr_clears (d : Dev) : d.Clears powerWord d.pwrStatClr :=
  ((Dev.Clears.refl _ d).put (.inl rfl) (show 24 ≤ 31 by decide)).put (.inl rfl) (show 16 ≤ 23 by decide)

theorem Dev.domCntClr_clears (d : Dev) {k : Nat} (hk : k < 8) : d.Clears powerWord (d.domCntClr k) :=
  ((Dev.Clears.refl _ d).put (.inr ⟨k, hk, rfl⟩) (show 8 ≤ 15 by decide)).put (.inr ⟨k, hk, rfl⟩) (show 0 ≤ 7 by decide)

theorem Dev.domCntClr_state (d : Dev) (k j : Nat) : (d.domCntClr k).domState j = d.domState j := by
  rw [Dev.domCntClr, Dev.domState, Dev.get_put_apart _ _ _ _ (show 0 ≤ 7 by decide) ⟨show 30 ≤ 31 by decide, show 31 < 32 by decide⟩ (.inr (show 7 < 30 by decide)),
    Dev.get_put_apart _ _ _ _ (show 8 ≤ 15 by decide) ⟨show 30 ≤ 31 by decide, show 31 < 32 by decide⟩ (.inr (show 15 < 30 by decide)), ← Dev.domState]

theorem Dev.pwrStatClr_state (d : Dev) (j : Nat) : d.pwrStatClr.domState j = d.domState j := by
  rw [Dev.pwrStatClr, Dev.domState, Dev.get_put_apart _ _ _ _ (show 16 ≤ 23 by decide) ⟨show 30 ≤ 31 by decide, show 31 < 32 by decide⟩ (.inr (show 23 < 30 by decide)),
    Dev.get_put_ne _ _ _ _ (by show 0x20200 + 0x20 * j ≠ 0x2000c; omega), ← Dev.domState]

theorem Dev.domCntClr_cut (d : Dev) (k : Nat) : (d.domCntClr k).get (F.PWR_DOM_STAT_CUT k) = 0 := by
  rw [Dev.domCntClr, Dev.get_put_apart _ _ _ _ (show 0 ≤ 7 by decide) ⟨show 8 ≤ 15 by decide, show 15 < 32 by decide⟩ (.inr (show 7 < 8 by decide)),
    Dev.get_put_same _ _ _ ⟨show 8 ≤ 15 by decide, show 15 < 32 by decide⟩, Nat.zero_mod]

theorem Dev.domCntClr_downs (d : Dev) (k : Nat) : (d.domCntClr k).get (F.PWR_DOM_STAT_DOWNS k) = 0 := by
  rw [Dev.domCntClr, Dev.get_put_same _ _ _ ⟨show 0 ≤ 7 by decide, show 7 < 32 by decide⟩, Nat.zero_mod]

theorem completes_pwrCntClr {req : Fin 10} (hs : s.sysRuns) : Completes (.pwrCntClr req) s fun e =>
      e.get F.PWR_STAT_SLPREF = 0 ∧ e.get F.PWR_STAT_DOMREF = 0
        ∧ (∀ k, k < 8 → e.get (F.PWR_DOM_STAT_CUT k) = 0 ∧ e.get (F.PWR_DOM_STAT_DOWNS k) = 0 ∧ e.domState k = s.dev.domState k) ∧ e.noRegs = s.dev.noRegs := by
  have hpass : s.dev.pwrStatClr.Clears powerWord (forN 8 Dev.domCntClr s.dev.pwrStatClr) := .forN (fun x k hk => x.domCntClr_clears hk) _
  have hc : s.dev.Clears powerWord (forN 8 Dev.domCntClr s.dev.pwrStatClr) := s.dev.pwrStatClr_clears.trans hpass
  refine completes_runs_eq _ (runs_sys Dev.pwrCntClr rfl hs) hs.1 (Dev.pwrCntClr_eq _) hc.corks hc.fab ⟨?_, ?_, fun k hk => ⟨?_, ?_, ?_⟩, hc.noRegs⟩
  · refine hpass.get_zero ?_
    rw [Dev.pwrStatClr, Dev.get_put_apart _ _ _ _ (by decide) (by decide) (by decide), Dev.get_put_same _ _ _ (by decide), Nat.zero_mod]
  · refine hpass.get_zero ?_
    rw [Dev.pwrStatClr, Dev.get_put_same _ _ _ (by decide), Nat.zero_mod]
  · exact forN_clears (S := powerWord) (fun x j hj => x.domCntClr_clears hj) (Z := fun x => x.get (F.PWR_DOM_STAT_CUT k) = 0) (fun x y h hx => h.get_zero hx) hk
      fun x _ => x.domCntClr_cut k
  · exact forN_clears (S := powerWord) (fun x j hj => x.domCntClr_clears hj) (Z := fun x => x.get (F.PWR_DOM_STAT_DOWNS k) = 0) (fun x y h hx => h.get_zero hx) hk
      fun x _ => x.domCntClr_downs k
  · exact (forN_keeps (fun x : Dev => x.domState k) (fun x j => x.domCntClr_state j k) 8 _).trans (Dev.pwrStatClr_state _ _)

/-! ### Ramps and drains end (R505, R507) -/

theorem runs_rampUp {dom : Fin 8} (hs : s.sysRuns) (hst : s.dev.domState dom = 1) : Runs (.domRampDone dom true) s fun d =>
    (((d.domReset dom).put (F.PWR_DOM_STAT_STATE dom) 2).causeOff 2 1 dom).domLog dom 2 0 0 :=
  runs_congr (runs_sys (fun d => d.rampDone dom true) rfl hs) (if_neg fun h => h hst)

theorem runs_rampFailed {dom : Fin 8} (hs : s.sysRuns) (hst : s.dev.domState dom = 1) : Runs (.domRampDone dom false) s fun d =>
    ((d.put (F.PWR_DOM_STAT_STATE dom) 0).causeOn 2 1 dom 2).domLog dom 0 0 0 :=
  runs_congr (runs_sys (fun d => d.rampDone dom false) rfl hs) (if_neg fun h => h hst)

theorem runs_drainEnd {dom : Fin 8} (hs : s.sysRuns) (hst : s.dev.domState dom = 3) : Runs (.drainEnd dom) s fun d => (d.drainWait dom).rakCatch.drainEnd dom :=
  runs_congr (runs_sys _ (show execDrainEnd dom s = _ from rfl) hs) (if_pos hst)

end

/-- Settles O57: a drain by what it changes (Dev.Drains), a sleep by what SYSTEM reset leaves, a wake within the Cellar alone. -/
theorem powerDomainsAndSleep : Obligations.power_domains_and_sleep := by
  unfold Obligations.power_domains_and_sleep
  exact ⟨fun s req dom hs h1 h7 hst => completes_pwrDomUp hs h1 h7 hst, fun s req dom hs h => completes_pwrDomUp_refused hs h,
    fun s req dom hs h1 h7 hst => completes_pwrDomDrain hs h1 h7 hst, fun s dom hs hst => runs_rampUp hs hst, fun s dom hs hst => runs_rampFailed hs hst,
    fun s dom hs hst => runs_drainEnd hs hst, fun s hs hok hoff => completes_pwrSleep hs hok hoff, fun s hs hok => runs_pwrSleep_taken hs hok,
    fun s hs hok => runs_pwrSleep_notReady hs (by rw [hok]; exact Bool.false_ne_true), fun s hs hslow hb hp hl => completes_wakePin hs hslow hb hp hl,
    fun s hs hslow hn hb hp hl hm => completes_wakeTimerExpiry hs hslow hn hb hp hl hm, fun s w level hs he hslow hr => completes_mwSample hs he hslow hr,
    fun s hs hp hh => completes_wake hs hp hh, fun s req hs => completes_celRstcauseClr hs, fun s req hs => completes_celMwstatClr hs,
    fun s req hs => completes_pwrCntClr hs⟩

end Sys2Proof.Machine

/-! PROOFS. Test access, debug and the analogue test buses (R529-R534). -/

namespace Sys2Proof.Machine

/-! ### The test access port (R529) -/

/-- The debug block's state replaced. -/
def Dev.setDbg (d : Dev) (x : Dbg) : Dev := { d with dbg := x }

theorem Dev.setDbg_dbg (d : Dev) (x : Dbg) : (d.setDbg x).dbg = x := rfl
theorem Dev.setDbg_corks (d : Dev) (x : Dbg) : (d.setDbg x).corks = d.corks := rfl
theorem Dev.setDbg_fab (d : Dev) (x : Dbg) : (d.setDbg x).fab = d.fab := rfl
theorem Dev.setDbg_rest (d : Dev) (x : Dbg) : { d.setDbg x with dbg := d.dbg, fltNew := d.fltNew } = d := rfl

theorem Dev.tapIr_eq (d : Dev) (op : Nat) : d.tapIr op = d.tapAccess.setDbg { d.dbg with ir := op } := rfl

theorem Dev.tapAccess_reported (d : Dev) : d.Reported d.tapAccess := by
  unfold Dev.tapAccess
  split
  · exact Dev.raise_reported _ _ _ _ _
  · exact .refl d

/-- An access under JLOCK, or outside mission mode, raises nothing. -/
theorem Dev.tapAccess_silent {d : Dev} (h : d.jlocked = true ∨ d.boardTest = true) : d.tapAccess = d := by
  refine if_neg ?_
  rcases h with h | h
  · rw [h, Bool.not_true, Bool.false_and]
    exact Bool.false_ne_true
  · rw [beq_iff_eq.1 (show (d.get F.DBG_STAT_TMODE == 1) = true from h), Bool.and_eq_true]
    exact fun hc => absurd hc.2 (by decide)

theorem Dev.tapIr_silent {d : Dev} (op : Nat) (h : d.jlocked = true ∨ d.boardTest = true) : d.tapIr op = d.setDbg { d.dbg with ir := op } := by
  rw [Dev.tapIr_eq, Dev.tapAccess_silent h]

theorem Dev.tapIr_dbg (d : Dev) (op : Nat) : (d.tapIr op).dbg = { d.dbg with ir := op } := rfl
theorem Dev.tapIr_corks (d : Dev) (op : Nat) : (d.tapIr op).corks = d.corks := by rw [Dev.tapIr_eq, Dev.setDbg_corks, d.tapAccess_reported.corks]
theorem Dev.tapIr_fab (d : Dev) (op : Nat) : (d.tapIr op).fab = d.fab := by rw [Dev.tapIr_eq, Dev.setDbg_fab, d.tapAccess_reported.fab]

theorem Dev.tapBoard_on {d : Dev} (op : Nat) (h : d.boardTest = true) : d.tapBoard op = d.setDbg { d.dbg with ir := op } := by
  rw [Dev.tapBoard, if_pos h, Dev.tapIr_silent _ (.inr h)]

theorem Dev.tapScan_on {d : Dev} (op : Nat) (h : d.boardTest = true) : d.tapScan op = (d.setDbg { d.dbg with ir := op }).bsrUpdate := by
  rw [Dev.tapScan, if_pos h, Dev.tapBoard_on _ h]

theorem Dev.tapScan_off {d : Dev} (op : Nat) (h : d.boardTest = false) : d.tapScan op = d.tapIr irBypass := by
  rw [Dev.tapScan, Dev.tapBoard, h]
  rfl

section
variable {s : State} {c : Instr}

/-- A command that only selects an instruction. -/
theorem completes_tapIr {op : Nat} (h : Runs c s fun d => d.tapIr op) (hs : s.dev.corksFresh) : Completes c s fun e => e.dbg = { s.dev.dbg with ir := op } :=
  completes_runs_eq _ h hs rfl (Dev.tapIr_corks _ _) (Dev.tapIr_fab _ _) (Dev.tapIr_dbg _ _)

/-- A selection that raises nothing changes nothing else. -/
theorem completes_tapIr_silent {op : Nat} {f : Dev → Dev} (h : Runs c s f) (hs : s.dev.corksFresh) (e : f s.start = s.dev.setDbg { s.dev.dbg with ir := op }) :
    Completes c s fun e => e.dbg = { s.dev.dbg with ir := op } ∧ { e with dbg := s.dev.dbg, fltNew := s.dev.fltNew } = s.dev :=
  completes_runs_eq _ h hs e (Dev.setDbg_corks _ _) (Dev.setDbg_fab _ _) ⟨Dev.setDbg_dbg _ _, Dev.setDbg_rest _ _⟩

theorem Dev.scanned_rest (d : Dev) (x : Dbg) : { (d.setDbg x).bsrUpdate with dbg := d.dbg, draw := d.draw } = d := rfl
theorem Dev.scanned_dbg (d : Dev) (op : Nat) : { (d.setDbg { d.dbg with ir := op }).bsrUpdate.dbg with bsr := d.dbg.bsr } = { d.dbg with ir := op } := rfl
theorem Dev.scanned_corks (d : Dev) (x : Dbg) : (d.setDbg x).bsrUpdate.corks = d.corks := rfl
theorem Dev.scanned_fab (d : Dev) (x : Dbg) : (d.setDbg x).bsrUpdate.fab = d.fab := rfl

/-- A scan instruction that is taken. -/
theorem completes_scan {op : Nat} {f : Dev → Dev} (h : Runs c s f) (hs : s.dev.corksFresh) (e : f s.start = (s.dev.setDbg { s.dev.dbg with ir := op }).bsrUpdate) :
    Completes c s fun e => { e.dbg with bsr := s.dev.dbg.bsr } = { s.dev.dbg with ir := op } ∧ { e with dbg := s.dev.dbg, draw := s.dev.draw } = s.dev :=
  completes_runs_eq _ h hs e (Dev.scanned_corks _ _) (Dev.scanned_fab _ _) ⟨Dev.scanned_dbg _ _, Dev.scanned_rest _ _⟩

theorem completes_idcode (hs : s.dev.corksFresh) : Completes .idcode s fun e => e.bus = ⟨9, 0x0951256F⟩ ∧ e.dbg = { s.dev.dbg with ir := irIdcode } := by
  refine completes_runs_eq _ (runs_any (fun d => (d.tapIr irIdcode).ret 9 0x0951256F) rfl) hs rfl ((Dev.ret_corks' _ _ _).trans (Dev.tapIr_corks _ _))
    ((Dev.ret_fab' _ _ _).trans (Dev.tapIr_fab _ _)) ⟨?_, ?_⟩
  · rw [Dev.ret_busData, Nat.mod_eq_of_lt (by decide)]
  · rw [Dev.ret_dbg, Dev.tapIr_dbg, State.start]

theorem Dev.ret_req (d : Dev) (req v : Nat) : (d.ret req v).bus.req = req := rfl

theorem runs_dtmcs (hj : s.dev.jlocked = false) : Runs .dtmcs s fun d => (d.tapIr 0x10).ret 9 (Config.dmiWord 0).toNat :=
  runs_congr (runs_any _ (show execDtmcs s = _ from rfl)) (if_neg (by rw [State.start, hj]; exact Bool.false_ne_true))

theorem completes_dtmcs (hs : s.dev.corksFresh) (hj : s.dev.jlocked = false) : Completes .dtmcs s fun e => e.dbg = { s.dev.dbg with ir := 0x10 } ∧ e.bus.req = 9 := by
  refine completes_runs_eq _ (runs_dtmcs hj) hs rfl ((Dev.ret_corks' _ _ _).trans (Dev.tapIr_corks _ _)) ((Dev.ret_fab' _ _ _).trans (Dev.tapIr_fab _ _))
    ⟨?_, Dev.ret_req _ _ _⟩
  rw [Dev.ret_dbg, Dev.tapIr_dbg, State.start]

/-- The answer of DMI, where it is open: a free value. -/
def Dev.dmiAnswer (d : Dev) : Dev := (d.tapIr 0x11).drawFree.2.ret 9 (Config.dmiWord (d.tapIr 0x11).drawFree.1.toNat).toNat

theorem Dev.drawFree_corks (d : Dev) : d.drawFree.2.corks = d.corks := rfl
theorem Dev.drawFree_fab (d : Dev) : d.drawFree.2.fab = d.fab := rfl
theorem Dev.drawFree_dbg (d : Dev) : d.drawFree.2.dbg = d.dbg := rfl

theorem runs_dmi (hj : s.dev.jlocked = false) : Runs .dmi s Dev.dmiAnswer :=
  runs_congr (runs_any _ (show execDmi s = _ from rfl)) (if_neg (by rw [State.start, hj]; exact Bool.false_ne_true))

theorem runs_dmi_locked (hj : s.dev.jlocked = true) : Runs .dmi s fun d => (d.tapIr 0x11).ret 9 2 :=
  runs_congr (runs_any _ (show execDmi s = _ from rfl)) (if_pos hj)

theorem completes_dmi (hs : s.dev.corksFresh) (hj : s.dev.jlocked = false) : Completes .dmi s fun e => e.dbg = { s.dev.dbg with ir := 0x11 } ∧ e.bus.req = 9 := by
  refine completes_runs_eq s.dev.dmiAnswer (runs_dmi hj) hs rfl ?_ ?_ ⟨?_, Dev.ret_req _ _ _⟩
  · rw [Dev.dmiAnswer, Dev.ret_corks', Dev.drawFree_corks, Dev.tapIr_corks]
  · rw [Dev.dmiAnswer, Dev.ret_fab', Dev.drawFree_fab, Dev.tapIr_fab]
  · rw [Dev.dmiAnswer, Dev.ret_dbg, Dev.drawFree_dbg, Dev.tapIr_dbg]

theorem completes_dmi_locked (hs : s.dev.corksFresh) (hj : s.dev.jlocked = true) : Completes .dmi s fun e => e.dbg = { s.dev.dbg with ir := 0x11 } ∧ e.bus = ⟨9, 2⟩ := by
  refine completes_runs_eq _ (runs_dmi_locked hj) hs rfl ((Dev.ret_corks' _ _ _).trans (Dev.tapIr_corks _ _)) ((Dev.ret_fab' _ _ _).trans (Dev.tapIr_fab _ _))
    ⟨?_, ?_⟩
  · rw [Dev.ret_dbg, Dev.tapIr_dbg, State.start]
  · rw [Dev.ret_busData, Nat.mod_eq_of_lt (by decide)]

/-! ### Accesses of DBGACC (R530) -/

theorem Dev.dbgacc_open {d : Dev} (op off data : Nat) (f : Dev → Dev) (h : d.jlocked = false) : d.dbgacc op off data f =
    (f (d.tapIr 0x20)).setDbg { (f (d.tapIr 0x20)).dbg with
      status := 0, off := off % 2 ^ 25, data := if op = 1 then (f (d.tapIr 0x20)).bus.data % 2 ^ 32 else data % 2 ^ 32 } := by
  unfold Dev.dbgacc
  dsimp only
  rw [h, if_neg Bool.false_ne_true, Dev.setDbg]

theorem Dev.dbgacc_locked {d : Dev} (op off data : Nat) (f : Dev → Dev) (h : d.jlocked = true) :
    d.dbgacc op off data f = d.setDbg { d.dbg with ir := 0x20, status := 2 } := by
  unfold Dev.dbgacc
  dsimp only
  rw [if_pos h, Dev.tapIr_silent _ (.inl h)]
  rfl

theorem runs_dbgaccRead {off : Nat} (hs : s.busRuns 9) (hj : s.busDev.jlocked = false) : Runs (.dbgaccRead off) s fun d =>
    let d2 := (d.rakCatch.tapIr 0x20).busRead 9 off
    { d2 with dbg := { d2.dbg with status := 0, off := off % 2 ^ 25, data := d2.bus.data % 2 ^ 32 } } :=
  runs_congr (runs_bus (fun d => d.dbgacc 1 off 0 (fun x => x.busRead 9 off)) rfl hs) (Dev.dbgacc_open 1 off 0 _ hj)

theorem runs_dbgaccWrite {off data : Nat} (hs : s.busRuns 9) (hj : s.busDev.jlocked = false) : Runs (.dbgaccWrite off data) s fun d =>
    let d2 := (d.rakCatch.tapIr 0x20).busWrite 9 off data
    { d2 with dbg := { d2.dbg with status := 0, off := off % 2 ^ 25, data := data % 2 ^ 32 } } :=
  runs_congr (runs_bus (fun d => d.dbgacc 2 off data (fun x => x.busWrite 9 off data)) rfl hs) (Dev.dbgacc_open 2 off data _ hj)

theorem runs_dbgaccCorkedWrite {off data : Nat} (hs : s.busRuns 9) (hj : s.busDev.jlocked = false) : Runs (.dbgaccCorkedWrite off data) s fun d =>
    let d2 := (((d.rakCatch.tapIr 0x20).busWrite 9 off data).fabCycle).busWrite 9 (off + 4) (2 ^ 32 - 1 - data % 2 ^ 32)
    { d2 with dbg := { d2.dbg with status := 0, off := off % 2 ^ 25, data := data % 2 ^ 32 } } :=
  runs_congr (runs_bus (fun d => d.dbgacc 3 off data (fun x => (x.busWrite 9 off data).fabCycle.busWrite 9 (off + 4) (2 ^ 32 - 1 - data % 2 ^ 32))) rfl hs)
    (Dev.dbgacc_open 3 off data _ hj)

theorem completes_dbgaccRead_locked {off : Nat} (hs : s.busRuns 9) (hj : s.busDev.jlocked = true) : Completes (.dbgaccRead off) s fun e =>
    e.dbg = { s.busDev.dbg with ir := 0x20, status := 2 } ∧ { e with dbg := s.busDev.dbg, fltNew := s.busDev.fltNew } = s.busDev :=
  completes_bus_eq (fun d => d.dbgacc 1 off 0 (fun x => x.busRead 9 off)) rfl hs (Dev.dbgacc_locked 1 off 0 _ hj) (Dev.setDbg_corks _ _) (Dev.setDbg_fab _ _)
    ⟨Dev.setDbg_dbg _ _, Dev.setDbg_rest _ _⟩

/-! ### DBG registers (R529, R533, R534) -/

variable {req : Fin 10}

/-- JLOCK set. -/
def Dev.locked (d : Dev) : Dev := (d.put F.DBG_CTL_JLOCK 1).put F.DBG_STAT_JLOCK 1

theorem Dev.locked_onlyRegs (d : Dev) : Dev.onlyRegs d d.locked [R.DBG_CTL, R.DBG_STAT] :=
  (Dev.put_onlyRegs_of_mem d F.DBG_CTL_JLOCK 1 (by simp)).trans (Dev.put_onlyRegs_of_mem _ F.DBG_STAT_JLOCK 1 (by simp))

theorem runs_jlock (hs : s.sysRuns) (hr : req.val ≠ 9) : Runs (.jlock req) s Dev.locked := by
  refine runs_congr (runs_sys _ (show execJlock req s = _ from rfl) hs) ?_
  rw [if_neg hr]
  rfl

theorem completes_jlock (hs : s.sysRuns) (hr : req.val ≠ 9) : Completes (.jlock req) s fun e =>
    e.jlocked = true ∧ e.flag F.DBG_STAT_JLOCK = true ∧ Dev.onlyRegs s.dev e [R.DBG_CTL, R.DBG_STAT] := by
  have honly := s.dev.locked_onlyRegs
  refine completes_runs_eq _ (runs_jlock hs hr) hs.1 rfl honly.corks honly.fab ⟨?_, ?_, honly⟩
  · rw [Dev.jlocked, Dev.flag, State.start, Dev.locked, Dev.get_put_ne _ _ _ _ (by decide), Dev.get_put_same _ _ _ (by decide)]
    rfl
  · rw [State.start, Dev.locked, Dev.flag_put_same _ _ _ (by decide)]
    rfl

/-- Direct test entered. -/
def Dev.directIn (d : Dev) : Dev := (d.put F.DBG_STAT_DIRECT 1).put F.DBG_DIRECT_ON 1

theorem completes_directOn (hs : s.sysRuns) (hm : s.dev.mirState ≤ 3) : Completes (.dbgDirectOn req) s fun e =>
    e.flag F.DBG_STAT_DIRECT = true ∧ e.flag F.DBG_DIRECT_ON = true ∧ e.hasCause 24 0 0 = true := by
  have hstill : (s.dev.directIn.causeOn 24 0 0 1).still = s.dev.still := by rw [Dev.causeOn_still, Dev.directIn, Dev.put_still, Dev.put_still]
  have hflag : ∀ f : Fld, reportWord f.addr = false → (s.dev.directIn.causeOn 24 0 0 1).flag f = s.dev.directIn.flag f := fun f hf => by
    rw [Dev.flag, Dev.get, Dev.causeOn_rd _ _ _ _ _ hf, Dev.flag, Dev.get]
  refine completes_runs_eq (s.dev.directIn.causeOn 24 0 0 1) (runs_sys (fun d => d.dbgDirect true) rfl hs) hs.1 (if_pos hm) (Dev.still_corks hstill)
    (Dev.still_fab hstill) ⟨?_, ?_, Dev.causeOn_hasCause _ _ _ _ _⟩
  · rw [hflag _ (by decide +kernel), Dev.directIn, Dev.flag, Dev.get_put_ne _ _ _ _ (by decide), Dev.get_put_same _ _ _ (by decide)]
    rfl
  · rw [hflag _ (by decide +kernel), Dev.directIn, Dev.flag_put_same _ _ _ (by decide)]
    rfl

theorem completes_directOn_refused (hs : s.sysRuns) (hm : 4 ≤ s.dev.mirState) : Completes (.dbgDirectOn req) s fun e =>
    e.get F.DBG_STAT_DREF = min (s.dev.get F.DBG_STAT_DREF + 1) 255 ∧ e.flag F.DBG_STAT_DIRECT = s.dev.flag F.DBG_STAT_DIRECT
      ∧ Dev.onlyRegs s.dev e [R.DBG_STAT] := by
  have honly : Dev.onlyRegs s.dev (s.dev.incSat F.DBG_STAT_DREF) [R.DBG_STAT] := Dev.incSat_onlyRegs _ _
  exact completes_runs_eq (s.dev.incSat F.DBG_STAT_DREF) (runs_sys (fun d => d.dbgDirect true) rfl hs) hs.1 (if_neg (show ¬s.dev.mirState ≤ 3 by omega)) honly.corks
    honly.fab ⟨Dev.get_incSat_same _ _ (by decide), Dev.flag_put_apart _ _ _ _ (by decide) (by decide) (by decide), honly⟩

/-- Direct test left. -/
def Dev.directOut (d : Dev) : Dev := (d.put F.DBG_STAT_DIRECT 0).put F.DBG_DIRECT_ON 0

theorem Dev.causeOff_flag (d : Dev) (b c i : Nat) (f : Fld) : (d.causeOff b c i).flag f = d.flag f := rfl

theorem completes_directOff (hs : s.sysRuns) : Completes (.dbgDirectOff req) s fun e =>
    e.flag F.DBG_STAT_DIRECT = false ∧ e.flag F.DBG_DIRECT_ON = false ∧ e.hasCause 24 0 0 = false ∧
      (∀ a, a ≠ R.DBG_STAT → a ≠ R.DBG_DIRECT → e.rd a = s.dev.rd a) ∧ Dev.still e = s.dev.still := by
  have hstill : (s.dev.directOut.causeOff 24 0 0).still = s.dev.still := by rw [Dev.causeOff_still, Dev.directOut, Dev.put_still, Dev.put_still]
  refine completes_runs_eq (s.dev.directOut.causeOff 24 0 0) (runs_sys (fun d => d.dbgDirect false) rfl hs) hs.1 rfl (Dev.still_corks hstill)
    (Dev.still_fab hstill) ⟨?_, ?_, Dev.causeOff_hasCause _ _ _ _, fun a ha hb => ?_, hstill⟩
  · rw [Dev.causeOff_flag, Dev.directOut, Dev.flag, Dev.get_put_ne _ _ _ _ (by decide), Dev.get_put_same _ _ _ (by decide)]
    rfl
  · rw [Dev.causeOff_flag, Dev.directOut, Dev.flag_put_same _ _ _ (by decide)]
    rfl
  · rw [Dev.rd_causeOff, Dev.directOut, Dev.rd_put_ne _ _ _ hb, Dev.rd_put_ne _ _ _ ha]

theorem Dev.prbsCtl_idle {d : Dev} {data : Nat} (he : bitOf data 31 = true) (hp : data % 64 < 34) (hi : d.pairIdle (data % 64) = true) :
    d.prbsCtl data = (d.wr R.DBG_PRBS_CTL (BitVec.ofNat 32 data &&& 0xF000003F#32)).wr R.DBG_PRBS_STAT 0 := by
  unfold Dev.prbsCtl
  dsimp only
  rw [if_neg (by rw [he]; decide), if_neg (by omega), if_pos hi]

theorem Dev.prbsCtl_busy {d : Dev} {data : Nat} (he : bitOf data 31 = true) (hp : data % 64 < 34) (hi : d.pairIdle (data % 64) = false) :
    d.prbsCtl data = d.incSat F.DBG_STAT_PREF := by
  unfold Dev.prbsCtl
  dsimp only
  rw [if_neg (by rw [he]; decide), if_neg (by omega), if_neg (by rw [hi]; exact Bool.false_ne_true)]

theorem completes_prbsOn {data : Nat} (hs : s.sysRuns) (he : bitOf data 31 = true) (hp : data % 64 < 34) (hi : s.dev.pairIdle (data % 64) = true) :
    Completes (.prbsCtlWrite req data) s fun e =>
      e.rd R.DBG_PRBS_CTL = BitVec.ofNat 32 data &&& 0xF000003F#32 ∧ e.rd R.DBG_PRBS_STAT = 0 ∧ Dev.onlyRegs s.dev e [R.DBG_PRBS_CTL, R.DBG_PRBS_STAT] := by
  have honly : Dev.onlyRegs s.dev ((s.dev.wr R.DBG_PRBS_CTL (BitVec.ofNat 32 data &&& 0xF000003F#32)).wr R.DBG_PRBS_STAT 0) [R.DBG_PRBS_CTL, R.DBG_PRBS_STAT] :=
    ((s.dev.wr_onlyRegs _ _).weaken (by simp)).trans ((Dev.wr_onlyRegs _ _ _).weaken (by simp))
  refine completes_runs_eq _ (runs_sys (fun d => d.prbsCtl data) rfl hs) hs.1 (Dev.prbsCtl_idle he hp hi) honly.corks honly.fab ⟨?_, Dev.rd_wr_same _ _ _, honly⟩
  rw [Dev.rd_wr_ne _ _ (by decide), Dev.rd_wr_same]

theorem completes_prbsBusy {data : Nat} (hs : s.sysRuns) (he : bitOf data 31 = true) (hp : data % 64 < 34) (hi : s.dev.pairIdle (data % 64) = false) :
    Completes (.prbsCtlWrite req data) s fun e => e.get F.DBG_STAT_PREF = min (s.dev.get F.DBG_STAT_PREF + 1) 255 ∧ Dev.onlyRegs s.dev e [R.DBG_STAT] := by
  have honly : Dev.onlyRegs s.dev (s.dev.incSat F.DBG_STAT_PREF) [R.DBG_STAT] := Dev.incSat_onlyRegs _ _
  exact completes_runs_eq _ (runs_sys (fun d => d.prbsCtl data) rfl hs) hs.1 (Dev.prbsCtl_busy he hp hi) honly.corks honly.fab
    ⟨Dev.get_incSat_same _ _ (by decide), honly⟩

theorem completes_dbgStatClr (hs : s.sysRuns) : Completes (.dbgStatClr req) s fun e =>
    e.get F.DBG_STAT_PREF = 0 ∧ e.get F.DBG_STAT_DREF = 0 ∧ e.get F.DBG_STAT_TMODE = s.dev.get F.DBG_STAT_TMODE ∧ Dev.onlyRegs s.dev e [R.DBG_STAT] := by
  have honly : Dev.onlyRegs s.dev ((s.dev.put F.DBG_STAT_PREF 0).put F.DBG_STAT_DREF 0) [R.DBG_STAT] :=
    (Dev.put_onlyRegs s.dev F.DBG_STAT_PREF 0).trans (Dev.put_onlyRegs _ F.DBG_STAT_DREF 0)
  refine completes_runs_eq _ (runs_sys Dev.dbgStatClr rfl hs) hs.1 rfl honly.corks honly.fab ⟨?_, ?_, ?_, honly⟩
  · rw [State.start, Dev.dbgStatClr, Dev.get_put_apart _ _ _ _ (by decide) (by decide) (by decide), Dev.get_put_same _ _ _ (by decide), Nat.zero_mod]
  · rw [State.start, Dev.dbgStatClr, Dev.get_put_same _ _ _ (by decide), Nat.zero_mod]
  · rw [State.start, Dev.dbgStatClr, Dev.get_put_apart _ _ _ _ (by decide) (by decide) (by decide),
      Dev.get_put_apart _ _ _ _ (by decide) (by decide) (by decide)]

/-! ### The analogue test buses (R531) -/

theorem Dev.atbSel_free {d : Dev} {b data : Nat} (hf : bitOf data 30 = false) (hc : bitOf data 31 = false) :
    d.atbSel b data = d.wr (R.ATB_SEL b) (BitVec.ofNat 32 data &&& 0xC00003FF#32) := by
  simp only [Dev.atbSel, hf, hc, Bool.false_and, Bool.false_eq_true, if_false]

theorem Dev.atbSel_forced {d : Dev} {b data : Nat} (hf : bitOf data 30 = true) (ht : d.get F.DBG_STAT_TMODE ≠ 2) : d.atbSel b data = d.incSat F.ATB_STAT_REF :=
  if_pos (by rw [hf, bne_iff_ne.2 ht]; rfl)

theorem completes_atbSel {b : Fin 2} {data : Nat} (hs : s.sysRuns) (hf : bitOf data 30 = false) (hc : bitOf data 31 = false) :
    Completes (.atbSelWrite req b data) s fun e => e.rd (R.ATB_SEL b) = BitVec.ofNat 32 data &&& 0xC00003FF#32 ∧ Dev.onlyRegs s.dev e [R.ATB_SEL b] := by
  have honly := s.dev.wr_onlyRegs (R.ATB_SEL b) (BitVec.ofNat 32 data &&& 0xC00003FF#32)
  exact completes_runs_eq _ (runs_sys (fun d => d.atbSel b data) rfl hs) hs.1 (Dev.atbSel_free hf hc) honly.corks honly.fab ⟨Dev.rd_wr_same _ _ _, honly⟩

theorem completes_atbSel_refused {b : Fin 2} {data : Nat} (hs : s.sysRuns) (hf : bitOf data 30 = true) (ht : s.dev.get F.DBG_STAT_TMODE ≠ 2) :
    Completes (.atbSelWrite req b data) s fun e => e.get F.ATB_STAT_REF = min (s.dev.get F.ATB_STAT_REF + 1) 255 ∧ Dev.onlyRegs s.dev e [R.ATB_STAT] := by
  have honly : Dev.onlyRegs s.dev (s.dev.incSat F.ATB_STAT_REF) [R.ATB_STAT] := Dev.incSat_onlyRegs _ _
  exact completes_runs_eq _ (runs_sys (fun d => d.atbSel b data) rfl hs) hs.1 (Dev.atbSel_forced hf ht) honly.corks honly.fab
    ⟨Dev.get_incSat_same _ _ (by decide), honly⟩

theorem completes_atbStatClr (hs : s.sysRuns) : Completes (.atbStatClr req) s fun e => e.get F.ATB_STAT_REF = 0 ∧ Dev.onlyRegs s.dev e [R.ATB_STAT] := by
  have honly := Dev.put_onlyRegs s.dev F.ATB_STAT_REF 0
  refine completes_runs_eq (s.dev.put F.ATB_STAT_REF 0) (runs_sys (fun d => d.put F.ATB_STAT_REF 0) rfl hs) hs.1 rfl honly.corks honly.fab ⟨?_, honly⟩
  rw [Dev.get_put_same _ _ _ (by decide), Nat.zero_mod]

end

/-- Settles O58. -/
theorem testAccessAndDebug : Obligations.test_access_and_debug := by
  unfold Obligations.test_access_and_debug
  refine ⟨fun s hs hj => completes_tapIr_silent (runs_any (fun d => d.tapIr irIdcode) rfl) hs (Dev.tapIr_silent _ (.inl hj)), fun s hs => completes_idcode hs,
    fun s hs hj => completes_scan (runs_any (fun d => (d.tapIr 0x02).bsrUpdate) rfl) hs (congrArg Dev.bsrUpdate (Dev.tapIr_silent _ (.inl hj))),
    fun s hs hb => ⟨completes_scan (runs_any (fun d => d.tapScan 0x03) rfl) hs (Dev.tapScan_on _ hb),
      completes_tapIr_silent (runs_any (fun d => d.tapBoard 0x04) rfl) hs (Dev.tapBoard_on _ hb),
      completes_tapIr_silent (runs_any (fun d => d.tapBoard 0x05) rfl) hs (Dev.tapBoard_on _ hb),
      completes_scan (runs_any (fun d => d.tapScan 0x06) rfl) hs (Dev.tapScan_on _ hb), completes_scan (runs_any (fun d => d.tapScan 0x07) rfl) hs (Dev.tapScan_on _ hb)⟩,
    fun s hs hb => completes_tapIr (runs_congr (runs_any (fun d => d.tapScan 0x03) rfl) (Dev.tapScan_off _ hb)) hs,
    fun s hs _ => completes_tapIr (runs_any (fun d => d.tapIr irBypass) rfl) hs, fun s hs hj => completes_dtmcs hs hj, fun s hs hj => completes_dmi hs hj,
    fun s hs hj => completes_dmi_locked hs hj, fun s off hs hj => runs_dbgaccRead hs hj, fun s off hs hj => completes_dbgaccRead_locked hs hj,
    fun s off data hs hj => runs_dbgaccWrite hs hj, fun s off data hs hj => runs_dbgaccCorkedWrite hs hj, fun s req hs hr => completes_jlock hs hr,
    fun s req hs hm => completes_directOn hs hm, fun s req hs hm => completes_directOn_refused hs hm, fun s req hs => completes_directOff hs,
    fun s req data hs he hp hi => completes_prbsOn hs he hp hi, fun s req data hs he hp hi => completes_prbsBusy hs he hp hi, fun s req hs => completes_dbgStatClr hs,
    fun s req b data hs hf hc => completes_atbSel hs hf hc, fun s req b data hs hf ht => completes_atbSel_refused hs hf ht, fun s req hs => completes_atbStatClr hs⟩

end Sys2Proof.Machine

/-! PROOFS. Every command outside the core domain answers a next state (O60). -/

namespace Sys2Proof.Machine

/-- A reliable frame that the tile takes has its effect and its ACK (R250). -/
theorem runs_rel {c : Instr} {s : State} {t : Fin 64} {sd : Bool} {seq need : Nat} {f : Dev → Dev × Nat × Nat}
    (hx : exec c s = s.runAny fun d => d.trel t sd true seq need f) (h : s.dev.tileTakes t sd seq need) :
    Runs c s fun d => Dev.tileEnd t sd seq (f d) :=
  runs_congr (runs_any _ hx) (Dev.trel_takes h)

theorem runs_systemResetRelease {s : State} {tmode : Fin 4} {good : Bool} (hs : s.celRuns)
    (hg : good = (if s.dev.flag F.CLK_REF_CFG_PREF then s.dev.flag F.CLK_STAT_PGOOD else s.dev.flag F.CLK_STAT_XGOOD))
    (hr : s.dev.rst.sys = true) (hp : s.dev.mgs.pllHold = false) (he : s.dev.cflag F.CEL_STAT_COREEN = true)
    (hok : (s.dev.flag F.CLK_STAT_PGOOD || s.dev.flag F.CLK_STAT_XGOOD) = true) :
    Runs (.systemResetRelease tmode) s fun d =>
      (d.sysFree.put F.CLK_STAT_STATE (if good then 0 else 2)).put F.DBG_STAT_TMODE (if tmode.val = 1 then 1 else 0) := by
  refine runs_congr (runs_cel _ (show execSystemResetRelease tmode s = _ from rfl) hs) ((if_pos ?_).trans ?_)
  · rw [State.start, hr, hp, he, hok]; rfl
  · rw [State.start, hg]; rfl

theorem runs_wakeTimerExpiry_of_get {s : State} {n : Nat} (hs : s.celRuns) (hn : s.dev.cget F.CEL_WTIMER_N = n)
    (hslow : s.dev.cflag F.CEL_STAT_SLOWOK = true) (h0 : n ≠ 0) (hp : s.dev.cget F.CEL_STAT_PSTATE = 2) :
    Runs .wakeTimerExpiry s fun d => (d.timerLow n).wakeSrc 17 :=
  runs_congr (runs_wakeTimerExpiry hs hslow (hn ▸ h0) hp) (by rw [State.start, hn])

/-- Settles O60, clause by clause: a command whose operation is said without a condition runs it (runs_any, runs_sys, runs_cel); the
others by the lemma of their command. -/
theorem otherDomainCommandsComplete : Obligations.other_domain_commands_complete :=
  ⟨fun _ _ h1 => runs_cel _ rfl h1,
   fun _ _ _ h1 => runs_cel _ rfl h1,
   fun _ h1 h2 => runs_celAccessDone h1 h2,
   fun _ h1 h2 => runs_fastCopyRefresh h1 h2,
   fun _ h1 => runs_cel _ rfl h1,
   fun _ h1 => runs_cel _ rfl h1,
   -- references and PLLs
   fun _ _ h1 h2 => runs_refLost ⟨h1, h2⟩,
   fun _ _ _ h2 => runs_refLost_reset h2,
   fun _ _ h1 h2 => runs_refGood ⟨h1, h2⟩,
   fun _ _ _ h2 => runs_refGood_reset h2,
   fun _ h1 => runs_sys _ rfl h1,
   fun _ h1 h2 => runs_holdoffExpiry h1 h2,
   fun _ _ _ h1 => runs_sys _ rfl h1,
   fun _ _ h1 => runs_sys _ rfl h1,
   fun _ _ h1 => runs_sys _ rfl h1,
   -- frames at a tile
   fun _ _ _ _ _ _ _ _ _ h2 => runs_rel rfl h2,
   fun _ _ _ _ _ _ _ _ _ h2 => runs_congr (runs_any _ rfl) (if_pos h2),
   fun _ _ _ _ _ _ _ _ _ h2 => runs_rel rfl h2,
   fun _ _ _ _ _ _ _ h2 => runs_rel rfl h2,
   fun _ _ _ _ _ h2 h3 => runs_time h2 h3,
   fun _ _ _ _ _ _ _ _ h2 => runs_rel rfl h2,
   fun _ _ _ _ _ _ h2 h3 => runs_echoReq h2 h3,
   fun _ _ _ _ _ _ _ h2 => runs_discover h2,
   fun _ _ _ _ _ _ _ h2 => runs_rel rfl h2,
   fun _ _ _ _ _ h2 h3 => runs_regrd h2 h3,
   fun _ _ _ _ _ _ _ h2 => runs_rel rfl h2,
   fun _ _ _ _ _ _ _ h2 => runs_rel rfl h2,
   fun _ _ _ _ _ _ h2 => runs_ctlReset h2,
   fun _ _ _ _ _ h2 => runs_rel rfl h2,
   fun _ _ _ _ _ h2 => runs_rel rfl h2,
   fun _ _ _ _ _ h2 => runs_rel rfl h2,
   fun _ _ _ _ _ h2 => runs_rel rfl h2,
   fun _ _ _ _ _ _ h2 => runs_rel rfl h2,
   -- link events at a tile
   fun _ _ _ _ => runs_any _ rfl,
   fun _ _ _ _ h2 => runs_tileLinkWdog h2,
   fun _ _ _ => runs_any _ rfl,
   fun _ _ _ _ => runs_any _ rfl,
   fun _ _ _ _ => runs_any _ rfl,
   fun _ _ _ _ => runs_any _ rfl,
   -- the drive of a tile
   fun _ _ _ _ _ _ _ h2 h3 h4 => runs_tilePulseStart h2 h3 h4,
   fun _ _ _ _ _ _ h2 => runs_tilePhaseAdvance h2,
   fun _ _ _ _ _ _ h2 => runs_tileChopSwitch h2,
   fun _ _ _ _ _ h2 h3 => runs_electricalEnd h2 h3,
   fun _ _ _ _ _ h2 => runs_closingWindowEnd h2,
   fun _ _ _ _ _ _ h2 h3 h4 h5 => runs_openOnCheck h2 h3 h4 h5,
   fun _ _ _ _ _ _ h2 h3 h4 => runs_overcurrentTrip h2 h3 h4,
   -- protection at a tile
   fun _ _ _ _ _ => runs_any _ rfl,
   fun _ _ _ _ => runs_any _ rfl,
   fun _ _ _ _ _ h2 h3 h4 => runs_boostFault_low h2 h3 h4,
   fun _ _ _ _ => runs_any _ rfl,
   fun _ _ _ _ => runs_any _ rfl,
   fun _ _ _ _ h2 h3 h4 h5 h6 h7 h8 => runs_offstateTestStart h2 h3 h4 h5 h6 h7 h8,
   fun _ _ _ _ _ _ _ _ h2 => runs_offstateTestEnd h2,
   fun _ _ _ h2 => runs_congr runs_inhibitInput (if_neg (by rw [State.start, h2]; decide)),
   fun _ _ _ => runs_any _ rfl,
   -- leases
   fun _ _ _ h2 h3 => runs_leaseGrant_a h2 h3,
   fun _ _ _ h2 h3 h4 => runs_leaseGrant_b h2 h3 h4,
   fun _ _ _ _ _ h2 h3 => runs_leaseLapse h2 h3,
   fun _ _ _ _ _ => runs_any _ rfl,
   fun _ _ _ _ _ h2 h3 => runs_yieldDue h2 h3,
   fun _ _ _ _ _ _ _ h2 h3 => runs_shadowUnmatched h2 h3,
   fun _ _ _ _ => runs_any _ rfl,
   fun _ _ _ _ => runs_any _ rfl,
   -- the comparators
   fun _ _ _ h1 => runs_cel _ rfl h1,
   -- resets
   fun _ _ => runs_any _ rfl,
   fun _ _ h2 => runs_vbatRelease h2,
   fun _ h1 => runs_cel _ rfl h1,
   fun _ h1 => runs_cel _ rfl h1,
   fun _ _ => runs_any _ rfl,
   fun _ _ _ h1 h2 h3 h4 h5 h6 => runs_systemResetRelease h1 h2 h3 h4 h5 h6,
   -- the boot, the banks and the watchdog
   fun _ h1 h2 h3 => runs_boot h1 h2 h3,
   fun _ _ h1 => runs_sys _ rfl h1,
   fun _ _ h1 => runs_sys _ rfl h1,
   fun _ h1 h2 => runs_trialTimeout h1 h2,
   fun _ _ _ h1 => runs_sys _ rfl h1,
   fun _ _ h1 => runs_sys _ rfl h1,
   fun _ h1 => runs_sys _ rfl h1,
   -- monitors and spares
   fun _ _ h1 => runs_sys _ rfl h1,
   fun _ _ _ h1 => runs_sys _ rfl h1,
   fun _ _ h1 => runs_sys _ rfl h1,
   fun _ _ _ h1 => runs_sys _ rfl h1,
   fun _ _ _ _ h1 => runs_sys _ rfl h1,
   fun _ _ _ h1 => runs_sys _ rfl h1,
   fun _ _ _ h1 => runs_sys _ rfl h1,
   fun _ _ _ h1 => runs_sys _ rfl h1,
   fun _ _ _ h1 => runs_sys _ rfl h1,
   -- power domains and sleep
   fun _ _ _ h1 => runs_sys _ rfl h1,
   fun _ _ _ h1 => runs_sys _ rfl h1,
   fun _ _ _ h1 => runs_sys _ rfl h1,
   fun _ _ h1 h2 => runs_drainEnd h1 h2,
   fun _ _ h1 => runs_sys _ rfl h1,
   fun _ h1 h2 => runs_wakePin h1 h2,
   fun _ _ h1 h2 h3 h4 h5 => runs_wakeTimerExpiry_of_get h1 h2 h3 h4 h5,
   fun _ _ _ h1 => runs_cel _ rfl h1,
   fun _ h1 h2 h3 => runs_wake h1 h2 h3,
   fun _ _ h1 => runs_cel _ rfl h1,
   fun _ _ h1 => runs_cel _ rfl h1,
   fun _ _ h1 => runs_sys _ rfl h1,
   -- test access and debug
   fun _ _ => runs_any _ rfl,
   fun _ _ => runs_any _ rfl,
   fun _ _ => runs_any _ rfl,
   fun _ _ => runs_any _ rfl,
   fun _ _ => runs_any _ rfl,
   fun _ _ => runs_any _ rfl,
   fun _ _ => runs_any _ rfl,
   fun _ _ => runs_any _ rfl,
   fun _ _ h2 => runs_dtmcs h2,
   fun _ _ h2 => runs_congr (runs_any _ (show execDtmcs _ = _ from rfl)) (if_pos h2),
   fun _ _ => runs_any _ rfl,
   fun _ _ => runs_any _ rfl,
   fun _ _ h1 => runs_sys _ rfl h1,
   fun _ _ h1 => runs_sys _ rfl h1,
   fun _ _ h1 => runs_sys _ rfl h1,
   fun _ _ _ h1 => runs_sys _ rfl h1,
   fun _ _ h1 => runs_sys _ rfl h1,
   fun _ _ _ _ h1 => runs_sys _ rfl h1,
   fun _ _ h1 => runs_sys _ rfl h1,
   -- releases and ends of the inputs above
   fun _ _ _ _ => runs_any _ rfl,
   fun _ _ => runs_any _ rfl,
   fun _ _ _ h2 => runs_inhibitInputRelease h2,
   fun _ _ _ => runs_any _ rfl,
   fun _ _ _ _ h2 => runs_freshExpiry h2,
   fun _ _ _ _ _ => runs_any _ rfl,
   fun _ _ _ _ h2 h3 h4 => runs_boostFault_high h2 h3 h4⟩

end Sys2Proof.Machine

/-! PROOFS. Every command of the core domain answers a next state (O59). -/

namespace Sys2Proof.Machine

/-! ### A command whose operation is said under a condition -/

theorem runs_core_if {c : Instr} {s : State} {p : Dev → Prop} [∀ d, Decidable (p d)] {f g : Dev → Dev}
    (hx : exec c s = s.run fun d => if p d then f d else g d) (hs : s.coreRuns) (h : p s.dev) : Runs c s f :=
  runs_congr (runs_core _ hx hs) (if_pos h)

theorem runs_core_unless {c : Instr} {s : State} {p : Dev → Prop} [∀ d, Decidable (p d)] {f g : Dev → Dev}
    (hx : exec c s = s.run fun d => if p d then f d else g d) (hs : s.coreRuns) (h : ¬ p s.dev) : Runs c s g :=
  runs_congr (runs_core _ hx hs) (if_neg h)

/-- An access of the host interface while its power domain is up and PERST# released. -/
theorem runs_hifReach {c : Instr} {s : State} {req : Nat} {f : Dev → Dev} (hx : exec c s = s.run fun d => d.hifReach req f) (hs : s.coreRuns)
    (hu : s.dev.domUp 6 = true) (hp : s.dev.rst.perst = false) : Runs c s f :=
  runs_congr (runs_core _ hx hs) (Dev.hifReach_up req f hu hp)

/-! ### Commands whose clause is wider than the one settled with their unit -/

theorem runs_complementWordWrite {s : State} {req : Fin 10} {off data c a b : Nat} (hs : s.busRuns req) (hp : placeOf (off % 2 ^ 25) = .reg c)
    (hr : s.busDev.inReset c = false) (h4 : off % 4 = 0) (ho : s.busDev.isOff c = false) (hf : fltBlk c = none) (hv : corkBlk c = none)
    (ha : corkOf c = some a) (hb : corkBlk a = some b) :
    Runs (.complementWordWrite req off data) s fun d => d.rakCatch.corkCompl b a req (data % 2 ^ 32) := by
  have hplace : corkPlace off true = true := by simp only [corkPlace, hp, ha]; rfl
  refine runs_congr (runs_bus _ (show execComplementWordWrite req off data s = _ from rfl) hs)
    ((if_pos hplace).trans ((Dev.access_write hp h4 ho hr).trans ?_))
  simp only [Dev.regWrite, hf, hv, ha, hb, Option.getD_some, State.busDev, State.start]

theorem runs_toothRecord_of_kind {s : State} {k : Fin 16} {r : ToothRec} {q : List ToothRec} {kind : Nat} (hs : s.coreRuns)
    (hq : (s.dev.tk k).recs = r :: q) (hk : kind = recKindCode r.kind)
    (hf : ((s.dev.setTk k { s.dev.tk k with recs := q }).mirTooth k kind r.rev r.dchg r.span
      (((s.dev.setTk k { s.dev.tk k with recs := q }).geo k).pos r.bnd) r.lin r.stamp).follows k = false) :
    Runs (.toothRecord k) s fun d =>
      let x := d.setTk k { d.tk k with recs := q }
      let y := x.mirTooth k kind r.rev r.dchg r.span ((x.geo k).pos r.bnd) r.lin r.stamp
      (y.ownFirst k r).1.record k (y.ownFirst k r).2 := by
  subst hk
  exact runs_congr (runs_toothRecord hs hq rfl rfl hf) (by simp only [State.start])

/-- The off-state test is due when no pulse of the channel is owned, or after its cycles (R317). -/
theorem runs_offtCommand_due {s : State} {ch : Fin 512} {lim : Nat} (hs : s.coreRuns) (hl : s.dev.get (F.CDT_CH_CFG_OFFT_CYC ch) = lim) (h0 : lim ≠ 0)
    (h : cntOf s.dev.sch.owner ch = 0 ∨ lim ≤ (s.dev.cc ch).cyc) : Runs (.offtCommand ch) s fun d =>
      (d.setCc ch { d.cc ch with cyc := 0 }).sendRegwr (tileOfCh ch) 0x105 (2 ^ (ch.val % 8)) := by
  refine runs_congr (runs_core _ (show execOfftCommand ch s = _ from rfl) hs) (if_neg ?_)
  rcases h with h | h
  · simp [State.start, hl, h0, h]
  · simp [State.start, hl, h0, Nat.not_lt.2 h]

theorem Dev.helloWords_eq {d : Dev} {ask : Bool} {rel : Word} (ha : ask = (d.mirState == 4 && d.mir.held && !d.allApplied))
    (hr : rel = (if d.flag F.MGS_STAT_BANK then d.rd R.MGS_FWREL_B else d.rd R.MGS_FWREL_A)) :
    d.helloWords = [2 ^ 24 + d.mirState * 2 ^ 21 + d.get F.MIR_CTL_PREF * 2 ^ 20 + b2n ask * 2 ^ 19 + d.dver, rel.toNat,
      (d.rd R.SYS_VINTAGE).toNat, Config.devSerial % 2 ^ 32, Config.devSerial / 2 ^ 32 % 2 ^ 32] := by
  rw [ha, hr, Dev.helloWords]

theorem runs_helloPeriod_words {s : State} {ask : Bool} {rel : Word} (hs : s.coreRuns) (h : s.dev.mirState ≠ 0)
    (ha : ask = (s.dev.mirState == 4 && s.dev.mir.held && !s.dev.allApplied))
    (hr : rel = (if s.dev.flag F.MGS_STAT_BANK then s.dev.rd R.MGS_FWREL_B else s.dev.rd R.MGS_FWREL_A)) :
    Runs .helloPeriod s fun d => d.mirSend 1 [2 ^ 24 + d.mirState * 2 ^ 21 + d.get F.MIR_CTL_PREF * 2 ^ 20 + b2n ask * 2 ^ 19 + d.dver,
      rel.toNat, (d.rd R.SYS_VINTAGE).toNat, Config.devSerial % 2 ^ 32, Config.devSerial / 2 ^ 32 % 2 ^ 32] :=
  runs_congr (runs_helloPeriod hs h) (congrArg (s.dev.mirSend 1) (Dev.helloWords_eq ha hr))

theorem runs_takeoverAt_of_eq {s : State} {give : Bool} {tat : Nat} {x : Dev} (hs : s.coreRuns) (h : s.dev.mir.tk = some (some give, tat))
    (hx : s.dev.tookOver tat = x) : Runs .takeoverAt s fun _ => x.changesRole give :=
  runs_congr (runs_takeoverAt hs h) (congrArg (Dev.changesRole · give) hx)

theorem runs_mirRxLaneLock_gained_of_eq {s : State} {lane : Fin 2} {f : Fld} (hs : s.coreRuns) (hf : f = laneLock lane) (h : s.dev.flag f = false) :
    Runs (.mirRxLaneLock lane true) s fun d =>
      let x := d.putB f true
      if x.flag F.MIR_STAT_LOCK0 && x.flag F.MIR_STAT_LOCK1 then x.causeOff 22 7 0 else x := by
  subst hf
  exact runs_mirRxLaneLock_gained hs h

theorem runs_mirRxLaneLock_lost_of_eq {s : State} {lane : Fin 2} {f : Fld} (hs : s.coreRuns) (hf : f = laneLock lane) (h : s.dev.flag f = true) :
    Runs (.mirRxLaneLock lane false) s fun d => ((d.putB f false).incSat F.MIR_CNT2_LANEF).causeOn 22 7 0 1 := by
  subst hf
  exact runs_mirRxLaneLock_lost hs h

theorem runs_pcieLinkUp_of_width {s : State} {speed : Fin 4} {width : Nat} (hs : s.coreRuns) (hd : s.dev.domState 6 = 2) (hp : s.dev.rst.perst = false)
    (h0 : speed.val ≠ 0) (hw : width = 1 ∨ width = 2 ∨ width = 4) :
    Runs (.pcieLinkUp speed width) s fun d => ((d.linkTrained speed width).causeOff 14 0 0).msixSweep :=
  runs_core_if (show execPcieLinkUp speed width s = _ from rfl) hs ⟨hd, by rw [hp]; rfl, h0, hw⟩

theorem runs_functionLevelReset {s : State} (hs : s.coreRuns) (h : s.dev.cfgUp = true) : Runs .functionLevelReset s fun d => d.pcieClear :=
  runs_core_if (show execFunctionLevelReset s = _ from rfl) hs h

theorem runs_adcCntClr {s : State} {req : Fin 10} {mask : Nat} (hs : s.coreRuns) (hu : s.dev.domUp 5 = true) :
    Runs (.adcCntClr req mask) s fun d => d.adcCntClr mask :=
  runs_core_if (show execAdcCntClr req mask s = _ from rfl) hs hu

theorem runs_ampErr {s : State} {m : Fin 8} (hs : s.coreRuns) (hm : s.dev.encMode m = 2) : Runs (.ampErr m) s fun d => d.encAmp m :=
  runs_core_if (show execAmpErr m s = _ from rfl) hs hm

theorem runs_encCountChange_held {s : State} {m : Fin 8} {a b i : Bool} {hold : Nat × Nat × Nat} {stamp : Nat} (hs : s.coreRuns)
    (hm : s.dev.encMode m = 1) : Runs (.encCountChange m (.quad a b i hold stamp)) s fun d =>
      let x := d.advance (stamp + d.get (F.ENC_CFG_FLT m))
      x.encQuad m (x.encLine m 0 a hold.1) (x.encLine m 1 b hold.2.1) (x.encLine m 2 i hold.2.2) stamp :=
  runs_core_if (show execEncCountChange m (.quad a b i hold stamp) s = _ from rfl) hs hm

theorem runs_encCountChange_sincos {s : State} {m : Fin 8} {sine cosine : Int} {stamp : Nat} (hs : s.coreRuns) (hm : s.dev.encMode m = 2) :
    Runs (.encCountChange m (.sincos sine cosine stamp)) s fun d => (d.advance stamp).encSample m sine cosine stamp :=
  runs_core_if (show execEncCountChange m (.sincos sine cosine stamp) s = _ from rfl) hs hm

theorem runs_encIndexEdge {s : State} {m : Fin 8} {ab : Nat} (hs : s.coreRuns) (hl : s.dev.get (F.ENC_STAT_LVL m) % 4 = ab)
    (hm : s.dev.encMode m ≠ 0) (hi : s.dev.flag (F.ENC_CFG_IDXEN m) = true) (hq : s.dev.encMode m = 1 → ab = s.dev.get (F.ENC_CFG_IDXAB m)) :
    Runs (.encIndexEdge m) s fun d => (d.put (F.ENC_STAT_LVL m) (ab + 4 * b2n (d.flag (F.ENC_CFG_IPOL m)))).encIdx m d.now := by
  subst hl
  refine runs_congr (runs_core _ (show execEncIndexEdge m s = _ from rfl) hs) (if_neg ?_)
  simpa [State.start, hm, hi] using hq

theorem runs_wire {s : State} {m : Fin 8} {pair : Fin 3} (hs : s.coreRuns)
    (hm : (s.dev.advance (s.dev.now + tickMicro * max 1 (s.dev.get (F.ENC_CFG_WTIME m)))).encMode m ≠ 0)
    (hf : (s.dev.advance (s.dev.now + tickMicro * max 1 (s.dev.get (F.ENC_CFG_WTIME m)))).flag (wireFld m pair) = false) :
    Runs (.wire m pair) s fun d0 =>
      let d := d0.advance (d0.now + tickMicro * max 1 (d0.get (F.ENC_CFG_WTIME m)))
      (((d.put (wireFld m pair) 1).incSat (F.ENC_ECNT_WIRE m)).causeOn 5 0 m 2).encError m :=
  runs_core_unless (show execWire m pair s = _ from rfl) hs (by simp [hm, hf])

theorem runs_tmrMatch {s : State} {n : Fin 32} {x : Dev} (hs : s.coreRuns) (h : s.dev.tmrSeek n (2 ^ 64) = some x) :
    Runs (.tmrMatch n) s fun _ => x :=
  runs_congr (runs_core _ (show execTmrMatch n s = _ from rfl) hs) (congrArg (Option.getD · s.dev) h)

theorem runs_gpioEdge_ball {s : State} {pin : Fin 64} {level : Bool} (hs : s.coreRuns) (ho : s.dev.abit (R.SYS_GPIO_OE 0) pin = false) :
    Runs (.gpioEdge pin level) s fun d => d.gpioBall pin level :=
  runs_core_unless (show execGpioEdge pin level s = _ from rfl) hs (ne_true_of_eq_false ho)

theorem runs_icuCoalesceTimeout_of_get {s : State} {src : Fin 1024} {t : Nat} {c : Nat × Nat} (hs : s.coreRuns)
    (ht : s.dev.get (F.ICU_SRC_COALT src) = t) (hc : smGet s.dev.icu.coal (0, 0) src = c) (h0 : t ≠ 0) (h1 : c.1 ≠ 0) :
    Runs (.icuCoalesceTimeout src) s fun d => (d.until (c.2 + 400 * 2 ^ t)).icuSetPend src := by
  subst ht hc
  exact runs_congr (runs_icuCoalesceTimeout hs h0 h1) rfl

theorem runs_dbgacc {c : Instr} {s : State} {op off data : Nat} {f : Dev → Dev} (hx : exec c s = s.runBus 9 fun d => d.dbgacc op off data f)
    (hs : s.busRuns 9) : Runs c s fun d => d.rakCatch.dbgacc op off data f :=
  runs_bus (fun d => d.dbgacc op off data f) hx hs

/-- Settles O59, clause by clause: a command whose operation is said without a condition runs it (runs_core); the others by the lemma of
their command. -/
theorem coreDomainCommandsComplete : Obligations.core_domain_commands_complete :=
  ⟨fun _ _ _ _ _ h1 h2 h3 h4 h5 => runs_registerWrite_word h1 h2 h3 h4 h5,
   fun _ _ _ _ _ _ h1 h2 h3 h4 h5 h6 h7 => runs_registerWrite_wide h1 h2 h3 h4 h5 h6 h7,
   fun _ _ _ _ h1 h2 => runs_outspanAccess h1 h2,
   fun _ _ _ _ _ h1 h2 h3 h4 => runs_narrowAccess h1 h2 h3 h4,
   fun _ _ _ _ _ h1 h2 h3 h4 => runs_pwroffAccess h1 h2 h3 h4,
   fun _ _ _ _ _ _ h1 h2 h3 h4 => runs_apertureAccess_write h1 h2 h3 h4,
   fun _ _ _ _ _ _ h1 h2 h3 h4 => runs_apertureAccess_read h1 h2 h3 h4,
   fun _ _ _ _ h1 h2 h3 h4 h5 => runs_lowWordRead_word h1 h2 h3 h4 h5,
   fun _ _ _ _ _ h1 h2 h3 h4 h5 h6 h7 => runs_lowWordRead_wide h1 h2 h3 h4 h5 h6 h7,
   -- strobes, swaps and corks
   fun _ _ _ h1 h2 h3 h4 => runs_sysUpdStrobe h1 (Dev.strobe_all h2 h3 h4),
   fun _ _ _ h1 h2 h3 h4 => runs_sysUpdStrobe h1 (Dev.strobe_refused h2 h3 h4),
   fun _ _ _ _ _ h1 h2 h3 h4 h5 => runs_rwsShadowWrite h1 h2 h3 h4 h5,
   fun _ _ _ h1 h2 h3 => runs_trackerSwap h1 h2 h3,
   fun _ _ _ _ h1 h2 h3 => runs_updTimeout h1 h2 h3,
   fun _ _ h1 => runs_core _ rfl h1,
   fun _ _ _ _ _ _ h1 h2 h3 h4 h5 h6 h7 => runs_corkValueWrite h1 h2 h3 h4 h5 h6 h7,
   fun _ _ _ _ h1 h2 h3 => runs_corkTimeout h1 h2 h3,
   fun _ _ _ _ _ h1 h2 h3 h4 => runs_bitAliasWrite h1 h2 h3 h4,
   fun _ _ _ h1 h2 h3 h4 => runs_fltClose h1 h2 h3 h4,
   -- sensor inputs
   fun _ _ _ _ _ _ h1 => runs_core _ rfl h1,
   fun _ _ _ _ _ h1 => runs_core _ rfl h1,
   fun _ _ _ _ h1 => runs_core _ rfl h1,
   fun _ _ _ _ _ h1 => runs_core _ rfl h1,
   fun _ _ _ h1 => runs_core _ rfl h1,
   fun _ _ _ h1 => runs_core _ rfl h1,
   -- trackers
   fun _ _ _ _ h1 h2 h3 => runs_trkPrimaryEdge_width h1 h2 h3,
   fun _ _ _ _ h1 h2 h3 => runs_trkPrimaryEdge_quad h1 h2 h3,
   fun _ _ _ _ h1 h2 h3 h4 => runs_trkPrimaryEdge_forward h1 h2 h3 h4,
   fun _ _ _ h1 h2 h3 h4 h5 h6 h7 h8 h9 => runs_synthToothDeadline h1 h2 h3 h4 h5 h6 h7 h8 h9,
   fun _ _ _ _ _ h1 h2 => runs_pwidthDirection h1 h2,
   fun _ _ _ _ h1 h2 => runs_phaseEdge h1 h2,
   fun _ _ _ h1 h2 h3 => runs_phaseWindowMiss h1 h2 h3,
   fun _ _ _ h1 h2 h3 => runs_trkStall h1 h2 h3,
   fun _ _ _ h1 h2 h3 => runs_stopRecordWrite h1 h2 h3,
   fun _ _ _ h1 => runs_core _ rfl h1,
   fun _ _ _ h1 => runs_core _ rfl h1,
   fun _ _ _ h1 => runs_core _ rfl h1,
   fun _ _ _ _ _ h1 h2 h3 _ h5 => runs_toothRecord_of_kind h1 h2 h3 h5,
   -- prediction
   fun _ _ _ _ _ h1 h2 h3 => runs_eventFreeze h1 h2 h3,
   fun _ _ _ _ h1 => runs_core _ rfl h1,
   fun _ _ _ _ _ _ h1 => runs_core _ rfl h1,
   fun _ _ _ h1 => runs_core _ rfl h1,
   fun _ _ _ h1 => runs_core _ rfl h1,
   fun _ _ _ h1 => runs_core _ rfl h1,
   fun _ _ _ _ _ h1 => runs_core _ rfl h1,
   fun _ _ h1 => runs_core _ rfl h1,
   fun _ _ _ h1 => runs_core _ rfl h1,
   fun _ _ _ _ h1 => runs_core _ rfl h1,
   fun _ _ h1 => runs_core _ rfl h1,
   fun _ _ _ h1 => runs_core _ rfl h1,
   -- the scheduler
   fun _ _ _ _ _ _ h1 => runs_core _ rfl h1,
   fun _ _ h1 h2 => runs_rangePrepDone h1 h2,
   fun _ _ _ h1 => runs_core _ rfl h1,
   fun _ _ _ h1 => runs_core _ rfl h1,
   fun _ _ _ _ h1 => runs_core _ rfl h1,
   fun _ _ _ h1 => runs_core _ rfl h1,
   fun _ _ _ h1 => runs_core _ rfl h1,
   -- the Press
   fun _ _ _ _ _ _ h1 h2 => runs_pressDecision h1 h2,
   fun _ _ _ _ h1 => runs_core _ rfl h1,
   fun _ _ _ h1 => runs_core _ rfl h1,
   fun _ _ _ h1 => runs_core _ rfl h1,
   -- frames from tiles
   fun _ _ _ _ _ _ _ _ h1 h2 => runs_ack_unacked h1 h2,
   fun _ _ _ _ _ _ _ _ h1 h2 h3 h4 h5 => runs_echoRsp_more h1 h2 h3 h4 h5,
   fun _ _ _ _ _ _ _ _ _ h1 h2 h3 h4 h5 h6 => runs_echoRsp_last h1 h2 h3 h4 h5 h6,
   fun _ _ _ _ _ _ _ _ _ _ _ _ h1 h2 => runs_done_held h1 h2,
   fun _ _ _ _ _ _ _ _ _ _ _ h1 h2 => runs_done_none h1 h2,
   fun _ _ _ _ _ _ h1 h2 h3 => runs_status h1 h2 h3,
   fun _ _ _ _ _ _ _ h1 h2 h3 h4 => runs_diag_drive h1 h2 h3 h4,
   fun _ _ _ _ _ _ _ h1 h2 h3 h4 h5 => runs_diag_lease h1 h2 h3 h4 h5,
   fun _ _ _ _ _ _ _ _ _ _ _ _ _ h1 h2 h3 h4 h5 h6 => runs_ident_good h1 h2 h3 h4 h5 h6,
   fun _ _ _ _ _ _ _ _ _ _ _ _ _ h1 h2 h3 h4 => runs_ident_bad h1 h2 h3 h4,
   fun _ _ _ _ _ _ h1 h2 h3 h4 h5 => runs_regdata h1 h2 h3 h4 h5,
   fun _ _ _ _ _ _ _ _ _ h1 _ h3 => runs_wave h1 rfl h3,
   -- links
   fun _ _ _ _ _ h1 h2 h3 => runs_ackTimeout_again h1 h2 h3,
   fun _ _ _ _ _ h1 h2 h3 => runs_ackTimeout_lost h1 h2 h3,
   fun _ _ h1 h2 => runs_timePeriod h1 h2,
   fun _ _ _ h1 h2 h3 => runs_echoPeriod h1 h2 h3,
   fun _ _ _ h1 h2 => runs_identTimeout h1 h2,
   fun _ _ _ h1 => runs_core _ rfl h1,
   fun _ _ h1 h2 => runs_lockLost h1 h2,
   fun _ _ _ h1 h2 => runs_statusTimeout h1 h2,
   fun _ _ _ _ h1 => runs_core _ rfl h1,
   fun _ _ _ h1 h2 => runs_redisc h1 h2,
   fun _ _ _ _ h1 h2 => runs_swdn h1 h2,
   fun _ _ _ _ h1 h2 => runs_swup h1 h2,
   fun _ _ _ _ _ h1 => runs_autoSwap h1,
   fun _ _ _ _ h1 => runs_core _ rfl h1,
   fun _ _ _ _ h1 h2 => runs_workingLaneLoss h1 h2,
   fun _ _ _ _ h1 => runs_core _ rfl h1,
   fun _ _ _ h1 => runs_core _ rfl h1,
   fun _ _ _ h1 h2 => runs_tilDataRead h1 h2,
   fun _ _ _ _ h1 h2 => runs_tilDataWrite h1 h2,
   fun _ _ h1 h2 => runs_tilTimeout h1 h2,
   -- coil channels
   fun _ _ _ _ h1 => runs_core _ rfl h1,
   fun _ _ _ h1 h2 h3 h4 => runs_offtCommand_due h1 h2 h3 h4,
   fun _ _ _ _ h1 => runs_core _ rfl h1,
   fun _ _ _ _ h1 h2 => runs_closingDetect h1 h2,
   fun _ _ _ _ h1 h2 => runs_cresReadyClear h1 h2,
   fun _ _ _ h1 => runs_core _ rfl h1,
   fun _ h1 => runs_core _ rfl h1,
   fun _ _ _ h1 => runs_core _ rfl h1,
   fun _ _ _ _ h1 => runs_core _ rfl h1,
   fun _ _ _ h1 => runs_core _ rfl h1,
   fun _ _ h1 => runs_core _ rfl h1,
   -- the mirrored pair
   fun _ h1 => runs_core _ rfl h1,
   fun _ h1 h2 => runs_mtimeTimeout h1 h2,
   fun _ h1 => runs_core _ rfl h1,
   fun _ _ _ h1 h2 h3 h4 => runs_helloPeriod_words h1 h2 h3 h4,
   fun _ h1 h2 => runs_mtimePeriod h1 h2,
   fun _ h1 h2 => runs_mirEchoPeriod h1 h2,
   fun _ _ h1 h2 h3 => runs_mirHello h1 h2 h3,
   fun _ _ _ h1 h2 => runs_mirMtime h1 h2,
   fun _ _ _ _ h1 h2 => runs_mirEchoReq h1 h2,
   fun _ _ _ _ _ h1 h2 => runs_mirEchoRsp h1 h2,
   fun _ _ _ h1 h2 => runs_mirTooth h1 h2,
   fun _ _ _ h1 h2 => runs_mirDecide h1 h2,
   fun _ _ _ _ h1 h2 => runs_mirStrobe h1 h2,
   fun _ _ _ _ _ _ h1 h2 => runs_mirDigest h1 h2,
   fun _ _ _ _ _ _ _ h1 h2 => runs_mirSnap h1 h2,
   fun _ _ _ _ h1 h2 => runs_mirTake h1 h2,
   fun _ h1 h2 h3 => runs_timeDiv h1 h2 h3,
   fun _ h1 h2 h3 => runs_soloWaitExpiry h1 h2 h3,
   fun _ h1 h2 h3 => runs_alignHold h1 h2 h3,
   fun _ _ h1 => runs_core _ rfl h1,
   fun _ _ h1 => runs_core _ rfl h1,
   fun _ _ h1 => runs_core _ rfl h1,
   fun _ _ h1 => runs_core _ rfl h1,
   fun _ _ h1 => runs_core _ rfl h1,
   fun _ _ _ _ h1 h2 h3 => runs_takeoverAt_of_eq h1 h2 h3,
   fun _ _ h1 => runs_core _ rfl h1,
   -- doorbells and fetch
   fun _ _ _ _ h1 h2 h3 h4 h5 => runs_congr (runs_sqDoorbell h1 h2 h5) (Dev.sqDoor_in h3 h4),
   fun _ _ _ h1 h2 h3 h4 => runs_congr (runs_sqDoorbell h1 h2 h4) (Dev.sqDoor_out h3),
   fun _ _ _ _ h1 h2 h3 h4 h5 h6 => runs_congr (runs_cqDoorbell h1 h2 h5) (Dev.cqDoor_in h3 h4 h6),
   fun _ _ _ h1 h2 h3 h4 => runs_congr (runs_cqDoorbell h1 h2 h4) (Dev.cqDoor_out h3),
   fun _ _ _ h1 h2 h3 h4 h5 h6 => runs_congr (runs_streamRpDoorbell h1 h2 h5) (Dev.rpDoor_in h3 h4 h6),
   fun _ _ _ _ h1 h2 h3 h4 h5 h6 => runs_sqEntryFetch h1 h2 h3 h4 h5 h6,
   fun _ _ _ h1 h2 h3 => runs_fetchRetry h1 h2 h3,
   -- host opcodes
   fun s h _ _ h1 h2 => runs_op _ (show exec (.nop h) s = _ from rfl) h1 h2 rfl,
   fun s h _ _ h1 h2 => runs_op _ (show exec (.identify h) s = _ from rfl) h1 h2 rfl,
   fun s h off cnt _ _ h1 h2 => runs_op _ (show exec (.regRd h off cnt) s = _ from rfl) h1 h2 rfl,
   fun s h off cnt data _ _ h1 h2 => runs_op _ (show exec (.regWr h off cnt data) s = _ from rfl) h1 h2 rfl,
   fun s h off value _ _ h1 h2 => runs_op _ (show exec (.regCork h off value) s = _ from rfl) h1 h2 rfl,
   fun s h bank idx cnt data _ _ h1 h2 => runs_op _ (show exec (.descWr h bank idx cnt data) s = _ from rfl) h1 h2 rfl,
   fun s h bank idx cnt _ _ h1 h2 => runs_op _ (show exec (.descRd h bank idx cnt) s = _ from rfl) h1 h2 rfl,
   fun s h grp _ _ h1 h2 => runs_op _ (show exec (.strobe h grp) s = _ from rfl) h1 h2 rfl,
   fun s h image _ _ h1 h2 => runs_op _ (show exec (.imageLoad h image) s = _ from rfl) h1 h2 rfl,
   fun s h off last piece _ _ h1 h2 => runs_op _ (show exec (.fwStage h off last piece) s = _ from rfl) h1 h2 rfl,
   fun s h idx cnt _ _ h1 h2 => runs_op _ (show exec (.logRd h idx cnt) s = _ from rfl) h1 h2 rfl,
   fun s h mach dem post tag _ _ h1 h2 => runs_op _ (show exec (.demand h mach dem post tag) s = _ from rfl) h1 h2 rfl,
   fun s h k ang _ _ h1 h2 => runs_op _ (show exec (.predQ h k ang) s = _ from rfl) h1 h2 rfl,
   fun s h n p addr _ _ h1 h2 => runs_op _ (show exec (.tileRd h n p addr) s = _ from rfl) h1 h2 rfl,
   fun s h n p addr data _ _ h1 h2 => runs_op _ (show exec (.tileWr h n p addr data) s = _ from rfl) h1 h2 rfl,
   fun s h off data _ _ h1 h2 => runs_op _ (show exec (.memWr h off data) s = _ from rfl) h1 h2 rfl,
   fun s h off _ _ h1 h2 => runs_op _ (show exec (.memRd h off) s = _ from rfl) h1 h2 rfl,
   fun s h cores _ _ h1 h2 => runs_op _ (show exec (.acCtlHalt h cores) s = _ from rfl) h1 h2 rfl,
   fun s h cores addr _ _ h1 h2 => runs_op _ (show exec (.acCtlStart h cores addr) s = _ from rfl) h1 h2 rfl,
   fun s h cores _ _ h1 h2 => runs_op _ (show exec (.acCtlReset h cores) s = _ from rfl) h1 h2 rfl,
   fun s h sq base entries cq owner prio core win _ _ h1 h2 => runs_op _ (show exec (.createSq h sq base entries cq owner prio core win) s = _ from rfl) h1 h2 rfl,
   fun s h sq _ _ h1 h2 => runs_op _ (show exec (.deleteSq h sq) s = _ from rfl) h1 h2 rfl,
   fun s h cq base entries vec cthr ctime _ _ h1 h2 => runs_op _ (show exec (.createCq h cq base entries vec cthr ctime) s = _ from rfl) h1 h2 rfl,
   fun s h cq _ _ h1 h2 => runs_op _ (show exec (.deleteCq h cq) s = _ from rfl) h1 h2 rfl,
   fun s h off len data _ _ h1 h2 => runs_op _ (show exec (.bufPut h off len data) s = _ from rfl) h1 h2 rfl,
   -- completions and the PCIe link
   fun _ _ _ _ _ h1 h2 h3 h4 h5 => runs_completionWrite h1 h2 h3 h4 h5,
   fun _ _ _ h1 h2 h3 h4 => runs_cqCoalesceTimeout h1 h2 h3 h4,
   fun _ _ _ h1 h2 h3 => runs_cqStall h1 h2 h3,
   fun _ _ h1 => runs_core _ rfl h1,
   fun _ _ h1 => runs_core _ rfl h1,
   fun _ _ h1 h2 h3 h4 => runs_streamFlush h1 h2 h3 (List.isEmpty_eq_false_iff.mp h4),
   fun _ _ _ _ h1 h2 h3 => runs_hifReach rfl h1 h2 h3,
   fun _ _ h1 h2 h3 => runs_hifEnable h1 h2 h3,
   fun _ _ h1 h2 h3 => runs_hifDisable h1 h2 h3,
   fun _ h1 h2 => runs_functionLevelReset h1 h2,
   fun _ h1 h2 h3 => runs_linkDown h1 h2 h3,
   fun _ _ h1 h2 h3 => runs_hifReach rfl h1 h2 h3,
   -- the CAN ports
   fun _ _ _ _ _ _ h1 h2 h3 => runs_canCommandFrame h1 h2 h3,
   fun _ _ h1 h2 h3 => runs_canBusoff h1 h2 h3,
   fun _ _ h1 h2 => runs_canBusoffRecovery h1 h2,
   fun _ _ _ h1 h2 h3 => runs_canErrpass h1 h2 h3,
   fun _ _ _ h1 => runs_core _ rfl h1,
   -- the queue manager
   fun _ _ h1 => runs_core _ rfl h1,
   fun _ _ _ h1 => runs_core _ rfl h1,
   fun _ _ _ _ h1 => runs_core _ rfl h1,
   fun _ _ h1 => runs_core _ rfl h1,
   fun _ _ _ h1 => runs_core _ rfl h1,
   fun _ _ _ _ _ h1 => runs_core _ rfl h1,
   fun _ _ _ h1 => runs_core _ rfl h1,
   fun _ _ _ h1 => runs_core _ rfl h1,
   fun _ _ h1 => runs_core _ rfl h1,
   -- tooth log and converters
   fun _ _ _ h1 => runs_core _ rfl h1,
   fun _ _ h1 => runs_core _ rfl h1,
   fun _ _ _ h1 h2 => runs_swtrig h1 h2,
   fun _ _ h1 h2 => runs_adcSequenceStart h1 h2,
   fun _ _ _ h1 h2 h3 => runs_adcConversionDone h1 h2 h3,
   fun _ _ _ h1 => runs_core _ rfl h1,
   fun _ _ _ h1 h2 => runs_adcCntClr h1 h2,
   -- encoders
   fun _ _ _ _ _ _ _ h1 h2 => runs_encCountChange_held h1 h2,
   fun _ _ _ _ _ h1 h2 => runs_encCountChange_sincos h1 h2,
   fun _ _ h1 h2 => runs_ampErr h1 h2,
   fun _ _ _ h1 h2 h3 h4 h5 => runs_encIndexEdge h1 h2 h3 h4 h5,
   fun _ _ _ h1 h2 h3 => runs_wire h1 h2 h3,
   fun _ _ _ h1 => runs_core _ rfl h1,
   fun _ _ _ h1 => runs_core _ rfl h1,
   fun _ _ _ h1 => runs_core _ rfl h1,
   fun _ _ _ h1 => runs_core _ rfl h1,
   fun _ _ _ h1 => runs_core _ rfl h1,
   -- routing and timers
   fun _ _ h1 => runs_core _ rfl h1,
   fun _ _ h1 => runs_core _ rfl h1,
   fun _ _ _ h1 h2 => runs_tmrMatch h1 h2,
   fun _ _ _ _ h1 => runs_core _ rfl h1,
   fun _ _ _ _ h1 => runs_core _ rfl h1,
   fun _ _ _ _ h1 => runs_core _ rfl h1,
   fun _ _ _ _ h1 => runs_core _ rfl h1,
   fun _ _ _ _ h1 => runs_core _ rfl h1,
   fun _ _ h1 => runs_core _ rfl h1,
   fun _ _ h1 => runs_core _ rfl h1,
   fun _ _ _ h1 h2 => runs_gpioEdge_ball h1 h2,
   fun _ _ h1 => runs_core _ rfl h1,
   -- Racking
   fun _ _ h1 => runs_core _ rfl h1,
   fun _ _ _ h1 h2 h3 => runs_rakTransferStart h1 h2 h3,
   fun _ _ _ _ h1 h2 => runs_rakTransferEnd h1 h2,
   fun _ _ _ h1 h2 => runs_rakDisable h1 h2,
   fun _ _ _ h1 => runs_core _ rfl h1,
   -- the interrupt controller
   fun _ _ _ _ h1 h2 h3 h4 h5 => runs_icuCoalesceTimeout_of_get h1 h2 h3 h4 h5,
   fun _ _ _ _ h1 => runs_core _ rfl h1,
   fun _ _ _ _ h1 => runs_core _ rfl h1,
   fun _ _ _ h1 => runs_core _ rfl h1,
   fun _ _ _ _ h1 => runs_core _ rfl h1,
   fun _ _ h1 => runs_core _ rfl h1,
   fun _ _ _ h1 => runs_core _ rfl h1,
   fun _ _ h1 => runs_core _ rfl h1,
   -- test access
   fun _ _ h1 _ => runs_dbgacc rfl h1,
   fun _ _ _ h1 _ => runs_dbgacc rfl h1,
   fun _ _ _ h1 _ => runs_dbgacc rfl h1,
   -- the rest of the above
   fun _ _ _ _ _ _ _ h1 h2 h3 h4 h5 h6 h7 h8 h9 => runs_complementWordWrite h1 h2 h3 h4 h5 h6 h7 h8 h9,
   fun _ _ h1 h2 => runs_hop0LockGained h1 h2,
   fun _ _ _ _ _ h1 h2 => runs_spareTrained h1 h2,
   fun _ _ _ h1 h2 h3 => runs_mirRxLaneLock_gained_of_eq h1 h2 h3,
   fun _ _ _ h1 h2 h3 => runs_mirRxLaneLock_lost_of_eq h1 h2 h3,
   fun _ _ _ h1 h2 h3 h4 h5 => runs_pcieLinkUp_of_width h1 h2 h3 h4 h5,
   fun _ _ _ h1 => runs_core _ rfl h1,
   fun _ _ h1 => runs_core _ rfl h1⟩

end Sys2Proof.Machine
